-- ==== Sys2Proof/Word.lean ====
section
/-! DEFINITION. The word types of the EMY-MS1: registers of the control space are 32 bits (R9), scalar registers 64 bits (R31),
tile SRAM and memory stacks are bytes (R28, R236). -/

namespace Sys2Proof

/-- One byte of a memory. -/
abbrev Byte := BitVec 8
/-- A control-space register (R9) and one vector lane (R63). -/
abbrev Word := BitVec 32
/-- A scalar register (R31). -/
abbrev DWord := BitVec 64
/-- A vector register, 64 bytes (R31). -/
abbrev VReg := BitVec 512
/-- An accumulator, 16 × 16 FP32 (R31): element (r, c) lies at bit 512 r + 32 c. -/
abbrev Acc := BitVec 8192

end Sys2Proof
end

