-- ==== Sys2Proof/Syntax.lean ====
section
/-! DEFINITION. The commands of the block: one constructor of `Instr` per row of spec/opcode_table.json, with its operands.
The tile instructions carry who issues them and the fields of R58; the other rows carry the unit they happen at and what the
outside supplies. -/

namespace Sys2Proof

/-- One position of a compute die's mesh (R14, R125): die, row, physical column. -/
structure TileId where
  die  : Fin 16
  row  : Fin 64
  pcol : Fin 50
deriving DecidableEq, Repr

/-- Who issues a tile instruction: the tile, its thread (0 bound, 1 to 3 loose) and the first cycle of the tick in which the
thread presents it; it issues in that cycle or the first later one that the interlocks of R44 allow. -/
structure Issue where
  tile   : TileId
  thread : Fin 4
  cycle  : Nat
deriving DecidableEq, Repr

/-- The fields of the instruction word below class and function (R58). -/
structure Fields where
  pneg : Bool
  pidx : BitVec 3
  dest : BitVec 6
  srca : BitVec 6
  srcb : BitVec 6
  imm  : Word
deriving DecidableEq, Repr

/-- What happens to a packet on one link and in the router behind it (R134, R153): bits turned over on the link, each as the flit (0 the head) and the bit (0
to 255 of the data, 256 + i for bit i of the sideband), none for a clean passage; a head out of range whose check bytes agree; or a failed parity check
inside the router. -/
inductive FlitEvent where
  | link (flips : List (Nat × Nat))
  | headRange
  | routerCheck
deriving DecidableEq, Repr

/-- The two copies of a pilot frame as they end at a receiver (R179, R180). -/
structure PilotCopies where
  first  : BitVec 128
  second : BitVec 128
deriving DecidableEq, Repr

/-- The remote operation descriptor of R273. -/
structure RemoteDesc where
  op      : BitVec 4
  target  : BitVec 12
  mpa     : BitVec 48
  from_   : BitVec 12
  die     : Fin 16
  row     : Fin 64
  col     : BitVec 6
  thread  : Fin 4
  tick    : BitVec 8
  status  : BitVec 2
  value   : DWord
  compare : DWord
  data    : VReg
deriving DecidableEq, Repr

/-- Where an MHP request came from (R296) and what its header says (R292). -/
structure MhpReq where
  port    : Fin 2
  addr    : Nat
  udp     : BitVec 16
  session : BitVec 16
  seq     : Word
deriving DecidableEq, Repr

/-- A cell of a fabric link (R263): header fields and payload. -/
structure Cell where
  dvc     : Bool
  kind    : BitVec 3
  seq     : BitVec 13
  ack     : BitVec 13
  off     : BitVec 5
  window  : BitVec 9
  tick    : BitVec 4
  payload : BitVec 1024
deriving DecidableEq, Repr

/-- What the FEC of a lane reports with a cell (R259, R260, R287): the lane, symbols it corrected, whether a codeword is uncorrectable. -/
structure FecReport where
  lane    : Fin 16
  symbols : Nat
  bad     : Bool
deriving DecidableEq, Repr

/-- Where a remote request or response stands (R274): the VL1 buffers of a fabric port, or the reserve of a compute port at the Hearth port of I/O die
2 or 3. -/
inductive RemotePlace where
  | link (port : Fin 6)
  | hearth (io : Fin 2) (src : Fin 16)
deriving DecidableEq, Repr

/-- A training cell (R261): the peer's coordinates and sizes less one (4 bits each), port and versions. -/
structure Training where
  coord   : BitVec 12
  sizes   : BitVec 12
  peer    : BitVec 3
  majors  : BitVec 16
  minor1  : BitVec 4
deriving DecidableEq, Repr

/-- Another reset source that fires together with a reset's own (R411, R413): its code, whether it asks for the same scope (else a narrower one), and its
detail under RST_LAST. -/
structure Firing where
  source : Fin 8
  same   : Bool
  detail : BitVec 16
deriving DecidableEq, Repr

/-- One reading of the housekeeping sequencer (R392): temperatures in 1/8 degree, powers in W, fades in 0.01 dB. -/
structure HkSample where
  temps   : List Int
  inputW  : Nat
  inputCv : Nat
  domsW   : List Nat
  railMv  : List Nat
  railDa  : List Nat
  fades   : List Int
deriving DecidableEq, Repr

/-- One direction of a lane measurement (R383): heater, level and threshold codes and the error-ratio exponent. -/
structure LaneMeas where
  heater : Int
  levels : BitVec 24
  thresh : BitVec 24
  serExp : Nat
deriving DecidableEq, Repr

/-- An access to the control space (R9, R316, R446): who, where, the width in bytes and, for a write, the value. -/
structure Access where
  master : Byte
  addr   : BitVec 40
  size   : Nat
deriving DecidableEq, Repr

/-- The blocks that hold an indirect address and data register (R452). -/
inductive TblBlock where
  | mesh (die : Fin 16)
  | hearth
  | ember
  | mem (stack : Fin 16)
  | cal
  | fab (io : Fin 2)
deriving DecidableEq, Repr

/-- The Ethernet head of a received frame (R289): bytes with the FCS, VLAN identifier of its tag, destination address (byte 0 highest). -/
structure FrameHead where
  len : Nat
  tag : Option (BitVec 12)
  mac : BitVec 48
deriving DecidableEq, Repr

/-- What a received frame carries (R290, R291): a UDP datagram by IP version, destination address, whether it is a fragment, and destination port; or
another Ethertype. -/
inductive Carried where
  | udp (v6 : Bool) (addr : Nat) (fragment : Bool) (port : BitVec 16)
  | ether (type : BitVec 16)
deriving DecidableEq, Repr

/-- A RoCEv2 packet's opcode (R306): a packet of an RDMA WRITE, or an opcode that the module does not accept. -/
inductive RdmaOp where
  | writeFirst
  | writeMiddle
  | writeLast
  | writeOnly
  | unsupported
deriving DecidableEq, Repr

/-- What heads a RoCEv2 request (R306, R308): the module's queue pair, packet sequence number, whether an acknowledgement is asked for, the mark of congestion,
and of the message its rkey, virtual address and length, which a middle or last packet of a WRITE does not carry. -/
structure RdmaHead where
  qpn  : BitVec 24
  psn  : BitVec 24
  ack  : Bool
  ce   : Bool
  rkey : Word
  va   : DWord
  len  : Word
deriving DecidableEq, Repr

/-- What PFC_PAUSE reports (R289, R309): a pause or its end received on a priority, or how many bytes the port's receive buffer holds. -/
inductive PfcEvent where
  | received (prio : Fin 8) (on : Bool)
  | buffer (bytes : Nat)
deriving DecidableEq, Repr

/-- What an Announce message says of its master, in the order in which the dataset comparison looks (R313; IEEE 1588): priority 1, clock class, accuracy,
variance, priority 2, grandmaster identity, steps removed. -/
structure PtpDataset where
  priority1 : Byte
  class_    : Byte
  accuracy  : Byte
  variance  : BitVec 16
  priority2 : Byte
  grand     : BitVec 64
  steps     : BitVec 16
deriving DecidableEq, Repr

/-- The head of a PTP message: domain, port identity of its sender, sequence number, log of the message interval. -/
structure PtpHead where
  domain   : Byte
  sender   : BitVec 80
  seq      : BitVec 16
  interval : Int
deriving DecidableEq, Repr

/-- The PTP messages that reach the module (R313); times in ns with their corrections added. -/
inductive PtpMsg where
  | announce (d : PtpDataset)
  | sync (twoStep : Bool)
  | followUp (t1 : Nat)
  | delayResp (t4 : Nat)
  | ignored
deriving DecidableEq, Repr

/-- The commands of the block, one constructor per row of spec/opcode_table.json, in its order. -/
inductive Instr where
  /-- ADD (R64). -/
  | add (u : Issue) (f : Fields)
  /-- SUB (R64). -/
  | sub (u : Issue) (f : Fields)
  /-- AND (R64). -/
  | and (u : Issue) (f : Fields)
  /-- OR (R64). -/
  | or (u : Issue) (f : Fields)
  /-- XOR (R64). -/
  | xor (u : Issue) (f : Fields)
  /-- SLL (R64). -/
  | sll (u : Issue) (f : Fields)
  /-- SRL (R64). -/
  | srl (u : Issue) (f : Fields)
  /-- SRA (R64). -/
  | sra (u : Issue) (f : Fields)
  /-- MUL (R64). -/
  | mul (u : Issue) (f : Fields)
  /-- MULHU (R64). -/
  | mulhu (u : Issue) (f : Fields)
  /-- MULHS (R64). -/
  | mulhs (u : Issue) (f : Fields)
  /-- MIN (R64). -/
  | min (u : Issue) (f : Fields)
  /-- MAX (R64). -/
  | max (u : Issue) (f : Fields)
  /-- MINU (R64). -/
  | minu (u : Issue) (f : Fields)
  /-- MAXU (R64). -/
  | maxu (u : Issue) (f : Fields)
  /-- SEL (R64). -/
  | sel (u : Issue) (f : Fields)
  /-- ADDI (R64). -/
  | addi (u : Issue) (f : Fields)
  /-- ANDI (R64). -/
  | andi (u : Issue) (f : Fields)
  /-- ORI (R64). -/
  | ori (u : Issue) (f : Fields)
  /-- XORI (R64). -/
  | xori (u : Issue) (f : Fields)
  /-- SLLI (R64). -/
  | slli (u : Issue) (f : Fields)
  /-- SRLI (R64). -/
  | srli (u : Issue) (f : Fields)
  /-- SRAI (R64). -/
  | srai (u : Issue) (f : Fields)
  /-- MULI (R64). -/
  | muli (u : Issue) (f : Fields)
  /-- MOVHI (R64). -/
  | movhi (u : Issue) (f : Fields)
  /-- CMPEQ (R64). -/
  | cmpeq (u : Issue) (f : Fields)
  /-- CMPLT (R64). -/
  | cmplt (u : Issue) (f : Fields)
  /-- CMPLTU (R64). -/
  | cmpltu (u : Issue) (f : Fields)
  /-- CMPEQI (R64). -/
  | cmpeqi (u : Issue) (f : Fields)
  /-- CMPLTI (R64). -/
  | cmplti (u : Issue) (f : Fields)
  /-- CMPLTUI (R64). -/
  | cmpltui (u : Issue) (f : Fields)
  /-- PAND (R64). -/
  | pand (u : Issue) (f : Fields)
  /-- POR (R64). -/
  | por (u : Issue) (f : Fields)
  /-- PXOR (R64). -/
  | pxor (u : Issue) (f : Fields)
  /-- PANDN (R64). -/
  | pandn (u : Issue) (f : Fields)
  /-- LDB (R67). -/
  | ldb (u : Issue) (f : Fields)
  /-- LDH (R67). -/
  | ldh (u : Issue) (f : Fields)
  /-- LDW (R67). -/
  | ldw (u : Issue) (f : Fields)
  /-- LDD (R67). -/
  | ldd (u : Issue) (f : Fields)
  /-- LDBS (R67). -/
  | ldbs (u : Issue) (f : Fields)
  /-- LDHS (R67). -/
  | ldhs (u : Issue) (f : Fields)
  /-- LDWS (R67). -/
  | ldws (u : Issue) (f : Fields)
  /-- STB (R67). -/
  | stb (u : Issue) (f : Fields)
  /-- STH (R67). -/
  | sth (u : Issue) (f : Fields)
  /-- STW (R67). -/
  | stw (u : Issue) (f : Fields)
  /-- STD (R67). -/
  | std (u : Issue) (f : Fields)
  /-- VLD (R67). -/
  | vld (u : Issue) (f : Fields)
  /-- VST (R67). -/
  | vst (u : Issue) (f : Fields)
  /-- BR (R69). -/
  | br (u : Issue) (f : Fields)
  /-- BRR (R69). -/
  | brr (u : Issue) (f : Fields)
  /-- CALL (R69). -/
  | call (u : Issue) (f : Fields)
  /-- LOOP (R69). -/
  | loop (u : Issue) (f : Fields)
  /-- LOOPR (R69). -/
  | loopr (u : Issue) (f : Fields)
  /-- LPOP (R69). -/
  | lpop (u : Issue) (f : Fields)
  /-- VADD (R71). -/
  | vadd (u : Issue) (f : Fields)
  /-- VSUB (R71). -/
  | vsub (u : Issue) (f : Fields)
  /-- VMUL (R71). -/
  | vmul (u : Issue) (f : Fields)
  /-- VFMA (R71). -/
  | vfma (u : Issue) (f : Fields)
  /-- VMIN (R71). -/
  | vmin (u : Issue) (f : Fields)
  /-- VMAX (R71). -/
  | vmax (u : Issue) (f : Fields)
  /-- VFCMPLT (R71). -/
  | vfcmplt (u : Issue) (f : Fields)
  /-- VFCMPEQ (R71). -/
  | vfcmpeq (u : Issue) (f : Fields)
  /-- VIADD (R71). -/
  | viadd (u : Issue) (f : Fields)
  /-- VISUB (R71). -/
  | visub (u : Issue) (f : Fields)
  /-- VAND (R71). -/
  | vand (u : Issue) (f : Fields)
  /-- VOR (R71). -/
  | vor (u : Issue) (f : Fields)
  /-- VXOR (R71). -/
  | vxor (u : Issue) (f : Fields)
  /-- VSHLI (R71). -/
  | vshli (u : Issue) (f : Fields)
  /-- VSHRI (R71). -/
  | vshri (u : Issue) (f : Fields)
  /-- VBLEND (R71). -/
  | vblend (u : Issue) (f : Fields)
  /-- VPERM (R71). -/
  | vperm (u : Issue) (f : Fields)
  /-- VBCAST (R71). -/
  | vbcast (u : Issue) (f : Fields)
  /-- VGET (R71). -/
  | vget (u : Issue) (f : Fields)
  /-- VSET (R71). -/
  | vset (u : Issue) (f : Fields)
  /-- VANY (R71). -/
  | vany (u : Issue) (f : Fields)
  /-- VICMPLT (R71). -/
  | vicmplt (u : Issue) (f : Fields)
  /-- VCVT_BF16 (R107). -/
  | vcvtBf16 (u : Issue) (f : Fields)
  /-- VCVT_FP16 (R107). -/
  | vcvtFp16 (u : Issue) (f : Fields)
  /-- VEXT_BF16 (R107). -/
  | vextBf16 (u : Issue) (f : Fields)
  /-- VEXT_FP16 (R107). -/
  | vextFp16 (u : Issue) (f : Fields)
  /-- VPACK_MXF8 (R108). -/
  | vpackMxf8 (u : Issue) (f : Fields)
  /-- VPACK_MXF6 (R108). -/
  | vpackMxf6 (u : Issue) (f : Fields)
  /-- VPACK_MXF4 (R108). -/
  | vpackMxf4 (u : Issue) (f : Fields)
  /-- VPACK_MXI8 (R108). -/
  | vpackMxi8 (u : Issue) (f : Fields)
  /-- VUNPK_MXF8 (R110). -/
  | vunpkMxf8 (u : Issue) (f : Fields)
  /-- VUNPK_MXF6 (R110). -/
  | vunpkMxf6 (u : Issue) (f : Fields)
  /-- VUNPK_MXF4 (R110). -/
  | vunpkMxf4 (u : Issue) (f : Fields)
  /-- VUNPK_MXI8 (R110). -/
  | vunpkMxi8 (u : Issue) (f : Fields)
  /-- VRCP (R113). -/
  | vrcp (u : Issue) (f : Fields)
  /-- VRSQ (R113). -/
  | vrsq (u : Issue) (f : Fields)
  /-- VEXP2 (R113). -/
  | vexp2 (u : Issue) (f : Fields)
  /-- VLOG2 (R113). -/
  | vlog2 (u : Issue) (f : Fields)
  /-- VSUM (R71). -/
  | vsum (u : Issue) (f : Fields)
  /-- VRMAX (R71). -/
  | vrmax (u : Issue) (f : Fields)
  /-- MOP_BF16 (R115). -/
  | mopBf16 (u : Issue) (f : Fields)
  /-- MOP_FP16 (R115). -/
  | mopFp16 (u : Issue) (f : Fields)
  /-- MOP_MXI8 (R114). -/
  | mopMxi8 (u : Issue) (f : Fields)
  /-- MOP_MXF8 (R114). -/
  | mopMxf8 (u : Issue) (f : Fields)
  /-- MOP_MXF6 (R114). -/
  | mopMxf6 (u : Issue) (f : Fields)
  /-- MOP_MXF4 (R114). -/
  | mopMxf4 (u : Issue) (f : Fields)
  /-- MOP_ARRAY_DONE (R42). -/
  | mopArrayDone (t : TileId)
  /-- AST (R77). -/
  | ast (u : Issue) (f : Fields)
  /-- ALD (R77). -/
  | ald (u : Issue) (f : Fields)
  /-- MZERO (R77). -/
  | mzero (u : Issue) (f : Fields)
  /-- AGET (R74). -/
  | aget (u : Issue) (f : Fields)
  /-- MSEND (R78). -/
  | msend (u : Issue) (f : Fields)
  /-- MWAIT (R83). -/
  | mwait (u : Issue) (f : Fields)
  /-- MTEST (R83). -/
  | mtest (u : Issue) (f : Fields)
  /-- MCNT (R83). -/
  | mcnt (u : Issue) (f : Fields)
  /-- MQUIET (R83). -/
  | mquiet (u : Issue) (f : Fields)
  /-- HSEND (R86). -/
  | hsend (u : Issue) (f : Fields)
  /-- HBCAST (R86). -/
  | hbcast (u : Issue) (f : Fields)
  /-- HGET (R86). -/
  | hget (u : Issue) (f : Fields)
  /-- ESEND (R89). -/
  | esend (u : Issue) (f : Fields)
  /-- HQUIET (R86). -/
  | hquiet (u : Issue) (f : Fields)
  /-- XLD_D (R91). -/
  | xldD (u : Issue) (f : Fields)
  /-- XLD_V (R91). -/
  | xldV (u : Issue) (f : Fields)
  /-- XST_D (R91). -/
  | xstD (u : Issue) (f : Fields)
  /-- XST_V (R91). -/
  | xstV (u : Issue) (f : Fields)
  /-- XADD (R91). -/
  | xadd (u : Issue) (f : Fields)
  /-- XFADD (R91). -/
  | xfadd (u : Issue) (f : Fields)
  /-- XSWAP (R91). -/
  | xswap (u : Issue) (f : Fields)
  /-- XCAS (R91). -/
  | xcas (u : Issue) (f : Fields)
  /-- AT (R94). -/
  | stampAt (u : Issue) (f : Fields)
  /-- STAMP_REACHED (R94). -/
  | stampReached (t : TileId)
  /-- SYNC (R95). -/
  | sync (u : Issue) (f : Fields)
  /-- TICKEND (R48). -/
  | tickend (u : Issue) (f : Fields)
  /-- SRD (R97). -/
  | srd (u : Issue) (f : Fields)
  /-- SWR (R97). -/
  | swr (u : Issue) (f : Fields)
  /-- STIME (R97). -/
  | stime (u : Issue) (f : Fields)
  /-- STICK (R97). -/
  | stick (u : Issue) (f : Fields)
  /-- CORE_CHECK (R50). -/
  | coreCheck (t : TileId)
  /-- SRAM_WRITE_BACK (R30). -/
  | sramWriteBack (t : TileId) (word : BitVec 17)
  /-- REMOTE_RESPONSE (R277). -/
  | remoteResponse (p : Fin 16) (io : Fin 2)
  /-- REMOTE_TIMEOUT (R278). -/
  | remoteTimeout (t : TileId) (thread : Fin 4)
  /-- SEND_INJECT (R80). -/
  | sendInject (t : TileId) (loose : Bool)
  /-- MESH_SLOT_WINDOW_OPEN (R138). -/
  | meshSlotWindowOpen (t : TileId) (cycle : Nat)
  /-- MESH_PACKET_ARRIVAL (R135). -/
  | meshPacketArrival (t : TileId) (k : Nat) (ev : FlitEvent)
  /-- REDUCE_PACKET_COMBINE (R142). -/
  | reducePacketCombine (t : TileId) (k : Nat) (ev : FlitEvent)
  /-- FORK_SLIP (R141). -/
  | forkSlip (t : TileId)
  /-- SYNC_TOKEN (R145). -/
  | syncToken (t : TileId) (g : Fin 16) (ev : FlitEvent)
  /-- SYNC_RELEASE (R145). -/
  | syncRelease (t : TileId) (g : Fin 16) (evs : List FlitEvent)
  /-- SYNC_FENCE (R151). -/
  | syncFence (die : Fin 16) (pauses : List Nat)
  /-- CROSSING_SLIP (R150). -/
  | crossingSlip (t : TileId) (cycles : Nat)
  /-- TICK_BEACON (R213). -/
  | tickBeacon
  /-- IDLE_BEACON (R213). -/
  | idleBeacon
  /-- FLYWHEEL_BEACON (R214). -/
  | flywheelBeacon
  /-- TICK_IN_EDGE (R214). -/
  | tickInEdge (offsetNs : Int)
  /-- GUARD_START (R218). -/
  | guardStart
  /-- LOCAL_VERDICT_FINAL (R336). -/
  | localVerdictFinal
  /-- VOTE_CLOSE (R335). -/
  | voteClose
  /-- VOTE_SEND (R282). -/
  | voteSend
  /-- VOTE_WAIT_EXPIRY (R337). -/
  | voteWaitExpiry
  /-- COMMIT_DECISION (R339). -/
  | commitDecision
  /-- DECISION_LOST (R338). -/
  | decisionLost
  /-- CORE_FENCE_PREPARE (R340). -/
  | coreFencePrepare (t : TileId)
  /-- SPARE_LOADING_END (R342). -/
  | spareLoadingEnd (die : Fin 16)
  /-- DIE_FAILURE (R343). -/
  | dieFailure (die : Fin 16)
  /-- TAKEOVER_END (R345). -/
  | takeoverEnd
  /-- JOB_TEARDOWN (R349). -/
  | jobTeardown
  /-- CHECKPOINT_SNAPSHOT_END (R352). -/
  | checkpointSnapshotEnd (stack : Fin 16) (ok : Bool)
  /-- PEER_CHECKPOINT_TRANSFER (R354). -/
  | peerCheckpointTransfer
  /-- HEALTH_REPORT (R356). -/
  | healthReport (bistPass : Word) (bistFail : BitVec 16) (lanesBad : BitVec 16)
  /-- YIELD (R358). -/
  | yield
  /-- STOKER_SNAPSHOT (R359). -/
  | stokerSnapshot
  /-- STOKER_FAILOVER (R360). -/
  | stokerFailover (failed : Bool)
  /-- STOKER_RETURN (R361). -/
  | stokerReturn
  /-- CRITICAL_PAIR_SWEEP (R453). -/
  | criticalPairSweep (base : BitVec 40) (bad : Option (BitVec 40))
  /-- HEARTH_WINDOW_OPEN (R171). -/
  | hearthWindowOpen (p : Fin 36) (g : Fin 38) (cycle : Nat)
  /-- HEARTH_BLOCK_RECEIVE (R163). -/
  | hearthBlockReceive (p : Fin 36) (k : Nat) (lane : BitVec 10) (noise : List (Nat × Byte))
  /-- BROADCAST_BLOCK_LANDING (R176). -/
  | broadcastBlockLanding (p : Fin 36) (pos : Fin 4) (evs : List FlitEvent)
  /-- READ_REQUEST (R168). -/
  | readRequest (stack : Fin 16) (src : Fin 36)
  /-- READ_RESPONSE_LANDING (R88). -/
  | readResponseLanding (p : Fin 36) (src : Fin 36) (evs : List FlitEvent)
  /-- MEMORY_WRITE (R244). -/
  | memoryWrite (stack : Fin 16) (src : Fin 36)
  /-- RESERVE_OFF (R174). -/
  | reserveOff (p : Fin 36) (src : Fin 36)
  /-- RESERVE_ON (R174). -/
  | reserveOn (p : Fin 36) (src : Fin 36)
  /-- OFF (R174). -/
  | offFrame (p : Fin 36) (x : PilotCopies) (cycle : Nat)
  /-- ON (R174). -/
  | onFrame (p : Fin 36) (x : PilotCopies) (cycle : Nat)
  /-- PILOT_TICK_BEACON (R181). -/
  | pilotTickBeacon (p : Fin 36) (x : PilotCopies)
  /-- PILOT_GUARD_START (R181). -/
  | pilotGuardStart (p : Fin 36) (x : PilotCopies)
  /-- FIRMWARE_WORD (R179). -/
  | firmwareWord (p : Fin 36) (laneB : Bool) (x : PilotCopies)
  /-- LANE_SET (R165). -/
  | laneSet (p : Fin 36) (x : PilotCopies)
  /-- ERROR_REPORT (R186). -/
  | errorReport (p : Fin 36) (x : PilotCopies)
  /-- PILOT_FRAME_LOST (R180). -/
  | pilotFrameLost (p : Fin 36) (laneB : Bool) (x : PilotCopies)
  /-- PILOT_COMPLEMENT_MISMATCH (R180). -/
  | pilotComplementMismatch (p : Fin 36) (laneB : Bool) (x : PilotCopies)
  /-- LANE_FAIL (R185). -/
  | laneFail (p : Fin 36) (lane : BitVec 10)
  /-- LANE_SWAP_TO_SPARE (R184). -/
  | laneSwapToSpare (a : Access) (v : Word)
  /-- LANE_SWAP_RETURN (R184). -/
  | laneSwapReturn (a : Access) (v : Word)
  /-- SUM_PACKET_QUEUE (R196). -/
  | sumPacketQueue (p : Fin 16) (k : Nat) (ev : FlitEvent)
  /-- SUM_ROUND_SEND (R197). -/
  | sumRoundSend (p : Fin 16) (packets : Nat)
  /-- SUM_ROUND_RECEIVE (R199). -/
  | sumRoundReceive (p : Fin 16) (entry : Fin 36) (preamble : List Int)
  /-- SUM_RESULT_DELIVERY (R200). -/
  | sumResultDelivery (p : Fin 16) (evs : List FlitEvent)
  /-- TONE_WINDOW (R203). -/
  | toneWindow (p : Fin 16) (det : Fin 36) (sender : Fin 16) (tone : BitVec 12) (gainErr : Int) (offsetErr : Int)
  /-- REFERENCE_LOST (R221). -/
  | referenceLost (detected : Bool) (edges : Bool)
  /-- REFERENCE_RETURNED (R222). -/
  | referenceReturned
  /-- TIME_STEP (R226). -/
  | timeStep (a : Access) (v : Word)
  /-- PTP_MESSAGE (R313). -/
  | ptpMessage (port : Fin 2) (h : FrameHead) (c : Carried) (p : PtpHead) (m : PtpMsg)
  /-- INPUT_DEADLINE (R249). -/
  | inputDeadline (stack : Fin 16) (ring : Fin 64)
  /-- PATROL_SCRUB (R236). -/
  | patrolScrub (stack : Fin 16) (line : Nat)
  /-- FABRIC_ATOMIC (R252). -/
  | fabricAtomic (stack : Fin 16)
  /-- TRAINING_CELL (R261). -/
  | trainingCell (port : Fin 6) (c : Training)
  /-- LINK_DOWN (R260). -/
  | linkDown (port : Fin 6) (reason : BitVec 3)
  /-- LINK_UP (R262). -/
  | linkUp (port : Fin 6)
  /-- FABRIC_CELL_RECEIVE (R264). -/
  | fabricCellReceive (port : Fin 6) (bits : BitVec 1088) (fec : List FecReport)
  /-- REPLAY_REQUEST (R264). -/
  | replayRequest (port : Fin 6) (ack : BitVec 13)
  /-- LINK_DELAY_MEASURE (R262). -/
  | linkDelayMeasure (port : Fin 6) (ps : Word) (stamp : BitVec 64)
  /-- SCHEDULED_WINDOW_START (R269). -/
  | scheduledWindowStart (port : Fin 6) (cycle : Nat)
  /-- SCHEDULED_CELL_RECEIVE (R270). -/
  | scheduledCellReceive (port : Fin 6)
  /-- REMOTE_REQUEST (R274). -/
  | remoteRequest (place : RemotePlace)
  /-- COMBINER_FLUSH (R275). -/
  | combinerFlush (path : Fin 7)
  /-- BEACON_FRAME (R280). -/
  | beaconFrame (port : Fin 6) (residencePs : Nat)
  /-- VOTE (R282). -/
  | vote (port : Fin 6)
  /-- DECISION (R282). -/
  | decision (port : Fin 6)
  /-- ECHO_REQUEST (R279). -/
  | echoRequest (port : Fin 6) (residencePs : BitVec 64)
  /-- ECHO_REPLY (R279). -/
  | echoReply (port : Fin 6) (arrival : BitVec 64)
  /-- LOSS (R302). -/
  | loss
  /-- MHP_DATAGRAM (R293). -/
  | mhpDatagram (port : Fin 2) (h : FrameHead) (c : Carried) (addr : Nat) (udp : BitVec 16) (bytes : List Byte) (peer : List (List Byte × List Byte))
  /-- HELLO (R294). -/
  | hello (r : MhpReq) (majors : BitVec 16) (minor1 : Byte) (role : Byte) (take : Bool)
  /-- BYE (R296). -/
  | bye (r : MhpReq)
  /-- KEEPALIVE (R298). -/
  | keepalive (r : MhpReq)
  /-- GET_STATUS (R298). -/
  | getStatus (r : MhpReq)
  /-- REG_READ (R299). -/
  | regRead (r : MhpReq) (addr : BitVec 64) (count : Word)
  /-- REG_WRITE (R299). -/
  | regWrite (r : MhpReq) (addr : BitVec 64) (words : List Word)
  /-- LOAD_JOB (R304). -/
  | loadJob (r : MhpReq) (normalLen : DWord) (degOff : DWord) (degLen : DWord)
  /-- UNLOAD_JOB (R298). -/
  | unloadJob (r : MhpReq)
  /-- START_JOB (R305). -/
  | startJob (r : MhpReq) (first : DWord) (restore : Bool) (peer : List (List Byte × List Byte))
  /-- STOP_JOB (R298). -/
  | stopJob (r : MhpReq)
  /-- DRAIN_END (R21). -/
  | drainEnd
  /-- TEARDOWN (R300). -/
  | teardown (r : MhpReq)
  /-- BANK (R406). -/
  | bank (r : MhpReq)
  /-- WAKE (R407). -/
  | wake (r : MhpReq)
  /-- WAKE_COMPLETE (R407). -/
  | wakeComplete
  /-- RESET (R298). -/
  | reset (r : MhpReq) (scope : Byte) (unit : Byte)
  /-- RST_REQ_WRITE (R428). -/
  | rstReqWrite (a : Access) (v : Word)
  /-- CONFIG_REVERT (R426). -/
  | configRevert (r : MhpReq)
  /-- MBX_SEND (R329). -/
  | mbxSend (r : MhpReq) (chan : Byte) (words : List Word)
  /-- MBX_RECV (R330). -/
  | mbxRecv (r : MhpReq) (chan : Byte)
  /-- OPEN_QP (R307). -/
  | openQp (r : MhpReq) (remoteQpn : Word) (remotePsn : Word) (mtu : Word) (gid : BitVec 128) (kind : Byte)
  /-- CLOSE_QP (R298). -/
  | closeQp (r : MhpReq) (qpn : Word)
  /-- SUBSCRIBE (R302). -/
  | subscribe (r : MhpReq) (mask : Word)
  /-- GET_QUOTE (R437). -/
  | getQuote (r : MhpReq) (nonce : BitVec 256)
  /-- SESSION_IDLE_TIMEOUT (R296). -/
  | sessionIdleTimeout (slot : Fin 16)
  /-- RDMA_WRITE (R308). -/
  | rdmaWrite (port : Fin 2) (h : FrameHead) (c : Carried) (op : RdmaOp) (x : RdmaHead) (data : List Byte)
  /-- RDMA_READ (R308). -/
  | rdmaRead (port : Fin 2) (h : FrameHead) (c : Carried) (x : RdmaHead)
  /-- CNP_RECEIVE (R309). -/
  | cnpReceive (port : Fin 2) (h : FrameHead) (c : Carried) (qpn : Word)
  /-- PFC_PAUSE (R309). -/
  | pfcPause (port : Fin 2) (x : PfcEvent)
  /-- ARP_REQUEST (R290). -/
  | arpRequest (port : Fin 2) (h : FrameHead) (v6 : Bool) (echo : Bool) (addr : Nat) (body : List Byte)
  /-- FRAME_DROP (R291). -/
  | frameDrop (port : Fin 2) (h : FrameHead) (c : Carried) (icrcBad : Bool)
  /-- MBX_IN_WR (R322). -/
  | mbxInWr (m : Byte) (c : Fin 32) (w : Word)
  /-- MBX_IN_RD (R323). -/
  | mbxInRd (m : Byte) (c : Fin 32)
  /-- MBX_IN_BELL (R325). -/
  | mbxInBell (m : Byte) (c : Fin 32) (w : Word)
  /-- MBX_OUT_WR (R322). -/
  | mbxOutWr (m : Byte) (c : Fin 32) (w : Word)
  /-- MBX_OUT_RD (R323). -/
  | mbxOutRd (m : Byte) (c : Fin 32)
  /-- MBX_OUT_BELL (R325). -/
  | mbxOutBell (m : Byte) (c : Fin 32) (w : Word)
  /-- MBX_ACK_WRITE (R324). -/
  | mbxAckWrite (m : Byte) (c : Fin 32) (out : Bool) (w : Word)
  /-- MBX_ACK_READ (R324). -/
  | mbxAckRead (m : Byte) (c : Fin 32) (out : Bool)
  /-- MBX_VER_WRITE (R328). -/
  | mbxVerWrite (m : Byte) (c : Fin 32) (w : Word)
  /-- MAILBOX_MESSAGE_EXPIRY (R322). -/
  | mailboxMessageExpiry (c : Fin 32) (out : Bool)
  /-- RWC_LOW_WRITE (R12). -/
  | rwcLowWrite (a : Access) (v : Word)
  /-- RWC_HIGH_WRITE (R12). -/
  | rwcHighWrite (a : Access) (v : Word)
  /-- RWC_PENDING_EXPIRY (R451). -/
  | rwcPendingExpiry (addr : BitVec 40)
  /-- LOCK_WRITE (R13). -/
  | lockWrite (a : Access) (v : Word)
  /-- TBL_ADDR_WRITE (R452). -/
  | tblAddrWrite (m : Byte) (b : TblBlock) (v : Word)
  /-- TBL_DATA_READ (R452). -/
  | tblDataRead (m : Byte) (b : TblBlock) (high : Bool)
  /-- MSH_SHADOW_READY (R148). -/
  | mshShadowReady (m : Byte) (die : Fin 16) (v : Word)
  /-- HRT_SHADOW_READY (R173). -/
  | hrtShadowReady (m : Byte) (v : Word)
  /-- TIME_LO_READ (R234). -/
  | timeLoRead (a : Access)
  /-- TCK_SRC_WRITE (R211). -/
  | tckSrcWrite (m : Byte) (v : Word)
  /-- TCK_PERIOD_WRITE (R213). -/
  | tckPeriodWrite (m : Byte) (v : Word)
  /-- PWR_BUDGET_WRITE (R404). -/
  | pwrBudgetWrite (m : Byte) (v : Word)
  /-- FAB_LOCK_WRITE (R258). -/
  | fabLockWrite (m : Byte) (io : Fin 2) (v : Word)
  /-- PORT_RETRAIN (R260). -/
  | portRetrain (m : Byte) (port : Fin 6) (v : Word)
  /-- GLV_EXT_DATA_WRITE (R441). -/
  | glvExtDataWrite (m : Byte) (w : Fin 8) (v : Word)
  /-- CFG_FLASH_DATA_WRITE (R427). -/
  | cfgFlashDataWrite (m : Byte) (v : Word)
  /-- REGISTER_WRITE (R11). -/
  | registerWrite (a : Access) (v : Word)
  /-- CONTROL_ACCESS_TIMEOUT (R448). -/
  | controlAccessTimeout (a : Access) (write : Option Word) (took : Bool)
  /-- RE_REFERENCE (R368). -/
  | reReference (m : Byte)
  /-- COMB_RETURN (R374). -/
  | combReturn (m : Byte) (bank : Fin 2) (pos : Fin 5)
  /-- SPARE_START (R369). -/
  | spareStart (m : Byte) (bank : Fin 2) (pos : Fin 5)
  /-- SPARE_HANDOVER (R370). -/
  | spareHandover (m : Byte) (bank : Fin 2) (pos : Fin 5)
  /-- SPARE_LOCK (R369). -/
  | spareLock (bank : Fin 2)
  /-- SPARE_LOCK_TIMEOUT (R369). -/
  | spareLockTimeout (bank : Fin 2)
  /-- HANDOVER_RAMP_END (R370). -/
  | handoverRampEnd (bank : Fin 2)
  /-- HEATER_LOOP_WINDOW (R379). -/
  | heaterLoopWindow (e : Fin 900) (error : BitVec 12) (move : Int)
  /-- LANE_CALIBRATION (R383). -/
  | laneCalibration (m : Byte) (v : Word)
  /-- SUM_DELAY_CALIBRATION (R385). -/
  | sumDelayCalibration (m : Byte) (v : Word)
  /-- LOCK_THRESHOLD_CALIBRATION (R385). -/
  | lockThresholdCalibration (m : Byte) (v : Word)
  /-- CALIBRATION_MEASUREMENT_END (R384). -/
  | calibrationMeasurementEnd (r : LaneMeas)
  /-- HOUSEKEEPING_ROUND (R392). -/
  | housekeepingRound (x : HkSample)
  /-- DAMPER_STAGE_CHANGE (R397). -/
  | damperStageChange (die : Fin 16)
  /-- COOL_SECOND (R400). -/
  | coolSecond
  /-- WEAR_SECOND (R405). -/
  | wearSecond
  /-- BROWN_OUT (R391). -/
  | brownOut (dom : Fin 80)
  /-- BANK_ENTRY_END (R406). -/
  | bankEntryEnd
  /-- COLD_RESET (R414). -/
  | coldReset (source : Fin 8) (detail : BitVec 16) (also : List Firing)
  /-- WARM_RESET (R414). -/
  | warmReset (source : Fin 8) (detail : BitVec 16) (also : List Firing)
  /-- DIE_RESET (R415). -/
  | dieReset (unit : Fin 36) (source : Fin 8) (detail : BitVec 16) (also : List Firing)
  /-- JOB_RESET (R416). -/
  | jobReset
  /-- RELEASE_STEP_END (R417). -/
  | releaseStepEnd (ok : Bool) (bistFails : List (Fin 16 × Fin 64 × Fin 50))
  /-- OPTION_LOAD (R423). -/
  | optionLoad
  /-- SET_SIGNATURE_VERIFY (R424). -/
  | setSignatureVerify
  /-- BOOT_LIMIT_EXPIRY (R425). -/
  | bootLimitExpiry (also : List Firing)
  /-- STOKER_WATCHDOG_EXPIRY (R411). -/
  | stokerWatchdogExpiry
  /-- ERASE_REGION (R427). -/
  | eraseRegion (m : Byte)
  /-- CHECK_REGION (R427). -/
  | checkRegion (m : Byte)
  /-- SELF_TESTS (R438). -/
  | selfTests (m : Byte)
  /-- OWNER_ROOT_RECORD (R434). -/
  | ownerRootRecord (m : Byte)
  /-- EXTEND_M3 (R436). -/
  | extendM3 (m : Byte)
  /-- TAMPER (R439). -/
  | tamper (cause : BitVec 4)
  /-- ENTROPY_HEALTH_FAIL (R438). -/
  | entropyHealthFail
  /-- INPUT_QUALIFIED (R464). -/
  | inputQualified
  /-- INPUT_LOST (R465). -/
  | inputLost
  /-- VBAK_APPLIED (R466). -/
  | vbakApplied
  /-- VBAK_LOST (R466). -/
  | vbakLost
  /-- MOD_RESET_N (R411). -/
  | modResetN (low : Bool)
  /-- I2C_READ (R469). -/
  | i2cRead (count : Nat)
  /-- I2C_OFFSET_WRITE (R469). -/
  | i2cOffsetWrite (off : Byte)
  /-- OPTIC_OVERPOWER (R474). -/
  | opticOverpower (port : Fin 2)
  /-- DROOP_STRETCH (R209). -/
  | droopStretch (die : Fin 16) (region : Fin 8) (quarters : Fin 3)
  /-- SYNC_INTERVAL_MISSED (R227). -/
  | syncIntervalMissed
  /-- HOST_LINK_DOWN (R314). -/
  | hostLinkDown (port : Fin 2)
  /-- HOST_LINK_UP (R314). -/
  | hostLinkUp (port : Fin 2)
  /-- LOAD_JOB_END (R304). -/
  | loadJobEnd
  /-- CFG_CMD_END (R427). -/
  | cfgCmdEnd (flashOk : Bool)
  /-- GLV_CMD_END (R438). -/
  | glvCmdEnd (testsPass : Bool)
  /-- QUOTE_SIGNED (R437). -/
  | quoteSigned
deriving DecidableEq, Repr

end Sys2Proof
end

