-- ==== Sys2Proof/Decode.lean ====
section
/-! DEFINITION. Decoding. The table gives no command any bits, so no table word spells a command (`decodeTableWord`). The tile
instruction word of R58 is decoded beside it: class and function of every tile instruction, its word, and the instruction a word
stands for. -/

namespace Sys2Proof

/-- The command that a word of `nbits` bits spells by the table's bits: spec/opcode_table.json gives no row any bits. -/
def decodeTableWord (_nbits _w : Nat) : Option Instr := none

/-- A row of the instruction tables: class, function and constructor (R59). -/
abbrev CodeRow := Nat × Nat × (Issue → Fields → Instr)

/-- The class and functions of R64. -/
def scalarCodes : List CodeRow :=
  [(0x0, 0x00, .add), (0x0, 0x01, .sub), (0x0, 0x02, .and), (0x0, 0x03, .or), (0x0, 0x04, .xor), (0x0, 0x05, .sll),
   (0x0, 0x06, .srl), (0x0, 0x07, .sra), (0x0, 0x08, .mul), (0x0, 0x09, .mulhu), (0x0, 0x0A, .mulhs), (0x0, 0x0B, .min),
   (0x0, 0x0C, .max), (0x0, 0x0D, .minu), (0x0, 0x0E, .maxu), (0x0, 0x0F, .sel), (0x0, 0x10, .addi), (0x0, 0x11, .andi),
   (0x0, 0x12, .ori), (0x0, 0x13, .xori), (0x0, 0x14, .slli), (0x0, 0x15, .srli), (0x0, 0x16, .srai), (0x0, 0x17, .muli),
   (0x0, 0x18, .movhi), (0x0, 0x20, .cmpeq), (0x0, 0x21, .cmplt), (0x0, 0x22, .cmpltu), (0x0, 0x23, .cmpeqi),
   (0x0, 0x24, .cmplti), (0x0, 0x25, .cmpltui), (0x0, 0x28, .pand), (0x0, 0x29, .por), (0x0, 0x2A, .pxor), (0x0, 0x2B, .pandn)]
/-- The class and functions of R67. -/
def scalarMemCodes : List CodeRow :=
  [(0x1, 0x00, .ldb), (0x1, 0x01, .ldh), (0x1, 0x02, .ldw), (0x1, 0x03, .ldd), (0x1, 0x04, .ldbs), (0x1, 0x05, .ldhs),
   (0x1, 0x06, .ldws), (0x1, 0x08, .stb), (0x1, 0x09, .sth), (0x1, 0x0A, .stw), (0x1, 0x0B, .std), (0x1, 0x10, .vld),
   (0x1, 0x11, .vst)]
/-- The class and functions of R69. -/
def controlCodes : List CodeRow :=
  [(0x2, 0x00, .br), (0x2, 0x01, .brr), (0x2, 0x02, .call), (0x2, 0x08, .loop), (0x2, 0x09, .loopr), (0x2, 0x0A, .lpop)]
/-- The class and functions of R71. -/
def vectorCodes : List CodeRow :=
  [(0x3, 0x00, .vadd), (0x3, 0x01, .vsub), (0x3, 0x02, .vmul), (0x3, 0x03, .vfma), (0x3, 0x04, .vmin), (0x3, 0x05, .vmax),
   (0x3, 0x06, .vfcmplt), (0x3, 0x07, .vfcmpeq), (0x3, 0x08, .viadd), (0x3, 0x09, .visub), (0x3, 0x0A, .vand), (0x3, 0x0B, .vor),
   (0x3, 0x0C, .vxor), (0x3, 0x0D, .vshli), (0x3, 0x0E, .vshri), (0x3, 0x0F, .vblend), (0x3, 0x10, .vperm), (0x3, 0x11, .vbcast),
   (0x3, 0x12, .vget), (0x3, 0x13, .vset), (0x3, 0x14, .vany), (0x3, 0x15, .vicmplt), (0x3, 0x18, .vcvtBf16),
   (0x3, 0x19, .vcvtFp16), (0x3, 0x1A, .vextBf16), (0x3, 0x1B, .vextFp16), (0x3, 0x1C, .vpackMxf8), (0x3, 0x1D, .vpackMxf6),
   (0x3, 0x1E, .vpackMxf4), (0x3, 0x1F, .vpackMxi8), (0x3, 0x20, .vunpkMxf8), (0x3, 0x21, .vunpkMxf6), (0x3, 0x22, .vunpkMxf4),
   (0x3, 0x23, .vunpkMxi8), (0x3, 0x28, .vrcp), (0x3, 0x29, .vrsq), (0x3, 0x2A, .vexp2), (0x3, 0x2B, .vlog2), (0x3, 0x30, .vsum),
   (0x3, 0x31, .vrmax)]
/-- The class and functions of R74. -/
def matrixCodes : List CodeRow :=
  [(0x4, 0x00, .mopBf16), (0x4, 0x01, .mopFp16), (0x4, 0x02, .mopMxi8), (0x4, 0x03, .mopMxf8), (0x4, 0x04, .mopMxf6),
   (0x4, 0x05, .mopMxf4), (0x4, 0x10, .ast), (0x4, 0x11, .ald), (0x4, 0x12, .mzero), (0x4, 0x13, .aget)]
/-- The class and functions of R78, R83. -/
def meshCodes : List CodeRow :=
  [(0x5, 0x00, .msend), (0x5, 0x08, .mwait), (0x5, 0x09, .mtest), (0x5, 0x0A, .mcnt), (0x5, 0x0B, .mquiet)]
/-- The class and functions of R86. -/
def hearthCodes : List CodeRow :=
  [(0x6, 0x00, .hsend), (0x6, 0x01, .hbcast), (0x6, 0x02, .hget), (0x6, 0x08, .esend), (0x6, 0x0B, .hquiet)]
/-- The class and functions of R91. -/
def remoteCodes : List CodeRow :=
  [(0x7, 0x00, .xldD), (0x7, 0x01, .xldV), (0x7, 0x04, .xstD), (0x7, 0x05, .xstV), (0x7, 0x08, .xadd), (0x7, 0x09, .xfadd),
   (0x7, 0x0A, .xswap), (0x7, 0x0B, .xcas)]
/-- The class and functions of R93. -/
def tickCodes : List CodeRow :=
  [(0x8, 0x00, .stampAt), (0x8, 0x01, .sync), (0x8, 0x02, .tickend)]
/-- The class and functions of R97. -/
def systemCodes : List CodeRow :=
  [(0xF, 0x00, .srd), (0xF, 0x01, .swr), (0xF, 0x02, .stime), (0xF, 0x03, .stick)]

/-- The tile instructions in the order of their tables (R59, R64, R67, R69, R71, R74, R78, R83, R86, R91, R93, R97). -/
def tileCodes : List CodeRow :=
  scalarCodes ++ scalarMemCodes ++ controlCodes ++ vectorCodes ++ matrixCodes ++ meshCodes ++
    hearthCodes ++ remoteCodes ++ tickCodes ++ systemCodes

/-- The fields of an instruction word (R58). -/
def fieldsOf (w : DWord) : Fields :=
  { pneg := w.getLsbD 35, pidx := w.extractLsb' 32 3, dest := w.extractLsb' 48 6, srca := w.extractLsb' 42 6,
    srcb := w.extractLsb' 36 6, imm := w.extractLsb' 0 32 }

/-- The class of an instruction word (R58). -/
def wordClass (w : DWord) : Nat := (w.extractLsb' 60 4).toNat
/-- The function of an instruction word (R58). -/
def wordFunction (w : DWord) : Nat := (w.extractLsb' 54 6).toNat

/-- The word of a class, a function and fields (R58). -/
def tileWord (cls fn : Nat) (f : Fields) : DWord :=
  BitVec.ofNat 4 cls ++ BitVec.ofNat 6 fn ++ f.dest ++ f.srca ++ f.srcb ++ BitVec.ofBool f.pneg ++ f.pidx ++ f.imm

/-- The constructor that a class and function name; `none` where they are undefined (R59). -/
def tileCtor (cls fn : Nat) : Option (Issue → Fields → Instr) :=
  (tileCodes.find? (fun r => r.1 == cls && r.2.1 == fn)).map (fun r => r.2.2)

/-- The instruction that a program-store word stands for when `u` issues it; `none` where class or function is undefined (R59). -/
def decodeTileWord (u : Issue) (w : DWord) : Option Instr :=
  (tileCtor (wordClass w) (wordFunction w)).map (fun c => c u (fieldsOf w))

/-- Whether a class and a function are listed (R59). -/
def definedCode (cls fn : Nat) : Bool := tileCodes.any (fun r => r.1 == cls && r.2.1 == fn)

end Sys2Proof
end

