-- ==== Sys2Proof/Machine/Numerics.lean ====
section
/-! DEFINITION. Number formats and arithmetic (chapter 04): values as exact dyadic numbers, decoding of the formats of R99 and
R101, the one rounding of R104 and R105, and the operations that every unit shares. Flags are 4 bits: invalid 8, overflow 4,
underflow 2, saturated 1 (R117). -/

namespace Sys2Proof.Machine

/-- A value: NaN, an infinity, or (−1)^neg · m · 2^e exactly (m = 0 is a signed zero). -/
inductive FV where
  | nan
  | inf (neg : Bool)
  | fin (neg : Bool) (m : Nat) (e : Int)
deriving DecidableEq, Repr

/-- An IEEE-style format (R99): fraction width, exponent width, bias. -/
structure Fmt where
  p    : Nat
  ew   : Nat
  bias : Nat
deriving DecidableEq, Repr

/-- FP32, BF16 and FP16 (R99). -/
def fp32 : Fmt := ⟨23, 8, 127⟩
/-- BF16 (R99). -/
def bf16 : Fmt := ⟨7, 8, 127⟩
/-- FP16 (R99). -/
def fp16 : Fmt := ⟨10, 5, 15⟩

/-- The exponent of the format's smallest step. -/
def Fmt.emin (f : Fmt) : Int := 1 - f.bias - f.p

/-- Flag bits of R117. -/
def flagInvalid : Nat := 8
/-- Overflow. -/
def flagOverflow : Nat := 4
/-- Underflow. -/
def flagUnderflow : Nat := 2
/-- Saturated on conversion. -/
def flagSaturated : Nat := 1

/-- `a` or `b` of two flag sets. -/
def orFlags (a b : Nat) : Nat := a ||| b

/-- The value of a code of an IEEE-style format (R99). -/
def Fmt.decode (f : Fmt) (w : Nat) : FV :=
  let frac := w % 2 ^ f.p
  let ex := w / 2 ^ f.p % 2 ^ f.ew
  let neg := w / 2 ^ (f.p + f.ew) % 2 = 1
  if ex = 2 ^ f.ew - 1 then (if frac = 0 then .inf neg else .nan)
  else if ex = 0 then .fin neg frac f.emin
  else .fin neg (2 ^ f.p + frac) (f.emin + (ex - 1 : Nat))

/-- The canonical NaN (R99). -/
def Fmt.nan (f : Fmt) : Nat := (2 ^ f.ew - 1) * 2 ^ f.p + 2 ^ (f.p - 1)
/-- Infinity. -/
def Fmt.inf (f : Fmt) (neg : Bool) : Nat := (if neg then 2 ^ (f.p + f.ew) else 0) + (2 ^ f.ew - 1) * 2 ^ f.p

/-- How one rounding resolves an inexact value: to nearest, ties to even (R104), or against a 16-bit draw (R105). -/
inductive Rounding where
  | nearest
  | draw (r : Nat)
deriving DecidableEq, Repr

/-- The multiple `n` of the step 2^k (k ≥ 0 bits dropped) that `m` rounds to, and whether it is inexact. -/
def roundShift (r : Rounding) (m k : Nat) : Nat × Bool :=
  let n := m >>> k
  let rem := m - (n <<< k)
  if rem = 0 then (n, false)
  else match r with
    | .nearest =>
      let half := 2 ^ k / 2
      if rem > half ∨ (rem = half ∧ n % 2 = 1) then (n + 1, true) else (n, true)
    | .draw d => if rem * 65536 / 2 ^ k > d then (n + 1, true) else (n, true)

/-- floor(log2 (m · 2^e)) for m ≠ 0. -/
def floorLog2 (m : Nat) (e : Int) : Int := Nat.log2 m + e

/-- Rounds m · 2^e to the grid of a type with `p` fraction bits and smallest step 2^emin: (n, step exponent, inexact). -/
def roundGrid (r : Rounding) (p : Nat) (emin : Int) (m : Nat) (e : Int) : Nat × Int × Bool :=
  if m = 0 then (0, emin, false)
  else
    let step := max (floorLog2 m e - p) emin
    if step ≤ e then (m <<< (e - step).toNat, step, false)
    else
      let (n, x) := roundShift r m (step - e).toNat
      (n, step, x)

/-- Whether a value off the grid needs a draw (R105: a value on the grid consumes none). -/
def needsDraw (p : Nat) (emin : Int) (m : Nat) (e : Int) : Bool := (roundGrid .nearest p emin m e).2.2

/-- The code of n · 2^step (a grid point) in a format with `p` fraction bits, without sign. -/
def encodeMag (p : Nat) (emin : Int) (n : Nat) (step : Int) : Nat :=
  let (n, step) := if n = 2 ^ (p + 1) then (n / 2, step + 1) else (n, step)
  if n < 2 ^ p then n else ((step - emin).toNat + 1) * 2 ^ p + (n - 2 ^ p)

/-- A value delivered in an IEEE-style format with one rounding, and the flags of R107 and R117 (not invalid). -/
def Fmt.round (f : Fmt) (r : Rounding) (v : FV) : Nat × Nat :=
  match v with
  | .nan => (f.nan, 0)
  | .inf neg => (f.inf neg, 0)
  | .fin neg m e =>
    let s := if neg then 2 ^ (f.p + f.ew) else 0
    let (n, step, inexact) := roundGrid r f.p f.emin m e
    let c := encodeMag f.p f.emin n step
    if c ≥ (2 ^ f.ew - 1) * 2 ^ f.p then (f.inf neg, flagOverflow)
    else (s + c, if inexact ∧ c < 2 ^ f.p then flagUnderflow else 0)

/-- FP32 result word of a value, rounded to nearest even. -/
def toF32 (v : FV) : Word × Nat := let (c, fl) := fp32.round .nearest v; (BitVec.ofNat 32 c, fl)
/-- The value of an FP32 word. -/
def ofF32 (w : Word) : FV := fp32.decode w.toNat

/-- Whether a value is NaN. -/
def FV.isNan : FV → Bool
  | .nan => true
  | _ => false
/-- Whether a value is zero. -/
def FV.isZero : FV → Bool
  | .fin _ m _ => m == 0
  | _ => false
/-- The negation. -/
def FV.neg : FV → FV
  | .nan => .nan
  | .inf s => .inf (!s)
  | .fin s m e => .fin (!s) m e

/-- The signed mantissa. -/
def sgn (neg : Bool) (m : Nat) : Int := if neg then -(m : Int) else m

/-- The exact sum of two values; the flag is invalid for ∞ − ∞ (R111). A zero sum of zeros of both signs, or of opposite
non-zero values, is +0 (R116, round to nearest). -/
def FV.add : FV → FV → FV × Nat
  | .nan, _ => (.nan, 0)
  | _, .nan => (.nan, 0)
  | .inf a, .inf b => if a = b then (.inf a, 0) else (.nan, flagInvalid)
  | .inf a, .fin .. => (.inf a, 0)
  | .fin .., .inf b => (.inf b, 0)
  | .fin a m e, .fin b n g =>
    let x := min e g
    let t := sgn a m * 2 ^ (e - x).toNat + sgn b n * 2 ^ (g - x).toNat
    if t = 0 then (.fin (m == 0 && n == 0 && a && b) 0 x, 0)
    else (.fin (decide (t < 0)) t.natAbs x, 0)

/-- The exact product; the flag is invalid for 0 × ∞ (R111). -/
def FV.mul : FV → FV → FV × Nat
  | .nan, _ => (.nan, 0)
  | _, .nan => (.nan, 0)
  | .inf a, .inf b => (.inf (a ^^ b), 0)
  | .inf a, .fin b n _ => if n = 0 then (.nan, flagInvalid) else (.inf (a ^^ b), 0)
  | .fin a m _, .inf b => if m = 0 then (.nan, flagInvalid) else (.inf (a ^^ b), 0)
  | .fin a m e, .fin b n g => (.fin (a ^^ b) (m * n) (e + g), 0)

/-- A value times 2^k. -/
def FV.scale : FV → Int → FV
  | .fin s m e, k => .fin s m (e + k)
  | v, _ => v

/-- Whether `a` < `b`, both not NaN. -/
def FV.lt : FV → FV → Bool
  | .nan, _ => false
  | _, .nan => false
  | .inf a, .inf b => a && !b
  | .inf a, .fin .. => a
  | .fin .., .inf b => !b
  | .fin a m e, .fin b n g =>
    let x := min e g
    decide (sgn a m * 2 ^ (e - x).toNat < sgn b n * 2 ^ (g - x).toNat)

/-- Whether `a` = `b` as numbers (zeros of either sign are equal). -/
def FV.eq (a b : FV) : Bool := !a.isNan && !b.isNan && !a.lt b && !b.lt a

/-- Floor(log2) of the magnitude of a non-zero finite value, none otherwise. -/
def FV.log2? : FV → Option Int
  | .fin _ m e => if m = 0 then none else some (floorLog2 m e)
  | _ => none

/-! ### Vector FP32 (R111, R112) -/

/-- One FP32 result and its flags from an exact value and the invalid flag so far. -/
def deliver (r : FV × Nat) : Word × Nat := let (w, fl) := toF32 r.1; (w, orFlags r.2 fl)

/-- VADD on one lane. -/
def f32Add (a b : Word) : Word × Nat := deliver ((ofF32 a).add (ofF32 b))
/-- VSUB on one lane. -/
def f32Sub (a b : Word) : Word × Nat := deliver ((ofF32 a).add (ofF32 b).neg)
/-- VMUL on one lane. -/
def f32Mul (a b : Word) : Word × Nat := deliver ((ofF32 a).mul (ofF32 b))
/-- VFMA on one lane: a × b + c with one rounding; a NaN operand sets no flag (R111). -/
def f32Fma (a b c : Word) : Word × Nat :=
  if (ofF32 c).isNan then deliver (.nan, 0)
  else
    let (p, f1) := (ofF32 a).mul (ofF32 b)
    let (t, f2) := p.add (ofF32 c)
    deliver (t, orFlags f1 f2)

/-- Sign-aware order for VMIN and VMAX: −0 counts as less than +0 (R112). -/
def f32Less (a b : Word) : Bool :=
  (ofF32 a).lt (ofF32 b) || ((ofF32 a).isZero && (ofF32 b).isZero && a.msb && !b.msb)
/-- VMIN on one lane (R112). -/
def f32Min (a b : Word) : Word :=
  if (ofF32 a).isNan then (if (ofF32 b).isNan then 0x7FC00000 else b)
  else if (ofF32 b).isNan then a
  else if f32Less b a then b else a
/-- VMAX on one lane (R112). -/
def f32Max (a b : Word) : Word :=
  if (ofF32 a).isNan then (if (ofF32 b).isNan then 0x7FC00000 else b)
  else if (ofF32 b).isNan then a
  else if f32Less a b then b else a
/-- VFCMPLT on one lane (R112). -/
def f32CmpLt (a b : Word) : Word × Nat :=
  if (ofF32 a).isNan || (ofF32 b).isNan then (0, flagInvalid)
  else (if (ofF32 a).lt (ofF32 b) then 0xFFFFFFFF else 0, 0)
/-- VFCMPEQ on one lane (R112). -/
def f32CmpEq (a b : Word) : Word × Nat := (if (ofF32 a).eq (ofF32 b) then 0xFFFFFFFF else 0, 0)

/-! ### MX elements (R101 to R103, R108 to R110) -/

/-- The six MX element types (R101). -/
inductive MxType where
  | e4m3 | e5m2 | e3m2 | e2m3 | e2m1 | int8
deriving DecidableEq, Repr

/-- Fraction bits, exponent bits, bias of a floating element type. -/
def MxType.fmt : MxType → Fmt
  | .e4m3 => ⟨3, 4, 7⟩
  | .e5m2 => ⟨2, 5, 15⟩
  | .e3m2 => ⟨2, 3, 3⟩
  | .e2m3 => ⟨3, 2, 1⟩
  | .e2m1 => ⟨1, 2, 1⟩
  | .int8 => ⟨7, 0, 0⟩

/-- The exponent of the largest power of two not above the largest magnitude (R101). -/
def MxType.emax : MxType → Int
  | .e4m3 => 8 | .e5m2 => 15 | .e3m2 => 4 | .e2m3 => 2 | .e2m1 => 2 | .int8 => 0

/-- The code of the largest magnitude of a floating element type (R101). -/
def MxType.maxCode : MxType → Nat
  | .e4m3 => 0x7E | .e5m2 => 0x7B | .e3m2 => 0x1F | .e2m3 => 0x1F | .e2m1 => 0x7 | .int8 => 127

/-- The value of an element code (R101). -/
def MxType.decode (t : MxType) (c : Nat) : FV :=
  match t with
  | .int8 => if c < 128 then .fin false c (-6) else .fin true (256 - c) (-6)
  | .e5m2 => t.fmt.decode c
  | _ =>
    let f := t.fmt
    let frac := c % 2 ^ f.p
    let ex := c / 2 ^ f.p % 2 ^ f.ew
    let neg : Bool := c / 2 ^ (f.p + f.ew) % 2 = 1
    if t = .e4m3 ∧ c % 128 = 127 then .nan
    else if ex = 0 then .fin neg frac f.emin
    else .fin neg (2 ^ f.p + frac) (f.emin + (ex - 1 : Nat))

/-- An element's value times its block's scale (R102, R103). -/
def mxValue (t : MxType) (c scale : Nat) : FV :=
  if scale = 255 then .nan else (t.decode c).scale ((scale : Int) - 127)

/-- One element of VPACK from an input and the scale (R109): code and flags. DESIGN CHOICE: only an element that rounds to zero sets underflow, as R109
lists; R117 speaks of an inexact subnormal, too, which the model does not count for an MX element (log 124). -/
def MxType.pack (t : MxType) (r : Rounding) (scale : Nat) : FV → Nat × Nat
  | .fin neg m e =>
    let q := e - ((scale : Int) - 127)
    match t with
    | .int8 =>
      let (n, _) := if m = 0 then (0, false) else if q ≥ -6 then (m <<< (q + 6).toNat, false) else roundShift r m (-6 - q).toNat
      let i := sgn neg n
      if i > 127 then (127, flagSaturated)
      else if i < -128 then (128, flagSaturated)
      else ((i % 256).toNat, if n = 0 ∧ m ≠ 0 then flagUnderflow else 0)
    | _ =>
      let f := t.fmt
      let s := if neg then 2 ^ (f.p + f.ew) else 0
      let (n, step, _) := roundGrid r f.p f.emin m q
      let c := encodeMag f.p f.emin n step
      if c > t.maxCode then (s + t.maxCode, flagSaturated)
      else (s + c, if n = 0 ∧ m ≠ 0 then flagUnderflow else 0)
  | _ => (0, 0)

/-- Whether packing an element needs a draw under stochastic rounding. -/
def MxType.packDraws (t : MxType) (scale : Nat) : FV → Bool
  | .fin _ m e =>
    let q := e - ((scale : Int) - 127)
    match t with
    | .int8 => if m = 0 then false else if q ≥ -6 then false else (roundShift .nearest m (-6 - q).toNat).2
    | _ => needsDraw t.fmt.p t.fmt.emin m q
  | _ => false

/-- The block scale of R108 and its flags; `none` for a NaN or infinite input. -/
def mxScale (t : MxType) (xs : List FV) : Option (Nat × Nat) :=
  if xs.any (fun x => match x with | .fin .. => false | _ => true) then none
  else
    let logs := xs.filterMap FV.log2?
    match logs with
    | [] => some (127, 0)
    | l :: ls =>
      let e := ls.foldl max l - t.emax + 127
      if e < 0 then some (0, flagUnderflow)
      else if e > 254 then some (254, 0)
      else some (e.toNat, 0)

/-! ### Accumulation in the MAC array (R114 to R116) -/

/-- The exact sum of a list of finite values as (signed mantissa, exponent). -/
def sumExact : List FV → Int × Int
  | [] => (0, 0)
  | .fin s m e :: xs =>
    let (t, g) := sumExact xs
    if m = 0 then (t, g)
    else if t = 0 then (sgn s m, e)
    else
      let x := min e g
      (sgn s m * 2 ^ (e - x).toNat + t * 2 ^ (g - x).toNat, x)
  | _ :: xs => sumExact xs

/-- The sum of terms under R116: NaN, infinities of both signs, an infinity, an exact zero, or the exact sum. -/
def sumTerms (xs : List FV) : FV × Nat :=
  if xs.any FV.isNan then (.nan, 0)
  else
    let p := xs.any (fun x => x == .inf false)
    let n := xs.any (fun x => x == .inf true)
    if p && n then (.nan, flagInvalid)
    else if p then (.inf false, 0)
    else if n then (.inf true, 0)
    else
      let (t, e) := sumExact xs
      if t = 0 then (.fin (xs.all (fun x => match x with | .fin s m _ => s && m == 0 | _ => false)) 0 0, 0)
      else (.fin (decide (t < 0)) t.natAbs e, 0)

/-- Products of paired elements and the invalid flags they raise (∞ × 0, R116). -/
def products : List FV → List FV → List FV × Nat
  | a :: as, b :: bs =>
    let (p, f) := a.mul b
    let (ps, g) := products as bs
    (p :: ps, orFlags f g)
  | _, _ => ([], 0)

/-- One accumulator element of an MX MOP (R114, R116). A NaN scale or element makes the result NaN; the scale also sets
invalid. -/
def mopMx (old : FV) (as bs : List FV) (sa sb : Nat) : Word × Nat :=
  if sa = 255 ∨ sb = 255 then (0x7FC00000, flagInvalid)
  else
    let (ps, f) := products as bs
    let k : Int := (sa : Int) + sb - 254
    if (old :: as ++ bs).any FV.isNan then (0x7FC00000, 0)
    else
      let (t, g) := sumTerms (old :: ps.map (fun p => p.scale k))
      deliver (t, orFlags f g)

/-- A finite value truncated toward zero to a multiple of 2^x; other values unchanged (R115). -/
def FV.trunc (x : Int) : FV → FV
  | .fin s m e => if e ≥ x then .fin s m e else .fin s (m >>> (x - e).toNat) x
  | v => v

/-- One accumulator element of MOP.BF16 or MOP.FP16 (R115, R116). -/
def mopWide (old : FV) (as bs : List FV) : Word × Nat :=
  let (ps, f) := products as bs
  if (old :: as ++ bs).any FV.isNan then (0x7FC00000, 0)
  else
    let terms := old :: ps
    let cut := match terms.filterMap FV.log2? with
      | [] => terms
      | l :: ls => let e := ls.foldl max l; terms.map (FV.trunc (e - 47))
    let (t, g) := sumTerms cut
    deliver (t, orFlags f g)

/-! ### Bounds of the estimates (R113, R121) -/

/-- Whether n1 · 2^e1 ≤ n2 · 2^e2. -/
def leDyadic (n1 : Nat) (e1 : Int) (n2 : Nat) (e2 : Int) : Bool :=
  let x := min e1 e2
  decide (n1 * 2 ^ (e1 - x).toNat ≤ n2 * 2 ^ (e2 - x).toNat)

/-- Whether |w · x − 1| ≤ 2^−14 for positive magnitudes w = m · 2^e and x = n · 2^g: the bound of VRCP. -/
def rcpBound (m : Nat) (e : Int) (n : Nat) (g : Int) : Bool :=
  leDyadic (2 ^ 14 - 1) (-14) (m * n) (e + g) && leDyadic (m * n) (e + g) (2 ^ 14 + 1) (-14)

/-- Whether |w · √x − 1| ≤ 2^−14, by squares: the bound of VRSQ. -/
def rsqBound (m : Nat) (e : Int) (n : Nat) (g : Int) : Bool :=
  leDyadic ((2 ^ 14 - 1) ^ 2) (-28) (m * m * n) (2 * e + g) && leDyadic (m * m * n) (2 * e + g) ((2 ^ 14 + 1) ^ 2) (-28)

/-- The largest number whose square is at most `n`, by its bits from bit `k` down. -/
def isqrt (n : Nat) : Nat → Nat → Nat
  | 0, r => if (r + 1) * (r + 1) ≤ n then r + 1 else r
  | k + 1, r => isqrt n k (if (r + 2 ^ (k + 1)) * (r + 2 ^ (k + 1)) ≤ n then r + 2 ^ (k + 1) else r)

/-- 2^96 · 2^f for a fraction f whose first `k` bits are those of `bits`, from the top: each bit in use multiplies by the root it stands for, and each
root is the square root of the one before (`root`: 2^96 · 2^(2^(1−i))). Every step is truncated. -/
def exp2Frac : Nat → Nat → Nat → Nat → Nat
  | 0, _, _, acc => acc
  | k + 1, bits, root, acc =>
    let r := isqrt (root * 2 ^ 96) 97 0
    exp2Frac k bits r (if bits.testBit k then acc * r / 2 ^ 96 else acc)

/-- 2^96 · 2^f for f = n / 2^72; the true value of 2^f for any f in [n, n + 1] / 2^72 is from this to this times 1 + 2^−70, since at most 72 truncations
of 2^−96 and the step 2^−72 lie between. -/
def exp2Fix (n : Nat) : Nat := exp2Frac 72 n (2 ^ 97) (2 ^ 96)

/-- Floor and the first 72 fraction bits of a finite value. -/
def fixed72 (neg : Bool) (m : Nat) (e : Int) : Int :=
  let k := e + 72
  let v := if k ≥ 0 then m <<< k.toNat else m >>> (-k).toNat
  if neg then -(v : Int) - (if k < 0 ∧ (v <<< (-k).toNat) ≠ m then 1 else 0) else v

/-- Whether w = m · 2^e lies within relative 2^−14 of 2^x for x = ±n · 2^g, the bound of VEXP2: of both ends of the enclosure of 2^x, which no FP32 number
tells from 2^x itself. -/
def exp2Bound (m : Nat) (e : Int) (neg : Bool) (n : Nat) (g : Int) : Bool :=
  let f := fixed72 neg n g
  let y := exp2Fix (f % 2 ^ 72).toNat
  let x := f / 2 ^ 72 - 96
  leDyadic (y * (2 ^ 70 + 1) * (2 ^ 14 - 1)) (x - 84) m e && leDyadic m e (y * (2 ^ 14 + 1)) (x - 14)

/-- The first `k` bits of log2 of y / 2^96 in [1, 2), most significant first, by repeated squaring. -/
def log2Bits : Nat → Nat → Nat → Nat
  | 0, _, acc => acc
  | k + 1, y, acc =>
    let z := y * y / 2 ^ 96
    if z ≥ 2 ^ 97 then log2Bits k (z / 2) (2 * acc + 1) else log2Bits k z (2 * acc)

/-- 2^80 · log2 (m · 2^e) for an FP32 magnitude: the true value is from this to this plus 2, since a truncation of 2^−96 weighs half as much at
each step. -/
def log2Fix (m : Nat) (e : Int) : Int :=
  let l := Nat.log2 m
  ((l : Int) + e) * 2 ^ 80 + log2Bits 80 (m * 2 ^ 96 / 2 ^ l) 0

/-- Whether a · 2^e ≤ b · 2^g. -/
def leScaled (a : Int) (e : Int) (b : Int) (g : Int) : Bool :=
  let x := min e g
  decide (a * 2 ^ (e - x).toNat ≤ b * 2 ^ (g - x).toNat)

/-- Whether a delivered value lies within the bound of VLOG2 on x = m · 2^e (absolute 2^−14 from 0.5 to 2, relative 2^−14 elsewhere): of both ends of
the enclosure of log2 x, which no FP32 number tells from log2 x itself. -/
def log2Bound (d : FV) (m : Nat) (e : Int) : Bool :=
  match d with
  | .fin s n g =>
    let l := log2Fix m e
    let one : Int := if l < 0 then -1 else 1
    let near := leDyadic 1 (-1) m e && leDyadic m e 1 1
    let lo := if near then (l + 2) * 2 ^ 14 - 2 ^ 80 else (l + 2) * (2 ^ 14 - one)
    let hi := if near then l * 2 ^ 14 + 2 ^ 80 else l * (2 ^ 14 + one)
    leScaled lo (-94) (sgn s n) g && leScaled (sgn s n) g hi (-94)
  | _ => false

end Sys2Proof.Machine
end

