-- ==== Sys2Proof/Config.lean ====
section
/-! DEFINITION. What the spec leaves to the implementation or to chance: constants with no body, so that no proof can see what
they are. A statement about one of them holds whatever it is. -/

namespace Sys2Proof.Config

/-- A fresh free value for each number; the state's counter `draws` numbers them (stochastic draws of R105 and R106, session
identifiers, keys and packet numbers, and every other value that no rule fixes). -/
opaque free : Nat → Nat

/-- The result of an estimate (R113) for a function number and an operand, before it is held to its bound. -/
opaque estimate : Nat → Word → Word

/-- The result of VSUM for a die and its operand, before it is held to the bound of R121 (its pairing is fixed in each die but
unspecified, R120). -/
opaque vsum : Nat → VReg → Word

/-- The SECDED check byte of 64 data bits (R134: the code is not given). -/
opaque secded : BitVec 64 → Byte

/-- SLH-DSA-SHA2-128s verification of a message and signature under a root (R230, R433). -/
opaque slhVerify : BitVec 256 → List Byte → List Byte → Bool

/-- SLH-DSA-SHA2-128s signature of a message by the module's identity key (R437). -/
opaque slhSign : List Byte → List Byte

/-- The accumulator after ALD meets an uncorrectable word (R77: an unspecified state). -/
opaque brokenAcc : Nat → Acc

/-- CAP_STEPPING and the CAP_SERIAL words, fixed at manufacture and not listed (R480). -/
opaque stepping : Word
/-- Serial number words (R480). -/
opaque serial : Nat → Word
/-- MAC address words of a host port, low then high (R314: per module). -/
opaque mac : Nat → Nat → Word

/-- The words that a section with no byte layout in the spec (0x0005, 0x0007, 0x0008, 0x000B) stores: (table key, word). -/
opaque sectionWords : Nat → List Byte → List (Nat × Word)
/-- Whether such a section holds a value that its block would refuse (R230, reason 0x0A). -/
opaque sectionRefused : Nat → List Byte → Bool

/-- The baseline words of the calibration tables and of BLW_REF (R386: from the configuration set). -/
opaque baseline : Nat → Word

/-- The Hearth sensor nearest a ring of a port (R377, R393: the floor plan is not given); read modulo 64, from sensor 512. -/
opaque nearestSensor : Nat → Nat → Nat
/-- Whether the lane of an ordered pair passes a reticle zone on a lattice flue: flue, zone, source, destination (R379: the routers' places are not given). -/
opaque zoneLane : Nat → Nat → Nat → Nat → Bool
/-- The way a heater code halfway between two is rounded (R377 does not say): up where odd. -/
opaque heaterTie : Nat → Nat

/-- The stream that the I/O port of a fabric port gives the blocks of a scheduled window (R269, R270 do not say). -/
opaque fabricStream : Nat → Nat → Nat

/-- The Glovebox's public values: vendor root, identity key and certificate words (R432, R435). -/
opaque vendorRoot : BitVec 256
/-- The identity key made from the seed. -/
opaque identityKey : BitVec 256
/-- The identity key made from a zeroised seed (R435, R439). -/
opaque zeroKey : BitVec 256
/-- Certificate words. -/
opaque certWord : Nat → Word

end Sys2Proof.Config
end

