-- ==== Sys2Proof/Machine/RegTable.lean ====
section
/-! DEFINITION. The register map of the control space (R442, and the register tables of the chapters): for every block its
registers with offset, count, stride, the masks of each access code (R11) and the reset value. `Reg.<NAME>` is a register's
control address. -/

namespace Sys2Proof.Machine

/-- One register, or a run of `count` registers `stride` bytes apart: the bits of each access code and the reset value. A row
with RWC bits is a pair: the low half at the offset, the high half 4 above it (R12). -/
structure RegRow where
  off    : Nat
  count  : Nat
  stride : Nat
  rw     : Word
  rwl    : Word
  w1c    : Word
  w1s    : Word
  wo     : Word
  rwc    : Word
  reset  : Word
deriving DecidableEq, Repr

/-- The blocks of R442. -/
inductive Block where
  | ident | rst | clk | pwr | thm | mbx | glv | tck | cfg | hrt | emb | blw | cal
  | die (d : Nat) | mem (m : Nat) | io (i : Nat)
deriving DecidableEq, Repr

namespace Reg

/-- CAP_ID. -/
def CAP_ID : Nat := 0x0
/-- CAP_STEPPING. -/
def CAP_STEPPING : Nat := 0xc
/-- CAP_UNITS_0. -/
def CAP_UNITS_0 : Nat := 0x20
/-- CAP_UNITS_1. -/
def CAP_UNITS_1 : Nat := 0x24
/-- CAP_EVENTS. -/
def CAP_EVENTS : Nat := 0x28
/-- CAP_ERR_ADDR_LO. -/
def CAP_ERR_ADDR_LO : Nat := 0x2c
/-- CAP_ERR_INFO. -/
def CAP_ERR_INFO : Nat := 0x30
/-- CAP_PART_0. -/
def CAP_PART_0 : Nat := 0x4
/-- CAP_PART_1. -/
def CAP_PART_1 : Nat := 0x8
/-- CAP_SERIAL (instance `k`). -/
def CAP_SERIAL (k : Nat) : Nat := 0x10 + 0x4 * k
/-- CAP_LIST (instance `k`). -/
def CAP_LIST (k : Nat) : Nat := 0x100 + 0x4 * k
/-- RST_ID. -/
def RST_ID : Nat := 0x10000
/-- RST_CTRL. -/
def RST_CTRL : Nat := 0x10004
/-- RST_LAST. -/
def RST_LAST : Nat := 0x10008
/-- RST_TOTAL. -/
def RST_TOTAL : Nat := 0x1000c
/-- RST_STATUS. -/
def RST_STATUS : Nat := 0x10020
/-- RST_REQ. -/
def RST_REQ : Nat := 0x10024
/-- RST_COUNT (instance `k`). -/
def RST_COUNT (k : Nat) : Nat := 0x10010 + 0x4 * k
/-- CLK_CTRL. -/
def CLK_CTRL : Nat := 0x14000
/-- CLK_STATUS. -/
def CLK_STATUS : Nat := 0x14004
/-- CLK_EVENTS. -/
def CLK_EVENTS : Nat := 0x14008
/-- CLK_REF_LOSSES. -/
def CLK_REF_LOSSES : Nat := 0x1400c
/-- CLK_HOLD_MS. -/
def CLK_HOLD_MS : Nat := 0x14010
/-- CLK_OSC_OFFSET. -/
def CLK_OSC_OFFSET : Nat := 0x14014
/-- CLK_RGN_CUR_COUNT (instance `k`). -/
def CLK_RGN_CUR_COUNT (k : Nat) : Nat := 0x15000 + 0x10 * k
/-- CLK_RGN_CUR_TIME (instance `k`). -/
def CLK_RGN_CUR_TIME (k : Nat) : Nat := 0x15004 + 0x10 * k
/-- CLK_RGN_LAST_COUNT (instance `k`). -/
def CLK_RGN_LAST_COUNT (k : Nat) : Nat := 0x15008 + 0x10 * k
/-- CLK_RGN_LAST_TIME (instance `k`). -/
def CLK_RGN_LAST_TIME (k : Nat) : Nat := 0x1500c + 0x10 * k
/-- PWR_ID. -/
def PWR_ID : Nat := 0x18000
/-- PWR_CTRL. -/
def PWR_CTRL : Nat := 0x18004
/-- PWR_BUDGET. -/
def PWR_BUDGET : Nat := 0x18008
/-- PWR_BUCKET. -/
def PWR_BUCKET : Nat := 0x1800c
/-- PWR_INPUT. -/
def PWR_INPUT : Nat := 0x18010
/-- PWR_GOV. -/
def PWR_GOV : Nat := 0x18014
/-- PWR_EVENTS. -/
def PWR_EVENTS : Nat := 0x18020
/-- PWR_WEAR_ON. -/
def PWR_WEAR_ON : Nat := 0x18018
/-- PWR_WEAR_PEAK. -/
def PWR_WEAR_PEAK : Nat := 0x1801c
/-- PWR_DOM (instance `k`). -/
def PWR_DOM (k : Nat) : Nat := 0x18040 + 0x4 * k
/-- PWR_RAIL (instance `k`). -/
def PWR_RAIL (k : Nat) : Nat := 0x18100 + 0x4 * k
/-- THM_ID. -/
def THM_ID : Nat := 0x20000
/-- THM_CTRL. -/
def THM_CTRL : Nat := 0x20004
/-- THM_STATUS. -/
def THM_STATUS : Nat := 0x20008
/-- THM_EVENTS. -/
def THM_EVENTS : Nat := 0x2000c
/-- THM_TRIP. -/
def THM_TRIP : Nat := 0x20010
/-- THM_SUSPECT. -/
def THM_SUSPECT : Nat := 0x20014
/-- THM_DAMP (instance `k`). -/
def THM_DAMP (k : Nat) : Nat := 0x20100 + 0x10 * k
/-- THM_DAMP_SKIP (instance `k`). -/
def THM_DAMP_SKIP (k : Nat) : Nat := 0x20104 + 0x10 * k
/-- THM_DAMP_HALF (instance `k`). -/
def THM_DAMP_HALF (k : Nat) : Nat := 0x20108 + 0x10 * k
/-- THM_SENSOR (instance `k`). -/
def THM_SENSOR (k : Nat) : Nat := 0x21000 + 0x4 * k
/-- MBX_IN_WR (instance `k`). -/
def MBX_IN_WR (k : Nat) : Nat := 0x30000 + 0x40 * k
/-- MBX_IN_RD (instance `k`). -/
def MBX_IN_RD (k : Nat) : Nat := 0x30004 + 0x40 * k
/-- MBX_IN_BELL (instance `k`). -/
def MBX_IN_BELL (k : Nat) : Nat := 0x30008 + 0x40 * k
/-- MBX_IN_ACK (instance `k`). -/
def MBX_IN_ACK (k : Nat) : Nat := 0x3000c + 0x40 * k
/-- MBX_OUT_WR (instance `k`). -/
def MBX_OUT_WR (k : Nat) : Nat := 0x30010 + 0x40 * k
/-- MBX_OUT_RD (instance `k`). -/
def MBX_OUT_RD (k : Nat) : Nat := 0x30014 + 0x40 * k
/-- MBX_OUT_BELL (instance `k`). -/
def MBX_OUT_BELL (k : Nat) : Nat := 0x30018 + 0x40 * k
/-- MBX_OUT_ACK (instance `k`). -/
def MBX_OUT_ACK (k : Nat) : Nat := 0x3001c + 0x40 * k
/-- MBX_STATUS (instance `k`). -/
def MBX_STATUS (k : Nat) : Nat := 0x30020 + 0x40 * k
/-- MBX_VER (instance `k`). -/
def MBX_VER (k : Nat) : Nat := 0x30024 + 0x40 * k
/-- MBX_BIND (instance `k`). -/
def MBX_BIND (k : Nat) : Nat := 0x30028 + 0x40 * k
/-- MBX_COUNT (instance `k`). -/
def MBX_COUNT (k : Nat) : Nat := 0x3002c + 0x40 * k
/-- MBX_ID. -/
def MBX_ID : Nat := 0x30800
/-- MBX_PENDING. -/
def MBX_PENDING : Nat := 0x30804
/-- GLV_ID. -/
def GLV_ID : Nat := 0x40000
/-- GLV_CTRL. -/
def GLV_CTRL : Nat := 0x40004
/-- GLV_STATUS. -/
def GLV_STATUS : Nat := 0x40008
/-- GLV_EVENTS. -/
def GLV_EVENTS : Nat := 0x4000c
/-- GLV_TAMPER. -/
def GLV_TAMPER : Nat := 0x40010
/-- GLV_ROOTS. -/
def GLV_ROOTS : Nat := 0x40014
/-- GLV_CMD. -/
def GLV_CMD : Nat := 0x40018
/-- GLV_CMD_STATUS. -/
def GLV_CMD_STATUS : Nat := 0x4001c
/-- GLV_CMD_OFF. -/
def GLV_CMD_OFF : Nat := 0x40020
/-- GLV_MEAS (instance `k`). -/
def GLV_MEAS (k : Nat) : Nat := 0x40040 + 0x4 * k
/-- GLV_EXT_DATA (instance `k`). -/
def GLV_EXT_DATA (k : Nat) : Nat := 0x400c0 + 0x4 * k
/-- GLV_VENDOR_ROOT (instance `k`). -/
def GLV_VENDOR_ROOT (k : Nat) : Nat := 0x40100 + 0x4 * k
/-- GLV_OWNER_ROOT (instance `k`). -/
def GLV_OWNER_ROOT (k : Nat) : Nat := 0x40140 + 0x4 * k
/-- GLV_ID_PK (instance `k`). -/
def GLV_ID_PK (k : Nat) : Nat := 0x40200 + 0x4 * k
/-- GLV_CERT (instance `k`). -/
def GLV_CERT (k : Nat) : Nat := 0x48000 + 0x4 * k
/-- TCK_ID. -/
def TCK_ID : Nat := 0x50000
/-- TCK_CTRL. -/
def TCK_CTRL : Nat := 0x50004
/-- TCK_SRC. -/
def TCK_SRC : Nat := 0x50008
/-- TCK_PERIOD. -/
def TCK_PERIOD : Nat := 0x5000c
/-- TCK_EPOCH. -/
def TCK_EPOCH : Nat := 0x50030
/-- TCK_STATUS. -/
def TCK_STATUS : Nat := 0x50038
/-- TCK_EVENTS. -/
def TCK_EVENTS : Nat := 0x5003c
/-- TCK_COUNTS. -/
def TCK_COUNTS : Nat := 0x50040
/-- TCK_SRC_COUNT. -/
def TCK_SRC_COUNT : Nat := 0x50044
/-- TCK_MARGIN. -/
def TCK_MARGIN : Nat := 0x50048
/-- TCK_MIN_MARGIN. -/
def TCK_MIN_MARGIN : Nat := 0x5004c
/-- TCK_PTP_CTRL. -/
def TCK_PTP_CTRL : Nat := 0x50070
/-- TCK_PTP_STATUS. -/
def TCK_PTP_STATUS : Nat := 0x50074
/-- TCK_IMAGE_STATUS. -/
def TCK_IMAGE_STATUS : Nat := 0x50080
/-- TCK_IMAGE_ENERGY. -/
def TCK_IMAGE_ENERGY : Nat := 0x50084
/-- TCK_COMMIT_STATUS. -/
def TCK_COMMIT_STATUS : Nat := 0x50200
/-- TCK_VOTE_WAIT. -/
def TCK_VOTE_WAIT : Nat := 0x50204
/-- TCK_RCV_STATUS. -/
def TCK_RCV_STATUS : Nat := 0x50210
/-- TCK_RCV_EVENTS. -/
def TCK_RCV_EVENTS : Nat := 0x50214
/-- TCK_CKPT_CTRL. -/
def TCK_CKPT_CTRL : Nat := 0x50220
/-- TCK_CKPT_STATUS. -/
def TCK_CKPT_STATUS : Nat := 0x50224
/-- TCK_CKPT_PEER. -/
def TCK_CKPT_PEER : Nat := 0x50230
/-- TCK_CKPT_PEER_BASE. -/
def TCK_CKPT_PEER_BASE : Nat := 0x50234
/-- TCK_ROLE. -/
def TCK_ROLE : Nat := 0x50240
/-- TCK_STOKER. -/
def TCK_STOKER : Nat := 0x50250
/-- TCK_GUARD. -/
def TCK_GUARD : Nat := 0x50010
/-- TCK_BUDGET. -/
def TCK_BUDGET : Nat := 0x50014
/-- TCK_GUARD_OFF. -/
def TCK_GUARD_OFF : Nat := 0x50018
/-- TCK_SEQ_LO. -/
def TCK_SEQ_LO : Nat := 0x50020
/-- TCK_SEQ_HI. -/
def TCK_SEQ_HI : Nat := 0x50028
/-- TCK_TIME_LO. -/
def TCK_TIME_LO : Nat := 0x50050
/-- TCK_TIME_HI. -/
def TCK_TIME_HI : Nat := 0x50054
/-- TCK_BEACON_LO. -/
def TCK_BEACON_LO : Nat := 0x50058
/-- TCK_BEACON_HI. -/
def TCK_BEACON_HI : Nat := 0x5005c
/-- TCK_TIME_STEP_LO. -/
def TCK_TIME_STEP_LO : Nat := 0x50060
/-- TCK_TIME_STEP_HI. -/
def TCK_TIME_STEP_HI : Nat := 0x50064
/-- TCK_PTP_OFFSET. -/
def TCK_PTP_OFFSET : Nat := 0x50078
/-- TCK_PTP_FREQ. -/
def TCK_PTP_FREQ : Nat := 0x5007c
/-- TCK_DIE_TIME_LO (instance `k`). -/
def TCK_DIE_TIME_LO (k : Nat) : Nat := 0x50400 + 0x10 * k
/-- TCK_DIE_TIME_HI (instance `k`). -/
def TCK_DIE_TIME_HI (k : Nat) : Nat := 0x50404 + 0x10 * k
/-- TCK_DIE_ERR (instance `k`). -/
def TCK_DIE_ERR (k : Nat) : Nat := 0x50408 + 0x10 * k
/-- TCK_LAST_COMMIT_LO. -/
def TCK_LAST_COMMIT_LO : Nat := 0x50208
/-- TCK_LAST_COMMIT_HI. -/
def TCK_LAST_COMMIT_HI : Nat := 0x5020c
/-- TCK_CKPT_LAST_LO. -/
def TCK_CKPT_LAST_LO : Nat := 0x50228
/-- TCK_CKPT_LAST_HI. -/
def TCK_CKPT_LAST_HI : Nat := 0x5022c
/-- CFG_ID. -/
def CFG_ID : Nat := 0x60000
/-- CFG_CTRL. -/
def CFG_CTRL : Nat := 0x60004
/-- CFG_STATUS. -/
def CFG_STATUS : Nat := 0x60008
/-- CFG_SELECT. -/
def CFG_SELECT : Nat := 0x6000c
/-- CFG_FLASH_ADDR. -/
def CFG_FLASH_ADDR : Nat := 0x60020
/-- CFG_FLASH_DATA. -/
def CFG_FLASH_DATA : Nat := 0x60024
/-- CFG_CMD. -/
def CFG_CMD : Nat := 0x60028
/-- CFG_CMD_STATUS. -/
def CFG_CMD_STATUS : Nat := 0x6002c
/-- CFG_VER_A. -/
def CFG_VER_A : Nat := 0x60010
/-- CFG_VER_B. -/
def CFG_VER_B : Nat := 0x60014
/-- CFG_OPTION (instance `k`). -/
def CFG_OPTION (k : Nat) : Nat := 0x60100 + 0x4 * k
/-- HRT_ID. -/
def HRT_ID : Nat := 0x100000
/-- HRT_CTRL. -/
def HRT_CTRL : Nat := 0x100004
/-- HRT_STATUS. -/
def HRT_STATUS : Nat := 0x100008
/-- HRT_SHADOW. -/
def HRT_SHADOW : Nat := 0x100010
/-- HRT_TBL_ADDR. -/
def HRT_TBL_ADDR : Nat := 0x100020
/-- HRT_TBL_DATA. -/
def HRT_TBL_DATA : Nat := 0x100028
/-- HRT_ERR_STATUS. -/
def HRT_ERR_STATUS : Nat := 0x100030
/-- HRT_ERR_INFO. -/
def HRT_ERR_INFO : Nat := 0x100034
/-- HRT_ERR_COUNT. -/
def HRT_ERR_COUNT : Nat := 0x100038
/-- HRT_MAP_TICK. -/
def HRT_MAP_TICK : Nat := 0x100040
/-- HRT_LANE_SWAP. -/
def HRT_LANE_SWAP : Nat := 0x100050
/-- HRT_SWAP_STATUS. -/
def HRT_SWAP_STATUS : Nat := 0x100054
/-- HRT_FC_LEVEL. -/
def HRT_FC_LEVEL : Nat := 0x100060
/-- HRT_PAIR_FC_LEVEL. -/
def HRT_PAIR_FC_LEVEL : Nat := 0x100064
/-- HRT_PILOT_COUNT. -/
def HRT_PILOT_COUNT : Nat := 0x100080
/-- HRT_MAP_EVEN (instance `k`). -/
def HRT_MAP_EVEN (k : Nat) : Nat := 0x160000 + 0x4 * k
/-- HRT_MAP_ODD (instance `k`). -/
def HRT_MAP_ODD (k : Nat) : Nat := 0x170000 + 0x4 * k
/-- HRT_BAY_MAP_0. -/
def HRT_BAY_MAP_0 : Nat := 0x100100
/-- HRT_BAY_MAP_1. -/
def HRT_BAY_MAP_1 : Nat := 0x100108
/-- EMB_ID. -/
def EMB_ID : Nat := 0x180000
/-- EMB_CTRL. -/
def EMB_CTRL : Nat := 0x180004
/-- EMB_TBL_ADDR. -/
def EMB_TBL_ADDR : Nat := 0x180010
/-- EMB_TBL_DATA. -/
def EMB_TBL_DATA : Nat := 0x180018
/-- EMB_ERR_STATUS. -/
def EMB_ERR_STATUS : Nat := 0x180020
/-- EMB_ERR_INFO. -/
def EMB_ERR_INFO : Nat := 0x180024
/-- EMB_ERR_COUNT. -/
def EMB_ERR_COUNT : Nat := 0x180028
/-- EMB_CAL_SUMMARY. -/
def EMB_CAL_SUMMARY : Nat := 0x180030
/-- EMB_ALIGN_TOL. -/
def EMB_ALIGN_TOL : Nat := 0x180040
/-- BLW_ID. -/
def BLW_ID : Nat := 0x200000
/-- BLW_CTRL. -/
def BLW_CTRL : Nat := 0x200004
/-- BLW_THRESH. -/
def BLW_THRESH : Nat := 0x200008
/-- BLW_STATUS. -/
def BLW_STATUS : Nat := 0x20000c
/-- BLW_EVENTS. -/
def BLW_EVENTS : Nat := 0x200010
/-- BLW_CMD. -/
def BLW_CMD : Nat := 0x200014
/-- BLW_CMD_STATUS. -/
def BLW_CMD_STATUS : Nat := 0x200018
/-- BLW_HANDOVERS. -/
def BLW_HANDOVERS : Nat := 0x20001c
/-- BLW_COMB (instance `k`). -/
def BLW_COMB (k : Nat) : Nat := 0x200040 + 0x8 * k
/-- BLW_REF (instance `k`). -/
def BLW_REF (k : Nat) : Nat := 0x200044 + 0x8 * k
/-- CAL_ID. -/
def CAL_ID : Nat := 0x210000
/-- CAL_CTRL. -/
def CAL_CTRL : Nat := 0x210004
/-- CAL_REQ. -/
def CAL_REQ : Nat := 0x210008
/-- CAL_STATUS. -/
def CAL_STATUS : Nat := 0x21000c
/-- CAL_TOL. -/
def CAL_TOL : Nat := 0x210010
/-- CAL_COUNTS. -/
def CAL_COUNTS : Nat := 0x210014
/-- CAL_TBL_ADDR. -/
def CAL_TBL_ADDR : Nat := 0x210020
/-- CAL_TBL_DATA. -/
def CAL_TBL_DATA : Nat := 0x210028
/-- CAL_LOOP_SUMMARY. -/
def CAL_LOOP_SUMMARY : Nat := 0x210030
/-- MSH_ID of unit `d`. -/
def MSH_ID (d : Nat) : Nat := 0x1000000 + 0x100000 * d + 0x0
/-- MSH_CTRL of unit `d`. -/
def MSH_CTRL (d : Nat) : Nat := 0x1000000 + 0x100000 * d + 0x4
/-- MSH_FC_LEVEL of unit `d`. -/
def MSH_FC_LEVEL (d : Nat) : Nat := 0x1000000 + 0x100000 * d + 0x8
/-- MSH_WATCHDOG of unit `d`. -/
def MSH_WATCHDOG (d : Nat) : Nat := 0x1000000 + 0x100000 * d + 0xc
/-- MSH_SHADOW of unit `d`. -/
def MSH_SHADOW (d : Nat) : Nat := 0x1000000 + 0x100000 * d + 0x10
/-- MSH_TBL_ADDR of unit `d`. -/
def MSH_TBL_ADDR (d : Nat) : Nat := 0x1000000 + 0x100000 * d + 0x20
/-- MSH_TBL_DATA of unit `d`. -/
def MSH_TBL_DATA (d : Nat) : Nat := 0x1000000 + 0x100000 * d + 0x28
/-- MSH_ERR_STATUS of unit `d`. -/
def MSH_ERR_STATUS (d : Nat) : Nat := 0x1000000 + 0x100000 * d + 0x30
/-- MSH_ERR_INFO of unit `d`. -/
def MSH_ERR_INFO (d : Nat) : Nat := 0x1000000 + 0x100000 * d + 0x34
/-- MSH_ERR_COUNT of unit `d`. -/
def MSH_ERR_COUNT (d : Nat) : Nat := 0x1000000 + 0x100000 * d + 0x38
/-- MSH_MAP_TICK of unit `d`. -/
def MSH_MAP_TICK (d : Nat) : Nat := 0x1000000 + 0x100000 * d + 0x40
/-- MSH_SLIP_TOTAL of unit `d`. -/
def MSH_SLIP_TOTAL (d : Nat) : Nat := 0x1000000 + 0x100000 * d + 0x44
/-- TIL_DIE_FENCE of unit `d`. -/
def TIL_DIE_FENCE (d : Nat) : Nat := 0x1000000 + 0x100000 * d + 0x80
/-- TIL_CARRY_ERR of unit `d`. -/
def TIL_CARRY_ERR (d : Nat) : Nat := 0x1000000 + 0x100000 * d + 0x180
/-- TIL_CARRY_w, word `j`, of die `d` (R255). -/
def TIL_CARRY (d w j : Nat) : Nat := 0x1000000 + 0x100000 * d + 0x100 + 0x10 * w + 4 * j
/-- MSH_ROW_MAP, row `r`, word `w`, of die `d`. -/
def MSH_ROW_MAP (d r w : Nat) : Nat := 0x1000000 + 0x100000 * d + 0x2000 + 0x80 * r + 8 * w
/-- TIL_FENCE (unit `d`, instance `k`). -/
def TIL_FENCE (d k : Nat) : Nat := 0x1000000 + 0x100000 * d + 0x4000 + 0x8 * k
/-- MSH_MAP_EVEN (unit `d`, instance `k`). -/
def MSH_MAP_EVEN (d k : Nat) : Nat := 0x1000000 + 0x100000 * d + 0x10000 + 0x4 * k
/-- MSH_MAP_ODD (unit `d`, instance `k`). -/
def MSH_MAP_ODD (d k : Nat) : Nat := 0x1000000 + 0x100000 * d + 0x20000 + 0x4 * k
/-- MEM_ID of unit `m`. -/
def MEM_ID (m : Nat) : Nat := 0x2000000 + 0x10000 * m + 0x0
/-- MEM_CTRL of unit `m`. -/
def MEM_CTRL (m : Nat) : Nat := 0x2000000 + 0x10000 * m + 0x4
/-- MEM_STATUS of unit `m`. -/
def MEM_STATUS (m : Nat) : Nat := 0x2000000 + 0x10000 * m + 0x8
/-- MEM_TBL_ADDR of unit `m`. -/
def MEM_TBL_ADDR (m : Nat) : Nat := 0x2000000 + 0x10000 * m + 0x10
/-- MEM_TBL_DATA of unit `m`. -/
def MEM_TBL_DATA (m : Nat) : Nat := 0x2000000 + 0x10000 * m + 0x18
/-- MEM_ERR_STATUS of unit `m`. -/
def MEM_ERR_STATUS (m : Nat) : Nat := 0x2000000 + 0x10000 * m + 0x20
/-- MEM_ERR_INFO of unit `m`. -/
def MEM_ERR_INFO (m : Nat) : Nat := 0x2000000 + 0x10000 * m + 0x24
/-- MEM_ERR_ADDR of unit `m`. -/
def MEM_ERR_ADDR (m : Nat) : Nat := 0x2000000 + 0x10000 * m + 0x28
/-- MEM_ECC_COUNT of unit `m`. -/
def MEM_ECC_COUNT (m : Nat) : Nat := 0x2000000 + 0x10000 * m + 0x2c
/-- MEM_ATOMIC_PEAK of unit `m`. -/
def MEM_ATOMIC_PEAK (m : Nat) : Nat := 0x2000000 + 0x10000 * m + 0x30
/-- HST_ID of unit `i`. -/
def HST_ID (i : Nat) : Nat := 0x3000000 + 0x100000 * i + 0x0
/-- HST_CTRL of unit `i`. -/
def HST_CTRL (i : Nat) : Nat := 0x3000000 + 0x100000 * i + 0x4
/-- HST_LINK of unit `i`. -/
def HST_LINK (i : Nat) : Nat := 0x3000000 + 0x100000 * i + 0x8
/-- HST_VLAN of unit `i`. -/
def HST_VLAN (i : Nat) : Nat := 0x3000000 + 0x100000 * i + 0xc
/-- HST_MHP_PORT of unit `i`. -/
def HST_MHP_PORT (i : Nat) : Nat := 0x3000000 + 0x100000 * i + 0x30
/-- HST_PFC of unit `i`. -/
def HST_PFC (i : Nat) : Nat := 0x3000000 + 0x100000 * i + 0x34
/-- HST_SESSIONS of unit `i`. -/
def HST_SESSIONS (i : Nat) : Nat := 0x3000000 + 0x100000 * i + 0x40
/-- HST_CONFLICTS of unit `i`. -/
def HST_CONFLICTS (i : Nat) : Nat := 0x3000000 + 0x100000 * i + 0x44
/-- HST_DROPS of unit `i`. -/
def HST_DROPS (i : Nat) : Nat := 0x3000000 + 0x100000 * i + 0x48
/-- HST_RDMA of unit `i`. -/
def HST_RDMA (i : Nat) : Nat := 0x3000000 + 0x100000 * i + 0x4c
/-- HST_QPS of unit `i`. -/
def HST_QPS (i : Nat) : Nat := 0x3000000 + 0x100000 * i + 0x50
/-- HST_MAC_LO of unit `i`. -/
def HST_MAC_LO (i : Nat) : Nat := 0x3000000 + 0x100000 * i + 0x10
/-- HST_MAC_HI of unit `i`. -/
def HST_MAC_HI (i : Nat) : Nat := 0x3000000 + 0x100000 * i + 0x14
/-- HST_IPV4 of unit `i`. -/
def HST_IPV4 (i : Nat) : Nat := 0x3000000 + 0x100000 * i + 0x18
/-- HST_IPV6 (unit `i`, instance `k`). -/
def HST_IPV6 (i k : Nat) : Nat := 0x3000000 + 0x100000 * i + 0x20 + 0x4 * k
/-- FAB_ID of unit `i`. -/
def FAB_ID (i : Nat) : Nat := 0x3000000 + 0x100000 * i + 0x0
/-- FAB_CTRL of unit `i`. -/
def FAB_CTRL (i : Nat) : Nat := 0x3000000 + 0x100000 * i + 0x4
/-- FAB_COORD of unit `i`. -/
def FAB_COORD (i : Nat) : Nat := 0x3000000 + 0x100000 * i + 0x8
/-- FAB_HOLD of unit `i`. -/
def FAB_HOLD (i : Nat) : Nat := 0x3000000 + 0x100000 * i + 0xc
/-- FAB_BEACON of unit `i`. -/
def FAB_BEACON (i : Nat) : Nat := 0x3000000 + 0x100000 * i + 0x10
/-- FAB_TREE of unit `i`. -/
def FAB_TREE (i : Nat) : Nat := 0x3000000 + 0x100000 * i + 0x14
/-- FAB_FC_LEVEL of unit `i`. -/
def FAB_FC_LEVEL (i : Nat) : Nat := 0x3000000 + 0x100000 * i + 0x18
/-- FAB_TBL_ADDR of unit `i`. -/
def FAB_TBL_ADDR (i : Nat) : Nat := 0x3000000 + 0x100000 * i + 0x20
/-- FAB_TBL_DATA of unit `i`. -/
def FAB_TBL_DATA (i : Nat) : Nat := 0x3000000 + 0x100000 * i + 0x28
/-- FAB_ERR_STATUS of unit `i`. -/
def FAB_ERR_STATUS (i : Nat) : Nat := 0x3000000 + 0x100000 * i + 0x30
/-- FAB_ERR_INFO of unit `i`. -/
def FAB_ERR_INFO (i : Nat) : Nat := 0x3000000 + 0x100000 * i + 0x34
/-- FAB_ERR_COUNT of unit `i`. -/
def FAB_ERR_COUNT (i : Nat) : Nat := 0x3000000 + 0x100000 * i + 0x38
/-- FAB_LOSS of unit `i`. -/
def FAB_LOSS (i : Nat) : Nat := 0x3000000 + 0x100000 * i + 0x3c
/-- FAB_MAP_TICK of unit `i`. -/
def FAB_MAP_TICK (i : Nat) : Nat := 0x3000000 + 0x100000 * i + 0x40
/-- FAB_PORT_CTRL (unit `i`, instance `k`). -/
def FAB_PORT_CTRL (i k : Nat) : Nat := 0x3000000 + 0x100000 * i + 0x100 + 0x10 * k
/-- FAB_PORT_STATUS (unit `i`, instance `k`). -/
def FAB_PORT_STATUS (i k : Nat) : Nat := 0x3000000 + 0x100000 * i + 0x104 + 0x10 * k
/-- FAB_PORT_DELAY (unit `i`, instance `k`). -/
def FAB_PORT_DELAY (i k : Nat) : Nat := 0x3000000 + 0x100000 * i + 0x108 + 0x10 * k
/-- FAB_MAP_EVEN (unit `i`, instance `k`). -/
def FAB_MAP_EVEN (i k : Nat) : Nat := 0x3000000 + 0x100000 * i + 0x80000 + 0x4 * k
/-- FAB_MAP_ODD (unit `i`, instance `k`). -/
def FAB_MAP_ODD (i k : Nat) : Nat := 0x3000000 + 0x100000 * i + 0x90000 + 0x4 * k

end Reg

/-- The registers of the identity block. -/
def rows_ident : List RegRow :=
  [
  ⟨0x0, 1, 4, 0x0, 0x0, 0x0, 0x0, 0x0, 0x0, 0x10370000⟩ /- CAP_ID -/,
  ⟨0xc, 1, 4, 0x0, 0x0, 0x0, 0x0, 0x0, 0x0, 0x0⟩ /- CAP_STEPPING -/,
  ⟨0x20, 1, 4, 0x0, 0x0, 0x0, 0x0, 0x0, 0x0, 0x0⟩ /- CAP_UNITS_0 -/,
  ⟨0x24, 1, 4, 0x0, 0x0, 0x0, 0x0, 0x0, 0x0, 0x0⟩ /- CAP_UNITS_1 -/,
  ⟨0x28, 1, 4, 0x0, 0x0, 0xf, 0x0, 0x0, 0x0, 0x0⟩ /- CAP_EVENTS -/,
  ⟨0x2c, 1, 4, 0x0, 0x0, 0x0, 0x0, 0x0, 0x0, 0x0⟩ /- CAP_ERR_ADDR_LO -/,
  ⟨0x30, 1, 4, 0x0, 0x0, 0x0, 0x0, 0x0, 0x0, 0x0⟩ /- CAP_ERR_INFO -/,
  ⟨0x4, 1, 4, 0x0, 0x0, 0x0, 0x0, 0x0, 0x0, 0x2d594d45⟩ /- CAP_PART_0 -/,
  ⟨0x8, 1, 4, 0x0, 0x0, 0x0, 0x0, 0x0, 0x0, 0x31534d⟩ /- CAP_PART_1 -/,
  ⟨0x10, 4, 4, 0x0, 0x0, 0x0, 0x0, 0x0, 0x0, 0x0⟩ /- CAP_SERIAL -/,
  ⟨0x100, 16320, 4, 0x0, 0x0, 0x0, 0x0, 0x0, 0x0, 0x0⟩ /- CAP_LIST -/]

/-- The registers of the reset block. -/
def rows_rst : List RegRow :=
  [
  ⟨0x0, 1, 4, 0x0, 0x0, 0x0, 0x0, 0x0, 0x0, 0x10080000⟩ /- RST_ID -/,
  ⟨0x4, 1, 4, 0x0, 0x0, 0x0, 0x80000000, 0x0, 0x0, 0x0⟩ /- RST_CTRL -/,
  ⟨0x8, 1, 4, 0x0, 0x0, 0x0, 0x0, 0x0, 0x0, 0x0⟩ /- RST_LAST -/,
  ⟨0xc, 1, 4, 0x0, 0x0, 0x0, 0x0, 0x0, 0x0, 0x0⟩ /- RST_TOTAL -/,
  ⟨0x20, 1, 4, 0x0, 0x0, 0x0, 0x0, 0x0, 0x0, 0x0⟩ /- RST_STATUS -/,
  ⟨0x24, 1, 4, 0x0, 0x0, 0x0, 0x0, 0x8ff00000, 0x0, 0x0⟩ /- RST_REQ -/,
  ⟨0x10, 4, 4, 0x0, 0x0, 0x0, 0x0, 0x0, 0x0, 0x0⟩ /- RST_COUNT -/]

/-- The registers of the clock block. -/
def rows_clk : List RegRow :=
  [
  ⟨0x0, 1, 4, 0x0, 0x1, 0x0, 0x80000000, 0x0, 0x0, 0x1⟩ /- CLK_CTRL -/,
  ⟨0x4, 1, 4, 0x0, 0x0, 0x0, 0x0, 0x0, 0x0, 0x0⟩ /- CLK_STATUS -/,
  ⟨0x8, 1, 4, 0x0, 0x0, 0x3, 0x0, 0x0, 0x0, 0x0⟩ /- CLK_EVENTS -/,
  ⟨0xc, 1, 4, 0xffff, 0x0, 0x0, 0x0, 0x0, 0x0, 0x0⟩ /- CLK_REF_LOSSES -/,
  ⟨0x10, 1, 4, 0xffffffff, 0x0, 0x0, 0x0, 0x0, 0x0, 0x0⟩ /- CLK_HOLD_MS -/,
  ⟨0x14, 1, 4, 0x0, 0x0, 0x0, 0x0, 0x0, 0x0, 0x0⟩ /- CLK_OSC_OFFSET -/,
  ⟨0x1000, 256, 16, 0x0, 0x0, 0x0, 0x0, 0x0, 0x0, 0x0⟩ /- CLK_RGN_CUR_COUNT -/,
  ⟨0x1004, 256, 16, 0x0, 0x0, 0x0, 0x0, 0x0, 0x0, 0x0⟩ /- CLK_RGN_CUR_TIME -/,
  ⟨0x1008, 256, 16, 0x0, 0x0, 0x0, 0x0, 0x0, 0x0, 0x0⟩ /- CLK_RGN_LAST_COUNT -/,
  ⟨0x100c, 256, 16, 0x0, 0x0, 0x0, 0x0, 0x0, 0x0, 0x0⟩ /- CLK_RGN_LAST_TIME -/]

/-- The registers of the power block. -/
def rows_pwr : List RegRow :=
  [
  ⟨0x0, 1, 4, 0x0, 0x0, 0x0, 0x0, 0x0, 0x0, 0x10500000⟩ /- PWR_ID -/,
  ⟨0x4, 1, 4, 0x0, 0x0, 0x0, 0x80000000, 0x0, 0x0, 0x0⟩ /- PWR_CTRL -/,
  ⟨0x8, 1, 4, 0x3fff, 0x0, 0x0, 0x0, 0x0, 0x0, 0x1f40⟩ /- PWR_BUDGET -/,
  ⟨0xc, 1, 4, 0x0, 0x0, 0x0, 0x0, 0x0, 0x0, 0xf4240⟩ /- PWR_BUCKET -/,
  ⟨0x10, 1, 4, 0x0, 0x0, 0x0, 0x0, 0x0, 0x0, 0x0⟩ /- PWR_INPUT -/,
  ⟨0x14, 1, 4, 0x0, 0x0, 0x0, 0x0, 0x0, 0x0, 0x40000000⟩ /- PWR_GOV -/,
  ⟨0x20, 1, 4, 0x0, 0x0, 0xf, 0x0, 0x0, 0x0, 0x0⟩ /- PWR_EVENTS -/,
  ⟨0x18, 1, 4, 0x0, 0x0, 0x0, 0x0, 0x0, 0x0, 0x0⟩ /- PWR_WEAR_ON -/,
  ⟨0x1c, 1, 4, 0x0, 0x0, 0x0, 0x0, 0x0, 0x0, 0x0⟩ /- PWR_WEAR_PEAK -/,
  ⟨0x40, 5, 4, 0x0, 0x0, 0x0, 0x0, 0x0, 0x0, 0x0⟩ /- PWR_DOM -/,
  ⟨0x100, 80, 4, 0x0, 0x0, 0x0, 0x0, 0x0, 0x0, 0x0⟩ /- PWR_RAIL -/]

/-- The registers of the thermal block. -/
def rows_thm : List RegRow :=
  [
  ⟨0x0, 1, 4, 0x0, 0x0, 0x0, 0x0, 0x0, 0x0, 0x10272000⟩ /- THM_ID -/,
  ⟨0x4, 1, 4, 0x0, 0x0, 0x0, 0x80000000, 0x0, 0x0, 0x0⟩ /- THM_CTRL -/,
  ⟨0x8, 1, 4, 0x0, 0x0, 0x0, 0x0, 0x0, 0x0, 0x0⟩ /- THM_STATUS -/,
  ⟨0xc, 1, 4, 0x0, 0x0, 0xff, 0x0, 0x0, 0x0, 0x0⟩ /- THM_EVENTS -/,
  ⟨0x10, 1, 4, 0x0, 0x0, 0x0, 0x0, 0x0, 0x0, 0x0⟩ /- THM_TRIP -/,
  ⟨0x14, 1, 4, 0x0, 0x0, 0x0, 0x0, 0x0, 0x0, 0x0⟩ /- THM_SUSPECT -/,
  ⟨0x100, 16, 16, 0x0, 0x0, 0x0, 0x0, 0x0, 0x0, 0x0⟩ /- THM_DAMP -/,
  ⟨0x104, 16, 16, 0x0, 0x0, 0x0, 0x0, 0x0, 0x0, 0x0⟩ /- THM_DAMP_SKIP -/,
  ⟨0x108, 16, 16, 0x0, 0x0, 0x0, 0x0, 0x0, 0x0, 0x0⟩ /- THM_DAMP_HALF -/,
  ⟨0x1000, 626, 4, 0x0, 0x0, 0x0, 0x0, 0x0, 0x0, 0x0⟩ /- THM_SENSOR -/]

/-- The registers of the mailbox block. -/
def rows_mbx : List RegRow :=
  [
  ⟨0x0, 32, 64, 0x0, 0x0, 0x0, 0x0, 0xffffffff, 0x0, 0x0⟩ /- MBX_IN_WR -/,
  ⟨0x4, 32, 64, 0x0, 0x0, 0x0, 0x0, 0x0, 0x0, 0x0⟩ /- MBX_IN_RD -/,
  ⟨0x8, 32, 64, 0x0, 0x0, 0x0, 0x0, 0x1, 0x0, 0x0⟩ /- MBX_IN_BELL -/,
  ⟨0xc, 32, 64, 0xffffffff, 0x0, 0x0, 0x0, 0x0, 0x0, 0x0⟩ /- MBX_IN_ACK -/,
  ⟨0x10, 32, 64, 0x0, 0x0, 0x0, 0x0, 0xffffffff, 0x0, 0x0⟩ /- MBX_OUT_WR -/,
  ⟨0x14, 32, 64, 0x0, 0x0, 0x0, 0x0, 0x0, 0x0, 0x0⟩ /- MBX_OUT_RD -/,
  ⟨0x18, 32, 64, 0x0, 0x0, 0x0, 0x0, 0x1, 0x0, 0x0⟩ /- MBX_OUT_BELL -/,
  ⟨0x1c, 32, 64, 0xffffffff, 0x0, 0x0, 0x0, 0x0, 0x0, 0x0⟩ /- MBX_OUT_ACK -/,
  ⟨0x20, 32, 64, 0x0, 0x0, 0x200300, 0x0, 0x0, 0x0, 0x0⟩ /- MBX_STATUS -/,
  ⟨0x24, 32, 64, 0xffffff00, 0x0, 0x0, 0x0, 0x0, 0x0, 0x0⟩ /- MBX_VER -/,
  ⟨0x28, 32, 64, 0x0, 0x0, 0x0, 0x0, 0x0, 0x0, 0x0⟩ /- MBX_BIND -/,
  ⟨0x2c, 32, 64, 0xffffffff, 0x0, 0x0, 0x0, 0x0, 0x0, 0x0⟩ /- MBX_COUNT -/] ++
  [
  ⟨0x800, 1, 4, 0x0, 0x0, 0x0, 0x0, 0x0, 0x0, 0x10102000⟩ /- MBX_ID -/,
  ⟨0x804, 1, 4, 0x0, 0x0, 0x0, 0x0, 0x0, 0x0, 0x0⟩ /- MBX_PENDING -/]

/-- The registers of the Glovebox block. -/
def rows_glv : List RegRow :=
  [
  ⟨0x0, 1, 4, 0x0, 0x0, 0x0, 0x0, 0x0, 0x0, 0x10000000⟩ /- GLV_ID -/,
  ⟨0x4, 1, 4, 0x0, 0x0, 0x0, 0x80000000, 0x0, 0x0, 0x0⟩ /- GLV_CTRL -/,
  ⟨0x8, 1, 4, 0x0, 0x0, 0x0, 0x0, 0x0, 0x0, 0x0⟩ /- GLV_STATUS -/,
  ⟨0xc, 1, 4, 0x0, 0x0, 0x1f, 0x0, 0x0, 0x0, 0x0⟩ /- GLV_EVENTS -/,
  ⟨0x10, 1, 4, 0x0, 0x0, 0x0, 0x0, 0x0, 0x0, 0x0⟩ /- GLV_TAMPER -/,
  ⟨0x14, 1, 4, 0x0, 0x0, 0x0, 0x0, 0x0, 0x0, 0x0⟩ /- GLV_ROOTS -/,
  ⟨0x18, 1, 4, 0x70000000, 0x0, 0x0, 0x80000000, 0x0, 0x0, 0x0⟩ /- GLV_CMD -/,
  ⟨0x1c, 1, 4, 0x0, 0x0, 0x0, 0x0, 0x0, 0x0, 0x0⟩ /- GLV_CMD_STATUS -/,
  ⟨0x20, 1, 4, 0x1fffffff, 0x0, 0x0, 0x0, 0x0, 0x0, 0x0⟩ /- GLV_CMD_OFF -/,
  ⟨0x40, 32, 4, 0x0, 0x0, 0x0, 0x0, 0x0, 0x0, 0x0⟩ /- GLV_MEAS -/,
  ⟨0xc0, 8, 4, 0x0, 0x0, 0x0, 0x0, 0xffffffff, 0x0, 0x0⟩ /- GLV_EXT_DATA -/,
  ⟨0x100, 8, 4, 0x0, 0x0, 0x0, 0x0, 0x0, 0x0, 0x0⟩ /- GLV_VENDOR_ROOT -/] ++
  [
  ⟨0x140, 32, 4, 0x0, 0x0, 0x0, 0x0, 0x0, 0x0, 0x0⟩ /- GLV_OWNER_ROOT -/,
  ⟨0x200, 8, 4, 0x0, 0x0, 0x0, 0x0, 0x0, 0x0, 0x0⟩ /- GLV_ID_PK -/,
  ⟨0x8000, 1978, 4, 0x0, 0x0, 0x0, 0x0, 0x0, 0x0, 0x0⟩ /- GLV_CERT -/]

/-- The registers of the tick and time block. -/
def rows_tck : List RegRow :=
  [
  ⟨0x0, 1, 4, 0x0, 0x0, 0x0, 0x0, 0x0, 0x0, 0x10010000⟩ /- TCK_ID -/,
  ⟨0x4, 1, 4, 0x0, 0x0, 0x0, 0x80000000, 0x0, 0x0, 0x0⟩ /- TCK_CTRL -/,
  ⟨0x8, 1, 4, 0x0, 0x300ff, 0x0, 0x0, 0x0, 0x0, 0x5⟩ /- TCK_SRC -/,
  ⟨0xc, 1, 4, 0xfffff, 0x0, 0x0, 0x0, 0x0, 0x0, 0x0⟩ /- TCK_PERIOD -/,
  ⟨0x30, 1, 4, 0x0, 0x0, 0x0, 0x0, 0x0, 0xffffffff, 0x0⟩ /- TCK_EPOCH -/,
  ⟨0x38, 1, 4, 0x0, 0x0, 0x0, 0x0, 0x0, 0x0, 0x0⟩ /- TCK_STATUS -/,
  ⟨0x3c, 1, 4, 0x0, 0x0, 0x3f, 0x0, 0x0, 0x0, 0x0⟩ /- TCK_EVENTS -/,
  ⟨0x40, 1, 4, 0xffffffff, 0x0, 0x0, 0x0, 0x0, 0x0, 0x0⟩ /- TCK_COUNTS -/,
  ⟨0x44, 1, 4, 0xffffffff, 0x0, 0x0, 0x0, 0x0, 0x0, 0x0⟩ /- TCK_SRC_COUNT -/,
  ⟨0x48, 1, 4, 0x0, 0x0, 0x0, 0x0, 0x0, 0x0, 0x0⟩ /- TCK_MARGIN -/,
  ⟨0x4c, 1, 4, 0x7fffffff, 0x0, 0x0, 0x0, 0x0, 0x0, 0x7fffffff⟩ /- TCK_MIN_MARGIN -/,
  ⟨0x70, 1, 4, 0x0, 0xc0ff0000, 0x0, 0x0, 0x0, 0x0, 0x0⟩ /- TCK_PTP_CTRL -/] ++
  [
  ⟨0x74, 1, 4, 0x0, 0x0, 0x0, 0x0, 0x0, 0x0, 0x0⟩ /- TCK_PTP_STATUS -/,
  ⟨0x80, 1, 4, 0x0, 0x0, 0x0, 0x0, 0x0, 0x0, 0x0⟩ /- TCK_IMAGE_STATUS -/,
  ⟨0x84, 1, 4, 0x0, 0x0, 0x0, 0x0, 0x0, 0x0, 0x0⟩ /- TCK_IMAGE_ENERGY -/,
  ⟨0x200, 1, 4, 0x0, 0x0, 0x0, 0x0, 0x0, 0x0, 0x0⟩ /- TCK_COMMIT_STATUS -/,
  ⟨0x204, 1, 4, 0x0, 0xffffff, 0x0, 0x0, 0x0, 0x0, 0x7d0⟩ /- TCK_VOTE_WAIT -/,
  ⟨0x210, 1, 4, 0x0, 0x0, 0x0, 0x0, 0x0, 0x0, 0x0⟩ /- TCK_RCV_STATUS -/,
  ⟨0x214, 1, 4, 0x0, 0x0, 0x3f, 0x0, 0x0, 0x0, 0x0⟩ /- TCK_RCV_EVENTS -/,
  ⟨0x220, 1, 4, 0x0, 0x40000000, 0x0, 0x0, 0x0, 0x0, 0x0⟩ /- TCK_CKPT_CTRL -/,
  ⟨0x224, 1, 4, 0x0, 0x0, 0x0, 0x0, 0x0, 0x0, 0x0⟩ /- TCK_CKPT_STATUS -/,
  ⟨0x230, 1, 4, 0x0, 0x80fff000, 0x0, 0x0, 0x0, 0x0, 0x0⟩ /- TCK_CKPT_PEER -/,
  ⟨0x234, 1, 4, 0x0, 0xffffff, 0x0, 0x0, 0x0, 0x0, 0x0⟩ /- TCK_CKPT_PEER_BASE -/,
  ⟨0x240, 1, 4, 0xe0000000, 0x0, 0x0, 0x0, 0x0, 0x0, 0x0⟩ /- TCK_ROLE -/] ++
  [
  ⟨0x250, 1, 4, 0x0, 0x0, 0x0, 0x0, 0x0, 0x0, 0x0⟩ /- TCK_STOKER -/,
  ⟨0x10, 1, 4, 0x0, 0x0, 0x0, 0x0, 0x0, 0x0, 0x0⟩ /- TCK_GUARD -/,
  ⟨0x14, 1, 4, 0x0, 0x0, 0x0, 0x0, 0x0, 0x0, 0x0⟩ /- TCK_BUDGET -/,
  ⟨0x18, 1, 4, 0x0, 0x0, 0x0, 0x0, 0x0, 0x0, 0x0⟩ /- TCK_GUARD_OFF -/,
  ⟨0x20, 1, 4, 0x0, 0x0, 0x0, 0x0, 0x0, 0xffffffff, 0x0⟩ /- TCK_SEQ_LO -/,
  ⟨0x28, 1, 4, 0x0, 0x0, 0x0, 0x0, 0x0, 0xffffffff, 0x0⟩ /- TCK_SEQ_HI -/,
  ⟨0x50, 1, 4, 0x0, 0x0, 0x0, 0x0, 0x0, 0x0, 0x0⟩ /- TCK_TIME_LO -/,
  ⟨0x54, 1, 4, 0x0, 0x0, 0x0, 0x0, 0x0, 0x0, 0x0⟩ /- TCK_TIME_HI -/,
  ⟨0x58, 1, 4, 0x0, 0x0, 0x0, 0x0, 0x0, 0x0, 0x0⟩ /- TCK_BEACON_LO -/,
  ⟨0x5c, 1, 4, 0x0, 0x0, 0x0, 0x0, 0x0, 0x0, 0x0⟩ /- TCK_BEACON_HI -/,
  ⟨0x60, 1, 4, 0x0, 0x0, 0x0, 0x0, 0xffffffff, 0x0, 0x0⟩ /- TCK_TIME_STEP_LO -/,
  ⟨0x64, 1, 4, 0x0, 0x0, 0x0, 0x0, 0xffffffff, 0x0, 0x0⟩ /- TCK_TIME_STEP_HI -/] ++
  [
  ⟨0x78, 1, 4, 0x0, 0x0, 0x0, 0x0, 0x0, 0x0, 0x0⟩ /- TCK_PTP_OFFSET -/,
  ⟨0x7c, 1, 4, 0x0, 0x0, 0x0, 0x0, 0x0, 0x0, 0x0⟩ /- TCK_PTP_FREQ -/,
  ⟨0x400, 37, 16, 0x0, 0x0, 0x0, 0x0, 0x0, 0x0, 0x0⟩ /- TCK_DIE_TIME_LO -/,
  ⟨0x404, 37, 16, 0x0, 0x0, 0x0, 0x0, 0x0, 0x0, 0x0⟩ /- TCK_DIE_TIME_HI -/,
  ⟨0x408, 37, 16, 0x0, 0x0, 0x0, 0x0, 0x0, 0x0, 0x0⟩ /- TCK_DIE_ERR -/,
  ⟨0x208, 1, 4, 0x0, 0x0, 0x0, 0x0, 0x0, 0x0, 0x0⟩ /- TCK_LAST_COMMIT_LO -/,
  ⟨0x20c, 1, 4, 0x0, 0x0, 0x0, 0x0, 0x0, 0x0, 0x0⟩ /- TCK_LAST_COMMIT_HI -/,
  ⟨0x228, 1, 4, 0x0, 0x0, 0x0, 0x0, 0x0, 0x0, 0x0⟩ /- TCK_CKPT_LAST_LO -/,
  ⟨0x22c, 1, 4, 0x0, 0x0, 0x0, 0x0, 0x0, 0x0, 0x0⟩ /- TCK_CKPT_LAST_HI -/]

/-- The registers of the configuration block. -/
def rows_cfg : List RegRow :=
  [
  ⟨0x0, 1, 4, 0x0, 0x0, 0x0, 0x0, 0x0, 0x0, 0x10100000⟩ /- CFG_ID -/,
  ⟨0x4, 1, 4, 0x0, 0x1, 0x0, 0x80000000, 0x0, 0x0, 0x1⟩ /- CFG_CTRL -/,
  ⟨0x8, 1, 4, 0x0, 0x0, 0x0, 0x0, 0x0, 0x0, 0x0⟩ /- CFG_STATUS -/,
  ⟨0xc, 1, 4, 0x0, 0x0, 0x0, 0x0, 0x0, 0x0, 0x0⟩ /- CFG_SELECT -/,
  ⟨0x20, 1, 4, 0x81ffffff, 0x0, 0x0, 0x0, 0x0, 0x0, 0x0⟩ /- CFG_FLASH_ADDR -/,
  ⟨0x24, 1, 4, 0x0, 0x0, 0x0, 0x0, 0xffffffff, 0x0, 0x0⟩ /- CFG_FLASH_DATA -/,
  ⟨0x28, 1, 4, 0x70000000, 0x0, 0x0, 0x80000000, 0x0, 0x0, 0x0⟩ /- CFG_CMD -/,
  ⟨0x2c, 1, 4, 0x0, 0x0, 0x0, 0x0, 0x0, 0x0, 0x0⟩ /- CFG_CMD_STATUS -/,
  ⟨0x10, 1, 4, 0x0, 0x0, 0x0, 0x0, 0x0, 0x0, 0x0⟩ /- CFG_VER_A -/,
  ⟨0x14, 1, 4, 0x0, 0x0, 0x0, 0x0, 0x0, 0x0, 0x0⟩ /- CFG_VER_B -/,
  ⟨0x100, 32, 4, 0x0, 0x0, 0x0, 0x0, 0x0, 0x0, 0x0⟩ /- CFG_OPTION -/]

/-- The registers of the Hearth block. -/
def rows_hrt : List RegRow :=
  [
  ⟨0x0, 1, 4, 0x0, 0x0, 0x0, 0x0, 0x0, 0x0, 0x10249400⟩ /- HRT_ID -/,
  ⟨0x4, 1, 4, 0x3, 0x0, 0x0, 0x80000000, 0x0, 0x0, 0x3⟩ /- HRT_CTRL -/,
  ⟨0x8, 1, 4, 0x0, 0x0, 0x0, 0x0, 0x0, 0x0, 0x0⟩ /- HRT_STATUS -/,
  ⟨0x10, 1, 4, 0x0, 0x0, 0x0, 0x1, 0x0, 0x0, 0x0⟩ /- HRT_SHADOW -/,
  ⟨0x20, 1, 4, 0xbff00fff, 0x0, 0x0, 0x0, 0x0, 0x0, 0x0⟩ /- HRT_TBL_ADDR -/,
  ⟨0x28, 1, 4, 0x0, 0x0, 0x0, 0x0, 0x0, 0xffffffff, 0x0⟩ /- HRT_TBL_DATA -/,
  ⟨0x30, 1, 4, 0x0, 0x0, 0xc0000000, 0x0, 0x0, 0x0, 0x0⟩ /- HRT_ERR_STATUS -/,
  ⟨0x34, 1, 4, 0x0, 0x0, 0x0, 0x0, 0x0, 0x0, 0x0⟩ /- HRT_ERR_INFO -/,
  ⟨0x38, 1, 4, 0xffffffff, 0x0, 0x0, 0x0, 0x0, 0x0, 0x0⟩ /- HRT_ERR_COUNT -/,
  ⟨0x40, 1, 4, 0x0, 0x0, 0x0, 0x0, 0x0, 0x0, 0x0⟩ /- HRT_MAP_TICK -/,
  ⟨0x50, 1, 4, 0x7ffff07f, 0x0, 0x0, 0x80000000, 0x0, 0x0, 0x0⟩ /- HRT_LANE_SWAP -/,
  ⟨0x54, 1, 4, 0x0, 0x0, 0x0, 0x0, 0x0, 0x0, 0x0⟩ /- HRT_SWAP_STATUS -/] ++
  [
  ⟨0x60, 1, 4, 0x0, 0xffff, 0x0, 0x0, 0x0, 0x0, 0x4020⟩ /- HRT_FC_LEVEL -/,
  ⟨0x64, 1, 4, 0x0, 0xfff0fff, 0x0, 0x0, 0x0, 0x0, 0x4000200⟩ /- HRT_PAIR_FC_LEVEL -/,
  ⟨0x80, 1, 4, 0xffffffff, 0x0, 0x0, 0x0, 0x0, 0x0, 0x0⟩ /- HRT_PILOT_COUNT -/,
  ⟨0x60000, 5472, 4, 0x0, 0x0, 0x0, 0x0, 0x0, 0x0, 0x0⟩ /- HRT_MAP_EVEN -/,
  ⟨0x70000, 5472, 4, 0x0, 0x0, 0x0, 0x0, 0x0, 0x0, 0x0⟩ /- HRT_MAP_ODD -/,
  ⟨0x100, 1, 4, 0x0, 0x0, 0x0, 0x0, 0x0, 0xffffffff, 0x76543210⟩ /- HRT_BAY_MAP_0 -/,
  ⟨0x108, 1, 4, 0x0, 0x0, 0x0, 0x0, 0x0, 0xffffffff, 0xfedcba98⟩ /- HRT_BAY_MAP_1 -/]

/-- The registers of the ember-sum block. -/
def rows_emb : List RegRow :=
  [
  ⟨0x0, 1, 4, 0x0, 0x0, 0x0, 0x0, 0x0, 0x0, 0x10241024⟩ /- EMB_ID -/,
  ⟨0x4, 1, 4, 0x0, 0x0, 0x0, 0x80000000, 0x0, 0x0, 0x0⟩ /- EMB_CTRL -/,
  ⟨0x10, 1, 4, 0xbfc00fff, 0x0, 0x0, 0x0, 0x0, 0x0, 0x0⟩ /- EMB_TBL_ADDR -/,
  ⟨0x18, 1, 4, 0x0, 0x0, 0x0, 0x0, 0x0, 0xffffffff, 0x0⟩ /- EMB_TBL_DATA -/,
  ⟨0x20, 1, 4, 0x0, 0x0, 0xc0000000, 0x0, 0x0, 0x0, 0x0⟩ /- EMB_ERR_STATUS -/,
  ⟨0x24, 1, 4, 0x0, 0x0, 0x0, 0x0, 0x0, 0x0, 0x0⟩ /- EMB_ERR_INFO -/,
  ⟨0x28, 1, 4, 0xffffffff, 0x0, 0x0, 0x0, 0x0, 0x0, 0x0⟩ /- EMB_ERR_COUNT -/,
  ⟨0x30, 1, 4, 0x0, 0x0, 0x0, 0x0, 0x0, 0x0, 0x0⟩ /- EMB_CAL_SUMMARY -/,
  ⟨0x40, 1, 4, 0x0, 0x7, 0x0, 0x0, 0x0, 0x0, 0x2⟩ /- EMB_ALIGN_TOL -/]

/-- The registers of the Bellows block. -/
def rows_blw : List RegRow :=
  [
  ⟨0x0, 1, 4, 0x0, 0x0, 0x0, 0x0, 0x0, 0x0, 0x10c24000⟩ /- BLW_ID -/,
  ⟨0x4, 1, 4, 0x0, 0x1, 0x0, 0x80000000, 0x0, 0x0, 0x1⟩ /- BLW_CTRL -/,
  ⟨0x8, 1, 4, 0x0, 0xff, 0x0, 0x0, 0x0, 0x0, 0x3c1e0f⟩ /- BLW_THRESH -/,
  ⟨0xc, 1, 4, 0x0, 0x0, 0x0, 0x0, 0x0, 0x0, 0x0⟩ /- BLW_STATUS -/,
  ⟨0x10, 1, 4, 0x0, 0x0, 0x7f, 0x0, 0x0, 0x0, 0x0⟩ /- BLW_EVENTS -/,
  ⟨0x14, 1, 4, 0x70f00000, 0x0, 0x0, 0x80000000, 0x0, 0x0, 0x0⟩ /- BLW_CMD -/,
  ⟨0x18, 1, 4, 0x0, 0x0, 0x0, 0x0, 0x0, 0x0, 0x0⟩ /- BLW_CMD_STATUS -/,
  ⟨0x1c, 1, 4, 0xffffffff, 0x0, 0x0, 0x0, 0x0, 0x0, 0x0⟩ /- BLW_HANDOVERS -/,
  ⟨0x40, 12, 8, 0x0, 0x0, 0x0, 0x0, 0x0, 0x0, 0x0⟩ /- BLW_COMB -/,
  ⟨0x44, 12, 8, 0x0, 0x0, 0x0, 0x0, 0x0, 0x0, 0x0⟩ /- BLW_REF -/]

/-- The registers of the calibration block. -/
def rows_cal : List RegRow :=
  [
  ⟨0x0, 1, 4, 0x0, 0x0, 0x0, 0x0, 0x0, 0x0, 0x10695384⟩ /- CAL_ID -/,
  ⟨0x4, 1, 4, 0x3, 0x0, 0x0, 0x80000000, 0x0, 0x0, 0x3⟩ /- CAL_CTRL -/,
  ⟨0x8, 1, 4, 0x7ffffc7f, 0x0, 0x0, 0x80000000, 0x0, 0x0, 0x0⟩ /- CAL_REQ -/,
  ⟨0xc, 1, 4, 0x0, 0x0, 0x0, 0x0, 0x0, 0x0, 0x0⟩ /- CAL_STATUS -/,
  ⟨0x10, 1, 4, 0x0, 0xffff00ff, 0x0, 0x0, 0x0, 0x0, 0x3120006⟩ /- CAL_TOL -/,
  ⟨0x14, 1, 4, 0xffffffff, 0x0, 0x0, 0x0, 0x0, 0x0, 0x0⟩ /- CAL_COUNTS -/,
  ⟨0x20, 1, 4, 0xbff07fff, 0x0, 0x0, 0x0, 0x0, 0x0, 0x0⟩ /- CAL_TBL_ADDR -/,
  ⟨0x28, 1, 4, 0x0, 0x0, 0x0, 0x0, 0x0, 0xffffffff, 0x0⟩ /- CAL_TBL_DATA -/,
  ⟨0x30, 1, 4, 0x0, 0x0, 0x0, 0x0, 0x0, 0x0, 0x0⟩ /- CAL_LOOP_SUMMARY -/]

/-- The registers of the compute die block. -/
def rows_die : List RegRow :=
  [
  ⟨0x0, 1, 4, 0x0, 0x0, 0x0, 0x0, 0x0, 0x0, 0x1000000⟩ /- MSH_ID -/,
  ⟨0x4, 1, 4, 0x3, 0x0, 0x0, 0x80000000, 0x0, 0x0, 0x3⟩ /- MSH_CTRL -/,
  ⟨0x8, 1, 4, 0x0, 0xff, 0x0, 0x0, 0x0, 0x0, 0x62⟩ /- MSH_FC_LEVEL -/,
  ⟨0xc, 1, 4, 0x0, 0xffff, 0x0, 0x0, 0x0, 0x0, 0x100⟩ /- MSH_WATCHDOG -/,
  ⟨0x10, 1, 4, 0x0, 0x0, 0x0, 0x1, 0x0, 0x0, 0x0⟩ /- MSH_SHADOW -/,
  ⟨0x20, 1, 4, 0xbfffffff, 0x0, 0x0, 0x0, 0x0, 0x0, 0x0⟩ /- MSH_TBL_ADDR -/,
  ⟨0x28, 1, 4, 0x0, 0x0, 0x0, 0x0, 0x0, 0xffffffff, 0x0⟩ /- MSH_TBL_DATA -/,
  ⟨0x30, 1, 4, 0x0, 0x0, 0xc0000000, 0x0, 0x0, 0x0, 0x0⟩ /- MSH_ERR_STATUS -/,
  ⟨0x34, 1, 4, 0x0, 0x0, 0x0, 0x0, 0x0, 0x0, 0x0⟩ /- MSH_ERR_INFO -/,
  ⟨0x38, 1, 4, 0xffffffff, 0x0, 0x0, 0x0, 0x0, 0x0, 0x0⟩ /- MSH_ERR_COUNT -/,
  ⟨0x40, 1, 4, 0x0, 0x0, 0x0, 0x0, 0x0, 0x0, 0x0⟩ /- MSH_MAP_TICK -/,
  ⟨0x44, 1, 4, 0xffffffff, 0x0, 0x0, 0x0, 0x0, 0x0, 0x0⟩ /- MSH_SLIP_TOTAL -/] ++
  [
  ⟨0x80, 1, 4, 0x0, 0x0, 0x0, 0x0, 0x0, 0x80000000, 0x0⟩ /- TIL_DIE_FENCE -/,
  ⟨0x180, 1, 4, 0x0, 0x0, 0xc0000000, 0x0, 0x0, 0x0, 0x0⟩ /- TIL_CARRY_ERR -/,
  ⟨0x100, 8, 16, 0x80001fff, 0x0, 0x0, 0x0, 0x0, 0x0, 0x0⟩ /- TIL_CARRY_0 -/,
  ⟨0x104, 8, 16, 0x3fff, 0x0, 0x0, 0x0, 0x0, 0x0, 0x0⟩ /- TIL_CARRY_1 -/,
  ⟨0x108, 8, 16, 0x1fff, 0x0, 0x0, 0x0, 0x0, 0x0, 0x0⟩ /- TIL_CARRY_2 -/,
  ⟨0x10c, 8, 16, 0x1fff, 0x0, 0x0, 0x0, 0x0, 0x0, 0x0⟩ /- TIL_CARRY_3 -/,
  ⟨0x4000, 64, 8, 0x0, 0x0, 0x0, 0x0, 0x0, 0xbfbf0000, 0x0⟩ /- TIL_FENCE -/,
  ⟨0x10000, 12800, 4, 0x0, 0x0, 0x0, 0x0, 0x0, 0x0, 0x0⟩ /- MSH_MAP_EVEN -/,
  ⟨0x20000, 12800, 4, 0x0, 0x0, 0x0, 0x0, 0x0, 0x0, 0x0⟩ /- MSH_MAP_ODD -/] ++
  (List.range 64).map (fun r => ⟨0x2000 + 0x80 * r, 12, 8, 0x0, 0x0, 0x0, 0x0, 0x0, 0x3f3f3f3f, 0x0⟩) /- MSH_ROW_MAP -/

/-- The registers of the memory stack block. -/
def rows_mem : List RegRow :=
  [
  ⟨0x0, 1, 4, 0x0, 0x0, 0x0, 0x0, 0x0, 0x0, 0x10030000⟩ /- MEM_ID -/,
  ⟨0x4, 1, 4, 0x100, 0xff, 0x0, 0x80000000, 0x0, 0x0, 0x118⟩ /- MEM_CTRL -/,
  ⟨0x8, 1, 4, 0x0, 0x0, 0x0, 0x0, 0x0, 0x0, 0x0⟩ /- MEM_STATUS -/,
  ⟨0x10, 1, 4, 0x800003ff, 0x0, 0x0, 0x0, 0x0, 0x0, 0x0⟩ /- MEM_TBL_ADDR -/,
  ⟨0x18, 1, 4, 0x0, 0x0, 0x0, 0x0, 0x0, 0xffffffff, 0x0⟩ /- MEM_TBL_DATA -/,
  ⟨0x20, 1, 4, 0x0, 0x0, 0xc0000000, 0x0, 0x0, 0x0, 0x0⟩ /- MEM_ERR_STATUS -/,
  ⟨0x24, 1, 4, 0x0, 0x0, 0x0, 0x0, 0x0, 0x0, 0x0⟩ /- MEM_ERR_INFO -/,
  ⟨0x28, 1, 4, 0x0, 0x0, 0x0, 0x0, 0x0, 0x0, 0x0⟩ /- MEM_ERR_ADDR -/,
  ⟨0x2c, 1, 4, 0xffffffff, 0x0, 0x0, 0x0, 0x0, 0x0, 0x0⟩ /- MEM_ECC_COUNT -/,
  ⟨0x30, 1, 4, 0xffff, 0x0, 0x0, 0x0, 0x0, 0x0, 0x0⟩ /- MEM_ATOMIC_PEAK -/]

/-- The registers of the host I/O die block. -/
def rows_hio : List RegRow :=
  [
  ⟨0x0, 1, 4, 0x0, 0x0, 0x0, 0x0, 0x0, 0x0, 0x10100000⟩ /- HST_ID -/,
  ⟨0x4, 1, 4, 0xf, 0x0, 0x0, 0x80000000, 0x0, 0x0, 0xb⟩ /- HST_CTRL -/,
  ⟨0x8, 1, 4, 0x0, 0x0, 0x0, 0x0, 0x0, 0x0, 0x0⟩ /- HST_LINK -/,
  ⟨0xc, 1, 4, 0x0, 0x8000efff, 0x0, 0x0, 0x0, 0x0, 0x0⟩ /- HST_VLAN -/,
  ⟨0x30, 1, 4, 0x0, 0xffff, 0x0, 0x0, 0x0, 0x0, 0xb798⟩ /- HST_MHP_PORT -/,
  ⟨0x34, 1, 4, 0x0, 0x700ff, 0x0, 0x0, 0x0, 0x0, 0x3000c⟩ /- HST_PFC -/,
  ⟨0x40, 1, 4, 0x0, 0x0, 0x0, 0x0, 0x0, 0x0, 0x0⟩ /- HST_SESSIONS -/,
  ⟨0x44, 1, 4, 0xffffffff, 0x0, 0x0, 0x0, 0x0, 0x0, 0x0⟩ /- HST_CONFLICTS -/,
  ⟨0x48, 1, 4, 0xffffffff, 0x0, 0x0, 0x0, 0x0, 0x0, 0x0⟩ /- HST_DROPS -/,
  ⟨0x4c, 1, 4, 0xffffffff, 0x0, 0x0, 0x0, 0x0, 0x0, 0x0⟩ /- HST_RDMA -/,
  ⟨0x50, 1, 4, 0x0, 0x0, 0x0, 0x0, 0x0, 0x0, 0x0⟩ /- HST_QPS -/,
  ⟨0x10, 1, 4, 0x0, 0x0, 0x0, 0x0, 0x0, 0x0, 0x0⟩ /- HST_MAC_LO -/] ++
  [
  ⟨0x14, 1, 4, 0x0, 0x0, 0x0, 0x0, 0x0, 0x0, 0x0⟩ /- HST_MAC_HI -/,
  ⟨0x18, 1, 4, 0x0, 0xffffffff, 0x0, 0x0, 0x0, 0x0, 0x0⟩ /- HST_IPV4 -/,
  ⟨0x20, 4, 4, 0x0, 0xffffffff, 0x0, 0x0, 0x0, 0x0, 0x0⟩ /- HST_IPV6 -/]

/-- The registers of the fabric I/O die block. -/
def rows_fio : List RegRow :=
  [
  ⟨0x0, 1, 4, 0x0, 0x0, 0x0, 0x0, 0x0, 0x0, 0x10100000⟩ /- FAB_ID -/,
  ⟨0x4, 1, 4, 0x1, 0x0, 0x0, 0x80000000, 0x0, 0x0, 0x1⟩ /- FAB_CTRL -/,
  ⟨0x8, 1, 4, 0x0, 0xffffff00, 0x0, 0x0, 0x0, 0x0, 0x0⟩ /- FAB_COORD -/,
  ⟨0xc, 1, 4, 0x7, 0x0, 0x0, 0x0, 0x0, 0x0, 0x0⟩ /- FAB_HOLD -/,
  ⟨0x10, 1, 4, 0x0, 0x800fffff, 0x0, 0x0, 0x0, 0x0, 0xfa0⟩ /- FAB_BEACON -/,
  ⟨0x14, 1, 4, 0x0, 0xf83f0000, 0x0, 0x0, 0x0, 0x0, 0x38000000⟩ /- FAB_TREE -/,
  ⟨0x18, 1, 4, 0x0, 0xffffff00, 0x0, 0x0, 0x0, 0x0, 0xc0080000⟩ /- FAB_FC_LEVEL -/,
  ⟨0x20, 1, 4, 0x8fc00fff, 0x0, 0x0, 0x0, 0x0, 0x0, 0x0⟩ /- FAB_TBL_ADDR -/,
  ⟨0x28, 1, 4, 0x0, 0x0, 0x0, 0x0, 0x0, 0xffffffff, 0x0⟩ /- FAB_TBL_DATA -/,
  ⟨0x30, 1, 4, 0x0, 0x0, 0xc0000000, 0x0, 0x0, 0x0, 0x0⟩ /- FAB_ERR_STATUS -/,
  ⟨0x34, 1, 4, 0x0, 0x0, 0x0, 0x0, 0x0, 0x0, 0x0⟩ /- FAB_ERR_INFO -/,
  ⟨0x38, 1, 4, 0xffffffff, 0x0, 0x0, 0x0, 0x0, 0x0, 0x0⟩ /- FAB_ERR_COUNT -/] ++
  [
  ⟨0x3c, 1, 4, 0x0, 0x0, 0xc0000000, 0x0, 0x0, 0x0, 0x0⟩ /- FAB_LOSS -/,
  ⟨0x40, 1, 4, 0x0, 0x0, 0x0, 0x0, 0x0, 0x0, 0x0⟩ /- FAB_MAP_TICK -/,
  ⟨0x100, 3, 16, 0x80000000, 0x0, 0x0, 0x40000000, 0x0, 0x0, 0x0⟩ /- FAB_PORT_CTRL -/,
  ⟨0x104, 3, 16, 0x0, 0x0, 0x0, 0x0, 0x0, 0x0, 0x0⟩ /- FAB_PORT_STATUS -/,
  ⟨0x108, 3, 16, 0x0, 0x0, 0x0, 0x0, 0x0, 0x0, 0x0⟩ /- FAB_PORT_DELAY -/,
  ⟨0x80000, 24, 4, 0x0, 0x0, 0x0, 0x0, 0x0, 0x0, 0x0⟩ /- FAB_MAP_EVEN -/,
  ⟨0x90000, 24, 4, 0x0, 0x0, 0x0, 0x0, 0x0, 0x0, 0x0⟩ /- FAB_MAP_ODD -/]

/-- The rows of a block: I/O dies 0 and 1 are host dies, 2 and 3 fabric dies (R455). -/
def blockRows : Block → List RegRow
  | .ident => rows_ident | .rst => rows_rst | .clk => rows_clk | .pwr => rows_pwr | .thm => rows_thm | .mbx => rows_mbx
  | .glv => rows_glv | .tck => rows_tck | .cfg => rows_cfg | .hrt => rows_hrt | .emb => rows_emb | .blw => rows_blw
  | .cal => rows_cal | .die _ => rows_die | .mem _ => rows_mem | .io i => if i < 2 then rows_hio else rows_fio

/-- The block an address lies in and its offset there (R442). -/
def blockOf (a : Nat) : Option (Block × Nat) :=
  if a < 0x10000 then some (.ident, a)
  else if a < 0x14000 then some (.rst, a - 0x10000)
  else if a < 0x18000 then some (.clk, a - 0x14000)
  else if a < 0x20000 then some (.pwr, a - 0x18000)
  else if a < 0x30000 then some (.thm, a - 0x20000)
  else if a < 0x40000 then some (.mbx, a - 0x30000)
  else if a < 0x50000 then some (.glv, a - 0x40000)
  else if a < 0x60000 then some (.tck, a - 0x50000)
  else if a < 0x70000 then some (.cfg, a - 0x60000)
  else if a < 0x100000 then none
  else if a < 0x180000 then some (.hrt, a - 0x100000)
  else if a < 0x200000 then some (.emb, a - 0x180000)
  else if a < 0x210000 then some (.blw, a - 0x200000)
  else if a < 0x220000 then some (.cal, a - 0x210000)
  else if a < 0x1000000 then none
  else if a < 0x2000000 then some (.die ((a - 0x1000000) / 0x100000), (a - 0x1000000) % 0x100000)
  else if a < 0x2100000 then some (.mem ((a - 0x2000000) / 0x10000), (a - 0x2000000) % 0x10000)
  else if a < 0x3000000 then none
  else if a < 0x3400000 then some (.io ((a - 0x3000000) / 0x100000), (a - 0x3000000) % 0x100000)
  else none

/-- A row that holds the offset: its instance number and whether the offset is the high half of a pair (R12). -/
def RegRow.hit (r : RegRow) (off : Nat) : Option (Nat × Bool) :=
  if off < r.off then none
  else
    let k := (off - r.off) / r.stride
    let w := (off - r.off) % r.stride
    if k < r.count ∧ w = 0 then some (k, false)
    else if k < r.count ∧ w = 4 ∧ r.rwc ≠ 0 then some (k, true)
    else if r.rwc ≠ 0 ∧ off = r.off + 4 ∧ r.stride = 4 then some (0, true)
    else none

/-- The register at an offset of a block, if the block lists one there (R443). -/
def findRow : List RegRow → Nat → Option (RegRow × Nat × Bool)
  | [], _ => none
  | r :: rs, off =>
    match r.hit off with
    | some (k, hi) => some (r, k, hi)
    | none => findRow rs off

/-- The capability list of R454 to R456 as (id, instance, length, w2, w3, feature word). -/
def capEntries : List (Nat × Nat × Nat × Nat × Nat × Nat) :=
  [(0x0001, 0, 4, 0, 0, 0), (0x0010, 0, 4, 0x10000, 0, 0), (0x0011, 0, 4, 0x14000, 0, 0), (0x0012, 0, 5, 0x18000, 0, 80),
   (0x0020, 0, 5, 0x20000, 0, 626), (0x0030, 0, 5, 0x30000, 0, 32), (0x0040, 0, 4, 0x40000, 0, 0),
   (0x0050, 0, 4, 0x50000, 0, 0), (0x0051, 0, 4, 0x50200, 0, 0), (0x0060, 0, 4, 0x60000, 0, 0),
   (0x0100, 0, 5, 0x100000, 0, 0x2494), (0x0101, 0, 4, 0x180000, 0, 0), (0x0200, 0, 4, 0x200000, 0, 0),
   (0x0210, 0, 4, 0x210000, 0, 0)] ++
  (List.range 16).map (fun d => (0x1000, d, 5, 0x1000000 + 0x100000 * d, 0, 0x0C804030)) ++
  (List.range 16).map (fun m => (0x2000, m, 5, 0x2000000 + 0x10000 * m, 0, 48)) ++
  [(0x3000, 0, 4, 0x3000000, 0, 0), (0x3000, 1, 4, 0x3100000, 0, 0), (0x3100, 2, 4, 0x3200000, 0, 0),
   (0x3100, 3, 4, 0x3300000, 0, 0), (0x8001, 0, 4, 2, 0, 0), (0x8002, 0, 4, 2, 0, 0), (0x8003, 0, 4, 2, 0, 0),
   (0x8004, 0, 4, 2, 0, 0), (0x8005, 0, 4, 2, 0, 0)]

/-- Word `w` of the capability entries laid out from `a` on (R454); 0 beyond the list. -/
def capWord : List (Nat × Nat × Nat × Nat × Nat × Nat) → Nat → Nat → Nat
  | [], _, _ => 0
  | (id, ins, len, w2, w3, ft) :: es, a, w =>
    if w < len then
      if w = 0 then id * 65536 + 0x1000 + len
      else if w = 1 then (if es.isEmpty then 0 else a + 4 * len)
      else if w = 2 then w2
      else if w = 3 then ins * 0x1000000 + w3
      else ft
    else capWord es (a + 4 * len) (w - len)

/-- The owner identity of a mailbox channel (R315). -/
def mbxOwner (c : Nat) : Nat := if c < 16 then 0x20 + c else if c < 26 then 0x02 else if c < 28 then 0x04 else 0x40 + (c - 28)

/-- The reset value of a row's instance `k`: the tables' values; per die, stack and row where the tables say so (R127, MSH_ID,
MEM_ID, BLW_COMB, BLW_REF), and the fixed words of the capability list (R454). -/
def rowReset (b : Block) (r : RegRow) (k : Nat) : Word :=
  match b with
  | .die d =>
    if r.off = 0 then BitVec.ofNat 32 (d * 0x10000000 + 0x01000000)
    else if r.off = 0x2000 then
      let c := fun j => let l := 4 * (k % 16) + j; if l < 24 then l else l + 1
      if k % 16 < 12 then BitVec.ofNat 32 (c 0 + 0x100 * c 1 + 0x10000 * c 2 + 0x1000000 * c 3) else 0
    else r.reset
  | .mem m => if r.off = 0 then BitVec.ofNat 32 (0x10030000 + m * 0x100000) else r.reset
  | .blw =>
    if r.off = 0x40 then BitVec.ofNat 32 ((if k % 6 = 5 then 7 else k % 6) * 2 ^ 26)
    else if r.off = 0x44 then Sys2Proof.Config.baseline (0x200044 + 8 * k) % 0x10000
    else r.reset
  | .mbx => if r.off = 0x28 then BitVec.ofNat 32 (mbxOwner k * 2 ^ 16) else r.reset
  | .ident => if r.off = 0x100 then BitVec.ofNat 32 (capWord capEntries 0x100 k) else r.reset
  | _ => r.reset

/-- The reset value of the control-space word at `a`: 0 where no register is listed; the complement in a high half (R12). -/
def regReset (a : Nat) : Word :=
  match blockOf a with
  | none => 0
  | some (b, off) =>
    match findRow (blockRows b) off with
    | none => 0
    | some (r, k, hi) => if hi then ~~~(rowReset b r k) else rowReset b r k

end Sys2Proof.Machine
end

