-- ==== Sys2Proof/Machine/Sparse.lean ====
section
/-! DEFINITION. Sparse storage: a list of (key, value) pairs with keys strictly rising, in which an entry equal to the value an
unlisted key reads as is left out. Every memory, register file and table of the model is held this way, so that equal contents
are equal data. -/

namespace Sys2Proof.Machine

/-- A sparse store from keys to values. -/
abbrev SMap (α : Type) := List (Nat × α)

/-- The value at key `k`, `d` where `k` is not listed. -/
def SMap.get {α : Type} (d : α) : SMap α → Nat → α
  | [], _ => d
  | (j, v) :: m, k => if j = k then v else SMap.get d m k

/-- The store without key `k`, wherever it stands. -/
def SMap.erase {α : Type} : SMap α → Nat → SMap α
  | [], _ => []
  | (j, v) :: m, k => if j = k then SMap.erase m k else (j, v) :: SMap.erase m k

/-- The store with value `v` at key `k`, in its place among rising keys. -/
def SMap.put {α : Type} : SMap α → Nat → α → SMap α
  | [], k, v => [(k, v)]
  | (j, w) :: m, k, v =>
    if j < k then (j, w) :: SMap.put m k v
    else if j = k then (k, v) :: m
    else (k, v) :: (j, w) :: m

/-- The store after `v` is written at key `k`, where an unlisted `k` reads as `d`. -/
def SMap.set {α : Type} [DecidableEq α] (d : α) (m : SMap α) (k : Nat) (v : α) : SMap α :=
  if v = d then SMap.erase m k else SMap.put m k v

/-- Every listed value changed by `g`. -/
def SMap.mapVal {α : Type} (g : Nat → α → α) (m : SMap α) : SMap α := m.map (fun kv => (kv.1, g kv.1 kv.2))

/-- Every listed value changed by `g`, entries that come to equal the default `d` left out. -/
def SMap.mapSet {α : Type} [DecidableEq α] (d : α) (g : Nat → α → α) (m : SMap α) : SMap α :=
  (SMap.mapVal g m).filter (fun kv => decide (kv.2 ≠ d))

/-- The entries whose key meets `p`. -/
def SMap.keep {α : Type} (p : Nat → Bool) (m : SMap α) : SMap α := m.filter (fun kv => p kv.1)

/-- Keys strictly rise. -/
def SMap.sorted {α : Type} : SMap α → Bool
  | [] => true
  | [_] => true
  | (j, _) :: (k, w) :: m => decide (j < k) && SMap.sorted ((k, w) :: m)

/-- No entry holds what its key reads as when unlisted. -/
def SMap.noDefault {α : Type} [DecidableEq α] (d : Nat → α) (m : SMap α) : Bool := m.all (fun kv => decide (kv.2 ≠ d kv.1))

/-- The canonical form. -/
def SMap.wf {α : Type} [DecidableEq α] (d : Nat → α) (m : SMap α) : Bool := m.sorted && m.noDefault d

end Sys2Proof.Machine
end

