-- ==== Sys2Proof/Machine/State.lean ====
section
/-! DEFINITION. The state of the module as plain data, the reasons a step can stop, and the state after reset. Control-space
registers live in `regs`, keyed by control address (unlisted: the reset value); the other fields hold what no register
shows. -/

namespace Sys2Proof.Machine

/-- Why a step could fault. No command of this model faults: every row of the table has an effect of its own or is an event
that cannot happen in the state, which leaves it unchanged. -/
inductive Fault where
  /-- An access to storage that the spec says does not exist. Nothing raises it: such accesses are bus errors, recorded errors or core
  faults, each an effect of its own (safe). -/
  | noSuchPlace
deriving DecidableEq, Repr

/-- Why a step could be refused. -/
inductive Refusal where
  /-- A command without a meaning yet. Only an arm of `exec` could raise it, and none does: every row has its meaning (safe: nothing is
  claimed of such a command). -/
  | notModelled (mnemonic : String)
deriving DecidableEq, Repr

/-- The RoCEv2 packets that a port sends (R306, R308): packets of a READ response, acknowledgements good and bad (a packet out of sequence, an invalid request,
a remote access error), and a CNP. -/
inductive RdmaOut where
  | readFirst | readMiddle | readLast | readOnly | ack | nakSequence | nakInvalid | nakAccess | cnp
deriving DecidableEq, Repr

/-- What leaves the module. A message on a host port has the VLAN tag of its frame, as (identifier, priority), where HST_VLAN asks for one (R289). -/
inductive OutMsg where
  /-- An MHP response (R292): request, command code, status, the state code and tick of its header, payload; a payload beyond 1,408 bytes
  goes in parts (R293). -/
  | response (r : MhpReq) (cmd : Nat) (status : Nat) (state : Nat) (tick : Nat) (payload : List Byte) (tag : Option (Nat × Nat))
  /-- An MHP event to a session slot (R302): slot, session identifier, event code, event count, the state code and tick of its header, payload. -/
  | event (slot : Nat) (session : Nat) (code : Nat) (count : Nat) (state : Nat) (tick : Nat) (payload : List Byte) (tag : Option (Nat × Nat))
  /-- A RoCEv2 packet on a host port (R306, R308): port, remote queue pair, opcode, packet sequence number, data. -/
  | rdma (port : Nat) (qpn : Nat) (op : RdmaOut) (psn : Nat) (data : List Byte) (tag : Option (Nat × Nat))
  /-- A frame other than MHP and RoCEv2 on a host port (R290, R309, R313): port, kind, bytes. Kinds: 0 ARP reply, 1 neighbour advertisement,
  2 echo reply, 3 PFC pause, 4 PTP Delay_Req, 5 end of a PFC pause. -/
  | frame (port : Nat) (kind : Nat) (data : List Byte) (tag : Option (Nat × Nat))
  /-- A cell on a fabric link, its bits (R263). -/
  | cell (port : Nat) (bits : BitVec 1088)
  /-- The same idle cell in a row on a fabric link (R263, R266): port, how often, its bits. -/
  | idleCells (port : Nat) (count : Nat) (bits : BitVec 1088)
  /-- A training cell (R261, which gives no layout): port, coordinates and sizes less one, the sender's port number, supported majors as a bit set, the
  highest minor version of major 1. -/
  | training (port : Nat) (coord : Nat) (sizes : Nat) (sender : Nat) (majors : Nat) (minor1 : Nat)
  /-- The answer to an access of the control space: master, address, and the word read (0 for a write), none for a bus error (R9, R450). -/
  | bus (master : Nat) (addr : Nat) (answer : Option Word)
  /-- A byte read over I2C (R469). -/
  | i2c (b : Byte)
  /-- A pilot frame, sent twice in consecutive frames (R179, R180): its sender, a port or 64 the relay, and its bits. Only a monitor sees it. -/
  | pilot (src : Nat) (frame : BitVec 128)
  /-- A mailbox interrupt (R329): channel, direction. Only a monitor sees it. -/
  | signal (channel : Nat) (dir : Nat)
deriving DecidableEq, Repr

/-- The module states of R20 by code: Off 0, Option-load 1, Boot 2, Ready 3, Loaded 4, Running 5, Draining 6, Banked 7,
Tripped 8, Faulted 9. -/
inductive ModState where
  | off | optionLoad | boot | ready | loaded | running | draining | banked | tripped | faulted
deriving DecidableEq, Repr

/-- The 4-bit code of a module state (R20). -/
def ModState.code : ModState → Nat
  | .off => 0 | .optionLoad => 1 | .boot => 2 | .ready => 3 | .loaded => 4 | .running => 5 | .draining => 6 | .banked => 7
  | .tripped => 8 | .faulted => 9

/-! ### Tiles (chapters 02, 03) -/

/-- The state of a thread (TIL_THREAD_STATE, R57); 7, held, is read from the state of core and module. -/
inductive ThreadState where
  | idle | running | stamp | data | parked | ended | faulted
deriving DecidableEq, Repr

/-- What a waiting thread waits for (R34, R45): a stamp, an arrival counter with its n (R83), its own sends (the number of
descriptors of its queue still ahead), its own Hearth sends (R86), a queue place (R80), a barrier (R95), an empty queue for TICKEND (R48), a remote response
(R36). -/
inductive Wait where
  | none
  | stamp (c : Nat)
  | counter (k : Fin 16) (n : Nat)
  | quiet (ahead : Nat)
  | hearth
  | place
  | sync (g : Fin 16)
  | tickend
  | remote
deriving DecidableEq, Repr

/-- One open hardware-loop level (R70). -/
structure LoopLevel where
  count : Nat
  start : Nat
  stop  : Nat
deriving DecidableEq, Repr

/-- An outstanding remote operation of a loose thread (R36, R273, R277): operation, destination register, whether it writes a
vector, tick of issue, target coordinates, whether it has timed out. -/
structure RemoteOut where
  op       : Nat
  dest     : Nat
  vector   : Bool
  tick     : Nat
  target   : Nat
  timedOut : Bool
deriving DecidableEq, Repr

/-- One thread context (R31): registers, parity marks, cycles from which a register is readable, loop levels innermost first, the next cycle of its
own sequence, the cycle from which it waits, and whether it `came` out of a wait of R45 and has not issued since. -/
structure Thread where
  state  : ThreadState
  wait   : Wait
  pc     : Nat
  s      : SMap DWord
  v      : SMap VReg
  p      : SMap Bool
  sReady : SMap Nat
  vReady : SMap Nat
  pReady : SMap Nat
  bad    : SMap Bool
  loops  : List LoopLevel
  next   : Nat
  came   : Bool
  waitFrom : Option Nat
  remote : Option RemoteOut
deriving DecidableEq, Repr

/-- The kinds of a send descriptor (R80). -/
inductive SendKind where
  | mesh (route : Word)
  | hsend (mpa : Nat) (stream : Nat) (ctr : Nat)
  | hbcast (stream : Nat)
  | hget (mpa : Nat) (stream : Nat) (ctr : Nat)
  | esend (group : Nat) (stream : Nat) (b : Int) (rmode : Bool)
deriving DecidableEq, Repr

/-- A send descriptor in a queue (R80): kind, issuing thread and program index, source offset, destination offset, length in
bytes, flits already injected (heads included, R133, R138), the payload bytes of the packet begun and its first poisoned byte, whether
a source read of the message has met an uncorrectable word (R98). -/
structure SendDesc where
  kind   : SendKind
  thread : Nat
  pc     : Nat
  src    : Nat
  dst    : Nat
  len    : Nat
  sent   : Nat
  part   : List Byte
  partBad : Option Nat
  poison : Bool
deriving DecidableEq, Repr

/-- What SECDED says of a word: a correctable or an uncorrectable error; a word not listed is good (R27, R28). -/
inductive EccMark where
  | good | single | double
deriving DecidableEq, Repr

/-- One tile: core, program store, tile SRAM and its core system registers (R25 to R57). `placed`: the resident image gives it a
program; `loading`: a spare being loaded (R342); `held`: a hardware fault holds it (R51). `mac` lists the executing and the
waiting MOP as (accumulator, last array cycle); `accFrom` the cycle from which an accumulator may be named after ALD or MZERO
(R77); `portFree` the cycle to which AST or ALD hold the core port, `stored` the cycle from which every store of the bound thread has written
(R43, R48); `til` the words of the core system registers by index; `orphans` the remote operations of earlier ticks whose timers still run, by
thread, oldest first (R37, R278). -/
structure Tile where
  placed    : Bool
  loading   : Bool
  held      : Bool
  threads   : SMap Thread
  cycle     : Nat
  lastLoose : Nat
  acc       : SMap Acc
  accBad    : SMap Bool
  accFrom   : SMap Nat
  macLast   : SMap Nat
  mac       : List (Nat × Nat)
  portFree  : Nat
  stored    : Nat
  done      : Bool
  hwFault   : Bool
  checkBad  : Bool
  til       : SMap Word
  orphans   : List (Nat × RemoteOut)
  pstore    : SMap DWord
  pstoreEcc : SMap EccMark
  sram      : List Host.Cell
  sramEcc   : SMap EccMark
  sendB     : List SendDesc
  sendL     : List SendDesc
  ctr       : SMap Nat
  granules  : SMap Bool
deriving DecidableEq, Repr

/-! ### The mesh (chapter 05) -/

/-- A copy of a mesh packet at a link (R129 to R134): the router whose input it reaches next and by which port (MSH_ERR_INFO.port codes; 6: the link from
that router to its gateway), its channel and the head fields of R133 (`gateway` the origin, `hblk` the block header or sum descriptor); the physical
column it has turned toward in its row, for a unicast once the destination row has translated it, for a rectangle on a row branch (R129, R139); payload,
its bytes from `poison` on poisoned; whether its message carries a source poison, so that it raises no counter (R98). -/
structure Flight where
  router  : Nat
  port    : Nat
  loose   : Bool
  mode    : Nat
  red     : Bool
  bf16    : Bool
  last    : Bool
  gateway : Bool
  ckind   : Nat
  tag     : Nat
  weight  : Nat
  ctr     : Nat
  group   : Nat
  srcRow  : Nat
  srcCol  : Nat
  rowA    : Nat
  colA    : Nat
  rowB    : Nat
  colB    : Nat
  offset  : Nat
  index   : Nat
  tick    : Nat
  target  : Nat
  gw      : Nat
  hblk    : DWord
  turned  : Option Nat
  data    : List Byte
  poison  : Option Nat
  mute    : Bool
deriving DecidableEq, Repr

/-- One router: slot window pointer, whether the window is open and its flits left (R138); combine places, each as the packet it would send with the
weight summed so far (R142); SYNC tokens per group as a bit mask over ports with bit 0 local (R145); the counters of the congestion map entry by field
(R154; 9 and 10: whether packets of the scheduled and the loose channel came to it this tick, 0 no, 1 to a neighbour or on a link, 2 through it); per input port
(MSH_ERR_INFO.port codes) consecutive ticks with errors 0x01 or 0x02 and whether this tick had one (R153). -/
structure Router where
  window   : Nat
  isOpen   : Bool
  left     : Nat
  combine  : List Flight
  tokens   : SMap Nat
  map      : SMap Nat
  errRun   : SMap Nat
  errNow   : SMap Bool
deriving DecidableEq, Repr

/-! ### Memory stacks (chapter 09) -/

/-- One memory stack: DRAM bytes at offsets 0 to 0xB_FFFF_FFFF, check state per 64-byte line, granules written this tick (by
128-byte granule of the write copy, R246), and the fetching atomics that wait at the logic die in order of arrival, each with
the I/O port it came by (R252). -/
structure MemStack where
  dram     : List Host.Cell
  ecc      : SMap EccMark
  granules : SMap Bool
  atomics  : List (Nat × RemoteDesc)
deriving DecidableEq, Repr
/-! ### Tick and commit (chapters 08, 13) -/

/-- Bookkeeping of the tick and of its commit: whether a tick is open (from its beacon until the next, or until ticks end), the parity latched
at the beacon (R241), whether the guard has started and the vote is closed (R335), abandoning errors charged to this tick, a required
input late (R311), errors charged to the next tick (R54), an abandoning beacon (R215), an overrun (R49), a recovery tick (R342, R345), one whose beacon held every core for a
takeover (R345), a rebuild tick (R346), the local verdict, whether this module's vote was sent, children's votes as (port, count, good), the decision held, the cause to record; source bookkeeping of R214 and R215: consecutive misses,
run of good edges while lost, the frame number of the last Huaren frame; the latest done report, in quarter-periods of the time clock from cycle 0 (R220); the TICK_IN edge of this
period (0 none, 1 accepted, 2 seen within its window while the source is lost). -/
structure TickState where
  isOpen     : Bool
  parity     : Bool
  guard      : Bool
  closed     : Bool
  charged    : Bool
  late       : Bool
  chargeNext : Bool
  abandonBeacon : Bool
  overrun    : Bool
  recovery   : Bool
  takeover   : Bool
  rebuild    : Bool
  rebuildNext : Bool
  verdict    : Option Bool
  voteSent   : Bool
  votes      : List (Nat × Nat × Bool)
  decision   : Option Bool
  cause      : Nat
  resolved   : Bool
  misses     : Nat
  regain     : Nat
  srcLost    : Bool
  frame      : Option DWord
  lastDone   : Nat
  edge       : Nat
deriving DecidableEq, Repr

/-- Recovery and checkpoints (chapter 13): tiles whose hardware fault awaits a fence; the fence buffer of R340 as (tile key,
window, bytes of copy e); spares being loaded; a degraded takeover under way;
checkpoint due, to start at the next beacon, being copied, its tick, epoch, slot and the stacks still copying; the slot being
transferred to the peer; yield in progress (R358); tick of the checkpoint restored; the fences seen at the last health report
(R356); a return of control pending (R361); dies whose failure is reported; fences prepared in shadow
as (fenced tile, spare) (R340); whether the read copy of a carry window has met an uncorrectable line (R348). -/
structure RecoveryState where
  pendingFences : List Nat
  fenceBuffer   : List (Nat × Nat × List Byte)
  loading       : List Nat
  takeover      : Bool
  ckptDue       : Bool
  ckptStart     : Bool
  ckptRunning   : Bool
  ckptTick      : Nat
  ckptEpoch     : Word
  ckptSlot      : Nat
  ckptLeft      : List Nat
  transfer      : Option Nat
  yielding      : Bool
  restored      : Option Nat
  fencesSeen    : Nat
  returnPending : Bool
  dieReports    : List Nat
  prepared      : List (Nat × Nat)
  stackLost     : Bool
deriving DecidableEq, Repr
/-! ### Sessions (chapter 11) -/

/-- An MHP session (R294 to R297, R302): slot, identifier, role (0 observer, 1 controller, 2 fabric manager), its binding, H, the
kept responses as (seq, command, status, payload), newest last, the requests still executing by seq, event mask and count. -/
structure Session where
  slot  : Nat
  id    : BitVec 16
  role  : Nat
  port  : Nat
  addr  : Nat
  udp   : BitVec 16
  h     : Nat
  kept  : List (Nat × Nat × Nat × List Byte)
  busy  : List Nat
  mask  : Word
  count : Nat
deriving DecidableEq, Repr

/-! ### The Hearth and ember-sum (chapters 06, 07) -/

/-- A Hearth block (R160, R161) in a queue, on the light or in a reserve: header fields, transmit group of its sender, the lane that carries it (the
receiver's lane-status index; for a broadcast block its wavelength), ports that have still to receive it, payload; `mark`: 0, or 1 + 512 × port + window of
the fabric receive entry whose cell it lands (R270). -/
structure HBlock where
  src    : Nat
  dst    : Nat
  kind   : Nat
  poison : Bool
  stream : Nat
  tick   : Nat
  ctr    : Nat
  last   : Bool
  addr   : Nat
  group  : Nat
  lane   : Nat
  dests  : List Nat
  data   : List Byte
  mark   : Nat
deriving DecidableEq, Repr

/-- A transmit group (R165, R170 to R174): its queue, the next window, the open window with the Hearth cycle of its opening, its stream and blocks
left, whether an off frame holds it and from which Hearth cycle of this tick, the blocks its lanes have taken in rotation since their set last changed;
`held`: blocks of the port's own units, remote unit and logic die, that wait for a place in the queue of 64. -/
structure TxGroup where
  queue   : List HBlock
  held    : List HBlock
  window  : Nat
  isOpen  : Bool
  opened  : Nat
  stream  : Nat
  left    : Nat
  off     : Bool
  offFrom : Nat
  turn    : Nat
deriving DecidableEq, Repr

/-- A packet of codes in the queue of group 37 (R196). -/
structure SumPacket where
  group  : Nat
  stream : Nat
  tick   : Nat
  last   : Bool
  index  : Nat
  codes  : List Nat
deriving DecidableEq, Repr

/-- A round on the sum flues (R197): contributor and send entry, destination port and receive entry, first detector, width and length, the Hearth cycle
of its first symbol, the codes sent so far, and whether it was unfinished at a guard start (R200). -/
structure SumRound where
  src   : Nat
  entry : Nat
  dst   : Nat
  rx    : Nat
  first : Nat
  width : Nat
  len   : Nat
  start : Nat
  codes : List Nat
  late  : Bool
deriving DecidableEq, Repr

/-- Results of a round in a port's result buffer (R200, R201): landing row, column and offset, counter, tick, FP32 words left,
whether none was dropped. -/
structure SumResult where
  row    : Nat
  col    : Nat
  offset : Nat
  ctr    : Nat
  tick   : Nat
  entry  : Nat
  words  : List Word
  whole  : Bool
deriving DecidableEq, Repr

/-- One Hearth port: transmit groups; receive reserves by sender (0 to 35), pair bundle (36) and read position (40 to 43), and whether an
off frame stands for each (R174, R177); blocks of each stream broadcast this tick (R161); congestion counters at 8 × group +
field (R187); per lane, ticks in a row with uncorrectable blocks and whether this tick had one (R185); pilot frames lost in a row
(R183); the group 37 queue, the round being sent and the result buffer (R196 to R198, R201), group status of this tick (R202), weak tone windows (R205). -/
structure HPort where
  tx       : SMap TxGroup
  rx       : SMap (List HBlock)
  offSent  : SMap Bool
  sequence : SMap Nat
  map      : SMap Nat
  laneRun  : SMap Nat
  laneNow  : SMap Bool
  lostRun  : SMap Nat
  sums     : List SumPacket
  sending  : Option SumRound
  results  : List SumResult
  status   : SMap Word
  weak     : SMap Nat
deriving DecidableEq, Repr

/-- A lane move that waits for its guard (R183 to R185): why (0 request of HRT_LANE_SWAP, 1 calibration, 2 failure), class (0 lattice,
1 pair, 2 flue, 3 broadcast wavelength), flue, source, destination, pair lane or wavelength, whether it returns. -/
structure LaneMove where
  why     : Nat
  cls     : Nat
  flue    : Nat
  src     : Nat
  dst     : Nat
  lane    : Nat
  back    : Bool
deriving DecidableEq, Repr

/-- What the ports share: blocks on the light in sending order, rounds on the sum flues, the lane in each spare position (by 36 × source +
destination: 0 none, else 1 + class × 2^13 + flue × 2^7 or lane), moves waiting for the guard, whether the entry set in force fails R195; the next
frame sequence number of each pilot sender (64 the relay) and the error reports on their way to Stoker as (port, value) (R179, R186); blocks of another
tick received by each port (R186, code 0x0B). -/
structure HearthState where
  light    : List HBlock
  rounds   : List SumRound
  spare    : SMap Nat
  moves    : List LaneMove
  setBad   : Bool
  pilotSeq : SMap Nat
  reports  : List (Nat × Nat)
  oldTick  : SMap Nat
deriving DecidableEq, Repr

/-! ### Jobs (chapters 08, 11) -/

/-- The resident images (R232): length of the normal image, staging offset and length of the degraded one; a LOAD_JOB that executes
with its payload (R304); the first number of a START_JOB that waits for its beacon (R305). -/
structure JobState where
  len     : Nat
  degOff  : Nat
  degLen  : Nat
  loading : Option (MhpReq × Nat × Nat × Nat)
  start   : Option DWord
deriving DecidableEq, Repr

/-- A RoCEv2 queue pair (R306, R307, R353): port, local and remote number, rkey, path MTU, remote GID, kind (0 rings, 1 staging,
2 checkpoint), expected packet number, the WRITE message under way as its next virtual address, the bytes to come and whether a packet of it met a locked slot,
whether the pair is in the error state, the module time in ns until which a CNP received halves its READ responses, and from which it may send the next
CNP (R309). -/
structure Qp where
  port   : Nat
  qpn    : Nat
  remote : Nat
  rkey   : Nat
  mtu    : Nat
  gid    : BitVec 128
  kind   : Nat
  psn    : Nat
  msg    : Option (Nat × Nat × Bool)
  broken : Bool
  halfTo : Nat
  cnpAt  : Nat
deriving DecidableEq, Repr

/-! ### Reset and configuration (chapter 16) -/

/-- Reset, option loading and the flash (R411 to R427): a Cold (scope 0) or Warm (1) release under way and the step it is in; the units under a
Die reset, oldest first (R415); whether step 3 has loaded an option block and step 4 verified a set; whether Faulted was entered from
Boot; the flash (an erased byte reads 0xFF); the loaded option bytes; regions marked invalid until a check (R427); the set a
CONFIG_REVERT pins in the Cold reset that follows; the action that CFG_CMD runs, with its region; the domains whose brown-out reset waits (R412); the
resets asked for by RESET and RST_REQ, as (scope, unit), yet to act; VBAK, whether the backup domain holds its contents, the 48 V input,
MOD_RESET_N low (R464 to R468); the state Banked was or is being entered from, and whether a wake event has come (R407). -/
structure BootState where
  active   : Bool
  scope    : Nat
  units    : List Nat
  step     : Nat
  loaded   : Bool
  checked  : Bool
  faulted  : Bool
  flash    : List Host.Cell
  options  : List Byte
  bad      : SMap Bool
  revert   : Option Bool
  cmd      : Option (Nat × Bool)
  waiting  : List Nat
  asked    : List (Nat × Nat)
  held     : Bool
  vbak     : Bool
  vbakSeen : Bool
  input    : Bool
  bankedFrom : Option ModState
  waking   : Bool
deriving DecidableEq, Repr


/-! ### Light and upkeep (chapter 14) -/

/-- The Bellows and the calibration engine beside their registers: rounds in a row at or below the start level by comb (R369); by bank, a ramp
under way (0 none, 1 to the spare, 2 back), the position of a return under way plus 1, and whether BLW_CMD ordered a handover that has not ended; windows in
a row below and above the lock threshold by loop element (R379) and lock thresholds; windows in a row that met R381 by
576 × port + 16 × detector + contributor; the ramps ended by 6 × bank + position fed (R367), and how many of them a path's last window had seen, by the same number as its run; whether a ramp of a bank has met the measurement under way (R387); the calibration request held, its first measurement, whether a measurement has been repeated,
and the outcome that waits for the return (0 none, 1 accepted with the measurement, else its reason plus 1); the heater codes of the rings by
2048 × port + ring index (R377). -/
structure LightState where
  fadeRun   : SMap Nat
  ramp      : SMap Nat
  returning : SMap Nat
  armed     : SMap Bool
  lockRun   : SMap Nat
  lossRun   : SMap Nat
  thresh    : SMap Nat
  calRun    : SMap Nat
  ramps     : SMap Nat
  rampSeen  : SMap Nat
  met       : SMap Bool
  req       : Option Word
  first     : Option LaneMeas
  repeated  : Bool
  result    : Option (Nat × LaneMeas)
  heaters   : SMap Nat
deriving DecidableEq, Repr

/-! ### Power and temperature (chapter 15) -/

/-- The housekeeping sequencer and the governor beside their registers: rounds in a row towards suspicion and towards trust, by sensor (R394);
by scope (0 to 15 a compute die, 16 the module) the stage engaged by level and the rounds for which each rate stage still holds (R395,
R396); the stage decided for a die as 4 × stage + cause, not yet in force (R397); by die, whether periods were removed (bit 0) or
halved (bit 1) in this tick (R398); whether a round has been sampled; the bucket and the overdraft in quarter mJ (R402); the
snapshot an orderly stop owes (R399); a MOD_RESET_N held (R401); rounds above the budget that have not made a whole second of PWR_WEAR_PEAK (R405). -/
structure ThermalState where
  suspectRun : SMap Nat
  trustRun   : SMap Nat
  level      : SMap Nat
  rate1      : SMap Nat
  rate2      : SMap Nat
  decided    : SMap Nat
  acted      : SMap Nat
  sampled    : Bool
  bucket     : Nat
  overdraft       : Nat
  stopSnap   : Bool
  heldReset  : Bool
  peakRounds : Nat
deriving DecidableEq, Repr

/-! ### Mailboxes (chapter 12) -/

/-- One direction of a channel (R322, R323): complete messages, oldest first, each with its header and the words not yet popped; the
master that holds an open message, and its words. -/
structure MbxQueue where
  done   : List (Word × List Word)
  writer : Option Byte
  words  : List Word
deriving DecidableEq, Repr

/-- A channel: its two queues, the sender's identity in the header the owner popped last, and the receiver's in the outbound header
popped last (R323, R324). -/
structure MbxChan where
  inQ    : MbxQueue
  outQ   : MbxQueue
  popped : Byte
  outTo  : Byte
deriving DecidableEq, Repr

/-! ### The Glovebox (chapter 17) -/

/-- The Glovebox beside its registers: the action in progress; the quotes queued, oldest first, with their nonces (R437); the values latched
at the latest beacon as epoch, sequence number, last commit and time; the hashes of the resident images and the digest and
version of the set in use. -/
structure GloveState where
  cmd       : Option Nat
  quotes    : List (MhpReq × BitVec 256)
  latch     : Word × Nat × Nat × Nat
  image     : List Byte
  degraded  : List Byte
  setDigest : List Byte
  setVer    : Nat
deriving DecidableEq, Repr

/-! ### PTP and the host ports (chapters 08, 11) -/

/-- The PTP clock (R227, R313): Sync intervals in a row below and above 500 ns; the master chosen, as its port identity and dataset; the two-step Sync that
awaits its Follow_Up, with its arrival; the Delay_Req last sent with its number, its time and the Sync's departure and arrival where known; the number of the next
Delay_Req; the path delay in ns. -/
structure PtpState where
  below  : Nat
  above  : Nat
  master : Option (BitVec 80 × PtpDataset)
  sync   : Option (BitVec 16 × Nat)
  pair   : Option (Nat × Nat)
  asked  : Option (BitVec 16 × Nat)
  next   : BitVec 16
  delay  : Int
deriving DecidableEq, Repr

/-- The host ports: PTP; by port, whether RoCEv2 frames are held by a PFC frame received, with those that wait, how many bytes the
receive buffer holds, and whether a pause was sent (R289, R309), and whether its optic was powered off for drawing too much (R474); the byte offset of the slot's I2C port (R469). -/
structure HostState where
  ptp     : PtpState
  paused  : SMap Bool
  roce    : SMap (List OutMsg)
  buffer  : SMap Nat
  pausing : SMap Bool
  opticOff : SMap Bool
  i2c     : Nat
deriving DecidableEq, Repr

/-! ### The Huaren fabric (chapter 10) -/

/-- The transmit window that a fabric port sends (R269): its index, and by place in its list of stacks the cells asked for and taken; payloads that came before
their turn by cell number; the next cell to leave. -/
structure FabWindow where
  index : Nat
  asked : SMap Nat
  taken : SMap Nat
  ready : SMap Nat
  next  : Nat
deriving DecidableEq, Repr

/-- A fabric port's link (R263 to R266, R269 to R271, R284, R285): the next sequence number expected and to send, whether cells are being
discarded until it comes, the replay buffer oldest first, the cells of it still to be resent, the number that replay requests name and how often in a row,
the off bits last received; receive buffers (0 VL0, 1 and 2 VL1 by dvc, 3 and 4 VL2 by dvc) and whether each signals off; cells waiting to be sent; the lanes
of the last 64 cell times, latest first (0 scheduled, 1 remote, 2 management, 3 other); the transmit window to open next, the one being sent, those that
have lost cells with the link; cells received and written by receive entry; ticks in a row with the link down at guard start; corrected symbols below a
unit of 1,024 by lane; map counters by field (3 and 4: whether an off bit held VL0 or VL1). -/
structure FabPort where
  rxNext   : Nat
  txNext   : Nat
  skipping : Bool
  replay   : List Cell
  again    : List Cell
  stallAt  : Nat
  stalls   : Nat
  peerOff  : Nat
  rx       : SMap (List Cell)
  offOut   : SMap Bool
  wait     : List Cell
  past     : List Nat
  window   : Nat
  sending  : Option FabWindow
  lost     : List Nat
  rxCount  : SMap Nat
  written  : SMap Nat
  downRun  : Nat
  corrRest : SMap Nat
  map      : SMap Nat
deriving DecidableEq, Repr

/-- An open combiner entry (R275): stack, 64-byte line, and for each word in use whether it stores, with its value. -/
structure CombEntry where
  stack : Nat
  line  : Nat
  words : SMap (Bool × DWord)
deriving DecidableEq, Repr

/-- The fabric: ports, combiners by path (6 the module's own), the
window and rank tables mirrored into the compute dies (R272); of the beacon frame last received, whether it was a tick frame and
whether it came late (R280, R281); responses discarded as of an earlier tick or after a timeout (R277, R278); votes of children and decisions received are kept with the tick. -/
structure FabricState where
  ports     : SMap FabPort
  comb      : SMap (List CombEntry)
  mirror    : SMap Word
  frameTick : Bool
  frameLate : Bool
  stale     : Nat
deriving DecidableEq, Repr

/-- One congestion map as copied at a beacon (R154, R187, R285): its counters by unit and field, the number of the free value from
which the fields that count cycles are drawn, and the map tick shown while the copy runs. -/
structure MapCopy where
  draw   : Nat
  before : Word
  units  : SMap (SMap Nat)
deriving DecidableEq, Repr
/-- A value held pending for a critical register (R12, R451). -/
structure RwcPending where
  addr   : Nat
  value  : Word
  master : Byte
deriving DecidableEq, Repr

/-- The whole module. -/
structure State where
  pending    : List Instr
  out        : List OutMsg
  draws      : Nat
  mode       : ModState
  regs       : SMap Word
  shadowRegs : SMap Word
  tbl        : SMap Word
  tblShadow  : SMap Word
  rwc        : List RwcPending
  tblMaster  : SMap Byte
  hiLatch    : SMap Word
  tiles      : SMap Tile
  routers    : SMap Router
  flights    : List Flight
  ports      : SMap HPort
  hearth     : HearthState
  light      : LightState
  thermal    : ThermalState
  mailbox    : SMap MbxChan
  glove      : GloveState
  host       : HostState
  fabric     : FabricState
  maps       : SMap MapCopy
  slew       : SMap Int
  slewRest   : SMap Nat
  job        : JobState
  qps        : List Qp
  boot       : BootState
  stackMem     : SMap MemStack
  sessions   : List Session
  recovery   : RecoveryState
  tick       : TickState
  clock      : SMap Nat
deriving DecidableEq, Repr

/-- A thread after reset and at a beacon: every register zero (R31, R32). -/
def Thread.reset : Thread :=
  { state := .idle, wait := .none, pc := 0, s := [], v := [], p := [], sReady := [], vReady := [], pReady := [], bad := [],
    loops := [], next := 0, came := false, waitFrom := none, remote := none }

/-- A tile after reset: nothing loaded, program store, SRAM and counters zero (R414). -/
def Tile.reset : Tile :=
  { placed := false, loading := false, held := false, threads := [], cycle := 0, lastLoose := 3, acc := [], accBad := [], accFrom := [],
    macLast := [], mac := [], portFree := 0, stored := 0, done := false, hwFault := false, checkBad := false, til := [], orphans := [], pstore := [],
    pstoreEcc := [], sram := [], sramEcc := [], sendB := [], sendL := [], ctr := [], granules := [] }

/-- A router after reset. -/
def Router.reset : Router :=
  { window := 0, isOpen := false, left := 0, combine := [], tokens := [], map := [], errRun := [], errNow := [] }

/-- A memory stack after reset: no byte listed. -/
def MemStack.reset : MemStack :=
  { dram := [], ecc := [], granules := [], atomics := [] }

/-- No tick. -/
def TickState.reset : TickState :=
  { isOpen := false, parity := false, guard := false, closed := false, charged := false, late := false, chargeNext := false,
    abandonBeacon := false, overrun := false, recovery := false, takeover := false, rebuild := false, rebuildNext := false, verdict := none,
    voteSent := false, votes := [], decision := none, cause := 0, resolved := true, misses := 0, regain := 0,
    srcLost := false, frame := none, lastDone := 0, edge := 0 }

/-- Nothing to recover. -/
def RecoveryState.reset : RecoveryState :=
  { pendingFences := [], fenceBuffer := [], loading := [], takeover := false, ckptDue := false,
    ckptStart := false, ckptRunning := false, ckptTick := 0, ckptEpoch := 0, ckptSlot := 0, ckptLeft := [],
    transfer := none, yielding := false, restored := none, fencesSeen := 0, returnPending := false,
    dieReports := [], prepared := [], stackLost := false }

/-- A transmit group after reset. -/
def TxGroup.reset : TxGroup :=
  { queue := [], held := [], window := 0, isOpen := false, opened := 0, stream := 0, left := 0, off := false, offFrom := 0, turn := 0 }

/-- A Hearth port after reset. -/
def HPort.reset : HPort :=
  { tx := [], rx := [], offSent := [], sequence := [], map := [], laneRun := [], laneNow := [], lostRun := [], sums := [], sending := none,
    results := [], status := [], weak := [] }

/-- The Hearth with nothing on the light. -/
def HearthState.reset : HearthState :=
  { light := [], rounds := [], spare := [], moves := [], setBad := false, pilotSeq := [], reports := [], oldTick := [] }

/-- No job. -/
def JobState.reset : JobState := { len := 0, degOff := 0, degLen := 0, loading := none, start := none }

/-- No release under way; nothing powered. -/
def BootState.reset : BootState :=
  { active := false, scope := 0, units := [], step := 0, loaded := false, checked := false, faulted := false, flash := [], options := [],
    bad := [], revert := none, cmd := none, waiting := [], asked := [], held := false, vbak := false, vbakSeen := false, input := false, bankedFrom := none, waking := false }


/-- Nothing under way in the Bellows or the calibration engine. -/
def LightState.reset : LightState :=
  { fadeRun := [], ramp := [], returning := [], armed := [], lockRun := [], lossRun := [], thresh := [], calRun := [], ramps := [], rampSeen := [], met := [], req := none,
    first := none, repeated := false, result := none, heaters := [] }

/-- No stage engaged; a full bucket (R402). -/
def ThermalState.reset : ThermalState :=
  { suspectRun := [], trustRun := [], level := [], rate1 := [], rate2 := [], decided := [], acted := [], sampled := false, bucket := 4000000,
    overdraft := 0, stopSnap := false, heldReset := false, peakRounds := 0 }

/-- An empty queue. -/
def MbxQueue.reset : MbxQueue := { done := [], writer := none, words := [] }

/-- An empty channel. -/
def MbxChan.reset : MbxChan := { inQ := MbxQueue.reset, outQ := MbxQueue.reset, popped := 0, outTo := 0 }

/-- An idle Glovebox. -/
def GloveState.reset : GloveState :=
  { cmd := none, quotes := [], latch := (0, 0, 0, 0), image := List.replicate 32 0, degraded := List.replicate 32 0,
    setDigest := List.replicate 32 0, setVer := 0 }

/-- No master, no pause. -/
def HostState.reset : HostState :=
  { ptp := { below := 0, above := 0, master := none, sync := none, pair := none, asked := none, next := 0, delay := 0 },
    paused := [], roce := [], buffer := [], pausing := [], opticOff := [], i2c := 0 }

/-- A fabric port with nothing received or sent. -/
def FabPort.reset : FabPort :=
  { rxNext := 0, txNext := 0, skipping := false, replay := [], again := [], stallAt := 0, stalls := 0, peerOff := 0, rx := [], offOut := [],
    wait := [], past := [], window := 0, sending := none, lost := [], rxCount := [], written := [], downRun := 0, corrRest := [], map := [] }

/-- The fabric with nothing under way. -/
def FabricState.reset : FabricState :=
  { ports := [], comb := [], mirror := [], frameTick := false, frameLate := false, stale := 0 }

/-- No map copied. -/
def MapCopy.reset : MapCopy := { draw := 0, before := 0, units := [] }
/-- The module before power: Off, no command waiting, every register at its reset value. -/
def State.reset : State :=
  { pending := [], out := [], draws := 0, mode := .off, regs := [], shadowRegs := [], tbl := [], tblShadow := [],
    rwc := [], tblMaster := [], hiLatch := [], tiles := [], routers := [], flights := [], ports := [], hearth := HearthState.reset, light := LightState.reset, thermal := ThermalState.reset, mailbox := [],
    glove := GloveState.reset, host := HostState.reset, fabric := FabricState.reset,
    maps := [], slew := [], slewRest := [], job := JobState.reset, qps := [], boot := BootState.reset, stackMem := [],
    sessions := [], recovery := RecoveryState.reset, tick := TickState.reset, clock := [] }

end Sys2Proof.Machine
end

