-- ==== Sys2Proof/Machine/Ops.lean ====
section
/-! DEFINITION. The operations every chapter shares: bit fields, register and table access, free values, first-error recording,
events, the charging of errors to ticks, and the row maps and fences that place a tile. -/

namespace Sys2Proof

/-- The key of a tile: (die × 64 + row) × 50 + physical column. -/
def TileId.key (t : TileId) : Nat := (t.die.val * 64 + t.row.val) * 50 + t.pcol.val

end Sys2Proof

namespace Sys2Proof.Machine

/-! ### Bit fields -/

/-- Bits [hi:lo] of a register word. -/
def fld (w : Word) (hi lo : Nat) : Nat := w.toNat / 2 ^ lo % 2 ^ (hi - lo + 1)

/-- One bit of a register word. -/
def flag (w : Word) (i : Nat) : Bool := w.getLsbD i

/-- The word with bits [hi:lo] replaced by `v`. -/
def setFld (w : Word) (hi lo v : Nat) : Word :=
  BitVec.ofNat 32 (w.toNat - fld w hi lo * 2 ^ lo + v % 2 ^ (hi - lo + 1) * 2 ^ lo)

/-- The word with bit `i` set to `b`. -/
def setFlag (w : Word) (i : Nat) (b : Bool) : Word := setFld w i i (if b then 1 else 0)

/-- A sum that stops at 2^n − 1. -/
def satAdd (n a b : Nat) : Nat := min (a + b) (2 ^ n - 1)

/-- Field [hi:lo] raised by `k`, saturating. -/
def bumpFld (w : Word) (hi lo k : Nat) : Word := setFld w hi lo (satAdd (hi - lo + 1) (fld w hi lo) k)

/-- The `n` low bytes of a number, least significant first (R63). -/
def leBytes : Nat → Nat → List Byte
  | 0, _ => []
  | n + 1, v => BitVec.ofNat 8 v :: leBytes n (v / 256)

/-- The number a list of bytes spells, least significant first (R63). -/
def leNat : List Byte → Nat
  | [] => 0
  | b :: bs => b.toNat + 256 * leNat bs

/-- The number that parts of `w` bits spell, the first least significant. -/
def packNat (w : Nat) : List Nat → Nat
  | [] => 0
  | x :: xs => x % 2 ^ w + 2 ^ w * packNat w xs

/-- Two's complement of an integer in a register word. -/
def intWord (i : Int) : Word := BitVec.ofInt 32 i

/-! ### Free values -/

/-- The next free value; `next` is the state after it is taken. -/
def State.free (s : State) : Nat := Config.free s.draws
/-- The state with one free value used. -/
def State.drawn (s : State) (n : Nat := 1) : State := { s with draws := s.draws + n }

/-! ### Registers and tables -/

/-- The register word at a control address. -/
def State.reg (s : State) (a : Nat) : Word := s.regs.get (regReset a) a

/-- The state with the register at `a` holding `w`. -/
def State.setReg (s : State) (a : Nat) (w : Word) : State := { s with regs := s.regs.set (regReset a) a w }

/-- The state with field [hi:lo] of the register at `a` holding `v`. -/
def State.setRegFld (s : State) (a hi lo v : Nat) : State := s.setReg a (setFld (s.reg a) hi lo v)

/-- The state with the bits `m` of the register at `a` set. -/
def State.orReg (s : State) (a : Nat) (m : Word) : State := s.setReg a (s.reg a ||| m)

/-- The state with the bits `m` of the register at `a` cleared. -/
def State.clearReg (s : State) (a : Nat) (m : Word) : State := s.setReg a (s.reg a &&& ~~~m)

/-- The state with a saturating field counted up. -/
def State.bumpReg (s : State) (a hi lo : Nat) (k : Nat := 1) : State := s.setReg a (bumpFld (s.reg a) hi lo k)

/-- The shadow word of a shadowed register (R148, R173). -/
def State.shadow (s : State) (a : Nat) : Word := s.shadowRegs.get (regReset a) a

/-- The state with the shadow of register `a` holding `w`. -/
def State.setShadow (s : State) (a : Nat) (w : Word) : State := { s with shadowRegs := s.shadowRegs.set (regReset a) a w }

/-- A 64-bit value from a low and a high register. -/
def State.reg64 (s : State) (lo hi : Nat) : Nat := (s.reg lo).toNat + 2 ^ 32 * (s.reg hi).toNat

/-- The state with a 64-bit value in a low and a high register. -/
def State.setReg64 (s : State) (lo hi v : Nat) : State :=
  (s.setReg lo (BitVec.ofNat 32 v)).setReg hi (BitVec.ofNat 32 (v / 2 ^ 32))

/-- The key of a word behind an indirect address register (R452): block (0 mesh, 1 Hearth, 2 ember-sum, 3 memory, 4 calibration,
5 fabric), unit or port, table, index. -/
def tblKey (blk unit table idx : Nat) : Nat := ((blk * 2 ^ 18 + unit) * 8 + table) * 2 ^ 16 + idx

/-- The bits of a calibration table word that hold a baseline (R386, R389): codes and trims; no result, lock or error. -/
def baselineMask (k : Nat) : Word :=
  match k / 2 ^ 16 % 8 with
  | 0 => 0xFFF
  | 1 => 0xFF
  | 2 => if k % 4 < 2 then 0xFFFFFF else 0
  | 3 => 0xFFF000
  | _ => 0xFFFF

/-- What an unwritten table word reads as: the configuration set's baseline in the calibration block, 0 elsewhere. -/
def tblReset (k : Nat) : Word := if k / 2 ^ 37 = 4 then Config.baseline k &&& baselineMask k else 0

/-- The bits of a table word that a write or an image stores, by block, table and index; the others are reserved or read-only (R10, and the chapters'
tables). `target`: bit 30 of word 0 of a
reception entry. -/
def tblMask (blk table idx : Nat) (target : Bool) : Word :=
  match blk, table with
  | 0, 1 => 0xF81F
  | 0, 2 => 0x80FFFF00
  | 0, _ => if idx % 2 = 0 then 0xFFFFFFFF else 0x8000FFFF
  | 1, 0 => 0xC7FF07FF
  | 1, 1 => if idx % 2 = 0 then 0xFFFFFFFF else 0x80FFFFFF
  | 1, 2 => if idx % 2 = 0 then 0xFFFFFFFF else if target then 0x1FFFFFFF else 0xFFFF1FFF
  | 1, 3 => 0x8000003F
  | 1, _ => 0x00FFFFFF
  | 2, 0 => if idx % 2 = 0 then 0x8FFFFFC0 else 0x7FFF
  | 2, _ => match idx % 4 with
    | 2 => 0xFFF07FFF
    | 3 => 0
    | _ => 0xFFFFFFFF
  | 3, 0 => if idx % 3 = 0 then 0x9FFFFFFF else 0x1FFFFFFF
  | 3, _ => match idx % 4 with
    | 0 => 0xFFFF0000
    | 3 => 0xFFFFFFFF
    | _ => 0x1FFFFFFF
  | 4, _ => 0xFFF
  | _, 0 => match idx % 4 with
    | 0 => 0xF800FFFF
    | 1 => 0xFFFFFF00
    | _ => 0x00FFFFFF
  | _, 1 => 0x80000FFF
  | _, 2 => match idx % 4 with
    | 1 => 0xB000FFFF
    | 2 => 0x1FFFFFFF
    | _ => 0xFFFFFFFF
  | _, 3 => match idx % 4 with
    | 0 => 0xB000FFFF
    | 1 => 0x1FFFFFFF
    | 2 => 0xFFFFFFFF
    | _ => 0
  | _, _ => 0x00FFFFFF

/-- The stored bits of the word at a key; `get` reads the words of its store. -/
def keyMask (get : Nat → Word) (k : Nat) : Word := tblMask (k / 2 ^ 37) (k / 2 ^ 16 % 8) (k % 2 ^ 16) (flag (get (k - 1)) 30)

/-- The table word in force at a key. -/
def State.tblWord (s : State) (k : Nat) : Word := s.tbl.get (tblReset k) k
/-- The state with a table word in force. -/
def State.setTbl (s : State) (k : Nat) (w : Word) : State := { s with tbl := s.tbl.set (tblReset k) k w }
/-- The shadow word at a key (R148, R173, R195). -/
def State.tblShadowWord (s : State) (k : Nat) : Word := s.tblShadow.get (tblReset k) k
/-- The state with a shadow word at a key. -/
def State.setTblShadow (s : State) (k : Nat) (w : Word) : State := { s with tblShadow := s.tblShadow.set (tblReset k) k w }

/-! ### Module state and tick -/

/-- Whether ticks run: Running or Draining. -/
def State.ticking (s : State) : Bool := s.mode == .running || s.mode == .draining

/-- The tick sequence number (R216). -/
def State.seq (s : State) : Nat := s.reg64 Reg.TCK_SEQ_LO Reg.TCK_SEQ_HI

/-- The state with the tick sequence number `n`. -/
def State.setSeq (s : State) (n : Nat) : State := s.setReg64 Reg.TCK_SEQ_LO Reg.TCK_SEQ_HI n

/-- The cycle budget in force (R212). -/
def State.budget (s : State) : Nat := (s.reg Reg.TCK_BUDGET).toNat

/-- The VLAN tag of a frame that a host port sends, with a priority (R289, HST_VLAN). -/
def State.vlanTag (s : State) (i prio : Nat) : Option (Nat × Nat) :=
  let v := s.reg (Reg.HST_VLAN i)
  if flag v 31 then some (fld v 11 0, prio) else none

/-- The tag of a frame other than RoCEv2 (HST_VLAN.pcp). -/
def State.frameTag (s : State) (i : Nat) : Option (Nat × Nat) := s.vlanTag i (fld (s.reg (Reg.HST_VLAN i)) 15 13)

/-- One message out of the module. -/
def State.send (s : State) (m : OutMsg) : State := { s with out := m :: s.out }

/-! ### Events and the charging of errors (R54, R302, R303) -/

/-- An MHP event to one session: its count rises by one (R302; DEDUCED: the first event carries count 1). -/
def eventTo (tag : Nat → Option (Nat × Nat)) (code state tick : Nat) (payload : List Byte) (x : Session) : Session × OutMsg :=
  ({ x with count := x.count + 1 }, .event x.slot x.id.toNat code (x.count + 1) state tick payload (tag x.port))

/-- An event to every session that `want` picks. -/
def emitTo (tag : Nat → Option (Nat × Nat)) (want : Session → Bool) (code state tick : Nat) (payload : List Byte) : List Session → List OutMsg → List Session × List OutMsg
  | [], o => ([], o)
  | x :: xs, o =>
    if want x then
      let (y, m) := eventTo tag code state tick payload x
      let (ys, o') := emitTo tag want code state tick payload xs (m :: o)
      (y :: ys, o')
    else
      let (ys, o') := emitTo tag want code state tick payload xs o
      (x :: ys, o')

/-- An event whose mask bit is `bit`, to every session subscribed to it (R302). -/
def State.event (s : State) (bit code : Nat) (payload : List Byte) : State :=
  let (ss, o) := emitTo s.frameTag (fun x => flag x.mask bit) code s.mode.code s.seq payload s.sessions s.out
  { s with sessions := ss, out := o }

/-- The STATE event of a change of module state (R302): causes 0 command, 1 teardown, 2 thermal, 3 reset, 4 wake. -/
def State.enter (s : State) (m : ModState) (cause : Nat) : State :=
  let s' := { s with mode := m }
  s'.event 1 0x8002 [BitVec.ofNat 8 m.code, BitVec.ofNat 8 s.mode.code, BitVec.ofNat 8 cause]

/-- The tick to which an error detected now is charged (R54, R335): the current one until the vote closes, then the next. -/
def State.chargedSeq (s : State) : Nat := if s.ticking && s.tick.closed then s.seq + 1 else s.seq

/-- The FAULT event of R303, with the tick the error is charged to, or that of the latest beacon where it is charged to none. -/
def State.faultEvent (s : State) (src inst code : Nat) (charged : Bool := true) : State :=
  s.event 3 0x8005 ([BitVec.ofNat 8 src, BitVec.ofNat 8 code] ++ leBytes 2 inst ++
    [BitVec.ofNat 8 (if charged then s.chargedSeq else s.seq), 0, 0, 0])

/-- An abandoning error charged under R54: to the current tick before its vote closes, to the next one afterwards. -/
def State.charge (s : State) : State :=
  if s.ticking then
    if s.tick.closed then { s with tick := { s.tick with chargeNext := true } }
    else { s with tick := { s.tick with charged := true } }
  else s

/-- The first-error record of an error-status register and its info register: the first error is kept, a later one sets
`more` (R55 and the chapters' status registers). -/
def State.recordFirst (s : State) (status info : Nat) (code : Nat) (infoWord : Word) : State :=
  if flag (s.reg status) 31 then s.setReg status (setFlag (s.reg status) 30 true)
  else (s.setReg status (BitVec.ofNat 32 (0x80000000 + code % 256))).setReg info infoWord

/-! ### Power domains (R390) -/

/-- The state of a power domain (PWR_DOM): 1 when on. -/
def State.domain (s : State) (k : Nat) : Nat := fld (s.reg (Reg.PWR_DOM (k / 16))) (2 * (k % 16) + 1) (2 * (k % 16))

/-- The state with a power domain at a state: 0 off, 1 on, 2 retention, 3 browned out. -/
def State.setDomain (s : State) (k v : Nat) : State := s.setRegFld (Reg.PWR_DOM (k / 16)) (2 * (k % 16) + 1) (2 * (k % 16)) v

/-- Power domains at a state. -/
def State.setDomains (s : State) (v : Nat) : List Nat → State
  | [] => s
  | k :: ks => (s.setDomain k v).setDomains v ks

/-! ### Where a tile stands (R126 to R128, R146, R155) -/

/-- The key of a mesh position: (die × 64 + row) × 50 + physical column. -/
def posKey (die row pcol : Nat) : Nat := (die * 64 + row) * 50 + pcol
/-- Die of a position key. -/
def keyDie (k : Nat) : Nat := k / 3200
/-- Row of a position key. -/
def keyRow (k : Nat) : Nat := k / 50 % 64
/-- Physical column of a position key. -/
def keyCol (k : Nat) : Nat := k % 50

/-- The row-map entry of logical column `l` in words read by `get` (R127). -/
def rowMapIn (get : Nat → Word) (die row l : Nat) : Nat :=
  fld (get (Reg.MSH_ROW_MAP die row (l / 4))) (8 * (l % 4) + 5) (8 * (l % 4))

/-- The physical column of a logical column in force (R127). -/
def State.physCol (s : State) (die row l : Nat) : Nat := rowMapIn s.reg die row l

/-- The first logical column below `n` that `f` maps to `c`. -/
def findCol (f : Nat → Nat) (c : Nat) : Nat → Option Nat
  | 0 => none
  | n + 1 => if f n = c then some n else findCol f c n

/-- Whether a TIL_FENCE word names a physical column (R146). -/
def fenceHas (w : Word) (c : Nat) : Bool :=
  (flag w 31 && fld w 29 24 == c) || (flag w 23 && fld w 21 16 == c)

/-- Whether the core at a position is fenced. -/
def State.fenced (s : State) (k : Nat) : Bool := fenceHas (s.reg (Reg.TIL_FENCE (keyDie k) (keyRow k))) (keyCol k)

/-- Whether a die is fenced (R343). -/
def State.dieFenced (s : State) (d : Nat) : Bool := flag (s.reg (Reg.TIL_DIE_FENCE d)) 31

/-- The logical column of a position, 0x3F for an unused spare or a fenced tile (R127). -/
def State.logCol (s : State) (k : Nat) : Nat :=
  if s.fenced k then 0x3F else (findCol (s.physCol (keyDie k) (keyRow k)) (keyCol k) 48).getD 0x3F

/-- Whether the core and SRAM of a position are powered (R18, R128, R147, R343, R390). -/
def State.tilePowered (s : State) (k : Nat) : Bool :=
  s.logCol k != 0x3F && !s.dieFenced (keyDie k) && s.domain (3 * keyDie k) == 1 && s.domain (3 * keyDie k + 1) == 1

/-- The tile at a position. -/
def State.tile (s : State) (k : Nat) : Tile := s.tiles.get Tile.reset k
/-- The state with the tile at a position. -/
def State.setTile (s : State) (k : Nat) (t : Tile) : State := { s with tiles := s.tiles.set Tile.reset k t }
/-- The router at a position. -/
def State.router (s : State) (k : Nat) : Router := s.routers.get Router.reset k
/-- The state with the router at a position. -/
def State.setRouter (s : State) (k : Nat) (r : Router) : State := { s with routers := s.routers.set Router.reset k r }
/-- A thread of a tile. -/
def Tile.thread (t : Tile) (n : Nat) : Thread := t.threads.get Thread.reset n
/-- The tile with a thread. -/
def Tile.setThread (t : Tile) (n : Nat) (x : Thread) : Tile := { t with threads := t.threads.set Thread.reset n x }
/-- A core system register word of a tile (R57). -/
def Tile.sys (t : Tile) (i : Nat) : Word := t.til.get 0 i
/-- The tile with a core system register word. -/
def Tile.setSys (t : Tile) (i : Nat) (w : Word) : Tile := { t with til := t.til.set 0 i w }

/-- An error of the mesh (R153): recorded, reported and charged. `port` and `vc` as MSH_ERR_INFO codes them. -/
def State.meshError (s : State) (k port vc code tag : Nat) : State :=
  let d := keyDie k
  let info := BitVec.ofNat 32 (keyRow k * 2 ^ 26 + keyCol k * 2 ^ 20 + port * 2 ^ 17 + vc * 2 ^ 16 + tag * 2 ^ 8 + s.chargedSeq % 256)
  (((s.recordFirst (Reg.MSH_ERR_STATUS d) (Reg.MSH_ERR_INFO d) code info).faultEvent 3 d code).charge)

/-- A carry error of a tile (R242, R246, R247): recorded in TIL_CARRY_ERR, reported and charged. -/
def State.carryError (s : State) (k window code : Nat) : State :=
  let d := keyDie k
  let a := Reg.TIL_CARRY_ERR d
  let s := if flag (s.reg a) 31 then s.setReg a (setFlag (s.reg a) 30 true)
    else s.setReg a (BitVec.ofNat 32 (0x80000000 + keyRow k * 2 ^ 24 + keyCol k * 2 ^ 18 + window * 2 ^ 15 + code))
  (s.faultEvent 2 d code).charge

/-- The RoCEv2 frames that a pause held at a port leave in order, the pause over (R289, R309). -/
def State.sendHeld (s : State) (i : Nat) : State :=
  { s with host := { s.host with paused := s.host.paused.set false i false, roce := s.host.roce.set [] i [] },
           out := (s.host.roce.get [] i).reverse ++ s.out }

/-- The pause that a port owes by what its receive buffer holds (R309): while priority flow control is on and the buffer holds more than HST_PFC.xoff_mib; a
change leaves as a PFC frame on HST_PFC.prio, where the link is up and flow control on. -/
def State.checkBuffer (s : State) (i : Nat) : State :=
  let w := s.reg (Reg.HST_PFC i)
  let on := flag (s.reg (Reg.HST_CTRL i)) 2
  let want := on && decide (fld w 7 0 * 2 ^ 20 < s.host.buffer.get 0 i)
  if want = s.host.pausing.get false i then s
  else
    let s : State := { s with host := { s.host with pausing := s.host.pausing.set false i want } }
    if on ∧ fld (s.reg (Reg.HST_LINK i)) 31 30 = 2 then s.send (.frame i (if want then 3 else 5) [BitVec.ofNat 8 (fld w 18 16)] none) else s

end Sys2Proof.Machine
end

