-- ==== Sys2Proof/Machine/Operands.lean ====
section
/-! DEFINITION. Operand forms of tile instructions: register reads and writes, operand types (R60, R61), vector lanes (R63), local
addresses and carry-window steering (R66, R240, R241), and checked access to tile SRAM (R28, R481). -/

namespace Sys2Proof

/-- The immediate sign-extended (R63). -/
def Fields.sext (f : Fields) : DWord := f.imm.signExtend 64
/-- The immediate zero-extended. -/
def Fields.zext (f : Fields) : DWord := f.imm.setWidth 64
/-- Bits [hi:lo] of the immediate. -/
def Fields.bits (f : Fields) (hi lo : Nat) : Nat := Machine.fld f.imm hi lo

end Sys2Proof

namespace Sys2Proof.Machine

/-! ### Registers (R31) -/

/-- A register of a thread context or of the core: one that an operand names, the program counter, or the loop state (R31). -/
inductive RegRef where
  | s (n : Nat)
  | v (n : Nat)
  | p (n : Nat)
  | a (n : Nat)
  | pc
  | loops
deriving DecidableEq, Repr

/-- The key of a register's parity mark in its thread. -/
def RegRef.key : RegRef → Nat
  | .s n => 4 * n
  | .v n => 4 * n + 1
  | .p n => 4 * n + 2
  | .a n => 8 * n + 3
  | .pc => 7
  | .loops => 15

/-- A scalar register; s0 reads zero. -/
def Thread.rs (x : Thread) (n : Nat) : DWord := if n = 0 then 0 else x.s.get 0 n
/-- A vector register. -/
def Thread.rv (x : Thread) (n : Nat) : VReg := x.v.get 0 n
/-- A predicate register; p0 reads 1. -/
def Thread.rp (x : Thread) (n : Nat) : Bool := if n = 0 then true else x.p.get false n

/-- A scalar register written, readable from cycle `c`; a write to s0 is discarded. -/
def Thread.ws (x : Thread) (n : Nat) (v : DWord) (c : Nat) : Thread :=
  if n = 0 then x else { x with s := x.s.set 0 n v, sReady := x.sReady.set 0 n c, bad := x.bad.set false (RegRef.s n).key false }
/-- A vector register written, readable from cycle `c`. -/
def Thread.wv (x : Thread) (n : Nat) (v : VReg) (c : Nat) : Thread :=
  { x with v := x.v.set 0 n v, vReady := x.vReady.set 0 n c, bad := x.bad.set false (RegRef.v n).key false }
/-- A predicate register written, readable from cycle `c`; a write to p0 is discarded. -/
def Thread.wp (x : Thread) (n : Nat) (b : Bool) (c : Nat) : Thread :=
  if n = 0 then x else { x with p := x.p.set false n b, pReady := x.pReady.set 0 n c, bad := x.bad.set false (RegRef.p n).key false }

/-- The cycle from which a register of the thread is free of earlier writes (R44). -/
def Thread.readyAt (x : Thread) : RegRef → Nat
  | .s n => if n = 0 then 0 else x.sReady.get 0 n
  | .v n => x.vReady.get 0 n
  | .p n => if n = 0 then 0 else x.pReady.get 0 n
  | _ => 0

/-- Whether a register holds a parity error (R31): an accumulator's mark is the core's. -/
def regBad (t : Tile) (x : Thread) : RegRef → Bool
  | .a n => t.accBad.get false n
  | r => x.bad.get false r.key

/-- The operand types of R60, and an unused field (R61). -/
inductive OpType where
  | S | V | VP | A | P | unused
deriving DecidableEq, Repr

/-- Whether a field value lies in its type's range. -/
def OpType.ok (ty : OpType) (x : BitVec 6) : Bool :=
  match ty with
  | .S => decide (x.toNat ≤ 31)
  | .V => decide (x.toNat ≤ 15)
  | .VP => decide (x.toNat ≤ 14) && x.toNat % 2 == 0
  | .A => decide (x.toNat ≤ 3)
  | .P => decide (x.toNat ≤ 7)
  | .unused => x == 0

/-- The registers a field names; a field out of its type's range names none. -/
def OpType.refs (ty : OpType) (x : BitVec 6) : List RegRef :=
  if !(ty.ok x) then [] else
  match ty with
  | .S => [.s x.toNat]
  | .V => [.v x.toNat]
  | .VP => [.v x.toNat, .v (x.toNat + 1)]
  | .A => [.a x.toNat]
  | .P => [.p x.toNat]
  | .unused => []

/-- What one function demands of its word: class, operand types, whether dest is read, whether it is written, whether srcb is
written too (VPACK), the immediate bits with a meaning, further registers read, the cycles it holds the core port. -/
structure OpSpec where
  cls    : Nat
  d      : OpType
  a      : OpType
  b      : OpType
  dRead  : Bool
  dWrite : Bool
  bWrite : Bool
  imm    : Word
  more   : List RegRef
  port   : Nat
deriving DecidableEq, Repr

/-- A word whose field is out of range, or has a non-zero unused field or reserved bit (R60, R61). -/
def OpSpec.illegal (sp : OpSpec) (f : Fields) : Bool :=
  !(sp.d.ok f.dest && sp.a.ok f.srca && sp.b.ok f.srcb && (f.imm &&& ~~~sp.imm) == 0)

/-- The registers read. -/
def OpSpec.reads (sp : OpSpec) (f : Fields) : List RegRef :=
  (if sp.dRead then sp.d.refs f.dest else []) ++ sp.a.refs f.srca ++ sp.b.refs f.srcb ++ sp.more

/-- The registers written. -/
def OpSpec.writes (sp : OpSpec) (f : Fields) : List RegRef :=
  (if sp.dWrite then sp.d.refs f.dest else []) ++ (if sp.bWrite then sp.b.refs f.srcb else [])

/-! ### The operand forms of every function (R64, R67, R69, R71, R74, R78, R83, R86, R91, R93, R97) -/

/-- d, a, b scalar registers, immediate reserved. -/
def specSSS : OpSpec := ⟨0, .S, .S, .S, false, true, false, 0, [], 0⟩
/-- d and a scalar registers, an immediate of which bits `imm` have a meaning. -/
def specSSI (imm : Word) : OpSpec := ⟨0, .S, .S, .unused, false, true, false, imm, [], 0⟩
/-- d a predicate, a and b scalar registers. -/
def specPSS : OpSpec := ⟨0, .P, .S, .S, false, true, false, 0, [], 0⟩
/-- d a predicate, a a scalar register, a whole immediate. -/
def specPSI : OpSpec := ⟨0, .P, .S, .unused, false, true, false, 0xFFFFFFFF, [], 0⟩
/-- d, a, b predicates. -/
def specPPP : OpSpec := ⟨0, .P, .P, .P, false, true, false, 0, [], 0⟩

/-- Scalar ALU (R64): SEL reads the predicate it selects by; shifts by an immediate have imm[31:6] reserved. -/
def specScalar (fn : Nat) (f : Fields) : Option OpSpec :=
  if fn ≤ 0x0E then some specSSS
  else if fn = 0x0F then some { specSSS with imm := 7, more := [.p (f.bits 2 0)] }
  else if fn ≤ 0x13 then some (specSSI 0xFFFFFFFF)
  else if fn ≤ 0x16 then some (specSSI 0x3F)
  else if fn ≤ 0x18 then some (specSSI 0xFFFFFFFF)
  else if fn < 0x20 then none
  else if fn ≤ 0x22 then some specPSS
  else if fn ≤ 0x25 then some specPSI
  else if fn < 0x28 then none
  else if fn ≤ 0x2B then some specPPP
  else none

/-- Scalar memory (R67): every function uses the core port for its issue cycle. -/
def specMem (fn : Nat) : Option OpSpec :=
  if fn ≤ 0x06 then some ⟨1, .S, .S, .unused, false, true, false, 0xFFFFFFFF, [], 1⟩
  else if fn < 0x08 then none
  else if fn ≤ 0x0B then some ⟨1, .unused, .S, .S, false, false, false, 0xFFFFFFFF, [], 1⟩
  else if fn = 0x10 then some ⟨1, .V, .S, .unused, false, true, false, 0xFFFFFFFF, [], 1⟩
  else if fn = 0x11 then some ⟨1, .unused, .S, .V, false, false, false, 0xFFFFFFFF, [], 1⟩
  else none

/-- A control instruction's operands. -/
def specCtl (d a : OpType) (imm : Word) : OpSpec := ⟨2, d, a, .unused, false, true, false, imm, [], 0⟩

/-- Control (R69): BR, BRR, CALL, LOOP, LOOPR, LPOP. -/
def specControl (fn : Nat) : Option OpSpec :=
  match fn with
  | 0x00 => some (specCtl .unused .unused 0xFFF)
  | 0x01 => some (specCtl .unused .S 0)
  | 0x02 => some (specCtl .S .unused 0xFFF)
  | 0x08 => some (specCtl .unused .unused 0xFFFFFFFF)
  | 0x09 => some (specCtl .unused .S 0xFFF)
  | 0x0A => some (specCtl .unused .unused 0)
  | _ => none

/-- A vector instruction's operands. -/
def specVec (d a b : OpType) (dRead : Bool) (imm : Word) : OpSpec := ⟨3, d, a, b, dRead, true, false, imm, [], 0⟩

/-- Conversions and packing (R71, R72): VCVT, VEXT, VPACK, VUNPK. -/
def specConvert (fn : Nat) : Option OpSpec :=
  if fn ≤ 0x19 then some (specVec .V .VP .unused false 0x10000)
  else if fn ≤ 0x1B then some (specVec .VP .V .unused false 0)
  else if fn ≤ 0x1D then some { specVec .V .VP .V true 0x33F3F with bWrite := true }
  else if fn ≤ 0x1F then some { specVec .V .VP .V true 0x13F3F with bWrite := true }
  else if fn ≤ 0x21 then some (specVec .VP .V .V false 0x23F3F)
  else some (specVec .VP .V .V false 0x3F3F)

/-- Vector (R71). -/
def specVector (fn : Nat) : Option OpSpec :=
  if fn = 0x03 ∨ fn = 0x0F then some (specVec .V .V .V true 0)
  else if fn ≤ 0x0C ∨ fn = 0x10 ∨ fn = 0x15 then some (specVec .V .V .V false 0)
  else if fn ≤ 0x0E then some (specVec .V .V .unused false 0x1F)
  else if fn = 0x11 then some (specVec .V .S .unused false 0)
  else if fn = 0x12 then some (specVec .S .V .unused false 0xF)
  else if fn = 0x13 then some (specVec .V .S .unused true 0xF)
  else if fn = 0x14 then some (specVec .P .V .unused false 0)
  else if fn < 0x18 then none
  else if fn ≤ 0x23 then specConvert fn
  else if (0x28 ≤ fn ∧ fn ≤ 0x2B) ∨ fn = 0x30 ∨ fn = 0x31 then some (specVec .V .V .unused false 0)
  else none

/-- The operands of a MOP: the accumulator is read unless clr; the scales of an MX format come from register imm[3:0] (R76). -/
def specMop (imm : Word) (mx : Bool) (f : Fields) : OpSpec :=
  ⟨4, .A, .VP, .VP, !(flag f.imm 8), true, false, imm, if mx then [.v (f.bits 3 0)] else [], 0⟩

/-- Matrix (R74 to R77): AST and ALD hold the core port for 16 cycles. -/
def specMatrix (fn : Nat) (f : Fields) : Option OpSpec :=
  if fn ≤ 0x01 then some (specMop 0x100 false f)
  else if fn = 0x02 ∨ fn = 0x05 then some (specMop 0x1FF true f)
  else if fn ≤ 0x04 then some (specMop 0x7FF true f)
  else match fn with
    | 0x10 => some ⟨4, .unused, .S, .A, false, false, false, 0xFFFFFFFF, [], 16⟩
    | 0x11 => some ⟨4, .A, .S, .unused, false, true, false, 0xFFFFFFFF, [], 16⟩
    | 0x12 => some ⟨4, .A, .unused, .unused, false, true, false, 0, [], 0⟩
    | 0x13 => some ⟨4, .V, .A, .unused, false, true, false, 0xF, [], 0⟩
    | _ => none

/-- Mesh transfer (R78, R83): MSEND, MWAIT, MTEST, MCNT, MQUIET. -/
def specMesh (fn : Nat) : Option OpSpec :=
  match fn with
  | 0x00 => some ⟨5, .S, .S, .S, true, false, false, 0xFFFFFFFF, [], 0⟩
  | 0x08 => some ⟨5, .unused, .unused, .unused, false, false, false, 0xFFFF000F, [], 0⟩
  | 0x09 => some ⟨5, .P, .unused, .unused, false, true, false, 0xFFFF000F, [], 0⟩
  | 0x0A => some ⟨5, .S, .unused, .unused, false, true, false, 0xF, [], 0⟩
  | 0x0B => some ⟨5, .unused, .unused, .unused, false, false, false, 0, [], 0⟩
  | _ => none

/-- Hearth (R86, R87): HSEND, HBCAST, HGET, ESEND, HQUIET; imm[15:8] is the stream number in every function, HQUIET included. -/
def specHearth (fn : Nat) : Option OpSpec :=
  match fn with
  | 0x00 => some ⟨6, .S, .S, .S, true, false, false, 0xFF0F, [], 0⟩
  | 0x01 => some ⟨6, .unused, .S, .S, false, false, false, 0xFF00, [], 0⟩
  | 0x02 => some ⟨6, .S, .S, .S, true, false, false, 0xFF0F, [], 0⟩
  | 0x08 => some ⟨6, .S, .S, .S, true, false, false, 0x1FF0F, [], 0⟩
  | 0x0B => some ⟨6, .unused, .unused, .unused, false, false, false, 0xFF00, [], 0⟩
  | _ => none

/-- Fabric remote (R90, R91): XCAS reads d, too. -/
def specRemote (fn : Nat) : Option OpSpec :=
  match fn with
  | 0x00 => some ⟨7, .S, .S, .unused, false, true, false, 0x80000000, [], 0⟩
  | 0x01 => some ⟨7, .V, .S, .unused, false, true, false, 0x80000000, [], 0⟩
  | 0x04 => some ⟨7, .unused, .S, .S, false, false, false, 0x80000000, [], 0⟩
  | 0x05 => some ⟨7, .unused, .S, .V, false, false, false, 0x80000000, [], 0⟩
  | 0x08 => some ⟨7, .unused, .S, .S, false, false, false, 0x80000000, [], 0⟩
  | 0x09 | 0x0A => some ⟨7, .S, .S, .S, false, true, false, 0x80000000, [], 0⟩
  | 0x0B => some ⟨7, .S, .S, .S, true, true, false, 0x80000000, [], 0⟩
  | _ => none

/-- Tick and sync (R93): AT, SYNC, TICKEND. -/
def specTick (fn : Nat) : Option OpSpec :=
  match fn with
  | 0x00 => some ⟨8, .unused, .unused, .unused, false, false, false, 0xFFFFFFFF, [], 0⟩
  | 0x01 => some ⟨8, .unused, .unused, .unused, false, false, false, 0xF, [], 0⟩
  | 0x02 => some ⟨8, .unused, .unused, .unused, false, false, false, 0, [], 0⟩
  | _ => none

/-- System (R97): SRD, SWR, STIME, STICK. -/
def specSystem (fn : Nat) : Option OpSpec :=
  match fn with
  | 0x00 => some ⟨15, .S, .unused, .unused, false, true, false, 0xFFFFFFFF, [], 0⟩
  | 0x01 => some ⟨15, .unused, .S, .unused, false, false, false, 0xFFFFFFFF, [], 0⟩
  | 0x02 | 0x03 => some ⟨15, .S, .unused, .unused, false, true, false, 0, [], 0⟩
  | _ => none

/-- The operand form of a class and function with given fields; none where the code is undefined (R59 to R61). -/
def opSpec (cls fn : Nat) (f : Fields) : Option OpSpec :=
  match cls with
  | 0 => specScalar fn f | 1 => specMem fn | 2 => specControl fn | 3 => specVector fn | 4 => specMatrix fn f
  | 5 => specMesh fn | 6 => specHearth fn | 7 => specRemote fn | 8 => specTick fn | 15 => specSystem fn
  | _ => none

/-! ### Lanes and bytes (R63) -/

/-- Lane `i` of a vector register. -/
def lane (v : VReg) (i : Nat) : Word := BitVec.ofNat 32 (v.toNat / 2 ^ (32 * i))
/-- Byte `i` of a vector register. -/
def vbyte (v : VReg) (i : Nat) : Byte := BitVec.ofNat 8 (v.toNat / 2 ^ (8 * i))
/-- The sixteen lanes. -/
def lanes (v : VReg) : List Word := (List.range 16).map (lane v)
/-- A vector register from its lanes. -/
def ofLanes (ws : List Word) : VReg := BitVec.ofNat 512 (packNat 32 (ws.map BitVec.toNat))
/-- A vector register from its bytes. -/
def ofBytes (bs : List Byte) : VReg := BitVec.ofNat 512 (leNat bs)
/-- The register with byte `i` replaced. -/
def setVbyte (v : VReg) (i : Nat) (b : Byte) : VReg :=
  ofBytes ((List.range 64).map (fun j => if j = i then b else vbyte v j))
/-- One row of an accumulator (R77). -/
def accRow (a : Acc) (r : Nat) : VReg := BitVec.ofNat 512 (a.toNat / 2 ^ (512 * r))
/-- An accumulator from its rows. -/
def accOfRows (rs : List VReg) : Acc := BitVec.ofNat 8192 (packNat 512 (rs.map BitVec.toNat))

/-! ### Local addresses (R66, R239 to R241) -/

/-- The physical compute die of a logical bay (R344, R365). -/
def State.bayDie (s : State) (k : Nat) : Nat :=
  fld (s.reg (if k < 8 then Reg.HRT_BAY_MAP_0 else Reg.HRT_BAY_MAP_1)) (4 * (k % 8) + 3) (4 * (k % 8))

/-- The logical bay of a physical compute die. -/
def State.dieBay (s : State) (d : Nat) : Nat := (findCol s.bayDie d 16).getD d

/-- A tile carry window of a die (R240, R255): alias base, length, copy-0 base, copy-1 base in bytes. -/
def State.carryWin (s : State) (d w : Nat) : Option (Nat × Nat × Nat × Nat) :=
  if flag (s.reg (Reg.TIL_CARRY d w 0)) 31 then
    some (fld (s.reg (Reg.TIL_CARRY d w 0)) 12 0 * 128, fld (s.reg (Reg.TIL_CARRY d w 1)) 13 0 * 128,
      fld (s.reg (Reg.TIL_CARRY d w 2)) 12 0 * 128, fld (s.reg (Reg.TIL_CARRY d w 3)) 12 0 * 128)
  else none

/-- The valid windows of a die with their numbers. -/
def State.carryWins (s : State) (d : Nat) : List (Nat × Nat × Nat × Nat × Nat) :=
  (List.range 8).filterMap (fun w => (s.carryWin d w).map (fun x => (w, x)))

/-- The window whose alias range holds offset `x`. -/
def aliasWin (ws : List (Nat × Nat × Nat × Nat × Nat)) (x : Nat) : Option (Nat × Nat × Nat × Nat × Nat) :=
  ws.find? (fun w => decide (w.2.1 ≤ x ∧ x < w.2.1 + w.2.2.1))

/-- The window with a copy range that holds tile offset `x`. -/
def copyWin (ws : List (Nat × Nat × Nat × Nat × Nat)) (x : Nat) : Option (Nat × Nat × Nat × Nat × Nat) :=
  ws.find? (fun w => decide (w.2.2.2.1 ≤ x ∧ x < w.2.2.2.1 + w.2.2.1) || decide (w.2.2.2.2 ≤ x ∧ x < w.2.2.2.2 + w.2.2.1))

/-- Base of copy `c` of a window. -/
def copyBase (w : Nat × Nat × Nat × Nat × Nat) (c : Bool) : Nat := if c then w.2.2.2.2 else w.2.2.2.1

/-- Where a local address leads: a core fault code, or a tile offset and whether it was reached through the write alias. -/
inductive Local where
  | bad (code : Nat)
  | at_ (off : Nat) (write : Bool)
deriving DecidableEq, Repr

/-- Whether an address names the tile's own SRAM (R66): the all-zero position, or the tile's own die, row and logical column. -/
def State.ownTile (s : State) (k : Nat) (ea : Nat) : Bool :=
  decide (ea < 2 ^ 44) &&
    (let pos := ea / 2 ^ 28 % 2 ^ 16
     pos == 0 || pos == (s.dieBay (keyDie k) * 64 + keyRow k) * 64 + s.logCol k)

/-- A local address resolved for a load or a store (R66, R241): ADDR 0x04 outside the tile's own space or outside every window,
CARRY_RO 0x05 for a store through the read alias or to a plain offset inside a copy range. -/
def State.localAt (s : State) (k : Nat) (ea : Nat) (store : Bool) : Local :=
  if !s.ownTile k ea then .bad 0x04
  else
    let x := ea % 2 ^ 20
    let ws := s.carryWins (keyDie k)
    match ea / 2 ^ 20 % 2 ^ 8 with
    | 0 => if store && (copyWin ws x).isSome then .bad 0x05 else .at_ x false
    | 1 =>
      match aliasWin ws x with
      | none => .bad 0x04
      | some w => if store then .bad 0x05 else .at_ (copyBase w s.tick.parity + (x - w.2.1)) false
    | 2 =>
      match aliasWin ws x with
      | none => .bad 0x04
      | some w => .at_ (copyBase w (!s.tick.parity) + (x - w.2.1)) true
    | _ => .bad 0x04

/-! ### Tile SRAM (R28, R481) -/

/-- One byte of tile SRAM; an unwritten byte reads zero (DESIGN CHOICE: the spec gives none). -/
def Tile.byte (t : Tile) (a : Nat) : Byte := SMap.get (0 : Byte) t.sram a

/-- `n` bytes from offset `a`. -/
def Tile.bytes (t : Tile) (a : Nat) : Nat → List Byte
  | 0 => []
  | n + 1 => t.byte a :: Tile.bytes t (a + 1) n

/-- Bytes written from offset `a` on. -/
def putBytes (m : List Host.Cell) (a : Nat) : List Byte → List Host.Cell
  | [] => m
  | b :: bs => putBytes (SMap.set (0 : Byte) m a b) (a + 1) bs

/-- The 8-byte words that `n` bytes from offset `a` touch. -/
def wordsOf (a n : Nat) : List Nat := if n = 0 then [] else (List.range ((a + n - 1) / 8 - a / 8 + 1)).map (· + a / 8)

/-- The first word with an uncorrectable error among some words. -/
def Tile.badWord (t : Tile) (ws : List Nat) : Option Nat := ws.find? (fun w => t.sramEcc.get .good w == .double)

/-- The number of words with a correctable error. -/
def Tile.fixes (t : Tile) (ws : List Nat) : Nat := (ws.filter (fun w => t.sramEcc.get .good w == .single)).length

/-- The tile with corrected SRAM errors counted in TIL_ECC_COUNT.sram. -/
def Tile.countFixes (t : Tile) (ws : List Nat) : Tile :=
  if t.fixes ws = 0 then t else t.setSys 12 (bumpFld (t.sys 12) 15 0 (t.fixes ws))

/-- The words that `n` bytes from `a` cover only in part (R481). -/
def partWords (a n : Nat) : List Nat := (wordsOf a n).filter (fun w => !(decide (a ≤ 8 * w) && decide (8 * w + 8 ≤ a + n)))

/-- Check bits of whole words made fresh. -/
def freshEcc (m : SMap EccMark) : List Nat → SMap EccMark
  | [] => m
  | w :: ws => freshEcc (m.set .good w .good) ws

/-- A write of bytes whose check bits come out good. -/
def Tile.write (t : Tile) (a : Nat) (bs : List Byte) : Tile :=
  { t with sram := putBytes t.sram a bs, sramEcc := freshEcc t.sramEcc (wordsOf a bs.length) }

/-- The granules of a carry window's write copy that bytes [a, a + n) touch, marked written (R246). -/
def markGranules (m : SMap Bool) (a n size : Nat) : SMap Bool :=
  (List.range ((a + n - 1) / size - a / size + 1)).foldl (fun m i => m.set false (a / size + i) true) m

end Sys2Proof.Machine
end

