-- ==== Sys2Proof/Machine/Flags.lean ====
section
/-! DEFINITION. The sticky floating-point flags (R56, R117) and the fields of the core's counters. -/

namespace Sys2Proof.Machine

/-- Sets flags of a thread in TIL_FP_FLAGS: four bits per thread, sticky (R117). -/
def Tile.setFlags (t : Tile) (n fl : Nat) : Tile :=
  t.setSys 13 (t.sys 13 ||| BitVec.ofNat 32 (fl % 16 * 2 ^ (4 * n)))

/-- Clears the flags of a thread that `m` names (R57, R97: W1C). -/
def Tile.clearFlags (t : Tile) (n m : Nat) : Tile :=
  t.setSys 13 (t.sys 13 &&& ~~~(BitVec.ofNat 32 (m % 16 * 2 ^ (4 * n))))

/-- TIL_WAIT_CYCLES raised by `k`, saturating (R45). -/
def Tile.addWait (t : Tile) (k : Nat) : Tile := if k = 0 then t else t.setSys 11 (bumpFld (t.sys 11) 31 0 k)

/-- A late stamp: count and largest lateness, both saturating (R47). -/
def Tile.lateStamp (t : Tile) (late : Nat) : Tile :=
  let w := bumpFld (t.sys 10) 15 0 1
  t.setSys 10 (if late > fld w 31 16 then setFld w 31 16 (min late 0xFFFF) else w)

/-- All flags of a list of lane results. -/
def allFlags : List (Word × Nat) → Nat
  | [] => 0
  | r :: rs => orFlags r.2 (allFlags rs)

end Sys2Proof.Machine
end

