-- ==== Sys2Proof/Machine/Issue.lean ====
section
/-! DEFINITION. How a tile instruction issues (R33, R34, R39, R44, R50 to R55, R58 to R62, R70, R482): whether its thread may
issue, the cycle, the fetch, the order of the faults, the predicate, the effect, and the program counter with its hardware
loops. -/

namespace Sys2Proof.Machine

/-! ### Faults of a core (R50 to R55) -/

/-- A thread stopped by a fault. -/
def Thread.stop (x : Thread) : Thread := { x with state := .faulted, wait := .none }

/-- Every thread of a core stopped: a hardware fault with no issuing thread (R51). -/
def Tile.stopAll (t : Tile) : Tile :=
  { t with threads := [(0, (t.thread 0).stop), (1, (t.thread 1).stop), (2, (t.thread 2).stop), (3, (t.thread 3).stop)] }

/-- The first fault kept in TIL_FAULT_STATUS, _INFO and _ADDR; a later one sets `more` (R55). -/
def Tile.recordFault (t : Tile) (thread pc code addr : Nat) : Tile :=
  if flag (t.sys 7) 31 then t.setSys 7 (setFlag (t.sys 7) 30 true)
  else ((t.setSys 7 (BitVec.ofNat 32 (0x80000000 + code))).setSys 8 (BitVec.ofNat 32 (thread * 2 ^ 16 + pc % 4096))).setSys 9
    (BitVec.ofNat 32 (addr % 2 ^ 20))

/-- A hardware fault awaits its fence (R53, R340). -/
def State.reportHardware (s : State) (k : Nat) : State :=
  if k ∈ s.recovery.pendingFences ∨ s.fenced k then s
  else
    let s := { s with recovery := { s.recovery with pendingFences := s.recovery.pendingFences ++ [k] } }
    if fld (s.reg Reg.TCK_RCV_STATUS) 31 29 = 0 then s.setRegFld Reg.TCK_RCV_STATUS 31 29 1 else s

/-- A fault of a core (R51): recorded; the faulting thread, or every thread where none issued (`thread` 7), stops; reported,
with a FAULT event, and charged under R54. Hardware faults (0x10 to 0x13) also hold the core for its fence. -/
def State.raise (s : State) (k : Nat) (t : Tile) (thread pc code addr : Nat) : State :=
  let t := t.recordFault thread pc code addr
  let t := if thread = 7 then t.stopAll else t.setThread thread (t.thread thread).stop
  let t := if code ≥ 0x10 then { t with hwFault := true } else t
  let s := ((s.setTile k t).faultEvent 1 (keyDie k) code).charge
  if code ≥ 0x10 then s.reportHardware k else s

/-! ### Issue -/

/-- What an instruction acts on: state, tile key, tile, thread number, thread, issue cycle, fields. -/
structure Ctx where
  s : State
  k : Nat
  t : Tile
  n : Nat
  x : Thread
  c : Nat
  f : Fields
deriving DecidableEq, Repr

/-- What an instruction does: a fault with its code and TIL_FAULT_ADDR; a fault that leaves something changed behind; the state,
tile and thread after it, with the target of a taken branch; or that it cannot issue yet and its thread waits. -/
inductive Effect where
  | fault (code addr : Nat)
  | crash (s : State) (t : Tile) (code addr : Nat)
  | done (s : State) (t : Tile) (x : Thread) (target : Option Nat)
  | hold (w : Wait)
deriving DecidableEq, Repr

/-- The effect of an instruction that only writes registers of its thread. -/
def Ctx.write (q : Ctx) (x : Thread) : Effect := .done q.s q.t x none

/-- Whether a thread may issue now (R34 to R37, R51, R53): ticks run, the core is powered, placed, not held and not being loaded,
the thread runs, and a loose thread not after the guard start. -/
def State.mayIssue (s : State) (k n : Nat) : Bool :=
  s.ticking && s.tick.isOpen && s.tilePowered k && (s.tile k).placed && !(s.tile k).held && !(s.tile k).loading &&
    ((s.tile k).thread n).state == .running && (n == 0 || !s.tick.guard)

/-- The largest of a list of cycles. -/
def maxOf : List Nat → Nat
  | [] => 0
  | a :: as => max a (maxOf as)

/-- Whether a class and function are available to a thread (R39, R59): of the tick and sync class a loose thread has TICKEND alone. -/
def classAllowed (cls fn n : Nat) : Bool :=
  if cls = 4 ∨ cls = 6 then n == 0
  else if cls = 8 then n == 0 || fn == 2
  else if cls = 7 then n != 0
  else true

/-! ### The array and the accumulators (R42, R77) -/

/-- The cycle from which a place of the array is free for a MOP. -/
def Tile.macFree (t : Tile) : Nat :=
  match t.mac with
  | (_, l) :: _ :: _ => l + 1
  | _ => 0

/-- The array after a MOP of `n` cycles into accumulator `a` issues in cycle `c`. -/
def Tile.macPush (t : Tile) (a n c : Nat) : Tile :=
  let live := t.mac.filter (fun e => decide (e.2 ≥ c))
  let last := (live.getLast?.map (fun e => e.2)).getD c + n
  { t with mac := live ++ [(a, last)], macLast := t.macLast.set 0 a last }

/-- The cycle from which an accumulator is readable (R42, R77). -/
def Tile.accReadable (t : Tile) (a : Nat) : Nat :=
  max (if t.macLast.get 0 a = 0 then 0 else t.macLast.get 0 a + 4) (t.accFrom.get 0 a)

/-- The cycle from which no executing or waiting MOP targets an accumulator: all that ALD and MZERO wait for (R77). -/
def Tile.accIdle (t : Tile) (a : Nat) : Nat := if t.macLast.get 0 a = 0 then 0 else t.macLast.get 0 a + 1

/-- The cycle a MOP waits for: a place in the array, and ALD or MZERO of its accumulator (R42, R77). -/
def Tile.mopWait (t : Tile) (a : Nat) : Nat := max t.macFree (t.accFrom.get 0 a)

/-! ### The cycle of an issue (R34, R44, R45, R48) -/

/-- What a predicate and its negate bit come to (R33). -/
def Thread.holds (x : Thread) (f : Fields) : Bool := x.rp f.pidx.toNat ^^ f.pneg

/-- What a class and function wait for beyond registers and core port: the array and the accumulators (R42, R77), and for TICKEND, where its
predicate holds, that the bound thread's stores have written tile SRAM (R48). -/
def opExtra (cls fn : Nat) (t : Tile) (x : Thread) (n : Nat) (f : Fields) : Nat :=
  if cls = 4 then
    if fn ≤ 0x05 then t.mopWait f.dest.toNat
    else if fn = 0x10 then t.accReadable f.srcb.toNat
    else if fn = 0x13 then t.accReadable f.srca.toNat
    else t.accIdle f.dest.toNat
  else if cls = 8 ∧ fn = 0x02 ∧ n = 0 ∧ x.holds f then t.stored
  else 0

/-- The cycle from which the interlocks let a word issue (R44): the registers it names, the core port for a memory instruction, and what
`opExtra` adds. -/
def interlock (w : DWord) (t : Tile) (x : Thread) (n : Nat) : Nat :=
  let f := fieldsOf w
  match opSpec (wordClass w) (wordFunction w) f with
  | none => x.readyAt (.p f.pidx.toNat)
  | some sp =>
    max (x.readyAt (.p f.pidx.toNat)) (max (maxOf ((sp.reads f ++ sp.writes f).map x.readyAt))
      (max (if sp.port = 0 then 0 else t.portFree) (opExtra (wordClass w) (wordFunction w) t x n f)))

/-- The program-store word at an index; an unlisted word is zero (R229, R414). -/
def Tile.word (t : Tile) (pc : Nat) : DWord := t.pstore.get 0 pc

/-- The cycle in which a thread that has come out of a wait of R45 may issue again, which the sender dates with `u`; a thread that has not goes
on by its own sequence alone. -/
def Thread.release (x : Thread) (u : Nat) : Nat := if x.came then max x.next u else x.next

/-- The first cycle in which thread `n` is eligible (R34, R44, R45). The bound thread's depends on its own sequence alone, but for its waits; a
loose thread takes no cycle before the next open slot. -/
def Tile.issueCycle (t : Tile) (n u : Nat) : Nat :=
  let x := t.thread n
  max (x.release u) (max (if n = 0 && !x.came then 0 else t.cycle) (interlock (t.word x.pc) t x n))

/-- The order in which threads that are eligible in one cycle issue, and in which waiting threads are served: the bound thread, then the loose
threads after the last issued (R34, R83). -/
def serveOrder (last : Nat) : List Nat := [0, last % 3 + 1, (last + 1) % 3 + 1, (last + 2) % 3 + 1]

/-- Whether thread `m` issues before a thread that would issue in cycle `c` and stands at `rank`: it may issue, its cycle is its own (the end of a
wait is its sender's to date), and that cycle is earlier, or the same and its rank before. -/
def State.ahead (s : State) (k rank c m : Nat) : Bool :=
  let t := s.tile k
  s.mayIssue k m && !(t.thread m).came &&
    (decide (t.issueCycle m 0 < c) || (t.issueCycle m 0 == c && decide ((serveOrder t.lastLoose).idxOf m < rank)))

/-- Whether the core chooses thread `n` for cycle `c` (R34): no other thread is ahead of it. -/
def State.chosen (s : State) (k n c : Nat) : Bool :=
  !((serveOrder (s.tile k).lastLoose).any (fun m => m != n && s.ahead k ((serveOrder (s.tile k).lastLoose).idxOf n) c m))

/-! ### The program counter and the loops (R27, R69, R70) -/

/-- The loop levels and program counter after the instruction at `i` issued: the end tests of R70. -/
def loopEnd : List LoopLevel → Nat → List LoopLevel × Nat
  | [], i => ([], i + 1)
  | l :: ls, i =>
    if i = l.stop then
      if l.count - 1 ≠ 0 then ({ l with count := l.count - 1 } :: ls, l.start) else loopEnd ls i
    else (l :: ls, i + 1)

/-- The thread after its instruction issued in cycle `c`: program counter, loops and next cycle (R40, R70); `target` of a taken
branch. A body that has set a later `next` keeps it. -/
def Thread.advance (x : Thread) (c : Nat) (target : Option Nat) : Thread :=
  match target with
  | some p => { x with pc := p, next := max x.next (c + 2) }
  | none => { x with loops := (loopEnd x.loops x.pc).1, pc := (loopEnd x.loops x.pc).2, next := max x.next (c + 1) }

/-- The state after an instruction: the tile with its thread; a running thread whose program counter passed index 4,095 raises
ILLEGAL with pc 4,095 (R27). -/
def State.finish (s : State) (k : Nat) (t : Tile) (n : Nat) (x : Thread) : State :=
  let t := t.setThread n x
  if x.state = .running ∧ x.pc > 4095 then s.raise k t n 4095 0x01 0 else s.setTile k t

/-- The tile with the fetch from index `pc` counted: a corrected error in TIL_ECC_COUNT.pstore (R27). -/
def Tile.fetchCount (t : Tile) (pc : Nat) : Tile :=
  if t.pstoreEcc.get .good pc = .single then t.setSys 12 (bumpFld (t.sys 12) 31 16 1) else t

/-- Whether a word is one that a command stands for: its class, function and fields. -/
def wordIs (w : DWord) (cls fn : Nat) (f : Fields) : Bool := wordClass w == cls && wordFunction w == fn && decide (fieldsOf w = f)

/-- Whether a thread's fetch makes its command issue: the word there is the command's, or whatever the command, the fetch ends in a fault or
brings an undefined code, which no command spells (R26, R27, R59). -/
def Tile.fetches (t : Tile) (n cls fn : Nat) (f : Fields) : Bool :=
  let x := t.thread n
  let w := t.word x.pc
  regBad t x .pc || t.pstoreEcc.get .good x.pc == .double || !(definedCode (wordClass w) (wordFunction w)) || wordIs w cls fn f

/-- The core's bookkeeping of an issue in cycle `c` of a thread released in cycle `r`: the next slot, the last loose thread, the core port where
it is held beyond this cycle, and the bound thread's wait cycles that end here (R34, R43, R45). -/
def Tile.issued (t : Tile) (n c r port : Nat) (x : Thread) : Tile :=
  let t := { t with cycle := max t.cycle (c + 1), lastLoose := (if n = 0 then t.lastLoose else n),
                    portFree := (if port ≤ 1 then t.portFree else c + port) }
  match x.waitFrom with
  | some w => if n = 0 then t.addWait (r - w) else t
  | none => t

/-- The first fault that a fetched word meets before its effect, in the order of R27, R31 and R482; none where there is none, and where the
predicate is false only what R33 and R59 except from it. A control instruction at the end of an open loop level is ILLEGAL whatever its
predicate, and so is the erased-store code (R59, R70). -/
def fetchFault (t : Tile) (x : Thread) (n : Nat) : Option Nat :=
  let w := t.word x.pc
  let cls := wordClass w
  let fn := wordFunction w
  let f := fieldsOf w
  let sp := opSpec cls fn f
  let reads := match sp with
    | some sp => sp.reads f
    | none => []
  if regBad t x .pc then some 0x12
  else if t.pstoreEcc.get .good x.pc == .double then some 0x11
  else if regBad t x (.p f.pidx.toNat) || (!x.loops.isEmpty && regBad t x .loops) then some 0x12
  else if x.holds f && reads.any (regBad t x) then some 0x12
  else if (cls == 15 && fn == 0x3F) || (cls == 2 && x.loops.any (fun l => l.stop == x.pc)) then some 0x01
  else if !(x.holds f) then none
  else if !(classAllowed cls fn n) then some 0x02
  else match sp with
    | none => some 0x01
    | some sp => if sp.illegal f then some 0x01 else none

/-- A tile instruction whose thread is chosen: the fetch, then the faults in the order of R482, then the effect. -/
def State.issueNow (s : State) (u : Issue) (body : Ctx → Effect) : State :=
  let k := u.tile.key
  let n := u.thread.val
  let x := (s.tile k).thread n
  let c := (s.tile k).issueCycle n u.cycle
  let r := x.release u.cycle
  let t := (s.tile k).fetchCount x.pc
  let f := fieldsOf (t.word x.pc)
  let port := match opSpec (wordClass (t.word x.pc)) (wordFunction (t.word x.pc)) f with
    | some sp => sp.port
    | none => 0
  match fetchFault t x n with
  | some code => s.raise k (t.issued n c r 0 x) n x.pc code 0
  | none =>
    let x' := { x with waitFrom := none, wait := .none, came := false }
    if !(x.holds f) then s.finish k (t.issued n c r 0 x) n (x'.advance c none)
    else
      match body { s := s, k := k, t := t.issued n c r port x, n := n, x := x', c := c, f := f } with
      | .fault code addr => s.raise k (t.issued n c r 0 x) n x.pc code addr
      | .crash s' t' code addr => s'.raise k t' n x.pc code addr
      | .done s' t' y target => s'.finish k t' n (y.advance c target)
      | .hold w => s.setTile k (t.setThread n { x with state := .data, wait := w, waitFrom := some (x.waitFrom.getD c) })

/-- The tile instruction of class `cls` and function `fn`: issued where its thread may issue, fetches it and is chosen; without effect otherwise,
for then the core does not issue it (R26, R34). -/
def State.issue (s : State) (u : Issue) (f : Fields) (cls fn : Nat) (body : Ctx → Effect) : State :=
  let t := s.tile u.tile.key
  if s.mayIssue u.tile.key u.thread && t.fetches u.thread cls fn f &&
      s.chosen u.tile.key u.thread (t.issueCycle u.thread u.cycle) then s.issueNow u body else s

end Sys2Proof.Machine
end

