-- ==== Sys2Proof/Machine/Scalar.lean ====
section
/-! DEFINITION. Scalar ALU, class 0x0 (R64, R65): one meaning per function over the shared forms. -/

namespace Sys2Proof.Machine

/-- The answer of every command. -/
abbrev Answer := Host.Outcome State Fault Refusal

/-- A scalar result from two scalar registers (R64), readable `lat` cycles after issue. -/
def scalarRR (fn : Nat) (op : DWord → DWord → DWord) (lat : Nat) (u : Issue) (f : Fields) (s : State) : State :=
  s.issue u f 0x0 fn (fun q =>
    q.write (q.x.ws q.f.dest.toNat (op (q.x.rs q.f.srca.toNat) (q.x.rs q.f.srcb.toNat)) (q.c + lat)))

/-- A scalar result from a scalar register and the immediate (R64). -/
def scalarRI (fn : Nat) (op : DWord → Fields → DWord) (lat : Nat) (u : Issue) (f : Fields) (s : State) : State :=
  s.issue u f 0x0 fn (fun q =>
    q.write (q.x.ws q.f.dest.toNat (op (q.x.rs q.f.srca.toNat) q.f) (q.c + lat)))

/-- A predicate from two scalar registers (R64). -/
def compareRR (fn : Nat) (op : DWord → DWord → Bool) (u : Issue) (f : Fields) (s : State) : State :=
  s.issue u f 0x0 fn (fun q =>
    q.write (q.x.wp q.f.dest.toNat (op (q.x.rs q.f.srca.toNat) (q.x.rs q.f.srcb.toNat)) (q.c + 1)))

/-- A predicate from a scalar register and the sign-extended immediate (R64). -/
def compareRI (fn : Nat) (op : DWord → DWord → Bool) (u : Issue) (f : Fields) (s : State) : State :=
  s.issue u f 0x0 fn (fun q =>
    q.write (q.x.wp q.f.dest.toNat (op (q.x.rs q.f.srca.toNat) q.f.sext) (q.c + 1)))

/-- A predicate from two predicates (R64). -/
def logicPP (fn : Nat) (op : Bool → Bool → Bool) (u : Issue) (f : Fields) (s : State) : State :=
  s.issue u f 0x0 fn (fun q =>
    q.write (q.x.wp q.f.dest.toNat (op (q.x.rp q.f.srca.toNat) (q.x.rp q.f.srcb.toNat)) (q.c + 1)))

/-- Bits [127:64] of the unsigned product (R64). -/
def mulHighU (a b : DWord) : DWord := BitVec.ofNat 64 (a.toNat * b.toNat / 2 ^ 64)
/-- Bits [127:64] of the signed product (R64). -/
def mulHighS (a b : DWord) : DWord := BitVec.ofInt 64 (a.toInt * b.toInt / 2 ^ 64)
/-- a shifted left by b[5:0]. -/
def shl (a b : DWord) : DWord := a <<< (b.toNat % 64)
/-- a shifted right by b[5:0], zero-filled. -/
def shr (a b : DWord) : DWord := a >>> (b.toNat % 64)
/-- a shifted right by b[5:0], sign-filled. -/
def sar (a b : DWord) : DWord := a.sshiftRight (b.toNat % 64)

/-- ADD: d := a + b (R64). -/
def execAdd (u : Issue) (f : Fields) (s : State) : Answer := .next (scalarRR 0x00 (fun a b => a + b) 1 u f s)

/-- SUB: d := a − b (R64). -/
def execSub (u : Issue) (f : Fields) (s : State) : Answer := .next (scalarRR 0x01 (fun a b => a - b) 1 u f s)

/-- AND (R64). -/
def execAnd (u : Issue) (f : Fields) (s : State) : Answer := .next (scalarRR 0x02 (fun a b => a &&& b) 1 u f s)

/-- OR (R64). -/
def execOr (u : Issue) (f : Fields) (s : State) : Answer := .next (scalarRR 0x03 (fun a b => a ||| b) 1 u f s)

/-- XOR (R64). -/
def execXor (u : Issue) (f : Fields) (s : State) : Answer := .next (scalarRR 0x04 (fun a b => a ^^^ b) 1 u f s)

/-- SLL: a << b[5:0] (R64). -/
def execSll (u : Issue) (f : Fields) (s : State) : Answer := .next (scalarRR 0x05 shl 1 u f s)

/-- SRL: zero-filled (R64). -/
def execSrl (u : Issue) (f : Fields) (s : State) : Answer := .next (scalarRR 0x06 shr 1 u f s)

/-- SRA: sign-filled (R64). -/
def execSra (u : Issue) (f : Fields) (s : State) : Answer := .next (scalarRR 0x07 sar 1 u f s)

/-- MUL: product bits [63:0], latency 3 (R64). -/
def execMul (u : Issue) (f : Fields) (s : State) : Answer := .next (scalarRR 0x08 (fun a b => a * b) 3 u f s)

/-- MULHU: product bits [127:64], unsigned, latency 3 (R64). -/
def execMulhu (u : Issue) (f : Fields) (s : State) : Answer := .next (scalarRR 0x09 mulHighU 3 u f s)

/-- MULHS: product bits [127:64], signed, latency 3 (R64). -/
def execMulhs (u : Issue) (f : Fields) (s : State) : Answer := .next (scalarRR 0x0A mulHighS 3 u f s)

/-- MIN: signed minimum (R64). -/
def execMin (u : Issue) (f : Fields) (s : State) : Answer := .next (scalarRR 0x0B (fun a b => if a.slt b then a else b) 1 u f s)

/-- MAX: signed maximum (R64). -/
def execMax (u : Issue) (f : Fields) (s : State) : Answer := .next (scalarRR 0x0C (fun a b => if a.slt b then b else a) 1 u f s)

/-- MINU: unsigned minimum (R64). -/
def execMinu (u : Issue) (f : Fields) (s : State) : Answer := .next (scalarRR 0x0D (fun a b => if a.ult b then a else b) 1 u f s)

/-- MAXU: unsigned maximum (R64). -/
def execMaxu (u : Issue) (f : Fields) (s : State) : Answer := .next (scalarRR 0x0E (fun a b => if a.ult b then b else a) 1 u f s)

/-- SEL: d := a if p[imm[2:0]] is 1, else b; the predicate it selects by is read too (R64). -/
def execSel (u : Issue) (f : Fields) (s : State) : Answer :=
  .next (s.issue u f 0x0 0x0F (fun q =>
    q.write (q.x.ws q.f.dest.toNat
      (if q.x.rp (q.f.bits 2 0) then q.x.rs q.f.srca.toNat else q.x.rs q.f.srcb.toNat) (q.c + 1))))

/-- ADDI: d := a + sext(imm) (R64). -/
def execAddi (u : Issue) (f : Fields) (s : State) : Answer := .next (scalarRI 0x10 (fun a f => a + f.sext) 1 u f s)

/-- ANDI: d := a and sext(imm) (R64). -/
def execAndi (u : Issue) (f : Fields) (s : State) : Answer := .next (scalarRI 0x11 (fun a f => a &&& f.sext) 1 u f s)

/-- ORI: d := a or sext(imm) (R64). -/
def execOri (u : Issue) (f : Fields) (s : State) : Answer := .next (scalarRI 0x12 (fun a f => a ||| f.sext) 1 u f s)

/-- XORI: d := a xor sext(imm) (R64). -/
def execXori (u : Issue) (f : Fields) (s : State) : Answer := .next (scalarRI 0x13 (fun a f => a ^^^ f.sext) 1 u f s)

/-- SLLI: d := a << imm[5:0]; imm[31:6] reserved (R64). -/
def execSlli (u : Issue) (f : Fields) (s : State) : Answer := .next (scalarRI 0x14 (fun a f => shl a f.zext) 1 u f s)

/-- SRLI: zero-filled, imm[5:0] (R64). -/
def execSrli (u : Issue) (f : Fields) (s : State) : Answer := .next (scalarRI 0x15 (fun a f => shr a f.zext) 1 u f s)

/-- SRAI: sign-filled, imm[5:0] (R64). -/
def execSrai (u : Issue) (f : Fields) (s : State) : Answer := .next (scalarRI 0x16 (fun a f => sar a f.zext) 1 u f s)

/-- MULI: d := (a × sext(imm))[63:0], latency 3 (R64). -/
def execMuli (u : Issue) (f : Fields) (s : State) : Answer := .next (scalarRI 0x17 (fun a f => a * f.sext) 3 u f s)

/-- MOVHI: d := zext(imm) << 32 or a[31:0] (R64). -/
def execMovhi (u : Issue) (f : Fields) (s : State) : Answer := .next (scalarRI 0x18 (fun a f => (f.zext <<< 32) ||| (a &&& 0xFFFFFFFF)) 1 u f s)

/-- CMPEQ (R64). -/
def execCmpeq (u : Issue) (f : Fields) (s : State) : Answer := .next (compareRR 0x20 (fun a b => a == b) u f s)

/-- CMPLT: signed (R64). -/
def execCmplt (u : Issue) (f : Fields) (s : State) : Answer := .next (compareRR 0x21 (fun a b => a.slt b) u f s)

/-- CMPLTU: unsigned (R64). -/
def execCmpltu (u : Issue) (f : Fields) (s : State) : Answer := .next (compareRR 0x22 (fun a b => a.ult b) u f s)

/-- CMPEQI (R64). -/
def execCmpeqi (u : Issue) (f : Fields) (s : State) : Answer := .next (compareRI 0x23 (fun a b => a == b) u f s)

/-- CMPLTI: signed (R64). -/
def execCmplti (u : Issue) (f : Fields) (s : State) : Answer := .next (compareRI 0x24 (fun a b => a.slt b) u f s)

/-- CMPLTUI: unsigned, against the sign-extended immediate (R64). -/
def execCmpltui (u : Issue) (f : Fields) (s : State) : Answer := .next (compareRI 0x25 (fun a b => a.ult b) u f s)

/-- PAND (R64). -/
def execPand (u : Issue) (f : Fields) (s : State) : Answer := .next (logicPP 0x28 (fun a b => a && b) u f s)

/-- POR (R64). -/
def execPor (u : Issue) (f : Fields) (s : State) : Answer := .next (logicPP 0x29 (fun a b => a || b) u f s)

/-- PXOR (R64). -/
def execPxor (u : Issue) (f : Fields) (s : State) : Answer := .next (logicPP 0x2A (fun a b => a ^^ b) u f s)

/-- PANDN: a and not b (R64). -/
def execPandn (u : Issue) (f : Fields) (s : State) : Answer := .next (logicPP 0x2B (fun a b => a && !b) u f s)

end Sys2Proof.Machine
end

