-- ==== Sys2Proof/Machine/Branch.lean ====
section
/-! DEFINITION. Control, class 0x2 (R69, R70): branches, calls and hardware loops. -/

namespace Sys2Proof.Machine

/-- BR: pc := imm[11:0]; a taken branch (R69). -/
def execBr (u : Issue) (f : Fields) (s : State) : Answer :=
  .next (s.issue u f 0x2 0x00 (fun q => .done q.s q.t q.x (some (q.f.bits 11 0))))

/-- BRR: pc := a[11:0]; ILLEGAL where a[63:12] is not zero (R69). -/
def execBrr (u : Issue) (f : Fields) (s : State) : Answer :=
  .next (s.issue u f 0x2 0x01 (fun q =>
    if (q.x.rs q.f.srca.toNat).toNat ≥ 4096 then .fault 0x01 0
    else .done q.s q.t q.x (some (q.x.rs q.f.srca.toNat).toNat)))

/-- CALL: d := pc + 1, readable in the next cycle; pc := imm[11:0] (R69). -/
def execCall (u : Issue) (f : Fields) (s : State) : Answer :=
  .next (s.issue u f 0x2 0x02 (fun q =>
    .done q.s q.t (q.x.ws q.f.dest.toNat (BitVec.ofNat 64 (q.x.pc + 1)) (q.c + 1)) (some (q.f.bits 11 0))))

/-- Opening a loop level (R70): ILLEGAL with both levels open or an end below the start; count 0 opens none and branches past
the end. -/
def openLoop (q : Ctx) (count stop : Nat) : Effect :=
  if q.x.loops.length ≥ 2 then .fault 0x01 0
  else if stop < q.x.pc + 1 then .fault 0x01 0
  else if count = 0 then .done q.s q.t q.x (some (stop + 1))
  else .done q.s q.t
    { q.x with loops := { count := count, start := q.x.pc + 1, stop := stop } :: q.x.loops } none

/-- LOOP: count imm[31:12], end imm[11:0] (R69). -/
def execLoop (u : Issue) (f : Fields) (s : State) : Answer :=
  .next (s.issue u f 0x2 0x08 (fun q => openLoop q (q.f.bits 31 12) (q.f.bits 11 0)))

/-- LOOPR: count from a, ILLEGAL from 2^20 on (R69). -/
def execLoopr (u : Issue) (f : Fields) (s : State) : Answer :=
  .next (s.issue u f 0x2 0x09 (fun q =>
    if (q.x.rs q.f.srca.toNat).toNat ≥ 2 ^ 20 then .fault 0x01 0
    else openLoop q (q.x.rs q.f.srca.toNat).toNat (q.f.bits 11 0)))

/-- LPOP: closes the innermost level; no effect when none is open (R69). -/
def execLpop (u : Issue) (f : Fields) (s : State) : Answer :=
  .next (s.issue u f 0x2 0x0A (fun q => .done q.s q.t { q.x with loops := q.x.loops.tail } none))

end Sys2Proof.Machine
end

