-- ==== Sys2Proof/Machine/Codec.lean ====
section
/-! DEFINITION. The codes on the light and on the fabric: RS(72,68) over GF(2^8) of the Hearth block (R162, R163), CRC-16 and the pilot frames under it
(R179, R180, R263). -/

namespace Sys2Proof.Machine

/-- Multiplication in GF(2^8) with 0x11D; `n` bits of `b` are left. -/
def gfMulN : Nat → Nat → Nat → Nat
  | 0, _, _ => 0
  | n + 1, a, b =>
    let a2 := if a ≥ 128 then (2 * a) ^^^ 0x11D else 2 * a
    (if b % 2 = 1 then a else 0) ^^^ gfMulN n a2 (b / 2)

/-- Multiplication in GF(2^8) (R162). -/
def gfMul (a b : Nat) : Nat := gfMulN 8 a b

/-- α to a power. -/
def gfAlpha : Nat → Nat
  | 0 => 1
  | n + 1 => let a := gfAlpha n; if a ≥ 128 then (2 * a) ^^^ 0x11D else 2 * a

/-- `a` to a power. -/
def gfPow (a : Nat) : Nat → Nat
  | 0 => 1
  | n + 1 => gfMul a (gfPow a n)

/-- The inverse of a non-zero element. -/
def gfInv (a : Nat) : Nat := gfPow a 254

/-- The point of position `i`: α^(71−i). -/
def rsPoint (i : Nat) : Nat := gfAlpha (71 - i)

/-- One symbol into the remainder of the division by g(x) = x^4 + 0x0F x^3 + 0x36 x^2 + 0x78 x + 0x40, highest coefficient first (R162). -/
def rsStep (r : Nat × Nat × Nat × Nat) (m : Nat) : Nat × Nat × Nat × Nat :=
  let q := m ^^^ r.1
  (r.2.1 ^^^ gfMul q 0x0F, r.2.2.1 ^^^ gfMul q 0x36, r.2.2.2 ^^^ gfMul q 0x78, gfMul q 0x40)

/-- The parity of a codeword, positions 68 to 71: the remainder of m(x) × x^4 by g(x), `ms` positions 0 to 67 (R162). -/
def rsParity (ms : List Nat) : List Nat :=
  let r := ms.foldl rsStep (0, 0, 0, 0)
  [r.1, r.2.1, r.2.2.1, r.2.2.2]

/-- The parity bytes 136 to 143 of a block, of its bytes 0 to 135: two codewords interleaved (R162). -/
def blockParity (bs : List Byte) : List Byte :=
  let word := fun c => rsParity ((List.range 68).map (fun i => (bs.getD (2 * i + c) 0).toNat))
  ((List.range 4).map (fun i => [BitVec.ofNat 8 ((word 0).getD i 0), BitVec.ofNat 8 ((word 1).getD i 0)])).flatten

/-- Syndrome `j` of the symbols of a received word from position 0 on: its value at α^j (R162). -/
def rsSyndrome (j : Nat) (ws : List Nat) : Nat := ws.foldl (fun a w => gfMul a (gfAlpha j) ^^^ w) 0

/-- One error that explains four syndromes. -/
def rsOne (s0 s1 s2 s3 : Nat) : Option (List (Nat × Nat)) :=
  (List.range 72).findSome? (fun i =>
    let x := rsPoint i
    if s0 ≠ 0 ∧ gfMul s0 x = s1 ∧ gfMul s1 x = s2 ∧ gfMul s2 x = s3 then some [(i, s0)] else none)

/-- Two errors that explain four syndromes: with values e and f at the points x and y, s_j = e·x^j + f·y^j, so that s_j+1 + s_j·x is
f·(x + y)·y^j. -/
def rsTwo (s0 s1 s2 s3 : Nat) : Option (List (Nat × Nat)) :=
  (List.range 72).findSome? (fun i =>
    let x := rsPoint i
    let a1 := s1 ^^^ gfMul s0 x
    let a2 := s2 ^^^ gfMul s1 x
    let a3 := s3 ^^^ gfMul s2 x
    if a1 = 0 then none
    else (List.range i).findSome? (fun j =>
      let y := rsPoint j
      if gfMul a1 y = a2 ∧ gfMul a2 y = a3 ∧ gfMul s0 y ≠ s1 then
        let f := gfMul a1 (gfInv (x ^^^ y))
        some [(i, s0 ^^^ f), (j, f)]
      else none))

/-- What the decoder of one codeword corrects: up to two symbols as (position, value), or none where it fails (R163). -/
def rsCorrect (ws : List Nat) : Option (List (Nat × Nat)) :=
  let s0 := rsSyndrome 0 ws
  let s1 := rsSyndrome 1 ws
  let s2 := rsSyndrome 2 ws
  let s3 := rsSyndrome 3 ws
  if s0 = 0 ∧ s1 = 0 ∧ s2 = 0 ∧ s3 = 0 then some [] else (rsOne s0 s1 s2 s3).or (rsTwo s0 s1 s2 s3)

/-- The symbols of codeword `c` among the bytes of a block (R162). -/
def rsPart (c : Nat) (bs : List Byte) : List Nat := (List.range 72).map (fun i => (bs.getD (2 * i + c) 0).toNat)

/-- Both codewords of a block decoded: the bytes corrected, as (byte index, value), or none where either fails (R163). -/
def rsBlock (bs : List Byte) : Option (List (Nat × Byte)) :=
  match rsCorrect (rsPart 0 bs), rsCorrect (rsPart 1 bs) with
  | some a, some b =>
    some (a.map (fun x => (2 * x.1, BitVec.ofNat 8 x.2)) ++ b.map (fun x => (2 * x.1 + 1, BitVec.ofNat 8 x.2)))
  | _, _ => none

/-- Bytes with errors added. -/
def xorBytes (bs : List Byte) : List (Nat × Byte) → List Byte
  | [] => bs
  | (i, e) :: es => xorBytes (bs.set i (bs.getD i 0 ^^^ e)) es

/-! ### CRC-16 and pilot frames (R179, R263) -/

/-- The CRC-16 of polynomial 0x1021 after the `n` low bits of a number, the highest first, from a start value (R179, R263). -/
def crc16 : Nat → Nat → Nat → Nat
  | 0, _, c => c
  | n + 1, x, c => crc16 n x (2 * c % 2 ^ 16 ^^^ (if (c / 2 ^ 15 + x / 2 ^ n) % 2 = 1 then 0x1021 else 0))

/-- A pilot frame (R179): sync 0x5A, type, receiver, sender, value and its complement, sequence number and CRC. -/
def pilotFrame (type dst src value seq : Nat) : BitVec 128 :=
  let v := value % 2 ^ 32
  let body := 0x5A * 2 ^ 104 + type % 16 * 2 ^ 100 + dst % 256 * 2 ^ 88 + src % 256 * 2 ^ 80 + v * 2 ^ 48 + (2 ^ 32 - 1 - v) * 2 ^ 16 + seq % 2 ^ 16
  BitVec.ofNat 128 (body * 2 ^ 16 + crc16 112 body 0xFFFF)

/-- Bits [hi:lo] of a frame. -/
def frameFld (f : BitVec 128) (hi lo : Nat) : Nat := f.toNat / 2 ^ lo % 2 ^ (hi - lo + 1)

/-- Whether the CRC of a received frame holds. -/
def crcHolds (f : BitVec 128) : Bool := crc16 112 (f.toNat / 2 ^ 16) 0xFFFF == frameFld f 15 0

/-- What a receiver makes of the two copies of a frame (R180): both lost; the first good copy with whether it is the second; or a good CRC over a value its
nvalue does not complement. -/
inductive PilotRead where
  | lost
  | good (frame : BitVec 128) (second : Bool)
  | mismatch
deriving DecidableEq, Repr

/-- A copy whose CRC holds. -/
def readFrame (f : BitVec 128) (second : Bool) : PilotRead :=
  if frameFld f 95 64 + frameFld f 63 32 = 2 ^ 32 - 1 then .good f second else .mismatch

/-- The two copies read (R180). -/
def readPilot (a b : BitVec 128) : PilotRead := if crcHolds a then readFrame a false else if crcHolds b then readFrame b true else .lost

end Sys2Proof.Machine
end

