-- ==== Sys2Proof/Machine/FabricCodec.lean ====
section
/-! DEFINITION. The Huaren fabric's formats (chapter 10): cells with their CRC (R263), remote operation descriptors (R273), management payloads (R279). -/

namespace Sys2Proof

/-! ### Cells (R263) -/

/-- The lane of a cell: 0 scheduled (VL0), 1 remote (VL1), 2 management (VL2), 3 none. -/
def Cell.lane (c : Cell) : Nat :=
  match c.kind.toNat with
  | 0 => 0
  | 1 => 1
  | 2 => 1
  | 3 => 2
  | _ => 3

/-- The receive buffer of a cell, and the bit of `off` that holds its lane and channel (R263, R265). -/
def Cell.buffer (c : Cell) : Nat := if c.lane = 0 then 0 else 2 * c.lane - (if c.dvc then 0 else 1)

/-- The cells that a receive buffer holds (R265). -/
def bufferSize (b : Nat) : Nat := if b = 0 then 8192 else if b ≤ 2 then 4096 else 512

/-- Whether a cell's payload has a meaning: a management cell is of a type of R279. -/
def Cell.known (c : Cell) : Bool := c.lane != 2 || decide (1 ≤ c.payload.toNat % 256 ∧ c.payload.toNat % 256 ≤ 5)

/-- Header bits [63:16] of a cell. -/
def Cell.head (c : Cell) : Nat :=
  c.tick.toNat + c.window.toNat * 2 ^ 4 + c.off.toNat * 2 ^ 13 + c.ack.toNat * 2 ^ 18 + c.seq.toNat * 2 ^ 31 + c.kind.toNat * 2 ^ 44 +
    (if c.dvc then 2 ^ 47 else 0)

namespace Machine

/-- The CRC of a cell over header bits [63:16] and payload. DESIGN CHOICE: the header bits from the highest down, then the payload bytes in order, each from
its highest bit. -/
def cellCrc (head payload : Nat) : Nat :=
  ((List.range 128).map (fun i => payload / 2 ^ (8 * i) % 256)).foldl (fun c b => crc16 8 b c) (crc16 48 head 0xFFFF)

end Machine

/-- The 136 bytes of a cell as a number, byte k in bits [8k + 7:8k] (R263). -/
def Cell.bits (c : Cell) : BitVec 1088 :=
  BitVec.ofNat 1088 (Machine.cellCrc c.head c.payload.toNat + c.head * 2 ^ 16 + c.payload.toNat * 2 ^ 64)

namespace Machine

/-- The cell that 136 bytes spell. -/
def readCell (b : BitVec 1088) : Cell :=
  let n := b.toNat
  { dvc := n / 2 ^ 63 % 2 == 1, kind := BitVec.ofNat 3 (n / 2 ^ 60), seq := BitVec.ofNat 13 (n / 2 ^ 47), ack := BitVec.ofNat 13 (n / 2 ^ 34),
    off := BitVec.ofNat 5 (n / 2 ^ 29), window := BitVec.ofNat 9 (n / 2 ^ 20), tick := BitVec.ofNat 4 (n / 2 ^ 16), payload := BitVec.ofNat 1024 (n / 2 ^ 64) }

/-- Whether the CRC of a received cell holds. -/
def cellHolds (b : BitVec 1088) : Bool := cellCrc (b.toNat / 2 ^ 16 % 2 ^ 48) (b.toNat / 2 ^ 64) == b.toNat % 2 ^ 16

/-- A cell of a kind with a payload, its other fields zero. -/
def cellOf (kind : Nat) (dvc : Bool) (payload : Nat) : Cell :=
  { dvc := dvc, kind := BitVec.ofNat 3 kind, seq := 0, ack := 0, off := 0, window := 0, tick := 0, payload := BitVec.ofNat 1024 payload }

/-- A management payload (R279): type, byte 1, and the words of bytes 8 to 15 and 16 to 23 and 24 to 27. -/
def mgmtPayload (type b1 w8 w16 w24 : Nat) : Nat := type + b1 * 2 ^ 8 + w8 % 2 ^ 64 * 2 ^ 64 + w16 % 2 ^ 64 * 2 ^ 128 + w24 % 2 ^ 32 * 2 ^ 192

end Machine

/-! ### Remote operation descriptors (R91, R273) -/

/-- The bytes of an operation (R91). -/
def opBytes (op : Nat) : Nat := if op = 1 ∨ op = 5 then 64 else 8

/-- Whether an operation delivers a result (R91). -/
def opDelivers (op : Nat) : Bool := op ≤ 1 || 9 ≤ op

/-- The payload of a request or response (R273). -/
def RemoteDesc.payload (d : RemoteDesc) : Nat :=
  d.mpa.toNat + d.target.toNat * 2 ^ 48 + d.op.toNat * 2 ^ 60 +
  (d.status.toNat * 2 ^ 24 + d.tick.toNat * 2 ^ 26 + d.thread.val * 2 ^ 34 + d.col.toNat * 2 ^ 36 + d.row.val * 2 ^ 42 + d.die.val * 2 ^ 48 +
    d.from_.toNat * 2 ^ 52) * 2 ^ 64 +
  d.value.toNat * 2 ^ 128 + d.compare.toNat * 2 ^ 192 + d.data.toNat * 2 ^ 512

/-- The memory stack that a descriptor's address names. -/
def RemoteDesc.stack (d : RemoteDesc) : Nat := d.mpa.toNat / 2 ^ 40 % 16
/-- The offset in that stack. -/
def RemoteDesc.off (d : RemoteDesc) : Nat := d.mpa.toNat % 2 ^ 40

/-- Whether a request is well formed: a function of R91, a memory stack's address, a multiple of the operation's size (R91, R92, R272). -/
def RemoteDesc.wellFormed (d : RemoteDesc) : Bool :=
  [0, 1, 4, 5, 8, 9, 10, 11].contains d.op.toNat && d.mpa.toNat / 2 ^ 44 == 1 && d.off % opBytes d.op.toNat == 0

/-- The response to a request: bytes 0 to 15 unchanged except for status, a result, no compare value (R273). -/
def RemoteDesc.answer (d : RemoteDesc) (status : Nat) (value : DWord) (data : VReg) : RemoteDesc :=
  { d with status := BitVec.ofNat 2 status, value := value, compare := 0, data := data }

namespace Machine

/-- The descriptor a payload holds. -/
def descOf (p : Nat) : RemoteDesc :=
  let w := p / 2 ^ 64
  { op := BitVec.ofNat 4 (p / 2 ^ 60), target := BitVec.ofNat 12 (p / 2 ^ 48), mpa := BitVec.ofNat 48 p, from_ := BitVec.ofNat 12 (w / 2 ^ 52),
    die := ⟨w / 2 ^ 48 % 16, Nat.mod_lt _ (by decide)⟩, row := ⟨w / 2 ^ 42 % 64, Nat.mod_lt _ (by decide)⟩, col := BitVec.ofNat 6 (w / 2 ^ 36),
    thread := ⟨w / 2 ^ 34 % 4, Nat.mod_lt _ (by decide)⟩, tick := BitVec.ofNat 8 (w / 2 ^ 26), status := BitVec.ofNat 2 (w / 2 ^ 24),
    value := BitVec.ofNat 64 (p / 2 ^ 128), compare := BitVec.ofNat 64 (p / 2 ^ 192), data := BitVec.ofNat 512 (p / 2 ^ 512) }

end Machine
end Sys2Proof
end

