-- ==== Sys2Proof/Machine/ScalarMem.lean ====
section
/-! DEFINITION. Scalar memory, class 0x1 (R66 to R68, R240 to R247, R481): loads and stores of the tile's own SRAM. -/

namespace Sys2Proof.Machine

/-- Load-to-use latency of a tile offset: 2 cycles near, 6 deep (R28, R67). -/
def loadLatency (off : Nat) : Nat := if off < 0x40000 then 2 else 6

/-- The effective address of R66. -/
def Ctx.ea (q : Ctx) : Nat := (q.x.rs q.f.srca.toNat + q.f.sext).toNat

/-- A load of `size` bytes at `ea`: the offset and the tile after it, or a fault (R66, R68, R482). -/
def Ctx.load (q : Ctx) (ea size align : Nat) : (Nat × Nat) ⊕ (Nat × Tile) :=
  match q.s.localAt q.k ea false with
  | .bad code => .inl (code, ea % 2 ^ 20)
  | .at_ off _ =>
    if ea % align ≠ 0 then .inl (0x03, ea % 2 ^ 20)
    else match q.t.badWord (wordsOf off size) with
      | some w => .inl (0x10, 8 * w)
      | none => .inr (off, q.t.countFixes (wordsOf off size))

/-- What a store does: a fault, or the state and tile after it. A store through the write alias after the guard start is
discarded with error 0x04 (R247); an uncorrectable word that would be merged raises ECC_SRAM and nothing of it is written
(R481). -/
def Ctx.store (q : Ctx) (s : State) (t : Tile) (ea align : Nat) (bs : List Byte) : (Nat × Nat) ⊕ (State × Tile) :=
  match s.localAt q.k ea true with
  | .bad code => .inl (code, ea % 2 ^ 20)
  | .at_ off viaWrite =>
    if ea % align ≠ 0 then .inl (0x03, ea % 2 ^ 20)
    else if viaWrite && s.tick.guard then
      .inr (s.carryError q.k (((copyWin (s.carryWins (keyDie q.k)) off).map (fun w => w.1)).getD 0) 0x04, t)
    else match t.badWord (partWords off bs.length) with
      | some w => .inl (0x10, 8 * w)
      | none =>
        let t' := (t.countFixes (partWords off bs.length)).write off bs
        .inr (s, if viaWrite then { t' with granules := markGranules t'.granules off bs.length 64 } else t')

/-- A scalar load (R67). -/
def loadS (fn : Nat) (size : Nat) (conv : Nat → DWord) (u : Issue) (f : Fields) (s : State) : State :=
  s.issue u f 0x1 fn (fun q =>
    match q.load q.ea size size with
    | .inl e => .fault e.1 e.2
    | .inr r => .done q.s r.2 (q.x.ws q.f.dest.toNat (conv (leNat (q.t.bytes r.1 size))) (q.c + loadLatency r.1)) none)

/-- A scalar store of the low `size` bytes of b (R67). -/
def storeS (fn : Nat) (size : Nat) (u : Issue) (f : Fields) (s : State) : State :=
  s.issue u f 0x1 fn (fun q =>
    match q.store q.s q.t q.ea size (leBytes size (q.x.rs q.f.srcb.toNat).toNat) with
    | .inl e => .fault e.1 e.2
    | .inr r => .done r.1 r.2 q.x none)

/-- A loaded number sign-extended from `w` bits. -/
def sextN (w n : Nat) : DWord := (BitVec.ofNat w n).signExtend 64

/-- LDB: zero-extended byte (R67). -/
def execLdb (u : Issue) (f : Fields) (s : State) : Answer := .next (loadS 0x00 1 (BitVec.ofNat 64) u f s)
/-- LDH: zero-extended halfword (R67). -/
def execLdh (u : Issue) (f : Fields) (s : State) : Answer := .next (loadS 0x01 2 (BitVec.ofNat 64) u f s)
/-- LDW: zero-extended word (R67). -/
def execLdw (u : Issue) (f : Fields) (s : State) : Answer := .next (loadS 0x02 4 (BitVec.ofNat 64) u f s)
/-- LDD: eight bytes (R67). -/
def execLdd (u : Issue) (f : Fields) (s : State) : Answer := .next (loadS 0x03 8 (BitVec.ofNat 64) u f s)
/-- LDBS: sign-extended byte (R67). -/
def execLdbs (u : Issue) (f : Fields) (s : State) : Answer := .next (loadS 0x04 1 (sextN 8) u f s)
/-- LDHS: sign-extended halfword (R67). -/
def execLdhs (u : Issue) (f : Fields) (s : State) : Answer := .next (loadS 0x05 2 (sextN 16) u f s)
/-- LDWS: sign-extended word (R67). -/
def execLdws (u : Issue) (f : Fields) (s : State) : Answer := .next (loadS 0x06 4 (sextN 32) u f s)
/-- STB (R67). -/
def execStb (u : Issue) (f : Fields) (s : State) : Answer := .next (storeS 0x08 1 u f s)
/-- STH (R67). -/
def execSth (u : Issue) (f : Fields) (s : State) : Answer := .next (storeS 0x09 2 u f s)
/-- STW (R67). -/
def execStw (u : Issue) (f : Fields) (s : State) : Answer := .next (storeS 0x0A 4 u f s)
/-- STD (R67). -/
def execStd (u : Issue) (f : Fields) (s : State) : Answer := .next (storeS 0x0B 8 u f s)

/-- VLD: 64 bytes into a vector register (R67). -/
def execVld (u : Issue) (f : Fields) (s : State) : Answer :=
  .next (s.issue u f 0x1 0x10 (fun q =>
    match q.load q.ea 64 64 with
    | .inl e => .fault e.1 e.2
    | .inr r => .done q.s r.2 (q.x.wv q.f.dest.toNat (ofBytes (q.t.bytes r.1 64)) (q.c + loadLatency r.1)) none))

/-- VST: 64 bytes of a vector register (R67). -/
def execVst (u : Issue) (f : Fields) (s : State) : Answer :=
  .next (s.issue u f 0x1 0x11 (fun q =>
    match q.store q.s q.t q.ea 64 (leBytes 64 (q.x.rv q.f.srcb.toNat).toNat) with
    | .inl e => .fault e.1 e.2
    | .inr r => .done r.1 r.2 q.x none))

end Sys2Proof.Machine
end

