-- ==== Sys2Proof/Machine/MeshInstr.lean ====
section
/-! DEFINITION. Mesh transfer, class 0x5 (R78 to R83), and the waits of the core that arrivals and departing sends end. -/

namespace Sys2Proof.Machine

/-! ### Waits -/

/-- A thread released from its wait, the end of which the sender of its next command dates (R45); one whose program counter passed the end of the store then raises ILLEGAL (R27). -/
def State.wake (s : State) (k n : Nat) : State :=
  let t := s.tile k
  s.finish k t n { t.thread n with state := .running, wait := .none, came := true }

/-- Serves the threads that wait on counter `c` of a tile, in order, while it holds enough (R83). -/
def State.serveCounter (s : State) (k c : Nat) : List Nat → State
  | [] => s
  | n :: ns =>
    let t := s.tile k
    match (t.thread n).wait with
    | .counter j m =>
      if j.val = c ∧ (t.thread n).state = .data ∧ m ≤ t.ctr.get 0 c then
        ((s.setTile k { t with ctr := t.ctr.set 0 c (t.ctr.get 0 c - m) }).wake k n).serveCounter k c ns
      else s.serveCounter k c ns
    | _ => s.serveCounter k c ns

/-- One arrival on a counter: up by one, staying at 0xFFFF, where the router's map counts it (R82, R154), then the waiting
threads are served. -/
def State.arrive (s : State) (k c : Nat) : State :=
  let t := s.tile k
  let v := t.ctr.get 0 c
  if v = 0xFFFF then
    let r := s.router k
    (s.setRouter k { r with map := r.map.set 0 6 (satAdd 8 (r.map.get 0 6) 1) }).serveCounter k c (serveOrder t.lastLoose)
  else (s.setTile k { t with ctr := t.ctr.set 0 c (v + 1) }).serveCounter k c (serveOrder t.lastLoose)

/-- Whether a descriptor is a Hearth send (R86). -/
def SendDesc.isHearth (d : SendDesc) : Bool :=
  match d.kind with
  | .mesh _ => false
  | _ => true

/-- The waits of a queue's threads after a descriptor has left it: those that count descriptors move one forward. -/
def State.serveSends (s : State) (k : Nat) : List Nat → State
  | [] => s
  | n :: ns =>
    let t := s.tile k
    match (t.thread n).wait with
    | .quiet a =>
      if a ≤ 1 then (s.wake k n).serveSends k ns
      else (s.setTile k (t.setThread n { t.thread n with wait := .quiet (a - 1) })).serveSends k ns
    | .hearth => if t.sendB.any SendDesc.isHearth then s.serveSends k ns else (s.wake k n).serveSends k ns
    | .place => (s.wake k n).serveSends k ns
    | .tickend => if t.sendB.isEmpty then (s.wake k n).serveSends k ns else s.serveSends k ns
    | _ => s.serveSends k ns

/-- The queue of a thread: the bound thread's, or the one the loose threads share (R80). -/
def Tile.queue (t : Tile) (n : Nat) : List SendDesc := if n = 0 then t.sendB else t.sendL
/-- The tile with the queue of a thread. -/
def Tile.setQueue (t : Tile) (n : Nat) (l : List SendDesc) : Tile := if n = 0 then { t with sendB := l } else { t with sendL := l }

/-- A send entering its thread's queue; a full queue holds it off (R80). -/
def Ctx.enqueue (q : Ctx) (d : SendDesc) : Effect :=
  if (q.t.queue q.n).length ≥ 4 then .hold .place
  else .done q.s (q.t.setQueue q.n (q.t.queue q.n ++ [d])) q.x none

/-- The descriptor of a send that issues now. -/
def Ctx.desc (q : Ctx) (kind : SendKind) (src dst len : Nat) : SendDesc :=
  { kind := kind, thread := q.n, pc := q.x.pc, src := src, dst := dst, len := len, sent := 0, part := [], partBad := none,
    poison := false }

/-- A thread that has issued a waiting instruction and waits (R45). -/
def Ctx.waits (q : Ctx) (st : ThreadState) (w : Wait) : Effect :=
  .done q.s q.t { q.x with state := st, wait := w, waitFrom := some (q.c + 1) } none

/-! ### MSEND (R78, R79) -/

/-- Whether a route descriptor is malformed (R79). -/
def routeBad (r : Word) : Bool :=
  match fld r 31 30 with
  | 0 => decide (fld r 23 18 > 47) || fld r 7 4 != 0 || (!(flag r 17) && fld r 15 8 != 0)
  | 1 => decide (fld r 17 12 > 47) || decide (fld r 11 6 > 47) || decide (fld r 23 18 < fld r 29 24) ||
      decide (fld r 11 6 < fld r 17 12) || fld r 5 4 != 0
  | 2 => fld r 29 8 != 0
  | _ => true

/-- A local range of `len` bytes for a send's source or an HGET's landing: the offset, or ADDR (R78, R87). -/
def Ctx.range (q : Ctx) (ea len : Nat) : Option Nat :=
  match q.s.localAt q.k ea false, q.s.localAt q.k (ea + len - 1) false with
  | .at_ o _, .at_ p _ => if p = o + len - 1 then some o else none
  | _, _ => none

/-- MSEND (R78 to R81): enters the thread's send queue and completes at issue. DESIGN CHOICE (log 131): where both ranges lie outside the scratch, the fault
records the local address. -/
def execMsend (u : Issue) (f : Fields) (s : State) : Answer :=
  .next (s.issue u f 0x5 0x00 (fun q =>
    let dst := (q.x.rs q.f.dest.toNat).toNat
    let ea := (q.x.rs q.f.srca.toNat).toNat
    let len := (q.x.rs q.f.srcb.toNat).toNat
    if len < 32 ∨ len > 65536 ∨ len % 32 ≠ 0 ∨ routeBad q.f.imm then .fault 0x01 0
    else match q.range ea len with
      | none => .fault 0x04 (ea % 2 ^ 20)
      | some off =>
        if dst + len > 2 ^ 20 then .fault 0x04 0
        else if ea % 32 ≠ 0 then .fault 0x03 (ea % 2 ^ 20)
        else if dst % 32 ≠ 0 then .fault 0x03 0
        else q.enqueue (q.desc (.mesh q.f.imm) off dst len)))

/-! ### Waiting and status (R83) -/

/-- The counter an immediate names. -/
def Fields.counter (f : Fields) : Fin 16 := ⟨f.imm.toNat % 16, Nat.mod_lt _ (by decide)⟩

/-- MWAIT: waits until counter k holds n, then takes n from it. -/
def execMwait (u : Issue) (f : Fields) (s : State) : Answer :=
  .next (s.issue u f 0x5 0x08 (fun q =>
    let c := (Fields.counter q.f).val
    let n := q.f.bits 31 16
    if n ≤ q.t.ctr.get 0 c then .done q.s { q.t with ctr := q.t.ctr.set 0 c (q.t.ctr.get 0 c - n) } q.x none
    else q.waits .data (.counter (Fields.counter q.f) n)))

/-- MTEST: d := (counter k ≥ n); the counter is unchanged. -/
def execMtest (u : Issue) (f : Fields) (s : State) : Answer :=
  .next (s.issue u f 0x5 0x09 (fun q =>
    q.write (q.x.wp q.f.dest.toNat (decide (q.f.bits 31 16 ≤ q.t.ctr.get 0 (q.f.bits 3 0))) (q.c + 1))))

/-- MCNT: d := counter imm[3:0]. -/
def execMcnt (u : Issue) (f : Fields) (s : State) : Answer :=
  .next (s.issue u f 0x5 0x0A (fun q =>
    q.write (q.x.ws q.f.dest.toNat (BitVec.ofNat 64 (q.t.ctr.get 0 (q.f.bits 3 0))) (q.c + 1))))

/-- MQUIET: waits until every earlier send of the thread's queue has left it. -/
def execMquiet (u : Issue) (f : Fields) (s : State) : Answer :=
  .next (s.issue u f 0x5 0x0B (fun q =>
    if (q.t.queue q.n).isEmpty then .done q.s q.t q.x none
    else q.waits .data (.quiet (q.t.queue q.n).length)))

end Sys2Proof.Machine
end

