-- ==== Sys2Proof/Machine/HearthOps.lean ====
section
/-! DEFINITION. What the mesh, the Hearth and ember-sum share: deliveries into tile SRAM (R82, R135, R147, R242), ports, blocks and
transmit groups (R161, R165, R167, R170, R171), pilot frames and the recording of Hearth errors (R179, R186). -/

namespace Sys2Proof.Machine

/-! ### Delivery into a tile -/

/-- A run of bytes cut into flits of 32. -/
def flitsOf (data : List Byte) : List (List Byte) :=
  (List.range ((data.length + 31) / 32)).map (fun i => (data.drop (32 * i)).take 32)

/-- Flits written from an offset on, those inside a copy range of a carry window left out (R242): the tile, a window hit, whether
the last flit was written. -/
def landFlits (ws : List (Nat × Nat × Nat × Nat × Nat)) (t : Tile) (off : Nat) (hit : Option Nat) :
    List (List Byte) → Tile × Option Nat × Bool
  | [] => (t, hit, true)
  | [b] =>
    match copyWin ws off with
    | some w => (t, some w.1, false)
    | none => (t.write off b, hit, true)
  | b :: bs =>
    match copyWin ws off with
    | some w => landFlits ws t (off + 32) (some w.1) bs
    | none => landFlits ws (t.write off b) (off + 32) hit bs

/-- A message sunk at a fenced tile is counted in its map entry (R147). -/
def State.sink (s : State) (k : Nat) (messageEnd : Bool) : State :=
  if s.fenced k && messageEnd then
    let r := s.router k
    s.setRouter k { r with map := r.map.set 0 7 (satAdd 8 (r.map.get 0 7) 1) }
  else s

/-- A router-port delivery at a position: sunk where the tile is fenced or unpowered; else written, and the named counter rises
once its last byte is written (R82, R135, R147, R242). -/
def State.land (s : State) (k off : Nat) (data : List Byte) (ctr : Option Nat) (messageEnd : Bool) : State :=
  if !(s.tilePowered k) then s.sink k messageEnd
  else
    let (t, hit, done) := landFlits (s.carryWins (keyDie k)) (s.tile k) off none (flitsOf data)
    let s := s.setTile k t
    let s := match hit with
      | some w => s.carryError k w 0x03
      | none => s
    match ctr with
    | some c => if done && messageEnd then s.arrive k c else s
    | none => s

/-! ### Ports -/

/-- A Hearth port. -/
def State.port (s : State) (p : Nat) : HPort := s.ports.get HPort.reset p
/-- The state with a Hearth port. -/
def State.setPort (s : State) (p : Nat) (x : HPort) : State := { s with ports := s.ports.set HPort.reset p x }
/-- A transmit group. -/
def HPort.group (x : HPort) (g : Nat) : TxGroup := x.tx.get TxGroup.reset g
/-- The port with a transmit group. -/
def HPort.setGroup (x : HPort) (g : Nat) (q : TxGroup) : HPort := { x with tx := x.tx.set TxGroup.reset g q }
/-- A reserve. -/
def HPort.reserve (x : HPort) (r : Nat) : List HBlock := x.rx.get [] r
/-- The port with a reserve. -/
def HPort.setReserve (x : HPort) (r : Nat) (l : List HBlock) : HPort := { x with rx := x.rx.set [] r l }
/-- A congestion counter raised, saturating at `w` bits (R187). -/
def HPort.count (x : HPort) (g i w n : Nat) : HPort :=
  { x with map := x.map.set 0 (8 * g + i) (satAdd w (x.map.get 0 (8 * g + i)) n) }

/-- The memory port of a logical bay: memory logical bay k is stack k under every map (R344). -/
def State.bayPort (_ : State) (k : Nat) : Nat := 16 + k

/-- Whether two ports are the compute and the memory port of one bay. -/
def ownPair (p q : Nat) : Bool := decide (min p q < 16 ∧ max p q = min p q + 16)

/-- The transmit group a block takes (R167): the pair bundle between a bay's own ports, else the lattice. -/
def groupFor (src dst : Nat) : Nat := if ownPair src dst then 36 else dst

/-- The transmit-group entry of a port (R170). -/
def State.groupWord (s : State) (p g : Nat) : Word := s.tblWord (tblKey 1 p 0 g)

/-- The ports that read a broadcast flue, with their read position (R175). -/
def State.readers (s : State) (p : Nat) : List Nat :=
  (List.range 36).filter (fun q => (List.range 4).any (fun j =>
    let w := s.tblWord (tblKey 1 q 3 j)
    flag w 31 && fld w 5 0 == p))

/-! ### Pilot frames (R179) -/

/-- A frame sent, twice over, under the sender's next sequence number (R179, R180). -/
def State.sendFrame (s : State) (type dst src value : Nat) : State :=
  let n := s.hearth.pilotSeq.get 0 src
  { s.send (.pilot src (pilotFrame type dst src value n)) with
    hearth := { s.hearth with pilotSeq := s.hearth.pilotSeq.set 0 src ((n + 1) % 2 ^ 16) } }

/-- An error report of a port on its way to Stoker: bits [31:8] of the info word under the code (R179 type 0x7, R186). -/
def State.reportError (s : State) (p code : Nat) (info : Word) : State :=
  let v := code % 256 * 2 ^ 24 + info.toNat / 256
  let s := s.sendFrame 7 0x40 p v
  { s with hearth := { s.hearth with reports := s.hearth.reports ++ [(p, v)] } }

/-! ### Errors of the Hearth and of ember-sum -/

/-- Codes that abandon the tick they are charged to (R186). -/
def hearthAbandons (code : Nat) : Bool := code == 1 || code == 2 || code == 3 || code == 4 || code == 6 || code == 7

/-- A Hearth error: recorded, counted, reported, and charged where it abandons a tick (R186, R303). Code 0x0B is counted and reported only. -/
def State.hearthError (s : State) (p group lane pos code : Nat) : State :=
  let info := BitVec.ofNat 32 (p * 2 ^ 26 + group * 2 ^ 20 + lane * 2 ^ 10 + pos * 2 ^ 8 + s.chargedSeq % 256)
  if code = 0x0B then
    ({ s with hearth := { s.hearth with oldTick := s.hearth.oldTick.set 0 p (s.hearth.oldTick.get 0 p + 1) } } : State).reportError p code info
  else
    let s := ((s.recordFirst Reg.HRT_ERR_STATUS Reg.HRT_ERR_INFO code info).faultEvent 4 p code (hearthAbandons code)).reportError p code info
    let s := if code = 1 then s.bumpReg Reg.HRT_ERR_COUNT 31 16 else s
    let s := if code = 3 ∨ code = 4 then s.bumpReg Reg.HRT_ERR_COUNT 15 0 else s
    if hearthAbandons code then s.charge else s

/-- Codes of ember-sum that abandon the tick they are charged to (R206). -/
def emberAbandons (code : Nat) : Bool := decide (1 ≤ code ∧ code ≤ 6) || code == 8

/-- An ember-sum error: recorded, counted, reported, and charged where it abandons a tick (R206). -/
def State.emberError (s : State) (p entry det contributor code : Nat) : State :=
  let info := BitVec.ofNat 32 (p * 2 ^ 28 + entry * 2 ^ 22 + det * 2 ^ 16 + contributor * 2 ^ 12 + s.chargedSeq % 256)
  let s := ((s.recordFirst Reg.EMB_ERR_STATUS Reg.EMB_ERR_INFO code info).faultEvent 5 p code (emberAbandons code)).reportError p code info
  let s := if code = 5 then s.bumpReg Reg.EMB_ERR_COUNT 31 16 else s.bumpReg Reg.EMB_ERR_COUNT 15 0
  if emberAbandons code then s.charge else s

/-- An ember-sum error recorded `n` times. -/
def State.emberErrors (s : State) (p entry code : Nat) : Nat → State
  | 0 => s
  | n + 1 => (s.emberError p entry 0x3F 0 code).emberErrors p entry code n

/-! ### Blocks (R160, R161) -/

/-- An idle block (R164). -/
def idleBlock : HBlock :=
  { src := 0, dst := 0, kind := 7, poison := false, stream := 0, tick := 0, ctr := 0, last := false, addr := 0, group := 0, lane := 0, dests := [],
    data := List.replicate 128 0, mark := 0 }

/-- A memory-stack or tile address cut into the header's addr field (R161). -/
def blockAddr (mpa : Nat) : Nat :=
  if mpa / 2 ^ 44 = 0 then mpa / 2 ^ 34 % 64 * 2 ^ 23 + mpa / 2 ^ 28 % 64 * 2 ^ 17 + mpa % 2 ^ 20 / 128 else mpa % 2 ^ 36 / 128

/-- The payload of a read request (R168): source, return address, length, stream and counter of the response. -/
def readRequest (mpa ret len stream ctr : Nat) : List Byte :=
  leBytes 8 mpa ++ leBytes 8 ret ++ leBytes 4 len ++ [BitVec.ofNat 8 stream, BitVec.ofNat 8 ctr] ++ List.replicate 106 0

/-- The header of a block as a number. -/
def HBlock.header (b : HBlock) : Nat :=
  b.addr % 2 ^ 29 + (if b.last then 2 ^ 31 else 0) + b.ctr % 16 * 2 ^ 32 + b.tick % 16 * 2 ^ 36 + b.stream % 256 * 2 ^ 40 +
    (if b.poison then 2 ^ 48 else 0) + b.kind % 8 * 2 ^ 49 + b.dst % 64 * 2 ^ 52 + b.src % 64 * 2 ^ 58

/-- The block that a header and payload spell where block `b` was sent. -/
def spelledBlock (b : HBlock) (h : Nat) (data : List Byte) : HBlock :=
  { src := h / 2 ^ 58 % 64, dst := h / 2 ^ 52 % 64, kind := h / 2 ^ 49 % 8, poison := h / 2 ^ 48 % 2 == 1, stream := h / 2 ^ 40 % 256,
    tick := h / 2 ^ 36 % 16, ctr := h / 2 ^ 32 % 16, last := h / 2 ^ 31 % 2 == 1, addr := h % 2 ^ 29, group := b.group, lane := b.lane, dests := [],
    data := data, mark := b.mark }

/-- Header and payload in lane order: block bytes 0 to 135 (R160). -/
def HBlock.plain (b : HBlock) : List Byte := leBytes 8 b.header ++ b.data ++ List.replicate (128 - b.data.length) 0

/-- The 144 bytes of a block, its parity last (R160, R162). -/
def HBlock.bytes (b : HBlock) : List Byte := b.plain ++ blockParity b.plain

/-! ### Lanes and their rotation (R165, R178, R183) -/

/-- A lane's state code (R183). -/
def State.laneState (s : State) (p l : Nat) : Nat := fld (s.tblWord (tblKey 1 p 5 l)) 31 29
/-- The state with a lane's state code. -/
def State.setLaneState (s : State) (p l st : Nat) : State :=
  s.setTbl (tblKey 1 p 5 l) (setFld (s.tblWord (tblKey 1 p 5 l)) 31 29 st)

/-- The read positions of a broadcast flue: reader port and position. -/
def State.readPlaces (s : State) (p : Nat) : List (Nat × Nat) :=
  ((List.range 36).map (fun q => (List.range 4).filterMap (fun j =>
    let w := s.tblWord (tblKey 1 q 3 j)
    if flag w 31 && fld w 5 0 == p then some (q, j) else none))).flatten

/-- Whether a wavelength of a port's own broadcast flue is in its rotation: in service at every reader (R165, R178, R183). -/
def State.waveActive (s : State) (p j : Nat) : Bool := (s.readPlaces p).all (fun q => s.laneState q.1 (452 + 16 * q.2 + j) == 0)

/-- The lane that carries a place of the rotation: its own, the spare position it has moved to, or none (R165, R183). -/
def State.laneInUse (s : State) (src dst l : Nat) : Option Nat :=
  match s.laneState dst l with
  | 0 => some l
  | 3 => none
  | _ => some (288 + src)

/-- The lanes of a group in rotation order: wavelengths of the own broadcast flue, pair lanes, or lattice flues, as lane-status indices at the receiver
(R165). -/
def State.rotation (s : State) (p g : Nat) : List Nat :=
  if g = p then (List.range 16).filter (s.waveActive p)
  else if g = 36 then
    let q := if p < 16 then p + 16 else p - 16
    (List.range 128).filterMap (fun n => s.laneInUse p q (324 + n))
  else (List.range 8).filterMap (fun f => s.laneInUse p g (36 * f + p))

/-! ### Sending -/

/-- A block onto the light: tick and sequence number as at sending, its readers or its receiver, the next lane of the rotation, counted (R161, R165, R187). -/
def State.emitBlock (s : State) (p g : Nat) (b : HBlock) : State :=
  let x := s.port p
  let q := x.group g
  let n := x.sequence.get 0 b.stream
  let ls := s.rotation p g
  let b := { b with tick := s.seq % 16, group := g, addr := (if b.kind = 4 then n else b.addr), lane := ls.getD (q.turn % max 1 ls.length) 0,
                    dests := (if b.kind = 4 then s.readers p else [b.dst]) }
  let x := x.setGroup g { q with turn := q.turn + 1 }
  let x := if b.kind = 4 then { x with sequence := x.sequence.set 0 b.stream (n + 1) } else x
  let s := s.setPort p (x.count g 0 32 1)
  { s with hearth := { s.hearth with light := s.hearth.light ++ [b] } }

/-- Blocks onto the light in order. -/
def State.emitBlocks (s : State) (p g : Nat) : List HBlock → State
  | [] => s
  | b :: bs => (s.emitBlock p g b).emitBlocks p g bs

/-- The oldest `n` blocks of a stream, and the queue without them (R171). -/
def takeStream (stream : Nat) : Nat → List HBlock → List HBlock × List HBlock
  | _, [] => ([], [])
  | 0, q => ([], q)
  | n + 1, b :: q =>
    if b.stream = stream then
      let (a, r) := takeStream stream n q
      (b :: a, r)
    else
      let (a, r) := takeStream stream (n + 1) q
      (a, b :: r)

/-- Blocks out of a group's queue onto the light; what stays fills the queue of 64, the rest of the units' blocks still wait (R170). -/
def State.release (s : State) (p g : Nat) (q : TxGroup) (out rest : List HBlock) : State :=
  (s.setPort p ((s.port p).setGroup g { q with queue := rest.take 64, held := rest.drop 64 })).emitBlocks p g out

/-- What a group may send now leaves its queue: a free group all of it, an open window its own stream up to its count, and any scheduled group the blocks
of stream 0xFF, outside the windows; nothing while an off frame holds the group or, for a free group, HRT_CTRL.free_en is 0 (R171, R174, R189, R273). -/
def State.pump (s : State) (p g : Nat) : State :=
  let q := (s.port p).group g
  let w := s.groupWord p g
  let all := q.queue ++ q.held
  if q.off || g == 37 then s
  else if flag w 31 && flag w 30 then
    if flag (s.reg Reg.HRT_CTRL) 0 then s.release p g q all [] else s
  else
    let (mine, rest) := if q.isOpen && flag w 31 then takeStream q.stream q.left all else ([], all)
    let left := q.left - mine.length
    let q := if mine.isEmpty then q else { q with left := left, isOpen := decide (left ≠ 0), window := (if left = 0 then q.window + 1 else q.window) }
    let (remote, rest) := takeStream 0xFF rest.length rest
    s.release p g q (mine ++ remote) rest

/-- Every group of a list of ports that holds a queue sends what it may. -/
def State.pumpGroups (s : State) : List (Nat × Nat) → State
  | [] => s
  | (p, g) :: l => (s.pump p g).pumpGroups l

/-- Every port's groups send what they may now: after HRT_CTRL.free_en, group entries or lane sets have changed (R171, R189). -/
def State.pumpAll (s : State) : State :=
  s.pumpGroups ((s.ports.map (fun kp => kp.2.tx.map (fun kq => (kp.1, kq.1)))).flatten)

/-- Whether a group's queue of 64 blocks has a place (R170). -/
def State.groupRoom (s : State) (p g : Nat) : Bool := decide (((s.port p).group g).queue.length < 64)

/-- A block entering its group's queue (R170). -/
def State.queueBlock (s : State) (p g : Nat) (b : HBlock) : State :=
  let x := s.port p
  let q := x.group g
  (s.setPort p (x.setGroup g { q with queue := q.queue ++ [b] })).pump p g

/-- A block of one of the port's own units, its remote unit, its logic die or its I/O die: it enters its group's queue, or waits for a place there
(R170, R273). -/
def State.queueUnit (s : State) (p : Nat) (b : HBlock) : State :=
  let g := groupFor p b.dst
  let x := s.port p
  let q := x.group g
  if s.groupRoom p g && q.held.isEmpty then s.queueBlock p g b
  else (s.setPort p (x.setGroup g { q with held := q.held ++ [b] })).pump p g

/-- The group that a gateway packet's destination selects for its block (R167): none where the group is not in use, the stream is the fabric's, the address
lies outside its region, or the block came by the wrong kind of gateway. -/
def State.placement (s : State) (p target : Nat) (b : HBlock) : Option Nat :=
  let g := if b.kind = 4 then p else groupFor p b.dst
  let fits := match b.kind with
    | 0 => decide (b.dst < 16 ∧ b.dst ≠ p ∧ b.addr / 2 ^ 17 % 64 ≤ 47) && b.addr / 2 ^ 13 % 16 == 0
    | 1 => decide (16 ≤ b.dst ∧ b.dst < 32 ∧ b.addr * 128 < 0xC00000000)
    | 2 => decide (16 ≤ b.dst ∧ b.dst < 32) && b.addr == 0
    | 4 => b.dst == p
    | _ => false
  if fits && b.src == p && b.stream != 0xFF && (target == 2) == (g == 36) && flag (s.groupWord p g) 31 then some g else none

end Sys2Proof.Machine
end

