-- ==== Sys2Proof/Machine/MemOps.lean ====
section
/-! DEFINITION. Access to memory stacks: carry-window steering, rings, ECC and the refusals of chapter 09 (R236 to R252), with the
operations of the fabric at a logic die (R252, R273 to R276). -/

namespace Sys2Proof.Machine

/-- A memory stack. -/
def State.stack (s : State) (m : Nat) : MemStack := s.stackMem.get MemStack.reset m
/-- The state with a memory stack. -/
def State.setStack (s : State) (m : Nat) (x : MemStack) : State := { s with stackMem := s.stackMem.set MemStack.reset m x }

/-- One byte of DRAM; an unwritten byte reads zero (DESIGN CHOICE: the spec gives none). -/
def MemStack.byte (x : MemStack) (a : Nat) : Byte := SMap.get (0 : Byte) x.dram a

/-- `n` bytes from an offset. -/
def MemStack.bytes (x : MemStack) (a : Nat) : Nat → List Byte
  | 0 => []
  | n + 1 => x.byte a :: MemStack.bytes x (a + 1) n

/-- The 64-byte lines that `n` bytes from `a` touch. -/
def linesOf (a n : Nat) : List Nat := if n = 0 then [] else (List.range ((a + n - 1) / 64 - a / 64 + 1)).map (· + a / 64)

/-- The lines covered only in part. -/
def partLines (a n : Nat) : List Nat := (linesOf a n).filter (fun w => !(decide (a ≤ 64 * w) && decide (64 * w + 64 ≤ a + n)))

/-- Bytes written; lines covered whole get fresh check bits (R238). -/
def MemStack.write (x : MemStack) (a : Nat) (bs : List Byte) : MemStack :=
  { x with dram := putBytes x.dram a bs, ecc := freshEcc x.ecc (linesOf a bs.length) }

/-- Who accesses a memory stack: its value in MEM_ERR_INFO.port, and whether it stands outside the module's ticks (host RDMA and
fabric remote operations, R245). -/
structure Who where
  port    : Nat
  outside : Bool
deriving DecidableEq, Repr

/-- A memory error: recorded, reported, and charged where it abandons a tick (R303 and the memory and carry error table). -/
def State.memError (s : State) (m port code off : Nat) (abandons : Bool) : State :=
  let first := !(flag (s.reg (Reg.MEM_ERR_STATUS m)) 31)
  let s := (s.recordFirst (Reg.MEM_ERR_STATUS m) (Reg.MEM_ERR_INFO m) code (BitVec.ofNat 32 (port * 2 ^ 26 + s.chargedSeq % 256))).faultEvent 6 m code abandons
  let s := if first then s.setReg (Reg.MEM_ERR_ADDR m) (BitVec.ofNat 32 (off / 128 % 2 ^ 29)) else s
  if abandons then s.charge else s

/-- The valid carry windows of a stack as (start of W, length, copy-1 start) in bytes (R243). -/
def State.memWins (s : State) (m : Nat) : List (Nat × Nat × Nat) :=
  (List.range 16).filterMap (fun i =>
    let w := fun j => s.tblWord (tblKey 3 m 0 (3 * i + j))
    if flag (w 0) 31 then some (fld (w 0) 28 0 * 128, fld (w 1) 28 0 * 128, fld (w 2) 28 0 * 128) else none)

/-- Whether bytes [a, a + n) meet [b, b + l). -/
def meets (a n b l : Nat) : Bool := decide (a < b + l) && decide (b < a + n)

/-- Whether an access meets a copy-1 range (R244). -/
def State.inCopy1 (s : State) (m off n : Nat) : Bool := (s.memWins m).any (fun w => meets off n w.2.2 w.2.1)

/-- The window W an access meets. -/
def State.inWindow (s : State) (m off n : Nat) : Option (Nat × Nat × Nat) := (s.memWins m).find? (fun w => meets off n w.1 w.2.1)

/-- A ring of a stack (R248): index, whether output, slots, base, slot data length, word 3, required. -/
structure RingInfo where
  index    : Nat
  output   : Bool
  slots    : Nat
  base     : Nat
  len      : Nat
  word3    : Nat
  required : Bool
deriving DecidableEq, Repr

/-- A ring-table entry, if in use. -/
def State.ring (s : State) (m i : Nat) : Option RingInfo :=
  let w := fun j => s.tblWord (tblKey 3 m 1 (4 * i + j))
  if flag (w 0) 31 then
    some { index := i, output := flag (w 0) 30, slots := fld (w 0) 29 25, base := fld (w 1) 28 0 * 128, len := fld (w 2) 28 0 * 128,
           word3 := (w 3).toNat, required := flag (w 0) 16 }
  else none

/-- The rings of a stack. -/
def State.rings (s : State) (m : Nat) : List RingInfo := (List.range 64).filterMap (s.ring m)

/-- The offset of a slot. -/
def RingInfo.slotAt (r : RingInfo) (k : Nat) : Nat := r.base + k * (128 + r.len)

/-- The ring an access meets. -/
def State.ringOf (s : State) (m off n : Nat) : Option RingInfo :=
  (s.rings m).find? (fun r => meets off n r.base (r.slots * (128 + r.len)))

/-- The slot of a ring that an offset lies in. -/
def RingInfo.slotOf (r : RingInfo) (off : Nat) : Nat := (off - r.base) / (128 + r.len)

/-- The slot of the current tick (R248). -/
def State.currentSlot (s : State) (r : RingInfo) : Nat := if r.slots = 0 then 0 else s.seq % r.slots

/-- Ring status word (R256). -/
def State.ringStatus (s : State) (m i : Nat) : Word := s.tblWord (tblKey 3 m 2 i)
/-- The state with a ring status word. -/
def State.setRingStatus (s : State) (m i : Nat) (w : Word) : State := s.setTbl (tblKey 3 m 2 i) w
/-- State field of a ring. -/
def State.ringState (s : State) (m i : Nat) : Nat := fld (s.ringStatus m i) 27 26

/-- What a read answers: data with its poison, or a refusal with the error code it recorded. -/
inductive MemAnswer where
  | data (bs : List Byte) (poison : Bool)
  | refused (code : Nat)
deriving DecidableEq, Repr

/-- Corrected lines of a read counted and written back (R236, R256). -/
def State.countLines (s : State) (m : Nat) (ls : List Nat) : State :=
  let x := s.stack m
  let one := ls.filter (fun l => x.ecc.get .good l == .single)
  if one.isEmpty then s
  else (s.setStack m { x with ecc := freshEcc x.ecc one }).bumpReg (Reg.MEM_ECC_COUNT m) 15 0 one.length

/-- The uncorrectable lines among some lines. -/
def MemStack.badLines (x : MemStack) (ls : List Nat) : List Nat := ls.filter (fun l => x.ecc.get .good l == .double)

/-- A read of at most one 128-byte unit as the logic die performs it (R238, R239, R244, R245): the committed copy of a carry window, poison from a copy-1
range, a bad offset or an uncorrectable line. -/
def State.memGet (s : State) (m off n : Nat) (who : Who) : MemAnswer × State :=
  if off + n > 0xC00000000 then (.data (List.replicate n 0) true, s.memError m who.port 0x02 off (!who.outside))
  else if who.outside && ((s.inWindow m off n).isSome || s.inCopy1 m off n) then (.refused 0x08, s.memError m who.port 0x08 off false)
  else if s.inCopy1 m off n then (.data (List.replicate n 0) true, s.memError m who.port 0x03 off true)
  else
    let at0 := match s.inWindow m off n with
      | some w => if s.tick.parity then w.2.2 + (off - w.1) else off
      | none => off
    let s := s.countLines m (linesOf at0 n)
    let bad := (s.stack m).badLines (linesOf at0 n)
    let data := (s.stack m).bytes at0 n
    if bad.isEmpty then (.data data false, s)
    else
      let s := if (s.inWindow m off n).isSome then { s with recovery := { s.recovery with stackLost := true } } else s
      (.data data true, (s.bumpReg (Reg.MEM_ECC_COUNT m) 31 16 bad.length).memError m who.port 0x01 at0 (!who.outside))

/-- A write that has been placed: a read-modify-write of partly covered lines writes nothing where one of them is uncorrectable
(R238). -/
def State.memStore (s : State) (m off : Nat) (bs : List Byte) (who : Who) : Option Nat × State :=
  let s := s.countLines m (partLines off bs.length)
  let bad := (s.stack m).badLines (partLines off bs.length)
  if bad.isEmpty then (none, s.setStack m ((s.stack m).write off bs))
  else (some 0x01, (s.bumpReg (Reg.MEM_ECC_COUNT m) 31 16 bad.length).memError m who.port 0x01 off (!who.outside))

/-- A write of at most one 128-byte unit as the logic die performs it (R238, R239, R244 to R247, R249, R250): the code that discarded it, or none. After
the guard start a write into either copy of a window is 0x04 before all else (R247). -/
def State.memPut (s : State) (m off : Nat) (bs : List Byte) (who : Who) : Option Nat × State :=
  let n := bs.length
  let inCopies := (s.inWindow m off n).isSome || s.inCopy1 m off n
  if off + n > 0xC00000000 then (some 0x02, s.memError m who.port 0x02 off (!who.outside))
  else if who.outside && inCopies then (some 0x08, s.memError m who.port 0x08 off false)
  else if s.tick.guard && inCopies then (some 0x04, s.memError m who.port 0x04 off true)
  else if s.inCopy1 m off n then (some 0x03, s.memError m who.port 0x03 off true)
  else match s.inWindow m off n with
    | some w =>
      let at0 := if s.tick.parity then off else w.2.2 + (off - w.1)
      let x := s.stack m
      (s.setStack m { x with granules := markGranules x.granules at0 n 128 }).memStore m at0 bs who
    | none =>
      match s.ringOf m off n with
      | some r =>
        if r.output && !who.outside then
          if s.tick.guard then (some 0x09, s.memError m who.port 0x09 off true)
          else if r.slotOf off ≠ s.currentSlot r then (some 0x06, s.memError m who.port 0x06 off true)
          else s.memStore m off bs who
        else if !r.output && who.outside && s.ringState m r.index ≠ 0 && r.slotOf off = s.currentSlot r then
          (some 0x07, s.setRingStatus m r.index (bumpFld (s.ringStatus m r.index) 15 0 1))
        else s.memStore m off bs who
      | none => s.memStore m off bs who

/-! ### Fetching atomics (R91, R252, R274) -/

/-- The fabric as an accessor of memory. -/
def fabricWho : Who := ⟨0x3F, true⟩

/-- A refusal of a remote access by a memory stack: its error code, 0 for a ring, where R252 gives the operations no place (R239, R245). -/
def State.remoteBar (s : State) (m off n : Nat) : Option Nat :=
  if off + n > 0xC00000000 then some 2
  else if (s.inWindow m off n).isSome || s.inCopy1 m off n then some 8
  else if (s.ringOf m off n).isSome then some 0
  else none

/-- The state with a remote refusal recorded (R245). -/
def State.refuseRemote (s : State) (m off code : Nat) : State := if code = 0 then s else s.memError m 0x3F code off false

/-- A response as one Hearth block of stream 0xFF to a port: kind 3, its address the requester's row and logical column (R273). -/
def responseBlock (src dst : Nat) (d : RemoteDesc) : HBlock :=
  { idleBlock with src := src, dst := dst, kind := 3, poison := d.status == 1, stream := 0xFF, last := true,
                   addr := d.row.val * 2 ^ 23 + d.col.toNat * 2 ^ 17, data := leBytes 128 d.payload }

/-- A logic die's answer to a request that came by an I/O port (R273, R274). -/
def State.answerRemote (s : State) (m io : Nat) (d : RemoteDesc) (status : Nat) (value : DWord) (data : VReg) : State :=
  s.queueUnit (16 + m) (responseBlock (16 + m) io (d.answer status value data))

/-- The new word of a fetching atomic (R91). -/
def atomicWord (op : Nat) (old value compare : DWord) : DWord :=
  match op with
  | 9 => old + value
  | 10 => value
  | _ => if old = compare then value else old

/-- A fetching atomic performed on its word and answered (R91, R252): status 2 where the die refuses it, 1 where its line is uncorrectable. -/
def State.performAtomic (s : State) (m io : Nat) (d : RemoteDesc) : State :=
  match s.remoteBar m d.off 8 with
  | some c => (s.refuseRemote m d.off c).answerRemote m io d 2 0 0
  | none =>
    match s.memGet m d.off 8 fabricWho with
    | (.refused _, s) => s.answerRemote m io d 2 0 0
    | (.data bs bad, s) =>
      let old := BitVec.ofNat 64 (leNat bs)
      if bad then s.answerRemote m io d 1 old 0
      else (s.memPut m d.off (leBytes 8 (atomicWord d.op.toNat old d.value d.compare).toNat) fabricWho).2.answerRemote m io d 0 old 0

/-- Fetching atomics performed in order. -/
def State.performAtomics (s : State) (m : Nat) : List (Nat × RemoteDesc) → State
  | [] => s
  | a :: as => (s.performAtomic m a.1 a.2).performAtomics m as

/-- The fetching atomics that wait on lines of an access are performed first: every access to a line in arrival order (R251, R252). -/
def State.beforeAccess (s : State) (m off n : Nat) : State :=
  let x := s.stack m
  let mine := fun (a : Nat × RemoteDesc) => (linesOf off n).contains (a.2.off / 64)
  if x.atomics.any mine then
    (s.setStack m { x with atomics := x.atomics.filter (fun a => !mine a) }).performAtomics m (x.atomics.filter mine)
  else s

/-! ### Accesses in arrival order -/

/-- A read of at most one 128-byte unit (R244, R252). -/
def State.memRead (s : State) (m off n : Nat) (who : Who) : MemAnswer × State := (s.beforeAccess m off n).memGet m off n who

/-- A write of at most one 128-byte unit (R244, R252): the code that discarded it, or none. -/
def State.memWrite (s : State) (m off : Nat) (bs : List Byte) (who : Who) : Option Nat × State :=
  (s.beforeAccess m off bs.length).memPut m off bs who

/-- A logic die writes into a header of its own: a slot header (R248 to R250) or a snapshot's (R351). DESIGN CHOICE: where the line is uncorrectable the
tick is charged, with the die's own port. -/
def State.memHeader (s : State) (m off : Nat) (bs : List Byte) : State :=
  ((s.beforeAccess m off bs.length).memStore m off bs ⟨16 + m, false⟩).2

/-! ### Combined writes (R275) -/

/-- A combiner entry as the payload of its flush (DESIGN CHOICE: no rule lays it out): op 0xF and the line's address in bytes 0 to 7, two bits of mode a word
(1 store, 2 add) in bytes 8 and 9, the words in bytes 64 to 127. -/
def CombEntry.payload (e : CombEntry) : Nat :=
  let mode := fun w => match e.words.find? (fun kv => kv.1 == w) with
    | some (_, true, _) => 1 | some (_, false, _) => 2 | none => 0
  0xF * 2 ^ 60 + 2 ^ 44 + e.stack * 2 ^ 40 + 64 * e.line + packNat 2 ((List.range 8).map mode) * 2 ^ 64 +
    packNat 64 ((List.range 8).map (fun w => (e.words.get (false, 0) w).2.toNat)) * 2 ^ 512

/-- The line after a flush: words stored, added modulo 2^64, or left (R275). -/
def flushedLine (old : List Byte) (p : Nat) : List Byte :=
  ((List.range 8).map (fun w =>
    let v := p / 2 ^ (512 + 64 * w) % 2 ^ 64
    let o := leNat ((old.drop (8 * w)).take 8)
    leBytes 8 (match p / 2 ^ (64 + 2 * w) % 4 with
      | 1 => v | 2 => (o + v) % 2 ^ 64 | _ => o))).flatten

/-- Whether a flush stores all eight words. -/
def storesLine (p : Nat) : Bool := (List.range 8).all (fun w => p / 2 ^ (64 + 2 * w) % 4 == 1)

/-- A flush performed as one operation on its line (R252, R275): refused where the die refuses the access; one that leaves or adds words reads the line, and
writes nothing where it is uncorrectable (R238). -/
def State.flushAt (s : State) (m p : Nat) : State :=
  let off := p % 2 ^ 40
  match s.remoteBar m off 64 with
  | some c => s.refuseRemote m off c
  | none =>
    let s := s.beforeAccess m off 64
    if storesLine p then (s.memPut m off (flushedLine [] p) fabricWho).2
    else match s.memGet m off 64 fabricWho with
      | (.data old false, s) => (s.memPut m off (flushedLine old p) fabricWho).2
      | (_, s) => s

/-! ### Requests at a logic die (R252, R274, R276) -/

/-- A fetching atomic waits its turn at the logic die, and the deepest queue on a line is kept (R252). -/
def State.queueAtomic (s : State) (m io : Nat) (d : RemoteDesc) : State :=
  let x := s.stack m
  let depth := (x.atomics.filter (fun a => a.2.off / 64 == d.off / 64)).length + 1
  let s := s.setStack m { x with atomics := x.atomics ++ [(io, d)] }
  if fld (s.reg (Reg.MEM_ATOMIC_PEAK m)) 15 0 < depth then s.setRegFld (Reg.MEM_ATOMIC_PEAK m) 15 0 (min depth 0xFFFF) else s

/-- A request block of stream 0xFF at a logic die: a flush, a fetching atomic, an XST.V or an XLD (R252, R274 to R276); one the die refuses is answered with
status 2, an uncorrectable line with 1 (R238, R239, R245). -/
def State.serveRemote (s : State) (m io p : Nat) : State :=
  let d := descOf p
  let op := d.op.toNat
  if op = 0xF then s.flushAt m p
  else if 9 ≤ op then s.queueAtomic m io d
  else match s.remoteBar m d.off (opBytes op) with
    | some c => (s.refuseRemote m d.off c).answerRemote m io d 2 0 0
    | none =>
      if op = 5 then
        let (c, s) := s.memWrite m d.off (leBytes 64 d.data.toNat) fabricWho
        s.answerRemote m io d (if c.isSome then 2 else 0) 0 0
      else match s.memRead m d.off (opBytes op) fabricWho with
        | (.refused _, s) => s.answerRemote m io d 2 0 0
        | (.data bs bad, s) =>
          let v := leNat bs
          s.answerRemote m io d (if bad then 1 else 0) (if op = 1 then 0 else BitVec.ofNat 64 v) (if op = 1 then BitVec.ofNat 512 v else 0)

/-- A span cut at 128-byte boundaries: offset and length of each piece; `fuel` bounds the pieces. -/
def pieces : Nat → Nat → Nat → List (Nat × Nat)
  | 0, _, _ => []
  | f + 1, a, n =>
    if n = 0 then []
    else
      let k := min n (128 - a % 128)
      (a, k) :: pieces f (a + k) (n - k)

/-- A span read piece by piece: data, poison, and the first refusal. -/
def State.memReadAll (s : State) (m : Nat) (who : Who) : List (Nat × Nat) → List Byte × Bool × Option Nat × State
  | [] => ([], false, none, s)
  | (a, n) :: ps =>
    match s.memRead m a n who with
    | (.refused c, s) => ([], false, some c, s)
    | (.data bs p, s) =>
      let (rest, q, c, s) := s.memReadAll m who ps
      (bs ++ rest, p || q, c, s)

/-- A span written piece by piece: the codes that discarded pieces. -/
def State.memWriteAll (s : State) (m : Nat) (who : Who) (bs : List Byte) : List (Nat × Nat) → List Nat × State
  | [] => ([], s)
  | (a, n) :: ps =>
    let (c, s) := s.memWrite m a (bs.take n) who
    let (cs, s) := s.memWriteAll m who (bs.drop n) ps
    (c.toList ++ cs, s)

end Sys2Proof.Machine
end

