-- ==== Sys2Proof/Machine/FabricOps.lean ====
section
/-! DEFINITION. The Huaren fabric's shared operations (chapter 10): errors, coordinates and routes, cells and their link with its arbitration, the blocks of
remote operations, combiners. -/

namespace Sys2Proof.Machine

/-! ### Ports, errors, coordinates -/

/-- The I/O die of a fabric port, and its local port there (R257). -/
def fabIo (f : Nat) : Nat := 2 + f % 2
/-- A fabric port. -/
def State.fport (s : State) (f : Nat) : FabPort := s.fabric.ports.get FabPort.reset f
/-- The state with a fabric port. -/
def State.setFport (s : State) (f : Nat) (x : FabPort) : State :=
  { s with fabric := { s.fabric with ports := s.fabric.ports.set FabPort.reset f x } }
/-- A counter of a port's congestion map raised, saturating at `w` bits (R285). -/
def FabPort.count (x : FabPort) (i w n : Nat) : FabPort := { x with map := x.map.set 0 i (satAdd w (x.map.get 0 i) n) }

/-- A fabric error (R286): recorded in the port's I/O die (2 for none), reported, charged where it abandons a tick. -/
def State.fabricError (s : State) (port coord window code : Nat) : State :=
  let io := if port < 6 then fabIo port else 2
  let info := BitVec.ofNat 32 (min port 7 * 2 ^ 29 + coord % 2 ^ 12 * 2 ^ 17 + window % 2 ^ 9 * 2 ^ 8 + s.chargedSeq % 256)
  let late := decide (code = 5 ∨ code = 6 ∨ code = 9)
  let s := (s.recordFirst (Reg.FAB_ERR_STATUS io) (Reg.FAB_ERR_INFO io) code info).faultEvent 7 io code late
  if late then s.charge else s

/-- The module's coordinates, x [11:8], y [7:4], z [3:0]. -/
def State.coord (s : State) : Nat := fld (s.reg (Reg.FAB_COORD 2)) 31 20
/-- One axis of coordinates: 0 x, 1 y, 2 z. -/
def axisOf (c a : Nat) : Nat := c / 2 ^ (8 - 4 * a) % 16
/-- The size of the domain on an axis. -/
def State.axisSize (s : State) (a : Nat) : Nat := fld (s.reg (Reg.FAB_COORD 2)) (19 - 4 * a) (16 - 4 * a) + 1
/-- Whether a port's link is up. -/
def State.linkUp (s : State) (f : Nat) : Bool := fld (s.reg (Reg.FAB_PORT_STATUS (fabIo f) (f / 2))) 31 29 == 2
/-- The peer of a port. -/
def State.peer (s : State) (f : Nat) : Nat := fld (s.reg (Reg.FAB_PORT_STATUS (fabIo f) (f / 2))) 11 0

/-- Steps in the positive direction from one coordinate to another on a ring. -/
def ringSteps (size o t : Nat) : Nat := (t + size - o) % size

/-- The port of the first hop towards coordinates (R268): x, then y, then z, the shorter way, the positive when equal. -/
def State.nextPort (s : State) (t : Nat) : Option Nat :=
  [0, 1, 2].findSome? (fun a =>
    let n := s.axisSize a
    let d := ringSteps n (axisOf s.coord a) (axisOf t a)
    if axisOf s.coord a = axisOf t a then none else some (if d ≤ n - d then 2 * a else 2 * a + 1))

/-- The dateline channel of a cell leaving by a port (R268): that of its ring so far, and 1 across the dateline. -/
def State.outDvc (s : State) (f : Nat) (arrival : Option (Nat × Bool)) : Bool :=
  let a := f / 2
  let o := axisOf s.coord a
  let p := axisOf (s.peer f) a
  let cross := if f % 2 = 0 then decide (p ≤ o) else decide (o ≤ p)
  match arrival with
  | some (g, v) => (g / 2 == a && v) || cross
  | none => cross

/-! ### Cells -/

/-- The off level of a buffer. -/
def State.offLevel (s : State) (f b : Nat) : Nat :=
  if b = 0 then fld (s.reg (Reg.FAB_FC_LEVEL (fabIo f))) 31 20
  else if b ≤ 2 then fld (s.reg (Reg.FAB_FC_LEVEL (fabIo f))) 19 8
  else 384

/-- A receive buffer with its off signal brought up to date (R265) and its peak counted (R285). -/
def State.setBuffer (s : State) (f b : Nat) (l : List Cell) : State :=
  let x := s.fport f
  let lv := s.offLevel f b
  let off := if l.length ≥ lv then true else if l.length ≤ lv / 2 then false else x.offOut.get false b
  let i := if b = 0 then 10 else if b ≤ 2 then 9 else 11
  let m := if i ≠ 11 ∧ x.map.get 0 i < l.length then x.map.set 0 i l.length else x.map
  s.setFport f { x with rx := x.rx.set [] b l, offOut := x.offOut.set false b off, map := m }

/-- A receive buffer. -/
def State.buffer (s : State) (f b : Nat) : List Cell := (s.fport f).rx.get [] b

/-- The off bits a port sends: bit 0 VL0, 1 and 2 VL1, 3 and 4 VL2. -/
def FabPort.offBits (x : FabPort) : Nat := packNat 1 ((List.range 5).map (fun b => if x.offOut.get false b then 1 else 0))

/-- A cell as it leaves a port: with the present ack and off bits (R263). -/
def FabPort.stamp (x : FabPort) (c : Cell) : Cell := { c with ack := BitVec.ofNat 13 (x.rxNext + 8191), off := BitVec.ofNat 5 x.offBits }

/-- A port whose cell times have moved on by one, taken by a lane. -/
def FabPort.passed (x : FabPort) (lane : Nat) : FabPort := { x with past := lane :: x.past.take 63 }

/-- A cell leaves by a port. -/
def State.emit (s : State) (f : Nat) (c : Cell) : State :=
  (s.setFport f ((s.fport f).passed c.lane)).send (.cell f ((s.fport f).stamp c).bits)

/-- Idle cells in a row (R266). -/
def State.emitIdle (s : State) (f n : Nat) : State :=
  if n = 0 then s else s.send (.idleCells f n ((s.fport f).stamp (cellOf 4 false 0)).bits)

/-- A new cell leaves: it takes the next sequence number and enters the replay buffer (R264), counted by lane (R285). -/
def State.emitNew (s : State) (f : Nat) (c : Cell) : State :=
  let x := s.fport f
  let d := { c with seq := BitVec.ofNat 13 x.txNext }
  (s.setFport f ({ x with txNext := (x.txNext + 1) % 8192, replay := x.replay ++ [d], wait := x.wait.erase c }.count c.lane 32 1)).emit f d

/-! ### Arbitration (R264 to R266) -/

/-- Whether the off bit last received lets a cell start. -/
def FabPort.permits (x : FabPort) (c : Cell) : Bool := x.peerOff / 2 ^ c.buffer % 2 == 0

/-- The next cell of a lane that may start: none while the replay buffer is full. -/
def FabPort.first (x : FabPort) (lane : Nat) : Option Cell :=
  if 6144 ≤ x.replay.length then none else x.wait.find? (fun c => c.lane == lane && x.permits c)

/-- What a port's output does with a cell time: it resends, starts a new cell, sends an idle cell while its lanes' shares hold back what waits, or has nothing
that it may send. -/
inductive PortTurn where
  | resend (c : Cell)
  | fresh (c : Cell)
  | idle
  | rest
deriving DecidableEq, Repr

/-- The first cell that the order of R266 allows and its off bit permits. DEDUCED: no new cell starts ahead of those still to be resent, which the receiver
needs first. -/
def FabPort.turn (x : FabPort) : PortTurn :=
  match x.again with
  | c :: _ => if x.permits c then .resend c else .rest
  | [] =>
    let sent := fun (lane n : Nat) => ((x.past.take n).filter (· == lane)).length
    let one := fun (lane : Nat) => if sent lane 63 = 0 then x.first lane else none
    match (one 2).or ((one 1).or ((x.first 0).or (if sent 1 64 < 16 then x.first 1 else none))) with
    | some c => .fresh c
    | none => if (x.first 1).isSome || (x.first 2).isSome then .idle else .rest

/-- Cell times of a port until it has nothing left that it may send; `n` idle cells have gone by; `fuel` bounds the cell times. -/
def State.runPort (f : Nat) : Nat → Nat → State → State
  | 0, n, s => s.emitIdle f n
  | fuel + 1, n, s =>
    let x := s.fport f
    match x.turn with
    | .resend c => State.runPort f fuel 0 (((s.emitIdle f n).setFport f { x with again := x.again.drop 1 }).emit f c)
    | .fresh c => State.runPort f fuel 0 ((s.emitIdle f n).emitNew f c)
    | .idle => State.runPort f fuel (n + 1) (s.setFport f (x.passed 3))
    | .rest => s.emitIdle f n

/-- A port's output sends what it may now (R264 to R266). -/
def State.pumpPort (s : State) (f : Nat) : State :=
  if s.linkUp f then State.runPort f (64 * ((s.fport f).wait.length + (s.fport f).again.length) + 1) 0 s else s

/-- A cell waits at an output and leaves when it may. -/
def State.queueCell (s : State) (f : Nat) (c : Cell) : State :=
  let x := s.fport f
  (s.setFport f { x with wait := x.wait ++ [c] }).pumpPort f

/-! ### Management cells and the tree (R279, R282) -/

/-- A management cell to a tree neighbour. -/
def State.sendMgmt (s : State) (f payload : Nat) : State := s.queueCell f (cellOf 3 (s.outDvc f none) payload)

/-- A management cell to several ports. -/
def State.sendMgmtAll (s : State) (payload : Nat) : List Nat → State
  | [] => s
  | f :: fs => (s.sendMgmt f payload).sendMgmtAll payload fs

/-- Whether this module's tree position is in use (FAB_TREE.valid). -/
def State.inTree (s : State) : Bool := flag (s.reg (Reg.FAB_TREE 2)) 31

/-- The ports that lead to tree children (R282). -/
def State.children (s : State) : List Nat := if s.inTree then (List.range 6).filter (fun f => flag (s.reg (Reg.FAB_TREE 2)) (16 + f)) else []

/-- The port that leads to the tree parent (R282). -/
def State.treeParent (s : State) : Option Nat :=
  let p := fld (s.reg (Reg.FAB_TREE 2)) 29 27
  if s.inTree && decide (p < 6) then some p else none

/-- Whether this module is the root of its tree. -/
def State.isRoot (s : State) : Bool := s.inTree && flag (s.reg (Reg.FAB_TREE 2)) 30

/-- Whether a port leads to a tree neighbour. -/
def State.treePort (s : State) (f : Nat) : Bool := s.children.contains f || s.treeParent == some f

/-! ### Remote operations on their way (R268, R273, R274) -/

/-- The Hearth port of the I/O die that holds a fabric port. -/
def fabHearthPort (f : Nat) : Nat := 32 + fabIo f

/-- A request as one Hearth block of stream 0xFF: kind 2, addr zero (R273). -/
def requestBlock (src dst payload : Nat) : HBlock :=
  { idleBlock with src := src, dst := dst, kind := 2, stream := 0xFF, last := true, data := leBytes 128 payload }

/-- The remote unit of a compute die sends a request: to I/O port 34 where the first hop is positive or the target is the module itself, to 35 otherwise
(R274). -/
def State.sendRequest (s : State) (die : Nat) (d : RemoteDesc) : State :=
  let io := match s.nextPort d.target.toNat with
    | some f => fabHearthPort f
    | none => 34
  s.queueUnit die (requestBlock die io d.payload)

/-- A response at an I/O die on its way to its requester: over the Hearth to the remote unit of its compute die, or by the port of its first hop (R268, R273,
R274). One that answers the module's own checkpoint writes (thread 0) ends here (R354). -/
def State.sendResponse (s : State) (io : Nat) (d : RemoteDesc) (arrival : Option (Nat × Bool)) : State :=
  match s.nextPort d.from_.toNat with
  | some f => s.queueCell f (cellOf 2 (s.outDvc f arrival) d.payload)
  | none => if d.thread.val = 0 then s else s.queueUnit io (responseBlock io d.die d)

/-- A request at an I/O die that leaves for another module (R268). -/
def State.forward (s : State) (f : Nat) (d : RemoteDesc) (arrival : Option (Nat × Bool)) : State :=
  s.queueCell f (cellOf 1 (s.outDvc f arrival) d.payload)

/-! ### Combiners (R275, R276) -/

/-- The open entries of a path. -/
def State.combiner (s : State) (p : Nat) : List CombEntry := s.fabric.comb.get [] p
/-- The state with the open entries of a path. -/
def State.setCombiner (s : State) (p : Nat) (l : List CombEntry) : State :=
  { s with fabric := { s.fabric with comb := s.fabric.comb.set [] p l } }

/-- The Hearth port of the I/O die of a path: fabric port 0 to 5, or the module's own path through I/O die 2. -/
def pathPort (p : Nat) : Nat := if p < 6 then fabHearthPort p else 34

/-- The paths of an I/O die. -/
def diePaths (p : Nat) : List Nat := if p % 2 = 0 then [0, 2, 4, 6] else [1, 3, 5]

/-- A flush leaves for the memory logic die as one block (R273, R275). -/
def State.flush (s : State) (path : Nat) (e : CombEntry) : State :=
  let s := if path < 6 then s.setFport path ((s.fport path).count 7 16 1) else s
  s.queueUnit (pathPort path) (requestBlock (pathPort path) (16 + e.stack) e.payload)

/-- The entry of a line in a path's combiner. -/
def State.entryOf (s : State) (p m line : Nat) : Option CombEntry := (s.combiner p).find? (fun e => e.stack == m && e.line == line)

/-- The entry of a line flushed, ahead of an operation on it (R275). -/
def State.flushLine (s : State) (p m line : Nat) : State :=
  match s.entryOf p m line with
  | some e => (s.setCombiner p ((s.combiner p).filter (fun x => !(x.stack == m && x.line == line)))).flush p e
  | none => s

/-- An XST.D or XADD entering the combiner of its path (R275). -/
def State.combine (s : State) (p : Nat) (d : RemoteDesc) : State :=
  let m := d.stack
  let line := d.off / 64
  let w := d.off % 64 / 8
  let word := fun (old : Option (Bool × DWord)) =>
    if d.op.toNat = 4 then (true, d.value) else
      match old with
      | some (mode, v) => (mode, v + d.value)
      | none => (false, d.value)
  let l := s.combiner p
  match s.entryOf p m line with
  | some e =>
    let old := (e.words.find? (fun kv => kv.1 == w)).map (fun kv => kv.2)
    s.setCombiner p (l.map (fun x => if x.stack == m && x.line == line then { x with words := SMap.set (false, 0) x.words w (word old) } else x))
  | none =>
    let s := match l with
      | e :: es => if l.length ≥ 64 then (s.setCombiner p es).flush p e else s
      | [] => s
    let l := s.combiner p ++ [{ stack := m, line := line, words := SMap.set (false, 0) [] w (word none) }]
    let s := s.setCombiner p l
    if p < 6 ∧ (s.fport p).map.get 0 8 < l.length then s.setFport p { s.fport p with map := (s.fport p).map.set 0 8 l.length } else s

/-- The flushes that an operation needs before it: of its line in every combiner of its I/O die, or of the oldest entry where a new one finds 64 (R275). -/
def State.flushesFor (s : State) (p : Nat) (d : RemoteDesc) : List Nat :=
  if d.op.toNat = 4 ∨ d.op.toNat = 8 then
    (if (s.entryOf p d.stack (d.off / 64)).isNone && decide (64 ≤ (s.combiner p).length) then [p] else [])
  else (diePaths p).filter (fun q => (s.entryOf q d.stack (d.off / 64)).isSome)

/-- Whether the Hearth takes what a request at its target needs: its flushes and, but for XST.D and XADD, its own block (R276). -/
def State.canServe (s : State) (p : Nat) (d : RemoteDesc) : Bool :=
  let own := if d.op.toNat = 4 ∨ d.op.toNat = 8 then 0 else 1
  let n := (s.flushesFor p d).length + own
  !d.wellFormed || n == 0 || decide (((s.port (pathPort p)).group (16 + d.stack)).queue.length + n ≤ 64)

/-- A request at the I/O die of its target (R274 to R276): XST.D and XADD enter the combiner and are acknowledged, the others go to the memory logic die behind
the flushes of their line. A request that is not well formed is answered as refused (DESIGN CHOICE). -/
def State.serve (s : State) (p : Nat) (d : RemoteDesc) : State :=
  let io := pathPort p
  let op := d.op.toNat
  if !d.wellFormed then s.sendResponse io (d.answer 2 0 0) none
  else if op = 4 ∨ op = 8 then (s.combine p d).sendResponse io (d.answer 0 0 0) none
  else ((diePaths p).foldl (fun s q => s.flushLine q d.stack (d.off / 64)) s).queueUnit io (requestBlock io (16 + d.stack) d.payload)

/-! ### Links -/

/-- A training cell of this module's (R261): coordinates, sizes, port, and major 1 with minor 0. -/
def State.train (s : State) (f : Nat) : State := s.send (.training f s.coord (fld (s.reg (Reg.FAB_COORD 2)) 19 8) f 2 0)

/-- The status register of a port. -/
def portStatus (f : Nat) : Nat := Reg.FAB_PORT_STATUS (fabIo f) (f / 2)

/-- A link goes down (R260): what it held on its way is lost, scheduled cells with their windows (R284); its error is recorded and counted, and it retrains. -/
def State.linkLost (s : State) (f reason : Nat) : State :=
  let x := s.fport f
  let gone := (x.replay ++ x.wait).filter (fun c => c.lane == 0 && c.tick.toNat == s.seq % 16)
  let s := s.setFport f { x with rxNext := 0, txNext := 0, skipping := false, replay := [], again := [], stalls := 0, stallAt := 0, peerOff := 0, wait := [],
                                 lost := x.lost ++ gone.map (fun c => c.window.toNat) }
  let s := (s.setReg (portStatus f) (BitVec.ofNat 32 (4 * 2 ^ 29 + reason * 2 ^ 26))).train f
  (s.bumpReg (Reg.FAB_ERR_COUNT (fabIo f)) 15 0).fabricError f 0 0 0x02

/-! ### The scheduled lane (R269 to R271) -/

/-- The words of a table of a fabric port or die (R287): tables 0 and 1 by I/O die, 2 to 4 by port. -/
def fabKey (unit t i : Nat) : Nat := tblKey 5 unit t i

/-- Word `w` of transmit window `k` of a port. -/
def State.txWindow (s : State) (f k w : Nat) : Word := s.tblWord (fabKey f 2 (4 * k + w))
/-- Word `w` of receive entry `k` of a port. -/
def State.rxEntry (s : State) (f k w : Nat) : Word := s.tblWord (fabKey f 3 (4 * k + w))

/-- The number of transmit windows in use: up to the first invalid one (R269). -/
def windowCount (valid : Nat → Bool) : Nat → Nat → Nat
  | 0, k => k
  | n + 1, k => if valid k then windowCount valid n (k + 1) else k

/-- Whether a port has a valid transmit window or receive entry (R284). -/
def State.portUsed (s : State) (f : Nat) : Bool :=
  (List.range 512).any (fun k => flag (s.txWindow f k 1) 31 || flag (s.rxEntry f k 0) 31)

/-- Whether the window that a port sends has sent its count. -/
def State.windowSent (s : State) (f : Nat) : Bool :=
  let x := s.fport f
  match x.sending with
  | none => true
  | some w => w.next == (s.txWindow f w.index 3).toNat && !(x.wait.any (fun c => c.lane == 0))

/-- The first window of a port whose scheduled traffic is incomplete (R271): a transmit window that has lost cells or has not sent its count, or a receive
entry that has not written its expected count. -/
def State.incomplete (s : State) (f : Nat) : Option Nat :=
  let x := s.fport f
  let opened := match x.sending with
    | some w => if s.windowSent f then x.window else w.index
    | none => x.window
  (x.lost.head?).or ((if opened < windowCount (fun k => flag (s.txWindow f k 1) 31) 512 0 then some opened else none).or
    ((List.range 512).find? (fun k => flag (s.rxEntry f k 0) 31 && x.written.get 0 k != (s.rxEntry f k 2).toNat)))

end Sys2Proof.Machine
end

