-- ==== Sys2Proof/Machine/Digest.lean ====
section
/-! DEFINITION. The digests the spec names: CRC-32C over MHP datagrams (R292), CRC-32 over option bytes (R420), SHA-256 over image
and snapshot parts (R228, R352). -/

namespace Sys2Proof.Machine

/-- One bit of a reflected CRC with polynomial `poly`. -/
def crcBit (poly c : Nat) : Nat := if c % 2 = 1 then c / 2 ^^^ poly else c / 2

/-- Eight bits of a reflected CRC. -/
def crcByte (poly c : Nat) (b : Byte) : Nat :=
  crcBit poly (crcBit poly (crcBit poly (crcBit poly (crcBit poly (crcBit poly (crcBit poly (crcBit poly (c ^^^ b.toNat))))))))

/-- A 32-bit reflected CRC with initial value and final inversion of all ones. -/
def crc32With (poly : Nat) (bs : List Byte) : Nat := bs.foldl (crcByte poly) 0xFFFFFFFF ^^^ 0xFFFFFFFF

/-- CRC-32C (Castagnoli). -/
def crc32c (bs : List Byte) : Nat := crc32With 0x82F63B78 bs
/-- CRC-32 (IEEE 802.3). -/
def crc32 (bs : List Byte) : Nat := crc32With 0xEDB88320 bs

/-- The root of degree `e` of `n`, rounded down: `k` bits tried from the highest, added to what is found. -/
def rootBits (e n : Nat) : Nat → Nat → Nat
  | 0, r => r
  | k + 1, r => rootBits e n k (if (r + 2 ^ k) ^ e ≤ n then r + 2 ^ k else r)

/-- The first 32 bits of the fraction of a number's root of degree `e`: how SHA-256 defines its constants. -/
def rootFraction (e p : Nat) : Word := BitVec.ofNat 32 (rootBits e (p * 2 ^ (32 * e)) 37 0)

/-- The first 64 prime numbers. -/
def primes64 : List Nat := (List.range 312).filter (fun n => decide (2 ≤ n) && (List.range 18).all (fun d => decide (d < 2 ∨ n ≤ d) || n % d != 0))

/-- The exclusive or of the rotations of a word by the numbers of a list. -/
def shaTurns (ns : List Nat) (w : Word) : Word := ns.foldl (fun x n => x ^^^ w.rotateRight n) 0

/-- The message schedule extended by `n` words; the newest word stands first. -/
def shaExtend : Nat → List Word → List Word
  | 0, ws => ws
  | n + 1, ws =>
    let back := fun k => ws.getD (k - 1) 0
    let near := shaTurns [17, 19] (back 2) ^^^ (back 2 >>> 10)
    let far := shaTurns [7, 18] (back 15) ^^^ (back 15 >>> 3)
    shaExtend n ((near + far + back 7 + back 16) :: ws)

/-- One round of SHA-256: the eight working words move up by one; the new first and fifth are sums. -/
def shaRound (h : List Word) (addend : Word) : List Word :=
  let v := fun i => h.getD i 0
  let pick := v 6 ^^^ (v 4 &&& (v 5 ^^^ v 6))
  let most := (v 0 &&& (v 1 ||| v 2)) ||| (v 1 &&& v 2)
  let sum := addend + v 7 + pick + shaTurns [6, 11, 25] (v 4)
  let up := (sum + most + shaTurns [2, 13, 22] (v 0)) :: h.take 7
  up.set 4 (v 3 + sum)

/-- A big-endian word. -/
def beWord (bs : List Byte) : Word := BitVec.ofNat 32 (leNat bs.reverse)

/-- One block of 64 bytes. -/
def shaBlock (h : List Word) (block : List Byte) : List Word :=
  let w0 := (List.range 16).map (fun i => beWord ((block.drop (4 * i)).take 4))
  let ws := (shaExtend 48 w0.reverse).reverse
  List.zipWith (· + ·) h ((List.zipWith (fun p w => rootFraction 3 p + w) primes64 ws).foldl shaRound h)

/-- The blocks in turn; `fuel` bounds them. -/
def shaBlocks : Nat → List Word → List Byte → List Word
  | 0, h, _ => h
  | f + 1, h, bs => if bs.isEmpty then h else shaBlocks f (shaBlock h (bs.take 64)) (bs.drop 64)

/-- SHA-256 of a message. -/
def sha256 (m : List Byte) : List Byte :=
  let zeros := (119 - m.length % 64) % 64
  let padded := m ++ [0x80] ++ List.replicate zeros 0 ++ (leBytes 8 (8 * m.length)).reverse
  ((shaBlocks (padded.length / 64) ((primes64.take 8).map (rootFraction 2)) padded).map (fun w => (leBytes 4 w.toNat).reverse)).flatten

end Sys2Proof.Machine
end

