-- ==== Sys2Proof/Machine/Image.lean ====
section
/-! DEFINITION. Job images (R228 to R233, R253, R254, R304, R310, R484): reading one from the staging range, its checks, and applying
it to tiles, memory stacks and tables. -/

namespace Sys2Proof.Machine

/-! ### The staging range (R304) -/

/-- One staging byte. -/
def State.stageByte (s : State) (o : Nat) : Byte := (s.stack (o / 2 ^ 32)).byte (0xB00000000 + o % 2 ^ 32)

/-- `n` staging bytes from `o`. -/
def State.stage (s : State) (o n : Nat) : List Byte := (List.range n).map (fun i => s.stageByte (o + i))

/-- The little-endian number in `n` staging bytes. -/
def State.stageNat (s : State) (o n : Nat) : Nat := leNat (s.stage o n)

/-- An image in the staging range: where it starts and its length. -/
structure Image where
  base : Nat
  len  : Nat
deriving DecidableEq, Repr

/-- A field of an image. -/
def State.img (s : State) (g : Image) (o n : Nat) : Nat := s.stageNat (g.base + o) n

/-- The number of directory entries. -/
def State.imgSections (s : State) (g : Image) : Nat := s.img g 0x00C 4

/-- Directory entry `i` as (type, filler, length, offset) (R229). -/
def State.imgEntry (s : State) (g : Image) (i : Nat) : Nat × Nat × Nat × Nat :=
  (s.img g (512 + 16 * i) 2, s.img g (514 + 16 * i) 2, s.img g (516 + 16 * i) 4, s.img g (520 + 16 * i) 8)

/-- The directory. -/
def State.imgDir (s : State) (g : Image) : List (Nat × Nat × Nat × Nat) := (List.range (s.imgSections g)).map (s.imgEntry g)

/-- The section of a type as (staging offset, length). -/
def State.imgSection (s : State) (g : Image) (ty : Nat) : Option (Nat × Nat) :=
  ((s.imgDir g).find? (fun e => e.1 == ty)).map (fun e => (g.base + e.2.2.2, e.2.2.1))

/-- The normal image of the resident job. -/
def State.normalImage (s : State) : Image := { base := 0, len := s.job.len }
/-- The degraded image of the resident job. -/
def State.degradedImage (s : State) : Image := { base := s.job.degOff, len := s.job.degLen }
/-- The image in use. -/
def State.imageInUse (s : State) : Image := if flag (s.reg Reg.TCK_STATUS) 24 then s.degradedImage else s.normalImage

/-! ### Derived figures (R212) -/

/-- Guard cycles of a period in µs. -/
def guardCycles (p : Nat) : Nat := max 32000 (25 * p)
/-- Cycle budget of a period. -/
def budgetCycles (p : Nat) : Nat := 1600 * p - guardCycles p
/-- Guard offset in ns: 0.625 ns per cycle, down to a multiple of 10. -/
def guardOffset (p : Nat) : Nat := budgetCycles p * 5 / 8 / 10 * 10

/-! ### Records of the sections -/

/-- The image records of a section as (address, length, staging offset of the data) (R253); `fuel` bounds them. -/
def State.records (s : State) : Nat → Nat → Nat → List (Nat × Nat × Nat)
  | 0, _, _ => []
  | f + 1, o, stop =>
    if o + 16 > stop then []
    else
      let n := s.stageNat (o + 8) 8
      (s.stageNat o 8, n, o + 16) :: s.records f ((o + 16 + n + 127) / 128 * 128) stop

/-- The records of a section type. -/
def State.imgRecords (s : State) (g : Image) (ty : Nat) : List (Nat × Nat × Nat) :=
  match s.imgSection g ty with
  | none => []
  | some (o, n) => s.records (n / 16 + 1) o (o + n)

/-- The carry-window entries of section 0x0009 as (kind, die or stack, window, four fields) (R254). -/
def State.imgWindows (s : State) (g : Image) : List (Nat × Nat × Nat × Nat × Nat × Nat × Nat) :=
  match s.imgSection g 0x0009 with
  | none => []
  | some (o, _) => (List.range (s.stageNat o 4)).map (fun i =>
      let a := o + 4 + 32 * i
      (s.stageNat a 1, s.stageNat (a + 1) 1, s.stageNat (a + 2) 1, s.stageNat (a + 4) 4, s.stageNat (a + 8) 4, s.stageNat (a + 12) 4,
        s.stageNat (a + 16) 4))

/-- A stream entry of section 0x000A (R310). -/
structure StreamEntry where
  stream   : Nat
  dir      : Nat
  stack    : Nat
  ring     : Nat
  slots    : Nat
  flags    : Nat
  base     : Nat
  len      : Nat
  deadline : Nat
  declared : Nat
  zero     : Bool
deriving DecidableEq, Repr

/-- The stream entries of an image. -/
def State.imgStreams (s : State) (g : Image) : List StreamEntry :=
  match s.imgSection g 0x000A with
  | none => []
  | some (o, _) => (List.range (s.stageNat o 4)).map (fun i =>
      let a := o + 4 + 32 * i
      { stream := s.stageNat a 1, dir := s.stageNat (a + 1) 1, stack := s.stageNat (a + 2) 1, ring := s.stageNat (a + 3) 1,
        slots := s.stageNat (a + 4) 1, flags := s.stageNat (a + 5) 1, base := s.stageNat (a + 8) 8, len := s.stageNat (a + 16) 4,
        deadline := s.stageNat (a + 20) 4, declared := s.stageNat (a + 24) 4,
        zero := s.stageNat (a + 6) 2 == 0 && s.stageNat (a + 28) 4 == 0 })

/-- A fence entry of section 0x0006 (R484): die, row, fenced columns, and its words as (row, column, table, index, word). -/
structure FenceEntry where
  die   : Nat
  row   : Nat
  colA  : Nat
  colB  : Nat
  words : List (Nat × Nat × Nat × Nat × Word)
deriving DecidableEq, Repr

/-- Fence entries from an offset; `n` of them. -/
def State.fenceEntries (s : State) : Nat → Nat → List FenceEntry
  | 0, _ => []
  | n + 1, a =>
    let w := s.stageNat (a + 4) 4
    { die := s.stageNat a 1, row := s.stageNat (a + 1) 1, colA := s.stageNat (a + 2) 1, colB := s.stageNat (a + 3) 1,
      words := (List.range w).map (fun i =>
        let b := a + 8 + 8 * i
        (s.stageNat b 1, s.stageNat (b + 1) 1, s.stageNat (b + 2) 1, s.stageNat (b + 3) 1, BitVec.ofNat 32 (s.stageNat (b + 4) 4))) }
      :: s.fenceEntries n (a + 8 + 8 * w)

/-- The fence lists of an image; entries begin at multiples of 8 bytes within the section. -/
def State.imgFences (s : State) (g : Image) : List FenceEntry :=
  match s.imgSection g 0x0006 with
  | none => []
  | some (o, n) => s.fenceEntries (min (s.stageNat o 4) n) (o + 8)

/-! ### Checks (R230) -/

/-- The key in an owner slot, its words least significant first (R432). -/
def State.ownerRoot (s : State) (k : Nat) : BitVec 256 :=
  BitVec.ofNat 256 (packNat 32 ((List.range 8).map (fun w => (s.reg (Reg.GLV_OWNER_ROOT (8 * k + w))).toNat)))

/-- The active owner slot. -/
def State.activeRoot (s : State) : Option Nat :=
  if flag (s.reg Reg.GLV_ROOTS) 23 then some (fld (s.reg Reg.GLV_ROOTS) 22 21) else none

/-- Whether any owner slot has ever been programmed. -/
def State.everProgrammed (s : State) : Bool := fld (s.reg Reg.GLV_ROOTS) 31 24 != 0

/-- Whether a signature over `m` verifies under the roots a job image is held to (R433); none does after a self-test failure (R438). -/
def State.verifyJob (s : State) (m sig : List Byte) : Bool :=
  if flag (s.reg Reg.GLV_STATUS) 30 then false
  else
    match s.activeRoot with
    | some k => Config.slhVerify (s.ownerRoot k) m sig
    | none => !s.everProgrammed && Config.slhVerify Config.vendorRoot m sig

/-- The section types of R229. -/
def knownSection (t : Nat) : Bool := decide (1 ≤ t ∧ t ≤ 0xB)

/-- The types a normal or degraded image must hold, in table order. -/
def requiredSections (flags group : Nat) : List Nat :=
  [1, 2, 5, 6, 7] ++ (if flags % 2 = 1 then [8] else []) ++ [9, 10] ++ (if group > 1 then [11] else [])

/-- Whether two ranges overlap. -/
def overlap (a m b n : Nat) : Bool := decide (a < b + n ∧ b < a + m ∧ 0 < m ∧ 0 < n)

/-- Check 0x08: the low byte of the section at fault where one is (R229). -/
def State.directoryFault (s : State) (g : Image) : Option Nat :=
  let es := s.imgDir g
  let n := es.length
  let stop := s.img g 0x010 8 - 7856
  if n < 1 ∨ n > 64 then some 0
  else
    let bad := (List.range n).find? (fun i =>
      let e := es.getD i (0, 0, 0, 0)
      !(knownSection e.1) || e.2.1 != 0 || e.2.2.2 % 128 != 0 || decide (e.2.2.2 < 512 + 16 * n) || decide (e.2.2.2 + e.2.2.1 > stop) ||
        (es.take i).any (fun f => f.1 == e.1 || overlap f.2.2.2 f.2.2.1 e.2.2.2 e.2.2.1))
    match bad with
    | some i => some ((es.getD i (0, 0, 0, 0)).1 % 256)
    | none => (requiredSections (s.img g 0x030 4) (s.img g 0x034 2)).find? (fun t => !(es.any (fun e => e.1 == t)))

/-- Whether an address record is refused (R253, R304, R351): misaligned, out of its region, in the staging range or the snapshot
area, or at an alias of no window. -/
def State.recordBad (_ : State) (wins : List (Nat × Nat × Nat × Nat × Nat × Nat × Nat)) (snap : Bool) (tile : Bool) (r : Nat × Nat × Nat) : Bool :=
  let a := r.1
  let n := r.2.1
  if n % 128 ≠ 0 ∨ a ≥ 2 ^ 48 then true
  else if tile then
    let x := a % 2 ^ 20
    a / 2 ^ 44 != 0 || decide (a / 2 ^ 28 % 64 > 47) || decide (x + n > 2 ^ 20) || decide (a / 2 ^ 20 % 256 > 2) ||
      (a / 2 ^ 20 % 256 != 0 && !(wins.any (fun w => w.1 == 0 && w.2.1 == a / 2 ^ 40 % 16 && decide (w.2.2.2.1 ≤ x ∧ x + n ≤ w.2.2.2.1 + w.2.2.2.2.1))))
  else
    a / 2 ^ 44 != 1 || a / 2 ^ 36 % 16 != 0 || decide (a % 2 ^ 36 + n > 0xB00000000) ||
      (snap && overlap (a % 2 ^ 36) n 0x800000000 0x200001000)

/-- The copy ranges of a carry-window entry in bytes, as (start, length). -/
def windowRanges (w : Nat × Nat × Nat × Nat × Nat × Nat × Nat) : List (Nat × Nat) :=
  if w.1 = 0 then [(w.2.2.2.2.2.1, w.2.2.2.2.1), (w.2.2.2.2.2.2, w.2.2.2.2.1)]
  else [(w.2.2.2.1 * 128, w.2.2.2.2.1 * 128), (w.2.2.2.2.2.1 * 128, w.2.2.2.2.1 * 128)]

/-- Whether a program of section 0x0001 is longer than the 4,096 words of a program store; `n` programs from an offset on. -/
def State.longProgram (s : State) : Nat → Nat → Bool
  | 0, _ => false
  | n + 1, o => decide (s.stageNat o 4 > 4096) || s.longProgram n (o + 4 + 8 * s.stageNat o 4)

/-- Whether ranges overlap: any of the first `m` and any other of the list. -/
def anyOverlap (m : Nat) (rs : List (Nat × Nat)) : Bool :=
  (List.range rs.length).any (fun i => (List.range (min i m)).any (fun j =>
    overlap (rs.getD i (0, 0)).1 (rs.getD i (0, 0)).2 (rs.getD j (0, 0)).1 (rs.getD j (0, 0)).2))

/-- Whether the copy ranges of carry windows break R240 or R243: a window's own two copies overlap, or those of two windows of one die or stack, a memory
window and a ring, or the windows of a die or stack are together above 256 KiB or 4 GiB. -/
def windowsClash (wins : List (Nat × Nat × Nat × Nat × Nat × Nat × Nat)) (rings : List StreamEntry) : Bool :=
  [0, 1].any (fun kind => (List.range 16).any (fun u =>
    let spans := ((wins.filter (fun w => w.1 == kind && w.2.1 == u)).map windowRanges).flatten
    let total := (spans.map (fun (r : Nat × Nat) => r.2)).foldl (· + ·) 0 / 2
    let taken := if kind = 0 then [] else (rings.filter (fun x => x.stack == u)).map (fun x => (x.base, x.slots * (128 + x.len)))
    decide (total > (if kind = 0 then 2 ^ 18 else 2 ^ 32)) || anyOverlap spans.length (spans ++ taken)))

/-- Whether a section's content holds a value its block would refuse (R230 reason 0x0A): ranges of R240, R243, R248, R253, R310,
R351 and R484; the sections without a byte layout through Config.sectionRefused. -/
def State.sectionBad (s : State) (g : Image) (deg : Bool) (e : Nat × Nat × Nat × Nat) : Bool :=
  let wins := s.imgWindows g
  let snap := s.img g 0x02C 4 != 0
  match e.1 with
  | 0x0001 => s.longProgram (min (s.stageNat (g.base + e.2.2.2) 4) e.2.2.1) (g.base + e.2.2.2 + 4)
  | 0x0003 => (s.imgRecords g 3).any (s.recordBad wins snap true)
  | 0x0004 => (s.imgRecords g 4).any (s.recordBad wins snap false)
  | 0x0006 => (s.imgFences g).any (fun f =>
      decide (f.die > 15) || decide (f.row > 63) || decide (f.colA > 49) || (f.colB != 0x3F && (decide (f.colB > 49) || decide (f.colB ≤ f.colA))) ||
        f.words.any (fun w => decide (w.1 > 63) || decide (w.2.1 > 49) ||
          !((w.2.2.1 == 1 && decide (w.2.2.2.1 < 16)) || (w.2.2.1 == 2 && decide (w.2.2.2.1 < 32)))))
  | 0x0009 => wins.any (fun w =>
      decide (w.2.1 > 15) ||
      (if w.1 = 0 then
        decide (w.2.2.1 > 7) || w.2.2.2.1 % 128 != 0 || w.2.2.2.2.1 % 128 != 0 || decide (w.2.2.2.2.1 > 2 ^ 18) ||
          (windowRanges w).any (fun r => r.1 % 128 != 0 || decide (r.1 + r.2 > 2 ^ 20)) || decide (w.2.2.2.1 + w.2.2.2.2.1 > 2 ^ 20)
      else w.1 != 1 || decide (w.2.2.1 > 15) ||
        (windowRanges w).any (fun r => decide (r.1 + r.2 > 0xC00000000) || (snap && overlap r.1 r.2 0x800000000 0x200001000)))) ||
    windowsClash wins (s.imgStreams g)
  | 0x000A =>
    let es := s.imgStreams g
    let budget := s.img g 0x020 4
    decide (es.length < 1 ∨ es.length > 256) ||
    es.any (fun x => decide (x.dir > 1) || decide (x.stack > 15) || decide (x.ring > 63) || decide (x.slots < 2 ∨ x.slots > 16) ||
      decide (x.flags > 1) || (x.dir == 1 && x.flags != 0) || !x.zero || x.base % 128 != 0 || x.len % 128 != 0 || decide (x.len > 2 ^ 30) ||
      (if x.dir = 0 then decide (x.deadline < 1 ∨ x.deadline > budget - 1) || x.declared != 0
       else x.deadline != 0 || decide (x.declared > x.len)) ||
      decide (x.base + x.slots * (128 + x.len) > 0xC00000000) ||
      (snap && overlap x.base (x.slots * (128 + x.len)) 0x800000000 0x200001000)) ||
    (List.range es.length).any (fun i => (List.range i).any (fun j =>
      (es.map (fun x => x.stream)).getD i 0 == (es.map (fun x => x.stream)).getD j 0))
  | t => (t == 5 || t == 7 || t == 8 || t == 11) && Config.sectionRefused (t + (if deg then 16 else 0)) (s.stage (g.base + e.2.2.2) e.2.2.1)

/-- The checks of R230 on one image in table order: the reason and section of the first that fails. -/
def State.imageCheck (s : State) (g : Image) (deg : Bool) : Option (Nat × Nat) :=
  let f := s.img g
  let p := f 0x018 4
  let total := f 0x010 8
  if !(s.verifyJob (s.stage g.base (g.len - 7856)) (s.stage (g.base + g.len - 7856) 7856)) then some (0x01, 0)
  else if s.stage g.base 4 ≠ [0x45, 0x4D, 0x4A, 0x49] ∨ f 0x004 1 / 16 ≠ 1 then some (0x02, 0)
  else if f 0x005 1 ≠ (if deg then 1 else 0) ∨ f 0x006 1 ≠ (if deg then 15 else 16) ∨ f 0x008 4 ≠ 512 ∨ total ≠ g.len then some (0x03, 0)
  else if p < 500 ∨ p > 1000000 then some (0x04, 0)
  else if f 0x01C 4 ≠ guardCycles p ∨ f 0x020 4 ≠ budgetCycles p then some (0x05, 0)
  else if f 0x024 4 > 98 * f 0x020 4 / 100 then some (0x06, 0)
  else if f 0x028 4 > fld (s.reg Reg.PWR_BUDGET) 13 0 * p / 1000 then some (0x07, 0)
  else match s.directoryFault g with
    | some t => some (0x08, t)
    | none =>
      let n : Image := { base := 0, len := s.img { base := 0, len := 0 } 0x010 8 }
      if deg && (s.stage (g.base + 0x040) 32 != sha256 (s.stage 0 n.len) || p != s.img n 0x018 4 || f 0x02C 4 != s.img n 0x02C 4 ||
          f 0x030 4 != s.img n 0x030 4 || f 0x034 2 != s.img n 0x034 2 || s.stage (g.base + 0x060) 32 != s.stage 0x060 32)
      then some (0x09, 0)
      else match (s.imgDir g).find? (s.sectionBad g deg) with
        | some e => some (0x0A, e.1 % 256)
        | none => none

/-! ### Applying an image (R233, R253, R342, R415) -/

/-- The program index and loose entries of a logical tile in section 0x0002. -/
def State.tileMap (s : State) (g : Image) (die row col : Nat) : Nat × List Nat :=
  match s.imgSection g 2 with
  | none => (0xFFFF, [0, 0, 0])
  | some (o, _) =>
    let a := o + 16 * ((die * 64 + row) * 48 + col)
    (s.stageNat a 2, [s.stageNat (a + 4) 4, s.stageNat (a + 8) 4, s.stageNat (a + 12) 4])

/-- Where program `i` of section 0x0001 stands, with its length in words; lengths are four bytes (DEDUCED). -/
def State.programAt (s : State) : Nat → Nat → Nat × Nat
  | 0, o => (o + 4, s.stageNat o 4)
  | i + 1, o => s.programAt i (o + 4 + 8 * s.stageNat o 4)

/-- The program store of a program: its words, the rest zero (R229). -/
def State.programWords (s : State) (g : Image) (i : Nat) : SMap DWord :=
  match s.imgSection g 1 with
  | none => []
  | some (o, _) =>
    let (a, n) := s.programAt i (o + 4)
    (List.range (min n 4096)).map (fun j => (j, BitVec.ofNat 64 (s.stageNat (a + 8 * j) 8)))

/-- The offsets a tile record is written at: both copies for an alias inside a window (R253). -/
def State.recordPlaces (s : State) (die a : Nat) : List Nat :=
  let x := a % 2 ^ 20
  if a / 2 ^ 20 % 256 = 0 then [x]
  else match aliasWin (s.carryWins die) x with
    | some w => [copyBase w false + (x - w.2.1), copyBase w true + (x - w.2.1)]
    | none => []

/-- Bytes written at several offsets of a tile. -/
def Tile.writeAll (t : Tile) (bs : List Byte) : List Nat → Tile
  | [] => t
  | o :: os => (t.write o bs).writeAll bs os

/-- The section 0x0003 records of one logical tile written into it. -/
def State.tileRecords (s : State) (die pos : Nat) : List (Nat × Nat × Nat) → Tile → Tile
  | [], t => t
  | r :: rs, t =>
    if r.1 / 2 ^ 28 % 2 ^ 16 = pos then s.tileRecords die pos rs (t.writeAll (s.stage r.2.2 r.2.1) (s.recordPlaces die r.1))
    else s.tileRecords die pos rs t

/-- One tile loaded from an image: program store, entries, budget, and its records (R233, R342). -/
def State.loadTile (s : State) (g : Image) (die row col k : Nat) : Tile :=
  let (p, es) := s.tileMap g die row col
  let t := s.tile k
  let t := { t with placed := p != 0xFFFF, pstore := (if p = 0xFFFF then [] else s.programWords g p), pstoreEcc := [] }
  let entry := fun i => BitVec.ofNat 32 (es.getD i 0) &&& 0x80000FFF
  let t := (((t.setSys 3 (BitVec.ofNat 32 (s.img g 0x020 4))).setSys 4 (entry 0)).setSys 5 (entry 1)).setSys 6 (entry 2)
  s.tileRecords (keyDie k) ((die * 64 + row) * 64 + col) (s.imgRecords g 3) t

/-- Tiles of one logical die loaded; positions are (row, logical column). -/
def State.loadTiles (s : State) (g : Image) (die : Nat) : List (Nat × Nat) → State
  | [] => s
  | (r, c) :: ps =>
    let k := posKey (s.bayDie die) r (s.physCol (s.bayDie die) r c)
    (s.setTile k (s.loadTile g die r c k)).loadTiles g die ps

/-- Every (row, logical column). -/
def allPlaces : List (Nat × Nat) := ((List.range 64).map (fun r => (List.range 48).map (fun c => (r, c)))).flatten

/-- Carry windows of section 0x0009 loaded (R254); `only` picks a physical die or stack where one unit is loaded. -/
def State.loadWindows (s : State) (only : Nat → Nat → Bool) : List (Nat × Nat × Nat × Nat × Nat × Nat × Nat) → State
  | [] => s
  | (kind, u, w, a, b, c, d) :: ws =>
    let unit := if kind = 0 then s.bayDie u else u
    let s := if !(only kind unit) then s
      else if kind = 0 then
        (((s.setReg (Reg.TIL_CARRY unit w 0) (BitVec.ofNat 32 (0x80000000 + a / 128 % 2 ^ 13))).setReg (Reg.TIL_CARRY unit w 1)
          (BitVec.ofNat 32 (b / 128 % 2 ^ 14))).setReg (Reg.TIL_CARRY unit w 2) (BitVec.ofNat 32 (c / 128 % 2 ^ 13))).setReg
          (Reg.TIL_CARRY unit w 3) (BitVec.ofNat 32 (d / 128 % 2 ^ 13))
      else
        ((s.setTbl (tblKey 3 unit 0 (3 * w)) (BitVec.ofNat 32 (0x80000000 + a % 2 ^ 29))).setTbl (tblKey 3 unit 0 (3 * w + 1))
          (BitVec.ofNat 32 (b % 2 ^ 29))).setTbl (tblKey 3 unit 0 (3 * w + 2)) (BitVec.ofNat 32 (c % 2 ^ 29))
    s.loadWindows only ws

/-- Whether a control address is a TIL_CARRY register. -/
def isCarryReg (a : Nat) : Bool := (List.range 16).any (fun d => decide (Reg.TIL_CARRY d 0 0 ≤ a ∧ a ≤ Reg.TIL_CARRY d 7 3))

/-- The windows of section 0x0009 and no others are valid (R253): tile windows, and `stacks` where memory windows are loaded too. -/
def State.clearWindows (s : State) (stackMem : Bool) : State :=
  { s with regs := s.regs.keep (fun a => !(isCarryReg a))
           tbl := (if stackMem then s.tbl.keep (fun k => !(k / 2 ^ 37 == 3 && k / 2 ^ 16 % 8 == 0)) else s.tbl) }

/-- Rings of section 0x000A loaded (R310). -/
def State.loadRings (s : State) (only : Nat → Bool) : List StreamEntry → State
  | [] => s
  | x :: xs =>
    let k := fun j => tblKey 3 x.stack 1 (4 * x.ring + j)
    let w0 := 0x80000000 + x.dir * 2 ^ 30 + x.slots * 2 ^ 25 + x.stream * 2 ^ 17 + (if x.dir = 0 then x.flags % 2 * 2 ^ 16 else 0)
    let s := if !(only x.stack) then s
      else ((((s.setTbl (k 0) (BitVec.ofNat 32 w0)).setTbl (k 1) (BitVec.ofNat 32 (x.base / 128))).setTbl (k 2)
        (BitVec.ofNat 32 (x.len / 128))).setTbl (k 3) (BitVec.ofNat 32 (if x.dir = 0 then x.deadline else x.declared))).setRingStatus x.stack x.ring
        (s.ringStatus x.stack x.ring &&& 0x03FFFFFF)
    s.loadRings only xs

/-- Bytes written into a stack from the image, outside any tick (R238). -/
def State.memImage (s : State) (m : Nat) (bs : List Byte) : List (Nat × Nat) → State
  | [] => s
  | (a, n) :: ps => ((s.memStore m a (bs.take n) ⟨16 + m, true⟩).2).memImage m (bs.drop n) ps

/-- A span written into a stack from the image. -/
def State.memLoad (s : State) (m off : Nat) (bs : List Byte) : State := s.memImage m bs (pieces (bs.length / 128 + 2) off bs.length)

/-- The part of a record that lies in a window W written to its copy 1 too (R253). -/
def State.copyRecord (s : State) (m off : Nat) (bs : List Byte) : List (Nat × Nat × Nat) → State
  | [] => s
  | w :: ws =>
    let lo := max off w.1
    let hi := min (off + bs.length) (w.1 + w.2.1)
    (if lo < hi then s.memLoad m (w.2.2 + (lo - w.1)) ((bs.drop (lo - off)).take (hi - lo)) else s).copyRecord m off bs ws

/-- Section 0x0004 records written; what lies in a window W goes to both copies (R253). -/
def State.loadMemory (s : State) (only : Nat → Bool) : List (Nat × Nat × Nat) → State
  | [] => s
  | r :: rs =>
    let m := r.1 / 2 ^ 40 % 16
    let off := r.1 % 2 ^ 36
    let bs := s.stage r.2.2 r.2.1
    (if only m then (s.memLoad m off bs).copyRecord m off bs (s.memWins m) else s).loadMemory only rs

/-- Table words in force and shadow, reserved bits left out (R10). -/
def State.putWords (s : State) (both : Bool) : List (Nat × Word) → State
  | [] => s
  | (k, w) :: ws =>
    let v := w &&& keyMask s.tblShadowWord k
    (if both then (s.setTbl k v).setTblShadow k v else s.setTblShadow k v).putWords both ws

/-- A table key of logical bays as one of physical units: compute dies and compute ports go through the bay map (R344). -/
def State.physicalKey (s : State) (k : Nat) : Nat :=
  let blk := k / 2 ^ 37
  let u := k / 2 ^ 19 % 2 ^ 18
  let v := if blk = 0 then s.bayDie (u / 3200 % 16) * 3200 + u % 3200 else if (blk = 1 ∨ blk = 2) ∧ u < 16 then s.bayDie u else u
  blk * 2 ^ 37 + v * 2 ^ 19 + k % 2 ^ 19

/-- Whether a key lies in the tables of a section (R229): 0x0005 the mesh tables 1 to 3, 0x0007 the Hearth tables 0 to 3, 0x0008 the ember-sum entries, 0x000B
the scheduled lane's windows and receive entries. -/
def sectionHolds (t k : Nat) : Bool :=
  let blk := k / 2 ^ 37
  let n := k / 2 ^ 16 % 8
  match t with
  | 5 => blk == 0 && (n == 1 || n == 2 || n == 3)
  | 7 => blk == 1 && decide (n < 4)
  | 8 => blk == 2 && decide (n < 2)
  | _ => blk == 5 && (n == 2 || n == 3)

/-- The words of sections 0x0005, 0x0007, 0x0008 and 0x000B (their layout is not in the spec: Config.sectionWords, by logical bay), each section's in its own
tables. -/
def State.imgTables (s : State) (g : Image) (tys : List Nat) : List (Nat × Word) :=
  (tys.map (fun t => match s.imgSection g t with
    | some (o, n) => ((Config.sectionWords t (s.stage o n)).filter (fun kw => sectionHolds t kw.1)).map (fun kw => (s.physicalKey kw.1, kw.2))
    | none => [])).flatten

/-- The fence columns of a row from its fence word, lower first; 0x3F for none. -/
def fenceSet (w : Word) : Nat × Nat :=
  let a := fld w 29 24
  let b := fld w 21 16
  if flag w 31 && flag w 23 then (min a b, max a b) else if flag w 31 then (a, 0x3F) else if flag w 23 then (b, 0x3F) else (0x3F, 0x3F)

/-- The fence-list words for a row's fence set on a logical die, if an entry names it (R484). -/
def State.fenceWords (s : State) (g : Image) (die row : Nat) (set : Nat × Nat) : Option (List (Nat × Nat × Nat × Nat × Word)) :=
  ((s.imgFences g).find? (fun f => f.die == die && f.row == row && f.colA == set.1 && f.colB == set.2)).map (fun f => f.words)

/-- Fence-list words as table words of a physical die. -/
def fenceKeys (die : Nat) (ws : List (Nat × Nat × Nat × Nat × Word)) : List (Nat × Word) :=
  ws.map (fun w => (tblKey 0 (posKey die w.1 w.2.1) w.2.2.1 w.2.2.2.1, w.2.2.2.2))

/-- The fence lists applied for every fence of a logical die, rows ascending (R233, R484); `get` reads the fence tables in force or in shadow. -/
def State.fenceTable (s : State) (get : Nat → Word) (g : Image) (die : Nat) : List (Nat × Word) :=
  ((List.range 64).map (fun r =>
    let w := get (Reg.TIL_FENCE (s.bayDie die) r)
    if flag w 31 || flag w 23 then fenceKeys (s.bayDie die) ((s.fenceWords g die r (fenceSet w)).getD []) else [])).flatten

/-- The same for the fences in force. -/
def State.presentFences (s : State) (g : Image) (die : Nat) : List (Nat × Word) := s.fenceTable s.reg g die

/-- Tiles, windows and rings of an image over some logical dies; `both` where tables take effect as stored. -/
def State.applyDies (s : State) (g : Image) : List Nat → State
  | [] => s
  | d :: ds => (s.loadTiles g d allPlaces).applyDies g ds

/-- The tile power of a bay under the resident image (R18): on where the image gives one of its tiles a program; otherwise the bay is in no replica
group, its tile logic is off and its SRAM array in retention. -/
def State.settleBay (s : State) (d : Nat) : State :=
  if s.dieFenced d || s.domain (3 * d) == 3 || s.domain (3 * d + 1) == 3 then s
  else
    let used := s.tiles.any (fun kt => keyDie kt.1 == d && kt.2.placed)
    (s.setDomain (3 * d) (if used then 1 else 0)).setDomain (3 * d + 1) (if used then 1 else 2)

/-- The tile power of some bays. -/
def State.settleBays (s : State) : List Nat → State
  | [] => s
  | d :: ds => (s.settleBay d).settleBays ds

/-- The tile power of the bays with no image resident: on in every die that is not fenced. -/
def State.wakeBays (s : State) : List Nat → State
  | [] => s
  | d :: ds =>
    (if s.dieFenced d || s.domain (3 * d) == 3 || s.domain (3 * d + 1) == 3 then s else s.setDomains 1 [3 * d, 3 * d + 1]).wakeBays ds

/-- TCK_PERIOD and what R212 derives from it. -/
def State.setPeriod (s : State) (p : Nat) : State :=
  (((s.setReg Reg.TCK_PERIOD (BitVec.ofNat 32 p)).setReg Reg.TCK_GUARD (BitVec.ofNat 32 (if p = 0 then 0 else guardCycles p))).setReg Reg.TCK_BUDGET
    (BitVec.ofNat 32 (budgetCycles p))).setReg Reg.TCK_GUARD_OFF (BitVec.ofNat 32 (guardOffset p))

/-- The number of logical dies an image addresses. -/
def State.imgDies (s : State) (g : Image) : Nat := min 16 (s.img g 0x006 1)

/-- An accepted image applied in Ready (R233): windows and rings, tiles, memory, tables, fence lists, tile power, and the
period. -/
def State.applyImage (s : State) (g : Image) : State :=
  let s := ((s.clearWindows true).loadWindows (fun _ _ => true) (s.imgWindows g)).loadRings (fun _ => true) (s.imgStreams g)
  let s := (s.applyDies g (List.range (s.imgDies g))).loadMemory (fun _ => true) (s.imgRecords g 4)
  let s := s.putWords true (s.imgTables g [5, 7, 8, 11])
  let s := s.putWords true (((List.range (s.imgDies g)).map (s.presentFences g)).flatten)
  let s := s.settleBays (List.range 16)
  (s.setPeriod (s.img g 0x018 4)).setReg Reg.TCK_IMAGE_ENERGY (BitVec.ofNat 32 (s.img g 0x028 4))

end Sys2Proof.Machine
end

