-- ==== Sys2Proof/Machine/LightOps.lean ====
section
/-! DEFINITION. What upkeep of the light shares (chapters 06 and 14): lane states and lane moves (R183 to R185), the Bellows (R366 to
R376), the calibration engine (R382 to R387). -/

namespace Sys2Proof.Machine

/-! ### Lanes -/

/-- The lane-status words that a move is about, at their receivers (R189). -/
def State.movedLanes (s : State) (m : LaneMove) : List (Nat × Nat) :=
  match m.cls with
  | 0 => [(m.dst, 36 * m.flue + m.src)]
  | 1 => [(m.dst, 324 + m.lane)]
  | 2 => ((List.range 36).map (fun d => ((List.range 36).filter (· != d)).map (fun c => (d, 36 * m.flue + c)))).flatten
  | _ => (s.readPlaces m.src).map (fun q => (q.1, 452 + 16 * q.2 + m.lane))

/-- Lane states set. -/
def State.setLanes (s : State) (st : Nat) : List (Nat × Nat) → State
  | [] => s
  | (p, l) :: ls => (s.setLaneState p l st).setLanes st ls

/-- What a spare position holds for a move: 1 + class × 2^13 + flue × 2^7, or the pair lane. -/
def LaneMove.code (m : LaneMove) : Nat := 1 + m.cls * 2 ^ 13 + (if m.cls = 1 then m.lane else m.flue * 2 ^ 7)

/-- The spare position of an ordered pair: 0 free. -/
def State.sparePlace (s : State) (src dst : Nat) : Nat := s.hearth.spare.get 0 (36 * src + dst)

/-- The move whose lane holds the spare position of an ordered pair. -/
def holderOf (src dst code : Nat) : LaneMove :=
  { why := 0, cls := (if (code - 1) / 2 ^ 13 = 1 then 1 else 0), flue := (code - 1) / 2 ^ 7 % 64, src := src, dst := dst,
    lane := (code - 1) % 2 ^ 13, back := true }

/-- The ordered pairs whose spare position a move takes or frees. -/
def LaneMove.pairs (m : LaneMove) : List (Nat × Nat) :=
  match m.cls with
  | 2 => ((List.range 36).map (fun d => ((List.range 36).filter (· != d)).map (fun c => (c, d)))).flatten
  | 3 => []
  | _ => [(m.src, m.dst)]

/-- Spare positions filled or freed, with the status of their spare-flue lanes (R183, R184). -/
def State.setSpare (s : State) (code : Nat) : List (Nat × Nat) → State
  | [] => s
  | (c, d) :: ps =>
    (({ s with hearth := { s.hearth with spare := s.hearth.spare.set 0 (36 * c + d) code } } : State).setLaneState d (288 + c)
      (if code = 0 then 0 else 4)).setSpare code ps

/-- The state a lane takes at the end of a move (R183). -/
def LaneMove.state (m : LaneMove) : Nat := if m.back then 0 else if m.why ≠ 2 then 1 else if m.cls = 3 then 3 else 2

/-- The value of the lane-set frame that gives a move's lane a state (R179). -/
def LaneMove.value (m : LaneMove) (st : Nat) : Nat :=
  m.cls % 4 * 2 ^ 30 + m.flue % 16 * 2 ^ 26 + m.src % 64 * 2 ^ 20 + m.dst % 64 * 2 ^ 14 + m.lane % 128 * 2 ^ 7 + st % 64 * 2

/-- The relay's lane-set frames to both ends of a lane, or to every port for a flue or a broadcast wavelength (R165, R184). -/
def State.announce (s : State) (m : LaneMove) (st : Nat) : State :=
  if m.cls < 2 then (s.sendFrame 6 m.src 0x40 (m.value st)).sendFrame 6 m.dst 0x40 (m.value st) else s.sendFrame 6 0xFF 0x40 (m.value st)

/-- The rotations of groups restarted (DESIGN CHOICE: R165 has both ends change together and does not say where the new rotation begins). -/
def State.restartTurns (s : State) : List (Nat × Nat) → State
  | [] => s
  | (p, g) :: l =>
    let q := (s.port p).group g
    (if q.turn = 0 then s else s.setPort p ((s.port p).setGroup g { q with turn := 0 })).restartTurns l

/-- The groups whose lanes a move changes. -/
def LaneMove.groups (m : LaneMove) : List (Nat × Nat) :=
  match m.cls with
  | 1 => [(m.src, 36)]
  | 3 => [(m.src, m.src)]
  | _ => m.pairs

/-- A lane's new state at both ends, announced (R165, R183). -/
def State.laneChange (s : State) (m : LaneMove) (st : Nat) : State :=
  ((s.setLanes st (s.movedLanes m)).announce m st).restartTurns m.groups

/-- A move takes effect: lane states, spare positions, HRT_STATUS, and the end of a request (R184). -/
def State.applyMove (s : State) (m : LaneMove) : State :=
  let mine := m.pairs.filter (fun x => !m.back || s.sparePlace x.1 x.2 == m.code)
  let s := (s.laneChange m m.state).setSpare (if m.back then 0 else m.code) mine
  let s := s.setRegFld Reg.HRT_STATUS 23 12 s.hearth.spare.length
  let s := if m.cls = 2 then (s.setRegFld Reg.HRT_STATUS 27 27 (if m.back then 0 else 1)).setRegFld Reg.HRT_STATUS 26 24 (if m.back then 0 else m.flue)
    else s
  if m.why = 0 then (s.setReg Reg.HRT_SWAP_STATUS 0x40000000).clearReg Reg.HRT_LANE_SWAP 0x80000000 else s

/-! ### The calibration engine -/

/-- The lane a kind 0 request names (R382, R389). -/
def calMove (v : Word) (back : Bool) : LaneMove :=
  { why := 1, cls := (if fld v 27 26 = 2 then 3 else fld v 27 26), flue := fld v 25 22, src := fld v 21 16, dst := fld v 15 10,
    lane := fld v 6 0, back := back }

/-- The modulator ring of a data lane (R377). -/
def LaneMove.ring (m : LaneMove) : Nat :=
  match m.cls with
  | 0 => 36 * m.flue + m.dst
  | 1 => 340 + m.lane
  | _ => 324 + m.lane

/-- The lane trim records of a finished request (R384): on acceptance levels, thresholds, tick and count. -/
def State.trimRecords (s : State) (reason : Nat) (r : LaneMeas) : List (Nat × Nat) → State
  | [] => s
  | (p, l) :: ls =>
    let k := fun w => tblKey 4 p 2 (4 * l + w)
    let s := if reason = 0 then
        (((s.setTbl (k 0) (BitVec.ofNat 32 r.levels.toNat)).setTbl (k 1) (BitVec.ofNat 32 r.thresh.toNat)).setTbl (k 2) (BitVec.ofNat 32 s.seq)).setTbl (k 3)
          (bumpFld (setFld (setFld (s.tblWord (k 3)) 31 30 1) 23 16 0) 15 0 1)
      else s.setTbl (k 3) (setFld (setFld (s.tblWord (k 3)) 31 30 2) 23 16 reason)
    s.trimRecords reason r ls

/-- The drop-ring trims of every reader of a broadcast wavelength, measured with it: free values (R383). -/
def State.dropTrims (s : State) (j : Nat) : List (Nat × Nat) → State
  | [] => s
  | (q, i) :: ps => (s.drawn.setTbl (tblKey 4 q 1 (1044 + 16 * i + j)) (BitVec.ofNat 32 (s.free % 256))).dropTrims j ps

/-- Delay trims of every sum lane, as measured: free values (R385). -/
def State.delayTrims (s : State) : List Nat → State
  | [] => s
  | k :: ks => (s.drawn.setTbl k (setFld (s.tblWord k) 7 0 s.free)).delayTrims ks

/-- The keys of the sum delay trims (R389). -/
def delayKeys : List Nat :=
  ((List.range 16).map (fun p => ((List.range 576).filter (fun i => i % 16 != p)).map (fun i => tblKey 4 p 4 i))).flatten

/-- Lock thresholds of elements, as measured: free values (R385). -/
def State.lockThresholds (s : State) : List Nat → State
  | [] => s
  | e :: es => ({ s.drawn with light := { s.light with thresh := s.light.thresh.set 0 e s.free } } : State).lockThresholds es

/-- The values an accepted request puts into force (R384, R385). -/
def State.calValues (s : State) (v : Word) (r : LaneMeas) : State :=
  match fld v 30 28 with
  | 0 =>
    let m := calMove v true
    let s := s.setTbl (tblKey 4 m.src 1 m.ring) (BitVec.ofNat 32 (intWord r.heater).toNat &&& 0xFF)
    if m.cls = 3 then s.dropTrims m.lane (s.readPlaces m.src) else s
  | 1 => s.delayTrims delayKeys
  | _ => s.lockThresholds (List.range 900)

/-- The end of the request held: accepted with its measurement (`reason` 0), or rejected; a lane that was moved returns, and the outcome
is recorded and counted (R383, R384). -/
def State.calEnd (s : State) (reason : Nat) (r : LaneMeas) : State :=
  match s.light.req with
  | none => s
  | some v =>
    let stage := fld (s.reg Reg.CAL_STATUS) 30 28
    let m := calMove v true
    let s := if fld v 30 28 = 0 then
        let s := if stage ≥ 2 then s.applyMove m else s
        s.trimRecords reason r (s.movedLanes m)
      else s
    let s := if reason = 0 then s.calValues v r else s
    let s := s.setReg Reg.CAL_STATUS (if reason = 0 then 0x08000000 else BitVec.ofNat 32 (0x04000000 + reason * 2 ^ 16))
    let s := (if reason = 0 then s.bumpReg Reg.CAL_COUNTS 15 0 else s.bumpReg Reg.CAL_COUNTS 31 16).clearReg Reg.CAL_REQ 0x80000000
    { s with
      light := { s.light with req := none, first := none, repeated := false, result := none }
      hearth := { s.hearth with moves := s.hearth.moves.filter (fun x => x.why != 1) } }

/-- A request aborted (R387). -/
def State.calAbort (s : State) (reason : Nat) : State := s.calEnd reason ⟨0, 0, 0, 0⟩

/-- A failing lane takes its spare position; the lane it finds there, if any, returns to its flue, and a calibration of that lane
ends rejected (R185, R387). -/
def State.takeSpare (s : State) (m : LaneMove) : State :=
  let c := s.sparePlace m.src m.dst
  let s := if m.cls = 3 ∨ c = 0 then s
    else
      let h := holderOf m.src m.dst c
      match s.light.req with
      | some v =>
        if fld v 30 28 = 0 ∧ (calMove v false).code = c ∧ (calMove v false).src = m.src ∧ (calMove v false).dst = m.dst then s.calAbort 6
        else s.laneChange h 0
      | none => s.laneChange h 0
  s.applyMove m

/-- A move due now. -/
def State.doMove (s : State) (m : LaneMove) : State := if m.why = 2 then s.takeSpare m else s.applyMove m

/-- Moves in order. -/
def State.doMoves (s : State) : List LaneMove → State
  | [] => s
  | m :: ms => (s.doMove m).doMoves ms

/-- The lanes as they will stand once the moves that wait for the guard have been made. -/
def State.lanesAhead (s : State) : State := ({ s with hearth := { s.hearth with moves := [] } } : State).doMoves s.hearth.moves

/-- Whether a broadcast flue has fewer than 15 wavelengths in service (R178, R183). -/
def State.flueShort (s : State) (p : Nat) : Bool := decide (((List.range 16).filter (s.waveActive p)).length < 15)

/-- A move at the next guard while ticks run, at once otherwise (R184, R185). -/
def State.schedule (s : State) (m : LaneMove) : State :=
  if s.ticking then { s with hearth := { s.hearth with moves := s.hearth.moves ++ [m] } } else s.doMove m

/-! ### The Bellows -/

/-- The bank and the position that feed the transmitters of a Hearth port (R367). -/
def feedOf (p : Nat) : Nat × Nat := if p < 32 then (p % 16 / 8, p % 8 / 2) else ((p - 32) / 2, 4)

/-- State of a bank's spare in BLW_STATUS: 0 cold, 1 starting, 2 locked, 3 in service, 4 failed. -/
def State.spareState (s : State) (b : Nat) : Nat := fld (s.reg Reg.BLW_STATUS) (7 + 8 * b) (5 + 8 * b)
/-- The position a bank's spare serves or is committed to. -/
def State.sparePos (s : State) (b : Nat) : Nat := fld (s.reg Reg.BLW_STATUS) (4 + 8 * b) (2 + 8 * b)
/-- The state with a bank's spare state and position. -/
def State.setSpareState (s : State) (b st k : Nat) : State :=
  (s.setRegFld Reg.BLW_STATUS (7 + 8 * b) (5 + 8 * b) st).setRegFld Reg.BLW_STATUS (4 + 8 * b) (2 + 8 * b) k
/-- A comb's state. -/
def State.comb (s : State) (c : Nat) : Nat := fld (s.reg (Reg.BLW_COMB c)) 31 29
/-- The comb whose light a port's transmitters have: the bank's spare while it serves the position, else the position's own (R367). -/
def State.feeder (s : State) (p : Nat) : Nat :=
  let f := feedOf p
  if s.spareState f.1 = 3 ∧ s.sparePos f.1 = f.2 then 6 * f.1 + 5 else 6 * f.1 + f.2

/-- Whether a port's transmitters have light: the comb that feeds them is active (R366, R367). -/
def State.lit (s : State) (p : Nat) : Bool := s.comb (s.feeder p) == 3

/-- The state with a comb's state and position served. -/
def State.setComb (s : State) (c st pos : Nat) : State :=
  (s.setRegFld (Reg.BLW_COMB c) 31 29 st).setRegFld (Reg.BLW_COMB c) 28 26 pos

/-- The end of a Bellows command (R388). -/
def State.blwEnd (s : State) (reason : Nat) : State :=
  (s.setReg Reg.BLW_CMD_STATUS (if reason = 0 then 0x40000000 else BitVec.ofNat 32 (0x20000000 + reason * 2 ^ 16))).clearReg Reg.BLW_CMD 0x80000000

/-- A Bellows event: its sticky bit, and the FAULT event that names the comb (R303, BLW_EVENTS). -/
def State.blwEvent (s : State) (comb bit : Nat) : State := (s.orReg Reg.BLW_EVENTS (BitVec.ofNat 32 (2 ^ bit))).faultEvent 9 comb bit false

/-- The bank's spare started for a position (R369). -/
def State.startSpare (s : State) (b k : Nat) : State :=
  ((s.setSpareState b 1 k).setComb (6 * b + 5) 1 7).blwEvent (6 * b + 5) 1

/-- A feed ramp starts: kind 1 to the spare, 2 back (R370, R374). It meets a measurement under way (R387). -/
def State.startRamp (s : State) (b kind : Nat) : State :=
  { s with light := { s.light with ramp := s.light.ramp.set 0 b kind, met := s.light.met.set false b true } }

/-- A measurement begins: a ramp under way already meets it (R383, R387). -/
def State.newMeasure (s : State) : State :=
  let on := fun b => s.light.ramp.get 0 b != 0
  { s with light := { s.light with met := (s.light.met.set false 0 (on 0)).set false 1 (on 1) } }

/-- Whether a locked spare may take over (R370, BLW_CTRL.auto_en, BLW_CMD action 3). -/
def State.handoverDue (s : State) (b : Nat) : Bool :=
  s.spareState b == 2 && s.light.ramp.get 0 b == 0 && (flag (s.reg Reg.BLW_CTRL) 0 || s.light.armed.get false b)

/-- Takeovers due, by bank. -/
def State.handovers (s : State) : List Nat → State
  | [] => s
  | b :: bs => (if s.handoverDue b then s.startRamp b 1 else s).handovers bs

/-! ### What waits for a guard -/

/-- What a guard-start event carries out, or at once the end of Running and Draining: the return of a calibrated lane, lane moves,
takeovers by locked spares (R184, R370, R383, R387). -/
def State.upkeepNow (s : State) : State :=
  let s := if fld (s.reg Reg.CAL_STATUS) 30 28 = 4 then
      match s.light.result with
      | some (reason, r) => s.calEnd reason r
      | none => s
    else s
  let ms := s.hearth.moves
  let s := ({ s with hearth := { s.hearth with moves := [] } } : State).doMoves ms
  let s := if fld (s.reg Reg.CAL_STATUS) 30 28 = 1 then (s.setRegFld Reg.CAL_STATUS 30 28 2).newMeasure else s
  s.handovers [0, 1]

/-! ### Requests of HRT_LANE_SWAP (R184, R185) -/

/-- The move a request word names. -/
def swapMove (v : Word) : LaneMove :=
  { why := 0, cls := fld v 29 28, flue := fld v 27 24, src := fld v 23 18, dst := fld v 17 12, lane := fld v 6 0, back := flag v 30 }

/-- Whether the ports of a move are an ordered pair of the class. -/
def LaneMove.pairOk (m : LaneMove) : Bool :=
  match m.cls with
  | 0 => decide (m.src < 36 ∧ m.dst < 36 ∧ m.src ≠ m.dst ∧ m.flue < 8)
  | 1 => decide (m.src < 32 ∧ m.dst < 32) && (m.dst == m.src + 16 || m.src == m.dst + 16)
  | 2 => decide (m.flue < 8)
  | _ => false

/-- Why a request is refused: 0 where it is taken (R184, HRT_SWAP_STATUS.reason); lanes and positions count as the moves that wait for the guard leave them. -/
def State.swapReason (s : State) (m : LaneMove) : Nat :=
  let t := s.lanesAhead
  let moved := flag (t.reg Reg.HRT_STATUS) 27
  if flag (s.reg Reg.HRT_SWAP_STATUS) 31 then 1
  else if !m.pairOk then 4
  else if m.cls = 2 then
    if m.back then (if moved && fld (t.reg Reg.HRT_STATUS) 26 24 == m.flue then 0 else 4)
    else if moved then 3 else if t.hearth.spare.isEmpty then 0 else 2
  else if m.back then
    if t.sparePlace m.src m.dst = m.code ∧ (t.movedLanes m).all (fun q => t.laneState q.1 q.2 == 1) then 0 else 4
  else if moved then 3
  else if t.sparePlace m.src m.dst ≠ 0 then 2
  else if (t.movedLanes m).all (fun q => t.laneState q.1 q.2 == 0) then 0 else 4

/-- A request written to HRT_LANE_SWAP with go: refused with its reason, or taken at the next guard while ticks run and at once
otherwise (R184, R185). -/
def State.laneSwap (s : State) : State :=
  let m := swapMove (s.reg Reg.HRT_LANE_SWAP)
  let r := s.swapReason m
  if r = 1 then s.setReg Reg.HRT_SWAP_STATUS (s.reg Reg.HRT_SWAP_STATUS ||| 0x20010000)
  else if r ≠ 0 then (s.setReg Reg.HRT_SWAP_STATUS (BitVec.ofNat 32 (0x20000000 + r * 2 ^ 16))).clearReg Reg.HRT_LANE_SWAP 0x80000000
  else (s.setReg Reg.HRT_SWAP_STATUS 0x80000000).schedule m

/-! ### Requests of CAL_REQ (R382, R383) -/

/-- Whether a kind may run in the module's state (R382). -/
def State.calLegal (s : State) (kind : Nat) : Bool :=
  match kind with
  | 0 => s.mode == .ready || s.mode == .loaded || s.mode == .running || s.mode == .draining || s.mode == .faulted
  | 1 | 2 => s.mode == .ready || s.mode == .loaded || s.mode == .faulted
  | _ => false

/-- Why a request is refused: 0 where it is taken (R382, R383). -/
def State.calReason (s : State) (v : Word) : Nat :=
  let m := calMove v false
  let t := s.lanesAhead
  if s.light.req.isSome then 1
  else if !(s.calLegal (fld v 30 28)) then 9
  else if fld v 30 28 ≠ 0 then 0
  else if fld v 27 26 = 3 || !(if m.cls = 3 then decide (m.src < 36 ∧ m.lane < 16) else m.pairOk) then 3
  else if !((t.movedLanes m).all (fun q => t.laneState q.1 q.2 == 0)) then 3
  else if flag (t.reg Reg.HRT_STATUS) 27 || (m.cls != 3 && t.sparePlace m.src m.dst != 0) then 2
  else 0

/-- A request written to CAL_REQ with go (R382, R383): refused and counted, or held; a data lane moves at the next guard while ticks run
and at once otherwise. -/
def State.calStart (s : State) : State :=
  let v := s.reg Reg.CAL_REQ
  let r := s.calReason v
  if r = 1 then (s.setReg Reg.CAL_STATUS (setFld (s.reg Reg.CAL_STATUS ||| 0x04000000) 23 16 1)).bumpReg Reg.CAL_COUNTS 31 16
  else if r ≠ 0 then
    ((s.setReg Reg.CAL_STATUS (BitVec.ofNat 32 (0x04000000 + r * 2 ^ 16))).bumpReg Reg.CAL_COUNTS 31 16).clearReg Reg.CAL_REQ 0x80000000
  else
    let s := { s with light := { s.light with req := some v, first := none, repeated := false, result := none } }
    if fld v 30 28 = 0 then
      (s.setReg Reg.CAL_STATUS (if s.ticking then 0x90000000 else 0xA0000000)).newMeasure.schedule (calMove v false)
    else (s.setReg Reg.CAL_STATUS 0xA0000000).newMeasure

/-! ### Commands of BLW_CMD (R374, R388) -/

/-- Why a command is refused: 0 where it is taken (R374, R388, BLW_CMD_STATUS.reason). -/
def State.blwReason (s : State) (action b k : Nat) : Nat :=
  let st := s.spareState b
  let mine := s.sparePos b == k
  if flag (s.reg Reg.BLW_CMD_STATUS) 31 then 1
  else if action ≤ 1 && !(s.mode == .ready || s.mode == .loaded) then 2
  else if action = 0 then 0
  else if k > 4 ∨ action > 3 then 4
  else if action = 1 then
    if st = 1 ∨ st = 2 then 3
    else if st = 3 && mine && s.comb (6 * b + k) == 4 then 0 else 4
  else if action = 2 then
    if st ≠ 0 then 3 else if s.comb (6 * b + k) = 3 then 0 else 4
  else if st = 2 && mine && s.light.ramp.get 0 b == 0 then 0
  else if st = 1 && mine then 4 else 3

/-- Every active comb takes its present level as its reference (R368, BLW_CMD action 0). -/
def State.reReferenceAll (s : State) : List Nat → State
  | [] => s
  | c :: cs =>
    let pos := fld (s.reg (Reg.BLW_COMB c)) 28 26
    let ref := Reg.BLW_REF (if c % 6 = 5 ∧ pos ≤ 4 then c / 6 * 6 + pos else c)
    (if s.comb c = 3 then (s.setRegFld ref 15 0 (fld (s.reg ref) 15 0 + fld (s.reg (Reg.BLW_COMB c)) 15 0)).setRegFld (Reg.BLW_COMB c) 15 0 0
     else s).reReferenceAll cs

/-- A command written to BLW_CMD with go (R374, R388). -/
def State.blwStart (s : State) : State :=
  let v := s.reg Reg.BLW_CMD
  let a := fld v 30 28
  let b := fld v 23 23
  let k := fld v 22 20
  let r := s.blwReason a b k
  if r = 1 then s.setReg Reg.BLW_CMD_STATUS (setFld (s.reg Reg.BLW_CMD_STATUS ||| 0x20000000) 23 16 1)
  else if r ≠ 0 then s.blwEnd r
  else if a = 0 then (s.reReferenceAll (List.range 12)).blwEnd 0
  else if a = 1 then
    let s := (s.setReg Reg.BLW_CMD_STATUS 0x80000000).setRegFld (Reg.BLW_COMB (6 * b + k)) 31 29 1
    { s with light := { s.light with returning := s.light.returning.set 0 b (k + 1) } }
  else if a = 2 then (s.startSpare b k).blwEnd 0
  else
    let s := s.setReg Reg.BLW_CMD_STATUS 0x80000000
    let s := { s with light := { s.light with armed := s.light.armed.set false b true } }
    if s.ticking then s else s.startRamp b 1

end Sys2Proof.Machine
end

