-- ==== Sys2Proof/Machine/JobOps.lean ====
section
/-! DEFINITION. What chapters 08, 13 and 16 share: adoption of shadows (R148, R153, R173, R195), publication and the outcome of a
tick (R17, R312, R339), changes of module state, and teardown (R349). -/

namespace Sys2Proof.Machine

/-! ### Adoption -/

/-- `dst` with its keys from `lo` to below `hi` taken from `src`. -/
def SMap.splice {α : Type} (lo hi : Nat) (src dst : SMap α) : SMap α :=
  dst.keep (fun k => decide (k < lo)) ++ src.keep (fun k => decide (lo ≤ k ∧ k < hi)) ++ dst.keep (fun k => decide (hi ≤ k))

/-- Whether a row map is valid: 48 distinct columns from 0 to 49, none fenced (R127). -/
def rowMapValid (get : Nat → Word) (die row : Nat) : Bool :=
  let cs := (List.range 48).map (rowMapIn get die row)
  cs.all (fun c => decide (c ≤ 49) && !(fenceHas (get (Reg.TIL_FENCE die row)) c)) && decide cs.Nodup

/-- Whether every shadow row map of a die is valid. -/
def State.shadowMapsOk (s : State) (die : Nat) : Bool := (List.range 64).all (rowMapValid s.shadow die)

/-- A die takes all its shadows: die fence, row maps, fences, and the group, reduction and slot tables (R148). -/
def State.takeMesh (s : State) (die : Nat) : State :=
  let s := { s with
    regs := SMap.splice (Reg.TIL_DIE_FENCE die) (Reg.TIL_DIE_FENCE die + 1) s.shadowRegs
      (SMap.splice (Reg.MSH_ROW_MAP die 0 0) (Reg.TIL_FENCE die 64) s.shadowRegs s.regs)
    tbl := SMap.splice (tblKey 0 (posKey die 0 0) 0 0) (tblKey 0 (posKey (die + 1) 0 0) 0 0) s.tblShadow s.tbl }
  s.clearReg (Reg.MSH_SHADOW die) 1

/-- Adoption by a die whose shadows are marked ready; invalid row maps adopt nothing, record error 0x06 and leave ready set (R153). DESIGN CHOICE: error 0x06,
for which R153 names no router, records row 0, physical column 0, port 0 (log 128). -/
def State.adoptMesh (s : State) (die : Nat) : State :=
  if flag (s.reg (Reg.MSH_SHADOW die)) 0 then
    if s.shadowMapsOk die then s.takeMesh die else s.meshError (posKey die 0 0) 0 0 0x06 0
  else s

/-- Ember-sum entries as words read by `get`: send entry words 0 and 1, receive entry words 0 to 2 (R193, R194). -/
def emberSend (get : Nat → Word) (p g w : Nat) : Word := get (tblKey 2 p 0 (2 * g + w))
/-- A receive entry word. -/
def emberRecv (get : Nat → Word) (p r w : Nat) : Word := get (tblKey 2 p 1 (4 * r + w))

/-- The bits set in a mask of 16. -/
def bits16 (m : Nat) : List Nat := (List.range 16).filter (fun i => m / 2 ^ i % 2 == 1)

/-- The checks of R195 on every port's entries; `bay` maps a logical bay to its port. -/
def emberSetOk (get : Nat → Word) (bay : Nat → Nat) : Bool :=
  (List.range 16).all (fun b =>
    let p := bay b
    let sends := (List.range 16).filter (fun g => flag (emberSend get p g 0) 31)
    let recvs := (List.range 36).filter (fun r => flag (emberRecv get p r 0) 31)
    let dets := fun r => (fld (emberRecv get p r 2) 31 26, fld (emberRecv get p r 2) 25 20)
    sends.all (fun g =>
      let w0 := emberSend get p g 0
      let q := bay (fld w0 27 24)
      let r := fld w0 23 18
      let len := fld (emberSend get p g 1) 14 0
      decide (r < 36) && flag (emberRecv get q r 0) 31 && flag (emberRecv get q r 0) (12 + b) && fld w0 17 12 == fld (emberRecv get q r 2) 31 26 &&
        fld w0 11 6 == fld (emberRecv get q r 2) 25 20 && len == fld (emberRecv get q r 2) 14 0 && decide (1 ≤ fld w0 11 6) &&
        decide (fld w0 17 12 + fld w0 11 6 ≤ 36) && decide (1 ≤ len ∧ len ≤ 16384)) &&
    recvs.all (fun r =>
      let w0 := emberRecv get p r 0
      let w1 := emberRecv get p r 1
      let who := bits16 (fld w0 27 12)
      fld w0 30 28 == who.length && decide (1 ≤ who.length ∧ who.length ≤ 4) && !(who.contains b) &&
        who.all (fun c => (List.range 16).any (fun g =>
          let v := emberSend get (bay c) g 0
          flag v 31 && fld v 27 24 == b && fld v 23 18 == r)) &&
        decide (1 ≤ (dets r).2 ∧ (dets r).1 + (dets r).2 ≤ 36) && decide (fld w1 19 0 + 4 * fld (emberRecv get p r 2) 14 0 ≤ 0x100000) &&
        fld w1 6 0 == 0 && recvs.all (fun q => q == r || !(overlap (dets r).1 (dets r).2 (dets q).1 (dets q).2))) &&
    (sends.isEmpty || (flag (get (tblKey 1 p 0 37)) 31 && !(flag (get (tblKey 1 p 0 37)) 30))) &&
    (List.range (fld (get (tblKey 1 p 0 37)) 26 16)).all (fun i =>
      (get (tblKey 1 p 1 (2 * (fld (get (tblKey 1 p 0 37)) 10 0 + i)))).toNat % 16 == 8))

/-- The logical bay map in a pair of words (R365). -/
def bayIn (get : Nat → Word) (k : Nat) : Nat :=
  fld (get (if k < 8 then Reg.HRT_BAY_MAP_0 else Reg.HRT_BAY_MAP_1)) (4 * (k % 8) + 3) (4 * (k % 8))

/-- Whether the pair of bay-map words is a permutation (R365). -/
def bayMapOk (get : Nat → Word) : Bool := decide ((List.range 16).map (bayIn get)).Nodup

/-- The ranges of shadowed port tables: transmit groups, windows and reception of every port; send and receive entries. -/
def hearthRanges : List (Nat × Nat) :=
  (List.range 36).map (fun p => (tblKey 1 p 0 0, tblKey 1 p 3 0)) ++ (List.range 16).map (fun p => (tblKey 2 p 0 0, tblKey 2 p 2 0))

/-- Ranges taken from one store into another. -/
def spliceAll {α : Type} (src : SMap α) : List (Nat × Nat) → SMap α → SMap α
  | [], m => m
  | (lo, hi) :: rs, m => spliceAll src rs (SMap.splice lo hi src m)

/-- Every port takes its shadows, the bay map with them (R173, R365). -/
def State.takeHearth (s : State) : State :=
  let s := { s with regs := SMap.splice Reg.HRT_BAY_MAP_0 (Reg.HRT_BAY_MAP_1 + 1) s.shadowRegs s.regs
                    tbl := spliceAll s.tblShadow hearthRanges s.tbl }
  s.clearReg Reg.HRT_SHADOW 1

/-- Ember-sum error 0x01: the entry set fails R195, and every tick is abandoned until a set that passes is adopted. -/
def State.emberSetFails (s : State) : State :=
  { s.emberError 0 0 0x3F 0 0x01 with hearth := { (s.emberError 0 0 0x3F 0 0x01).hearth with setBad := true } }

/-- The state with the entry set in force good. -/
def State.emberSetPasses (s : State) : State := { s with hearth := { s.hearth with setBad := false } }

/-- Adoption of the Hearth and ember-sum shadows where they are marked ready; a set that fails R195 adopts nothing. With none ready, the set in force is
checked at the `first` beacon of a run or of a degraded image, and a set found bad goes on abandoning ticks (R195). -/
def State.adoptHearth (s : State) (first : Bool) : State :=
  if flag (s.reg Reg.HRT_SHADOW) 0 then
    if emberSetOk s.tblShadowWord (bayIn s.shadow) then s.takeHearth.emberSetPasses.pumpAll else s.emberSetFails
  else if first then (if emberSetOk s.tblWord s.bayDie then s.emberSetPasses else s.emberSetFails)
  else if s.hearth.setBad then s.charge
  else s

/-- Whether a receive entry of a port names the path of a detector and a contributing port (R194, R205). -/
def State.pathInUse (s : State) (p det c : Nat) : Bool :=
  (List.range 36).any (fun r =>
    let w0 := emberRecv s.tblWord p r 0
    let w2 := emberRecv s.tblWord p r 2
    flag w0 31 && ((bits16 (fld w0 27 12)).map s.bayDie).contains c && decide (fld w2 31 26 ≤ det ∧ det < fld w2 31 26 + fld w2 25 20))

/-- Whether an entry in force names a path that has failed: a Hearth-plane loss (R205). -/
def State.failedPathUsed (s : State) : Bool :=
  (List.range 16).any (fun p => s.tbl.any (fun kw =>
    let i := kw.1 - tblKey 2 p 2 0
    decide (tblKey 2 p 2 0 ≤ kw.1) && decide (i < 576) && flag kw.2 30 && s.pathInUse p (i / 16) (i % 16)))

/-- Every die and every port adopts. -/
def State.adoptDies (s : State) : List Nat → State
  | [] => s
  | d :: ds => (s.adoptMesh d).adoptDies ds

/-- Adoption by the whole module. -/
def State.adoptAll (s : State) (first : Bool) : State := (s.adoptDies (List.range 16)).adoptHearth first

/-! ### Publication and the outcome of a tick -/

/-- The header of a slot (R248): tick, bytes, status or ready, and zero to byte 127. -/
def slotHeader (n bytes status : Nat) : List Byte := leBytes 8 n ++ leBytes 4 bytes ++ leBytes 4 status ++ List.replicate 112 0

/-- The data of a skipped slot reads as zeros (R250). -/
def State.blankSlot (s : State) (m : Nat) (r : RingInfo) (k : Nat) : State :=
  let a := r.slotAt k + 128
  let x := s.stack m
  s.setStack m { x with dram := SMap.keep (α := Byte) (fun i => !(decide (a ≤ i ∧ i < a + r.len))) x.dram }

/-- Output slots of the current tick with their status: committed with the declared length, or skipped with their data reading as
zeros (R250, R312). -/
def State.publishRings (s : State) (m : Nat) (commit : Bool) : List RingInfo → State
  | [] => s
  | r :: rs =>
    let s := if !r.output then s
      else
        let k := s.currentSlot r
        let s := if commit then s else s.blankSlot m r k
        let s := s.memHeader m (r.slotAt k + 8) (leBytes 4 (if commit then r.word3 else 0) ++ leBytes 4 (if commit then 1 else 2))
        s.setRingStatus m r.index (setFld (s.ringStatus m r.index) 27 26 (if commit then 1 else 2))
    s.publishRings m commit rs

/-- Publication by stacks. -/
def State.publish (s : State) (commit : Bool) : List Nat → State
  | [] => s
  | m :: ms => (s.publishRings m commit (s.rings m)).publish commit ms

/-- The TICK event (R302): outcome 0 committed, 1 abandoned, 2 overrun, with its causes. -/
def State.tickEvent (s : State) (commit : Bool) : State :=
  let t := s.tick
  let outcome := if commit then 0 else if t.overrun then 2 else 1
  let causes := if commit then 0
    else (if t.late then 1 else 0) + (if t.overrun then 2 else 0) + (if t.charged || t.abandonBeacon || t.cause = 5 || (2 ≤ t.cause && t.cause ≤ 4) then 4 else 0) +
      (if t.recovery && !t.charged && !t.late && !t.overrun then 8 else 0)
  s.event 0 0x8001 (leBytes 8 s.seq ++ [BitVec.ofNat 8 outcome, BitVec.ofNat 8 causes, 0, 0] ++ leBytes 4 (s.reg Reg.TCK_EPOCH).toNat)

/-- A checkpoint interval of the image in use (R350). -/
def State.checkpointK (s : State) : Nat := s.img s.imageInUse 0x02C 4

/-- The bookkeeping of checkpoints at a tick's outcome (R350, R358): a committed checkpoint tick starts its snapshot at the next
beacon, an abandoned one makes the next committed tick due; a yield drains the module. -/
def State.checkpointDue (s : State) (commit : Bool) : State :=
  let k := s.checkpointK
  let r := s.recovery
  let due := k != 0 && (s.seq % k == 0 || r.ckptDue)
  if !due then s
  else if commit then
    let s := { s with recovery := { r with ckptDue := false, ckptStart := true, ckptTick := s.seq, ckptEpoch := s.reg Reg.TCK_EPOCH } }
    if flag (s.reg Reg.TCK_ROLE) 29 && s.mode == .running && !s.recovery.takeover then
      { s with recovery := { s.recovery with yielding := true } }.enter .draining 0
    else s
  else { s with recovery := { r with ckptDue := true } }

/-- The tick resolved by a decision (R17, R312, R339): on commit the epoch rises, TCK_LAST_COMMIT takes the tick and output slots
are published; else they are published as skipped; TCK_COMMIT_STATUS takes the outcome and its cause; the TICK event follows. -/
def State.resolve (s : State) (commit : Bool) (cause : Nat) : State :=
  if s.tick.resolved || !s.tick.isOpen then s
  else
    let s := { s with tick := { s.tick with resolved := true, decision := some commit, cause := (if commit then 0 else cause) } }
    let s := if commit then
        (s.setReg Reg.TCK_EPOCH (s.reg Reg.TCK_EPOCH + 1)).setReg64 Reg.TCK_LAST_COMMIT_LO Reg.TCK_LAST_COMMIT_HI s.seq
      else s
    let s := if s.tick.verdict.isNone && !commit then s.bumpReg Reg.TCK_COUNTS 15 0 else s
    let s := s.publish commit (List.range 16)
    let s := if s.tick.voteSent then s else s.setRegFld Reg.TCK_COMMIT_STATUS 29 16 0
    let s := s.setReg Reg.TCK_COMMIT_STATUS (setFld (setFld (s.reg Reg.TCK_COMMIT_STATUS) 31 30 (if commit then 1 else 2)) 15 8
      (if commit then 0 else cause))
    (s.tickEvent commit).checkpointDue commit

/-! ### States of the module -/

/-- Queue pairs left open: staging pairs close on leaving Ready, rings pairs on entering Ready or Faulted (R307). -/
def keepQp (old new : ModState) (q : Qp) : Bool :=
  !((q.kind == 1 && old == .ready && new != .ready) || (q.kind == 0 && (new == .ready || new == .faulted)))

/-- The reference taken back where it has returned and CLK_CTRL.ret_en is 1 (R222). -/
def State.takeReference (s : State) : State :=
  if fld (s.reg Reg.CLK_STATUS) 31 30 = 2 && flag (s.reg Reg.CLK_STATUS) 28 && flag (s.reg Reg.CLK_CTRL) 0 then
    (s.setRegFld Reg.CLK_STATUS 31 30 0).orReg Reg.CLK_EVENTS 2
  else s

/-- An outbound message that the former Stoker had opened and not rung is discarded and counted (R320). -/
def State.dropOpen (s : State) : List Nat → State
  | [] => s
  | c :: cs =>
    let x := s.mailbox.get MbxChan.reset c
    let s := if x.outQ.writer.isSome then
        ({ s with mailbox := s.mailbox.set MbxChan.reset c { x with outQ := { x.outQ with writer := none, words := [] } } } : State).bumpReg
          (Reg.MBX_COUNT c) 15 0
      else s
    s.dropOpen cs

/-- The channels of the active Stoker (R315). -/
def stokerChannels : List Nat := (List.range 10).map (· + 16)

/-- A change of module state: its event, queue pairs closed, TCK_STATUS.ticking; on leaving Running and Draining, what waited for a guard: upkeep, and the
way back to the reference (R20, R184, R222, R302, R307, R387). -/
def State.go (s : State) (m : ModState) (cause : Nat) : State :=
  let qs := s.qps.filter (keepQp s.mode m)
  let s := { s with qps := qs }
  if m == .running || m == .draining then s.enter m cause
  else
    let t := s.ticking
    let s := (s.setRegFld Reg.TCK_STATUS 27 27 0).enter m cause
    if t then s.upkeepNow.takeReference else s

/-- Every thread of a tile stopped and released from what it waited for (R349). -/
def Tile.release (t : Tile) : Tile :=
  { t with threads := t.threads.mapSet Thread.reset (fun _ x => { x with state := .idle, wait := .none, remote := none }), sendB := [], sendL := [] }

/-- A snapshot in progress, or its transfer, ends with its slot discarded (R352, R363). -/
def State.dropSnapshot (s : State) : State :=
  if s.recovery.ckptRunning || s.recovery.transfer.isSome then
    { s.setReg Reg.TCK_CKPT_STATUS (setFlag (setFld (s.reg Reg.TCK_CKPT_STATUS) 31 30 0) 28 true) with
      recovery := { s.recovery with ckptRunning := false, ckptLeft := [], transfer := none } }
  else s

/-- Teardown (R349): in Running or Draining, the tick is abandoned and published as skipped, tiles are held and parked threads
released, a snapshot in progress is discarded, and the module enters Faulted with a STATE event of cause 1. -/
def State.teardown (s : State) : State :=
  if !s.ticking then s
  else
    let s := ({ s with tick := { s.tick with charged := true } } : State).resolve false 1
    let s := s.orReg Reg.TCK_RCV_EVENTS 0x20
    let s := s.dropSnapshot
    let r := s.recovery
    let s := { s with
      tiles := s.tiles.mapSet Tile.reset (fun _ t => t.release)
      recovery := { r with pendingFences := [], fenceBuffer := [], loading := [], takeover := false, ckptDue := false,
                           ckptStart := false, yielding := false, dieReports := [], prepared := [], stackLost := false }
      tick := { s.tick with isOpen := false } }
    (s.setRegFld Reg.TCK_RCV_STATUS 31 29 0).go .faulted 1

/-- An uncorrectable line met in the read copy of a carry window is a memory-stack loss (R348). -/
def State.settle (s : State) : State := if s.recovery.stackLost then s.teardown else s

/-- A Hearth-plane loss is a teardown condition (R183, R348). -/
def State.planeLoss (s : State) : State := s.teardown

end Sys2Proof.Machine
end

