-- ==== Sys2Proof/Machine/MemStack.lean ====
section
/-! DEFINITION. Events at a memory stack (chapter 09): the deadlines of input rings, patrol scrub and the atomics of the fabric. -/

namespace Sys2Proof.Machine

/-! ### Input deadlines (R249, R311) -/

/-- The slot header of an input slot holds valid input: ready is 1 and bytes 0 to 7 equal the tick (R249). -/
def inputValid (n : Nat) (header : List Byte) : Bool := leNat ((header.drop 12).take 4) == 1 && leNat (header.take 8) == n

/-- An input ring locks its slot of the current tick: valid; or not valid, which makes a required stream's tick late and marks an optional
stream's slot missing (R249, R311). -/
def State.lockRing (s : State) (m : Nat) (r : RingInfo) : State :=
  let a := r.slotAt (s.currentSlot r)
  let (ans, s) := s.memRead m a 16 ⟨16 + m, false⟩
  let ok := match ans with
    | .data bs bad => !bad && inputValid s.seq bs
    | .refused _ => false
  let s := s.setRingStatus m r.index (setFld (s.ringStatus m r.index) 27 26 (if ok then 1 else 2))
  if ok then s
  else if r.required then { s with tick := { s.tick with late := true } }
  else s.memHeader m a ((slotHeader s.seq 0 2).take 16)

/-- Whether an input ring is still filling its slot of the current tick. -/
def State.ringFilling (s : State) (m : Nat) (r : RingInfo) : Bool := !r.output && s.ringState m r.index == 0

/-- The input rings of a stack that `due` picks lock. -/
def State.lockRings (s : State) (m : Nat) (due : RingInfo → Bool) : List RingInfo → State
  | [] => s
  | r :: rs => (if s.ringFilling m r && due r then s.lockRing m r else s).lockRings m due rs

/-- The input rings of every stack that `due` picks lock. -/
def State.lockAll (s : State) (due : RingInfo → Bool) : List Nat → State
  | [] => s
  | m :: ms => (s.lockRings m due (s.rings m)).lockAll due ms

/-- INPUT_DEADLINE: the Hearth cycle of a ring's deadline (R249): its slot locks. A deadline of 0 has locked at the beacon; one at or beyond the
budget locks at the guard start. -/
def execInputDeadline (stack : Fin 16) (ring : Fin 64) (s : State) : Host.Outcome State Fault Refusal :=
  match s.ring stack ring with
  | none => .next s
  | some r =>
    if s.ticking && s.tick.isOpen && !s.tick.guard && s.ringFilling stack r && decide (r.word3 < s.budget) then
      .next (s.lockRing stack r)
    else .next s

/-! ### Patrol scrub (R236, R238) -/

/-- Whether a line lies in the read copy of a carry window (R244, R348). -/
def State.readCopy (s : State) (m a : Nat) : Bool :=
  (s.memWins m).any (fun w => meets a 64 (if s.tick.parity then w.2.2 else w.1) w.2.1)


/-- PATROL_SCRUB: the scrub reads a line: a single error is corrected, written back and counted; an uncorrectable one is counted and recorded
with port 0x3E and abandons nothing (R236, R238, R251). -/
def execPatrolScrub (stack : Fin 16) (line : Nat) (s : State) : Host.Outcome State Fault Refusal :=
  let m := stack.val
  let st := fld (s.reg (Reg.MEM_STATUS m)) 31 30
  if !(flag (s.reg (Reg.MEM_CTRL m)) 8) || st != 2 || decide (64 * line ≥ 0xC00000000) then .next s
  else
    let s := s.countLines m [line]
    if ((s.stack m).badLines [line]).isEmpty then .next s
    else
      let s := (s.bumpReg (Reg.MEM_ECC_COUNT m) 31 16).memError m 0x3E 0x01 (64 * line) false
      .next (if s.readCopy m (64 * line) then s.teardown else s)

/-! ### Fabric atomics (R252) -/

/-- FABRIC_ATOMIC: the fetching atomic at the head of a stack's queue is performed on its word and answered (R252). -/
def execFabricAtomic (stack : Fin 16) (s : State) : Host.Outcome State Fault Refusal :=
  let x := s.stack stack
  match x.atomics with
  | [] => .next s
  | (io, d) :: rest => .next ((s.setStack stack { x with atomics := rest }).performAtomic stack io d)

end Sys2Proof.Machine
end

