-- ==== Sys2Proof/Machine/MeshOps.lean ====
section
/-! DEFINITION. Packets on the die mesh (chapter 05): heads and sidebands, what links do to them, routes, gateways, ejection. -/

namespace Sys2Proof.Machine

/-! ### Geometry (R125) -/

/-- The neighbour of a position through a port: 1 north, 2 south, 3 east, 4 west (R125). -/
def neighbour (k port : Nat) : Option Nat :=
  match port with
  | 1 => if keyRow k = 0 then none else some (k - 50)
  | 2 => if keyRow k = 63 then none else some (k + 50)
  | 3 => if keyCol k = 49 then none else some (k + 1)
  | 4 => if keyCol k = 0 then none else some (k - 1)
  | _ => none

/-- The port of a neighbour that faces back. -/
def facing (port : Nat) : Nat :=
  match port with
  | 1 => 2 | 2 => 1 | 3 => 4 | 4 => 3 | p => p

/-- The port of the next hop towards a row, none in that row. -/
def towardRow (k r : Nat) : Option Nat := if keyRow k < r then some 2 else if r < keyRow k then some 1 else none

/-- The port of the next hop towards a physical column, none in that column. -/
def towardCol (k c : Nat) : Option Nat := if keyCol k < c then some 3 else if c < keyCol k then some 4 else none

/-! ### Gateways (R152, R166) -/

/-- A number held between two others. -/
def clampNat (lo hi x : Nat) : Nat := max lo (min hi x)

/-- The router of a gateway nearest a row and physical column: gateway `g` of the eight pair gateways or the sixteen lattice gateways (R130, R152). -/
def gatewayRouter (die : Nat) (pair : Bool) (g r c : Nat) : Nat :=
  if pair then posKey die (if g < 4 then 0 else 63) (clampNat (12 * (g % 4) + 4) (12 * (g % 4) + 7) c)
  else posKey die (clampNat (8 * (g % 8)) (8 * (g % 8) + 7) r) (if g < 8 then 0 else 49)

/-- The gateway of a send from row `r` and physical column `c` (R166). -/
def gatewayFrom (pair : Bool) (r c : Nat) : Nat :=
  if pair then min 3 (c / 12) + (if 32 ≤ r then 4 else 0) else r / 8 + (if c < 25 then 0 else 8)

/-- The gateway of a block to row `r` and logical column `l` (R166). -/
def gatewayTo (pair : Bool) (r l : Nat) : Nat :=
  if pair then min 3 (l / 12) + (if 32 ≤ r then 4 else 0) else r / 8 + (if l < 24 then 0 else 8)

/-! ### Heads and sidebands (R133, R134) -/

/-- The number that fields spell, from bit 0 up, each as (width, value). -/
def packFields : List (Nat × Nat) → Nat
  | [] => 0
  | (w, v) :: l => v % 2 ^ w + 2 ^ w * packFields l

/-- A condition as a bit. -/
def bit (b : Bool) : Nat := if b then 1 else 0

/-- The payload flits of a packet. -/
def Flight.flits (f : Flight) : Nat := (f.data.length + 31) / 32

/-- The head flit of a packet, data bits [255:0] (R133). -/
def Flight.head (f : Flight) : Nat :=
  packFields [(64, f.hblk.toNat), (78, 0), (4, f.gw), (2, f.target), (8, f.tick), (7, f.index), (5, f.flits), (20, f.offset), (6, f.colB), (6, f.rowB),
    (6, f.colA), (6, f.rowA), (6, f.srcCol), (6, f.srcRow), (4, f.group), (4, f.ctr), (8, f.weight), (8, f.tag), (2, f.ckind), (1, bit f.gateway),
    (1, bit f.last), (1, bit f.bf16), (1, bit f.red), (2, f.mode)]

/-- The data bits of flit `j` of a packet: its head, or 32 payload bytes (R133). -/
def Flight.flitData (f : Flight) (j : Nat) : Nat := if j = 0 then f.head else leNat ((f.data.drop (32 * (j - 1))).take 32)

/-- The kind of flit `j` (R134). -/
def Flight.flitKind (f : Flight) (j : Nat) : Nat :=
  if f.mode = 3 then 3 else if j = 0 then 1 else if j = f.flits then 2 else 0

/-- The 40-bit sideband of flit `j` (R134). -/
def Flight.sideband (f : Flight) (j : Nat) : Nat :=
  let p := match f.poison with
    | some a => decide (a < 32 * j)
    | none => false
  let d := f.flitData j
  let even := (bit f.loose + f.flitKind j / 2 + f.flitKind j % 2 + bit p) % 2
  packFields ((List.range 4).map (fun q => (8, (Config.secded (BitVec.ofNat 64 (d / 2 ^ (64 * q)))).toNat)) ++
    [(3, 0), (1, even), (1, bit p), (2, f.flitKind j), (1, bit f.loose)])

/-! ### Links (R153) -/

/-- What covers bit `b` of a flit: SECDED byte 0 to 3 of its quarter, 4 the parity of sideband bits [39:35], 5 nothing. -/
def bitCover (b : Nat) : Nat := if b < 256 then b / 64 else if b < 288 then (b - 256) / 8 else if 291 ≤ b ∧ b < 296 then 4 else 5

/-- The bits of flit `j` under one cover that a link turned over. -/
def turned (flips : List (Nat × Nat)) (j c : Nat) : Nat := (flips.eraseDups.filter (fun x => x.1 == j && bitCover x.2 == c)).length

/-- Whether a flit has an uncorrectable error: two or more bits of one quarter and its check byte (DEDUCED: R153 knows single-bit and uncorrectable errors
only). -/
def uncorrectable (flips : List (Nat × Nat)) (j : Nat) : Bool := (List.range 4).any (fun q => decide (2 ≤ turned flips j q))

/-- The single-bit errors corrected in a flit. -/
def correctedIn (flips : List (Nat × Nat)) (j : Nat) : Nat := ((List.range 4).filter (fun q => turned flips j q == 1)).length

/-- What a link's checks find in a packet of `n` payload flits: errors corrected, payload flits that are uncorrectable, and whether the packet is lost to a
head error or a sideband parity error. -/
structure LinkRead where
  corrected : Nat
  bad       : List Nat
  lost      : Bool
deriving DecidableEq, Repr

/-- The checks of a link (R153). -/
def readLink (n : Nat) (flips : List (Nat × Nat)) : LinkRead :=
  let js := List.range (n + 1)
  { corrected := (js.map (correctedIn flips)).foldl (· + ·) 0
    bad := js.filter (fun j => j != 0 && uncorrectable flips j)
    lost := uncorrectable flips 0 || js.any (fun j => turned flips j 4 % 2 == 1) }

/-- A router fault fences its die at the next tick boundary (R153, R343). -/
def State.routerFault (s : State) (d : Nat) : State :=
  if d ∈ s.recovery.dieReports then s else { s with recovery := { s.recovery with dieReports := s.recovery.dieReports ++ [d] } }

/-- An error 0x01 or 0x02 of a link, by the input port it ends at (6: the gateway's end): counted, recorded, and in the third tick in a row with one the
receiving router is at fault (R153, code 0x08). -/
def State.linkError (s : State) (k port vc code : Nat) : State :=
  let shown := min port 5
  let s := (s.bumpReg (Reg.MSH_ERR_COUNT (keyDie k)) 31 16).meshError k shown vc code 0
  let r := s.router k
  let s := s.setRouter k { r with errNow := r.errNow.set false port true }
  if !(r.errNow.get false port) && r.errRun.get 0 port = 2 then (s.meshError k shown vc 0x08 0).routerFault (keyDie k) else s

/-- An error 0x01 for each of some payload flits. -/
def State.payloadErrors (s : State) (k port vc : Nat) : List Nat → State
  | [] => s
  | _ :: js => (s.linkError k port vc 0x01).payloadErrors k port vc js

/-- The lower of two poison marks. -/
def minPoison : Option Nat → Option Nat → Option Nat
  | none, b => b
  | a, none => a
  | some a, some b => some (min a b)

/-- A packet's channel as MSH_ERR_INFO.vc. -/
def Flight.vc (f : Flight) : Nat := if f.loose then 1 else 0

/-- What a link and the router behind it make of a packet: the state after, and the packet as it goes on, none where it is discarded (R153). What a router
whose parity check fails does with the packet is not said: a free value lets it go on or drops it. -/
def State.linkEvent (s : State) (f : Flight) (ev : FlitEvent) : State × Option Flight :=
  let k := f.router
  match ev with
  | .link flips =>
    let r := readLink f.flits flips
    let s := if r.corrected = 0 then s else s.bumpReg (Reg.MSH_ERR_COUNT (keyDie k)) 15 0 r.corrected
    if r.lost then (s.linkError k f.port f.vc 0x02, none)
    else (s.payloadErrors k f.port f.vc r.bad, some { f with poison := minPoison f.poison (r.bad.head?.map (fun j => 32 * (j - 1))) })
  | .headRange => ((s.meshError k (min f.port 5) f.vc 0x03 0).routerFault (keyDie k), none)
  | .routerCheck =>
    let s := (s.meshError k (min f.port 5) f.vc 0x07 0).routerFault (keyDie k)
    (s.drawn, if s.free % 2 = 1 then some f else none)

/-! ### Routes (R129, R130, R139, R140) -/

/-- A group entry of a router (R140). -/
def State.groupEntry (s : State) (k g : Nat) : Word := s.tblWord (tblKey 0 k 1 g)

/-- Whether a group entry is valid: parent values 5, 6 and 0 are not. -/
def groupValid (w : Word) : Bool := flag w 15 && (fld w 13 11 == 1 || fld w 13 11 == 2 || fld w 13 11 == 3 || fld w 13 11 == 4 || fld w 13 11 == 7)

/-- Where a router sends a packet: output ports (6 the gateway), each with the column it turns toward, and whether a copy is ejected. -/
structure Outputs where
  ports : List (Nat × Option Nat)
  eject : Bool
deriving DecidableEq, Repr

/-- Along a row to a physical column, and ejected there (R129). -/
def alongRow (k c : Nat) : Outputs :=
  match towardCol k c with
  | some p => ⟨[(p, some c)], false⟩
  | none => ⟨[], true⟩

/-- A unicast packet to a tile: along the column to its row, whose first router translates the logical column, then along the row (R129). -/
def State.unicastOut (s : State) (f : Flight) : Outputs :=
  let k := f.router
  match f.turned with
  | some c => alongRow k c
  | none =>
    match towardRow k f.rowA with
    | some p => ⟨[(p, none)], false⟩
    | none => alongRow k (s.physCol (keyDie k) f.rowA f.colA)

/-- A packet to a gateway: to a lattice gateway along the column first, to a pair gateway along the row first (R130). -/
def gatewayOut (f : Flight) : Outputs :=
  let k := f.router
  let goal := gatewayRouter (keyDie k) (f.target == 2) f.gw (keyRow k) (keyCol k)
  let rowwise := towardCol k (keyCol goal)
  let colwise := towardRow k (keyRow goal)
  ⟨[(((if f.target = 2 then rowwise.or colwise else colwise.or rowwise).getD 6), none)], false⟩

/-- The physical columns of a row's logical columns from one to another. -/
def State.colsOf (s : State) (die row c0 c1 : Nat) : List Nat :=
  ((List.range 48).filter (fun l => decide (c0 ≤ l ∧ l ≤ c1))).map (s.physCol die row)

/-- A rectangle packet: on along the column to the rows of the rectangle still ahead, a row branch either way in each of its rows, and a copy ejected where
the router's own logical column lies in the range (R139). -/
def State.rectangleOut (s : State) (f : Flight) : Outputs :=
  let k := f.router
  let r := keyRow k
  let inRow := decide (f.rowA ≤ r ∧ r ≤ f.rowB)
  let own := inRow && decide (f.colA ≤ s.logCol k ∧ s.logCol k ≤ f.colB)
  match f.turned with
  | some c => ⟨((towardCol k c).map (fun p => (p, some c))).toList, own⟩
  | none =>
    let cs := s.colsOf (keyDie k) r f.colA f.colB
    let low := cs.foldl min (keyCol k)
    let high := cs.foldl max (keyCol k)
    let north := if f.rowA < r ∧ f.port ≠ 1 then [(1, none)] else []
    let south := if r < f.rowB ∧ f.port ≠ 2 then [(2, none)] else []
    let east := if inRow && decide (keyCol k < high) then [(3, some high)] else []
    let west := if inRow && decide (low < keyCol k) then [(4, some low)] else []
    ⟨north ++ south ++ east ++ west, own⟩

/-- A group packet or a release: the entry of this router (R140, R145); none where it is invalid. -/
def State.groupOut (s : State) (f : Flight) : Option Outputs :=
  let w := s.groupEntry f.router f.group
  if groupValid w then some ⟨([1, 2, 3, 4].filter (flag w)).map (fun p => (p, none)), flag w 0⟩ else none

/-- Where a packet goes from its router; none for a group packet that meets an invalid entry. -/
def State.outputs (s : State) (f : Flight) : Option Outputs :=
  if f.target ≠ 0 then some (gatewayOut f)
  else match f.mode with
    | 0 => some (s.unicastOut f)
    | 1 => some (s.rectangleOut f)
    | _ => s.groupOut f

/-! ### From router to router -/

/-- A router's mark that packets of a channel came to it (1) or through it (2) this tick, for the fields of its map entry that only traffic makes
(R154). -/
def State.traffic (s : State) (k vc level : Nat) : State :=
  let r := s.router k
  if r.map.get 0 (9 + vc) < level then s.setRouter k { r with map := r.map.set 0 (9 + vc) level } else s

/-- Copies of a packet onto the links of its outputs (R129, R140, R141). DESIGN CHOICE: a copy for an edge with no link is dropped. -/
def State.sendOn (s : State) (f : Flight) : List (Nat × Option Nat) → State
  | [] => s
  | (p, c) :: l =>
    if p = 6 then ({ s with flights := s.flights ++ [{ f with port := 6, turned := c }] } : State).sendOn f l
    else match neighbour f.router p with
      | none => s.sendOn f l
      | some n => (({ s with flights := s.flights ++ [{ f with router := n, port := facing p, turned := c }] } : State).traffic n f.vc 1).sendOn f l

/-- The release of a group ejected at a tile: a bound thread waiting in that SYNC goes on (R145); one of another tick does nothing (R95). -/
def State.releaseAt (s : State) (k : Nat) (f : Flight) : State :=
  let x := (s.tile k).thread 0
  match x.wait with
  | .sync g => if g.val = f.group ∧ x.state = .data ∧ f.tick = s.seq % 256 then s.wake k 0 else s
  | _ => s

/-- A packet ejected at its router: its good flits written; the counter rises with the last packet of a message that is whole and of this tick (R82, R85,
R135, R153). -/
def State.eject (s : State) (f : Flight) : State :=
  if f.mode = 3 then s.releaseAt f.router f
  else
    let whole := f.poison.isNone && !f.mute && f.tick == s.seq % 256
    s.land f.router f.offset (f.data.take (f.poison.getD f.data.length)) (if f.last && whole then some f.ctr else none) f.last

/-- A packet that has come to a router goes on under the tables in force, all its copies at once (R141); a group packet at an invalid entry is discarded with
error 0x04 (R153). -/
def State.passOn (s : State) (f : Flight) : State :=
  match s.outputs f with
  | none => s.meshError f.router (min f.port 5) f.vc 0x04 0
  | some o =>
    let s := (s.traffic f.router f.vc 2).sendOn f o.ports
    if o.eject then s.eject f else s

/-- A packet put at the input of a router. -/
def State.launch (s : State) (f : Flight) : State := { s with flights := s.flights ++ [f] }.traffic f.router f.vc 1

/-- Whether no packet stands before this one in the same input buffer (R84, R136). -/
def State.mayMove (s : State) (i : Nat) (f : Flight) : Bool :=
  !((s.flights.take i).any (fun g => g.router == f.router && g.port == f.port && g.loose == f.loose))

/-- The reduction entry a router holds for a tag: its weight; an entry of weight 0 is invalid (R142). -/
def State.reduction (s : State) (k tag : Nat) : Option Nat :=
  (List.range 32).findSome? (fun i =>
    let w := s.tblWord (tblKey 0 k 2 i)
    if flag w 31 && fld w 23 16 == tag && fld w 15 8 != 0 then some (fld w 15 8) else none)

/-- Whether a packet that comes to its router is absorbed there: reduce-tagged on the scheduled channel, with an entry for its tag (R142, R143). -/
def State.mustCombine (s : State) (f : Flight) : Bool :=
  f.red && !f.loose && f.mode == 0 && f.port != 6 && (s.reduction f.router f.tag).isSome

/-! ### Into the port (R80, R166, R167, R170) -/

/-- The block that a gateway packet carries. -/
def Flight.block (f : Flight) : HBlock :=
  let b := spelledBlock idleBlock f.hblk.toNat f.data
  { b with poison := b.poison || f.poison.isSome }

/-- Whether a gateway packet is sum traffic: dst_port 0x3F (R196). -/
def Flight.isSum (f : Flight) : Bool := f.hblk.toNat / 2 ^ 52 % 64 == 0x3F

/-- An HGET leaves its send queue once its request has been handed to its gateway (R80). -/
def State.requestHanded (s : State) (f : Flight) (b : HBlock) : State :=
  let k := posKey (keyDie f.router) f.srcRow f.srcCol
  let t := s.tile k
  let mine := fun (d : SendDesc) => match d.kind with
    | .hget _ _ _ => d.sent != 0
    | _ => false
  if b.kind = 2 ∧ f.tick = s.seq % 256 ∧ t.sendB.any mine then
    (s.setTile k { t with sendB := t.sendB.eraseP mine }).serveSends k [0]
  else s

/-- A packet on the link to its gateway: its block enters its group's queue, or waits in the link's buffer while that is full (R170); one that does not fit
its placement is discarded with error 0x06 (R167). -/
def State.enterGateway (s : State) (i : Nat) (f : Flight) (ev : FlitEvent) : State :=
  let p := keyDie f.router
  match s.placement p f.target f.block with
  | some g =>
    if !(s.groupRoom p g) then s
    else
      let (s, x) := ({ s with flights := s.flights.eraseIdx i } : State).linkEvent f ev
      match x with
      | none => s
      | some f => (s.queueBlock p g f.block).requestHanded f f.block
  | none =>
    let (s, x) := ({ s with flights := s.flights.eraseIdx i } : State).linkEvent f ev
    match x with
    | none => s
    | some f => (s.hearthError p f.block.dst 0x3FF 0 0x06).requestHanded f f.block

/-- Packet `i` in flight comes through its link: to its gateway, or into its router and on. One that an earlier packet of its buffer blocks, that must be
absorbed into a combine, or that is sum traffic at its gateway stays. -/
def State.hop (s : State) (i : Nat) (ev : FlitEvent) : State :=
  match s.flights[i]? with
  | none => s
  | some f =>
    if !(s.mayMove i f) || s.mustCombine f || (f.port == 6 && f.isSum) then s
    else if f.port = 6 then s.enterGateway i f ev
    else
      let (s, x) := ({ s with flights := s.flights.eraseIdx i } : State).linkEvent f ev
      match x with
      | none => s
      | some f => s.passOn f

/-- The packets in flight from position `base` on move hop by hop, the latest first, one event for each hop; the rest of their way is left to
MESH_PACKET_ARRIVAL. -/
def State.travel (s : State) (base : Nat) : List FlitEvent → State
  | [] => s
  | e :: es => if s.flights.length ≤ base then s else (s.hop (s.flights.length - 1) e).travel base es

/-! ### From a gateway (R130, R133, R166) -/

/-- A packet from a gateway at the attached router nearest a row and column, before its route is filled in: scheduled channel, origin gateway. -/
def gatewayPacket (router offset tick ctr : Nat) (last : Bool) (data : List Byte) (poison : Bool) : Flight :=
  { router := router, port := 5, loose := false, mode := 0, red := false, bf16 := false, last := last, gateway := true, ckind := 0, tag := 0, weight := 1,
    ctr := ctr, group := 0, srcRow := keyRow router, srcCol := keyCol router, rowA := 0, colA := 0, rowB := 0, colB := 0, offset := offset, index := 0,
    tick := tick, target := 0, gw := 0, hblk := 0, turned := none, data := data, poison := if poison then some 0 else none, mute := false }

/-- The router at which a packet for a row and logical column enters from its gateway: the nearest row for a lattice gateway, the nearest physical column for
a pair gateway (R130, R166). -/
def State.entryRouter (s : State) (die : Nat) (pair : Bool) (row col : Nat) : Nat :=
  gatewayRouter die pair (gatewayTo pair row col) row (s.physCol die row col)

/-- The tick number modulo 256 that a packet takes for a block of a tick modulo 16: that of the latest such tick (R135, R186 code 0x0B). -/
def State.blockTick (s : State) (t : Nat) : Nat := (s.seq + 256 - (s.seq + 16 - t % 16) % 16) % 256

/-- A block's packet to one tile. -/
def State.toTile (s : State) (die : Nat) (pair : Bool) (row col offset tick ctr : Nat) (last : Bool) (data : List Byte) (poison : Bool) : State :=
  s.launch { gatewayPacket (s.entryRouter die pair row col) offset tick ctr last data poison with rowA := row, colA := col }

/-- A block's packet to a rectangle, entering for its first receiver (R166). -/
def State.toRectangle (s : State) (die r0 r1 c0 c1 offset tick ctr : Nat) (last : Bool) (data : List Byte) (poison : Bool) : State :=
  s.launch { gatewayPacket (s.entryRouter die false r0 c0) offset tick ctr last data poison with mode := 1, rowA := r0, rowB := r1, colA := c0, colB := c1 }

/-- The first receiver of a group on a die: the lowest row, then the lowest logical column, whose router ejects (DESIGN CHOICE: R166 names it for a
rectangle only); row 0, column 0 where there is none. -/
def State.firstReceiver (s : State) (die g : Nat) : Nat × Nat :=
  let all := ((List.range 64).map (fun r => (List.range 48).map (fun l => (r, l)))).flatten
  (all.find? (fun x =>
    let w := s.groupEntry (posKey die x.1 (s.physCol die x.1 x.2)) g
    groupValid w && flag w 0)).getD (0, 0)

/-- A block's packet to a group (R140, R166). -/
def State.toGroup (s : State) (die g offset tick ctr : Nat) (last : Bool) (data : List Byte) (poison : Bool) : State :=
  let x := s.firstReceiver die g
  s.launch { gatewayPacket (s.entryRouter die false x.1 x.2) offset tick ctr last data poison with mode := 2, group := g }

/-! ### Coding of ESEND (R89, R118) -/

/-- One coded contribution (R89, R118): code, flags, draws used. DESIGN CHOICE: a non-zero value that is coded as zero sets no flag, for R118 names none and
R117 speaks of deliveries below the smallest normal (log 124). -/
def emberCode (rmode : Bool) (b : Int) (d : Nat) (x : FV) : Nat × Nat × Nat :=
  match x with
  | .nan => (32, flagInvalid, d)
  | .inf neg => (if neg then 0 else 63, flagSaturated, d)
  | .fin neg m e =>
    if m = 0 then (32, 0, d)
    else
      let k := e - b
      if k > 64 then (if neg then 0 else 63, flagSaturated, d)
      else if k ≥ 0 ∨ k < -400 then
        let i := 32 + sgn neg (if k ≥ 0 then m <<< k.toNat else 0)
        let d' := if k < -400 && rmode then d + 1 else d
        if i < 0 then (0, flagSaturated, d') else if i > 63 then (63, flagSaturated, d') else (i.toNat, 0, d')
      else
        let needs := (roundShift .nearest m (-k).toNat).2
        let r := if rmode && needs then Rounding.draw (Config.free d % 65536) else .nearest
        let i := 32 + sgn neg (roundShift r m (-k).toNat).1
        let d' := if rmode && needs then d + 1 else d
        if i < 0 then (0, flagSaturated, d') else if i > 63 then (63, flagSaturated, d') else (i.toNat, 0, d')

/-- The codes of a contribution in order. -/
def emberCodes (rmode : Bool) (b : Int) : Nat → List FV → List Nat × Nat × Nat
  | d, [] => ([], 0, d)
  | d, x :: xs =>
    let (c, fl, d1) := emberCode rmode b d x
    let (cs, g, d2) := emberCodes rmode b d1 xs
    (c :: cs, orFlags fl g, d2)

/-- The FP32 values from an offset on. -/
def Tile.floats (t : Tile) (off n : Nat) : List FV :=
  (List.range n).map (fun i => ofF32 (BitVec.ofNat 32 (leNat (t.bytes (off + 4 * i) 4))))

end Sys2Proof.Machine
end

