-- ==== Sys2Proof/Machine/Mesh.lean ====
section
/-! DEFINITION. The commands of the die mesh (chapter 05): injection, packets, in-network sums, barriers, crossings and sync fences. -/

namespace Sys2Proof.Machine

/-! ### Injection (R80, R131 to R138, R166, R196, R485) -/

/-- Flits of one packet of a descriptor, head included: 17 for a full mesh packet, 5 for a packet bound for a gateway (R133). -/
def SendDesc.packetFlits (d : SendDesc) (i : Nat) : Nat :=
  match d.kind with
  | .mesh _ => 1 + (min 512 (d.len - 512 * i) + 31) / 32
  | _ => 5

/-- The number of packets of a descriptor (R133, R168, R196). -/
def SendDesc.packets (d : SendDesc) : Nat :=
  match d.kind with
  | .mesh _ => (d.len + 511) / 512
  | .hget _ _ _ => 1
  | .esend _ _ _ _ => (d.len + 511) / 512
  | _ => d.len / 128

/-- Flits of a full packet of the descriptor. -/
def SendDesc.stride (d : SendDesc) : Nat :=
  match d.kind with
  | .mesh _ => 17
  | _ => 5

/-- The packet being injected. -/
def SendDesc.packet (d : SendDesc) : Nat := d.sent / d.stride

/-- Whether every packet of a descriptor has been injected: of those still in a queue, an HGET whose request is on its way to its gateway (R80). -/
def SendDesc.injected (d : SendDesc) : Bool := decide (d.stride * d.packets ≤ d.sent)

/-- The descriptor whose flits a queue's router port injects next: the oldest not yet injected. -/
def nextSend (q : List SendDesc) : Option SendDesc := q.find? (fun d => !d.injected)

/-- A queue with that descriptor replaced, or gone. -/
def replaceSend (x : Option SendDesc) : List SendDesc → List SendDesc
  | [] => []
  | d :: ds => if d.injected then d :: replaceSend x ds else x.toList ++ ds

/-- Bytes of SRAM the router reads for one packet: offset and length. -/
def SendDesc.source (d : SendDesc) (i : Nat) : Nat × Nat :=
  match d.kind with
  | .mesh _ => (d.src + 512 * i, min 512 (d.len - 512 * i))
  | .hget _ _ _ => (d.src, 0)
  | .esend _ _ _ _ => (d.src + 512 * i, min 512 (d.len - 512 * i))
  | _ => (d.src + 128 * i, 128)

/-- Bytes of SRAM behind one payload flit: an ESEND flit holds 32 codes of 4-byte values (R196). -/
def SendDesc.grain (d : SendDesc) : Nat :=
  match d.kind with
  | .esend _ _ _ _ => 128
  | _ => 32

/-- The payload that bytes read for an injection become, with flags and draws used: themselves, or for ESEND their codes (R89, R118). -/
def SendDesc.payload (d : SendDesc) (draws : Nat) (t : Tile) (off len : Nat) : List Byte × Nat × Nat :=
  match d.kind with
  | .esend _ _ b rmode =>
    let (cs, fl, n) := emberCodes rmode b draws (t.floats off (len / 4))
    (cs.map (BitVec.ofNat 8), fl, n)
  | _ => (t.bytes off len, 0, draws)

/-- What flits `a` to `b − 1` of a packet leave behind: the descriptor with their payload, the tile, the first uncorrectable word, and the draws used; poison
stands from the first bad flit on (R28, R80, R98). -/
def Tile.inject (t : Tile) (draws : Nat) (d : SendDesc) (a b : Nat) : SendDesc × Tile × Option Nat × Nat :=
  let (off, len) := d.source d.packet
  let lo := min len (d.grain * (a - 1))
  let hi := min len (d.grain * (b - 1))
  let ws := wordsOf (off + lo) (hi - lo)
  let bad := t.badWord ws
  let at0 := bad.map (fun w => (8 * w - off) / d.grain * 32)
  let (bytes, fl, n) := d.payload draws t (off + lo) (hi - lo)
  let t := t.countFixes ws
  ({ d with sent := d.sent + (b - a), part := d.part ++ bytes, partBad := (d.partBad.orElse fun _ => at0), poison := d.poison || bad.isSome },
    if fl = 0 then t else t.setFlags d.thread fl, bad, n)

/-- A Hearth block of a tile's send: its destination's bay is renamed (R87, R161, R168). -/
def State.tileBlock (s : State) (k : Nat) (d : SendDesc) (i : Nat) (last : Bool) : HBlock :=
  let p := keyDie k
  let base : HBlock := { idleBlock with src := p, dst := p, kind := 4, poison := d.partBad.isSome, tick := s.seq % 16, last := last && !d.poison, data := d.part }
  match d.kind with
  | .hsend mpa stream ctr =>
    if mpa / 2 ^ 44 = 0 then
      { base with dst := s.bayDie (mpa / 2 ^ 40 % 16), kind := 0, stream := stream, ctr := ctr, addr := blockAddr (mpa + 128 * i) }
    else { base with dst := s.bayPort (mpa / 2 ^ 40 % 16), kind := 1, stream := stream, addr := blockAddr (mpa + 128 * i) }
  | .hget mpa stream ctr =>
    let ret := s.dieBay p * 2 ^ 40 + keyRow k * 2 ^ 34 + s.logCol k * 2 ^ 28 + d.dst
    { base with dst := s.bayPort (mpa / 2 ^ 40 % 16), kind := 2, stream := stream, data := readRequest mpa ret d.len stream ctr, last := true }
  | .hbcast stream => { base with stream := stream }
  | _ => base

/-- The sum descriptor of packet `i` of an ESEND (R196). -/
def sumHeader (p group stream tick i : Nat) (last : Bool) : Nat :=
  128 * i % 2 ^ 14 + bit last * 2 ^ 31 + tick % 16 * 2 ^ 36 + stream % 256 * 2 ^ 40 + group % 16 * 2 ^ 48 + 0x3F * 2 ^ 52 + p % 64 * 2 ^ 58

/-- The packet whose last flit a descriptor has injected, at the local port of its router (R133, R166, R196). -/
def State.sentPacket (s : State) (k : Nat) (d : SendDesc) (i : Nat) : Flight :=
  let last := decide (i + 1 = d.packets)
  let base : Flight :=
    { router := k, port := 0, loose := decide (d.thread ≠ 0), mode := 0, red := false, bf16 := false, last := last, gateway := false, ckind := 0, tag := 0,
      weight := 1, ctr := 0, group := 0, srcRow := keyRow k, srcCol := keyCol k, rowA := 0, colA := 0, rowB := 0, colB := 0, offset := 0, index := i,
      tick := s.seq % 256, target := 0, gw := 0, hblk := 0, turned := none, data := d.part, poison := d.partBad, mute := d.poison }
  let bound := fun (pair : Bool) (h : Nat) (data : List Byte) =>
    { base with target := (if pair then 2 else 1), gw := gatewayFrom pair (keyRow k) (keyCol k), hblk := BitVec.ofNat 64 h, data := data }
  match d.kind with
  | .mesh r =>
    let f := { base with ctr := fld r 3 0, offset := d.dst + 512 * i, mode := fld r 31 30 }
    match fld r 31 30 with
    | 0 => { f with rowA := fld r 29 24, colA := fld r 23 18, red := flag r 17, bf16 := flag r 17 && flag r 16, tag := fld r 15 8 }
    | 1 => { f with rowA := fld r 29 24, rowB := fld r 23 18, colA := fld r 17 12, colB := fld r 11 6 }
    | _ => { f with group := fld r 7 4 }
  | .esend g stream _ _ =>
    bound false (sumHeader (keyDie k) g stream s.seq i last) (d.part ++ List.replicate (128 - d.part.length) (BitVec.ofNat 8 32))
  | _ =>
    let b := s.tileBlock k d i last
    bound (b.kind != 4 && groupFor b.src b.dst == 36) b.header b.data

/-- Up to `n` flits of the packet a queue injects next (R80, R138): source errors raise ECC_SRAM on the sending thread (R98), a finished packet goes to its
router, and a finished descriptor leaves the queue, but an HGET, which leaves it at its gateway. -/
def State.injectHead (s : State) (k : Nat) (loose : Bool) (n : Nat) : State :=
  let m := if loose then 1 else 0
  match nextSend ((s.tile k).queue m) with
  | none => s
  | some d =>
    let i := d.packet
    let a := d.sent % d.stride
    let b := min (d.packetFlits i) (a + n)
    let (d', t, bad, draws) := (s.tile k).inject s.draws d a b
    let done := b == d.packetFlits i
    let d'' := if done then { d' with sent := d.stride * (i + 1), part := [], partBad := none } else d'
    let keep := !d''.injected || (match d.kind with
      | .hget _ _ _ => true
      | _ => false)
    let s := ({ s with draws := draws } : State).setTile k (t.setQueue m (replaceSend (if keep then some d'' else none) (t.queue m)))
    let s := match bad with
      | some w => s.raise k (s.tile k) d.thread d.pc 0x10 (8 * w)
      | none => s
    let s := if done then s.launch (s.sentPacket k d' i) else s
    if keep then s else s.serveSends k (if loose then [1, 2, 3] else [0])

/-- An ESEND whose length differs from its valid send entry (R89, R206 code 0x02). -/
def State.emberLength (s : State) (k : Nat) (d : SendDesc) : Bool :=
  match d.kind with
  | .esend g _ _ _ =>
    flag (s.tblWord (tblKey 2 (keyDie k) 0 (2 * g))) 31 && 4 * fld (s.tblWord (tblKey 2 (keyDie k) 0 (2 * g + 1))) 14 0 != d.len
  | _ => false

/-- The send entry an ESEND names. -/
def SendDesc.sumGroup (d : SendDesc) : Nat :=
  match d.kind with
  | .esend g _ _ _ => g
  | _ => 0

/-- SEND_INJECT: the router takes a queue's oldest descriptor not yet injected and injects the flits of its current packet: for the
bound thread as many as the open window still admits (R138), for the loose threads the packet, while MSH_CTRL.loose_en is 1. -/
def execSendInject (t : TileId) (loose : Bool) (s : State) : Host.Outcome State Fault Refusal :=
  let k := t.key
  match nextSend ((s.tile k).queue (if loose then 1 else 0)) with
  | none => .next s
  | some d =>
    if !(s.ticking && s.tilePowered k) then .next s
    else if d.sent == 0 && s.emberLength k d then
      let x := s.tile k
      .next (((s.setTile k (x.setQueue 0 (replaceSend none x.sendB))).emberError (keyDie k) d.sumGroup 0x3F 0 0x02).serveSends k [0])
    else if loose then
      if flag (s.reg (Reg.MSH_CTRL (keyDie k))) 0 then .next (s.injectHead k true 17) else .next s
    else
      let r := s.router k
      if r.isOpen then
        let n := min r.left (d.packetFlits d.packet - d.sent % d.stride)
        let left := r.left - n
        .next ((s.setRouter k { r with left := left, isOpen := decide (left ≠ 0),
                                       window := (if left = 0 then r.window + 1 else r.window) }).injectHead k false n)
      else .next s

/-- MESH_SLOT_WINDOW_OPEN: the next window of the slot table opens with its flit count, in a cycle not before its start; the table ends at its first invalid
entry (R138). DESIGN CHOICE: a valid window of 0 flits, outside its field's range, is passed over at its opening (log 127). -/
def execMeshSlotWindowOpen (t : TileId) (cycle : Nat) (s : State) : Host.Outcome State Fault Refusal :=
  let k := t.key
  let r := s.router k
  let w := s.tblWord (tblKey 0 k 3 (2 * r.window + 1))
  let due := decide ((s.tblWord (tblKey 0 k 3 (2 * r.window))).toNat ≤ cycle)
  if s.ticking && s.tick.isOpen && !r.isOpen && decide (r.window < 512) && flag w 31 && due then
    if fld w 15 0 = 0 then .next (s.setRouter k { r with window := r.window + 1 })
    else .next (s.setRouter k { r with isOpen := true, left := fld w 15 0 })
  else .next s

/-! ### Arrival (R82, R84, R85, R135, R147, R153) -/

/-- MESH_PACKET_ARRIVAL: packet `i` in flight comes through its link to this tile's router and goes on under the tables in force: copies to the next links,
its own copy to the ejection port and into the tile, or, from the link to the router's gateway, into its Hearth group (R129 to R141, R153). -/
def execMeshPacketArrival (t : TileId) (i : Nat) (ev : FlitEvent) (s : State) : Host.Outcome State Fault Refusal :=
  match s.flights[i]? with
  | none => .next s
  | some f => if f.router = t.key then .next (s.hop i ev) else .next s

/-! ### In-network sums (R119, R142 to R144) -/

/-- Two element lists added pairwise (R119). -/
def addWords (isBf16 : Bool) (a b : List Byte) : List Byte :=
  if isBf16 then
    ((List.range (a.length / 2)).map (fun i =>
      let x := BitVec.ofNat 32 (leNat ((a.drop (2 * i)).take 2) * 65536)
      let y := BitVec.ofNat 32 (leNat ((b.drop (2 * i)).take 2) * 65536)
      leBytes 2 (bf16.round .nearest (ofF32 (f32Add x y).1)).1)).flatten
  else
    ((List.range (a.length / 4)).map (fun i =>
      leBytes 4 (f32Add (BitVec.ofNat 32 (leNat ((a.drop (4 * i)).take 4))) (BitVec.ofNat 32 (leNat ((b.drop (4 * i)).take 4)))).1.toNat)).flatten

/-- A finished combine leaves its router as one packet of the entry's weight along the route of R129, ejected where it has arrived (R142). -/
def State.sendCombine (s : State) (f : Flight) (rest : List Flight) : State :=
  let k := f.router
  let r := s.router k
  (s.setRouter k { r with combine := rest, map := r.map.set 0 8 (satAdd 16 (r.map.get 0 8) 1) }).passOn { f with srcRow := keyRow k, srcCol := keyCol k }

/-- Whether two packets of one combine disagree (R144). -/
def combineClash (c f : Flight) : Bool :=
  c.data.length != f.data.length || c.bf16 != f.bf16 || c.ctr != f.ctr || c.last != f.last

/-- A packet absorbed at its router under an entry of weight `w`, its link passed (R142, R144). -/
def State.absorb (s : State) (f : Flight) (w : Nat) : State :=
  let r := s.router f.router
  let f := { f with poison := if f.mute then some 0 else f.poison, mute := false }
  let mine := fun (c : Flight) => c.tag == f.tag && c.offset == f.offset
  match r.combine.find? mine with
  | none =>
    if f.weight > w then s.meshError f.router (min f.port 5) 0 0x05 f.tag
    else if f.weight = w then s.sendCombine f r.combine
    else s.setRouter f.router { r with combine := r.combine ++ [f] }
  | some c =>
    let rest := r.combine.filter (fun x => !(mine x))
    if combineClash c f || decide (c.weight + f.weight > w) then
      (s.setRouter f.router { r with combine := rest }).meshError f.router (min f.port 5) 0 0x05 f.tag
    else
      let sum := { c with data := addWords f.bf16 c.data f.data, weight := c.weight + f.weight, poison := minPoison c.poison f.poison }
      if sum.weight = w then s.sendCombine sum rest else s.setRouter f.router { r with combine := rest ++ [sum] }

/-- REDUCE_PACKET_COMBINE: packet `i` in flight, reduce-tagged on the scheduled channel, comes through its link to a router that holds an entry for its tag and
is absorbed (R142); it waits in its input buffer while no combine is its own and the four places are taken. -/
def execReducePacketCombine (t : TileId) (i : Nat) (ev : FlitEvent) (s : State) : Host.Outcome State Fault Refusal :=
  match s.flights[i]? with
  | none => .next s
  | some f =>
    let r := s.router f.router
    let room := decide (r.combine.length < 4) || r.combine.any (fun c => c.tag == f.tag && c.offset == f.offset)
    if !(decide (f.router = t.key) && s.mayMove i f && s.mustCombine f && room) then .next s
    else
      match s.reduction f.router f.tag, ({ s with flights := s.flights.eraseIdx i } : State).linkEvent f ev with
      | some w, (s, some f) => .next ((s.traffic f.router 0 2).absorb f w)
      | _, (s, _) => .next s

/-! ### Forks and crossings -/

/-- FORK_SLIP: a held fork records one slip event in its router's map entry (R141). -/
def execForkSlip (t : TileId) (s : State) : Host.Outcome State Fault Refusal :=
  let r := s.router t.key
  .next (s.setRouter t.key { r with map := r.map.set 0 4 (satAdd 8 (r.map.get 0 4) 1) })

/-- Whether a router has a crossing link: at a region boundary, or to a gateway (R126, R152). -/
def hasCrossing (k : Nat) : Bool :=
  let r := keyRow k
  let c := keyCol k
  (r % 8 == 7 && r != 63) || (r % 8 == 0 && r != 0) || c == 0 || c == 49 || ((r == 0 || r == 63) && decide (4 ≤ c ∧ c < 48 ∧ c % 12 / 4 = 1))

/-- CROSSING_SLIP: a full crossing buffer held its sender off for some cycles (R150). -/
def execCrossingSlip (t : TileId) (cycles : Nat) (s : State) : Host.Outcome State Fault Refusal :=
  let r := s.router t.key
  if !(hasCrossing t.key) then .next s
  else .next ((s.setRouter t.key { r with map := r.map.set 0 5 (satAdd 16 (r.map.get 0 5) cycles) }).bumpReg
    (Reg.MSH_SLIP_TOTAL t.die) 31 0 cycles)

/-! ### SYNC barriers (R145) -/

/-- The tokens a router holds, a fenced core's own supplied by its router (R145). -/
def State.tokensAt (s : State) (k g : Nat) : Nat := (s.router k).tokens.get 0 g ||| (if s.fenced k then 1 else 0)

/-- Whether a router holds a token from every child of the entry. -/
def State.tokensComplete (s : State) (k g : Nat) : Bool :=
  fld (s.groupEntry k g) 4 0 &&& s.tokensAt k g == fld (s.groupEntry k g) 4 0

/-- The tokens of a router for a group. -/
def State.setTokens (s : State) (k g v : Nat) : State :=
  let r := s.router k
  s.setRouter k { r with tokens := r.tokens.set 0 g v }

/-- A control packet of a group before a router: kind 0 a token, 1 a release (R133, R145). -/
def State.control (s : State) (src router port g ckind : Nat) : Flight :=
  { gatewayPacket router 0 (s.seq % 256) 0 true [] false with
    port := port, mode := 3, ckind := ckind, gateway := false, group := g, weight := 0, srcRow := keyRow src, srcCol := keyCol src }

/-- A token that has come through its link to a router (R145); at an invalid entry it is discarded with error 0x04 (R153). -/
def State.takeToken (s : State) (f : Flight) : State :=
  if groupValid (s.groupEntry f.router f.group) then
    (s.traffic f.router 0 2).setTokens f.router f.group ((s.router f.router).tokens.get 0 f.group ||| 2 ^ f.port)
  else s.meshError f.router f.port 0 0x04 0

/-- SYNC_TOKEN: a router that holds tokens from all its children sends one to its parent (R145), which takes it as its link delivers it (R153). -/
def execSyncToken (t : TileId) (g : Fin 16) (ev : FlitEvent) (s : State) : Host.Outcome State Fault Refusal :=
  let k := t.key
  let w := s.groupEntry k g
  if !s.ticking then .next s
  else if !(groupValid w) then
    if (s.router k).tokens.get 0 g = 0 then .next s else .next ((s.setTokens k g 0).meshError k 0 0 0x04 0)
  else if flag w 14 || !(s.tokensComplete k g) || s.tokensAt k g == 0 then .next s
  else
    let s := (s.setTokens k g 0).traffic k 0 2
    match neighbour k (fld w 13 11) with
    | none => .next s
    | some n =>
      match s.linkEvent (s.control k n (facing (fld w 13 11)) g 0) ev with
      | (s, none) => .next s
      | (s, some f) => .next (s.takeToken f)

/-- SYNC_RELEASE: the root with all its tokens sends a release down the group tree; each tile's SYNC completes on ejection (R145). The release goes hop by
hop with the events listed, the rest of its way by MESH_PACKET_ARRIVAL. -/
def execSyncRelease (t : TileId) (g : Fin 16) (evs : List FlitEvent) (s : State) : Host.Outcome State Fault Refusal :=
  let k := t.key
  let w := s.groupEntry k g
  if s.ticking && groupValid w && flag w 14 && s.tokensComplete k g && s.tokensAt k g != 0 then
    .next (((s.setTokens k g 0).passOn (s.control k k 0 g 1)).travel s.flights.length evs)
  else .next s

/-! ### Sync fences (R151, R210) -/

/-- A stretch of a region: count up by one, time by quarter-periods, both saturating (R210). -/
def State.stretch (s : State) (d region quarters : Nat) : State :=
  (s.bumpReg (Reg.CLK_RGN_CUR_COUNT (16 * d + region)) 31 0).bumpReg (Reg.CLK_RGN_CUR_TIME (16 * d + region)) 31 0 quarters

/-- Pauses of the regions from `r` on, in 1/64 ns; a quarter-period of 0.15625 ns is ten of them, rounded up. -/
def State.pauses (s : State) (d r : Nat) : List Nat → State
  | [] => s
  | p :: ps => (if p = 0 ∨ r > 7 then s else s.stretch d r ((p + 9) / 10)).pauses d (r + 1) ps

/-- SYNC_FENCE: the regions of a die wait for one another; a pause of non-zero length counts as a stretch (R151, R210). -/
def execSyncFence (die : Fin 16) (pauses : List Nat) (s : State) : Host.Outcome State Fault Refusal :=
  if s.ticking then .next (s.pauses die 0 pauses) else .next s

end Sys2Proof.Machine
end

