-- ==== Sys2Proof/Machine/RecoveryOps.lean ====
section
/-! DEFINITION. Core fences, die fences and the degraded takeover (R340 to R347, R484). -/

namespace Sys2Proof.Machine

/-! ### The recovery stage -/

/-- TCK_RCV_STATUS.stage as the work at hand gives it: 3 a takeover, 2 a spare loading, 1 a core fence pending, 4 a rebuild tick next (R364). -/
def State.stageNow (s : State) : Nat :=
  if s.recovery.takeover || s.tick.rebuildNext && s.mode != .loaded then 3
  else if !s.recovery.loading.isEmpty then 2
  else if !s.recovery.pendingFences.isEmpty || !s.recovery.prepared.isEmpty then 1
  else if s.job.start.isSome then 4 else 0

/-- The state with its recovery stage shown. -/
def State.showStage (s : State) : State := s.setRegFld Reg.TCK_RCV_STATUS 31 29 s.stageNow

/-! ### Adoption of prepared fences (R342, R363) -/

/-- Whether a prepared fence is in force: its die has adopted (R340, R363). -/
def State.fenceAdopted (s : State) (f : Nat × Nat) : Bool := s.fenced f.1 && !(flag (s.reg (Reg.MSH_SHADOW (keyDie f.1))) 0)

/-- Spares that power up: nothing of a tile's state but its check history is left, and they are held for loading (R128, R342). -/
def State.startLoading (s : State) : List (Nat × Nat) → State
  | [] => s
  | (_, e) :: fs =>
    let s := s.setTile e { Tile.reset with loading := true, placed := true }
    let s := { s with recovery := { s.recovery with loading := s.recovery.loading ++ [e] } }
    (s.bumpReg Reg.TCK_RCV_STATUS 23 16).startLoading fs

/-- Prepared fences whose die has adopted its shadows take effect. -/
def State.adoptFences (s : State) : State :=
  let now := s.recovery.prepared.filter s.fenceAdopted
  let s := { s with recovery := { s.recovery with prepared := s.recovery.prepared.filter (fun f => !(s.fenceAdopted f)) } }
  s.startLoading now

/-! ### Die fences (R343, R345) -/

/-- A die fence takes effect: TIL_DIE_FENCE in force and the die's three domains off (R343). -/
def State.fenceDie (s : State) (d : Nat) : State :=
  let a := Reg.TIL_DIE_FENCE d
  if flag (s.shadow a) 31 && !(flag (s.reg a) 31) then (s.setReg a (s.shadow a)).setDomains 0 [3 * d, 3 * d + 1, 3 * d + 2] else s

/-- Die fences that wait for a beacon take effect. -/
def State.fenceDies (s : State) : List Nat → State
  | [] => s
  | d :: ds => (s.fenceDie d).fenceDies ds

/-- The register ranges of maps and fences: the bay map, and each die's die fence, row maps and fences. -/
def mapRanges : List (Nat × Nat) :=
  (Reg.HRT_BAY_MAP_0, Reg.HRT_BAY_MAP_1 + 1) ::
    ((List.range 16).map (fun d => [(Reg.TIL_DIE_FENCE d, Reg.TIL_DIE_FENCE d + 1), (Reg.MSH_ROW_MAP d 0 0, Reg.TIL_FENCE d 64)])).flatten

/-- The state as if the shadow maps and fences were in force. -/
def State.withMaps (s : State) : State := { s with regs := spliceAll s.shadowRegs mapRanges s.regs }

/-- The state with the maps and fences in force of `s`. -/
def State.mapsOf (s v : State) : State := { v with regs := spliceAll s.regs mapRanges v.regs }

/-- The physical die of a logical bay with die `f` fenced (R344). -/
def degradedBay (f k : Nat) : Nat := if k < f then k else if k ≤ 14 then k + 1 else f

/-- The shadow bay map of a degraded image (R344, R345). -/
def State.shadowBays (s : State) (f : Nat) : State :=
  (s.setShadow Reg.HRT_BAY_MAP_0 (BitVec.ofNat 32 (packNat 4 ((List.range 8).map (degradedBay f))))).setShadow Reg.HRT_BAY_MAP_1
    (BitVec.ofNat 32 (packNat 4 ((List.range 8).map (fun k => degradedBay f (k + 8)))))

/-- A degraded takeover starts: the map and the Hearth and ember-sum tables go into shadow, and fences of the failed die are dropped
(R345, R363). -/
def State.startTakeover (s : State) (f : Nat) : State :=
  let s := s.shadowBays f
  let s := s.putWords false (s.withMaps.imgTables s.degradedImage [7, 8])
  let keep := fun k => keyDie k != f
  let r := s.recovery
  ({ s with recovery := { r with takeover := true, pendingFences := r.pendingFences.filter keep,
                                 prepared := r.prepared.filter (fun x => keep x.1), loading := r.loading.filter keep } } : State).showStage

/-- A die failure (R343, R347): Stoker writes the die fence, which takes effect at the next beacon, or at once while no tick runs; the tick is
charged; then a degraded takeover, or teardown where none is possible. -/
def State.dieFail (s : State) (d : Nat) : State :=
  let was := (List.range 16).any (fun k => flag (s.shadow (Reg.TIL_DIE_FENCE k)) 31)
  let s := s.orReg Reg.TCK_RCV_EVENTS 8
  let s := s.setShadow (Reg.TIL_DIE_FENCE d) 0x80000000
  let s := { s with recovery := { s.recovery with dieReports := s.recovery.dieReports.filter (fun k => k != d) } }
  if !s.ticking then s.fenceDie d
  else
    let s := s.charge
    if was || s.recovery.takeover || flag (s.reg Reg.TCK_STATUS) 24 || !(flag (s.reg Reg.TCK_IMAGE_STATUS) 30) then s.teardown
    else s.startTakeover d

/-- Die failures reported and not yet acted on. -/
def State.dieFails (s : State) : List Nat → State
  | [] => s
  | d :: ds => (s.dieFail d).dieFails ds

/-! ### Core fences (R340, R341, R484) -/

/-- The physical columns that a row map leaves unused: the row's spares (R127). -/
def unusedCols (get : Nat → Word) (die row : Nat) : List Nat :=
  (List.range 50).filter (fun c => (findCol (rowMapIn get die row) c 48).isNone)

/-- The column nearest to `c`, the lower where two are equally near (R340). -/
def nearest (c : Nat) : List Nat → Option Nat
  | [] => none
  | x :: xs =>
    match nearest c xs with
    | none => some x
    | some y => if (max y c - min y c) < (max x c - min x c) then some y else some x

/-- What a core fence needs: the spare and the copies of the tile's carry windows; none where it escalates, the lack of a fence-list entry for the row's new set
included (R340, R341, R484). A row whose fence table already lists a column lists a spare, since every fenced column is one (DEDUCED from R127). -/
def State.fencePlan (s : State) (k : Nat) : Option (Nat × List (Nat × List Byte)) :=
  let d := keyDie k
  let row := keyRow k
  let w := s.shadow (Reg.TIL_FENCE d row)
  let waiting := (s.recovery.prepared.map (fun x => x.2) ++ s.recovery.loading).filter (fun e => keyDie e == d)
  let wins := s.carryWins d
  let t := s.tile k
  if flag w 31 || flag w 23 || decide (waiting.length ≥ 4) then none
  else if wins.any (fun x => (t.badWord (wordsOf (copyBase x s.tick.parity) x.2.2.1)).isSome) then none
  else match nearest (keyCol k) (unusedCols s.shadow d row), s.fenceWords s.imageInUse (s.dieBay d) row (keyCol k, 0x3F) with
    | some e, some _ => some (e, wins.map (fun x => (x.1, t.bytes (copyBase x s.tick.parity) x.2.2.1)))
    | _, _ => none

/-- TIL_FENCE and the row map in shadow with a tile fenced and its logical column on a spare (R340). -/
def State.shadowFence (s : State) (k e : Nat) : State :=
  let d := keyDie k
  let row := keyRow k
  let a := Reg.TIL_FENCE d row
  let s1 := s.setShadow a (setFld (setFlag (s.shadow a) 31 true) 29 24 (keyCol k))
  match findCol (rowMapIn s.shadow d row) (keyCol k) 48 with
  | none => s1
  | some l =>
    let b := Reg.MSH_ROW_MAP d row (l / 4)
    s1.setShadow b (setFld (s.shadow b) (8 * (l % 4) + 5) (8 * (l % 4)) e)

/-- Fences of one die prepared in order; one that cannot be is a die failure (R341). -/
def State.prepare (s : State) : List Nat → State
  | [] => s
  | k :: ks =>
    if !(s.recovery.pendingFences.contains k) then s.prepare ks
    else match s.fencePlan k with
      | none => (s.orReg Reg.TCK_RCV_EVENTS 2).dieFail (keyDie k)
      | some (e, copies) =>
        let s := s.shadowFence k e
        let s := s.putWords false (s.fenceTable s.shadow s.imageInUse (s.dieBay (keyDie k)))
        let key := posKey (keyDie k) (keyRow k) e
        let r := s.recovery
        let s := { s with recovery := { r with pendingFences := r.pendingFences.filter (fun x => x != k), prepared := r.prepared ++ [(k, key)],
                                               fenceBuffer := r.fenceBuffer ++ copies.map (fun (c : Nat × List Byte) => (key, c.1, c.2)) } }
        (s.orReg Reg.TCK_RCV_EVENTS 4).prepare ks

/-- The shadows of a die marked ready: adopted at the next beacon, or at once while no tick runs (R148). -/
def State.meshReady (s : State) (d : Nat) : State :=
  let s := s.orReg (Reg.MSH_SHADOW d) 1
  if s.ticking then s else (s.adoptMesh d).adoptFences

/-- Copies of the fence buffer written into copy e of a spare's windows (R342). -/
def State.restoreCopies (s : State) (e : Nat) (t : Tile) : List (Nat × Nat × List Byte) → Tile
  | [] => t
  | (k, w, bs) :: xs =>
    let t := if k = e then
        match (s.carryWins (keyDie e)).find? (fun x => x.1 == w) with
        | some x => t.write (copyBase x s.tick.parity) bs
        | none => t
      else t
    s.restoreCopies e t xs

/-- Loading of spares ends (R342). -/
def State.loadSpares (s : State) : List Nat → State
  | [] => s
  | e :: es =>
    let d := keyDie e
    let t := s.loadTile s.imageInUse (s.dieBay d) (keyRow e) (s.logCol e) e
    let t := s.restoreCopies e { t with loading := true } s.recovery.fenceBuffer
    let s := s.setTile e t
    ({ s with recovery := { s.recovery with loading := s.recovery.loading.filter (fun x => x != e),
                                            fenceBuffer := s.recovery.fenceBuffer.filter (fun x => x.1 != e) } } : State).loadSpares es

/-! ### The end of a takeover (R345) -/

/-- Fences pending or prepared on the other dies enter shadow, to be covered by the degraded image's lists (R345, R363); false where a
row cannot take one. -/
def State.takeoverFences (s : State) : List Nat → Bool × State
  | [] => (true, s)
  | k :: ks =>
    let d := keyDie k
    let w := s.shadow (Reg.TIL_FENCE d (keyRow k))
    if fenceHas w (keyCol k) then s.takeoverFences ks
    else if flag w 31 || flag w 23 then (false, s)
    else match nearest (keyCol k) (unusedCols s.shadow d (keyRow k)) with
      | none => (false, s)
      | some e => ((s.shadowFence k e).orReg Reg.TCK_RCV_EVENTS 4).takeoverFences ks

/-- Whether the fence lists of an image cover every fence present in the dies it addresses (R341, R484). -/
def State.fencesListed (s : State) (g : Image) : Bool :=
  (List.range (s.imgDies g)).all (fun k => (List.range 64).all (fun r =>
    let w := s.reg (Reg.TIL_FENCE (s.bayDie k) r)
    !(flag w 31 || flag w 23) || (s.fenceWords g k r (fenceSet w)).isSome))

/-- Every die's shadows and the Hearth's marked ready. -/
def State.allReady (s : State) : List Nat → State
  | [] => s.orReg Reg.HRT_SHADOW 1
  | d :: ds => (s.orReg (Reg.MSH_SHADOW d) 1).allReady ds

/-- A takeover ends: the degraded image is loaded into the fifteen dies, its fence lists applied, and both shadow-ready bits set; the next
beacon adopts and starts the rebuild tick (R345). While no tick runs adoption is at once (R148). -/
def State.endTakeover (s : State) : State :=
  let f := (List.range 16).find? (fun d => flag (s.shadow (Reg.TIL_DIE_FENCE d)) 31)
  let (ok, s) := s.takeoverFences (s.recovery.pendingFences ++ s.recovery.prepared.map (fun x => x.1))
  let g := s.degradedImage
  let v := s.withMaps
  if !ok || !(v.fencesListed g) then (s.orReg Reg.TCK_RCV_EVENTS 2).teardown
  else
    let v := (v.clearWindows false).loadWindows (fun kind _ => kind == 0) (v.imgWindows g)
    let v := (v.applyDies g (List.range 15)).settleBays (List.range 16)
    let v := v.putWords false (v.imgTables g [5] ++ ((List.range 15).map (v.presentFences g)).flatten)
    let s := s.mapsOf v
    let s := (s.setRegFld Reg.TCK_STATUS 24 24 1).setRegFld Reg.TCK_RCV_STATUS 28 24 (16 + f.getD 0)
    let s := (s.orReg Reg.TCK_RCV_EVENTS 1).setReg Reg.TCK_IMAGE_ENERGY (BitVec.ofNat 32 (s.img g 0x028 4))
    let s := s.allReady (List.range 16)
    let r := s.recovery
    let s := { s with
      recovery := { r with takeover := false, pendingFences := [], prepared := [], loading := [], fenceBuffer := [] }
      tick := { s.tick with rebuildNext := true } }
    (if s.ticking then s else (s.adoptAll false).putWords true ((s.adoptAll false).imgTables g [11])).showStage

end Sys2Proof.Machine
end

