-- ==== Sys2Proof/Machine/BeaconOps.lean ====
section
/-! DEFINITION. What a beacon does (R32, R35, R46, R53, R82, R154, R187, R210, R213 to R217, R223 to R226, R241, R246, R250,
R280, R285, R342, R346, R352, R398, R485). -/

namespace Sys2Proof.Machine

/-! ### Time at a beacon (R223 to R226) -/

/-- Whether a unit, by the index of R415, is out of reset (R415, R417). -/
def State.released (s : State) (u : Nat) : Bool :=
  !(s.boot.units.contains u) && (!s.boot.active || decide ((if u < 16 then 8 else if u < 32 then 7 else 5) < s.boot.step))

/-- Whether a unit runs, and its time counter with it: its logic domain is on, a memory stack's in retention too, and it is out of reset (R224, R390,
R444). -/
def State.unitOn (s : State) (u : Nat) : Bool :=
  (s.domain (if u < 16 then 3 * u + 2 else if u < 32 then 32 + u else 65 + 2 * (u - 32)) == 1 || (decide (16 ≤ u ∧ u < 32) && s.domain (32 + u) == 2)) &&
    s.released u

/-- An integer held between two others. -/
def clampInt (lo hi x : Int) : Int := min hi (max lo x)

/-- The highest junction temperature in 1/8 °C. -/
def State.tmax (s : State) : Int :=
  let v := fld (s.reg Reg.THM_STATUS) 31 20
  if v ≥ 2 ^ 11 then (v : Int) - 2 ^ 12 else v

/-- One die latches its counter: its error is shown, and it slews for a beacon period of `p` µs, in 10^−9 (R225); at an idle beacon an
error above 1 µs steps it to the master's time (R226). -/
def State.correctUnit (s : State) (p : Nat) (idle : Bool) (u : Nat) : State :=
  if !(s.unitOn u) then s
  else
    let m := s.clock.get 0 36
    let e : Int := ((m / 65536 : Nat) : Int) - ((s.clock.get 0 u / 65536 : Nat) : Int)
    let s := s.setReg (Reg.TCK_DIE_ERR u) (intWord (clampInt (-2147483648) 2147483647 e))
    if idle && decide (e.natAbs > 1000) then
      { s with clock := s.clock.set 0 u m, slew := s.slew.set 0 u 0, slewRest := s.slewRest.set 0 u 0 }
    else { s with slew := s.slew.set 0 u (clampInt (-50000) 50000 (e * 1000000 / (max 1 p : Nat))) }

/-- Every die of a list. -/
def State.correctUnits (s : State) (p : Nat) (idle : Bool) : List Nat → State
  | [] => s
  | u :: us => (s.correctUnit p idle u).correctUnits p idle us

/-- The time correction of a beacon: every die latches its counter, and the master's time goes to every port in two firmware-word frames, high word first
(R225). -/
def State.correctTime (s : State) (idle : Bool) : State :=
  let p := if idle then 1000 else (s.reg Reg.TCK_PERIOD).toNat
  let m := s.clock.get 0 36 / 65536 % 2 ^ 64
  (((s.correctUnits p idle (List.range 36)).setReg64 Reg.TCK_BEACON_LO Reg.TCK_BEACON_HI m).sendFrame 5 0xFF 0x40 (m / 2 ^ 32)).sendFrame 5 0xFF 0x40
    (m % 2 ^ 32)

/-- The latch of the quote values (R437). -/
def State.latchQuote (s : State) : State :=
  { s with glove := { s.glove with
      latch := (s.reg Reg.TCK_EPOCH, s.seq, s.reg64 Reg.TCK_LAST_COMMIT_LO Reg.TCK_LAST_COMMIT_HI, s.reg64 Reg.TCK_BEACON_LO Reg.TCK_BEACON_HI) } }

/-! ### Congestion maps (R154, R187, R285) -/

/-- A map taken over: stored under the parity of the tick just ended where `on`, with fresh numbers for its cycle counts; the copy may run for a while, so
the map tick word has bit 31 set until a read finds it done. -/
def State.storeMap (s : State) (owner tickReg : Nat) (on : Bool) (units : SMap (SMap Nat)) : State :=
  if !on then s
  else
    let c : MapCopy := { draw := s.draws, before := s.reg tickReg &&& 0x7FFFFFFF, units := units.filter (fun u => !u.2.isEmpty) }
    let s := { s.drawn 16384 with maps := s.maps.set MapCopy.reset (2 * owner + s.seq % 2) c }
    s.setReg tickReg (BitVec.ofNat 32 (2 ^ 31 + s.seq % 2 ^ 31))

/-- The routers' maps of every die. -/
def State.storeMeshMaps (s : State) : List Nat → State
  | [] => s
  | d :: ds =>
    let mine := (s.routers.filter (fun kr => keyDie kr.1 == d)).map (fun kr => (kr.1 % 3200, kr.2.map))
    (s.storeMap d (Reg.MSH_MAP_TICK d) (flag (s.reg (Reg.MSH_CTRL d)) 1) mine).storeMeshMaps ds

/-- The fabric I/O dies' maps. -/
def State.storeFabMaps (s : State) : List Nat → State
  | [] => s
  | i :: is =>
    let mine := ((List.range 6).filter (fun f => fabIo f == i)).map (fun f => (f / 2, (s.fport f).map))
    (s.storeMap (15 + i) (Reg.FAB_MAP_TICK i) (flag (s.reg (Reg.FAB_CTRL i)) 0) mine).storeFabMaps is

/-- The cycles of this tick for which off frames still hold a port's groups: a free number each, for no rule dates the beacon in Hearth cycles (R187). -/
def State.countHolds (s : State) : List (Nat × Nat) → State
  | [] => s
  | (p, g) :: l =>
    (if ((s.port p).group g).off then (s.setPort p ((s.port p).count g 1 32 s.free)).drawn else s).countHolds l

/-- The transmit groups that have been in use, by port. -/
def State.usedGroups (s : State) : List (Nat × Nat) := (s.ports.map (fun kp => kp.2.tx.map (fun kq => (kp.1, kq.1)))).flatten

/-- Every congestion map of the tick just ended. -/
def State.storeMaps (s : State) : State :=
  let s := (s.storeMeshMaps (List.range 16)).countHolds s.usedGroups
  let s := s.storeMap 16 Reg.HRT_MAP_TICK (flag (s.reg Reg.HRT_CTRL) 1) (s.ports.map (fun kp => (kp.1, kp.2.map)))
  s.storeFabMaps [2, 3]

/-! ### Stretches and Damper counts (R210, R398) -/

/-- The current stretch count and time of a region become the last tick's (R210). -/
def State.latchRegions (s : State) : List Nat → State
  | [] => s
  | k :: ks =>
    let c := s.reg (Reg.CLK_RGN_CUR_COUNT k)
    let t := s.reg (Reg.CLK_RGN_CUR_TIME k)
    ((((s.setReg (Reg.CLK_RGN_LAST_COUNT k) c).setReg (Reg.CLK_RGN_LAST_TIME k) t).setReg (Reg.CLK_RGN_CUR_COUNT k) 0).setReg
      (Reg.CLK_RGN_CUR_TIME k) 0).latchRegions ks

/-- The regions' numbers in the clock block: 16 × die + region. -/
def regionList : List Nat := ((List.range 16).map (fun d => (List.range 8).map (fun r => 16 * d + r))).flatten

/-- Whether a die has periods removed (bit 0) or halved (bit 1) now (R397, R403). -/
def State.damping (s : State) (d : Nat) : Nat :=
  let st := fld (s.reg (Reg.THM_DAMP d)) 31 30
  (if st = 1 ∨ fld (s.reg Reg.PWR_GOV) 30 24 < 64 then 1 else 0) + (if st = 2 then 2 else 0)

/-- The Damper counts of the tick latched: free values where periods were removed or halved, else 0 (R398). -/
def State.latchDamper (s : State) : List Nat → State
  | [] => s
  | d :: ds =>
    let a := s.thermal.acted.get 0 d
    let s1 := (s.setReg (Reg.THM_DAMP_SKIP d) (if a % 2 = 1 then BitVec.ofNat 32 s.free else 0)).drawn
    let s2 := (s1.setReg (Reg.THM_DAMP_HALF d) (if a / 2 = 1 then BitVec.ofNat 32 s1.free else 0)).drawn
    ({ s2 with thermal := { s2.thermal with acted := s2.thermal.acted.set 0 d (s2.damping d) } } : State).latchDamper ds

/-! ### Send queues (R485) -/

/-- A packet begun by a queue is completed, the rest discarded. -/
def State.flushQueue (s : State) (k : Nat) (loose : Bool) : State :=
  let n := if loose then 1 else 0
  let s := match nextSend ((s.tile k).queue n) with
    | none => s
    | some d => if d.sent % d.stride = 0 then s else s.injectHead k loose 17
  s.setTile k ((s.tile k).setQueue n [])

/-- Both queues of every tile. -/
def State.flushQueues (s : State) : List Nat → State
  | [] => s
  | k :: ks => ((s.flushQueue k false).flushQueue k true).flushQueues ks

/-! ### The tick's state in the units -/

/-- A wait that no issue has ended by the beacon: a free number of cycles added to the bound thread's count, for no rule dates its end (R57). -/
def State.endWait (s : State) (k : Nat) : State :=
  let t := s.tile k
  if (t.thread 0).waitFrom.isNone then s
  else (s.setTile k (t.setSys 11 (BitVec.ofNat 32 (min (2 ^ 32 - 1) ((t.sys 11).toNat + s.free))))).drawn

/-- The waits of every tile. -/
def State.endWaits (s : State) : List Nat → State
  | [] => s
  | k :: ks => (s.endWait k).endWaits ks

/-- A thread that starts at cycle 0 or stays idle for the tick (R35). -/
def Tile.freshThread (t : Tile) (n : Nat) : Thread :=
  if n = 0 then { Thread.reset with state := .running }
  else if flag (t.sys (3 + n)) 31 then { Thread.reset with state := .running, pc := fld (t.sys (3 + n)) 11 0 } else Thread.reset

/-- A thread at cycle 0 (R32, R35, R37): the bound thread at index 0, a loose thread at its entry where enabled, none of an `idle` core; a loose
thread whose remote operation has timed out stays parked. -/
def Tile.startThread (t : Tile) (idle : Bool) (n : Nat) : Thread :=
  let start := if idle then Thread.reset else t.freshThread n
  match (t.thread n).remote with
  | some r => if r.timedOut then { Thread.reset with state := .parked, wait := .remote, remote := some r } else start
  | none => start

/-- The remote operations whose timers run on past a beacon (R37, R278). -/
def Tile.orphaned (t : Tile) : List (Nat × RemoteOut) :=
  [1, 2, 3].filterMap (fun n => match (t.thread n).remote with
    | some r => if r.timedOut then none else some (n, r)
    | none => none)

/-- A tile at cycle 0: registers, accumulators, counters and granule marks clear; counter 15 starts at 1 in a rebuild tick (R32, R46, R51,
R82, R246, R342, R346). -/
def Tile.atBeacon (t : Tile) (hold load rebuild : Bool) : Tile :=
  let held := hold || t.hwFault
  let idle := held || load || !t.placed
  { t with
    held := held, loading := load,
    threads := SMap.set Thread.reset (SMap.set Thread.reset (SMap.set Thread.reset (SMap.set Thread.reset [] 0 (t.startThread idle 0))
      1 (t.startThread idle 1)) 2 (t.startThread idle 2)) 3 (t.startThread idle 3),
    orphans := t.orphans ++ t.orphaned,
    cycle := 0, lastLoose := 3, acc := [], accBad := [], accFrom := [], macLast := [], mac := [], portFree := 0, stored := 0, done := false, checkBad := false,
    ctr := (if rebuild && !idle then SMap.set 0 [] 15 1 else []), granules := [] }

/-- A router at a beacon: windows restart, the tokens of the SYNCs of the tick just ended no longer count, counters clear, and the run of ticks with link
errors goes on where this tick had one (R95, R138, R153, R154). -/
def Router.atBeacon (r : Router) : Router :=
  { r with window := 0, isOpen := false, left := 0, tokens := [], map := [], errNow := [],
           errRun := r.errNow.keep (fun _ => true) |>.map (fun kb => (kb.1, satAdd 8 (r.errRun.get 0 kb.1) 1)) }

/-- A transmit group at a beacon: its windows and the Hearth cycle count restart; queued blocks stay (R171). -/
def TxGroup.atBeacon (q : TxGroup) : TxGroup := { q with window := 0, isOpen := false, opened := 0, stream := 0, left := 0, offFrom := 0 }

/-- A port at a beacon: windows and sequence numbers restart, counters clear, lane error runs go on (R161, R171, R185, R187). DESIGN CHOICE: a round still
on its way onto the sum flues is cut off. -/
def HPort.atBeacon (x : HPort) : HPort :=
  { x with tx := x.tx.mapSet TxGroup.reset (fun _ q => q.atBeacon), sequence := [], map := [], status := [], laneNow := [], sending := none,
           laneRun := x.laneNow.map (fun kb => (kb.1, satAdd 8 (x.laneRun.get 0 kb.1) 1)) }

/-- A fabric port at a beacon: windows and counts restart, cells of the tick before that have not left are dropped, and the marks and peaks of the new map
start from what the port holds (R269 to R271, R285). -/
def FabPort.atBeacon (x : FabPort) (open_ : Nat) : FabPort :=
  let n := fun b => (x.rx.get [] b).length
  { x with window := 0, sending := none, lost := [], rxCount := [], written := [], wait := x.wait.filter (fun c => c.lane != 0),
           map := (((((SMap.set 0 [] 3 (x.peerOff % 2)).set 0 4 (if x.peerOff / 2 % 4 = 0 then 0 else 1)).set 0 8 open_).set 0 9 (max (n 1) (n 2))).set 0 10 (n 0)) }

/-- Group status words of the tick just ended (R202). -/
def State.latchStatus (s : State) : List Nat → State
  | [] => s
  | p :: ps => ((List.range 36).foldl (fun s r => s.setTbl (tblKey 2 p 4 r) ((s.port p).status.get 0 r)) s).latchStatus ps

/-! ### Rings at a beacon (R249, R250) -/

/-- The rings of a stack at the beacon of tick n: an input slot that has locked loses its ready word, the output slot of tick n gets its header; the
ring is filling or open, its slot shown. -/
def State.openRings (s : State) (m n : Nat) : List RingInfo → State
  | [] => s
  | r :: rs =>
    let k := if r.slots = 0 then 0 else n % r.slots
    let w := s.ringStatus m r.index
    let s := if r.output then s.memHeader m (r.slotAt k) (slotHeader n 0 0)
      else if fld w 27 26 = 0 then s
      else s.memHeader m (r.slotAt (fld w 31 28) + 12) (leBytes 4 0)
    (s.setRingStatus m r.index (setFld (setFld w 31 28 k) 27 26 0)).openRings m n rs

/-- The rings and granule marks of every stack. -/
def State.openStacks (s : State) (n : Nat) : List Nat → State
  | [] => s
  | m :: ms =>
    let s := s.openRings m n (s.rings m)
    (s.setStack m { s.stack m with granules := [] }).openStacks n ms

/-! ### The tick beacon -/

/-- The end of the tick before, at each tick beacon: reported die failures are acted on, begun packets completed, maps, stretches and status latched. -/
def State.closeTick (s : State) : State :=
  let s := s.dieFails s.recovery.dieReports
  let ks := s.tiles.map (fun kt => kt.1)
  let s := ((s.flushQueues ks).endWaits ks).storeMaps
  ((s.latchRegions regionList).latchDamper (List.range 16)).latchStatus (List.range 16)

/-- Packets that stand at routers over a beacon mark the traffic of the new tick (R154). -/
def State.markTraffic (s : State) : List Flight → State
  | [] => s
  | f :: fs => (s.traffic f.router f.vc 1).markTraffic fs

/-- A snapshot in progress at a beacon where steering changes is discarded (R352). -/
def State.snapshotLimit (s : State) : State :=
  if s.recovery.ckptRunning && s.tick.parity != flag (s.reg Reg.TCK_EPOCH) 0 then s.dropSnapshot else s

/-- The complete byte of a snapshot slot written in some stacks (R352). -/
def State.markSlots (s : State) (slot : Nat) (v : Byte) : List Nat → State
  | [] => s
  | m :: ms => (s.memHeader m (0xA00000000 + 128 * slot + 7) [v]).markSlots slot v ms

/-- The older slot (R352): the one that TCK_CKPT_STATUS does not name; where no snapshot has been completed since that register was cleared, the headers tell: one that
is not whole, else the one of the earlier tick (DEDUCED). -/
def State.olderSlot (s : State) : Nat :=
  let w := s.reg Reg.TCK_CKPT_STATUS
  let whole := fun k => (s.stack 0).byte (0xA00000000 + 128 * k + 7) == 1
  let tick := fun k => leNat ((s.stack 0).bytes (0xA00000000 + 128 * k + 8) 8)
  if fld w 15 0 ≠ 0 then (if flag w 29 then 0 else 1)
  else if !(whole 0) then 0
  else if !(whole 1) || decide (tick 1 < tick 0) then 1
  else 0

/-- A snapshot that starts with this beacon (R352): every stack copies. -/
def State.snapshotStart (s : State) : State :=
  if s.recovery.ckptStart then
    let slot := s.olderSlot
    let s := { s with recovery := { s.recovery with ckptStart := false, ckptRunning := true, ckptSlot := slot, ckptLeft := List.range 16 } }
    let s := s.markSlots slot 0 (List.range 16)
    s.setRegFld Reg.TCK_CKPT_STATUS 31 30 1
  else s

/-- Whether this module's own generator originates the group's beacon frames (R280). -/
def State.originates (s : State) : Bool := flag (s.reg (Reg.FAB_BEACON 2)) 31

/-- A beacon frame of the originator to its children (R280, R281): type 1, byte 1 set for a tick frame. -/
def State.originFrame (s : State) (tick : Bool) (n : Nat) : State :=
  if s.originates then s.sendMgmtAll (mgmtPayload 1 (if tick then 1 else 0) n 0 0) s.children else s

/-- The bookkeeping of a fresh tick. -/
def TickState.open_ (t : TickState) (parity recovery rebuild abandon : Bool) : TickState :=
  { t with isOpen := true, parity := parity, guard := false, closed := false, charged := t.chargeNext, late := false, chargeNext := false,
           abandonBeacon := abandon, overrun := false, recovery := recovery, takeover := false, rebuild := rebuild, rebuildNext := false, verdict := none,
           voteSent := false, votes := [], decision := none, cause := 0, resolved := false, lastDone := 0, edge := 0, frame := none }

/-- Tick `n` begins (R216): all that its beacon does in every unit, from the relay's frame on (R181). `abandon`: its beacon is an abandoning one (R215). -/
def State.openTick (s : State) (n : Nat) (abandon : Bool) : State :=
  let was := s.ticking
  let s := s.closeTick
  if was && !s.ticking then s
  else
    let first := !was
    let rebuild := first || s.tick.rebuildNext
    let s := s.correctTime false
    let s := s.snapshotLimit
    let s := (s.fenceDies (List.range 16)).setSeq n
    let s := { s with job := { s.job with start := none } }
    let s := if s.mode == .running then s else (s.setRegFld Reg.TCK_STATUS 27 27 1).go .running 0
    let s := s.sendFrame 1 0xFF 0x40 (n % 2 ^ 32)
    let s := { s with tick := s.tick.open_ (flag (s.reg Reg.TCK_EPOCH) 0) false rebuild abandon }
    let degradedFirst := !first && rebuild
    let s := s.adoptAll first
    let s := if degradedFirst then s.putWords true (s.imgTables s.degradedImage [11]) else s
    let s := s.adoptFences
    let loading := s.recovery.loading
    let s := { s with
      tick := { s.tick with recovery := s.recovery.takeover || !loading.isEmpty, takeover := s.recovery.takeover }
      tiles := s.tiles.mapSet Tile.reset (fun k t => t.atBeacon s.recovery.takeover (loading.contains k) rebuild)
      routers := s.routers.mapSet Router.reset (fun _ r => r.atBeacon)
      ports := s.ports.mapSet HPort.reset (fun _ x => x.atBeacon)
      fabric := { s.fabric with ports := s.fabric.ports.mapSet FabPort.reset (fun f x => x.atBeacon (s.combiner f).length) } }
    let s := (s.markTraffic s.flights).openStacks n (List.range 16)
    let s := s.lockAll (fun r => r.word3 == 0) (List.range 16)
    let s := ((s.snapshotStart.originFrame true n).showStage).latchQuote
    if s.failedPathUsed then s.planeLoss else s

/-- An idle beacon (R213, R225, R226): time correction and the latches; die fences that waited take effect, and a snapshot that waited for the
beacon after its commit starts (R352). -/
def State.idle (s : State) : State :=
  let s := (((s.fenceDies (List.range 16)).correctTime true).latchQuote).originFrame false (s.seq + 1)
  if s.ticking then s
  else ({ s with tick := { s.tick with parity := flag (s.reg Reg.TCK_EPOCH) 0 } } : State).snapshotStart

end Sys2Proof.Machine
end

