-- ==== Sys2Proof/Machine/Ember.lean ====
section
/-! DEFINITION. Ember-sum (chapter 07): packets of codes, rounds on the sum flues, their detection and delivery, and tone windows. -/

namespace Sys2Proof.Machine

/-- The send entry word of a port in force. -/
def State.sendEntry (s : State) (p g w : Nat) : Word := emberSend s.tblWord p g w
/-- The receive entry word of a port in force. -/
def State.recvEntry (s : State) (p r w : Nat) : Word := emberRecv s.tblWord p r w

/-- The packet of codes that sum traffic carries (R196). -/
def Flight.codes (f : Flight) : SumPacket :=
  let h := f.hblk.toNat
  { group := h / 2 ^ 48 % 16, stream := h / 2 ^ 40 % 256, tick := h / 2 ^ 36 % 16, last := h / 2 ^ 31 % 2 == 1, index := h % 2 ^ 14,
    codes := f.data.map (fun b => b.toNat % 64) }

/-- SUM_PACKET_QUEUE: packet `k` in flight, sum traffic on the link to its lattice gateway, enters the 64 places of group 37, or waits while they are taken;
one whose send entry is not valid is discarded with error 0x03 (R166, R196), a poisoned one without (R98). -/
def execSumPacketQueue (p : Fin 16) (k : Nat) (ev : FlitEvent) (s : State) : Host.Outcome State Fault Refusal :=
  match s.flights[k]? with
  | none => .next s
  | some f =>
    let valid := flag (s.sendEntry p f.codes.group 0) 31
    if !(keyDie f.router == p.val && f.port == 6 && f.isSum && s.mayMove k f) || (valid && decide (64 ≤ (s.port p).sums.length)) then .next s
    else
      match ({ s with flights := s.flights.eraseIdx k } : State).linkEvent f ev with
      | (s, none) => .next s
      | (s, some g) =>
        if g.poison.isSome then .next s
        else if !valid then .next (s.emberError p f.codes.group 0x3F 0 0x03)
        else .next (s.setPort p { s.port p with sums := (s.port p).sums ++ [g.codes] })

/-! ### A round on its lanes (R197, R198) -/

/-- A queue without what a round that ran short left of a stream: its packets before the next that begins a contribution (DESIGN CHOICE: the manual says
nothing of such packets). -/
def dropShort (stream : Nat) : List SumPacket → List SumPacket
  | [] => []
  | x :: q => if x.stream ≠ stream then x :: dropShort stream q else if x.index ≠ 0 then dropShort stream q else x :: q

/-- The next packet of a stream and send entry in a queue, the packets of the stream with another entry before it, and the queue without them (R196). -/
def takePacket (stream group : Nat) : List SumPacket → Option SumPacket × Nat × List SumPacket
  | [] => (none, 0, [])
  | x :: q =>
    if x.stream ≠ stream then
      let (a, n, r) := takePacket stream group q
      (a, n, x :: r)
    else if x.group ≠ group then
      let (a, n, r) := takePacket stream group q
      (a, n + 1, r)
    else (some x, 0, q)

/-- The round that an open window of group 37 begins: that of its stream's first packet, at the first frame boundary after the window opens (R197). -/
def State.newRound (s : State) (p : Nat) (y : SumPacket) : SumRound :=
  let e := s.sendEntry p y.group 0
  { src := p, entry := y.group, dst := s.bayDie (fld e 27 24), rx := fld e 23 18, first := fld e 17 12, width := fld e 11 6,
    len := fld (s.sendEntry p y.group 1) 14 0, start := (((s.port p).group 37).opened / 16 + 1) * 16, codes := [], late := false }

/-- Up to `n` further packets of a round fall due: each gives its codes, and the first that is not in the queue makes code 32 of the rest, with error 0x04
(R198). -/
def State.feedRound (s : State) (p stream : Nat) (r : SumRound) : Nat → State × SumRound
  | 0 => (s, r)
  | n + 1 =>
    if r.len ≤ r.codes.length then (s, r)
    else
      let (y, wrong, rest) := takePacket stream r.entry (s.port p).sums
      let clean := (s.setPort p { s.port p with sums := rest }).emberErrors p r.entry 0x03 wrong
      let short := fun (s : State) => (s.emberError p r.entry 0x3F 0 0x04, { r with codes := r.codes ++ List.replicate (r.len - r.codes.length) 32 })
      match y with
      | none => short clean
      | some y =>
        if y.index = r.codes.length then
          clean.feedRound p stream { r with codes := r.codes ++ y.codes.take (r.len - r.codes.length) } n
        else short s

/-- The window of group 37 that was open is done (R171). -/
def HPort.shutSum (x : HPort) : HPort :=
  let q := x.group 37
  if q.isOpen then x.setGroup 37 { q with isOpen := false, left := 0, window := q.window + 1 } else x

/-- A round after some of its packets: under way, or all on its lanes with its window done (R197). -/
def State.putRound (s : State) (p : Nat) (r : SumRound) : State :=
  if r.codes.length < r.len then s.setPort p { s.port p with sending := some r }
  else ({ s with hearth := { s.hearth with rounds := s.hearth.rounds ++ [r] } } : State).setPort p { (s.port p).shutSum with sending := none }

/-- SUM_ROUND_SEND: the round of the open window of group 37 begins or goes on, and up to `packets` of its packets fall due (R197, R198). DESIGN CHOICE: a
window whose stream has no packet that begins a contribution sends no round, and its error 0x04 names entry 0x3F. -/
def execSumRoundSend (p : Fin 16) (packets : Nat) (s : State) : Host.Outcome State Fault Refusal :=
  let x := s.port p
  let q := x.group 37
  let go := fun (s : State) (r : SumRound) =>
    let (s, r) := s.feedRound p q.stream r packets
    s.putRound p r
  match x.sending with
  | some r => .next (go s r)
  | none =>
    if !(q.isOpen && s.ticking) then .next s
    else
      let s := s.setPort p { x with sums := dropShort q.stream x.sums }
      match (s.port p).sums.find? (fun y => y.stream == q.stream) with
      | none => .next ((s.setPort p (s.port p).shutSum).emberError p 0x3F 0x3F 0 0x04)
      | some y => .next (go s (s.newRound p y))

/-! ### Detection (R199 to R202, R204) -/

/-- The status word of a receive entry this tick (R202). -/
def State.groupStatus (s : State) (p r : Nat) : Word := (s.port p).status.get 0 r
/-- The state with bits of a receive entry's status set. -/
def State.markGroup (s : State) (p r : Nat) (m : Word) : State :=
  let x := s.port p
  s.setPort p { x with status := x.status.set 0 r (x.status.get 0 r ||| m) }

/-- The rounds that reach an entry together: of each masked contributor's first round, those that began on the earliest frame boundary (R197, R199). -/
def firstRounds (p r : Nat) (who : List Nat) (rounds : List SumRound) : List SumRound :=
  let first := who.filterMap (fun c => rounds.find? (fun x => x.src == c && x.dst == p && x.rx == r))
  first.filter (fun x => first.all (fun y => decide (x.start ≤ y.start)))

/-- The code sums less 32 for each contributor, value by value (R122). -/
def codeSums : Nat → List SumRound → List Int
  | 0, _ => []
  | n + 1, rs =>
    ((rs.map (fun x => (x.codes.headD 32 : Int) - 32)).foldl (· + ·) 0) ::
      codeSums n (rs.map (fun x => { x with codes := x.codes.tail }))

/-- The FP32 word of m × 2^b, exact (R200). -/
def emberWord (m b : Int) : Word := (toF32 (if m = 0 then .fin false 0 0 else .fin (decide (m < 0)) m.natAbs b)).1

/-- The values a detector converts for code sums: within one step of each while calibration is valid, else any that the converter may give
(R122); the draws number them. -/
def converted (draw n : Nat) (ok : Bool) : List Int → List Int
  | [] => []
  | x :: xs =>
    let v : Int := if ok then max (-32 * n) (x + (Config.free draw % 3 : Nat) - 1) else ((Config.free draw % 256 : Nat) : Int) - 32 * n
    v :: converted (draw + 1) n ok xs

/-- The start sample of detector `k` of an entry: 31 for each contributor present, and its deviation, the first of the detector's four (R199). -/
def startSample (present : Nat) (dev : List Int) (k : Nat) : Int := 31 * (present : Int) + dev.getD (4 * k) 0

/-- The first of a receive entry's `w` detectors at which the preamble fails: its start sample lies away from 31 n, or one of the next three samples away from
0, by more than the tolerance; all must start together (R199). -/
def preambleFault (tol n present w : Nat) (dev : List Int) : Option Nat :=
  (List.range w).find? (fun k => !(decide (16 ≤ startSample present dev k)) || present != n ||
    decide (tol < (startSample present dev k - 31 * (n : Int)).natAbs) || [1, 2, 3].any (fun j => decide (tol < (dev.getD (4 * k + j) 0).natAbs)))

/-- Whether every path of a receive entry has cal_ok (R204, R381). -/
def State.calValid (s : State) (p r : Nat) (who : List Nat) : Bool :=
  let w := s.recvEntry p r 2
  (List.range (fld w 25 20)).all (fun i => who.all (fun c => flag (s.tblWord (tblKey 2 p 2 (16 * (fld w 31 26 + i) + c))) 31))

/-- A round's values in FP32 enter the result buffer of 131,072; those that find it full are dropped, each with error 0x06 (R200, R201). -/
def State.bufferResults (s : State) (p r : Nat) (late : Bool) (ms : List Int) : State :=
  let w0 := s.recvEntry p r 0
  let w1 := s.recvEntry p r 1
  let b : Int := ((fld w0 7 0 : Nat) : Int) - (if fld w0 7 0 ≥ 128 then 256 else 0)
  let x := s.port p
  let room := 131072 - (x.results.map (fun y => y.words.length)).foldl (· + ·) 0
  let y : SumResult :=
    { row := fld w1 31 26, col := fld w1 25 20, offset := fld w1 19 0, ctr := fld w0 11 8, tick := s.seq % 256, entry := r,
      words := (ms.map (fun m => emberWord m b)).take room, whole := decide (ms.length ≤ room) && !late }
  (if y.words.isEmpty then s else s.setPort p { x with results := x.results ++ [y] }).emberErrors p r 0x06 (ms.length - room)

/-- SUM_ROUND_RECEIVE: what comes to an entry's detectors, `dev` the deviations of the four preamble samples of each: a start sample of 16 or more starts a
round, whose preamble is checked; its values are then converted and enter the result buffer (R199 to R201, R204). Light that starts no round passes. -/
def execSumRoundReceive (p : Fin 16) (entry : Fin 36) (dev : List Int) (s : State) : Host.Outcome State Fault Refusal :=
  let w0 := s.recvEntry p entry 0
  let w2 := s.recvEntry p entry 2
  let who := (bits16 (fld w0 27 12)).map s.bayDie
  let rs := firstRounds p entry who s.hearth.rounds
  let w := fld w2 25 20
  if !(flag w0 31) then .next s
  else
    let s := { s with hearth := { s.hearth with rounds := s.hearth.rounds.filter (fun x => !(rs.contains x)) } }
    if !((List.range w).any (fun k => decide (16 ≤ startSample rs.length dev k))) then .next s
    else
      match preambleFault (fld (s.reg Reg.EMB_ALIGN_TOL) 2 0) who.length rs.length w dev with
      | some k => .next ((s.markGroup p entry 0x20000000).emberError p entry (fld w2 31 26 + k) 0 0x05)
      | none =>
        let ok := s.calValid p entry who
        let ms := converted s.draws who.length ok (codeSums (fld w2 14 0) rs)
        let s := (s.drawn (fld w2 14 0)).bufferResults p entry (rs.any (fun r => r.late)) ms
        .next (if ok then s else (s.markGroup p entry 0x40000000).emberError p entry (fld w2 31 26) 0 0x08)

/-- SUM_RESULT_DELIVERY: a packet of up to 128 results leaves the buffer for its tile through the lattice gateway of R166, hop by hop with the events listed
and the rest of its way by MESH_PACKET_ARRIVAL; the last of a whole round raises the counter as it lands (R200 to R202). -/
def execSumResultDelivery (p : Fin 16) (evs : List FlitEvent) (s : State) : Host.Outcome State Fault Refusal :=
  let x := s.port p
  match x.results with
  | [] => .next s
  | y :: ys =>
    let now := y.words.take 128
    let rest := y.words.drop 128
    let last := rest.isEmpty && y.whole
    let s := s.setPort p { x with results := if rest.isEmpty then ys else { y with words := rest, offset := y.offset + 512 } :: ys }
    let s := s.markGroup p y.entry 0x80000000
    let s := if last then
        s.setPort p { s.port p with status := (s.port p).status.set 0 y.entry (bumpFld (s.groupStatus p y.entry) 27 16 1) }
      else s
    if y.col > 47 then .next s
    else .next ((s.toTile p false y.row y.col y.offset y.tick y.ctr last ((now.map (fun w => leBytes 4 w.toNat)).flatten) false).travel s.flights.length evs)

/-! ### Tones (R203 to R205, R381) -/

/-- A trim moved by one eighth of a measured error, kept to its 12 bits. -/
def moveTrim (trim : Nat) (e : Int) : Nat := (min 4095 (max 0 ((trim : Int) + e / 8))).toNat

/-- Whether a handover ramp at the position that feeds a port is under way or has ended since a path's last window (R367, R381). -/
def State.rampMet (s : State) (path c : Nat) : Bool :=
  let f := feedOf c
  (s.light.ramp.get 0 f.1 != 0 && s.sparePos f.1 == f.2) || s.light.ramps.get 0 (6 * f.1 + f.2) != s.light.rampSeen.get 0 path

/-- TONE_WINDOW: a 100 µs window of a path: its tone (1/2,048 of nominal) is recorded, its gain trim and the detector's offset trim move by one
eighth of the errors (in trim codes of 0.01 % and 0.01 step, DESIGN CHOICE); cal_ok follows R381; three weak windows fail the path (R205). DEDUCED: a
port without light gives no tone (R367). -/
def execToneWindow (p : Fin 16) (det : Fin 36) (c : Fin 16) (tone : BitVec 12) (gainErr : Int) (offsetErr : Int) (s : State) :
    Host.Outcome State Fault Refusal :=
  if p = c ∨ s.mode = .banked then .next s
  else
    let a := tblKey 2 p 2 (16 * det.val + c.val)
    let o := tblKey 2 p 3 det
    let i := 16 * det.val + c.val
    let w := s.tblWord a
    let tone := if s.lit c then tone.toNat else 0
    let good := flag (s.tblWord (tblKey 4 0 3 (144 + det.val))) 31 && decide (1536 ≤ tone ∧ tone ≤ 2560) &&
      decide ((gainErr - gainErr / 8).natAbs ≤ 20 ∧ (offsetErr - offsetErr / 8).natAbs ≤ 15) &&
      !(s.rampMet (576 * p.val + i) c)
    let run := if good then min 3 (s.light.calRun.get 0 (576 * p.val + i) + 1) else 0
    let weak := if tone < 512 then min 3 ((s.port p).weak.get 0 i + 1) else 0
    let w := setFlag (setFld (setFld w 23 12 (moveTrim (fld w 23 12) gainErr)) 11 0 tone) 31 (decide (run = 3))
    let s := (s.setTbl a w).setTbl o (BitVec.ofNat 32 (moveTrim (fld (s.tblWord o) 11 0) offsetErr))
    let f := feedOf c
    let s := { s with light := { s.light with calRun := s.light.calRun.set 0 (576 * p.val + i) run,
                                              rampSeen := s.light.rampSeen.set 0 (576 * p.val + i) (s.light.ramps.get 0 (6 * f.1 + f.2)) } }
    let before := (s.port p).weak.get 0 i
    let s := s.setPort p { s.port p with weak := (s.port p).weak.set 0 i weak }
    if weak = 3 ∧ before ≠ 3 then
      let s := (s.setTbl a (setFlag (s.tblWord a) 30 true)).emberError p 0x3F det c 0x09
      .next (if s.pathInUse p det c then s.planeLoss else s)
    else .next s

end Sys2Proof.Machine
end

