-- ==== Sys2Proof/Machine/Tick.lean ====
section
/-! DEFINITION. The tick generator, the guard, clocks and module time (chapter 08). -/

namespace Sys2Proof.Machine

/-! ### Beacons (R211 to R216, R280, R281) -/

/-- The selected source: 0 internal timer, 1 TICK_IN, 2 Huaren (R211). -/
def State.source (s : State) : Nat := fld (s.reg Reg.TCK_SRC) 17 16

/-- Whether a START_JOB waits for its beacon in Loaded; in a standby module it waits on until the module takes over (R21, R24, R305). -/
def State.startDue (s : State) : Bool := s.mode == .loaded && s.job.start.isSome && !(flag (s.reg Reg.TCK_ROLE) 31)

/-- Whether a tick may begin: Running with the tick before resolved, or a first tick that is due (R21, R213). -/
def State.tickDue (s : State) : Bool := (s.mode == .running && s.tick.resolved) || s.startDue

/-- The number of the next tick of a module that counts for itself: START_JOB's for the first (R216, R305). -/
def State.nextSeq (s : State) : Nat := if s.mode == .loaded then (s.job.start.getD 0).toNat else (s.seq + 1) % 2 ^ 64

/-- TCK_STATUS as a beacon leaves it: 0 following the source, 1 flywheel, 2 source lost, and the source in use. -/
def State.showSource (s : State) (st : Nat) : State := (s.setRegFld Reg.TCK_STATUS 31 30 st).setRegFld Reg.TCK_STATUS 29 28 s.source

/-- TICK_BEACON: a tick beacon from the selected source. A Huaren frame of another number than the expected one, or that came late, is an
abandoning beacon (R213 to R216, R280). -/
def execTickBeacon (s : State) : Host.Outcome State Fault Refusal :=
  if !s.tickDue then .next s
  else match s.source with
    | 0 => .next ((s.showSource 0).openTick s.nextSeq false)
    | 1 => if s.tick.edge = 1 then .next ((s.showSource 0).openTick s.nextSeq false) else .next s
    | 2 =>
      match s.tick.frame with
      | none => .next s
      | some f =>
        if !s.fabric.frameTick then .next s
        else
          let wrong := s.mode == .running && decide (f.toNat ≠ s.nextSeq)
          let s := if wrong then s.orReg Reg.TCK_EVENTS 0x20 else s
          .next ((s.showSource 0).openTick f.toNat (wrong || s.fabric.frameLate))
    | _ => .next s

/-- The edge or frame of an idle beacon is used up. -/
def State.useSource (s : State) : State := { s with tick := { s.tick with edge := 0, frame := none } }

/-- Whether an idle beacon may fire (R213, R281): in Loaded on the selected source while no first tick waits for it, from an idle frame in
Running or Draining, from the internal timer in every other powered state. -/
def State.idleDue (s : State) : Bool :=
  match s.mode with
  | .off => false
  | .optionLoad => false
  | .loaded =>
    match s.source with
    | 0 => !s.startDue
    | 1 => !s.startDue && s.tick.edge == 1
    | _ => s.tick.frame.isSome && !(s.fabric.frameTick && s.startDue)
  | .running => s.source == 2 && s.tick.frame.isSome && !s.fabric.frameTick
  | .draining => s.source == 2 && s.tick.frame.isSome && !s.fabric.frameTick
  | _ => true

/-- IDLE_BEACON: an idle beacon; it starts no tick, leaves the sequence number and carries the time correction (R213, R281). -/
def execIdleBeacon (s : State) : Host.Outcome State Fault Refusal :=
  if s.idleDue then .next (s.idle.useSource.showSource 0) else .next s

/-- A miss of the selected source: counted; three in a row lose it (R214, R215). -/
def State.miss (s : State) : State :=
  if s.tick.edge = 2 then s
  else
    let n := min 3 (s.tick.misses + 1)
    let s := s.bumpReg Reg.TCK_SRC_COUNT 15 0
    let s := { s with tick := { s.tick with misses := n, regain := 0 } }
    if n = 3 && !s.tick.srcLost then ({ s.orReg Reg.TCK_EVENTS 8 with tick := { s.tick with srcLost := true, regain := 0 } }) else s

/-- FLYWHEEL_BEACON: no edge was accepted, or no frame came: the generator fires on its own (R214, R215). Under the Huaren source the tick it
starts is abandoned. -/
def execFlywheelBeacon (s : State) : Host.Outcome State Fault Refusal :=
  let missing := match s.source with
    | 1 => s.tick.edge != 1 || s.tick.srcLost
    | 2 => s.tick.frame.isNone
    | _ => false
  let idle := s.mode == .loaded && !(s.source == 1 && s.startDue)
  if !missing || !(s.tickDue || idle) then .next s
  else
    let s := s.miss.orReg Reg.TCK_EVENTS 0x10
    let s := s.showSource (if s.tick.srcLost then 2 else 1)
    if idle then .next s.idle.useSource else .next (s.openTick s.nextSeq (s.source == 2))

/-- TICK_IN_EDGE: a rising edge of TICK_IN, `offsetNs` after the expected time E of its period (R214). While the source is lost one edge of a period counts
towards its regain, and a period without one starts the count again. -/
def execTickInEdge (offsetNs : Int) (s : State) : Host.Outcome State Fault Refusal :=
  let w : Int := 1000 * (fld (s.reg Reg.TCK_SRC) 7 0 : Nat)
  let inside := decide (-w ≤ offsetNs ∧ offsetNs ≤ w)
  if s.source ≠ 1 || !(s.mode == .loaded || s.ticking) then .next s
  else if s.tick.srcLost then
    if s.tick.edge = 2 then .next s
    else if !inside then .next { s with tick := { s.tick with regain := 0 } }
    else if s.tick.regain + 1 ≥ 8 then
      .next ({ s with tick := { s.tick with regain := 0, srcLost := false, misses := 0, edge := 2 } }.orReg Reg.TCK_EVENTS 4)
    else .next { s with tick := { s.tick with regain := s.tick.regain + 1, edge := 2 } }
  else if s.tick.edge = 1 || !inside then .next (s.bumpReg Reg.TCK_SRC_COUNT 31 24)
  else
    let s := if offsetNs > 0 then s.bumpReg Reg.TCK_SRC_COUNT 23 16 else s
    .next { s with tick := { s.tick with edge := 1, misses := 0 } }

/-! ### The guard (R49, R172, R200, R218, R220, R246, R271, R284) -/

/-- A tile whose core is to run in this tick: one in service with a program, unless the tick's beacon held every core for a takeover or it is a spare
being loaded. A core held for its own fault counts, and is never done (R51, R53). -/
def State.runsCore (s : State) (k : Nat) : Bool :=
  s.tilePowered k && (s.tile k).placed && !(s.tile k).loading && !s.tick.takeover

/-- Whether a running, unfenced core is not done (R49). -/
def State.overran (s : State) : Bool := s.tiles.any (fun kt => s.runsCore kt.1 && !kt.2.done)

/-- Whether a scheduled group still holds a block or an unfinished window (R172). -/
def State.groupUnfinished (s : State) (p g : Nat) : Bool :=
  let e := s.groupWord p g
  let q := (s.port p).group g
  let word := fun k => s.tblWord (tblKey 1 p 1 (2 * (fld e 10 0 + k) + 1))
  flag e 31 && !(flag e 30) &&
    (!q.queue.isEmpty || q.isOpen || (g == 37 && (!(s.port p).sums.isEmpty || (s.port p).sending.isSome)) ||
      (List.range (fld e 26 16)).any (fun k => decide (q.window ≤ k) && flag (word k) 31 && fld (word k) 15 0 != 0))

/-- Unfinished groups make the tick an overrun, with error 0x05 (R172). -/
def State.checkGroups (s : State) : List (Nat × Nat) → State
  | [] => s
  | (p, g) :: ps =>
    (if s.groupUnfinished p g then ({ s with tick := { s.tick with overrun := true } } : State).hearthError p g 0x3FF 0 0x05 else s).checkGroups ps

/-- Whether a round of a receive entry is unfinished: on its way onto the sum flues, on them, or in the result buffer (R200). -/
def State.roundUnfinished (s : State) (p r : Nat) : Bool :=
  let mine := fun (x : SumRound) => x.dst == p && x.rx == r
  s.hearth.rounds.any mine || s.ports.any (fun kp => kp.2.sending.any mine) || (s.port p).results.any (fun y => y.entry == r)

/-- A round with its lateness marked, where it goes to an entry. -/
def SumRound.mark (x : SumRound) (p r : Nat) : SumRound := if x.dst = p ∧ x.rx = r then { x with late := true } else x

/-- The rounds of a receive entry marked late, so that they raise no counter (R200). -/
def State.markLate (s : State) (p r : Nat) : State :=
  let s := { s with
    hearth := { s.hearth with rounds := s.hearth.rounds.map (fun (x : SumRound) => x.mark p r) }
    ports := s.ports.mapSet HPort.reset (fun _ (x : HPort) => { x with sending := x.sending.map (fun (y : SumRound) => y.mark p r) }) }
  s.setPort p { s.port p with results := (s.port p).results.map (fun (y : SumResult) => if y.entry = r then { y with whole := false } else y) }

/-- Unfinished rounds record error 0x07, set short in their group status and make the tick an overrun; they raise no counter (R200, R202). -/
def State.checkRounds (s : State) : List (Nat × Nat) → State
  | [] => s
  | (p, r) :: ps =>
    let s : State := if s.roundUnfinished p r then
        ({ (s.markLate p r).markGroup p r 0x10000000 with tick := { s.tick with overrun := true } } : State).emberError p r 0x3F 0 0x07
      else s
    s.checkRounds ps

/-- The fabric at guard start: a port in use with incomplete traffic, or whose link is down, records error 0x05 with its first incomplete window; the run of
ticks with the link down is kept (R271, R284, R287). -/
def State.checkFabric (s : State) : List Nat → State
  | [] => s
  | f :: fs =>
    let used := s.portUsed f
    let down := used && !s.linkUp f
    let s := if down || (s.incomplete f).isSome then s.fabricError f 0 ((s.incomplete f).getD 0) 0x05 else s
    (s.setFport f { s.fport f with downRun := (if down then min 3 ((s.fport f).downRun + 1) else 0) }).checkFabric fs

/-- Whether every granule of a range is marked. -/
def allMarked (m : SMap Bool) (a n size : Nat) : Bool :=
  n == 0 || (List.range ((a + n - 1) / size - a / size + 1)).all (fun i => m.get false (a / size + i))

/-- The valid carry windows with an unmarked granule in the write copy of a powered tile record error 0x05 (R246). -/
def State.checkTile (s : State) (ws : List (Nat × Nat × Nat × Nat × Nat)) (k : Nat) : State :=
  if s.tilePowered k then
    (ws.filter (fun w => !(allMarked (s.tile k).granules (copyBase w (!s.tick.parity)) w.2.2.1 64))).foldl (fun s w => s.carryError k w.1 0x05) s
  else s

/-- Every tile of a die by row and logical column. -/
def State.tilesOf (s : State) (d : Nat) : List Nat :=
  ((List.range 64).map (fun r => (List.range 48).map (fun c => posKey d r (s.physCol d r c)))).flatten

/-- The tile windows of the dies that have valid ones, in every tile (R240, R246). -/
def State.checkTileWindows (s : State) : List Nat → State
  | [] => s
  | d :: ds =>
    let ws := s.carryWins d
    (if ws.isEmpty then s else (s.tilesOf d).foldl (fun s k => s.checkTile ws k) s).checkTileWindows ds

/-- The memory windows with an unmarked granule record error 0x05, with the stack's own port (R246, MEM_ERR_INFO). -/
def State.checkStackWindows (s : State) : List Nat → State
  | [] => s
  | m :: ms =>
    let bad := (s.memWins m).filter (fun w => !(allMarked (s.stack m).granules (if s.tick.parity then w.1 else w.2.2) w.2.1 128))
    (bad.foldl (fun s w => s.memError m (16 + m) 0x05 w.1 true) s).checkStackWindows ms

/-- Whether periods were removed or halved in this tick on a die with a running core: its cycles then last longer by a time that no rule gives (R398). -/
def State.damped (s : State) : Bool := s.tiles.any (fun kt => s.runsCore kt.1 && s.thermal.acted.get 0 (keyDie kt.1) != 0)

/-- The margin of the tick (R220): the time from the latest done report to the guard start, in ns, rounded down; zero for an overrun. Where a die was damped
its done reports came later by free times, so the margin is a free value up to that. -/
def State.recordMargin (s : State) : State :=
  let exact := (32 * (s.reg Reg.TCK_GUARD_OFF).toNat - 5 * s.tick.lastDone) / 32
  let m := if s.tick.overrun then 0 else if s.damped then s.free % (exact + 1) else exact
  let s := s.drawn
  let s := s.setReg Reg.TCK_MARGIN (BitVec.ofNat 32 ((if s.tick.overrun then 2 ^ 31 else 0) + m % 2 ^ 31))
  if m < fld (s.reg Reg.TCK_MIN_MARGIN) 30 0 then s.setReg Reg.TCK_MIN_MARGIN (BitVec.ofNat 32 m) else s

/-- The Stoker pair with control back at A (R361). -/
def State.giveBack (s : State) : State :=
  if s.recovery.returnPending then
    let s := (((s.setRegFld Reg.TCK_STOKER 31 31 0).setRegFld Reg.TCK_STOKER 29 29 0).setDomain 79 0).dropOpen stokerChannels
    { s with recovery := { s.recovery with returnPending := false } }
  else s

/-- The copies of the congestion maps are done: they last 10 µs at most, and a guard starts later than that (R154, R187, R212, R285). -/
def State.mapsDone (s : State) : State :=
  ([Reg.HRT_MAP_TICK, Reg.FAB_MAP_TICK 2, Reg.FAB_MAP_TICK 3] ++ (List.range 16).map Reg.MSH_MAP_TICK).foldl (fun s a => s.clearReg a 0x80000000) s

/-- Ports and groups, ports and entries. -/
def groupPlaces : List (Nat × Nat) := ((List.range 36).map (fun p => (List.range 38).map (fun g => (p, g)))).flatten
/-- Compute ports and receive entries. -/
def roundPlaces : List (Nat × Nat) := ((List.range 16).map (fun p => (List.range 36).map (fun r => (p, r)))).flatten

/-- GUARD_START: the guard-start event, from the relay's frame on (R181): loose threads stop, every share of the tick is judged, and what waits for a guard is done (R37, R49,
R172, R200, R218, R220, R222, R246, R249, R271, R284, R361). -/
def execGuardStart (s : State) : Host.Outcome State Fault Refusal :=
  if !(s.ticking && s.tick.isOpen && !s.tick.guard) then .next s
  else
    let s := ({ s with tick := { s.tick with guard := true, overrun := s.overran } } : State).sendFrame 2 0xFF 0x40 (s.seq % 2 ^ 32)
    let s := ((s.checkGroups groupPlaces).checkRounds roundPlaces).checkFabric (List.range 6)
    let s := (s.checkTileWindows (List.range 16)).checkStackWindows (List.range 16)
    let s := s.lockAll (fun r => decide (s.budget ≤ r.word3)) (List.range 16)
    let s := s.recordMargin
    let s := (((s.upkeepNow).takeReference).giveBack).mapsDone
    .next (if (List.range 6).any (fun f => (s.fport f).downRun == 3) then s.teardown else s)

/-! ### The reference (R221, R222) -/

/-- REFERENCE_LOST: where not yet `detected`, the reference has failed and the synthesiser holds its last frequency; once detected, the hub runs on its
oscillator, whose measured offset, within ±10 ppm, is a free value; `edges`: edges are still present, out of range (R221, R235). A reference that had
returned but was not yet taken back is lost again. -/
def execReferenceLost (detected edges : Bool) (s : State) : Host.Outcome State Fault Refusal :=
  let src := fld (s.reg Reg.CLK_STATUS) 31 30
  let shown := fun (v : Nat) => BitVec.ofNat 32 (v * 2 ^ 30 + (if edges then 2 ^ 29 else 0))
  if s.mode == .off || (src == 2 && !(flag (s.reg Reg.CLK_STATUS) 28)) then .next s
  else if !detected then .next (if src = 2 then s else s.setReg Reg.CLK_STATUS (shown 1))
  else
    let s := ((s.setReg Reg.CLK_STATUS (shown 2)).orReg Reg.CLK_EVENTS 1).bumpReg Reg.CLK_REF_LOSSES 15 0
    .next (if src = 2 then s else (s.setReg Reg.CLK_OSC_OFFSET (intWord ((s.free % 20001 : Nat) - (10000 : Int)))).drawn)

/-- REFERENCE_RETURNED: the reference has stayed within ±100 ppm for 10 ms; it is taken back at the next guard start while ticks run, at once
otherwise, where CLK_CTRL.ret_en is 1 (R222). One that was never detected as lost is followed on. -/
def execReferenceReturned (s : State) : Host.Outcome State Fault Refusal :=
  if s.mode == .off then .next s
  else
    let s := s.setRegFld Reg.CLK_STATUS 29 28 3
    if fld (s.reg Reg.CLK_STATUS) 31 30 = 1 then .next (s.setRegFld Reg.CLK_STATUS 31 30 0)
    else .next (if s.ticking then s else s.takeReference)

/-- DROOP_STRETCH: the droop detector of a region lengthens a period by 1, 2 or 4 quarter-periods: counted with its added time (R209,
R210). -/
def execDroopStretch (die : Fin 16) (region : Fin 8) (quarters : Fin 3) (s : State) : Host.Outcome State Fault Refusal :=
  let k := 16 * die.val + region.val
  if s.ticking && s.tick.isOpen && s.unitOn die then
    .next ((s.bumpReg (Reg.CLK_RGN_CUR_COUNT k) 31 0).bumpReg (Reg.CLK_RGN_CUR_TIME k) 31 0 (2 ^ quarters.val))
  else .next s

/-! ### PTP (R226, R227, R313) -/

/-- The master stepped by a signed number of ns (R226). -/
def State.stepTime (s : State) (by_ : Int) : State :=
  let m : Int := ((s.clock.get 0 36 : Nat) : Int) + by_ * 65536
  let s := { s with clock := s.clock.set 0 36 (m % (2 ^ 80 : Int)).toNat }
  s.orReg Reg.TCK_EVENTS 2

end Sys2Proof.Machine
end

