-- ==== Sys2Proof/Machine/Commit.lean ====
section
/-! DEFINITION. The vote and the decision of a tick (R282, R335 to R339). -/

namespace Sys2Proof.Machine

/-- The size of the commit group of the image in use (R228, R337). -/
def State.groupSize (s : State) : Nat := s.img s.imageInUse 0x034 2

/-- VOTE_CLOSE: 1 µs after the guard start the vote closes; what is detected from then on is charged to the next tick (R335). -/
def execVoteClose (s : State) : Host.Outcome State Fault Refusal :=
  if s.ticking && s.tick.isOpen && s.tick.guard && !s.tick.closed then .next { s with tick := { s.tick with closed := true } } else .next s

/-- Whether the tick's local verdict is good (R218, R311, R342). -/
def TickState.good (t : TickState) : Bool := !(t.overrun || t.charged || t.late || t.abandonBeacon || t.recovery)

/-- LOCAL_VERDICT_FINAL: 2 µs after the guard start the local verdict is final: shown and counted (R218, R336). -/
def execLocalVerdictFinal (s : State) : Host.Outcome State Fault Refusal :=
  if !(s.ticking && s.tick.isOpen && s.tick.closed && s.tick.verdict.isNone && !s.tick.resolved) then .next s
  else
    let v := s.tick.good
    let s := { s with tick := { s.tick with verdict := some v } }
    let s := (s.setRegFld Reg.TCK_STATUS 26 26 (if v then 1 else 0)).setRegFld Reg.TCK_STATUS 25 25 (if s.tick.overrun then 1 else 0)
    let s := if s.tick.overrun then s.bumpReg Reg.TCK_COUNTS 31 16 else s
    .next (if v then s else s.bumpReg Reg.TCK_COUNTS 15 0)

/-- The count this module holds: its own where its verdict is held, and its children's (R282). -/
def State.voteCount (s : State) : Nat := (if s.tick.verdict.isSome then 1 else 0) + (s.tick.votes.map (fun v => v.2.1)).foldl (· + ·) 0

/-- Whether every child's vote is held. -/
def State.votesHeld (s : State) : Bool := s.children.all (fun f => s.tick.votes.any (fun v => v.1 == f))

/-- The AND of the verdicts held (R282). -/
def State.voteAnd (s : State) : Bool := s.tick.verdict.getD false && s.tick.votes.all (fun v => v.2.2)

/-- This module's vote on its way to its parent (R282, TCK_COMMIT_STATUS). -/
def State.sendVote (s : State) (good : Bool) : State :=
  let n := s.voteCount
  let s := { s with tick := { s.tick with voteSent := true } }
  let s := s.setReg Reg.TCK_COMMIT_STATUS (setFld (setFlag (s.reg Reg.TCK_COMMIT_STATUS) 29 true) 28 16 n)
  match s.treeParent with
  | some f => s.sendMgmt f (mgmtPayload 2 0 s.seq (if good then 1 else 0) n)
  | none => s

/-- Whether a vote may still be sent: a member of a group other than its root, in a tick not resolved. -/
def State.mayVote (s : State) : Bool :=
  s.ticking && s.tick.isOpen && s.tick.guard && !s.tick.resolved && !s.tick.voteSent && decide (s.groupSize > 1) && !s.isRoot

/-- VOTE_SEND: the module holds its verdict and every child's vote and sends its own (R282, R337). -/
def execVoteSend (s : State) : Host.Outcome State Fault Refusal :=
  if s.mayVote && s.tick.verdict.isSome && s.votesHeld then .next (s.sendVote s.voteAnd) else .next s

/-- Why this module's tick is abandoned: 1 its own verdict, 6 only that it is a recovery tick, 2 a child's vote (TCK_COMMIT_STATUS.cause). -/
def State.abandonCause (s : State) : Nat :=
  if s.tick.verdict = some false then
    (if s.tick.recovery && !(s.tick.overrun || s.tick.charged || s.tick.late || s.tick.abandonBeacon) then 6 else 1)
  else if s.tick.votes.any (fun v => !v.2.2) then 2 else 0

/-- The root forms the decision and sends it to its children; a wrong count records error 0x0B (R282). -/
def State.rootDecides (s : State) (waited : Bool) : State :=
  let whole := s.voteCount == s.groupSize
  let d := s.voteAnd && whole
  let s := if whole then s else s.fabricError 7 0 0 0x0B
  let c := if s.abandonCause ≠ 0 then s.abandonCause else if waited then 4 else 3
  (s.sendMgmtAll (mgmtPayload 3 0 s.seq (if d then 1 else 0) 0) s.children).resolve d c

/-- VOTE_WAIT_EXPIRY: TCK_VOTE_WAIT has elapsed since the guard start: a member votes abandon with the count it holds, the root decides on what it
holds (R282, R337). -/
def execVoteWaitExpiry (s : State) : Host.Outcome State Fault Refusal :=
  if s.mayVote then .next { s.sendVote false with tick := { (s.sendVote false).tick with cause := 4 } }
  else if s.ticking && s.tick.isOpen && s.tick.guard && !s.tick.resolved && s.isRoot && decide (s.groupSize > 1) then .next (s.rootDecides true)
  else .next s

/-- COMMIT_DECISION: the decision is held: the local verdict in a group of one, the root's own, or the parent's (R337, R339). -/
def execCommitDecision (s : State) : Host.Outcome State Fault Refusal :=
  if !(s.ticking && s.tick.isOpen && s.tick.guard && !s.tick.resolved) then .next s
  else if s.groupSize ≤ 1 then
    match s.tick.verdict with
    | none => .next s
    | some v => .next (s.resolve v s.abandonCause)
  else if s.isRoot then
    if s.tick.verdict.isSome && s.votesHeld then .next (s.rootDecides false) else .next s
  else match s.tick.decision with
    | none => .next s
    | some d => .next (s.resolve d (if s.abandonCause ≠ 0 then s.abandonCause else s.tick.cause))

/-- DECISION_LOST: 1 µs before the next beacon a member of a group holds no decision: the tick is abandoned and the job torn down (R338,
R348). -/
def execDecisionLost (s : State) : Host.Outcome State Fault Refusal :=
  if s.ticking && s.tick.isOpen && s.tick.guard && !s.tick.resolved && s.tick.decision.isNone && decide (s.groupSize > 1) then
    .next (((s.resolve false 5).orReg Reg.TCK_RCV_EVENTS 0x10).teardown)
  else .next s

end Sys2Proof.Machine
end

