-- ==== Sys2Proof/Machine/Fabric.lean ====
section
/-! DEFINITION. The events of the fabric (chapter 10): links, cells, scheduled windows, remote requests, management cells. -/

namespace Sys2Proof.Machine

/-! ### Links (R260 to R262) -/

/-- Whether a port trains: enabled and the die locked (R258). -/
def State.portTrains (s : State) (f : Nat) : Bool :=
  flag (s.reg (Reg.FAB_PORT_CTRL (fabIo f) (f / 2))) 31 && flag (s.reg (Reg.FAB_CTRL (fabIo f))) 31

/-- Whether a peer is this module's neighbour by a port (R262). -/
def State.neighbourOk (s : State) (f : Nat) (c : Training) : Bool :=
  let a := f / 2
  c.sizes.toNat == fld (s.reg (Reg.FAB_COORD 2)) 19 8 && c.peer.toNat == f ^^^ 1 &&
    [0, 1, 2].all (fun b => if b = a then axisOf c.coord.toNat b != axisOf s.coord b else axisOf c.coord.toNat b == axisOf s.coord b)

/-- TRAINING_CELL: the peer's training cell (R261, R262): no common version or a mismatched neighbour holds the link down; else the version and
the peer are recorded and the link may come up. -/
def execTrainingCell (port : Fin 6) (c : Training) (s : State) : Host.Outcome State Fault Refusal :=
  let f := port.val
  if !(s.portTrains f) || s.linkUp f then .next s
  else if !(c.majors.getLsbD 1) then
    .next ((s.setReg (portStatus f) (BitVec.ofNat 32 (3 * 2 ^ 29 + 1 * 2 ^ 26))).fabricError f c.coord.toNat 0 0x03)
  else if !(s.neighbourOk f c) then
    .next ((s.setReg (portStatus f) (BitVec.ofNat 32 (3 * 2 ^ 29 + 2 * 2 ^ 26 + c.coord.toNat))).fabricError f c.coord.toNat 0 0x04)
  else .next (s.setReg (portStatus f) (BitVec.ofNat 32 (1 * 2 ^ 29 + 1 * 2 ^ 22 + c.coord.toNat)))

/-- LINK_UP: training has ended with a version and a neighbour accepted (R262). -/
def execLinkUp (port : Fin 6) (s : State) : Host.Outcome State Fault Refusal :=
  let f := port.val
  let w := s.reg (portStatus f)
  if s.portTrains f && fld w 31 29 == 1 && fld w 25 22 == 1 then .next ((s.setReg (portStatus f) (setFld w 31 29 2)).pumpPort f) else .next s

/-- LINK_DOWN: lost FEC lock, lane errors or a replay stall take the link down (R260). -/
def execLinkDown (port : Fin 6) (reason : BitVec 3) (s : State) : Host.Outcome State Fault Refusal :=
  if s.linkUp port then .next (s.linkLost port reason.toNat) else .next s

/-- LINK_DELAY_MEASURE: the one-way delay of a link is measured at training and every second (R262): over a link that is up to a tree neighbour by an echo
request with the time-clock stamp given, whose reply brings the delay (R279); else it is the delay given. DESIGN CHOICE: a link that is up to no tree
neighbour, which carries no echo under R279, is measured as at training. -/
def execLinkDelayMeasure (port : Fin 6) (ps : Word) (stamp : BitVec 64) (s : State) : Host.Outcome State Fault Refusal :=
  let f := port.val
  let st := fld (s.reg (portStatus f)) 31 29
  if st = 2 ∧ s.treePort f then .next (s.sendMgmt f (mgmtPayload 4 0 stamp.toNat 0 0))
  else if st = 1 ∨ st = 2 then .next (s.setReg (Reg.FAB_PORT_DELAY (fabIo f) (f / 2)) ps)
  else .next s

/-! ### Cells (R263 to R266) -/

/-- The replay buffer without the cells that an acknowledgement covers (R264). -/
def ackCells (ack : Nat) (l : List Cell) : List Cell :=
  if l.any (fun c => c.seq.toNat == ack) then (l.dropWhile (fun c => c.seq.toNat != ack)).drop 1 else l

/-- An acknowledgement and off bits taken from a good cell; the off bits mark the map (R264, R265, R285). -/
def FabPort.hear (x : FabPort) (c : Cell) : FabPort :=
  let off := c.off.toNat
  let m := if off % 2 = 1 then SMap.set 0 x.map 3 1 else x.map
  let kept := ackCells c.ack.toNat x.replay
  { x with replay := kept, again := x.again.filter (fun d => kept.contains d), peerOff := off, map := (if off / 2 % 4 = 0 then m else SMap.set 0 m 4 1) }

/-- A replay request (R264): what it acknowledges leaves the buffer and the rest is to be sent again; the eighth in a row for one number takes the
link down (R260). -/
def State.replayAfter (s : State) (f ack : Nat) : State :=
  let x := s.fport f
  let kept := ackCells ack x.replay
  let n := if x.stallAt = ack + 1 ∧ kept.length = x.replay.length then x.stalls + 1 else 1
  if n ≥ 8 then s.linkLost f 4
  else
    let s := s.setFport f ({ x with replay := kept, again := kept, stallAt := ack + 1, stalls := n }.count 5 16 1)
    (s.bumpReg (Reg.FAB_ERR_COUNT (fabIo f)) 31 16).pumpPort f

/-- REPLAY_REQUEST: a replay request arrives (R264). -/
def execReplayRequest (port : Fin 6) (ack : BitVec 13) (s : State) : Host.Outcome State Fault Refusal :=
  if s.linkUp port then .next (s.replayAfter port ack.toNat) else .next s

/-- A cell discarded (R264): counted; one replay request for the number expected, and again where that very cell fails. -/
def State.badCell (s : State) (f seq : Nat) : State :=
  let x := s.fport f
  let ask := !x.skipping || seq == x.rxNext
  let s := s.setFport f ({ x with skipping := true }.count 6 16 1)
  if ask then s.emit f (cellOf 6 false 0) else s

/-- A good cell taken in order into its receive buffer (R264, R265). DESIGN CHOICE: one that finds its buffer full, which no permitted off level lets happen, is
discarded as a bad one; a management cell of a type that R279 does not list is dropped. -/
def State.takeCell (s : State) (f : Nat) (c : Cell) : State :=
  if bufferSize c.buffer ≤ (s.buffer f c.buffer).length then s.badCell f c.seq.toNat
  else
    let x := s.fport f
    let s := s.setFport f { x with rxNext := (x.rxNext + 1) % 8192, skipping := false }
    if c.known then s.setBuffer f c.buffer (s.buffer f c.buffer ++ [c]) else s

/-- What the FEC of a port's lanes reports, counted in the lane status (R287): uncorrectable codewords, corrected symbols in units of 1,024. -/
def State.fecCounts (s : State) (f : Nat) : List FecReport → State
  | [] => s
  | r :: rs =>
    let x := s.fport f
    let n := x.corrRest.get 0 r.lane + r.symbols
    let w := bumpFld (s.tblWord (fabKey f 4 r.lane)) 15 0 (n / 1024)
    let s := s.setFport f { x with corrRest := x.corrRest.set 0 r.lane (n % 1024) }
    (s.setTbl (fabKey f 4 r.lane) (if r.bad then bumpFld w 23 16 1 else w)).fecCounts f rs

/-- FABRIC_CELL_RECEIVE: 136 bytes come over a link with what the FEC of its lanes reports (R264, R265): a cell whose CRC or codeword fails is discarded and a
replay asked for; a good one brings its acknowledgement and off bits, and, in order, enters its buffer. One of the reserved kind 7 does nothing. -/
def execFabricCellReceive (port : Fin 6) (bits : BitVec 1088) (fec : List FecReport) (s : State) : Host.Outcome State Fault Refusal :=
  let f := port.val
  if !(s.linkUp f) then .next s
  else
    let s := s.fecCounts f fec
    let c := readCell bits
    if !(cellHolds bits) || fec.any (fun r => r.bad) then .next ((s.badCell f c.seq.toNat).fabricError f 0 0 0x01)
    else if c.kind == 7 then .next s
    else
      let s := s.setFport f ((s.fport f).hear c)
      let s :=
        if c.kind.toNat ≤ 3 then (if c.seq.toNat = (s.fport f).rxNext then s.takeCell f c else s.badCell f c.seq.toNat)
        else if c.kind == 6 then s.replayAfter f c.ack.toNat
        else s
      .next (s.pumpPort f)

/-! ### The scheduled lane (R269, R270) -/

/-- Stack and offset of cell `q` of a window or entry: word with n and the stacks, offset word. -/
def cellPlace (w o : Word) (q : Nat) : Nat × Nat :=
  let n := fld w 29 28 + 1
  (fld w (4 * (q % n) + 3) (4 * (q % n)), fld o 28 0 * 128 + 128 * (q / n))

/-- The next read request for the cells that place `j` of a window's list of stacks still has to bring: of at most 65,536 bytes, once the one before has been
answered (R168, R269). DESIGN CHOICE: it names fabric port and place as the row and column of its return address. -/
def State.askStack (s : State) (f : Nat) (w : FabWindow) (j : Nat) : State :=
  let p := fabHearthPort f
  let n := fld (s.txWindow f w.index 1) 29 28 + 1
  let all := ((s.txWindow f w.index 3).toNat + n - 1 - j) / n
  let i := w.asked.get 0 j
  let (m, off) := cellPlace (s.txWindow f w.index 1) (s.txWindow f w.index 2) (n * i + j)
  let len := min 512 (all - i)
  if w.taken.get 0 j ≠ i ∨ len = 0 then s
  else
    let stream := Config.fabricStream f w.index % 255
    let s := s.setFport f { s.fport f with sending := (s.fport f).sending.map (fun (v : FabWindow) => { v with asked := v.asked.set 0 j (i + len) }) }
    s.queueUnit p { idleBlock with
      src := p, dst := 16 + m, kind := 2, stream := stream, last := true,
      data := readRequest (2 ^ 44 + m * 2 ^ 40 + off) (f * 2 ^ 34 + j * 2 ^ 28) (128 * len) stream 0 }

/-- The read requests of a window, one for each place of its list. -/
def State.askWindow (s : State) (f : Nat) : List Nat → State
  | [] => s
  | j :: js =>
    (match (s.fport f).sending with
    | some w => s.askStack f w j
    | none => s).askWindow f js

/-- SCHEDULED_WINDOW_START: the next valid transmit window of a port opens, in a Hearth cycle not before its start and when the window before has sent its
count; its I/O port reads its cells from the stacks (R269). -/
def execScheduledWindowStart (port : Fin 6) (cycle : Nat) (s : State) : Host.Outcome State Fault Refusal :=
  let f := port.val
  let x := s.fport f
  let k := x.window
  if s.ticking && s.tick.isOpen && decide (k < 512) && flag (s.txWindow f k 1) 31 && s.windowSent f && decide ((s.txWindow f k 0).toNat ≤ cycle) then
    .next ((s.setFport f { x with window := k + 1, sending := some { index := k, asked := [], taken := [], ready := [], next := 0 } }).askWindow f
      (List.range (fld (s.txWindow f k 1) 29 28 + 1)))
  else .next s

/-- The cells of a window that have come in their turn leave (R269); `n` bounds them. -/
def State.feedWindow (s : State) (f : Nat) : Nat → State
  | 0 => s
  | n + 1 =>
    match (s.fport f).sending with
    | none => s
    | some w =>
      match w.ready.find? (fun (kv : Nat × Nat) => kv.1 == w.next) with
      | none => s
      | some kv =>
        let c := { cellOf 0 false kv.2 with window := BitVec.ofNat 9 w.index, tick := BitVec.ofNat 4 s.seq }
        let s := s.setFport f { s.fport f with sending := some { w with ready := w.ready.filter (fun (x : Nat × Nat) => x.1 != w.next), next := w.next + 1 } }
        (s.queueCell f c).feedWindow f n

/-- A block that answers a port's read request: its payload is the next cell of its place of the window being sent (R168, R269); one of another tick or of no
window is counted as such or dropped (R186 code 0x0B), and a poisoned one is recorded (code 0x0A). -/
def State.takeRead (s : State) (p : Nat) (b : HBlock) : State :=
  let f := b.addr / 2 ^ 23 % 64
  let j := b.addr / 2 ^ 17 % 64
  if b.tick != s.seq % 16 then s.hearthError p b.src 0x3FF 0 0x0B
  else match (s.fport f).sending with
    | none => s
    | some w =>
      let s := if b.poison then s.hearthError p b.src 0x3FF 0 0x0A else s
      let n := fld (s.txWindow f w.index 1) 29 28 + 1
      let i := w.taken.get 0 j
      let v := { w with taken := w.taken.set 0 j (i + 1), ready := w.ready ++ [(n * i + j, leNat b.data)] }
      ((s.setFport f { s.fport f with sending := some v }).askStack f v j).feedWindow f v.ready.length

/-- The kind-1 block that lands a scheduled cell (R270). -/
def landingBlock (p m off stream mark payload : Nat) : HBlock :=
  { idleBlock with src := p, dst := 16 + m, kind := 1, stream := stream, last := true, addr := blockAddr (2 ^ 44 + off), data := leBytes 128 payload, mark := mark }

/-- SCHEDULED_CELL_RECEIVE: the oldest scheduled cell of a port leaves as a Hearth block for the place of its receive entry, once its group has room, or is
discarded with error 0x06: an invalid entry, another tick, beyond the count, a ring or a copy-1 range (R270, R244). -/
def execScheduledCellReceive (port : Fin 6) (s : State) : Host.Outcome State Fault Refusal :=
  let f := port.val
  let p := fabHearthPort f
  match s.buffer f 0 with
  | [] => .next s
  | c :: cs =>
    let k := c.window.toNat
    let e := s.rxEntry f k 0
    let q := (s.fport f).rxCount.get 0 k
    let (m, off) := cellPlace e (s.rxEntry f k 1) q
    let t := (s.setBuffer f 0 cs).pumpPort f
    if !(flag e 31) || c.tick.toNat != s.seq % 16 || decide (q ≥ (s.rxEntry f k 2).toNat) then .next (t.fabricError f 0 k 0x06)
    else
      let t := t.setFport f { t.fport f with rxCount := (t.fport f).rxCount.set 0 k (q + 1) }
      if (s.ringOf m off 128).isSome then .next (t.fabricError f 0 k 0x06)
      else if s.inCopy1 m off 128 then .next ((t.memError m p 0x03 off true).fabricError f 0 k 0x06)
      else if !(s.groupRoom p (16 + m)) then .next s
      else .next (t.queueBlock p (16 + m) (landingBlock p m off (Config.fabricStream f k % 255) (1 + 512 * f + k) c.payload.toNat))

/-! ### Remote requests and responses on their way (R268, R274 to R276) -/

/-- Steps from this module to coordinates on the ring of port `f`, in the direction of that port. -/
def State.stepsBy (s : State) (f t : Nat) : Nat :=
  let a := f / 2
  if f % 2 = 0 then ringSteps (s.axisSize a) (axisOf s.coord a) (axisOf t a) else ringSteps (s.axisSize a) (axisOf t a) (axisOf s.coord a)

/-- Whether coordinates lie between this module and its peer by a port, and so are bypassed (R262). -/
def State.bypassedBy (s : State) (f t : Nat) : Bool := s.linkUp f && decide (s.stepsBy f t < s.stepsBy f (s.peer f))

/-- Whether a cell for coordinates that are not held here, which came by port `f`, must be answered with status 3: its next hop would turn it back, or its
coordinate on the ring it came by is bypassed on either of this module's links there (R262, R274). -/
def State.noSuchModule (s : State) (f t : Nat) : Bool :=
  match s.nextPort t with
  | none => false
  | some g => g == f || (g / 2 == f / 2 && (s.bypassedBy f t || s.bypassedBy (f ^^^ 1) t))

/-- Whether a remote cell from a port may go on now: one served here where the Hearth takes what it needs (R276). -/
def State.canRoute (s : State) (f : Nat) (c : Cell) : Bool :=
  let d := descOf c.payload.toNat
  c.kind.toNat != 1 || d.target.toNat != s.coord || s.canServe f d

/-- A remote cell from a port: served, answered with status 3 and error 0x07, passed on, or on its way to a remote unit. -/
def State.routeRemote (s : State) (f : Nat) (c : Cell) : State :=
  let d := descOf c.payload.toNat
  if c.kind.toNat ≠ 1 then s.sendResponse (fabHearthPort f) d (some (f, c.dvc))
  else if d.target.toNat = s.coord then s.serve f d
  else if s.noSuchModule f d.target.toNat then
    (s.fabricError f d.target.toNat 0 0x07).sendResponse (fabHearthPort f) (d.answer 3 0 0) none
  else match s.nextPort d.target.toNat with
    | some g => s.forward g d (some (f, c.dvc))
    | none => s

/-- The oldest remote cell of a port's VL1 buffers that may go on goes on its way. -/
def State.takeRemote (s : State) (f : Nat) : List Nat → State
  | [] => s
  | b :: bs =>
    match s.buffer f b with
    | c :: cs => if s.canRoute f c then ((s.setBuffer f b cs).routeRemote f c).pumpPort f else s.takeRemote f bs
    | [] => s.takeRemote f bs

/-- REMOTE_REQUEST: the oldest remote cell of a port's VL1 buffers goes on its way, or the oldest request that a remote unit has sent to an I/O port
(R274 to R276). -/
def execRemoteRequest (place : RemotePlace) (s : State) : Host.Outcome State Fault Refusal :=
  match place with
  | .link port => .next (s.takeRemote port [1, 2])
  | .hearth io src =>
    let p := 34 + io.val
    match (s.port p).reserve src with
    | [] => .next s
    | b :: bs =>
      let d := descOf (leNat b.data)
      let t := s.setPort p ((s.port p).setReserve src bs)
      if b.kind ≠ 2 then .next s
      else match s.nextPort d.target.toNat with
        | some f => .next (t.forward f d none)
        | none => if s.canServe 6 d then .next (t.serve 6 d) else .next s

/-- COMBINER_FLUSH: the oldest entry of a combiner flushes, 256 ns after it opened, once the Hearth takes it (R275, R276). -/
def execCombinerFlush (path : Fin 7) (s : State) : Host.Outcome State Fault Refusal :=
  match s.combiner path with
  | [] => .next s
  | e :: es => if s.groupRoom (pathPort path) (16 + e.stack) then .next ((s.setCombiner path es).flush path e) else .next s

/-! ### Management cells (R279 to R282) -/

/-- The oldest management cell of a port, of a type, taken from its buffer. -/
def State.takeMgmt (s : State) (f type : Nat) : Option (Nat × State) :=
  let get := fun b =>
    match s.buffer f b with
    | [] => none
    | c :: cs => if c.payload.toNat % 256 = type then some (c.payload.toNat, (s.setBuffer f b cs).pumpPort f) else none
  (get 3).or (get 4)

/-- What the oldest management cell of a type does where it came from a tree neighbour of the kind it needs; any other is dropped (R279, R282). -/
def State.onMgmt (s : State) (f type : Nat) (from_ : Bool) (act : State → Nat → State) : Host.Outcome State Fault Refusal :=
  match s.takeMgmt f type with
  | none => .next s
  | some (p, t) => .next (if from_ then act t p else t)

/-- BEACON_FRAME: a beacon frame arrives from the parent: the link's delay is added, it goes on to the tree children with its residence here, and a module
on the Huaren source fires from it (R215, R280 to R282). -/
def execBeaconFrame (port : Fin 6) (residencePs : Nat) (s : State) : Host.Outcome State Fault Refusal :=
  s.onMgmt port 1 (s.treeParent == some port.val) (fun s p =>
    let acc := p / 2 ^ 128 % 2 ^ 64 + (s.reg (Reg.FAB_PORT_DELAY (fabIo port) (port.val / 2))).toNat
    let seq := p / 2 ^ 64 % 2 ^ 64
    let b1 := p / 256 % 256
    let s := s.sendMgmtAll (mgmtPayload 1 b1 seq (acc + residencePs) 0) s.children
    if fld (s.reg Reg.TCK_SRC) 17 16 ≠ 2 then s
    else
      let late := decide (acc > fld (s.reg (Reg.FAB_BEACON 2)) 19 0 * 1000)
      let s := if s.tick.srcLost then s.orReg Reg.TCK_EVENTS 4 else s
      let s := { s with
        fabric := { s.fabric with frameTick := b1 == 1, frameLate := late }
        tick := { s.tick with frame := some (BitVec.ofNat 64 seq), misses := 0, srcLost := false } }
      if late then s.fabricError port 0 0 0x0A else s)

/-- VOTE: a child's vote for the tick arrives (R282). -/
def execVote (port : Fin 6) (s : State) : Host.Outcome State Fault Refusal :=
  s.onMgmt port 2 (s.children.contains port.val) (fun s p =>
    if s.ticking ∧ p / 2 ^ 64 % 2 ^ 64 = s.seq ∧ !(s.tick.votes.any (fun v => v.1 == port.val)) then
      { s with tick := { s.tick with votes := s.tick.votes ++ [(port.val, p / 2 ^ 192 % 2 ^ 16, p / 2 ^ 128 % 2 == 1)] } }
    else s)

/-- DECISION: the parent's decision for the tick arrives and goes on to the children (R282). -/
def execDecision (port : Fin 6) (s : State) : Host.Outcome State Fault Refusal :=
  s.onMgmt port 3 (s.treeParent == some port.val) (fun s p =>
    if s.ticking ∧ p / 2 ^ 64 % 2 ^ 64 = s.seq ∧ s.tick.decision = none then
      ({ s with tick := { s.tick with decision := some (p / 2 ^ 128 % 2 == 1) } } : State).sendMgmtAll p s.children
    else s)

/-- ECHO_REQUEST: an echo request of a tree neighbour is answered with its stamp and the residence here (R279). -/
def execEchoRequest (port : Fin 6) (residencePs : BitVec 64) (s : State) : Host.Outcome State Fault Refusal :=
  s.onMgmt port 4 (s.treePort port) (fun s p => s.sendMgmt port (mgmtPayload 5 0 (p / 2 ^ 64 % 2 ^ 64) residencePs.toNat 0))

/-- ECHO_REPLY: a tree neighbour's echo reply ends a delay measurement (R262, R279): half the round trip by the time clock, of 625 ps a count, less the
replier's residence. -/
def execEchoReply (port : Fin 6) (arrival : BitVec 64) (s : State) : Host.Outcome State Fault Refusal :=
  s.onMgmt port 5 (s.treePort port) (fun s p =>
    let trip := (arrival - BitVec.ofNat 64 (p / 2 ^ 64)).toNat * 625 - p / 2 ^ 128 % 2 ^ 64
    s.setReg (Reg.FAB_PORT_DELAY (fabIo port) (port.val / 2)) (BitVec.ofNat 32 (min (trip / 2) (2 ^ 32 - 1))))

/-- LOSS: while FAB_LOSS.valid is 1 the loss is reported to every controller and fabric-manager session (R278, R302). -/
def execLoss (s : State) : Host.Outcome State Fault Refusal :=
  let w := s.reg (Reg.FAB_LOSS 2)
  if flag w 31 then
    let (ss, o) := emitTo s.frameTag (fun x => x.role == 1 || x.role == 2) 0x8003 s.mode.code s.seq (leBytes 2 (fld w 11 0)) s.sessions s.out
    .next { s with sessions := ss, out := o }
  else .next s

end Sys2Proof.Machine
end

