-- ==== Sys2Proof/Machine/Light.lean ====
section
/-! DEFINITION. The events of upkeep (chapter 14): the Bellows, heater loops and calibration measurements. Commands that begin with a write
of BLW_CMD or CAL_REQ are in Control.lean. -/

namespace Sys2Proof.Machine

/-! ### The Bellows (R369 to R374) -/

/-- SPARE_LOCK: the comb that is starting locks: a spare takes over at the next guard while ticks run and at once otherwise (R369, R370); a
comb returning to its position ramps at once (R374). -/
def execSpareLock (bank : Fin 2) (s : State) : Host.Outcome State Fault Refusal :=
  let b := bank.val
  let ret := s.light.returning.get 0 b
  if ret ≠ 0 && s.comb (6 * b + ret - 1) == 1 then .next ((s.setRegFld (Reg.BLW_COMB (6 * b + ret - 1)) 31 29 2).startRamp b 2)
  else if s.spareState b = 1 then
    let s := (s.setSpareState b 2 (s.sparePos b)).setComb (6 * b + 5) 2 7
    .next (if s.ticking then s else if s.handoverDue b then s.startRamp b 1 else s)
  else .next s

/-- SPARE_LOCK_TIMEOUT: 100 ms without lock: a spare is failed and cold (R369); a returning comb is retired again and its command refused
(R374). -/
def execSpareLockTimeout (bank : Fin 2) (s : State) : Host.Outcome State Fault Refusal :=
  let b := bank.val
  let ret := s.light.returning.get 0 b
  if ret ≠ 0 && s.comb (6 * b + ret - 1) == 1 then
    let s := s.setRegFld (Reg.BLW_COMB (6 * b + ret - 1)) 31 29 4
    .next (({ s with light := { s.light with returning := s.light.returning.set 0 b 0 } } : State).blwEnd 4)
  else if s.spareState b = 1 then
    .next (((s.setSpareState b 4 (s.sparePos b)).setComb (6 * b + 5) 5 7).blwEvent (6 * b + 5) 5)
  else .next s

/-- HANDOVER_RAMP_END: the replaced comb is retired and the spare serves its position; or the comb serves its position again and the spare
is cold and available (R370, R374). -/
def execHandoverRampEnd (bank : Fin 2) (s : State) : Host.Outcome State Fault Refusal :=
  let b := bank.val
  let r := s.light.ramp.get 0 b
  let k := s.sparePos b
  let c := 6 * b + k
  let t := { s with light := { s.light with
    ramps := s.light.ramps.set 0 c (s.light.ramps.get 0 c + (if r = 0 then 0 else 1)), ramp := s.light.ramp.set 0 b 0, returning := s.light.returning.set 0 b 0, armed := s.light.armed.set false b false } }
  if r = 1 then
    let t := ((((t.setComb c 4 7).setComb (6 * b + 5) 3 k).setSpareState b 3 k).blwEvent (6 * b + 5) 2).bumpReg Reg.BLW_HANDOVERS 15 0
    .next (if s.light.armed.get false b then t.blwEnd 0 else t)
  else if r = 2 then
    let t := (((((t.setComb c 3 k).setComb (6 * b + 5) 0 7).setSpareState b 0 0).blwEvent c 2).blwEvent c 0).bumpReg Reg.BLW_HANDOVERS 31 16
    .next (t.blwEnd 0)
  else .next s

/-- A Hearth-plane loss of the Bellows (R372, R375); its event is raised when it comes about, not again while its sticky bit stands. -/
def State.bellowsLoss (s : State) (c : Nat) : State :=
  (if flag (s.reg Reg.BLW_EVENTS) 6 then s else s.blwEvent c 6).planeLoss

/-- One comb's fade of a housekeeping round, in 0.01 dB (R368, R369, R372): recorded; the run at or below the start level; the floor and the
dead level. `pos` is the position it serves; the floor's event is raised as the fade crosses it. A comb that is not active is recorded only. -/
def State.fade (s : State) (c : Nat) (f : Int) : State :=
  let crossed := decide (-300 < ((s.reg (Reg.BLW_COMB c)).extractLsb' 0 16).toInt)
  let s := s.setRegFld (Reg.BLW_COMB c) 15 0 (intWord f).toNat
  if s.comb c ≠ 3 then s
  else
    let b := c / 6
    let pos := fld (s.reg (Reg.BLW_COMB c)) 28 26
    let low := decide (f ≤ -10 * (fld (s.reg Reg.BLW_THRESH) 7 0 : Int))
    let run := if low then min 2 (s.light.fadeRun.get 0 c + 1) else 0
    let s := { s with light := { s.light with fadeRun := s.light.fadeRun.set 0 c run } }
    let s := if run = 2 && flag (s.reg Reg.BLW_CTRL) 0 && s.spareState b == 0 && c % 6 != 5 then s.startSpare b pos else s
    let st := s.spareState b
    let mine := s.sparePos b == pos && c % 6 != 5
    let s : State := if f ≤ -300 then
        let s := if crossed then s.blwEvent c 3 else s
        if st = 0 && c % 6 != 5 || (st = 1 || st = 2) && mine then s else s.bellowsLoss c
      else s
    if f ≤ -600 then
      if st = 2 && mine then (if s.light.ramp.get 0 b == 0 then s.startRamp b 1 else s)
      else (s.blwEvent c 4).setRegFld (Reg.BLW_COMB c) 31 29 5
    else s

/-- The fades of a round, in the order of the combs, so that the lower position takes the spare (R373). -/
def State.fadeRound (s : State) : Nat → List Int → State
  | _, [] => s
  | c, f :: fs => (if c < 12 then s.fade c f else s).fadeRound (c + 1) fs

/-! ### Lanes that fail (R185) -/

/-- The sending port that a lane-status index stands for at a receiver, with the read position of a broadcast lane (R189). -/
def State.laneSource (s : State) (p l : Nat) : Option (Nat × Option Nat) :=
  if l < 324 then some (l % 36, none)
  else if l < 452 then some (if p < 16 then p + 16 else p - 16, none)
  else if l < 516 then
    let w := s.tblWord (tblKey 1 p 3 ((l - 452) / 16))
    if flag w 31 then some (fld w 5 0, some ((l - 452) / 16)) else none
  else none

/-- The lanes a failing lane's move takes out of service. -/
def laneMoveOf (c p l : Nat) : LaneMove :=
  { why := 2, cls := (if l < 324 then 0 else if l < 452 then 1 else 3), flue := (if l < 324 then l / 36 else 0), src := c, dst := p,
    lane := (if l < 324 then 0 else if l < 452 then l - 324 else (l - 452) % 16), back := false }

/-- A lane in service fails (R185): error 0x09; it takes its spare position at the next guard, or leaves the rotation. A spare position held by a failed lane,
or a broadcast flue left with fewer than 15 wavelengths, is a Hearth-plane loss (R178, R183). Lanes count as the moves that wait for the guard leave them; one
that is out of service already has no traffic to fail. DESIGN CHOICE: a spare-flue lane that fails is marked failed while it is free, and is a Hearth-plane
loss while it carries a moved lane. -/
def State.laneFail (s : State) (p l : Nat) : State :=
  match s.laneSource p l with
  | none => s
  | some (c, pos) =>
    let t := s.lanesAhead
    let e := s.hearthError p c l 0 0x09
    let m := laneMoveOf c p l
    if l < 324 ∧ l / 36 = 8 then
      match t.laneState p l with
      | 0 => e.setLaneState p l 2
      | 4 => e.planeLoss
      | _ => s
    else if t.laneState p l ≠ 0 then s
    else if pos.isSome then
      (if ((List.range 16).filter (fun j => j != m.lane && t.waveActive c j)).length < 15 then e.planeLoss else e.schedule m)
    else
      let held := t.sparePlace c p
      if t.laneState p (288 + c) = 2 ∨ (held ≠ 0 ∧ (t.movedLanes (holderOf c p held)).any (fun q => t.laneState q.1 q.2 == 2)) then e.planeLoss
      else e.schedule m

/-- Lanes of a receiver fail, in order. -/
def State.lanesFail (s : State) : List (Nat × Nat) → State
  | [] => s
  | (p, l) :: ls => (s.laneFail p l).lanesFail ls

/-! ### Heater loops (R379, R381) -/

/-- The lanes through a loop element, by receiving port and lane index: a lattice router's, where no rule says which lanes pass a zone, a demultiplexer
bank's of a flue or of a pair's waveguide (R159, R379). -/
def elementLanes (e : Nat) : List (Nat × Nat) :=
  if e < 144 then
    ((List.range 36).map (fun d => ((List.range 36).filter (fun c => c != d && Config.zoneLane (e / 16) (e % 16) c d)).map
      (fun c => (d, 36 * (e / 16) + c)))).flatten
  else if e < 180 then []
  else
    let p := (e - 180) / 20
    let i := (e - 180) % 20
    if i < 9 then ((List.range 36).filter (· != p)).map (fun c => (p, 36 * i + c))
    else (List.range 16).map (fun n => (p, 324 + 16 * (i - 9) + n))

/-- Every path of a sum slice loses cal_ok (R379). -/
def State.sliceLost (s : State) (k : Nat) : List (Nat × Nat) → State
  | [] => s
  | (p, c) :: ps =>
    let a := tblKey 2 p 2 (16 * k + c)
    let s := s.setTbl a (setFlag (s.tblWord a) 31 false)
    ({ s with light := { s.light with calRun := s.light.calRun.set 0 (576 * p + 16 * k + c) 0 } } : State).sliceLost k ps

/-- Pairs of a port and a contributor. -/
def portPairs : List (Nat × Nat) := ((List.range 16).map (fun p => (List.range 16).map (fun c => (p, c)))).flatten

/-- Every sum path loses cal_ok (R376, R381). -/
def State.allPathsLost (s : State) : List Nat → State
  | [] => s
  | k :: ks => (s.sliceLost k portPairs).allPathsLost ks

/-- Whether a loop element is present (R379). -/
def elementPresent (e : Nat) : Bool :=
  decide (e < 180) || (decide (e < 900) && (decide ((e - 180) % 20 < 9) ||
    (decide ((e - 180) % 20 < 17) && decide ((e - 180) / 20 < 32))))

/-- The quadrant whose heaters an element belongs to: its port's, or for a router its zone's (DESIGN CHOICE for routers: zone z lies in
quadrant z ÷ 4, a sum slice router in quadrant k mod 4). -/
def elementQuadrant (e : Nat) : Nat :=
  if e < 144 then e % 16 / 4 else if e < 180 then (e - 144) % 4
  else
    let p := (e - 180) / 20
    if p < 32 then p % 16 / 4 else p - 32

/-- Whether a loop runs: element present, quadrant powered, not frozen (R376, R379, CAL_CTRL). -/
def State.loopRuns (s : State) (e : Nat) : Bool :=
  elementPresent e && flag (s.reg Reg.CAL_CTRL) 0 && s.mode != .banked && s.mode != .off && s.mode != .tripped &&
    s.domain (72 + elementQuadrant e) == 1

/-- HEATER_LOOP_WINDOW: one 100 µs window of an element: its heater moves by at most 4 codes, its dither error (in 1/256 of the lock threshold)
is recorded, three windows below lock it and ten above unlock it, when every lane through it has lost lock and every path of a sum slice loses cal_ok (R185,
R379). -/
def execHeaterLoopWindow (e : Fin 900) (error : BitVec 12) (move : Int) (s : State) : Host.Outcome State Fault Refusal :=
  if !(s.loopRuns e) then .next s
  else
    let a := tblKey 4 0 3 e
    let w := s.tblWord a
    let h := min 4095 (max 0 ((fld w 23 12 : Int) + min 4 (max (-4) move)))
    let below := decide (error.toNat < 256)
    let above := decide (error.toNat > 256)
    let lr := if below then min 3 (s.light.lockRun.get 0 e + 1) else 0
    let ur := if above then min 10 (s.light.lossRun.get 0 e + 1) else 0
    let locked := if lr = 3 then true else if ur = 10 then false else flag w 31
    let s := s.setTbl a (setFlag (setFld (setFld w 23 12 h.toNat) 11 0 error.toNat) 31 locked)
    let s := { s with light := { s.light with lockRun := s.light.lockRun.set 0 e lr, lossRun := s.light.lossRun.set 0 e ur } }
    .next (if flag w 31 && !locked then (if 144 ≤ e.val ∧ e.val < 180 then s.sliceLost (e.val - 144) portPairs else s.lanesFail (elementLanes e)) else s)

/-! ### Calibration measurements (R383 to R385) -/

/-- The difference of two numbers. -/
def absDiff (a b : Nat) : Nat := if a ≤ b then b - a else a - b

/-- Whether two measurements of a data lane agree within CAL_TOL, field by field (R384). -/
def State.measAgree (s : State) (a b : LaneMeas) : Bool :=
  let t := s.reg Reg.CAL_TOL
  decide ((a.heater - b.heater).natAbs ≤ fld t 31 24) &&
    (List.range 4).all (fun i => decide (absDiff (a.levels.toNat / 2 ^ (6 * i) % 64) (b.levels.toNat / 2 ^ (6 * i) % 64) ≤ fld t 23 20)) &&
    (List.range 3).all (fun i => decide (absDiff (a.thresh.toNat / 2 ^ (8 * i) % 256) (b.thresh.toNat / 2 ^ (8 * i) % 256) ≤ fld t 19 16))

/-- The reason that two measurements give: 0 accepted, 4 they disagree, 5 an error ratio is too high (R384, R385). -/
def State.measReason (s : State) (kind : Nat) (a b : LaneMeas) : Nat :=
  if kind ≠ 0 then (if (a.heater - b.heater).natAbs ≤ 1 then 0 else 4)
  else if !(s.measAgree a b) then 4
  else if a.serExp < fld (s.reg Reg.CAL_TOL) 7 0 ∨ b.serExp < fld (s.reg Reg.CAL_TOL) 7 0 then 5
  else 0

/-- The end of the measurements: a data lane waits for its return while ticks run; else the request ends (R383). -/
def State.measured (s : State) (v : Word) (reason : Nat) (r : LaneMeas) : State :=
  if fld v 30 28 = 0 ∧ s.ticking then
    { s.setRegFld Reg.CAL_STATUS 30 28 4 with light := { s.light with result := some (reason, r) } }
  else s.calEnd reason r

/-- Whether a bank feeds the sender or a receiver of the lanes that a request measures (R367, R387). DEDUCED: the lanes of kind 1 end at every port, and kind 2
measures no lane. -/
def State.measFed (s : State) (v : Word) (b : Nat) : Bool :=
  match fld v 30 28 with
  | 0 =>
    let m := calMove v false
    (feedOf m.src).1 == b || (s.movedLanes m).any (fun x => (feedOf x.1).1 == b)
  | 1 => true
  | _ => false

/-- CALIBRATION_MEASUREMENT_END: a measurement ends; one that a handover ramp of a bank feeding its lane met is repeated once, and a second overlap ends the
request (R383, R384, R387). -/
def execCalibrationMeasurementEnd (r : LaneMeas) (s : State) : Host.Outcome State Fault Refusal :=
  let stage := fld (s.reg Reg.CAL_STATUS) 30 28
  match s.light.req with
  | none => .next s
  | some v =>
    if stage ≠ 2 ∧ stage ≠ 3 then .next s
    else if [0, 1].any (fun b => s.light.met.get false b && s.measFed v b) then
      if s.light.repeated then .next (s.measured v 7 r)
      else
        let s := s.newMeasure
        .next { s with light := { s.light with repeated := true } }
    else match s.light.first with
      | none =>
        let s := s.newMeasure
        .next { s.setRegFld Reg.CAL_STATUS 30 28 3 with light := { s.light with first := some r, repeated := false } }
      | some a => .next (s.measured v (s.measReason (fld v 30 28) a r) r)

end Sys2Proof.Machine
end

