-- ==== Sys2Proof/Machine/ThermalOps.lean ====
section
/-! DEFINITION. What a housekeeping round decides (chapter 15): sensors and their neighbours (R393, R394), thresholds and the Damper (R395 to
R397), the orderly stop and the trip (R399, R400), the power governor (R402, R403, R405), and ring heaters (R377). -/

namespace Sys2Proof.Machine

/-! ### Sensors (R392 to R394) -/

/-- The sensors from `lo` on, `n` of them. -/
def sensorRun (lo n : Nat) : List Nat := (List.range n).map (fun i => lo + i)

/-- The neighbours of a junction sensor (R393); clock regions k and k ± 1 of a die are adjacent. -/
def neighbours (n : Nat) : List Nat :=
  if n < 384 then
    let k := n % 24 / 3
    ((List.range 24).filter (fun j => j != n % 24 && decide (j / 3 ≤ k + 1 ∧ k ≤ j / 3 + 1))).map (fun j => n / 24 * 24 + j)
  else if n < 416 then sensorRun (24 * ((n - 384) / 2) + 9) 6
  else
    let lo := if n < 512 then 416 else if n < 576 then 512 else if n < 608 then 576 else 608
    let w := if n < 512 then 6 else if n < 576 then 4 else if n < 608 then 8 else 4
    (sensorRun (lo + (n - lo) / w * w) w).filter (fun j => j != n)

/-- Whether a reading is that of an open or shorted sensor, in 1/8 °C (R392). -/
def openOrShort (t : Int) : Bool := decide (t < -320 ∨ 1600 < t)

/-- A number into a rising list. -/
def insertInt (x : Int) : List Int → List Int
  | [] => [x]
  | y :: ys => if x ≤ y then x :: y :: ys else y :: insertInt x ys

/-- A list in rising order. -/
def sortInts : List Int → List Int
  | [] => []
  | x :: xs => insertInt x (sortInts xs)

/-- Twice the median of some readings. -/
def median2 (xs : List Int) : Int :=
  let ys := sortInts xs
  ys.getD ((ys.length - 1) / 2) 0 + ys.getD (ys.length / 2) 0

/-- The greatest of some readings. -/
def maxInt : List Int → Int
  | [] => 0
  | [x] => x
  | x :: xs => max x (maxInt xs)

/-- The raw readings of a sensor's reference neighbours: trusted ones that read neither open nor shorted (R394). -/
def references (raw : List Int) (suspect : List Bool) (n : Nat) : List Int :=
  ((neighbours n).filter (fun j => !(suspect.getD j false) && !(openOrShort (raw.getD j 0)))).map (fun j => raw.getD j 0)

/-- One sensor judged (R394): whether it is suspect now, its run towards suspicion and its run towards trust. -/
def judgeSensor (raw : List Int) (suspect : List Bool) (toward away : SMap Nat) (n : Nat) : Bool × Nat × Nat :=
  let t := raw.getD n 0
  let rs := references raw suspect n
  let d := (2 * t - median2 rs).natAbs
  let far := !rs.isEmpty && decide (160 < d) && rs.all (fun r => decide ((2 * r - median2 rs).natAbs ≤ 64))
  let near := !rs.isEmpty && decide (d ≤ 64)
  if openOrShort t then (true, 0, 0)
  else if suspect.getD n false then
    let k := if near then away.get 0 n + 1 else 0
    if 40 ≤ k then (false, 0, 0) else (true, 0, k)
  else
    let k := if far then toward.get 0 n + 1 else 0
    if 3 ≤ k then (true, 0, 0) else (false, k, 0)

/-- A sensor's used value (R394); `other` where no trusted junction sensor is left, for which R394 gives no value. -/
def usedValue (raw : List Int) (suspect : List Bool) (other : Int) (n : Nat) : Int :=
  if !(suspect.getD n false) then raw.getD n 0
  else
    let rs := references raw suspect n
    if !rs.isEmpty then maxInt rs + 24
    else
      let all := ((List.range 612).filter (fun j => !(suspect.getD j false))).map (fun j => raw.getD j 0)
      if all.isEmpty then other else maxInt all + 24

/-- A store that lists the nonzero numbers of a list from key `k` on. -/
def listMap : Nat → List Nat → SMap Nat
  | _, [] => []
  | k, x :: xs => if x = 0 then listMap (k + 1) xs else (k, x) :: listMap (k + 1) xs

/-- A 12-bit field read as two's complement. -/
def signed12 (v : Nat) : Int := if 2 ^ 11 ≤ v then (v : Int) - 2 ^ 12 else v

/-- The used value of a sensor in the latest round. -/
def State.used (s : State) (n : Nat) : Int := signed12 (fld (s.reg (Reg.THM_SENSOR n)) 31 20)

/-- A temperature as a 12-bit field (R410). -/
def temp12 (t : Int) : Nat := (t % 4096).toNat

/-- The sensor words of a round. -/
def State.setSensors (s : State) (raw used : List Int) (suspect : List Bool) : List Nat → State
  | [] => s
  | n :: ns =>
    (s.setReg (Reg.THM_SENSOR n) (BitVec.ofNat 32 (temp12 (used.getD n 0) * 2 ^ 20 + temp12 (raw.getD n 0) * 2 ^ 8 +
      (if suspect.getD n false then 128 else 0)))).setSensors raw used suspect ns

/-- The first sensor below `n` that holds the greatest used value. -/
def hottest (used : List Int) : Nat :=
  let m := maxInt (used.take 612)
  ((List.range 612).find? (fun n => used.getD n 0 == m)).getD 0

/-- A thermal event: its sticky bit and the FAULT event that names the hottest sensor (R303, R410). -/
def State.thermalEvent (s : State) (bit : Nat) : State :=
  (s.orReg Reg.THM_EVENTS (BitVec.ofNat 32 (2 ^ bit))).faultEvent 8 (fld (s.reg Reg.THM_STATUS) 19 10) bit false

/-- Thermal events in order. -/
def State.thermalEvents (s : State) : List Nat → State
  | [] => s
  | b :: bs => (s.thermalEvent b).thermalEvents bs

/-! ### Stages (R395 to R397) -/

/-- The sensors of a scope: 0 to 15 a compute die, 16 the module (R395). -/
def scopeSensors (k : Nat) : List Nat :=
  if k < 16 then sensorRun (24 * k) 24 ++ [384 + 2 * k, 385 + 2 * k] else sensorRun 416 196

/-- The stage a scope holds by level, from the stage before and its greatest used value (R395). -/
def levelStage (old : Nat) (m : Int) : Nat :=
  if 824 ≤ m then 2
  else if old = 2 && decide (808 ≤ m) then 2
  else if 800 ≤ m then 1
  else if old ≠ 0 && decide (784 ≤ m) then 1
  else 0

/-- The rounds for which a rate stage still holds (R396). -/
def rateRounds (old : Nat) (hit : Bool) : Nat := if hit then 8 else old - 1

/-- The stage a scope holds by rate. -/
def ThermalState.rateStage (t : ThermalState) (k : Nat) : Nat := if 0 < t.rate2.get 0 k then 2 else if 0 < t.rate1.get 0 k then 1 else 0

/-- The state decided for a die as 4 × stage + cause: the strongest stage in force for it; the cause is the orderly stop, else level, else
rate (R395 to R397, R399). -/
def ThermalState.decision (t : ThermalState) (stop : Bool) (d : Nat) : Nat :=
  let lv := max (t.level.get 0 d) (t.level.get 0 16)
  let rt := max (t.rateStage d) (t.rateStage 16)
  if stop then 4 * 2 + 3 else if lv = 0 ∧ rt = 0 then 0 else if rt ≤ lv then 4 * lv + 1 else 4 * rt + 2

/-- Whether the Damper acts in a state (R397). -/
def damperActs (m : ModState) : Bool := !(m == .banked || m == .tripped || m == .off)

/-- The stages of a round from used values and rises; `acts`: the Damper acts in this state. -/
def ThermalState.round (t : ThermalState) (used rise : List Int) (acts stop : Bool) : ThermalState :=
  if !acts then { t with level := [], rate1 := [], rate2 := [], decided := [] }
  else
    let ks := List.range 17
    let t := { t with
      level := listMap 0 (ks.map (fun k => levelStage (t.level.get 0 k) (maxInt ((scopeSensors k).map (fun n => used.getD n 0)))))
      rate1 := listMap 0 (ks.map (fun k => rateRounds (t.rate1.get 0 k) ((scopeSensors k).any (fun n => decide (24 ≤ rise.getD n 0)))))
      rate2 := listMap 0 (ks.map (fun k => rateRounds (t.rate2.get 0 k) ((scopeSensors k).any (fun n => decide (40 ≤ rise.getD n 0))))) }
    { t with decided := listMap 0 ((List.range 16).map (t.decision stop)) }

/-- Whether some scope has come to hold a stage of at least `n` by level or rate that it did not hold before. -/
def stageEngaged (old new : ThermalState) (n : Nat) : Bool :=
  (List.range 17).any (fun k => (decide (n ≤ new.level.get 0 k) && decide (old.level.get 0 k < n)) ||
    (decide (n ≤ new.rateStage k) && decide (old.rateStage k < n)))

/-! ### Host ports down, and the orderly stop and trip (R399, R400) -/

/-- A host link goes down (HST_LINK, R314). -/
def State.hostLinkLost (s : State) (i : Nat) : State :=
  let a := Reg.HST_LINK i
  if fld (s.reg a) 31 30 = 0 then s
  else (s.setReg a (setFld (s.reg a) 31 29 0)).bumpReg a 15 0

/-- Fabric links of powered-down ports go down (R260, R283). -/
def State.linksLost (s : State) : List Nat → State
  | [] => s
  | f :: fs => (if s.linkUp f then s.linkLost f 3 else s).linksLost fs

/-- The end of what a job had under way: its tick, fences, takeover and snapshot; an incomplete slot is discarded (R349, R352, R408). -/
def State.dropJob (s : State) : State :=
  let s := s.dropSnapshot
  { s with recovery := { RecoveryState.reset with restored := s.recovery.restored, fencesSeen := s.recovery.fencesSeen }
           tick := { s.tick with isOpen := false, resolved := true } }

/-- Whether the installation class is L (R399). -/
def State.classL (s : State) : Bool := flag (s.reg Reg.THM_CTRL) 0

/-- The orderly stop (R399): THM_STATUS.stop; Running enters Draining, a drain under way goes on; in Class L a drain owes the notice and the
snapshot of the latest committed tick. -/
def State.orderlyStop (s : State) : State :=
  let s := (s.setRegFld Reg.THM_STATUS 6 6 1).thermalEvent 5
  let owes := s.ticking && s.classL
  let s := { s with thermal := { s.thermal with stopSnap := owes } }
  if s.mode == .running then s.go .draining 2
  else if s.mode == .draining && owes then s.enter .draining 2
  else s

/-- The domains a trip leaves on: the logic of the I/O dies and the Stoker in control (R400). -/
def State.tripKeeps (s : State) (k : Nat) : Bool :=
  k == 65 || k == 67 || k == 69 || k == 71 || k == (if flag (s.reg Reg.TCK_STOKER) 31 then 79 else 78)

/-- The Damper in force on every die lapses. -/
def State.clearDamper (s : State) : List Nat → State
  | [] => s.setRegFld Reg.THM_STATUS 9 8 0
  | d :: ds => (s.setReg (Reg.THM_DAMP d) 0).clearDamper ds

/-- The hardware trip (R400): cause 1 level, 2 rate; domains off, links down, THM_TRIP, Tripped. -/
def State.trip (s : State) (cause sensor : Nat) : State :=
  let s := ((s.dropJob.linksLost (List.range 6)).hostLinkLost 0).hostLinkLost 1
  let s := s.setDomains 0 ((List.range 80).filter (fun k => !(s.tripKeeps k)))
  let s := (s.setReg Reg.THM_TRIP (BitVec.ofNat 32 (cause * 2 ^ 30 + sensor * 2 ^ 20))).thermalEvent (if cause = 1 then 6 else 7)
  let s := { s with
    boot := { s.boot with active := false, bankedFrom := none, waking := false }
    thermal := { s.thermal with level := [], rate1 := [], rate2 := [], decided := [], stopSnap := false } }
  (s.clearDamper (List.range 16)).go .tripped 2

/-- The lowest trusted sensor that rises by 8 °C together with a trusted neighbour (R396). -/
def rateTrip (rise : List Int) (suspect : List Bool) : Option Nat :=
  let hit := fun n => decide (64 ≤ rise.getD n 0) && !(suspect.getD n false)
  (List.range 612).find? (fun n => hit n && (List.range 612).any (fun j => hit j && ((neighbours n).contains j || (neighbours j).contains n)))

/-! ### The governor (R402, R403, R405) -/

/-- Whether the module is capped (R405). -/
def State.capped (s : State) : Bool := decide ((s.reg Reg.PWR_WEAR_PEAK).toNat * 20 > max (s.reg Reg.PWR_WEAR_ON).toNat 86400)

/-- The governor's fraction for the next round, from the present one and the powers in W; a free value where the compute domains draw nothing
(R403 then divides by 0). -/
def governed (budget p pc g free : Nat) : Nat :=
  if pc = 0 then 8 + free % 57
  else (clampInt 8 64 (((budget : Int) - p + pc) * g / pc)).toNat

/-- Every die that the governor throttles has periods removed in this tick (R398). -/
def ThermalState.throttle (t : ThermalState) : List Nat → ThermalState
  | [] => t
  | d :: ds => ThermalState.throttle { t with acted := t.acted.set 0 d (if t.acted.get 0 d % 2 = 1 then t.acted.get 0 d else t.acted.get 0 d + 1) } ds

/-- The governor's part of a round: input power `p`, compute power `pc` in W. -/
def State.govern (s : State) (p pc : Nat) : State :=
  let budget := fld (s.reg Reg.PWR_BUDGET) 13 0
  let b : Int := min 4000000 ((s.thermal.bucket : Int) + budget - p)
  let overdraft := s.thermal.overdraft + (-b).toNat
  let empty := decide (b ≤ 0)
  let s := if b < 0 then s.orReg Reg.PWR_EVENTS 1 else s
  let s := if empty && s.thermal.bucket != 0 then s.orReg Reg.PWR_EVENTS 2 else s
  let g := if empty || (s.capped && decide (budget < p)) then governed budget p pc (fld (s.reg Reg.PWR_GOV) 30 24) s.free else 64
  let t := { s.thermal with bucket := b.toNat, overdraft := overdraft, peakRounds := s.thermal.peakRounds + (if budget < p then 1 else 0) }
  let s := { s.drawn with thermal := (if g < 64 then t.throttle (List.range 16) else t) }
  let s := s.setReg Reg.PWR_BUCKET (BitVec.ofNat 32 (b.toNat / 4))
  s.setReg Reg.PWR_GOV (BitVec.ofNat 32 ((if g < 64 then 2 ^ 31 else 0) + g * 2 ^ 24 + min (overdraft / 4) (2 ^ 24 - 1)))

/-- The rails of a round (PWR_RAIL). -/
def State.setRails (s : State) : Nat → List Nat → List Nat → State
  | n, v :: vs, a :: as =>
    (if n < 80 then s.setReg (Reg.PWR_RAIL n) (BitVec.ofNat 32 (min v 65535 * 65536 + min a 65535)) else s).setRails (n + 1) vs as
  | _, _, _ => s

/-! ### Ring heaters (R377) -/

/-- Whether a ring is present at a port (R377). -/
def ringPresent (p r : Nat) : Bool :=
  if r < 324 then r % 36 != p
  else if r < 340 then true
  else if r < 468 then decide (p < 32)
  else if r < 1044 then decide (p < 16) && (r - 468) % 16 != p
  else if r < 1108 then true
  else if r < 1684 then decide (p < 16) && (r - 1108) % 16 != p
  else r == 1684

/-- The heater code of a ring at a temperature in 1/8 °C, from its table and its offset trim (R377). -/
def ringCode (table : Nat → Nat) (trim : Int) (t : Int) (tie : Nat) : Nat :=
  let u := (clampInt 0 720 (t - 200)).toNat
  let i := min (u / 48) 14
  let c : Int := 48 * (table i : Int) + ((u - 48 * i : Nat) : Int) * ((table (i + 1) : Int) - table i) + 48 * trim
  let r := if c % 48 = 24 then c / 48 + (tie % 2 : Nat) else (c + 24) / 48
  (clampInt 0 4095 r).toNat

/-- The heater code of a ring now. -/
def State.ringNow (s : State) (p r : Nat) : Nat :=
  let v := fld (s.tblWord (tblKey 4 p 1 r)) 7 0
  let k := tblKey 4 p 0 (16 * r)
  ringCode (fun i => fld (s.tblWord (k + i)) 11 0) (if 128 ≤ v then (v : Int) - 256 else v) (s.used (512 + Config.nearestSensor p r % 64))
    (Config.heaterTie (2048 * p + r))

/-- The codes of every ring present, by 2048 × port + ring. -/
def State.ringCodes (s : State) : SMap Nat :=
  let ring := fun p => ((List.range 1685).filter (ringPresent p)).map (fun r => (2048 * p + r, s.ringNow p r))
  ((List.range 36).map ring).flatten.filter (fun x => x.2 != 0)

/-- The heaters of every ring present take their codes, while tables are enabled. -/
def State.applyRings (s : State) : State :=
  if !(flag (s.reg Reg.CAL_CTRL) 1) then s else { s with light := { s.light with heaters := s.ringCodes } }

end Sys2Proof.Machine
end

