-- ==== Sys2Proof/Machine/ResetOps.lean ====
section
/-! DEFINITION. What each reset scope clears and keeps (R411 to R416), and how a reset is recorded (R413). -/

namespace Sys2Proof.Machine

/-- Address ranges kept across every reset: the backup domain's registers, the Glovebox's roots and tamper record, and the values of the
housekeeping sequencer (R392, R405, R410, R414, R428, R429). -/
def keptAlways : List (Nat × Nat) :=
  [(Reg.RST_LAST, Reg.RST_STATUS), (Reg.PWR_WEAR_ON, Reg.PWR_WEAR_PEAK + 1), (Reg.PWR_INPUT, Reg.PWR_INPUT + 1), (Reg.PWR_GOV, Reg.PWR_GOV + 1),
   (Reg.PWR_DOM 0, Reg.PWR_RAIL 0 + 0x400), (Reg.THM_STATUS, Reg.THM_STATUS + 1), (Reg.THM_TRIP, Reg.THM_SUSPECT + 1),
   (Reg.THM_SENSOR 0, Reg.THM_SENSOR 626), (Reg.CFG_SELECT, Reg.CFG_SELECT + 1), (Reg.GLV_TAMPER, Reg.GLV_ROOTS + 1), (Reg.GLV_STATUS, Reg.GLV_STATUS + 1),
   (Reg.GLV_OWNER_ROOT 0, Reg.GLV_OWNER_ROOT 32)] ++ (List.range 16).map (fun d => (Reg.THM_DAMP d, Reg.THM_DAMP d + 1))

/-- Address ranges a Warm reset keeps besides: the Glovebox and what describes the set in use (R414). DESIGN CHOICE (log 129):
GLV_CTRL.lock, which R414's table puts both under the Glovebox, kept, and under block locks, cleared, is cleared. -/
def keptWarm : List (Nat × Nat) :=
  keptAlways ++ [(Reg.GLV_STATUS, 0x50000), (Reg.CFG_STATUS, Reg.CFG_STATUS + 1), (Reg.CFG_VER_A, Reg.CFG_VER_B + 1), (Reg.TCK_ROLE, Reg.TCK_ROLE + 1)]

/-- Whether an address lies in one of some ranges. -/
def inRanges (rs : List (Nat × Nat)) (a : Nat) : Bool := rs.any (fun r => decide (r.1 ≤ a ∧ a < r.2))

/-- The four option bytes of a CFG_OPTION word, and the binding of a mailbox channel (R317, R420). -/
def optionWord (os : List Byte) (w : Nat) : Word := BitVec.ofNat 32 (leNat ((os.drop (4 * w)).take 4))

/-- The binding word of a channel from the option bytes (R317, R331). -/
def bindWord (os : List Byte) (c : Nat) : Word :=
  let stamp := leNat ((os.drop 8).take 4) / 2 ^ c % 2
  let peer := (os.getD (12 + c) 0).toNat
  BitVec.ofNat 32 ((if stamp = 1 ∨ peer ≠ 0 then 2 ^ 31 else 0) + stamp * 2 ^ 30 + mbxOwner c * 2 ^ 16 + peer * 2 ^ 8)

/-- CFG_OPTION words written. -/
def State.optionWords (s : State) : List Nat → State
  | [] => s
  | w :: ws => (s.setReg (Reg.CFG_OPTION w) (optionWord s.boot.options w)).optionWords ws

/-- MBX_BIND words written. -/
def State.bindWords (s : State) : List Nat → State
  | [] => s
  | c :: cs => (s.setReg (Reg.MBX_BIND c) (bindWord s.boot.options c)).bindWords cs

/-- The registers that show the loaded option block: CFG_OPTION, MBX_BIND, THM_CTRL.class (R317, R399, R429). -/
def State.optionRegs (s : State) : State :=
  ((s.optionWords (List.range 32)).bindWords (List.range 32)).setRegFld Reg.THM_CTRL 0 0 (s.boot.options.getD 1 0).toNat

/-- Table keys of working calibration (R386): the calibration block's tables and ember-sum's trims. -/
def isCalibration (k : Nat) : Bool :=
  decide (k / 2 ^ 37 = 4) || (List.range 16).any (fun p => decide (tblKey 2 p 2 0 ≤ k ∧ k < tblKey 2 p 4 0))

/-- A reset recorded (R413, R428): its source counted, RST_TOTAL, and RST_LAST with scope, unit and detail. -/
def State.recordReset (s : State) (source scope unit detail : Nat) : State :=
  let a := Reg.RST_COUNT (source / 2)
  let s := if source % 2 = 1 then s.bumpReg a 31 16 else s.bumpReg a 15 0
  let s := s.bumpReg Reg.RST_TOTAL 31 0
  s.setReg Reg.RST_LAST (BitVec.ofNat 32 (source * 2 ^ 28 + scope * 2 ^ 26 + (if scope = 2 then unit else 0) * 2 ^ 20 + detail % 2 ^ 16))

/-- Sources that fire together with the one that is recorded, each counted (R413). -/
def State.countSources (s : State) : List Nat → State
  | [] => s
  | n :: ns => (if n % 2 = 1 then s.bumpReg (Reg.RST_COUNT (n / 2)) 31 16 else s.bumpReg (Reg.RST_COUNT (n / 2)) 15 0).countSources ns

/-- Of the sources that ask for the acting scope, the lowest-coded, with its detail (R413). -/
def leadSource (source detail : Nat) (also : List Firing) : Nat × Nat :=
  (also.filter (fun f => f.same)).foldl (fun l f => if f.source.val < l.1 then (f.source.val, f.detail.toNat) else l) (source, detail)

/-- The codes of all sources that fire together but the one recorded. -/
def restSources (source detail : Nat) (also : List Firing) : List Nat :=
  (source :: also.map (fun f => f.source.val)).erase (leadSource source detail also).1

/-- An erase or a check that a reset interrupts: an erase leaves its region invalid (R427, coinciding configuration events). -/
def BootState.interrupt (b : BootState) : BootState :=
  match b.cmd with
  | some (0, r) => { b with cmd := none, bad := b.bad.set false (if r then 1 else 0) true }
  | _ => { b with cmd := none }

/-- The housekeeping sequencer through a reset: it runs on; the bucket is full again on entering Option-load (R392, R402). -/
def ThermalState.through (t : ThermalState) (warm : Bool) : ThermalState :=
  { t with bucket := (if warm then t.bucket else 4000000), overdraft := 0, stopSnap := false, heldReset := false }

/-- Release steps at the start of a Cold or a Warm reset, and what they have yet to do. -/
def BootState.restart (b : BootState) (warm : Bool) : BootState :=
  { b.interrupt with
      active := true, scope := (if warm then 1 else 0), units := [], asked := [], step := (if warm then 4 else 1), loaded := warm, checked := false,
      faulted := false, options := (if warm then b.options else []), waiting := [], bankedFrom := none, waking := false }

/-- An erase under way ends failed at a Die or Job reset too (R427: any reset). -/
def State.endErase (s : State) : State :=
  match s.boot.cmd with
  | some (0, _) => ({ s with boot := s.boot.interrupt } : State).setReg Reg.CFG_CMD_STATUS 0x10070000 |>.clearReg Reg.CFG_CMD 0x80000000
  | _ => s

/-- The power domains as a Cold or Warm reset leaves them: all on but Stoker B's (R359, R417, R478). -/
def State.powerUp (s : State) : State := (s.setDomains 1 ((List.range 80).filter (fun k => k != 79))).setDomain 79 0

/-- Words of the measurement registers, from M0 on, cleared (R436). -/
def State.clearMeasures (s : State) : List Nat → State
  | [] => s
  | w :: ws => (s.setReg (Reg.GLV_MEAS w) 0).clearMeasures ws

/-- The module under a Cold or Warm reset: everything at its reset value but what R414 keeps; an orderly stop ends (R399). -/
def State.cleared (s : State) (warm : Bool) : State :=
  let keep := fun a => inRanges (if warm then keptWarm else keptAlways) a
  let s' := { State.reset with
    pending := s.pending, out := s.out, draws := s.draws, mode := s.mode
    regs := s.regs.keep keep
    tbl := if warm then s.tbl.keep isCalibration else []
    clock := if warm then s.clock.keep (fun u => u == 36) else []
    thermal := s.thermal.through warm
    light := if warm then { LightState.reset with thresh := s.light.thresh, heaters := s.light.heaters } else LightState.reset
    glove := if warm then { s.glove with quotes := [], image := GloveState.reset.image, degraded := GloveState.reset.degraded } else GloveState.reset
    host := { HostState.reset with i2c := s.host.i2c }
    boot := s.boot.restart warm }
  let s' := if warm then (s'.clearMeasures (List.range 32)).optionRegs.setReg Reg.GLV_STATUS (s'.reg Reg.GLV_STATUS &&& 0xE0000000)
    else s'.setReg Reg.GLV_STATUS (s'.reg Reg.GLV_STATUS &&& 0x20000000)
  let s' := if s.boot.cmd.isSome then s'.setReg Reg.CFG_CMD_STATUS 0x10070000 else s'
  ((s'.setRegFld Reg.THM_STATUS 6 6 0).setRegFld Reg.PWR_GOV 23 0 0).powerUp

/-- A pin made by the Cold reset that CONFIG_REVERT asked for (R426). -/
def State.applyRevert (s : State) : State :=
  match s.boot.revert with
  | none => s
  | some b =>
    let w := s.reg Reg.CFG_SELECT
    let w := setFlag (setFlag w 31 true) 30 b
    let s := s.setReg Reg.CFG_SELECT (if b then setFld w 25 24 0 else setFld w 27 26 0)
    { s with boot := { s.boot with revert := none } }

/-- A Cold reset (R411, R414): the module enters Option-load and its release starts at step 1. -/
def State.coldReset (s : State) (source detail : Nat) : State :=
  { ((s.recordReset source 0 0 detail).applyRevert).cleared false with mode := .optionLoad }

/-- A Warm reset (R414): the module enters Boot and its release starts at step 4. -/
def State.warmReset (s : State) (source detail : Nat) : State :=
  { (s.recordReset source 1 0 detail).cleared true with mode := .boot }

/-- A critical-state error as a reset source (R411): Cold where the loaded option bytes mismatch, Warm otherwise; its detail is 0
register pair, 1 pilot frame, 2 commit machinery, 3 option copy. A release under way that is Cold restarts Cold (R418). -/
def State.criticalError (s : State) (detail : Nat) : State :=
  if s.mode == .off then s
  else if detail = 3 || (s.boot.active && s.boot.scope == 0) then s.coldReset 7 detail else s.warmReset 7 detail

end Sys2Proof.Machine
end

