-- ==== Sys2Proof/Machine/FlashOps.lean ====
section
/-! DEFINITION. The configuration sets in flash (R419 to R422): headers, option blocks, validity, the roots they verify under, and the set
that is chosen (R423, R424). -/

namespace Sys2Proof.Machine

/-- A byte of flash; an erased byte reads 0xFF. -/
def BootState.byte (b : BootState) (o : Nat) : Byte := SMap.get 0xFF b.flash o

/-- Bytes of flash. -/
def BootState.bytes (b : BootState) (o n : Nat) : List Byte := (List.range n).map (fun i => b.byte (o + i))

/-- Where region A (false) or B (true) begins (R419). -/
def regionBase (r : Bool) : Nat := if r then 0x2000000 else 0

/-- A header field of a region: `n` bytes at offset `o`. -/
def BootState.head (b : BootState) (r : Bool) (o n : Nat) : Nat := leNat (b.bytes (regionBase r + o) n)

/-- The length of a set with its signature. -/
def BootState.setLen (b : BootState) (r : Bool) : Nat := b.head r 0x00C 4

/-- The sections of a set as (offset, length): Stoker firmware, controller firmware, calibration. -/
def BootState.sections (b : BootState) (r : Bool) : List (Nat × Nat) := [0x010, 0x018, 0x020].map (fun o => (b.head r o 4, b.head r (o + 4) 4))

/-- Whether the header and sections of a region obey R419 and R421. -/
def BootState.headerOk (b : BootState) (r : Bool) : Bool :=
  let n := b.setLen r
  let ss := b.sections r
  b.bytes (regionBase r) 4 == [0x45, 0x4D, 0x43, 0x46] && b.head r 4 1 / 16 == 1 && b.head r 5 3 == 0 && b.head r 8 4 != 0 &&
    decide (0x180 + 7856 ≤ n ∧ n ≤ 0x2000000) && b.head r 0x028 88 == 0 &&
    ss.all (fun x => x.2 == 0 || (x.1 % 128 == 0 && decide (0x180 ≤ x.1 ∧ x.1 + x.2 + 7856 ≤ n))) &&
    (List.range 3).all (fun i => (List.range i).all (fun j =>
      !(overlap (ss.getD i (0, 0)).1 (ss.getD i (0, 0)).2 (ss.getD j (0, 0)).1 (ss.getD j (0, 0)).2)))

/-- The option bytes of a region (R420). -/
def BootState.optionBytes (b : BootState) (r : Bool) : List Byte := (List.range 128).map (fun k => b.byte (regionBase r + 0x080 + 2 * k))

/-- Whether option bytes obey R420 and R421: ranges, zero bytes, CRC, and peer 0 of STAMP channels. -/
def optionsOk (os : List Byte) : Bool :=
  let v := fun i => (os.getD i 0).toNat
  v 0 == 0x10 && decide (v 1 ≤ 1 ∧ v 2 ≤ 3 ∧ 12 ≤ v 3 ∧ v 3 ≤ 100 ∧ 1 ≤ v 4 ∧ v 4 ≤ 100) && (List.range 3).all (fun i => v (5 + i) == 0) &&
    (List.range 80).all (fun i => v (44 + i) == 0) && (os.drop 124).take 4 == leBytes 4 (crc32c (os.take 124)) &&
    (List.range 32).all (fun c => leNat ((os.drop 8).take 4) / 2 ^ c % 2 == 0 || v (12 + c) == 0)

/-- Whether the option block of a region is valid: complements, and the option bytes themselves (R421). -/
def BootState.blockOk (b : BootState) (r : Bool) : Bool :=
  (List.range 128).all (fun k => b.byte (regionBase r + 0x080 + 2 * k + 1) == ~~~(b.byte (regionBase r + 0x080 + 2 * k))) && optionsOk (b.optionBytes r)

/-- Whether a region is valid: not marked invalid, and its content obeys R421. -/
def BootState.valid (b : BootState) (r : Bool) : Bool := !(b.bad.get false (if r then 1 else 0)) && b.headerOk r && b.blockOk r

/-- The signed bytes of a set, and its signature. -/
def BootState.signed (b : BootState) (r : Bool) : List Byte := b.bytes (regionBase r) (b.setLen r - 7856)
/-- The signature of a set. -/
def BootState.signature (b : BootState) (r : Bool) : List Byte := b.bytes (regionBase r + (b.setLen r - 7856)) 7856

/-- The root a set verifies under: 0 vendor, 1 owner; none where it does not verify (R433, R438). -/
def State.setRoot (s : State) (r : Bool) : Option Nat :=
  let m := s.boot.signed r
  let g := s.boot.signature r
  if flag (s.reg Reg.GLV_STATUS) 30 then none
  else if Config.slhVerify Config.vendorRoot m g then some 0
  else
    match s.activeRoot with
    | some k => if Config.slhVerify (s.ownerRoot k) m g then some 1 else none
    | none => none

/-- Whether a region is rejected (R425). -/
def State.rejected (s : State) (r : Bool) : Bool := flag (s.reg Reg.CFG_SELECT) (if r then 28 else 29)
/-- Whether a region's set failed verification (R424). -/
def State.sigBad (s : State) (r : Bool) : Bool := flag (s.reg Reg.CFG_STATUS) (if r then 23 else 24)
/-- Whether a set may be chosen. -/
def State.eligible (s : State) (r : Bool) : Bool := s.boot.valid r && !(s.rejected r) && !(s.sigBad r)

/-- The set chosen and CFG_STATUS.sel_reason (R423): the pinned set, else the higher version, A where equal; a set that failed verification
in this release is out (R424). -/
def State.chooseSet (s : State) : Option (Bool × Nat) :=
  let w := s.reg Reg.CFG_SELECT
  let pin := flag w 30
  if flag w 31 && s.eligible pin then some (pin, 1)
  else
    match s.eligible false, s.eligible true with
    | true, true => some (decide (s.boot.head false 8 4 < s.boot.head true 8 4), 0)
    | true, false => some (false, 2)
    | false, true => some (true, 2)
    | false, false => none

/-- The fixed option block of the hub ROM (R423). -/
def romOptions : List Byte :=
  let os : List Byte := [0x10, 0, 0, 20, 10] ++ List.replicate 23 0 ++ [0x10] ++ List.replicate 95 0
  os ++ leBytes 4 (crc32c os)

/-- The registers that show the regions: validity and versions (R429). -/
def State.showRegions (s : State) : State :=
  let a := s.boot.valid false
  let b := s.boot.valid true
  let s := s.setReg Reg.CFG_STATUS (setFlag (setFlag (s.reg Reg.CFG_STATUS) 26 a) 25 b)
  (s.setReg Reg.CFG_VER_A (BitVec.ofNat 32 (if a then s.boot.head false 8 4 else 0))).setReg Reg.CFG_VER_B
    (BitVec.ofNat 32 (if b then s.boot.head true 8 4 else 0))

/-- The chosen set's option block loaded, or that of the hub ROM (R423). -/
def State.loadSet (s : State) : State :=
  let s := s.showRegions
  match s.chooseSet with
  | some (r, why) =>
    let w := setFlag (setFld (setFlag (setFlag (s.reg Reg.CFG_STATUS) 31 r) 30 false) 28 27 why) 29 false
    { s.setReg Reg.CFG_STATUS w with boot := { s.boot with loaded := true, checked := false, options := s.boot.optionBytes r } }
  | none =>
    let w := setFlag (setFld (setFlag (s.reg Reg.CFG_STATUS) 30 false) 28 27 3) 29 true
    { s.setReg Reg.CFG_STATUS w with boot := { s.boot with loaded := true, checked := false, options := romOptions } }

/-- The region of the set in use, if one is (R423, R429). -/
def State.setInUse (s : State) : Option Bool :=
  if s.boot.loaded && !(flag (s.reg Reg.CFG_STATUS) 29) then some (flag (s.reg Reg.CFG_STATUS) 31) else none

/-- The table key a baseline record names in the calibration engine, or among the path and detector trims of ember-sum; none beside these (R207, R389, R422). -/
def baselineKey (blk table port idx : Nat) : Option Nat :=
  match blk with
  | 0 => if idx < ([26960, 1685, 2072, 900, 576] : List Nat).getD table 0 ∧ port < 36 then some (tblKey 4 (if table = 3 then 0 else port) table idx) else none
  | 2 => if idx < ([0, 0, 576, 36] : List Nat).getD table 0 ∧ port < 16 then some (tblKey 2 port table idx) else none
  | _ => none

/-- The bits of a working word that a baseline record sets: codes and trims (R207, R386, R389). -/
def workingMask (k : Nat) : Word := if k / 2 ^ 37 = 4 then baselineMask k else if k / 2 ^ 16 % 8 = 2 then 0xFFF000 else 0xFFF

/-- One record of the baseline calibration put into force (R422); `all` where every working value is replaced (Cold), else only the
Bellows references, which are registers (R386). A record that names no word of its block writes nothing. -/
def State.baselineRecord (s : State) (all : Bool) (r : List Byte) : State :=
  let v := fun i => (r.getD i 0).toNat
  let w := BitVec.ofNat 32 (leNat ((r.drop 8).take 4))
  if v 0 = 1 then (if v 2 < 12 then s.setReg (Reg.BLW_REF (v 2)) (w &&& 0xFFFF) else s)
  else
    match baselineKey (v 0) (v 1) (v 2) (v 4 + 256 * v 5) with
    | some k => if all then s.setTbl k (w &&& workingMask k) else s
    | none => s

/-- Records of 12 bytes. -/
def State.baselineRecords (s : State) (all : Bool) (o : Nat) : Nat → State
  | 0 => s
  | n + 1 => (s.baselineRecord all (s.boot.bytes o 12)).baselineRecords all (o + 12) n

/-- The baseline calibration of a set put into force (R386, R414, R422). -/
def State.loadBaseline (s : State) (r : Bool) (all : Bool) : State :=
  let o := s.boot.head r 0x020 4
  if s.boot.head r 0x024 4 < 4 then s
  else
    let b := regionBase r + o
    s.baselineRecords all (b + 4) (min (leNat (s.boot.bytes b 4)) ((s.boot.head r 0x024 4 - 4) / 12))

/-- The fail count of a set (R425). -/
def State.fails (s : State) (r : Bool) : Nat := if r then fld (s.reg Reg.CFG_SELECT) 25 24 else fld (s.reg Reg.CFG_SELECT) 27 26
/-- The state with the fail count of a set. -/
def State.setFails (s : State) (r : Bool) (n : Nat) : State :=
  if r then s.setRegFld Reg.CFG_SELECT 25 24 n else s.setRegFld Reg.CFG_SELECT 27 26 n

/-- A boot of the set in use has failed: counted; at three the set is rejected and the pin cleared (R425). -/
def State.bootFailed (s : State) : State :=
  match s.setInUse with
  | none => s
  | some r =>
    let n := min 3 (s.fails r + 1)
    let s := s.setFails r n
    if n = 3 then (s.setRegFld Reg.CFG_SELECT (if r then 28 else 29) (if r then 28 else 29) 1).setRegFld Reg.CFG_SELECT 31 31 0 else s

/-- Measurement register `i` extended by a digest (R436). -/
def State.measure (s : State) (i : Nat) : List Byte :=
  ((List.range 8).map (fun w => leBytes 4 (s.reg (Reg.GLV_MEAS (8 * i + w))).toNat)).flatten

/-- Words of a register run from bytes. -/
def State.setWords (s : State) (a : Nat) (bs : List Byte) : Nat → State
  | 0 => s
  | n + 1 => (s.setReg (a + 4 * n) (BitVec.ofNat 32 (leNat ((bs.drop (4 * n)).take 4)))).setWords a bs n

/-- M_i := sha256(M_i || d) (R436). -/
def State.extend (s : State) (i : Nat) (d : List Byte) : State := s.setWords (Reg.GLV_MEAS (8 * i)) (sha256 (s.measure i ++ d)) 8

end Sys2Proof.Machine
end

