-- ==== Sys2Proof/Machine/Recovery.lean ====
section
/-! DEFINITION. Fencing, checkpoints, standby and the Stoker pair (chapter 13), and the end of draining (R21). -/

namespace Sys2Proof.Machine

/-! ### Fences (R340 to R345) -/

/-- CORE_FENCE_PREPARE: die-controller firmware prepares the fences that wait on the tile's die and marks its shadows ready (R340, R341,
R363). -/
def execCoreFencePrepare (t : TileId) (s : State) : Host.Outcome State Fault Refusal :=
  let d := t.die.val
  if !(s.recovery.pendingFences.contains t.key) || flag (s.reg (Reg.MSH_SHADOW d)) 0 || s.recovery.takeover then .next s
  else
    let s := s.prepare (t.key :: s.recovery.pendingFences.filter (fun k => keyDie k == d && k != t.key))
    .next (if s.recovery.prepared.any (fun x => keyDie x.1 == d) then (s.meshReady d).showStage else s)

/-- SPARE_LOADING_END: the die controller has loaded its spares; they run from the next beacon (R342). -/
def execSpareLoadingEnd (die : Fin 16) (s : State) : Host.Outcome State Fault Refusal :=
  .next (s.loadSpares (s.recovery.loading.filter (fun e => keyDie e == die.val))).showStage

/-- DIE_FAILURE: a compute die fails: a router fault, an escalated fence, or its controller (R343). -/
def execDieFailure (die : Fin 16) (s : State) : Host.Outcome State Fault Refusal :=
  if !(s.unitOn die) || flag (s.shadow (Reg.TIL_DIE_FENCE die)) 31 then .next s else .next (s.dieFail die)

/-- TAKEOVER_END: the degraded takeover ends (R345). -/
def execTakeoverEnd (s : State) : Host.Outcome State Fault Refusal := if s.recovery.takeover then .next s.endTakeover else .next s

/-- JOB_TEARDOWN: a teardown condition, such as an internal fault of a memory logic die (R348, R349). -/
def execJobTeardown (s : State) : Host.Outcome State Fault Refusal := .next s.teardown

/-! ### Checkpoints (R350 to R354) -/

/-- The parity that steers reads now: as latched while ticks run, the epoch's otherwise (R241). -/
def State.readParity (s : State) : Bool := if s.ticking then s.tick.parity else flag (s.reg Reg.TCK_EPOCH) 0

/-- The read copies of a stack's windows, as (offset, length), in ascending index (R351). -/
def State.snapshotRanges (s : State) (m : Nat) : List (Nat × Nat) :=
  (s.memWins m).map (fun w => (if s.readParity then w.2.2 else w.1, w.2.1))

/-- Where slot `s` of a snapshot area begins, and its header (R351). -/
def slotData (slot : Nat) : Nat := 0x800000000 + slot * 0x100000000
/-- The header of a snapshot slot. -/
def slotHead (slot : Nat) : Nat := 0xA00000000 + 128 * slot

/-- The header of a snapshot (R352), with its complete byte as given. -/
def State.snapshotHeader (s : State) (m windows : Nat) (complete : Byte) (data : List Byte) : List Byte :=
  [0x45, 0x4D, 0x43, 0x4B, 0x10, BitVec.ofNat 8 m, BitVec.ofNat 8 windows, complete] ++ leBytes 8 s.recovery.ckptTick ++
    leBytes 8 s.recovery.ckptEpoch.toNat ++ leBytes 8 data.length ++ s.stage (s.imageInUse.base + 0x060) 32 ++ sha256 data ++ List.replicate 32 0

/-- One stack's slot written: data, then the header, complete last (R352). -/
def State.writeSnapshot (s : State) (m : Nat) : State :=
  let rs := s.snapshotRanges m
  let data := (rs.map (fun r => (s.stack m).bytes r.1 r.2)).flatten
  let slot := s.recovery.ckptSlot
  s.setStack m (((s.stack m).write (slotData slot) data).write (slotHead slot) (s.snapshotHeader m rs.length 1 data))

/-- Whether the read copy of a window holds an uncorrectable line. -/
def State.snapshotBad (s : State) (m : Nat) : Bool :=
  (s.snapshotRanges m).any (fun r => !((s.stack m).badLines (linesOf r.1 r.2)).isEmpty)

/-- The store of checkpoints is the peer module (R354). -/
def State.toPeer (s : State) : Bool := flag (s.reg Reg.TCK_CKPT_CTRL) 30 && flag (s.reg Reg.TCK_CKPT_PEER) 31

/-- A snapshot is whole in every stack: shown, and on its way to the peer where that is the store (R352 to R354). -/
def State.snapshotDone (s : State) : State :=
  let slot := s.recovery.ckptSlot
  let w := setFlag (setFlag (bumpFld (s.reg Reg.TCK_CKPT_STATUS) 15 0 1) 29 (slot == 1)) 28 false
  let s := s.setReg Reg.TCK_CKPT_STATUS (setFld w 31 30 (if s.toPeer then 2 else 0))
  let s := s.setReg64 Reg.TCK_CKPT_LAST_LO Reg.TCK_CKPT_LAST_HI s.recovery.ckptTick
  { s with recovery := { s.recovery with ckptRunning := false, transfer := (if s.toPeer then some slot else none) } }

/-- CHECKPOINT_SNAPSHOT_END: a memory logic die ends its copy (R352). One that could not read its windows is a memory-stack loss (R348). -/
def execCheckpointSnapshotEnd (stack : Fin 16) (ok : Bool) (s : State) : Host.Outcome State Fault Refusal :=
  let r := s.recovery
  if !r.ckptRunning || !(r.ckptLeft.contains stack.val) then .next s
  else if !ok || s.snapshotBad stack then
    if s.ticking then .next s.teardown
    else .next { s.setReg Reg.TCK_CKPT_STATUS (setFlag (setFld (s.reg Reg.TCK_CKPT_STATUS) 31 30 0) 28 true) with
                 recovery := { r with ckptRunning := false, ckptLeft := [] } }
  else
    let s := s.writeSnapshot stack
    let left := r.ckptLeft.filter (fun m => m != stack.val)
    let s := { s with recovery := { s.recovery with ckptLeft := left } }
    .next (if left.isEmpty then s.snapshotDone else s)

/-- A remote write of 64 bytes to the peer's stack (R354). -/
def State.peerWrite (s : State) (m off : Nat) (bs : List Byte) : State :=
  let base := fld (s.reg Reg.TCK_CKPT_PEER_BASE) 23 0 * 4096
  let d : RemoteDesc :=
    { op := 5, target := BitVec.ofNat 12 (fld (s.reg Reg.TCK_CKPT_PEER) 23 12), mpa := BitVec.ofNat 48 (2 ^ 44 + m * 2 ^ 40 + (base + off) % 2 ^ 36),
      from_ := BitVec.ofNat 12 s.coord, die := 0, row := 0, col := 0, thread := 0, tick := BitVec.ofNat 8 s.seq, status := 0, value := 0,
      compare := 0, data := BitVec.ofNat 512 (leNat bs) }
  match s.nextPort d.target.toNat with
  | some f => s.forward f d none
  | none => s

/-- A run of bytes written to the peer in pieces of 64, from a peer offset on. -/
def State.peerWrites (s : State) (m off : Nat) : List (List Byte) → State
  | [] => s
  | b :: bs => (s.peerWrite m off b).peerWrites m (off + 64) bs

/-- Bytes cut into pieces of 64. -/
def piecesOf64 (bs : List Byte) : List (List Byte) := (List.range ((bs.length + 63) / 64)).map (fun i => (bs.drop (64 * i)).take 64)

/-- The slots of every stack sent to the peer, header last (R354). The peer's area has the layout of the own one, from its base. -/
def State.peerCopies (s : State) (slot : Nat) : List Nat → State
  | [] => s
  | m :: ms =>
    let x := s.stack m
    let n := leNat (x.bytes (slotHead slot + 24) 8)
    let s := s.peerWrites m (slotData slot - 0x800000000) (piecesOf64 (x.bytes (slotData slot) n))
    (s.peerWrites m (slotHead slot - 0x800000000) (piecesOf64 (x.bytes (slotHead slot) 128))).peerCopies slot ms

/-- PEER_CHECKPOINT_TRANSFER: I/O die 2 copies the slot just completed to the peer (R354). -/
def execPeerCheckpointTransfer (s : State) : Host.Outcome State Fault Refusal :=
  match s.recovery.transfer with
  | none => .next s
  | some slot =>
    let s := (s.peerCopies slot (List.range 16)).setRegFld Reg.TCK_CKPT_STATUS 31 30 0
    .next { s with recovery := { s.recovery with transfer := none } }

/-! ### Standby (R356 to R358) -/

/-- A 16-bit field read as two's complement. -/
def signed16 (n : Nat) : Int := if n ≥ 2 ^ 15 then (n : Int) - 2 ^ 16 else n

/-- Banks whose spare is ready: cold or locked (R356, R369). -/
def State.sparesReady (s : State) : Nat := ((List.range 2).filter (fun b => s.spareState b == 0 || s.spareState b == 2)).length

/-- Fences now present: cores and dies. -/
def State.fenceCount (s : State) : Nat :=
  fld (s.reg Reg.TCK_RCV_STATUS) 23 16 + s.recovery.prepared.length + ((List.range 16).filter s.dieFenced).length

/-- Whether a second of self-test was good (R356). -/
def State.goodSecond (s : State) (bistFail lanesBad : Nat) : Bool :=
  bistFail == 0 && lanesBad == 0 && s.sparesReady == 2 &&
    (List.range 12).all (fun c => s.comb c != 3 || decide (-150 ≤ signed16 (fld (s.reg (Reg.BLW_COMB c)) 15 0))) &&
    decide (s.tmax < 760) && s.fenceCount == s.recovery.fencesSeen

/-- The health report of R356. -/
def State.healthPayload (s : State) (bistPass : Word) (bistFail lanesBad : BitVec 16) : List Byte :=
  let role := s.reg Reg.TCK_ROLE
  let ckpt := match s.recovery.restored with
    | some n => n
    | none => 2 ^ 64 - 1
  [BitVec.ofNat 8 s.mode.code, BitVec.ofNat 8 (fld role 31 31 + 2 * fld role 30 30 + 4 * fld role 28 28)] ++ leBytes 2 (fld role 15 0) ++
    leBytes 4 bistPass.toNat ++ leBytes 2 bistFail.toNat ++ leBytes 2 lanesBad.toNat ++ [BitVec.ofNat 8 s.sparesReady] ++
    [if (List.range 16).any s.dieFenced then 1 else 0] ++ leBytes 2 (BitVec.ofInt 16 (2 * s.tmax)).toNat ++ leBytes 8 ckpt ++ List.replicate 8 0

/-- HEALTH_REPORT: a second of a standby module's self-test ends: good seconds are counted, and the report is sent (R24, R356, R358). -/
def execHealthReport (bistPass : Word) (bistFail : BitVec 16) (lanesBad : BitVec 16) (s : State) : Host.Outcome State Fault Refusal :=
  if !(flag (s.reg Reg.TCK_ROLE) 31 && (s.mode == .ready || s.mode == .loaded)) then .next s
  else
    let s := if s.goodSecond bistFail.toNat lanesBad.toNat then s.bumpReg Reg.TCK_ROLE 15 0 else s.setRegFld Reg.TCK_ROLE 15 0 0
    let s := if flag (s.reg Reg.TCK_ROLE) 30 && decide (fld (s.reg Reg.TCK_ROLE) 15 0 ≥ 10) then s.setRegFld Reg.TCK_ROLE 28 28 1 else s
    let s := { s with recovery := { s.recovery with fencesSeen := s.fenceCount } }
    .next (s.event 2 0x8004 (s.healthPayload bistPass bistFail lanesBad))

/-- YIELD: a yielding module that has drained to Loaded, with the snapshot of its checkpoint and its transfer complete, becomes standby
(R358). -/
def execYield (s : State) : Host.Outcome State Fault Refusal :=
  let r := s.recovery
  if r.yielding && s.mode == .loaded && !r.ckptStart && !r.ckptRunning && r.transfer.isNone then
    let s := (s.setRegFld Reg.TCK_ROLE 31 31 1).setRegFld Reg.TCK_ROLE 29 29 0
    .next { s with recovery := { s.recovery with yielding := false } }
  else .next s

/-! ### The Stoker pair (R320, R359 to R361) -/

/-- Whether Stoker firmware runs: in every state from Ready on. -/
def State.stokerRuns (s : State) : Bool := !(s.mode == .off || s.mode == .optionLoad || s.mode == .boot)

/-- STOKER_SNAPSHOT: the Stoker in control saves its state (R359). -/
def execStokerSnapshot (s : State) : Host.Outcome State Fault Refusal :=
  if s.stokerRuns then .next (s.setRegFld Reg.TCK_STOKER 27 20 0) else .next s

/-- Control passes from A to B, which boots within the command (R360); a_ok falls where A failed a self-test (R364). -/
def State.failover (s : State) (failed : Bool) : State :=
  let w := setFld (setFld (bumpFld (s.reg Reg.TCK_STOKER) 15 0 1) 31 31 1) 29 29 1
  (((s.setReg Reg.TCK_STOKER (if failed then setFlag w 30 false else w)).setDomain 79 1).dropOpen stokerChannels)

/-- STOKER_FAILOVER: control passes from A to B, `failed` on a failed self-test of A (R360); not to a B whose domain has browned out. -/
def execStokerFailover (failed : Bool) (s : State) : Host.Outcome State Fault Refusal :=
  if !s.stokerRuns || flag (s.reg Reg.TCK_STOKER) 31 || s.domain 79 == 3 then .next s else .next (s.failover failed)

/-- STOKER_RETURN: a restarted A has passed its self-test and boots from B's snapshot; control returns at the next guard start while Running, at
once otherwise (R361). -/
def execStokerReturn (s : State) : Host.Outcome State Fault Refusal :=
  if !s.stokerRuns || !(flag (s.reg Reg.TCK_STOKER) 31) then .next s
  else
    let s := ((s.setRegFld Reg.TCK_STOKER 30 30 1).setRegFld Reg.TCK_STOKER 27 20 0).setDomain 78 1
    let s := { s with recovery := { s.recovery with returnPending := true } }
    .next (if s.mode == .running then s else s.giveBack)

/-! ### The end of draining (R21, R148, R399) -/

/-- The snapshot of the latest committed tick that an orderly stop in Class L owes (R399). -/
def State.owedSnapshot (s : State) : State :=
  if !s.thermal.stopSnap then s
  else if s.checkpointK == 0 then { s with thermal := { s.thermal with stopSnap := false } }
  else
    let n := s.reg64 Reg.TCK_LAST_COMMIT_LO Reg.TCK_LAST_COMMIT_HI
    let s := { s with
      thermal := { s.thermal with stopSnap := false }
      recovery := { s.recovery with ckptStart := true, ckptTick := n, ckptEpoch := s.reg Reg.TCK_EPOCH } }
    s.snapshotStart

/-- The entry to Loaded: waiting shadows are adopted (R148). -/
def State.toLoaded (s : State) : State := ((s.go .loaded 0).adoptAll false).adoptFences.owedSnapshot

/-- DRAIN_END: the drained tick is resolved: the module passes to Loaded, where waiting shadows are adopted; an orderly stop in Class L
snapshots the latest committed tick (R21, R148, R399). -/
def execDrainEnd (s : State) : Host.Outcome State Fault Refusal :=
  if s.mode == .draining && s.tick.resolved then .next s.toLoaded else .next s

end Sys2Proof.Machine
end

