-- ==== Sys2Proof/Machine/Thermal.lean ====
section
/-! DEFINITION. Power and temperature (chapter 15): the housekeeping round, changes of Damper stage, cooling and wear seconds, and the end of
the entry to Banked. -/

namespace Sys2Proof.Machine

/-- The sensors' part of a round: readings judged, used values, THM_SENSOR, THM_SUSPECT and THM_STATUS, the events of suspicion and warning
(R392 to R395). -/
def State.senseRound (s : State) (raw : List Int) : State :=
  let old := (List.range 612).map (fun n => flag (s.reg (Reg.THM_SENSOR n)) 7)
  let js := (List.range 612).map (judgeSensor raw old s.thermal.suspectRun s.thermal.trustRun)
  let now := js.map (fun (j : Bool × Nat × Nat) => j.1)
  let used := (List.range 626).map (fun n => if n < 612 then usedValue raw now (signed12 (s.free % 4096)) n else raw.getD n 0)
  let top := maxInt (used.take 612)
  let warm := decide (760 ≤ top) || (flag (s.reg Reg.THM_STATUS) 7 && decide (744 ≤ top))
  let fresh := (List.range 612).any (fun n => now.getD n false && !(old.getD n false))
  let warned := warm && !(flag (s.reg Reg.THM_STATUS) 7)
  let s := s.drawn.setSensors raw used now (List.range 626)
  let s := s.setReg Reg.THM_SUSPECT (BitVec.ofNat 32 (now.filter (fun b => b)).length)
  let w := setFld (setFld (s.reg Reg.THM_STATUS) 31 20 (temp12 top)) 19 10 (hottest used)
  let s := s.setReg Reg.THM_STATUS (setFlag (setFlag w 7 warm) 5 (now.any (fun b => b)))
  let s := { s with thermal := { s.thermal with
    suspectRun := listMap 0 (js.map (fun (j : Bool × Nat × Nat) => j.2.1)), trustRun := listMap 0 (js.map (fun (j : Bool × Nat × Nat) => j.2.2)), sampled := true } }
  s.thermalEvents ((if fresh then [1] else []) ++ (if warned then [2] else []))

/-- The rises of a round over the used values before it; none in the first round (R396). -/
def State.rises (s t : State) : List Int :=
  (List.range 612).map (fun n => if s.thermal.sampled then t.used n - s.used n else 0)

/-- The stages a round decides (R395 to R397). -/
def State.stageRound (s : State) (rise : List Int) : State :=
  let t := s.thermal.round ((List.range 612).map s.used) rise (damperActs s.mode) (flag (s.reg Reg.THM_STATUS) 6)
  let e1 := stageEngaged s.thermal t 1
  let e2 := stageEngaged s.thermal t 2 || (List.range 16).any (fun d => decide (s.thermal.decided.get 0 d / 4 < 2 ∧ t.decided.get 0 d / 4 = 2))
  ({ s with thermal := t } : State).thermalEvents ((if e1 then [3] else []) ++ (if e2 then [4] else []))

/-- The trip a round decides: level before rate; never twice, nor in Off (R395, R396, R400, R408). -/
def State.tripRound (s : State) (rise : List Int) : State :=
  if s.mode == .tripped || s.mode == .off then s
  else
    let m := fld (s.reg Reg.THM_STATUS) 19 10
    if 920 ≤ s.used m then s.trip 1 m
    else
      match rateTrip rise ((List.range 612).map (fun n => flag (s.reg (Reg.THM_SENSOR n)) 7)) with
      | some n => s.trip 2 n
      | none => s

/-- The orderly stop a round decides (R399). -/
def State.stopRound (s : State) : State :=
  if flag (s.reg Reg.THM_STATUS) 6 || decide (s.tmax < 856) then s
  else s.orderlyStop

/-- What a round does in Tripped: the cooling count restarts on heat, and a MOD_RESET_N held in Class L takes effect (R400, R401). -/
def State.coolRound (s : State) : State :=
  if s.mode != .tripped then s
  else if 560 ≤ s.tmax then s.setRegFld Reg.THM_TRIP 15 0 0
  else if s.thermal.heldReset then s.coldReset 2 0
  else s

/-- The keys of the sum delay trims whose temperature coefficient is not 0 (R389). -/
def State.warmDelays (s : State) : List Nat := delayKeys.filter (fun k => fld (s.tblWord k) 15 8 != 0)

/-- Delay trims that follow their coefficients while the module is Running: R385 gives neither the temperature a coefficient counts from nor the
rounding, so that a trim so moved is a free value. -/
def State.followDelays (s : State) : State := if s.mode == .running then s.delayTrims s.warmDelays else s

/-- HOUSEKEEPING_ROUND: the readings of a round and every rule applied at its end (R392 to R403, R368, R377, R385). -/
def execHousekeepingRound (x : HkSample) (s : State) : Host.Outcome State Fault Refusal :=
  if !s.boot.input then .next s
  else
    let raw := (List.range 626).map (fun n => clampInt (-2048) 2047 (x.temps.getD n 0))
    let t := s.senseRound raw
    let rise := s.rises t
    let t := ((t.tripRound rise).stopRound.stageRound rise)
    let t := t.govern x.inputW (x.domsW.take 48).sum
    let t := t.setReg Reg.PWR_INPUT (BitVec.ofNat 32 (min x.inputW 65535 * 65536 + min x.inputCv 65535))
    let t := (t.setRails 0 x.railMv x.railDa).fadeRound 0 x.fades
    .next t.applyRings.followDelays.coolRound

/-- DAMPER_STAGE_CHANGE: the stage decided for a die takes force (R397); the periods it removes or halves count in this tick (R398). -/
def execDamperStageChange (die : Fin 16) (s : State) : Host.Outcome State Fault Refusal :=
  let d := die.val
  let w := s.thermal.decided.get 0 d
  let s := s.setReg (Reg.THM_DAMP d) (BitVec.ofNat 32 (w / 4 * 2 ^ 30 + w % 4 * 2 ^ 28))
  let a := s.thermal.acted.get 0 d
  let n := s.damping d
  let a' := (if a % 2 = 1 ∨ n % 2 = 1 then 1 else 0) + (if a / 2 = 1 ∨ n / 2 = 1 then 2 else 0)
  let s := { s with thermal := { s.thermal with acted := s.thermal.acted.set 0 d a' } }
  let top := (List.range 16).foldl (fun m k => max m (fld (s.reg (Reg.THM_DAMP k)) 31 30)) 0
  .next (s.setRegFld Reg.THM_STATUS 9 8 top)

/-- COOL_SECOND: a whole second in Tripped with every junction sensor below 70 °C; in Class S the thirtieth restarts the module (R400, R401). -/
def execCoolSecond (s : State) : Host.Outcome State Fault Refusal :=
  if s.mode != .tripped || decide (560 ≤ s.tmax) then .next s
  else
    let s := s.bumpReg Reg.THM_TRIP 15 0
    if !s.classL && decide (30 ≤ fld (s.reg Reg.THM_TRIP) 15 0) then .next ((s.thermalEvent 0).coldReset 5 0)
    else .next s

/-- WEAR_SECOND: a second with the 48 V input in range, and the whole seconds, of 4,000 rounds each, that rounds above the budget have made; the cap
coming into force sets its event (R405). -/
def execWearSecond (s : State) : Host.Outcome State Fault Refusal :=
  if !s.boot.input then .next s
  else
    let was := s.capped
    let s := s.bumpReg Reg.PWR_WEAR_ON 31 0
    let n := s.thermal.peakRounds
    let s := if 4000 ≤ n then ({ s with thermal := { s.thermal with peakRounds := n - 4000 } } : State).bumpReg Reg.PWR_WEAR_PEAK 31 0 else s
    .next (if s.capped && !was then s.orReg Reg.PWR_EVENTS 8 else s)

/-- The memory stacks' power state in MEM_STATUS: 0 off, 1 training, 2 ready, 3 self-refresh (R236). -/
def State.setStackStates (s : State) (v : Nat) : List Nat → State
  | [] => s
  | m :: ms => (s.setRegFld (Reg.MEM_STATUS m) 31 30 v).setStackStates v ms

/-- Domains 3d and 3d + 2 of the compute dies that are not fenced, at `v`, and 3d + 1 at `w`. -/
def State.setDies (s : State) (v w : Nat) : List Nat → State
  | [] => s
  | d :: ds => (if s.dieFenced d then s else ((s.setDomain (3 * d) v).setDomain (3 * d + 2) v).setDomain (3 * d + 1) w).setDies v w ds

/-- BANK_ENTRY_END: the entry that BANK started ends in Banked: tile logic off, SRAM in retention, stacks in self-refresh, sum paths
uncalibrated, a calibration aborted, stages lapsed (R376, R387, R406, R408). -/
def execBankEntryEnd (s : State) : Host.Outcome State Fault Refusal :=
  if s.boot.bankedFrom != some s.mode || s.mode == .banked then .next s
  else
    let s := s.calAbort 8
    let s := (s.setDies 0 2 (List.range 16)).setStackStates 3 (List.range 16)
    let s := (s.allPathsLost (List.range 36)).clearDamper (List.range 16)
    let s := { s with thermal := { s.thermal with level := [], rate1 := [], rate2 := [], decided := [] } }
    .next (s.go .banked 0)

end Sys2Proof.Machine
end

