-- ==== Sys2Proof/Machine/ResetBoot.lean ====
section
/-! DEFINITION. Resets, release, option loading and brown-outs (chapters 15 and 16). -/

namespace Sys2Proof.Machine

/-! ### Tile BIST (R126, R127, R414, R415) -/

/-- The reset row map (R127). -/
def rowHome (l : Nat) : Nat := if l < 24 then l else l + 1

/-- The row map with failed columns moved to the row's spares, each to the nearest, lower columns first (DESIGN CHOICE: the order in which
a boot assigns spares is not given); none where the row has not enough columns. -/
def bistMap (bad : List Nat) : Option (List Nat) :=
  if 2 < bad.length then none
  else
    let spares := [24, 49].filter (fun c => !(bad.contains c))
    let move := fun (st : List Nat × List Nat) c =>
      match findCol (fun l => st.1.getD l 0) c 48, nearest c st.2 with
      | some l, some e => (st.1.set l e, st.2.filter (fun x => x != e))
      | _, _ => st
    some (bad.foldl move ((List.range 48).map rowHome, spares)).1

/-- A TIL_FENCE word that lists columns (R146). -/
def fenceWord (cols : List Nat) : Word :=
  match cols with
  | [] => 0
  | [a] => BitVec.ofNat 32 (2 ^ 31 + a * 2 ^ 24)
  | a :: b :: _ => BitVec.ofNat 32 (2 ^ 31 + a * 2 ^ 24 + 2 ^ 23 + b * 2 ^ 16)

/-- A register in force and its shadow. -/
def State.setBoth (s : State) (a : Nat) (w : Word) : State := (s.setReg a w).setShadow a w

/-- The words of a row map. -/
def State.setRowMap (s : State) (d row : Nat) (cols : List Nat) : List Nat → State
  | [] => s
  | w :: ws => (s.setBoth (Reg.MSH_ROW_MAP d row w) (BitVec.ofNat 32 (packNat 8 ((cols.drop (4 * w)).take 4)))).setRowMap d row cols ws

/-- Fences and row maps of the rows of a die from the positions that failed BIST; false where a row has too many. -/
def State.bistRows (s : State) (d : Nat) (bad : List (Nat × Nat × Nat)) : List Nat → Bool × State
  | [] => (true, s)
  | row :: rows =>
    let cols := (List.range 50).filter (fun c => bad.contains (d, row, c))
    match bistMap cols with
    | none => (false, s)
    | some m => ((s.setRowMap d row m (List.range 12)).setBoth (Reg.TIL_FENCE d row) (fenceWord cols)).bistRows d bad rows

/-- Cores fenced in the whole module. -/
def State.coreFences (s : State) : Nat :=
  ((List.range 16).map (fun d => ((List.range 64).map (fun r =>
    let w := s.reg (Reg.TIL_FENCE d r)
    (if flag w 31 then 1 else 0) + (if flag w 23 then 1 else 0))).sum)).sum

/-- The fences and row maps of a die built from tile BIST alone; a die with a row beyond repair is fenced (R127, R146, R414, R415). -/
def State.bistDie (s : State) (d : Nat) (bad : List (Nat × Nat × Nat)) : State :=
  let (ok, t) := s.bistRows d bad (List.range 64)
  let t := if ok then t.setBoth (Reg.TIL_DIE_FENCE d) 0 else (s.setShadow (Reg.TIL_DIE_FENCE d) 0x80000000).fenceDie d
  t.setRegFld Reg.TCK_RCV_STATUS 23 16 (min 255 t.coreFences)

/-- Every die. -/
def State.bistDies (s : State) (bad : List (Nat × Nat × Nat)) : List Nat → State
  | [] => s
  | d :: ds => (s.bistDie d bad).bistDies bad ds

/-! ### Die resets (R415) -/

/-- The control addresses of a unit's block, by the unit index of R415. -/
def unitRange (u : Nat) : Nat × Nat :=
  if u < 16 then (0x1000000 + 0x100000 * u, 0x1100000 + 0x100000 * u)
  else if u < 32 then (0x2000000 + 0x10000 * (u - 16), 0x2010000 + 0x10000 * (u - 16))
  else (0x3000000 + 0x100000 * (u - 32), 0x3100000 + 0x100000 * (u - 32))

/-- Whether a table key belongs to a unit: mesh tables to a die, carry-window and ring tables to a stack, fabric tables to an I/O die. -/
def unitKey (u k : Nat) : Bool :=
  let blk := k / 2 ^ 37
  let v := k / 2 ^ 19 % 2 ^ 18
  if u < 16 then blk == 0 && v / 3200 == u
  else if u < 32 then blk == 3 && v == u - 16
  else blk == 5 && (if k / 2 ^ 16 % 8 < 2 then v == u - 32 else fabIo v == u - 32)

/-- The power domains of a unit (R390). -/
def unitDomains (u : Nat) : List Nat :=
  if u < 16 then [3 * u, 3 * u + 1, 3 * u + 2] else if u < 32 then [32 + u] else [2 * u, 2 * u + 1]

/-- The registers and tables of a unit at their reset values, its domains on, its locks open (R13, R414, R415). -/
def State.resetBlock (s : State) (u : Nat) : State :=
  let r := unitRange u
  let out := fun a => !(decide (r.1 ≤ a ∧ a < r.2))
  let key := fun k => !(unitKey u k)
  ({ s with
      regs := s.regs.keep out, shadowRegs := s.shadowRegs.keep out, rwc := s.rwc.filter (fun p => out p.addr)
      tbl := s.tbl.keep key, tblShadow := s.tblShadow.keep key,
      tblMaster := s.tblMaster.keep out, hiLatch := s.hiLatch.keep out
      clock := s.clock.set 0 u 0, slew := s.slew.set 0 u 0, slewRest := s.slewRest.set 0 u 0 } : State).setDomains 1 (unitDomains u)

/-- A mailbox channel cleared: queues, answers, status, offers (R327). -/
def State.clearChannel (s : State) (c : Nat) : State :=
  let a := 0x30000 + 0x40 * c
  { s with mailbox := s.mailbox.set MbxChan.reset c MbxChan.reset
           regs := s.regs.keep (fun x => !(decide (a ≤ x ∧ x < a + 0x30)) || x == Reg.MBX_BIND c) }

/-- What a Die reset takes from a compute die: tiles, routers, packets in flight, its mailbox channel. -/
def State.clearDie (s : State) (d : Nat) : State :=
  let other := fun k => keyDie k != d
  let r := s.recovery
  ({ s with
      tiles := s.tiles.keep other, routers := s.routers.keep other, flights := s.flights.filter (fun f => other f.router)
      recovery := { r with pendingFences := r.pendingFences.filter other, loading := r.loading.filter other,
                           prepared := r.prepared.filter (fun x => other x.1), dieReports := r.dieReports.filter (fun k => k != d) } } : State).clearChannel d

/-- What a Die reset takes from a memory stack: every offset below 0xB_0000_0000. -/
def State.clearStack (s : State) (m : Nat) : State :=
  let x := s.stack m
  s.setStack m { MemStack.reset with
    dram := SMap.keep (α := Byte) (fun a => decide (0xB00000000 ≤ a)) x.dram, ecc := x.ecc.keep (fun l => decide (0xB00000000 ≤ 64 * l)) }

/-- What a Die reset takes from an I/O die: sessions and queue pairs of its port, or its fabric links and the combiners of its paths. -/
def State.clearIo (s : State) (i : Nat) : State :=
  if i < 2 then { s with sessions := s.sessions.filter (fun x => x.port != i), qps := s.qps.filter (fun q => q.port != i)
                         host := { s.host with paused := s.host.paused.set false i false, pausing := s.host.pausing.set false i false,
                                               opticOff := s.host.opticOff.set false i false, roce := s.host.roce.set [] i [], buffer := s.host.buffer.set 0 i 0 } }
  else { s with fabric := { s.fabric with
           ports := s.fabric.ports.keep (fun f => fabIo f != i), comb := s.fabric.comb.keep (fun p => !((diePaths i).contains p)) } }

/-- Whether the lane a calibration request names ends at a unit's port. -/
def State.calTouches (s : State) (u : Nat) : Bool :=
  match s.light.req with
  | some v => fld v 30 28 == 0 && ((calMove v false).src == u || ((calMove v false).cls != 3 && (calMove v false).dst == u))
  | none => false

/-- A Die reset of a unit asserted, its Hearth port with it (R387, R413, R415). -/
def State.dieReset (s : State) (u source detail : Nat) : State :=
  let s := (s.recordReset source 2 u detail).endErase
  let s := (if s.calTouches u then s.calAbort 8 else s).resetBlock u
  let s := if u < 16 then s.clearDie u else if u < 32 then s.clearStack (u - 16) else s.clearIo (u - 32)
  { s with ports := s.ports.set HPort.reset u HPort.reset
           boot := { s.boot with units := s.boot.units.filter (fun x => x != u) ++ [u],
                                 waiting := s.boot.waiting.filter (fun k => !((unitDomains u).contains k)) } }

/-- A Die reset as it fires: one during a Cold or Warm release restarts that release (R418). -/
def State.fireDie (s : State) (u source detail : Nat) : State :=
  if s.mode == .off then s
  else if s.boot.active then (if s.boot.scope = 0 then s.coldReset source detail else s.warmReset source detail)
  else s.dieReset u source detail

/-- A Warm reset as it fires: one during a Cold release restarts the Cold release (R418). -/
def State.fireWarm (s : State) (source detail : Nat) : State :=
  if s.mode == .off then s
  else if s.boot.active && s.boot.scope == 0 then s.coldReset source detail else s.warmReset source detail

/-- A Cold reset as it fires. -/
def State.fireCold (s : State) (source detail : Nat) : State := if s.mode == .off then s else s.coldReset source detail

/-- The share of the resident image reloaded into a unit in Loaded (R415). -/
def State.reloadUnit (s : State) (u : Nat) : State :=
  let g := s.imageInUse
  if s.mode != .loaded then s
  else if u < 16 then
    let k := s.dieBay u
    if s.dieFenced u || decide (s.imgDies g ≤ k) then s
    else
      let s := (s.loadWindows (fun kind d => kind == 0 && d == u) (s.imgWindows g)).loadTiles g k allPlaces
      ((s.putWords true ((s.imgTables g [5]).filter (fun kw => unitKey u kw.1))).putWords true (s.presentFences g k)).settleBay u
  else if u < 32 then
    let m := u - 16
    ((s.loadWindows (fun kind d => kind != 0 && d == m) (s.imgWindows g)).loadRings (fun x => x == m) (s.imgStreams g)).loadMemory (fun x => x == m)
      (s.imgRecords g 4)
  else s

/-- The end of a unit's Die reset: BIST of a compute die, a stack ready; in Loaded its share of the image is back (R415, R417). -/
def State.unitRelease (s : State) (u : Nat) (bad : List (Nat × Nat × Nat)) : State :=
  let s := { s with boot := { s.boot with units := s.boot.units.filter (fun x => x != u) } }
  let s := if u < 16 then s.bistDie u bad else if u < 32 then s.setStackStates 2 [u - 16] else s
  s.reloadUnit u

/-! ### Reset commands (R411 to R416) -/

/-- A reset asked for by RESET or RST_REQ, taken off the list. -/
def State.unask (s : State) (scope unit : Nat) : State :=
  { s with boot := { s.boot with asked := s.boot.asked.filter (fun x => !(x.1 == scope && (scope != 2 || x.2 == unit))) } }

/-- Whether a reset of a scope and source may fire now: source 4 only where RESET, RST_REQ or CONFIG_REVERT asked for it (R411, R428). -/
def State.mayFire (s : State) (scope unit source : Nat) : Bool :=
  s.boot.input && (source != 4 || s.boot.asked.any (fun x => x.1 == scope && (scope != 2 || x.2 == unit)))

/-- Sources that fire together: the narrower ones and those that are not recorded are counted, and the reset acts under the lowest-coded of those that
ask for its scope (R413). -/
def State.fireAll (s : State) (source : Fin 8) (detail : BitVec 16) (also : List Firing) (act : State → Nat → Nat → State) : State :=
  if s.mode == .off then s
  else
    let l := leadSource source detail.toNat also
    act (s.countSources (restSources source detail.toNat also)) l.1 l.2

/-- COLD_RESET: a source of Cold scope fires (R411, R413, R414). -/
def execColdReset (source : Fin 8) (detail : BitVec 16) (also : List Firing) (s : State) : Host.Outcome State Fault Refusal :=
  if s.mayFire 0 0 source then .next ((s.unask 0 0).fireAll source detail also State.fireCold) else .next s

/-- WARM_RESET: a source of Warm scope fires; a brown-out that waited for Faulted is done with (R411 to R414). -/
def execWarmReset (source : Fin 8) (detail : BitVec 16) (also : List Firing) (s : State) : Host.Outcome State Fault Refusal :=
  if !(s.mayFire 1 0 source) then .next s
  else if source.val = 1 && s.boot.waiting.contains detail.toNat && s.mode != .faulted then .next s
  else .next ((s.unask 1 0).fireAll source detail also State.fireWarm)

/-- DIE_RESET: a source of Die scope fires for a unit; a brown-out that waits acts once the module is in Ready or Faulted (R411 to R415). -/
def execDieReset (unit : Fin 36) (source : Fin 8) (detail : BitVec 16) (also : List Firing) (s : State) : Host.Outcome State Fault Refusal :=
  if !(s.mayFire 2 unit source) then .next s
  else if source.val = 1 && s.boot.waiting.contains detail.toNat && !(s.mode == .ready || s.mode == .faulted) then .next s
  else .next ((s.unask 2 unit).fireAll source detail also (fun t n d => t.fireDie unit n d))

/-- Whether a register is one of R364 or TCK_SEQ or TCK_EPOCH, which a Job reset clears (R414). -/
def jobReg (a : Nat) : Bool :=
  a == Reg.TCK_EPOCH || a == Reg.TCK_SEQ_LO || a == Reg.TCK_SEQ_HI || (decide (0x50200 ≤ a ∧ a < 0x50300) && a != Reg.TCK_ROLE)

/-- Whether a table is job state: mesh, Hearth and ember-sum tables, carry windows and rings, fabric scheduled-lane tables (R416). -/
def jobTable (k : Nat) : Bool :=
  let blk := k / 2 ^ 37
  let t := k / 2 ^ 16 % 8
  (blk == 0) || (blk == 1 && decide (t < 4)) || (blk == 2 && decide (t < 2)) || blk == 3 || (blk == 5 && decide (2 ≤ t))

/-- The registers a Job reset leaves: job state is cleared, except RWL fields while TCK_CTRL.lock is set (R414, R416). -/
def State.jobRegs (s : State) : SMap Word :=
  let locked := flag (s.reg Reg.TCK_CTRL) 31
  let rwl := fun a => match blockOf a with
    | some (b, off) => match findRow (blockRows b) off with
      | some (r, _, _) => r.rwl
      | none => 0
    | none => 0
  let cut := fun (aw : Nat × Word) => if jobReg aw.1 then
      let m := if locked then rwl aw.1 else 0
      (aw.1, (aw.2 &&& m) ||| (regReset aw.1 &&& ~~~m))
    else aw
  let stay := fun a => !(isCarryReg a) && a != Reg.HRT_BAY_MAP_0 && a != Reg.HRT_BAY_MAP_1
  (s.regs.map cut).filter (fun (aw : Nat × Word) => decide (aw.2 ≠ regReset aw.1) && stay aw.1)

/-- Job state cleared (R414, R416): images, tile SRAM and program stores, job tables, unadopted shadows; fences stay, and the Stoker
in control (DEDUCED: R414 keeps Stoker). -/
def State.clearJob (s : State) : State :=
  let fences := s.coreFences
  let stoker := fld (s.reg Reg.TCK_STOKER) 31 29
  let s := { s with
    regs := s.jobRegs
    shadowRegs := s.regs.keep (fun a => (List.range 16).any (fun d => a == Reg.TIL_DIE_FENCE d || (decide (Reg.MSH_ROW_MAP d 0 0 ≤ a ∧ a < Reg.TIL_FENCE d 64))))
    tbl := s.tbl.keep (fun k => !(jobTable k)), tblShadow := [], tiles := [], routers := [], flights := [], ports := []
    hearth := { s.hearth with light := [], rounds := [], setBad := false }
    job := JobState.reset, recovery := RecoveryState.reset, tick := TickState.reset
    glove := { s.glove with image := GloveState.reset.image, degraded := GloveState.reset.degraded }
    fabric := { s.fabric with mirror := s.fabric.mirror } }
  let s := (s.setReg Reg.TCK_IMAGE_STATUS 0).setRegFld Reg.TCK_STOKER 31 29 stoker
  let s := (s.setRegFld Reg.TCK_STATUS 24 24 0).setReg Reg.TCK_IMAGE_ENERGY 0
  let s := (s.setWords (Reg.GLV_MEAS 16) [] 16).setRegFld Reg.GLV_STATUS 27 26 0
  ((s.setPeriod 0).wakeBays (List.range 16)).setRegFld Reg.TCK_RCV_STATUS 23 16 (min 255 fences)

/-- JOB_RESET: the Job reset that RESET or RST_REQ asked for in Faulted; the module enters Ready (R21, R413, R414, R416). -/
def execJobReset (s : State) : Host.Outcome State Fault Refusal :=
  if s.mode != .faulted || !(s.mayFire 3 0 4) then .next s
  else
    let s := ((s.unask 3 0).recordReset 4 3 0 0).endErase.clearJob
    .next (({ s with boot := { s.boot with faulted := false } } : State).go .ready 3)

/-! ### Release (R417, R423 to R425) -/

/-- OPTION_LOAD: step 3: the headers are read, a set is chosen and its option block loaded (R423). -/
def execOptionLoad (s : State) : Host.Outcome State Fault Refusal :=
  if s.boot.active && s.boot.scope == 0 && s.boot.step == 3 then .next s.loadSet else .next s

/-- A set that verified: CFG_STATUS.verified, its root, M0 and M1 (R424, R436), and the baseline calibration. -/
def State.setVerified (s : State) (r : Bool) (root : Nat) : State :=
  let d := sha256 (s.boot.signed r)
  let st := (s.boot.sections r).getD 0 (0, 0)
  let s := (s.setRegFld Reg.CFG_STATUS 30 30 1).setRegFld Reg.GLV_STATUS 28 28 root
  let s := (s.extend 0 d).extend 0 (BitVec.ofNat 8 root :: List.replicate 31 0)
  let s := s.extend 1 (sha256 (s.boot.bytes (regionBase r + st.1) st.2))
  let s := s.loadBaseline r (s.boot.scope == 0)
  { s with boot := { s.boot with checked := true }, glove := { s.glove with setDigest := d, setVer := s.boot.head r 8 4 } }

/-- SET_SIGNATURE_VERIFY: the start of step 4: the chosen set is verified; on failure another is loaded and step 4 begins again; with none
left the module enters Faulted (R424). -/
def execSetSignatureVerify (s : State) : Host.Outcome State Fault Refusal :=
  if !s.boot.active || s.boot.step != 4 || s.boot.checked then .next s
  else
    let faulted := ({ s with boot := { s.boot with active := false, faulted := true } } : State).go .faulted 3
    match s.setInUse with
    | none => .next faulted
    | some r =>
      match s.setRoot r with
      | some root => .next (s.setVerified r root)
      | none =>
        let s := (s.setRegFld Reg.CFG_STATUS (if r then 23 else 24) (if r then 23 else 24) 1).orReg Reg.GLV_EVENTS 4
        if s.chooseSet.isSome then .next s.loadSet.optionRegs
        else .next (({ s with boot := { s.boot with active := false, faulted := true } } : State).go .faulted 3)

/-- Combs locked at step 6: ten active, the spares cold (R366, R417). -/
def State.lockCombs (s : State) : List Nat → State
  | [] => s
  | c :: cs => (if c % 6 = 5 then s.setRegFld (Reg.BLW_COMB c) 31 29 0 else s.setRegFld (Reg.BLW_COMB c) 31 29 3).lockCombs cs

/-- Heater loops locked at step 6. -/
def State.lockLoops (s : State) : List Nat → State
  | [] => s
  | e :: es =>
    let k := tblKey 4 0 3 e
    (if elementPresent e then s.setTbl k (setFlag (s.tblWord k) 31 true) else s).lockLoops es

/-- The work of a release step that shows when it ends (R417). -/
def State.stepWork (s : State) (ok : Bool) (bad : List (Nat × Nat × Nat)) : State :=
  match s.boot.step with
  | 2 => if ok then s.setRegFld Reg.GLV_STATUS 31 30 2 else (s.setRegFld Reg.GLV_STATUS 31 30 1).orReg Reg.GLV_EVENTS 8
  | 3 => { s.optionRegs with mode := .boot }
  | 4 =>
    let s := s.setReg Reg.TCK_STOKER (if ok then 0x40000000 else 0xA0000000)
    if ok then s else s.setDomain 79 1
  | 6 => (s.lockCombs (List.range 12)).lockLoops (List.range 900)
  | 7 => s.setStackStates 2 (List.range 16)
  | 8 => (s.bistDies bad (List.range 16)).setReg Reg.TCK_ROLE (BitVec.ofNat 32 (leNat [s.boot.options.getD 2 0] % 2 * 2 ^ 31 +
      leNat [s.boot.options.getD 2 0] / 2 % 2 * 2 ^ 30))
  | _ => s

/-- The module enters Ready at the end of step 8: the fail count of the set in use is cleared (R417, R425). -/
def State.booted (s : State) : State :=
  let s := match s.setInUse with
    | some r => s.setFails r 0
    | none => s
  ({ s with boot := { s.boot with active := false } } : State).go .ready 3

/-- RELEASE_STEP_END: a step of a Cold or Warm release ends, or else the Die reset that came first. `ok`: the self-test of the step passed,
the Glovebox's in step 2, Stoker A's in step 4; `bistFails`: tile BIST (R415, R417, R424, R438). -/
def execReleaseStepEnd (ok : Bool) (bistFails : List (Fin 16 × Fin 64 × Fin 50)) (s : State) : Host.Outcome State Fault Refusal :=
  let bad := bistFails.map (fun x => (x.1.val, x.2.1.val, x.2.2.val))
  let b := s.boot
  if b.held then .next s
  else if b.active then
    if (b.step == 3 && !b.loaded) || (b.step == 4 && !b.checked) then .next s
    else
      let s := (s.stepWork ok bad).setRegFld Reg.RST_STATUS 31 28 b.step
      if b.step ≥ 8 then .next s.booted
      else .next { s with boot := { s.boot with step := b.step + 1 } }
  else
    match b.units with
    | u :: _ => .next (s.unitRelease u bad)
    | [] => .next s

/-- BOOT_LIMIT_EXPIRY: Ready has not come within the limit from the start of step 4: counted, and a Cold reset of source 3, with what fires
together with it (R411, R413, R425, R427). -/
def execBootLimitExpiry (also : List Firing) (s : State) : Host.Outcome State Fault Refusal :=
  if s.boot.active && decide (4 ≤ s.boot.step) then .next (s.bootFailed.fireAll 3 0 also State.fireCold) else .next s

/-- STOKER_WATCHDOG_EXPIRY: A's watchdog passes control to B; with no partner able to take over it is the reset source, Cold in Boot and Warm
else (R360, R411). -/
def execStokerWatchdogExpiry (s : State) : Host.Outcome State Fault Refusal :=
  if s.mode == .boot then .next (s.coldReset 3 0)
  else if !s.stokerRuns then .next s
  else if flag (s.reg Reg.TCK_STOKER) 31 || s.domain 79 == 3 then .next (s.fireWarm 3 0)
  else .next (s.failover false)

/-! ### Brown-outs (R391, R412) -/

/-- A domain that browns out while its unit may be reset only later. -/
def State.await (s : State) (k : Nat) : State :=
  { s with boot := { s.boot with waiting := s.boot.waiting.filter (fun x => x != k) ++ [k] } }

/-- Queue pairs and sessions aside, the links of an I/O die go down with it (R283, R284, R391). -/
def State.ioLost (s : State) (i : Nat) : State := if i < 2 then s.hostLinkLost i else s.linksLost ((List.range 6).filter (fun f => fabIo f == i))

/-- The consequence of a brown-out (R391, R412). -/
def State.browned (s : State) (k : Nat) : State :=
  if k < 48 then
    if s.ticking then (if s.mode == .running && !(flag (s.shadow (Reg.TIL_DIE_FENCE (k / 3))) 31) then s.await k |>.dieFail (k / 3) else s.await k)
    else s.fireDie (k / 3) 1 k
  else if k < 64 then
    if s.ticking then (if s.mode == .running then (s.await k).teardown else s.await k)
    else s.fireDie (16 + (k - 48)) 1 k
  else if k < 72 then (s.ioLost ((k - 64) / 2)).fireDie (32 + (k - 64) / 2) 1 k
  else if k < 78 then
    let s := if 76 ≤ k then s.blwEvent (6 * (k - 76)) 6 else s
    if s.ticking then (s.await k).planeLoss else s.fireWarm 1 k
  else s

/-- BROWN_OUT: a domain on or in retention loses its rail (R391, R412). -/
def execBrownOut (dom : Fin 80) (s : State) : Host.Outcome State Fault Refusal :=
  let k := dom.val
  if s.mode == .off || !(s.domain k == 1 || s.domain k == 2) then .next s
  else
    let s := (s.setDomain k 3).orReg Reg.PWR_EVENTS 4
    if k = 78 && s.stokerRuns && !(flag (s.reg Reg.TCK_STOKER) 31) && s.domain 79 != 3 then .next (s.failover false)
    else .next (s.browned k)

end Sys2Proof.Machine
end

