-- ==== Sys2Proof/Machine/MailboxOps.lean ====
section
/-! DEFINITION. Mailboxes and doorbells (chapter 12): who is admitted, queues, answers, version offers, and the doorbell's wake. -/

namespace Sys2Proof.Machine

/-- What a block answers an access with: the word read (0 for a write) and the state after, or a bus error with its reason (R450). -/
inductive BusAnswer where
  | ok (w : Word) (s : State)
  | err (reason : Nat)

/-! ### Masters and bindings (R315 to R319) -/

/-- The identity of the Stoker in control (R360). -/
def State.stokerId (s : State) : Nat := if flag (s.reg Reg.TCK_STOKER) 31 then 0x03 else 0x02

/-- Whether an identity is an MHP host session's. -/
def isHost (m : Nat) : Bool := decide (0x10 ≤ m ∧ m ≤ 0x1F)

/-- Whether a master owns a channel; channels 16 to 25 belong to the Stoker in control. -/
def State.mbxOwns (s : State) (m c : Nat) : Bool := if 16 ≤ c && c < 26 then m == s.stokerId else m == mbxOwner c

/-- A channel's binding word. -/
def State.binding (s : State) (c : Nat) : Word := s.reg (Reg.MBX_BIND c)

/-- Whether a channel is in STAMP mode. -/
def State.mbxStamp (s : State) (c : Nat) : Bool := flag (s.binding c) 30

/-- Whether a channel is enabled. -/
def State.mbxOn (s : State) (c : Nat) : Bool := flag (s.binding c) 31

/-- Whether a master is the peer of a TABLE channel (R318). -/
def State.mbxPeer (s : State) (m c : Nat) : Bool :=
  let p := fld (s.binding c) 15 8
  s.mbxOn c && !(s.mbxStamp c) && (if p = 0x02 then m == s.stokerId else if isHost p then isHost m else m == p)

/-- Whether a master may send inbound: the TABLE peer, or any master but the owner of a STAMP channel (R318, R319). -/
def State.mbxSends (s : State) (m c : Nat) : Bool := s.mbxPeer m c || (s.mbxOn c && s.mbxStamp c && !(s.mbxOwns m c))

/-- Whether a channel admits a master at all. -/
def State.mbxAdmits (s : State) (m c : Nat) : Bool := s.mbxOn c && (s.mbxOwns m c || s.mbxSends m c)

/-! ### Queues (R321 to R323) -/

/-- A channel. -/
def State.chan (s : State) (c : Nat) : MbxChan := s.mailbox.get MbxChan.reset c
/-- The state with a channel. -/
def State.setChan (s : State) (c : Nat) (x : MbxChan) : State := { s with mailbox := s.mailbox.set MbxChan.reset c x }

/-- Words queued, open words included. -/
def MbxQueue.count (q : MbxQueue) : Nat := (q.done.map (fun x => x.2.length)).foldl (· + ·) 0 + q.words.length

/-- A word written by a master; hardware stamps the header's src where `stamp`. None where refused: another writer's open message, a ninth word. -/
def MbxQueue.write (q : MbxQueue) (m : Byte) (stamp : Bool) (w : Word) : Option MbxQueue :=
  if 8 ≤ q.count then none
  else
    match q.writer with
    | none => some { q with writer := some m, words := [if stamp then setFld w 31 24 m.toNat else w] }
    | some x => if x = m then some { q with words := q.words ++ [w] } else none

/-- The open message closed and readable. -/
def MbxQueue.close (q : MbxQueue) : MbxQueue := { done := q.done ++ [(q.words.headD 0, q.words)], writer := none, words := [] }

/-- One word popped from the oldest message, with its header. -/
def MbxQueue.pop (q : MbxQueue) : Option (Word × Word × MbxQueue) :=
  match q.done with
  | (h, w :: ws) :: rest => some (h, w, { q with done := if ws.isEmpty then rest else (h, ws) :: rest })
  | _ => none

/-- The master that dst of the head outbound message names. -/
def MbxQueue.headDst (q : MbxQueue) : Option Nat := q.done.head?.map (fun x => fld x.1 23 16)

/-! ### Wake (R326) -/

/-- The power domain of a channel's owner, for the owners whose domain can be off. -/
def ownerDomain (c : Nat) : Option Nat := if c < 16 then some (3 * c + 2) else if c < 28 then none else some (65 + 2 * (c - 28))

/-- A doorbell as a wake event for the owner's domain: in or entering Banked the module leaves it; an owner off by fence, fault or trip is
marked down; any other is powered up. -/
def State.ringOwner (s : State) (c : Nat) : State :=
  if s.mode == .banked || s.boot.bankedFrom.isSome then { s with boot := { s.boot with waking := true } }
  else
    match ownerDomain c with
    | none => s
    | some k =>
      if s.domain k == 1 then s
      else if s.mode == .tripped || s.domain k == 3 || (c < 16 && s.dieFenced c) then s.orReg (Reg.MBX_STATUS c) 0x100000
      else s.setDomain k 1

/-- The receiver's signal of a doorbell (R325). -/
def State.signal (s : State) (c dir : Nat) : State := s.send (.signal c dir)

/-! ### Accesses by direction (R322 to R325, R331) -/

/-- A write of MBX_IN_WR or MBX_OUT_WR. -/
def State.mbxWr (s : State) (m : Byte) (c : Nat) (out : Bool) (w : Word) : BusAnswer :=
  let x := s.chan c
  if out then
    if !(s.mbxOn c && s.mbxOwns m.toNat c) then .err 3
    else
      match x.outQ.write m false w with
      | none => .err 9
      | some q => .ok 0 (s.setChan c { x with outQ := q })
  else if !(s.mbxSends m.toNat c) then .err 3
  else
    match x.inQ.write m (s.mbxStamp c) w with
    | none => .err 9
    | some q => .ok 0 (s.setChan c { x with inQ := q })

/-- A read of MBX_IN_RD or MBX_OUT_RD: one word popped (R323). -/
def State.mbxRd (s : State) (m : Byte) (c : Nat) (out : Bool) : BusAnswer :=
  let x := s.chan c
  if out then
    let may := if s.mbxStamp c then s.mbxSends m.toNat c && (x.outQ.headDst.isNone || x.outQ.headDst == some m.toNat) else s.mbxPeer m.toNat c
    if !may then .err 3
    else
      match x.outQ.pop with
      | none => .err 9
      | some (h, w, q) => .ok w (s.setChan c { x with outQ := q, outTo := BitVec.ofNat 8 (fld h 23 16) })
  else if !(s.mbxOn c && s.mbxOwns m.toNat c) then .err 3
  else
    match x.inQ.pop with
    | none => .err 9
    | some (h, w, q) => .ok w (s.setChan c { x with inQ := q, popped := BitVec.ofNat 8 (fld h 31 24) })

/-- A write of MBX_IN_BELL or MBX_OUT_BELL (R322, R325, R326, R328): the writer's open message is closed; with none open the doorbell only rings. -/
def State.mbxBell (s : State) (m : Byte) (c : Nat) (out : Bool) (w : Word) : BusAnswer :=
  let x := s.chan c
  let q := if out then x.outQ else x.inQ
  if !(if out then s.mbxOn c && s.mbxOwns m.toNat c else s.mbxSends m.toNat c) then .err 3
  else if !(flag w 0) then .ok 0 s
  else
    match q.writer with
    | none => if out then .ok 0 (s.signal c 1) else .ok 0 (((s.orReg (Reg.MBX_STATUS c) 0x100).signal c 0).ringOwner c)
    | some y =>
      if y ≠ m then .err 9
      else if !(flag (s.reg (Reg.MBX_VER c)) 7) then .err 9
      else if out then .ok 0 ((s.setChan c { x with outQ := q.close }).signal c 1)
      else .ok 0 (((s.setChan c { x with inQ := q.close }).signal c 0).ringOwner c)

/-- A write of MBX_IN_ACK or MBX_OUT_ACK: the reader's answer (R324). -/
def State.mbxAckWr (s : State) (m : Byte) (c : Nat) (out : Bool) (w : Word) : BusAnswer :=
  let may := if out then (if s.mbxStamp c then s.mbxSends m.toNat c && m == (s.chan c).outTo else s.mbxPeer m.toNat c)
    else s.mbxOn c && s.mbxOwns m.toNat c
  let new := if out then 10 else 22
  let st := Reg.MBX_STATUS c
  if !may then .err 3
  else
    let s := s.setReg st (if flag (s.reg st) new then setFlag (s.reg st) (new - 1) true else setFlag (s.reg st) new true)
    .ok 0 (s.setReg (if out then Reg.MBX_OUT_ACK c else Reg.MBX_IN_ACK c) w)

/-- Whether a master may read MBX_IN_ACK or MBX_OUT_ACK (R324). -/
def State.mayReadAck (s : State) (m : Byte) (c : Nat) (out : Bool) : Bool :=
  if out then s.mbxOn c && s.mbxOwns m.toNat c
  else if s.mbxStamp c then s.mbxSends m.toNat c && m == (s.chan c).popped else s.mbxPeer m.toNat c

/-- The state after a permitted read of an answer: its ack_new bit is cleared. -/
def State.ackRead (s : State) (c : Nat) (out : Bool) : State := s.clearReg (Reg.MBX_STATUS c) (if out then 0x400 else 0x400000)

/-- A read of MBX_IN_ACK or MBX_OUT_ACK. -/
def State.mbxAckRd (s : State) (m : Byte) (c : Nat) (out : Bool) : BusAnswer :=
  if s.mayReadAck m c out then .ok (s.reg (if out then Reg.MBX_OUT_ACK c else Reg.MBX_IN_ACK c)) (s.ackRead c out) else .err 3

/-! ### Version (R328) -/

/-- The highest major below `n` in a mask. -/
def topMajor (mask : Nat) : Nat → Option Nat
  | 0 => none
  | n + 1 => if mask / 2 ^ n % 2 = 1 then some n else topMajor mask n

/-- The agreed fields [7:0] of a version word. -/
def agreed (stamp : Bool) (v : Word) : Nat :=
  let o := fld v 31 24
  let p := fld v 19 12
  if stamp then
    match topMajor o 8 with
    | none => 0
    | some k => 0x80 + k * 16 + fld v 23 20
  else
    match topMajor (o &&& p) 8 with
    | none => 0
    | some k => 0x80 + k * 16 + (if topMajor o 8 = some k ∧ topMajor p 8 = some k then min (fld v 23 20) (fld v 11 8) else 0)

/-- A write of MBX_VER: the owner's fields by the owner, the peer's by the TABLE peer; the agreed fields follow. -/
def State.mbxVerWr (s : State) (m : Byte) (c : Nat) (w : Word) : BusAnswer :=
  let own := s.mbxOn c && s.mbxOwns m.toNat c
  let peer := s.mbxPeer m.toNat c
  if !(own || peer) then .err 3
  else
    let v := s.reg (Reg.MBX_VER c)
    let v := if own then setFld v 31 20 (fld w 31 20) else v
    let v := if peer then setFld v 19 8 (fld w 19 8) else v
    .ok 0 (s.setReg (Reg.MBX_VER c) (setFld v 7 0 (agreed (s.mbxStamp c) v)))

/-! ### Status (R331) -/

/-- MBX_STATUS: the counts of the queues over the stored bits. -/
def State.mbxStatus (s : State) (c : Nat) : Word :=
  let x := s.chan c
  let head := fun (q : MbxQueue) => match q.done with
    | y :: _ => y.2.length
    | [] => 0
  let b := fun (q : MbxQueue) => if q.writer.isSome then 1 else 0
  let st := s.reg (Reg.MBX_STATUS c) &&& 0x700700
  st ||| BitVec.ofNat 32 (x.inQ.count * 2 ^ 28 + head x.inQ * 2 ^ 24 + b x.inQ * 2 ^ 23 + x.outQ.count * 2 ^ 16 + head x.outQ * 2 ^ 12 +
    b x.outQ * 2 ^ 11 + x.outQ.headDst.getD 0)

/-- MBX_PENDING: the channels that hold a complete inbound message or a ring. -/
def State.mbxPending (s : State) : Word :=
  BitVec.ofNat 32 (packNat 1 ((List.range 32).map (fun c => if !((s.chan c).inQ.done.isEmpty) || flag (s.reg (Reg.MBX_STATUS c)) 8 then 1 else 0)))

/-- A message left open for 100 µs: discarded whole and counted (R322). -/
def State.mbxExpire (s : State) (c : Nat) (out : Bool) : State :=
  let x := s.chan c
  let q := if out then x.outQ else x.inQ
  if q.writer.isNone then s
  else
    let q := { q with writer := none, words := [] }
    (s.setChan c (if out then { x with outQ := q } else { x with inQ := q })).bumpReg (Reg.MBX_COUNT c) 15 0

end Sys2Proof.Machine
end

