-- ==== Sys2Proof/Machine/TickInstr.lean ====
section
/-! DEFINITION. Tick and sync, class 0x8, and system, class 0xF (R46 to R48, R57, R93 to R97). -/

namespace Sys2Proof.Machine

/-! ### Tick and sync -/

/-- AT c (R47, R94): STAMP_RANGE at or beyond TIL_CYCLE_BUDGET; before c the thread waits for its stamp; at or after c the stamp
is late. -/
def execStampAt (u : Issue) (f : Fields) (s : State) : Answer :=
  .next (s.issue u f 0x8 0x00 (fun q =>
    let c := q.f.imm.toNat
    if c ≥ (q.t.sys 3).toNat then .fault 0x06 0
    else if q.c < c then
      .done q.s q.t (if q.c + 1 < c then { q.x with state := .stamp, wait := .stamp c, next := c } else { q.x with next := c }) none
    else .done q.s (q.t.lateStamp (q.c - c)) q.x none))

/-- STAMP_REACHED: the count reaches the stamp the bound thread waits for; its next instruction issues in that cycle (R94). -/
def execStampReached (t : TileId) (s : State) : Answer :=
  let x := (s.tile t.key).thread 0
  if x.state = .stamp then .next (s.finish t.key (s.tile t.key) 0 { x with state := .running, wait := .none }) else .next s

/-- SYNC g: the tile's token goes to its router and the thread waits for the release (R95, R145). -/
def execSync (u : Issue) (f : Fields) (s : State) : Answer :=
  .next (s.issue u f 0x8 0x01 (fun q =>
    let g := Fields.counter q.f
    let r := q.s.router q.k
    let y := { q.x with state := .data, wait := .sync g, waitFrom := some (q.c + 1) }
    .done (q.s.setRouter q.k { r with tokens := r.tokens.set 0 g (r.tokens.get 0 g ||| 1) }) q.t y none))

/-- A core's done report in a cycle of its own count: its time on the time clock is that cycle's nominal one and what its region was stretched so far
(R210, R220). -/
def State.reportDone (s : State) (k c : Nat) : State :=
  let quarters := 4 * c + (s.reg (Reg.CLK_RGN_CUR_TIME (16 * keyDie k + keyRow k / 8))).toNat
  { s with tick := { s.tick with lastDone := max s.tick.lastDone quarters } }

/-- TICKEND (R48, R96): the bound thread issues it when its stores and sends have left, which marks the core done; a loose thread
stops. -/
def execTickend (u : Issue) (f : Fields) (s : State) : Answer :=
  .next (s.issue u f 0x8 0x02 (fun q =>
      if q.n ≠ 0 then .done q.s q.t { q.x with state := .ended } none
      else if q.t.sendB.isEmpty then
        .done (q.s.reportDone q.k q.c) { q.t with done := true }
          { q.x with state := .ended } none
      else .hold .tickend))

/-! ### System -/

/-- The code of a thread state in TIL_THREAD_STATE (R57). DESIGN CHOICE: a thread that waits on its own sends, for which R57 lists no code, shows 3, the
code of the other data waits (log 123). -/
def ThreadState.code : ThreadState → Nat
  | .idle => 0 | .running => 1 | .stamp => 2 | .data => 3 | .parked => 4 | .ended => 5 | .faulted => 6

/-- Whether a core is held: fenced, awaiting a fence, being loaded, or the module not Running (R57). Running is the state of R20 with code 5, so in
Draining every field reads 7 although the threads run (DEDUCED: log 123). -/
def State.coreHeld (s : State) (k : Nat) : Bool :=
  s.fenced k || s.dieFenced (keyDie k) || (s.tile k).held || (s.tile k).loading || s.mode != .running

/-- TIL_THREAD_STATE (R57). DESIGN CHOICE: its table gives both 0 as the reset and 7 for a module that is not Running; the model reads 7 out of reset (log
123). -/
def State.threadStates (s : State) (k : Nat) : Nat :=
  if s.coreHeld k then 0xFFF
  else packNat 3 ((List.range 4).map (fun n => ((s.tile k).thread n).state.code))

/-- TIL_CORE_ID (R57). -/
def State.coreId (s : State) (k : Nat) : Nat :=
  keyDie k * 2 ^ 28 + keyRow k * 2 ^ 22 + keyCol k * 2 ^ 16 + s.logCol k * 2 ^ 10

/-- A core system register by index; `cycle` is the count TIL_TICK_CYCLE shows (R57, R97). -/
def State.sysReg (s : State) (k i cycle : Nat) : Word :=
  match i with
  | 0 => BitVec.ofNat 32 (s.coreId k)
  | 1 => BitVec.ofNat 32 (s.threadStates k)
  | 2 => BitVec.ofNat 32 cycle
  | _ => (s.tile k).sys i

/-- SRD: d := the core system register at offset imm, latency 2; SYSREG for any other offset (R97). -/
def execSrd (u : Issue) (f : Fields) (s : State) : Answer :=
  .next (s.issue u f 0xF 0x00 (fun q =>
    if q.f.imm.toNat % 4 ≠ 0 ∨ q.f.imm.toNat > 0x34 then .fault 0x07 0
    else q.write (q.x.ws q.f.dest.toNat (((q.s.setTile q.k q.t).sysReg q.k (q.f.imm.toNat / 4) q.c).setWidth 64) (q.c + 2))))

/-- SWR: clears the issuing thread's own flags of TIL_FP_FLAGS; any other offset raises SYSREG (R57, R97). -/
def execSwr (u : Issue) (f : Fields) (s : State) : Answer :=
  .next (s.issue u f 0xF 0x01 (fun q =>
    if q.f.imm.toNat ≠ 0x34 then .fault 0x07 0
    else .done q.s (q.t.clearFlags q.n ((q.x.rs q.f.srca.toNat).toNat / 2 ^ (4 * q.n))) q.x none))

/-- The module time counter of a unit in ns (R224): units 0 to 15 compute, 16 to 31 memory, 32 to 35 I/O, 36 hub; the store
counts in 2^−16 ns. -/
def State.timeNs (s : State) (unit : Nat) : Nat := s.clock.get 0 unit / 65536 % 2 ^ 64

/-- STIME: d := the die's module time counter in ns, latency 4 (R97, R224). -/
def execStime (u : Issue) (f : Fields) (s : State) : Answer :=
  .next (s.issue u f 0xF 0x02 (fun q =>
    q.write (q.x.ws q.f.dest.toNat (BitVec.ofNat 64 (q.s.timeNs (keyDie q.k))) (q.c + 4))))

/-- STICK: d := the tick sequence number, latency 2 (R97, R216). -/
def execStick (u : Issue) (f : Fields) (s : State) : Answer :=
  .next (s.issue u f 0xF 0x03 (fun q =>
    q.write (q.x.ws q.f.dest.toNat (BitVec.ofNat 64 q.s.seq) (q.c + 2))))

/-! ### Steps of the core that no thread issues -/

/-- CORE_CHECK: an internal parity check of the pipeline fails; every thread stops (R50, R51). -/
def execCoreCheck (t : TileId) (s : State) : Answer :=
  if s.tilePowered t.key then .next (s.raise t.key (s.tile t.key) 7 0 0x13 0) else .next s

/-- SRAM_WRITE_BACK: a corrected word is written back (R30); an uncorrectable word there raises ECC_SRAM with no issuing thread
(R50). -/
def execSramWriteBack (t : TileId) (word : BitVec 17) (s : State) : Answer :=
  let x := s.tile t.key
  if !(s.tilePowered t.key) then .next s
  else match x.sramEcc.get .good word.toNat with
    | .good => .next s
    | .single => .next (s.setTile t.key { x with sramEcc := x.sramEcc.set .good word.toNat .good })
    | .double => .next (s.raise t.key x 7 0 0x10 (8 * word.toNat))

end Sys2Proof.Machine
end

