-- ==== Sys2Proof/Machine/TableOps.lean ====
section
/-! DEFINITION. The tables behind the indirect registers (R155, R189, R207, R256, R287, R389, R452): places, widths, access, values. -/

namespace Sys2Proof.Machine

/-- The block of an indirect register pair. -/
def tblBlock (b : TblBlock) : Block :=
  match b with
  | .mesh d => .die d.val | .hearth => .hrt | .ember => .emb | .mem m => .mem m.val | .cal => .cal | .fab i => .io (2 + i.val)

/-- The indirect address and data registers of a block. -/
def tblRegs (b : Block) : Option (Nat × Nat) :=
  match b with
  | .die d => some (Reg.MSH_TBL_ADDR d, Reg.MSH_TBL_DATA d)
  | .hrt => some (Reg.HRT_TBL_ADDR, Reg.HRT_TBL_DATA)
  | .emb => some (Reg.EMB_TBL_ADDR, Reg.EMB_TBL_DATA)
  | .mem m => some (Reg.MEM_TBL_ADDR m, Reg.MEM_TBL_DATA m)
  | .cal => some (Reg.CAL_TBL_ADDR, Reg.CAL_TBL_DATA)
  | .io i => if i < 2 then none else some (Reg.FAB_TBL_ADDR i, Reg.FAB_TBL_DATA i)
  | _ => none

/-- A selected word: block number of its key, unit or port, table, index. -/
structure TblPlace where
  blk   : Nat
  unit  : Nat
  table : Nat
  idx   : Nat
deriving DecidableEq, Repr

/-- The key of a place. -/
def TblPlace.key (t : TblPlace) : Nat := tblKey t.blk t.unit t.table t.idx

/-- The words of each table of a block. -/
def tblSizes (b : Block) : List Nat :=
  match b with
  | .die _ => [14, 16, 32, 1024, 16, 1]
  | .hrt => [38, 4096, 2048, 4, 5, 518]
  | .emb => [32, 144, 576, 36, 36]
  | .mem _ => [48, 256, 64]
  | .cal => [26960, 1685, 2072, 900, 576]
  | _ => [256, 4096, 2048, 2048, 16]

/-- The bits of the index field of a block's address register, from bit 0. -/
def indexBits (b : Block) : Nat :=
  match b with
  | .die _ => 14 | .mem _ => 8 | .cal => 15 | _ => 12

/-- The place an address word selects; none where its port, table or index is out of range (R452). -/
def tblPlace (b : Block) (v : Word) : Option TblPlace :=
  let idx := v.toNat % 2 ^ indexBits b
  let t := match b with
    | .die _ => fld v 17 14 | .hrt => fld v 23 20 | .emb => fld v 25 22 | .mem _ => fld v 9 8 | .cal => fld v 23 20 | _ => fld v 25 22
  if (tblSizes b).getD t 0 ≤ idx then none
  else
    match b with
    | .die d => if 49 < fld v 23 18 then none else some ⟨0, posKey d (fld v 29 24) (fld v 23 18), t, idx⟩
    | .hrt => if 35 < fld v 29 24 then none else some ⟨1, fld v 29 24, t, idx⟩
    | .emb => some ⟨2, fld v 29 26, t, idx⟩
    | .mem m => some ⟨3, m, t, idx⟩
    | .cal => if t = 3 then some ⟨4, 0, t, idx⟩ else if 35 < fld v 29 24 then none else some ⟨4, fld v 29 24, t, idx⟩
    | .io i => if 2 < fld v 27 26 then none else some ⟨5, if t < 2 then i else 2 * fld v 27 26 + (i - 2), t, idx⟩
    | _ => none

/-- Whether a stored write to a table is discarded (R155, R189, R207, R256, R389). -/
def TblPlace.readOnly (t : TblPlace) : Bool :=
  match t.blk with
  | 0 => decide (4 ≤ t.table)
  | 1 => t.table == 4
  | 2 => decide (2 ≤ t.table)
  | 3 => t.table == 2
  | 4 => decide (1 ≤ t.table)
  | _ => false

/-- Whether a table is shadowed (R148, R173, R195). -/
def TblPlace.shadowed (t : TblPlace) : Bool :=
  match t.blk with
  | 0 => t.table == 1 || t.table == 2 || t.table == 3
  | 1 => decide (t.table < 3)
  | 2 => decide (t.table < 2)
  | _ => false

/-! ### Values -/

/-- Bits of a list of conditions, the first in bit 0. -/
def bitsOf (bs : List Bool) : Nat := packNat 1 (bs.map (fun b => if b then 1 else 0))

/-- The active lanes of a port (R189): its broadcast wavelengths in rotation at word 0, the lanes of its pair bundle at words 1 to 4; a moved pair lane
keeps its place in the rotation (R165; DEDUCED: bit j for wavelength j, bit n mod 32 of word 1 + n ÷ 32 for pair lane n). -/
def State.activeLanes (s : State) (p w : Nat) : Word :=
  if w = 0 then BitVec.ofNat 32 (bitsOf ((List.range 16).map (s.waveActive p)))
  else if 32 ≤ p then 0
  else
    let q := if p < 16 then p + 16 else p - 16
    BitVec.ofNat 32 (bitsOf ((List.range 32).map (fun n => s.laneState q (324 + 32 * (w - 1) + n) != 3)))

/-- A table word as read, and the state after: TIL_TICK_CYCLE while ticks run is a free value not below the cycle of the last issue. -/
def State.tblValue (s : State) (t : TblPlace) : Word × State :=
  match t.blk, t.table with
  | 0, 0 =>
    let c := (s.tile t.unit).cycle
    if t.idx = 2 ∧ s.ticking then (BitVec.ofNat 32 (min (2 ^ 32 - 1) (c + s.free)), s.drawn) else (s.sysReg t.unit t.idx c, s)
  | 0, 4 => (BitVec.ofNat 32 ((s.tile t.unit).ctr.get 0 t.idx), s)
  | 0, 5 => (BitVec.ofNat 32 ((if s.fenced t.unit then 2 ^ 31 else 0) + (if s.tilePowered t.unit then 2 ^ 30 else 0) + s.logCol t.unit * 2 ^ 24), s)
  | 1, 2 => (s.tblShadowWord t.key &&& keyMask s.tblShadowWord t.key, s)
  | 1, 4 => (s.activeLanes t.unit t.idx, s)
  | 4, 3 => (setFlag (s.tblWord t.key) 30 (s.loopRuns t.idx), s)
  | 5, 4 => (setFlag (s.tblWord t.key) 31 (s.linkUp t.unit), s)
  | _, _ => (if t.shadowed then s.tblShadowWord t.key else s.tblWord t.key, s)

/-- Whether the quadrant of a Hearth or ember-sum port is powered (R188, R444). -/
def State.portPowered (s : State) (t : TblPlace) : Bool :=
  (t.blk != 1 && t.blk != 2) || s.domain (72 + (if t.unit < 32 then t.unit % 16 / 4 else t.unit - 32)) == 1

/-! ### Stores -/

/-- A store to a core system register by the die controller's codes (R57). -/
def State.storeSys (s : State) (k i : Nat) (w : Word) : State :=
  let t := s.tile k
  let old := t.sys i
  match i with
  | 3 | 10 | 11 | 12 => s.setTile k (t.setSys i w)
  | 4 | 5 | 6 => s.setTile k (t.setSys i (w &&& 0x80000FFF))
  | 7 => s.setTile k (t.setSys 7 (old &&& ~~~(w &&& 0xC0000000)))
  | 13 => s.setTile k (t.setSys 13 (old &&& ~~~(w &&& 0xFFFF)))
  | _ => s

/-- Whether a stored write is refused by its table's own rule: tables that may not be written while ticks run, a reader set entry that names its own
port, a window or reception entry of stream 0xFF (R189, R256, R273, R287, R389). -/
def State.tblRefused (s : State) (t : TblPlace) (w : Word) : Bool :=
  match t.blk, t.table with
  | 1, 1 => t.idx % 2 == 1 && fld w 23 16 == 0xFF
  | 1, 2 => t.idx / 2 % 256 == 0xFF
  | 1, 3 => s.mode == .running || fld w 5 0 == t.unit
  | 3, _ => s.ticking
  | 4, 0 => s.ticking
  | 5, 2 => s.ticking
  | 5, 3 => s.ticking
  | _, _ => false

/-- A word stored in its table: shadowed ones into the shadow, and in force too while no ticks run (R148, R173). -/
def State.tblStore (s : State) (t : TblPlace) (w : Word) : State :=
  if t.readOnly then s
  else if t.blk = 0 ∧ t.table = 0 then s.storeSys t.unit t.idx w
  else
    let old := if t.shadowed then s.tblShadowWord t.key else s.tblWord t.key
    let m := keyMask s.tblShadowWord t.key
    let keep : Word := if (t.blk = 1 ∧ t.table = 5) ∨ (t.blk = 5 ∧ t.table = 4) then ~~~m else 0
    let v := (w &&& m) ||| (old &&& keep)
    if !t.shadowed then s.setTbl t.key v
    else if s.ticking then s.setTblShadow t.key v
    else
      let s := (s.setTblShadow t.key v).setTbl t.key v
      if t.blk = 1 then s.pumpAll else s

end Sys2Proof.Machine
end

