-- ==== Sys2Proof/Machine/ControlOps.lean ====
section
/-! DEFINITION. Accesses to the control space (R9 to R13, R442 to R453): permissions, reachability, locks, critical pairs, indirect tables,
reads and writes with what they start. -/

namespace Sys2Proof.Machine

/-! ### Bus errors (R450) -/

/-- A bus error: the first is recorded, a later one sets more; each is a FAULT event of source 0x0A (R303, R450). -/
def State.busError (s : State) (m : Byte) (a : Nat) (write : Bool) (reason : Nat) : State :=
  let s := if flag (s.reg Reg.CAP_EVENTS) 3 then s.orReg Reg.CAP_EVENTS 4
    else ((s.orReg Reg.CAP_EVENTS 8).setReg Reg.CAP_ERR_ADDR_LO (BitVec.ofNat 32 a)).setReg Reg.CAP_ERR_INFO
      (BitVec.ofNat 32 (m.toNat * 2 ^ 24 + reason * 2 ^ 16 + (if write then 2 ^ 15 else 0) + a / 2 ^ 32))
  s.faultEvent 0x0A m.toNat reason false

/-! ### Permissions (R445) -/

/-- The open session behind a master identity (R295). -/
def State.sessionBy (s : State) (m : Nat) : Option Session :=
  s.sessions.find? (fun x => if m = 0x50 then x.role == 2 else isHost m && x.role != 2 && x.slot + 0x10 == m)

/-- Whether a block is one of those a die, stack or I/O controller owns. -/
def ownBlock (m : Nat) (b : Block) : Bool :=
  match b with
  | .die d => m == 0x20 + d
  | .mem k => m == 0x30 + k
  | .io i => m == 0x40 + i
  | _ => false

/-- Whether a master is a die, memory logic die or I/O die controller. -/
def isController (m : Nat) : Bool := decide (0x20 ≤ m ∧ m < 0x44)

/-- The mailbox channel an offset of the mailbox block lies in. -/
def mbxAt (b : Block) (off : Nat) : Option Nat := if b == .mbx && decide (off < 0x800) then some (off / 0x40) else none

/-- The tick registers that a controller session may not write: TCK_PERIOD, TCK_SEQ and TCK_EPOCH. -/
def controllerBarred : List Nat := [0x00C, 0x020, 0x024, 0x028, 0x02C, 0x030, 0x034]
/-- The tick registers that a fabric manager may write. -/
def managerMay : List Nat := [0x204, 0x220, 0x230, 0x234, 0x240]

/-- Whether the table of R445 lets a master read an offset. -/
def State.mayRead (s : State) (m : Nat) (b : Block) (off : Nat) : Bool :=
  let chan := fun c => mbxAt b off == some c
  if m = s.stokerId then true
  else if m = 0x04 then b == .glv || chan 26 || chan 27
  else if isHost m ∨ m = 0x50 then (s.sessionBy m).isSome
  else if isController m then
    ownBlock m b || b == .ident || b == .tck || (decide (m < 0x30) && chan (m - 0x20)) || (decide (0x40 ≤ m) && chan (m - 0x40 + 28))
  else false

/-- Whether the table of R445 lets a master write a word to an offset; GLV_EXT_DATA and action 3 of GLV_CMD take the Stoker in control alone
(R441). -/
def State.mayWrite (s : State) (m : Nat) (b : Block) (off : Nat) (w : Word) : Bool :=
  let chan := fun c => mbxAt b off == some c
  let ext := b == .glv && (decide (0x0C0 ≤ off ∧ off < 0x0E0) || (off == 0x018 && fld w 30 28 == 3))
  if m = s.stokerId then true
  else if ext then false
  else if m = 0x04 then b == .glv || chan 26 || chan 27
  else if isHost m ∨ m = 0x50 then
    match s.sessionBy m with
    | none => false
    | some x =>
      if x.role = 1 then !(b == .tck && controllerBarred.contains off)
      else if x.role = 2 then b == .io 2 || b == .io 3 || (b == .tck && managerMay.contains off)
      else false
  else if isController m then
    ownBlock m b || (decide (m < 0x30) && chan (m - 0x20)) || (decide (0x40 ≤ m) && chan (m - 0x40 + 28))
  else false

/-! ### Reachability (R444) -/

/-- Whether the unit that serves a block is reachable. -/
def State.unitUp (s : State) (b : Block) : Bool :=
  s.boot.input &&
    (match b with
    | .die d => s.unitOn d
    | .mem m => s.unitOn (16 + m)
    | .io i => s.unitOn (32 + i)
    | _ => true)

/-! ### Locks (R449) -/

/-- The control register of a block, which holds its lock at bit 31; the identity and mailbox blocks have none. -/
def lockReg (b : Block) : Option Nat :=
  match b with
  | .ident => none
  | .mbx => none
  | .rst => some Reg.RST_CTRL | .clk => some Reg.CLK_CTRL | .pwr => some Reg.PWR_CTRL | .thm => some Reg.THM_CTRL
  | .glv => some Reg.GLV_CTRL | .tck => some Reg.TCK_CTRL | .cfg => some Reg.CFG_CTRL | .hrt => some Reg.HRT_CTRL
  | .emb => some Reg.EMB_CTRL | .blw => some Reg.BLW_CTRL | .cal => some Reg.CAL_CTRL
  | .die d => some (Reg.MSH_CTRL d) | .mem m => some (Reg.MEM_CTRL m) | .io i => some (Reg.HST_CTRL i)

/-- Whether the RWL fields of a block are locked. -/
def State.locked (s : State) (b : Block) : Bool :=
  (match lockReg b with
  | some a => flag (s.reg a) 31
  | none => false) || ((b == .clk || b == .pwr) && flag (s.reg Reg.RST_CTRL) 31)

/-! ### Values that registers show -/

/-- The hub's steppings, each at least 0x10 (R480). -/
def steppingWord : Word :=
  BitVec.ofNat 32 (packNat 8 ((List.range 4).map (fun i => let v := fld Config.stepping (8 * i + 7) (8 * i); if v < 16 then v + 16 else v)))

/-- The serial number's words, never all zero (R480). -/
def serialWord (w : Nat) : Word :=
  if w = 0 ∧ (List.range 4).all (fun i => Config.serial i == 0) then 1 else Config.serial w

/-- A word of a 256-bit value. -/
def keyWord (k : BitVec 256) (w : Nat) : Word := BitVec.ofNat 32 (k.toNat / 2 ^ (32 * w))

/-- A word of the device certificate (R435): identity key, serial number, version, zero, signature. -/
def certWord (w : Nat) : Word :=
  if w < 8 then keyWord Config.identityKey w else if w < 12 then serialWord (w - 8) else if w = 12 then 0x10 else if w = 13 then 0 else Config.certWord w

/-- The identity key in use: another once the seed is zeroised (R435, R439). -/
def State.identity (s : State) : BitVec 256 := if flag (s.reg Reg.GLV_STATUS) 29 then Config.zeroKey else Config.identityKey

/-- CAP_UNITS_0 (R458). -/
def State.units0 (s : State) : Word :=
  BitVec.ofNat 32 (bitsOf ((List.range 16).map (fun d => s.unitUp (.die d)) ++ (List.range 16).map (fun m => s.unitUp (.mem m))))

/-- CAP_UNITS_1 (R458). -/
def State.units1 (s : State) : Word :=
  BitVec.ofNat 32 (bitsOf ((List.range 4).map (fun i => s.unitUp (.io i)) ++ (List.range 8).map (fun k => s.domain (72 + k) == 1)))

/-- A number drawn with a stored map (R154, R187, R285). -/
def MapCopy.drawn (c : MapCopy) (i : Nat) : Nat := Config.free (c.draw + i)

/-- A buffer's peak in a mesh map entry: 0 where no packet came, up to 8 where some did, at least 1 where one went through (R136, R154). -/
def meshPeak (mark draw : Nat) : Nat := if mark = 0 then 0 else if mark = 1 then draw % 9 else 1 + draw % 8

/-- Word `w` of the mesh congestion map entry of a router (R154). Cycles held off and buffer peaks, which hang on flit times, are free values where a packet
of the channel came to the router in the tick, and 0 where none did. -/
def MapCopy.meshWord (c : MapCopy) (e w : Nat) : Word :=
  let f := fun i => SMap.get 0 (c.units.get [] e) i
  BitVec.ofNat 32 (match w with
    | 0 => if f 9 = 0 then 0 else c.drawn (4 * e)
    | 1 => if f 10 = 0 then 0 else c.drawn (4 * e + 1)
    | 2 => meshPeak (f 9) (c.drawn (4 * e + 2)) * 2 ^ 28 + meshPeak (f 10) (c.drawn (4 * e + 3)) * 2 ^ 24 + f 4 * 2 ^ 16 + f 5
    | _ => f 6 * 2 ^ 24 + f 7 * 2 ^ 16 + f 8)

/-- Word `w` of the Hearth congestion map entry of a port's group (R187). -/
def MapCopy.hearthWord (c : MapCopy) (e w : Nat) : Word :=
  let f := fun i => SMap.get 0 (c.units.get [] (e / 38)) (8 * (e % 38) + i)
  BitVec.ofNat 32 (match w with
    | 0 => f 0
    | 1 => f 1
    | 2 => f 2 * 2 ^ 16 + f 3
    | _ => f 4 * 2 ^ 24 + f 5 * 2 ^ 16 + f 6 * 2 ^ 8 + f 7)

/-- Word `w` of the fabric congestion map entry of a local port (R285): cell times held are free values where an off bit came in the tick. -/
def MapCopy.fabWord (c : MapCopy) (l w : Nat) : Word :=
  let f := fun i => SMap.get 0 (c.units.get [] l) i
  BitVec.ofNat 32 (match w with
    | 0 => f 0 | 1 => f 1 | 2 => f 2
    | 3 => if f 3 = 0 then 0 else c.drawn (2 * l)
    | 4 => if f 4 = 0 then 0 else c.drawn (2 * l + 1)
    | 5 => f 5 * 2 ^ 16 + f 6
    | 6 => f 7 * 2 ^ 16 + f 8 * 2 ^ 8
    | _ => f 9 * 2 ^ 16 + f 10)

/-- The map of an owner under a parity. -/
def State.mapOf (s : State) (owner : Nat) (odd : Bool) : MapCopy := s.maps.get MapCopy.reset (2 * owner + (if odd then 1 else 0))

/-- EMB_CAL_SUMMARY (R207): ports with paths in use that all have cal_ok, and ports with a failed path in use (DEDUCED: a port with no path in use reads
0 in both, its reset value). -/
def State.calSummary (s : State) : Word :=
  let used := fun p => (((List.range 36).map (fun k => ((List.range 16).filter (fun c => s.pathInUse p k c)).map (fun c => 16 * k + c))).flatten)
  let st := fun p => (used p).map (fun i => s.tblWord (tblKey 2 p 2 i))
  BitVec.ofNat 32 (bitsOf ((List.range 16).map (fun p => !((st p).isEmpty) && (st p).all (fun w => flag w 31)) ++
    (List.range 16).map (fun p => (st p).any (fun w => flag w 30))))

/-- CAL_LOOP_SUMMARY: running elements that are not locked. -/
def State.loopSummary (s : State) : Word :=
  BitVec.ofNat 32 ((List.range 900).filter (fun e => s.loopRuns e && !(flag (s.tblWord (tblKey 4 0 3 e)) 31))).length

/-- Whether the hold of an axis is driven (R283). -/
def State.holdDriven (s : State) (a : Nat) : Bool :=
  flag (s.reg (Reg.FAB_HOLD 2)) a && [68, 70].all (fun k => s.domain k == 1) && s.released 34 && s.released 35 && s.mode != .off && s.mode != .tripped

/-- HST_SESSIONS of a port. -/
def State.sessionsWord (s : State) (i : Nat) : Word :=
  BitVec.ofNat 32 (bitsOf ((List.range 16).map (fun k => s.sessions.any (fun x => x.port == i && x.slot == k))) * 2 ^ 16 +
    (if s.sessions.any (fun x => x.role == 1) then 2 ^ 7 else 0) + (if s.sessions.any (fun x => x.role == 2) then 2 ^ 6 else 0))

/-- The value of a register that the model derives from other state; none where the stored word stands. -/
def State.derived (s : State) (b : Block) (off k : Nat) : Option Word :=
  match b with
  | .ident => if off = 0x00C then some steppingWord else if 0x010 ≤ off ∧ off ≤ 0x01C then some (serialWord k)
    else if off = 0x020 then some s.units0 else if off = 0x024 then some s.units1 else none
  | .mbx => if off = 0x804 then some s.mbxPending else none
  | .glv => if 0x100 ≤ off ∧ off < 0x120 then some (keyWord Config.vendorRoot k)
    else if 0x200 ≤ off ∧ off < 0x220 then some (keyWord s.identity k)
    else if 0x8000 ≤ off then some (certWord k) else none
  | .hrt => if off = 0x008 then some (setFld (s.reg Reg.HRT_STATUS) 31 28 (bitsOf ((List.range 4).map (fun q => s.domain (72 + q) == 1))))
    else if 0x70000 ≤ off then some ((s.mapOf 16 true).hearthWord (k / 4) (k % 4))
    else if 0x60000 ≤ off then some ((s.mapOf 16 false).hearthWord (k / 4) (k % 4)) else none
  | .emb => if off = 0x030 then some s.calSummary else none
  | .cal => if off = 0x030 then some s.loopSummary else none
  | .die d => if 0x20000 ≤ off then some ((s.mapOf d true).meshWord (k / 4) (k % 4))
    else if 0x10000 ≤ off then some ((s.mapOf d false).meshWord (k / 4) (k % 4)) else none
  | .mem m => if off = 0x008 then some (setFlag (s.reg (Reg.MEM_STATUS m)) 29 s.tick.parity) else none
  | .io i =>
    if i < 2 then
      if off = 0x040 then some (s.sessionsWord i) else if off = 0x050 then some (BitVec.ofNat 32 (s.qps.filter (fun q => q.port == i)).length)
      else if off = 0x010 then some (Config.mac i 0) else if off = 0x014 then some (Config.mac i 1 &&& 0xFFFF) else none
    else if off = 0x00C then some (BitVec.ofNat 32 (bitsOf ((List.range 3).map s.holdDriven) * 16) ||| (s.reg (Reg.FAB_HOLD i) &&& 7))
    else if 0x90000 ≤ off then some ((s.mapOf (15 + i) true).fabWord (k / 8) (k % 8))
    else if 0x80000 ≤ off then some ((s.mapOf (15 + i) false).fabWord (k / 8) (k % 8)) else none
  | _ => none

/-- Offsets of the fabric block that exist in I/O die 2 only (R287). -/
def notThere (b : Block) (off : Nat) : Bool := b == .io 3 && (off == 0x00C || off == 0x010 || off == 0x014 || off == 0x03C)

/-- Whether a critical register is shadowed: die fences, row maps, fences and the bay map (R148, R365). -/
def shadowedReg (b : Block) (off : Nat) : Bool :=
  match b with
  | .die _ => off == 0x080 || decide (0x2000 ≤ off ∧ off < 0x4200)
  | .hrt => decide (0x100 ≤ off ∧ off < 0x110)
  | _ => false

/-! ### Reads -/

/-- The map tick register of a block, with the number of its map's owner (R154, R187, R285). -/
def mapTick (b : Block) (off : Nat) : Option Nat :=
  if off ≠ 0x040 then none
  else match b with
    | .die d => some d | .hrt => some 16 | .io i => if i < 2 then none else some (15 + i) | _ => none

/-- A read of a map tick register: while the copy may still run, a free value says whether it does; it shows busy and the map before, or is done (R154). -/
def State.readMapTick (s : State) (a owner : Nat) : Word × State :=
  let w := s.reg a
  if !(flag w 31) then (w, s)
  else if s.free % 2 = 1 then (0x80000000 ||| (s.mapOf owner (flag w 0)).before, s.drawn)
  else (w &&& 0x7FFFFFFF, s.drawn.clearReg a 0x80000000)

/-- A 64-bit time behind a low register: its value and the address of its high register (R234). -/
def State.timePair (s : State) (off : Nat) : Option (Nat × Nat) :=
  if off = 0x050 then some (s.timeNs 36, Reg.TCK_TIME_HI)
  else if off = 0x058 then some (s.reg64 Reg.TCK_BEACON_LO Reg.TCK_BEACON_HI, Reg.TCK_BEACON_HI)
  else if 0x400 ≤ off ∧ off < 0x650 ∧ off % 16 = 0 then some (s.timeNs ((off - 0x400) / 16), Reg.TCK_DIE_TIME_HI ((off - 0x400) / 16))
  else none

/-- A read of a time register: a low one latches its high half, a high one gives the latched half once (R234). -/
def State.readTime (s : State) (off : Nat) : Option (Word × State) :=
  match s.timePair off with
  | some (v, hi) =>
    some (BitVec.ofNat 32 v, { s with hiLatch := (s.hiLatch.put (2 * hi) 1).put (2 * hi + 1) (BitVec.ofNat 32 (v / 2 ^ 32)) })
  | none =>
    match (if off < 4 then none else s.timePair (off - 4)) with
    | some (v, hi) =>
      some (if s.hiLatch.get 0 (2 * hi) = 1 then s.hiLatch.get 0 (2 * hi + 1) else BitVec.ofNat 32 (v / 2 ^ 32),
        { s with hiLatch := (s.hiLatch.erase (2 * hi)).erase (2 * hi + 1) })
    | none => none

/-- The index advanced by one, within its field (R452). -/
def bumpIndex (b : Block) (v : Word) : Word :=
  let n := 2 ^ indexBits b
  if flag v 31 then BitVec.ofNat 32 (v.toNat / n * n + (v.toNat + 1) % n) else v

/-- The checks of R452 and R444 before an access to a data register: the place selected, or the reason. -/
def State.tblAccess (s : State) (m : Byte) (b : Block) (addr : Nat) : Except Nat TblPlace :=
  if s.tblMaster.get 0 addr ≠ m ∨ m = 0 then .error 0x0A
  else
    match tblPlace b (s.reg addr) with
    | none => .error 0x09
    | some t => if s.portPowered t then .ok t else .error 0x04

/-- A read of either half of a data register (R452): the low half advances the index. -/
def State.tblRead (s : State) (m : Byte) (b : Block) (addr : Nat) (hi : Bool) : BusAnswer :=
  match s.tblAccess m b addr with
  | .error r => .err r
  | .ok t =>
    let (w, s) := s.tblValue t
    if hi then .ok (~~~w) s else .ok w (s.setReg addr (bumpIndex b (s.reg addr)))

/-- A read of a mailbox register of a channel (R331). -/
def State.mbxReadAt (s : State) (m : Byte) (c r : Nat) (table : Bool) : BusAnswer :=
  let own := s.mbxOn c && s.mbxOwns m.toNat c
  let quiet := fun (ok : Bool) => if ok then BusAnswer.ok 0 s else .err 3
  let plain := fun (w : Word) => if table || s.mbxAdmits m.toNat c then BusAnswer.ok w s else .err 3
  match r with
  | 0x04 => s.mbxRd m c false
  | 0x14 => s.mbxRd m c true
  | 0x0C => s.mbxAckRd m c false
  | 0x1C => s.mbxAckRd m c true
  | 0x00 => quiet (s.mbxSends m.toNat c)
  | 0x08 => quiet (s.mbxSends m.toNat c)
  | 0x10 => quiet own
  | 0x18 => quiet own
  | 0x20 => plain (s.mbxStatus c)
  | 0x24 => plain (s.reg (Reg.MBX_VER c))
  | 0x28 => plain (s.reg (Reg.MBX_BIND c))
  | 0x2C => plain (s.reg (Reg.MBX_COUNT c))
  | _ => .ok 0 s

/-- A write of a mailbox register of a channel (R331). -/
def State.mbxWriteAt (s : State) (m : Byte) (c r : Nat) (w : Word) (table : Bool) : BusAnswer :=
  let own := s.mbxOn c && s.mbxOwns m.toNat c
  let quiet := fun (ok : Bool) => if ok then BusAnswer.ok 0 s else .err 3
  let may := table || s.mbxAdmits m.toNat c
  match r with
  | 0x00 => s.mbxWr m c false w
  | 0x10 => s.mbxWr m c true w
  | 0x08 => s.mbxBell m c false w
  | 0x18 => s.mbxBell m c true w
  | 0x0C => s.mbxAckWr m c false w
  | 0x1C => s.mbxAckWr m c true w
  | 0x24 => s.mbxVerWr m c w
  | 0x04 => quiet own
  | 0x14 => quiet (s.mbxPeer m.toNat c || (s.mbxStamp c && s.mbxSends m.toNat c))
  | 0x20 => if may then .ok 0 (s.clearReg (Reg.MBX_STATUS c) (w &&& 0x200300)) else .err 3
  | 0x28 => quiet may
  | 0x2C => if may then .ok 0 (s.setReg (Reg.MBX_COUNT c) w) else .err 3
  | _ => .ok 0 s

/-- A read of a listed register. -/
def State.readRow (s : State) (m : Byte) (a : Nat) (b : Block) (off : Nat) (r : RegRow) (k : Nat) (hi : Bool) : BusAnswer :=
  let low := if hi then a - 4 else a
  match tblRegs b with
  | some (addr, data) =>
    if low = data then s.tblRead m b addr hi
    else if r.rwc = 0 then
      match mapTick b off with
      | some owner => let (w, t) := s.readMapTick a owner; .ok w t
      | none => .ok (((s.derived b off k).getD (s.reg a)) &&& ~~~r.wo) s
    else
      let w := if shadowedReg b off then s.shadow low else s.reg low
      .ok (if hi then ~~~w else w) s
  | none =>
    if r.rwc ≠ 0 then .ok (if hi then ~~~(s.reg low) else s.reg low) s
    else
      match (if b == .tck then s.readTime off else none) with
      | some (w, t) => .ok w t
      | none => .ok (((s.derived b off k).getD (s.reg a)) &&& ~~~r.wo) s

/-- The answer of the block to a read that has passed R442 and R444. -/
def State.blockRead (s : State) (m : Byte) (a : Nat) (b : Block) (off : Nat) : BusAnswer :=
  match mbxAt b off with
  | some c => s.mbxReadAt m c (off % 0x40) (s.mayRead m.toNat b off)
  | none =>
    if !(s.mayRead m.toNat b off) then .err 3
    else if !(s.unitUp b) then .err 4
    else if notThere b off then .ok 0 s
    else
      match findRow (blockRows b) off with
      | none => .ok 0 s
      | some (r, k, hi) => s.readRow m a b off r k hi

/-- A refused access of a mailbox channel is counted there (MBX_COUNT.refused). -/
def State.countRefusal (s : State) (b : Block) (off : Nat) : State :=
  match mbxAt b off with
  | some c => s.bumpReg (Reg.MBX_COUNT c) 31 16
  | none => s

/-- A read of the control space: the word, or none where it is answered with a bus error. -/
def State.ctlRead (s : State) (m : Byte) (a size : Nat) : Option Word × State :=
  if size ≠ 4 ∨ a % 4 ≠ 0 then (none, s.busError m a false 2)
  else
    match blockOf a with
    | none => (none, s.busError m a false 1)
    | some (b, off) =>
      if !s.boot.input then (none, s.busError m a false 4)
      else
        match s.blockRead m a b off with
        | .ok w t => (some w, t)
        | .err r => (none, (s.countRefusal b off).busError m a false r)

/-! ### A register's own rule (reason 0x09) -/

/-- Whether flash may be written now, and the reason CFG_CMD_STATUS gives where not: 0x02 the set in use, 0x03 the state or flash_en (R427). -/
def State.flashReason (s : State) (region : Bool) : Nat :=
  if s.setInUse = some region then 2
  else if (s.mode == .ready || (s.mode == .faulted && s.boot.faulted)) && flag (s.reg Reg.CFG_CTRL) 0 then 0 else 3

/-- The states in which MHP is served (R298). -/
def State.served (s : State) : Bool :=
  s.mode == .ready || s.mode == .loaded || s.mode == .running || s.mode == .draining || s.mode == .banked || s.mode == .faulted

/-- Whether a reset of a scope may be asked for in the present state (R298, R428). -/
def State.resetLegal (s : State) (scope : Nat) : Bool :=
  match scope with
  | 2 => s.mode == .ready || s.mode == .loaded || s.mode == .faulted
  | 3 => s.mode == .faulted
  | _ => s.served

/-- Whether a budget in W is refused: out of range, or too small for a resident image (R231, R404). -/
def State.budgetRefused (s : State) (w : Nat) : Bool :=
  let e := fun (g : Image) => s.img g 0x028 4
  let p := (s.reg Reg.TCK_PERIOD).toNat
  decide (w < 2000 ∨ 8000 < w) || (flag (s.reg Reg.TCK_IMAGE_STATUS) 31 && decide (w * p < 1000 * e s.normalImage)) ||
    (flag (s.reg Reg.TCK_IMAGE_STATUS) 30 && decide (w * p < 1000 * e s.degradedImage))

/-- The words of the window and rank tables of a fabric I/O die. -/
def State.lockTables (s : State) (i : Nat) : SMap Word :=
  ((s.tbl.filter (fun kw => decide (fabKey i 0 0 ≤ kw.1 ∧ kw.1 < fabKey i 2 0)))).map (fun kw => (kw.1 - fabKey i 0 0, kw.2))

/-- Whether the two fabric I/O dies hold the same coordinates, window table and rank table (R258). -/
def State.fabricAgrees (s : State) : Bool := s.reg (Reg.FAB_COORD 2) == s.reg (Reg.FAB_COORD 3) && s.lockTables 2 == s.lockTables 3

/-- Whether a register refuses the word `v` it would come to hold, `w` being the word written: the chapters' value and state rules. -/
def State.ownRule (s : State) (b : Block) (off : Nat) (w v : Word) : Bool :=
  match b with
  | .rst => off == 0x024 && (decide (fld w 27 26 = 2 ∧ 35 < fld w 25 20) || (flag w 31 && !(s.resetLegal (fld w 27 26))))
  | .pwr => off == 0x008 && s.budgetRefused (fld v 13 0)
  | .tck =>
    match off with
    | 0x008 => s.ticking || fld w 17 16 == 3 || decide (fld w 7 0 < 1 ∨ 10 < fld w 7 0)
    | 0x00C => s.ticking || decide (fld w 19 0 < 500 ∨ 1000000 < fld w 19 0)
    | 0x060 => s.ticking
    | 0x064 => s.ticking
    | 0x204 => decide (fld w 23 0 < 2000)
    | _ => false
  | .cfg =>
    match off with
    | 0x020 => s.flashReason (flag w 31) != 0
    | 0x024 => s.flashReason (flag (s.reg Reg.CFG_FLASH_ADDR) 31) != 0 || flag (s.reg Reg.CFG_CMD_STATUS) 31
    | 0x028 => s.flashReason (flag (s.reg Reg.CFG_FLASH_ADDR) 31) != 0
    | _ => false
  | .hrt =>
    match off with
    | 0x010 => flag w 0 && !(bayMapOk s.shadow)
    | 0x060 => decide (fld w 15 8 < 1 ∨ 80 < fld w 15 8 ∨ fld w 15 8 ≤ fld w 7 0)
    | 0x064 => decide (fld w 27 16 < 1 ∨ 1280 < fld w 27 16 ∨ fld w 27 16 ≤ fld w 11 0)
    | _ => false
  | .emb => off == 0x040 && decide (fld w 2 0 < 1 ∨ 4 < fld w 2 0)
  | .blw => off == 0x008 && decide (fld w 7 0 < 10 ∨ 25 < fld w 7 0)
  | .cal =>
    match off with
    | 0x004 => s.ticking && fld w 1 0 != 3
    | 0x010 => decide (fld w 31 24 < 1 ∨ 16 < fld w 31 24 ∨ 4 < fld w 23 20 ∨ 8 < fld w 19 16 ∨ fld w 7 0 < 4 ∨ 9 < fld w 7 0)
    | _ => false
  | .die _ =>
    match off with
    | 0x008 => decide (6 < fld w 7 4 ∨ fld w 7 4 ≤ fld w 3 0)
    | 0x00C => decide (fld w 15 0 < 16)
    | _ => decide (0x100 ≤ off ∧ off < 0x180) && s.ticking
  | .mem _ => off == 0x004 && fld w 7 0 == 0
  | .io i =>
    if i < 2 then
      match off with
      | 0x00C => decide (fld w 11 0 < 1 ∨ 4094 < fld w 11 0)
      | 0x030 => [0, 319, 320, 4791].contains (fld w 15 0)
      | 0x034 => decide (fld w 7 0 < 1 ∨ 15 < fld w 7 0)
      | _ => false
    else
      match off with
      | 0x004 => flag w 31 && !s.fabricAgrees
      | 0x008 => decide (fld w 19 16 < fld w 31 28 ∨ fld w 15 12 < fld w 27 24 ∨ fld w 11 8 < fld w 23 20)
      | 0x010 => decide (fld w 19 0 < 1000)
      | 0x014 => fld w 29 27 == 6
      | 0x018 => decide (fld w 31 20 < 2 ∨ 3486 < fld w 31 20 ∨ fld w 19 8 < 2 ∨ 2919 < fld w 19 8)
      | _ => false
  | _ => false

/-! ### What a write starts -/

/-- A Glovebox command that ends at once refused (GLV_CMD_STATUS). -/
def State.gloveRefuse (s : State) (reason : Nat) : State :=
  (s.setReg Reg.GLV_CMD_STATUS (BitVec.ofNat 32 (0x20000000 + reason * 2 ^ 16))).clearReg Reg.GLV_CMD 0x80000000

/-- A command written to GLV_CMD with go (R441): action 0 in any served state, 1 in Ready, 3; any other is refused. -/
def State.gloveStart (s : State) (w : Word) : State :=
  let a := fld w 30 28
  if s.glove.cmd.isSome then s.setReg Reg.GLV_CMD_STATUS (setFld (s.reg Reg.GLV_CMD_STATUS ||| 0x20000000) 23 16 1)
  else if !(a == 0 && s.served) && !(a == 1 && s.mode == .ready) && a != 3 then s.gloveRefuse 2
  else { s.setReg Reg.GLV_CMD_STATUS 0x80000000 with glove := { s.glove with cmd := some a } }

/-- A configuration command that ends at once refused (CFG_CMD_STATUS). -/
def State.cfgRefuse (s : State) (reason : Nat) : State :=
  (s.setReg Reg.CFG_CMD_STATUS (BitVec.ofNat 32 (0x20000000 + reason * 2 ^ 16))).clearReg Reg.CFG_CMD 0x80000000

/-- A command written to CFG_CMD with go (R427): an erase marks its region invalid at once. -/
def State.cfgStart (s : State) (w : Word) : State :=
  let a := fld w 30 28
  let r := fld (s.reg Reg.CFG_FLASH_ADDR) 31 31
  if s.boot.cmd.isSome then s.setReg Reg.CFG_CMD_STATUS (setFld (s.reg Reg.CFG_CMD_STATUS ||| 0x20000000) 23 16 1)
  else if 1 < a then s.cfgRefuse 3
  else
    let s := s.setReg Reg.CFG_CMD_STATUS 0x80000000
    let s := { s with boot := { s.boot with cmd := some (a, r == 1), bad := (if a = 0 then s.boot.bad.set false r true else s.boot.bad) } }
    if a = 0 then s.showRegions else s

/-- A word programmed at the flash address: it only clears bits; the offset advances by 4 (R427). -/
def State.program (s : State) (w : Word) : State :=
  let v := s.reg Reg.CFG_FLASH_ADDR
  let o := fld v 24 0 / 4 * 4
  let base := regionBase (flag v 31) + o
  let put := fun (fl : List Host.Cell) i => SMap.set 0xFF fl (base + i) (SMap.get 0xFF fl (base + i) &&& BitVec.ofNat 8 (w.toNat / 2 ^ (8 * i)))
  let fl := put (put (put (put s.boot.flash 0) 1) 2) 3
  ({ s with boot := { s.boot with flash := fl } } : State).setReg Reg.CFG_FLASH_ADDR (setFld v 24 0 (o + 4))

/-- What FAB_CTRL.lock does when it is set (R258, R272): tables mirrored into the compute dies, and enabled ports begin to train. -/
def State.portsTrain (s : State) : List Nat → State
  | [] => s
  | f :: fs => (if s.portTrains f && fld (s.reg (portStatus f)) 31 29 == 0 then (s.setReg (portStatus f) 0x20000000).train f else s).portsTrain fs

/-- A write of FAB_PORT_CTRL: a port disabled goes down and off, one told to retrain goes down and retrains (R260, R287). -/
def State.portControl (s : State) (f : Nat) (w : Word) : State :=
  let s := s.clearReg (Reg.FAB_PORT_CTRL (fabIo f) (f / 2)) 0x40000000
  if !(flag w 31) then (if s.linkUp f then s.linkLost f 0 else s).setReg (portStatus f) 0
  else if flag w 30 then
    if s.linkUp f then s.linkLost f 0
    else if s.portTrains f then (s.setReg (portStatus f) 0x80000000).train f else s
  else s.portsTrain [f]

/-- A die fence stored while no ticks run: in force at once, with the die's domains off; one taken away powers them (R148, R343). -/
def State.storeDieFence (s : State) (d : Nat) (v : Word) : State :=
  let s := s.setShadow (Reg.TIL_DIE_FENCE d) v
  if flag v 31 then s.fenceDie d
  else if s.dieFenced d then
    let s := (s.setReg (Reg.TIL_DIE_FENCE d) 0).setDomains 1 [3 * d, 3 * d + 1, 3 * d + 2]
    if s.mode == .loaded then s.settleBay d else s
  else s

/-- A critical pair stored: shadowed ones in the shadow, and in force too while no ticks run (R12, R148, R365). -/
def State.storePair (s : State) (b : Block) (low off : Nat) (v : Word) : State :=
  if !(shadowedReg b off) then s.setReg low v
  else if s.ticking then s.setShadow low v
  else
    match b with
    | .die d =>
      if off = 0x080 then s.storeDieFence d v
      else
        let s := s.setBoth low v
        if 0x4000 ≤ off then s.setRegFld Reg.TCK_RCV_STATUS 23 16 (min 255 s.coreFences) else s
    | _ => s.setBoth low v

/-- What follows a stored write of a plain register, `w` being the word written. -/
def State.afterWrite (s : State) (m : Byte) (a : Nat) (b : Block) (off k : Nat) (w : Word) : State :=
  let s := match tblRegs b with
    | some (addr, data) =>
      if a = addr then { s with tblMaster := s.tblMaster.set 0 addr m, rwc := s.rwc.filter (fun p => p.addr != data) } else s
    | none => s
  match b with
  | .ident => if off = 0x028 ∧ flag w 3 then s.clearReg Reg.CAP_EVENTS 4 else s
  | .rst => if off = 0x024 then
      let s := s.setReg Reg.RST_REQ 0
      if flag w 31 then { s with boot := { s.boot with asked := s.boot.asked ++ [(fld w 27 26, fld w 25 20)] } } else s
    else s
  | .clk => if off = 0x000 ∧ !s.ticking then s.takeReference else s
  | .tck =>
    match off with
    | 0x008 => { s with tick := { s.tick with misses := 0, regain := 0, srcLost := false, edge := 0, frame := none } }
    | 0x00C => s.setPeriod (fld w 19 0)
    | 0x064 =>
      let v : Nat := (s.reg Reg.TCK_TIME_STEP_LO).toNat + w.toNat * 2 ^ 32
      s.stepTime (if 2 ^ 63 ≤ v then (v : Int) - 2 ^ 64 else (v : Int))
    | _ => s
  | .cfg =>
    match off with
    | 0x024 => s.program w
    | 0x028 => if flag w 31 then s.cfgStart w else s
    | _ => s
  | .glv => if off = 0x018 ∧ flag w 31 then s.gloveStart w else s
  | .hrt =>
    match off with
    | 0x004 => s.pumpAll
    | 0x010 => if flag w 0 ∧ !s.ticking then s.takeHearth.pumpAll else s
    | 0x050 => if flag w 31 then s.laneSwap else s
    | _ => s
  | .blw => if off = 0x014 ∧ flag w 31 then s.blwStart else s
  | .cal => if off = 0x008 ∧ flag w 31 then s.calStart else s
  | .die d => if off = 0x010 ∧ flag w 0 ∧ !s.ticking then s.adoptMesh d else s
  | .io i =>
    if i < 2 then
      if off = 0x004 then
        let s := (if flag w 2 then s else s.sendHeld i).checkBuffer i
        if flag w 0 then s else s.hostLinkLost i
      else if off = 0x034 then s.checkBuffer i
      else s
    else if off = 0x004 ∧ flag w 31 then
      ({ s with fabric := { s.fabric with mirror := (s.lockTables i).map (fun kw => (if kw.1 < 2 ^ 16 then kw.1 else kw.1 - 2 ^ 16 + 256, kw.2)) } } :
        State).portsTrain (if i = 2 then [0, 2, 4] else [1, 3, 5])
    else if 0x100 ≤ off ∧ off % 16 = 0 ∧ off < 0x130 then s.portControl (2 * k + (i - 2)) w
    else s
  | _ => s

/-! ### Writes -/

/-- A half of a critical pair written (R12, R451): a low half is held pending, a high half that is its complement stores the value through `store`,
which answers none where it refuses with 0x09 and an error reason otherwise. -/
def State.writeHalf (s : State) (m : Byte) (low : Nat) (hi : Bool) (w : Word) (store : State → Word → Except Nat State) : BusAnswer :=
  match s.rwc.find? (fun p => p.addr == low) with
  | none => if hi then .err 6 else .ok 0 { s with rwc := s.rwc ++ [⟨low, w, m⟩] }
  | some p =>
    let rest := s.rwc.filter (fun q => q.addr != low)
    if p.master ≠ m then .err 7
    else if !hi then .ok 0 { s with rwc := rest ++ [⟨low, w, m⟩] }
    else if w ≠ ~~~p.value then .err 6
    else
      match store { s with rwc := rest } p.value with
      | .error r => .err r
      | .ok t => .ok 0 t

/-- A stored write of a data register: its place, then the index (R452). -/
def State.storeTable (b : Block) (addr : Nat) (t : TblPlace) (s : State) (v : Word) : Except Nat State :=
  if t.blk = 5 ∧ t.table < 2 ∧ s.locked b then .error 5
  else if s.tblRefused t v then .error 9
  else
    let s := s.tblStore t v
    .ok (s.setReg addr (bumpIndex b (s.reg addr)))

/-- A stored write of a critical register. -/
def State.storeCritical (b : Block) (low off : Nat) (mask : Word) (s : State) (v : Word) : Except Nat State :=
  let v := v &&& mask
  if low = Reg.HRT_BAY_MAP_1 ∧ !(bayMapOk (fun a => if a = low then v else s.shadow a)) then .error 9
  else .ok (s.storePair b low off v)

/-- The word a plain register comes to hold (R11). -/
def RegRow.next (r : RegRow) (old w : Word) : Word :=
  let set := r.rw ||| r.rwl ||| r.wo
  ((old &&& ~~~set) ||| (w &&& set) ||| (w &&& r.w1s)) &&& ~~~(w &&& r.w1c)

/-- A write of a listed register. -/
def State.writeRow (s : State) (m : Byte) (a : Nat) (b : Block) (off : Nat) (r : RegRow) (k : Nat) (hi : Bool) (w : Word) : BusAnswer :=
  let low := if hi then a - 4 else a
  let isData := match tblRegs b with
    | some (_, data) => low == data
    | none => false
  if isData then
    match tblRegs b with
    | none => .err 9
    | some (addr, _) =>
      match s.tblAccess m b addr with
      | .error e => .err e
      | .ok t => s.writeHalf m low hi w (State.storeTable b addr t)
  else if r.rwc ≠ 0 then s.writeHalf m low hi w (State.storeCritical b low (off - (if hi then 4 else 0)) r.rwc)
  else if r.rwl ≠ 0 && s.locked b then .err 5
  else
    let v := r.next (s.reg a) w
    if s.ownRule b off w v then .err 9
    else .ok 0 ((s.setReg a v).afterWrite m a b off k w)

/-- The answer of the block to a write that has passed R442. -/
def State.blockWrite (s : State) (m : Byte) (a : Nat) (b : Block) (off : Nat) (w : Word) : BusAnswer :=
  match mbxAt b off with
  | some c => s.mbxWriteAt m c (off % 0x40) w (s.mayWrite m.toNat b off w)
  | none =>
    if !(s.mayWrite m.toNat b off w) then .err 3
    else if !(s.unitUp b) then .err 4
    else if notThere b off then .ok 0 s
    else
      match findRow (blockRows b) off with
      | none => .ok 0 s
      | some (r, k, hi) => s.writeRow m a b off r k hi w

/-- A refused CFG_CMD shows its reason in CFG_CMD_STATUS as well (R427; DEDUCED: both the bus error and the reasons of R429 apply). -/
def State.showRefusal (s : State) (a : Nat) (w : Word) (reason : Nat) : State :=
  if a = Reg.CFG_CMD ∧ reason = 9 ∧ flag w 31 ∧ s.boot.cmd.isNone then s.cfgRefuse (s.flashReason (flag (s.reg Reg.CFG_FLASH_ADDR) 31)) else s

/-- A write of the control space: whether it took effect, or was answered with a bus error. -/
def State.ctlWrite (s : State) (m : Byte) (a size : Nat) (w : Word) : Bool × State :=
  if size ≠ 4 ∨ a % 4 ≠ 0 then (false, s.busError m a true 2)
  else
    match blockOf a with
    | none => (false, s.busError m a true 1)
    | some (b, off) =>
      if !s.boot.input then (false, s.busError m a true 4)
      else
        match s.blockWrite m a b off w with
        | .ok _ t => (true, t)
        | .err r => (false, ((s.showRefusal a w r).countRefusal b off).busError m a true r)

/-! ### Accesses by commands -/

/-- A write of a word by a master, and its answer. -/
def State.access (s : State) (m : Byte) (a size : Nat) (w : Word) : State :=
  let (ok, s) := s.ctlWrite m a size w
  s.send (.bus m.toNat a (if ok then some 0 else none))

/-- A read by a master, and its answer. -/
def State.accessRead (s : State) (m : Byte) (a size : Nat) : State :=
  let (w, s) := s.ctlRead m a size
  s.send (.bus m.toNat a w)

end Sys2Proof.Machine
end

