-- ==== Sys2Proof/Machine/ConfigFlash.lean ====
section
/-! DEFINITION. Commands of the configuration flash (R421, R424, R427, R429). -/

namespace Sys2Proof.Machine

/-- ERASE_REGION: CFG_CMD action 0: the region is marked invalid at once and erased (R427). -/
def execEraseRegion (m : Byte) (s : State) : Host.Outcome State Fault Refusal := .next (s.access m Reg.CFG_CMD 4 0x80000000)

/-- CHECK_REGION: CFG_CMD action 1: the region is checked under R421 and R424 (R427). -/
def execCheckRegion (m : Byte) (s : State) : Host.Outcome State Fault Refusal := .next (s.access m Reg.CFG_CMD 4 0x90000000)

/-- A configuration command that ends: reason 0 done, else failed with it. -/
def State.cfgEnd (s : State) (reason : Nat) : State :=
  ({ s with boot := { s.boot with cmd := none } } : State).setReg Reg.CFG_CMD_STATUS
    (if reason = 0 then 0x40000000 else BitVec.ofNat 32 (0x10000000 + reason * 2 ^ 16)) |>.clearReg Reg.CFG_CMD 0x80000000

/-- The flash of a region erased. -/
def State.eraseFlash (s : State) (r : Bool) : State :=
  let b := regionBase r
  { s with boot := { s.boot with flash := SMap.keep (α := Byte) (fun a => !(decide (b ≤ a ∧ a < b + 0x2000000))) s.boot.flash } }

/-- Why a check fails: 4 header, 5 option block, 6 signature; 0 where it succeeds. -/
def State.checkReason (s : State) (r : Bool) : Nat :=
  if !(s.boot.headerOk r) then 4 else if !(s.boot.blockOk r) then 5 else if (s.setRoot r).isNone then 6 else 0

/-- A check that succeeds: the region is valid; its rejection, sig_bad and fail count are cleared, and the pin (R427). -/
def State.checkPassed (s : State) (r : Bool) : State :=
  let s := { s with boot := { s.boot with bad := s.boot.bad.set false (if r then 1 else 0) false } }
  let s := ((s.setRegFld Reg.CFG_SELECT (if r then 28 else 29) (if r then 28 else 29) 0).setFails r 0).setRegFld Reg.CFG_SELECT 31 31 0
  (s.setRegFld Reg.CFG_STATUS (if r then 23 else 24) (if r then 23 else 24) 0).showRegions

/-- CFG_CMD_END: the erase or check under way ends; `flashOk`: the flash did its work (R427, R429). -/
def execCfgCmdEnd (flashOk : Bool) (s : State) : Host.Outcome State Fault Refusal :=
  match s.boot.cmd with
  | none => .next s
  | some (0, r) => if flashOk then .next ((s.eraseFlash r).cfgEnd 0).showRegions else .next (s.cfgEnd 7)
  | some (_, r) =>
    let e := if flashOk then s.checkReason r else 7
    if e = 0 then .next ((s.checkPassed r).cfgEnd 0)
    else .next ((if e = 6 then s.orReg Reg.GLV_EVENTS 4 else s).cfgEnd e)

end Sys2Proof.Machine
end

