-- ==== Sys2Proof/Machine/Control.lean ====
section
/-! DEFINITION. Commands of the control space (chapter 18): writes of registers that have a row of their own, critical pairs, indirect tables,
reads with an effect, and the timeout. -/

namespace Sys2Proof.Machine

/-- A BLW_CMD word with go: action, bank, position (R388). -/
def bellowsWord (action bank pos : Nat) : Word := BitVec.ofNat 32 (2 ^ 31 + action * 2 ^ 28 + bank * 2 ^ 23 + pos * 2 ^ 20)

/-- LANE_SWAP_TO_SPARE: HRT_LANE_SWAP written with go 1 and dir 0 (R184). -/
def execLaneSwapToSpare (a : Access) (v : Word) (s : State) : Host.Outcome State Fault Refusal := .next (s.access a.master a.addr.toNat a.size (setFld v 31 30 2))

/-- LANE_SWAP_RETURN: HRT_LANE_SWAP written with go 1 and dir 1 (R184). -/
def execLaneSwapReturn (a : Access) (v : Word) (s : State) : Host.Outcome State Fault Refusal := .next (s.access a.master a.addr.toNat a.size (setFld v 31 30 3))

/-- TIME_STEP: TCK_TIME_STEP_HI written, which adds the step to the master (R226). -/
def execTimeStep (a : Access) (v : Word) (s : State) : Host.Outcome State Fault Refusal := .next (s.access a.master a.addr.toNat a.size v)

/-- RST_REQ_WRITE: RST_REQ written; a scope out of state or a unit out of range is a bus error (R428). -/
def execRstReqWrite (a : Access) (v : Word) (s : State) : Host.Outcome State Fault Refusal := .next (s.access a.master a.addr.toNat a.size v)

/-- RWC_LOW_WRITE: the low half of a critical register written and held pending (R12). -/
def execRwcLowWrite (a : Access) (v : Word) (s : State) : Host.Outcome State Fault Refusal := .next (s.access a.master a.addr.toNat a.size v)

/-- RWC_HIGH_WRITE: the high half of a critical register written; the complement of the pending value stores the pair (R12). -/
def execRwcHighWrite (a : Access) (v : Word) (s : State) : Host.Outcome State Fault Refusal := .next (s.access a.master a.addr.toNat a.size v)

/-- LOCK_WRITE: a control register written with its lock bit (R13, R449). -/
def execLockWrite (a : Access) (v : Word) (s : State) : Host.Outcome State Fault Refusal := .next (s.access a.master a.addr.toNat a.size v)

/-- REGISTER_WRITE: a register with no row of its own written (R11). -/
def execRegisterWrite (a : Access) (v : Word) (s : State) : Host.Outcome State Fault Refusal := .next (s.access a.master a.addr.toNat a.size v)

/-- TBL_ADDR_WRITE: a block's indirect address register written (R452). -/
def execTblAddrWrite (m : Byte) (b : TblBlock) (v : Word) (s : State) : Host.Outcome State Fault Refusal := .next (s.access m (((tblRegs (tblBlock b)).getD (0, 0)).1) 4 v)

/-- MSH_SHADOW_READY: MSH_SHADOW written; ready has the shadow adopted at the next beacon, or at once while no ticks run (R148, R155). -/
def execMshShadowReady (m : Byte) (die : Fin 16) (v : Word) (s : State) : Host.Outcome State Fault Refusal := .next (s.access m (Reg.MSH_SHADOW die) 4 v)

/-- HRT_SHADOW_READY: HRT_SHADOW written (R173, R189). -/
def execHrtShadowReady (m : Byte) (v : Word) (s : State) : Host.Outcome State Fault Refusal := .next (s.access m Reg.HRT_SHADOW 4 v)

/-- TCK_SRC_WRITE: the source of the tick, refused while ticks run (R211). -/
def execTckSrcWrite (m : Byte) (v : Word) (s : State) : Host.Outcome State Fault Refusal := .next (s.access m Reg.TCK_SRC 4 v)

/-- TCK_PERIOD_WRITE: the period of the tick (R213). -/
def execTckPeriodWrite (m : Byte) (v : Word) (s : State) : Host.Outcome State Fault Refusal := .next (s.access m Reg.TCK_PERIOD 4 v)

/-- PWR_BUDGET_WRITE: the input power budget (R404). -/
def execPwrBudgetWrite (m : Byte) (v : Word) (s : State) : Host.Outcome State Fault Refusal := .next (s.access m Reg.PWR_BUDGET 4 v)

/-- FAB_LOCK_WRITE: FAB_CTRL written; its lock mirrors the tables and lets ports train (R258, R272). -/
def execFabLockWrite (m : Byte) (io : Fin 2) (v : Word) (s : State) : Host.Outcome State Fault Refusal := .next (s.access m (Reg.FAB_CTRL (2 + io)) 4 v)

/-- PORT_RETRAIN: FAB_PORT_CTRL written (R260). -/
def execPortRetrain (m : Byte) (port : Fin 6) (v : Word) (s : State) : Host.Outcome State Fault Refusal := .next (s.access m (Reg.FAB_PORT_CTRL (fabIo port) (port / 2)) 4 v)

/-- GLV_EXT_DATA_WRITE: a word of the value that extends M3 (R441). -/
def execGlvExtDataWrite (m : Byte) (w : Fin 8) (v : Word) (s : State) : Host.Outcome State Fault Refusal := .next (s.access m (Reg.GLV_EXT_DATA w) 4 v)

/-- CFG_FLASH_DATA_WRITE: a word programmed at the flash address (R427). -/
def execCfgFlashDataWrite (m : Byte) (v : Word) (s : State) : Host.Outcome State Fault Refusal := .next (s.access m Reg.CFG_FLASH_DATA 4 v)

/-- RE_REFERENCE: BLW_CMD action 0 (R368). -/
def execReReference (m : Byte) (s : State) : Host.Outcome State Fault Refusal := .next (s.access m Reg.BLW_CMD 4 (bellowsWord 0 0 0))

/-- COMB_RETURN: BLW_CMD action 1 (R374). -/
def execCombReturn (m : Byte) (bank : Fin 2) (pos : Fin 5) (s : State) : Host.Outcome State Fault Refusal := .next (s.access m Reg.BLW_CMD 4 (bellowsWord 1 bank pos))

/-- SPARE_START: BLW_CMD action 2 (R369). -/
def execSpareStart (m : Byte) (bank : Fin 2) (pos : Fin 5) (s : State) : Host.Outcome State Fault Refusal := .next (s.access m Reg.BLW_CMD 4 (bellowsWord 2 bank pos))

/-- SPARE_HANDOVER: BLW_CMD action 3 (R370). -/
def execSpareHandover (m : Byte) (bank : Fin 2) (pos : Fin 5) (s : State) : Host.Outcome State Fault Refusal := .next (s.access m Reg.BLW_CMD 4 (bellowsWord 3 bank pos))

/-- LANE_CALIBRATION: CAL_REQ kind 0 (R383). -/
def execLaneCalibration (m : Byte) (v : Word) (s : State) : Host.Outcome State Fault Refusal := .next (s.access m Reg.CAL_REQ 4 (setFld v 31 28 8))

/-- SUM_DELAY_CALIBRATION: CAL_REQ kind 1 (R385). -/
def execSumDelayCalibration (m : Byte) (v : Word) (s : State) : Host.Outcome State Fault Refusal := .next (s.access m Reg.CAL_REQ 4 (setFld v 31 28 9))

/-- LOCK_THRESHOLD_CALIBRATION: CAL_REQ kind 2 (R385). -/
def execLockThresholdCalibration (m : Byte) (v : Word) (s : State) : Host.Outcome State Fault Refusal := .next (s.access m Reg.CAL_REQ 4 (setFld v 31 28 10))

/-- TBL_DATA_READ: a half of a block's indirect data register read (R452). -/
def execTblDataRead (m : Byte) (b : TblBlock) (high : Bool) (s : State) : Host.Outcome State Fault Refusal :=
  .next (s.accessRead m (((tblRegs (tblBlock b)).getD (0, 0)).2 + (if high then 4 else 0)) 4)

/-- TIME_LO_READ: a low half of a time read; its high half is latched (R234). -/
def execTimeLoRead (a : Access) (s : State) : Host.Outcome State Fault Refusal := .next (s.accessRead a.master a.addr.toNat a.size)

/-- RWC_PENDING_EXPIRY: a pending value is 100 µs old: discarded, with CAP_EVENTS.rwc_expired (R451). -/
def execRwcPendingExpiry (addr : BitVec 40) (s : State) : Host.Outcome State Fault Refusal :=
  if s.rwc.any (fun p => p.addr == addr.toNat) then
    .next (({ s with rwc := s.rwc.filter (fun p => p.addr != addr.toNat) } : State).orReg Reg.CAP_EVENTS 2)
  else .next s

/-- Whether an address is the low half of a critical pair of a block that is reachable. -/
def State.pairAt (s : State) (block addr : Nat) : Bool :=
  match blockOf block, blockOf addr with
  | some (b, _), some (c, off) =>
    b == c && s.unitUp b &&
      (match findRow (blockRows c) off with
      | some (r, _, hi) => r.rwc != 0 && !hi
      | none => false)
  | _, _ => false

/-- CRITICAL_PAIR_SWEEP: the block at `base` sweeps its pairs; `bad` is the address of one whose halves disagree: a critical-state error (R12,
R453). CAP_ERR holds the pair's address afterwards (DEDUCED: R453 has it recorded, and the reset would clear it). -/
def execCriticalPairSweep (base : BitVec 40) (bad : Option (BitVec 40)) (s : State) : Host.Outcome State Fault Refusal :=
  match bad with
  | none => .next s
  | some a =>
    if s.mode == .off || !(s.pairAt base.toNat a.toNat) then .next s
    else .next (((s.criticalError 0).setReg Reg.CAP_ERR_ADDR_LO (BitVec.ofNat 32 a.toNat)).setReg Reg.CAP_ERR_INFO (BitVec.ofNat 32 (a.toNat / 2 ^ 32)))

/-- An access that got no answer within 10 µs: a bus error, and CAP_EVENTS.timeout (R448). -/
def State.timeout (s : State) (a : Access) (write : Bool) : State :=
  ((s.orReg Reg.CAP_EVENTS 1).busError a.master a.addr.toNat write 8).send (.bus a.master.toNat a.addr.toNat none)

/-- CONTROL_ACCESS_TIMEOUT: an access of a unit gets no answer. Whether it has taken effect, whole, is `took` (R448); an access that the hub answers
with a bus error of its own does not time out. -/
def execControlAccessTimeout (a : Access) (write : Option Word) (took : Bool) (s : State) : Host.Outcome State Fault Refusal :=
  match write with
  | some w =>
    let (ok, t) := s.ctlWrite a.master a.addr.toNat a.size w
    if !ok then .next (t.send (.bus a.master.toNat a.addr.toNat none)) else .next ((if took then t else s).timeout a true)
  | none =>
    let (w, t) := s.ctlRead a.master a.addr.toNat a.size
    if w.isNone then .next (t.send (.bus a.master.toNat a.addr.toNat none)) else .next ((if took then t else s).timeout a false)

end Sys2Proof.Machine
end

