-- ==== Sys2Proof/Machine/HostOps.lean ====
section
/-! DEFINITION. MHP (R292 to R305): sessions, the order in which a request is judged, and what each command does. A command is its code with
its payload, so that a datagram and a command row meet in one place. -/

namespace Sys2Proof.Machine

/-! ### Ports, responses and datagrams (R292, R293, R298) -/

/-- Whether a host port carries traffic: in the served states, with its I/O die up and its link up (R298, R314). -/
def State.portUp (s : State) (i : Nat) : Bool := s.served && s.unitUp (.io i) && fld (s.reg (Reg.HST_LINK i)) 31 30 == 2

/-! ### Frames (R289 to R291) -/

/-- The MAC address of a port, byte 0 first; a register's low byte comes first. -/
def macBytes (i : Nat) : List Byte := (leBytes 4 (Config.mac i 1).toNat).take 2 ++ leBytes 4 (Config.mac i 0).toNat

/-- The IPv6 link-local address that a MAC address gives, as a number in network order. -/
def linkLocal (mac : List Byte) : Nat :=
  let id := [mac.getD 0 0 ^^^ 2, mac.getD 1 0, mac.getD 2 0, 0xFF, 0xFE, mac.getD 3 0, mac.getD 4 0, mac.getD 5 0]
  0xFE80 * 2 ^ 112 + leNat id.reverse

/-- Whether an address is one of a port's. -/
def State.ownAddress (s : State) (i : Nat) (v6 : Bool) (a : Nat) : Bool :=
  if v6 then
    a == linkLocal (macBytes i) ||
      (a != 0 && a == ((List.range 4).foldl (fun n k => n * 2 ^ 32 + (s.reg (Reg.HST_IPV6 i k)).toNat) 0))
  else a != 0 && a == (s.reg (Reg.HST_IPV4 i)).toNat

/-- Whether a port accepts a frame (R289): at most 9,216 bytes, with the tag that HST_VLAN names or without one, to its own address or a group address. -/
def State.accepts (s : State) (i : Nat) (h : FrameHead) : Bool :=
  let v := s.reg (Reg.HST_VLAN i)
  decide (h.len ≤ 9216) && h.tag == (if flag v 31 then some (BitVec.ofNat 12 (fld v 11 0)) else none) &&
    (h.mac.getLsbD 40 || h.mac.toNat == leNat (macBytes i).reverse)

/-- The rows of R291. -/
inductive Traffic where
  | mhp | roce | ptp | other
deriving DecidableEq, Repr

/-- How a port dispatches what a frame carries (R290, R291). -/
def State.dispatch (s : State) (i : Nat) (c : Carried) : Traffic :=
  match c with
  | .ether t => if t = 0x88F7 then .ptp else .other
  | .udp v6 a fragment p =>
    if fragment then .other
    else if p = 319 ∨ p = 320 then .ptp
    else if !(s.ownAddress i v6 a) then .other
    else if p.toNat = fld (s.reg (Reg.HST_MHP_PORT i)) 15 0 then .mhp
    else if p = 4791 then .roce
    else .other

/-- What a frame of a kind of traffic does at a port that takes it: nothing where the port carries no traffic, does not accept the frame, or dispatches it as
traffic of another kind; what no row of R291 takes is dropped and counted. -/
def State.onTraffic (s : State) (i : Nat) (h : FrameHead) (c : Carried) (kind : Traffic) (act : State → State) : State :=
  if !(s.portUp i) || !(s.accepts i h) then s
  else if s.dispatch i c = kind then act s
  else if s.dispatch i c = .other then s.bumpReg (Reg.HST_DROPS i) 15 0
  else s

/-- A response sent: its header carries the module's state and tick at sending (R292). -/
def State.reply (s : State) (r : MhpReq) (cmd status : Nat) (payload : List Byte) : State :=
  s.send (.response r cmd status s.mode.code s.seq payload (s.frameTag r.port))

/-- The datagram of one part of a message (R292): header and payload, its CRC-32C over both with that field zero. -/
def mhpDatagram (type code status session part parts seq state tick : Nat) (payload : List Byte) : List Byte :=
  let head := [0x4D, 0x48, 0x10, BitVec.ofNat 8 type] ++ leBytes 2 code ++ leBytes 2 status ++ leBytes 2 session ++ [BitVec.ofNat 8 part, BitVec.ofNat 8 parts] ++
    leBytes 4 seq ++ leBytes 2 payload.length ++ [BitVec.ofNat 8 state, 0] ++ leBytes 8 tick
  head ++ leBytes 4 (crc32c (head ++ [0, 0, 0, 0] ++ payload)) ++ payload

/-- The datagrams of a response or event (R293): parts of 1,408 bytes, the last shorter, all with one seq; none of another message. -/
def OutMsg.datagrams (m : OutMsg) : List (List Byte) :=
  let parts := fun (pl : List Byte) (one : Nat → Nat → List Byte → List Byte) =>
    let n := max 1 ((pl.length + 1407) / 1408)
    (List.range n).map (fun i => one i n ((pl.drop (1408 * i)).take 1408))
  match m with
  | .response r cmd status state tick pl _ => parts pl (fun i n b => mhpDatagram 1 cmd status r.session.toNat i n r.seq.toNat state tick b)
  | .event _ session code count state tick pl _ => parts pl (fun i n b => mhpDatagram 2 code 0 session i n count state tick b)
  | _ => []

/-- What an MHP header says, checks aside (R292). -/
structure MhpHead where
  type    : Nat
  code    : Nat
  session : Nat
  part    : Nat
  parts   : Nat
  seq     : Nat
  payload : List Byte
deriving DecidableEq, Repr

/-- A datagram read; none where it is dropped and counted: magic, CRC or length (R293). -/
def readDatagram (bs : List Byte) : Option MhpHead :=
  let n := fun o k => leNat ((bs.drop o).take k)
  let len := n 16 2
  if bs.length < 32 ∨ bs.take 2 ≠ [0x4D, 0x48] ∨ 1408 < len ∨ bs.length ≠ 32 + len then none
  else if n 28 4 ≠ crc32c (bs.take 28 ++ [0, 0, 0, 0] ++ bs.drop 32) then none
  else some { type := n 3 1, code := n 4 2, session := n 8 2, part := n 10 1, parts := n 11 1, seq := n 12 4, payload := bs.drop 32 }

/-! ### Sessions (R294 to R297) -/

/-- The session a request names from its own binding (R296). -/
def State.sessionOf (s : State) (r : MhpReq) : Option Session :=
  s.sessions.find? (fun x => x.id == r.session && x.port == r.port.val && x.addr == r.addr && x.udp == r.udp)

/-- A session of a slot changed. -/
def State.onSession (s : State) (slot : Nat) (f : Session → Session) : State :=
  { s with sessions := s.sessions.map (fun x => if x.slot = slot then f x else x) }

/-- A session closed. -/
def State.closeSession (s : State) (slot : Nat) : State := { s with sessions := s.sessions.filter (fun x => x.slot != slot) }

/-- The response of a request that has been judged: sent and kept among the last 64 of its session (R297). -/
def State.conclude (s : State) (r : MhpReq) (slot code status : Nat) (payload : List Byte) : State :=
  (s.reply r code status payload).onSession slot (fun x =>
    { x with kept := (x.kept ++ [(r.seq.toNat, code, status, payload)]).drop (x.kept.length - 63), busy := x.busy.filter (fun q => q != r.seq.toNat) })

/-- The response of a request that went on executing, if its session is still open. -/
def State.replyLater (s : State) (r : MhpReq) (code status : Nat) (payload : List Byte) : State :=
  match s.sessionOf r with
  | some x => s.conclude r x.slot code status payload
  | none => s

/-- The master identity of a session (R295). -/
def Session.master (x : Session) : Nat := if x.role = 2 then 0x50 else 0x10 + x.slot

/-- A new session identifier: a random number, not zero and of no open session (R294). -/
def State.newId (s : State) : BitVec 16 :=
  let ids := (List.range 17).map (fun k => BitVec.ofNat 16 ((s.free + k) % 65535 + 1))
  (ids.find? (fun i => !(s.sessions.any (fun x => x.id == i)))).getD 1

/-- HELLO (R294, R295): its status and payload, and the state after. -/
def State.hello (s : State) (r : MhpReq) (pl : List Byte) : Nat × List Byte × State :=
  let byte := fun i => (pl.getD i 0).toNat
  let role := byte 18
  if pl.length ≠ 20 then (4, leBytes 2 (min pl.length 20), s)
  else if 2 < role then (4, leBytes 2 18, s)
  else if byte 0 / 2 % 2 = 0 then (0xC, [2, 0], s)
  else
    let holder := if role = 0 then none else s.sessions.find? (fun x => x.role == role)
    if holder.isSome ∧ byte 19 % 2 = 0 then (0xB, [], s)
    else if flag (s.reg Reg.GLV_STATUS) 30 then (0xD, [], s)
    else
      let s := match holder with
        | some x => s.closeSession x.slot
        | none => s
      match (List.range 16).find? (fun k => !(s.sessions.any (fun x => x.slot == k))) with
      | none => (0xB, [], s)
      | some k =>
        let x : Session :=
          { slot := k, id := s.newId, role := role, port := r.port, addr := r.addr, udp := r.udp, h := r.seq.toNat, kept := [], busy := [],
            mask := 0, count := 0 }
        let body := [0x10, BitVec.ofNat 8 x.master] ++ leBytes 2 x.id.toNat ++ [BitVec.ofNat 8 k]
        (0, body, { s.drawn with sessions := s.sessions ++ [{ x with kept := [(r.seq.toNat, 1, 0, body)] }] })

/-! ### The table of R298 -/

/-- The roles that may issue a command, by role; none for a code of no command. -/
def cmdRoles (code : Nat) : Option (Nat → Bool) :=
  let all := fun (_ : Nat) => true
  let ctl := fun (r : Nat) => r == 1
  let both := fun (r : Nat) => r == 1 || r == 2
  match code with
  | 0x0001 => some all | 0x0002 => some all | 0x0003 => some all | 0x0010 => some all | 0x0011 => some all | 0x0012 => some both
  | 0x0020 => some ctl | 0x0021 => some ctl | 0x0022 => some ctl | 0x0023 => some ctl | 0x0024 => some both | 0x0030 => some ctl
  | 0x0031 => some ctl | 0x0040 => some ctl | 0x0041 => some ctl | 0x0050 => some both | 0x0051 => some both | 0x0060 => some ctl
  | 0x0061 => some ctl | 0x0070 => some all | 0x0080 => some all
  | _ => none

/-- Whether a command is legal in the present state; RESET and OPEN_QP by their payload (R298, R353). -/
def State.cmdLegal (s : State) (code : Nat) (pl : List Byte) : Bool :=
  let is := fun (ms : List ModState) => ms.contains s.mode
  if s.mode = .faulted ∧ s.boot.faulted ∧ !([0x01, 0x02, 0x03, 0x10, 0x11, 0x40, 0x41].contains code) then false
  else
    match code with
    | 0x0020 => is [.ready]
    | 0x0021 => is [.loaded]
    | 0x0022 => is [.loaded]
    | 0x0023 => is [.running]
    | 0x0024 => is [.running, .draining]
    | 0x0030 => is [.ready, .loaded]
    | 0x0031 => is [.banked]
    | 0x0040 => s.resetLegal (pl.getD 0 0).toNat
    | 0x0041 => is [.ready, .faulted]
    | 0x0060 =>
      match (pl.getD 28 0).toNat with
      | 0 => is [.loaded, .running, .draining]
      | 1 => is [.ready]
      | 2 => is [.ready, .loaded, .running, .draining, .faulted]
      | _ => true
    | _ => true

/-- A mailbox channel that refuses a session (R329, R330), and a quote that may not be given (R437). -/
def State.cmdDenied (s : State) (x : Session) (code : Nat) (pl : List Byte) : Bool :=
  let c := (pl.getD 0 0).toNat
  match code with
  | 0x0050 => decide (c < 32) && !pl.isEmpty && !(s.mbxSends x.master c)
  | 0x0051 => decide (c < 32) && !pl.isEmpty && !(s.mbxSends x.master c)
  | 0x0080 => fld (s.reg Reg.GLV_STATUS) 30 29 != 0
  | _ => false

/-! ### Bad arguments (R301) -/

/-- The payload length: the offset of the first byte missing or in excess where it is not `n`. -/
def lenBad (pl : List Byte) (n : Nat) : Option Nat := if pl.length = n then none else some (min pl.length n)

/-- The first of some (bad, offset) that is bad. -/
def firstBad (checks : List (Bool × Nat)) : Option Nat := (checks.find? (fun c => c.1)).map (fun c => c.2)

/-- The bytes of the whole staging range (R304). -/
def stagingBytes : Nat := 2 ^ 36

/-! ### START_JOB with restore (R355) -/

/-- The header and data of a checkpoint slot of a stack: in the stack itself, or as the peer answers its reads. -/
def State.slotOf (s : State) (peer : List (List Byte × List Byte)) (m k : Nat) : List Byte × List Byte :=
  if flag (s.reg Reg.TCK_CKPT_CTRL) 30 then peer.getD (2 * m + k) ([], [])
  else
    let x := s.stack m
    let h := x.bytes (0xA00000000 + 128 * k) 128
    (h, x.bytes (0x800000000 + k * 0x100000000) (min (leNat ((h.drop 24).take 8)) 0x100000000))

/-- The slot of a stack with complete 1 and the larger tick. -/
def State.bestSlot (s : State) (peer : List (List Byte × List Byte)) (m : Nat) : Option (List Byte × List Byte) :=
  let tick := fun (x : List Byte × List Byte) => leNat ((x.1.drop 8).take 8)
  match [s.slotOf peer m 0, s.slotOf peer m 1].filter (fun x => x.1.getD 7 0 == 1) with
  | [] => none
  | [x] => some x
  | x :: y :: _ => some (if tick x < tick y then y else x)

/-- Whether a slot passes the checks of R355 against the image in use. -/
def State.slotGood (s : State) (x : List Byte × List Byte) : Bool :=
  x.1.take 4 == [0x45, 0x4D, 0x43, 0x4B] && x.1.getD 4 0 == 0x10 && (x.1.drop 32).take 32 == s.stage (s.imageInUse.base + 0x060) 32 &&
    (x.1.drop 64).take 32 == sha256 x.2

/-- The slots that restore would load, one per stack: none where a check fails. -/
def State.restoreSlots (s : State) (peer : List (List Byte × List Byte)) : Option (List (List Byte × List Byte)) :=
  let xs := (List.range 16).filterMap (s.bestSlot peer)
  let tick := fun (x : List Byte × List Byte) => leNat ((x.1.drop 8).take 8)
  if s.checkpointK ≠ 0 ∧ xs.length = 16 ∧ xs.all s.slotGood ∧ xs.all (fun x => tick x == tick (xs.getD 0 ([], []))) then some xs else none

/-- A stack's windows loaded from a slot's data, into both copies. -/
def MemStack.restore (x : MemStack) (data : List Byte) : List (Nat × Nat × Nat) → MemStack
  | [] => x
  | w :: ws => ((x.write w.1 (data.take w.2.1)).write w.2.2 (data.take w.2.1)).restore (data.drop w.2.1) ws

/-- Every stack's windows loaded. -/
def State.restoreStacks (s : State) : Nat → List (List Byte × List Byte) → State
  | _, [] => s
  | m, x :: xs => (s.setStack m ((s.stack m).restore x.2 (s.memWins m))).restoreStacks (m + 1) xs

/-- The checkpoint loaded: windows, epoch, TCK_CKPT_LAST (R355). -/
def State.restoreFrom (s : State) (xs : List (List Byte × List Byte)) : State :=
  let h := (xs.getD 0 ([], [])).1
  let tick := leNat ((h.drop 8).take 8)
  let s := (s.restoreStacks 0 xs).setReg Reg.TCK_EPOCH (BitVec.ofNat 32 (leNat ((h.drop 16).take 8)))
  let s := s.setReg64 Reg.TCK_CKPT_LAST_LO Reg.TCK_CKPT_LAST_HI tick
  { s with recovery := { s.recovery with restored := some tick } }

/-! ### The degraded image applied directly (R347, R415) -/

/-- The fenced dies. -/
def State.fencedDies (s : State) : List Nat := (List.range 16).filter s.dieFenced

/-- The resident degraded image applied for a die fenced while no tick runs: the map, the image, and how it shows (R344, R347). -/
def State.applyDegraded (s : State) (f : Nat) : State :=
  let s := s.shadowBays f
  let s := (s.setReg Reg.HRT_BAY_MAP_0 (s.shadow Reg.HRT_BAY_MAP_0)).setReg Reg.HRT_BAY_MAP_1 (s.shadow Reg.HRT_BAY_MAP_1)
  let s := s.applyImage s.degradedImage
  (s.setRegFld Reg.TCK_STATUS 24 24 1).setRegFld Reg.TCK_RCV_STATUS 28 24 (16 + f)

/-- The bad argument of START_JOB, if any (R305, R355, R415; a standby starts only with restore, R24 and R357). -/
def State.startBad (s : State) (pl : List Byte) (peer : List (List Byte × List Byte)) : Option Nat :=
  let restore := pl.getD 8 0 &&& 1 == 1
  let fs := s.fencedDies
  match lenBad pl 9 with
  | some o => some o
  | none => firstBad
      [(s.source == 2 && leNat (pl.take 8) != 0, 0),
       (!fs.isEmpty && (decide (1 < fs.length) || !(flag (s.reg Reg.TCK_IMAGE_STATUS) 30)), 0),
       (pl.getD 8 0 >>> 1 != 0, 8),
       (flag (s.reg Reg.TCK_ROLE) 31 && !restore, 8),
       (restore && (s.restoreSlots peer).isNone, 8)]

/-- Why CONFIG_REVERT is answered BAD_ARG (R426). -/
def State.revertBad (s : State) : Bool :=
  match s.setInUse with
  | none => true
  | some r => !(s.eligible (!r))

/-- The offset of the first bad payload byte, none where the arguments are good; a bad field is named by its first byte (R301). -/
def State.cmdBad (s : State) (x : Session) (code : Nat) (pl : List Byte) (peer : List (List Byte × List Byte)) : Option Nat :=
  let n := fun o k => leNat ((pl.drop o).take k)
  match code with
  | 0x0011 =>
    match lenBad pl 12 with
    | some o => some o
    | none => firstBad [(decide (2 ^ 40 ≤ n 0 8), 0), (decide (n 8 4 < 1 ∨ 256 < n 8 4), 8)]
  | 0x0012 =>
    if pl.length < 12 then some pl.length
    else firstBad [(decide (2 ^ 40 ≤ n 0 8), 0), (decide (n 8 4 < 1 ∨ 256 < n 8 4), 8), (pl.length != 12 + 4 * n 8 4, min pl.length (12 + 4 * n 8 4))]
  | 0x0020 =>
    match lenBad pl 24 with
    | some o => some o
    | none => firstBad
        [(decide (n 0 8 < 1 ∨ stagingBytes < n 0 8), 0), (n 8 8 % 128 != 0 || decide (stagingBytes ≤ n 8 8), 8),
         (n 8 8 != 0 && decide (n 16 8 < 1 ∨ stagingBytes < n 8 8 + n 16 8), 16)]
  | 0x0022 => s.startBad pl peer
  | 0x0040 =>
    if pl.isEmpty then some 0
    else firstBad
      [(decide (3 < n 0 1), 0), (n 0 1 == 2 && pl.length == 1, 1), (decide (2 < pl.length), 2), (n 0 1 == 2 && decide (35 < n 1 1), 1)]
  | 0x0041 =>
    match lenBad pl 0 with
    | some o => some o
    | none => if s.revertBad then some 0 else none
  | 0x0050 =>
    let w := pl.length / 4
    if pl.length < 8 then some pl.length
    else firstBad
      [(decide (31 < n 0 1), 0), (n 1 1 != 0, 1), (n 2 1 != 0, 2), (n 3 1 != 0, 3), (decide (9 < w), 36), (pl.length % 4 != 0, pl.length),
       (!(flag (s.reg (Reg.MBX_VER (n 0 1))) 7), 0)]
  | 0x0051 =>
    match lenBad pl 1 with
    | some o => some o
    | none => if 31 < n 0 1 then some 0 else none
  | 0x0060 =>
    match lenBad pl 29 with
    | some o => some o
    | none => firstBad
        [(decide (2 ^ 24 ≤ n 0 4), 0), (decide (2 ^ 24 ≤ n 4 4), 4), (!([1024, 2048, 4096].contains (n 8 4)), 8),
         (decide (2 < n 28 1) || (n 28 1 == 2 && flag (s.reg Reg.TCK_CKPT_CTRL) 30), 28)]
  | 0x0061 =>
    match lenBad pl 4 with
    | some o => some o
    | none => if s.qps.any (fun q => q.port == x.port && q.qpn == n 0 4) then none else some 0
  | 0x0070 => lenBad pl 4
  | 0x0080 => lenBad pl 32
  | _ => lenBad pl 0

/-! ### Register commands (R299) -/

/-- Words read from consecutive addresses: the words, or the failing address and the number read before it. -/
def State.readWords (s : State) (m : Byte) (a : Nat) : Nat → List Byte → Except (Nat × Nat) (List Byte) × State
  | 0, acc => (.ok acc, s)
  | n + 1, acc =>
    match s.ctlRead m a 4 with
    | (some w, t) => t.readWords m (a + 4) n (acc ++ leBytes 4 w.toNat)
    | (none, t) => (.error (a, acc.length / 4), t)

/-- Words written in address order: none, or the failing address and the number written before it. -/
def State.writeWords (s : State) (m : Byte) (a k : Nat) : List Word → Option (Nat × Nat) × State
  | [] => (none, s)
  | w :: ws =>
    match s.ctlWrite m a 4 w with
    | (true, t) => t.writeWords m (a + 4) (k + 1) ws
    | (false, t) => (some (a, k), t)

/-- The payload of BUS_ERROR. -/
def busPayload (e : Nat × Nat) : List Byte := leBytes 8 e.1 ++ leBytes 4 e.2

/-- The words of a payload from an offset. -/
def wordsAt (pl : List Byte) (o : Nat) : List Word := (List.range ((pl.length - o) / 4)).map (fun i => BitVec.ofNat 32 (leNat ((pl.drop (o + 4 * i)).take 4)))

/-! ### Mailbox commands (R329, R330) -/

/-- Words written one after another into an inbound queue. -/
def MbxQueue.writeAll (q : MbxQueue) (m : Byte) (stamp : Bool) : List Word → Option MbxQueue
  | [] => some q
  | w :: ws =>
    match q.write m stamp w with
    | some q' => q'.writeAll m stamp ws
    | none => none

/-- MBX_SEND: the words and the doorbell as one operation. -/
def State.mbxSendAll (s : State) (m : Byte) (c : Nat) (ws : List Word) : Nat × List Byte × State :=
  let x := s.chan c
  if x.inQ.writer.isSome ∧ x.inQ.writer ≠ some m then (0xB, [], s)
  else if 8 < x.inQ.count + ws.length then (6, [BitVec.ofNat 8 c], s)
  else
    match x.inQ.writeAll m (s.mbxStamp c) ws with
    | none => (6, [BitVec.ofNat 8 c], s)
    | some q => (0, [], ((s.setChan c { x with inQ := q.close }).signal c 0).ringOwner c)

/-- MBX_RECV: the head outbound message that the session may read, with IN_ACK where it may read that. -/
def State.mbxRecvAll (s : State) (m : Byte) (c : Nat) : List Byte × State :=
  let mine := !(s.mbxStamp c) || (s.chan c).outQ.headDst == some m.toNat
  let ack := if s.mayReadAck m c false then s.reg (Reg.MBX_IN_ACK c) else 0
  let s := if s.mayReadAck m c false then s.ackRead c false else s
  let x := s.chan c
  match x.outQ.done, mine with
  | (h, ws) :: rest, true =>
    (leBytes 4 ack.toNat ++ leBytes 4 ws.length ++ (ws.map (fun w => leBytes 4 w.toNat)).flatten,
      s.setChan c { x with outQ := { x.outQ with done := rest }, outTo := BitVec.ofNat 8 (fld h 23 16) })
  | _, _ => (leBytes 4 ack.toNat ++ leBytes 4 0, s)

/-! ### What each command does -/

/-- UNLOAD_JOB (R298, R436): no image is resident; a degraded map is taken back. -/
def State.unload (s : State) : State :=
  let s := if flag (s.reg Reg.TCK_STATUS) 24 then
      let a := Reg.HRT_BAY_MAP_0
      let b := Reg.HRT_BAY_MAP_1
      (((s.setReg a (regReset a)).setReg b (regReset b)).setShadow a (regReset a)).setShadow b (regReset b)
    else s
  let s := (s.setRegFld Reg.TCK_STATUS 24 24 0).setRegFld Reg.TCK_RCV_STATUS 28 24 0
  let s := (s.setReg Reg.TCK_IMAGE_STATUS (s.reg Reg.TCK_IMAGE_STATUS &&& 0xFFFF)).setReg Reg.TCK_IMAGE_ENERGY 0
  let s := (s.setWords (Reg.GLV_MEAS 16) [] 16).setRegFld Reg.GLV_STATUS 27 26 0
  let s := { s with
    job := JobState.reset
    tiles := s.tiles.mapSet Tile.reset (fun _ t => { t with placed := false })
    glove := { s.glove with image := GloveState.reset.image, degraded := GloveState.reset.degraded } }
  ((s.setPeriod 0).wakeBays (List.range 16)).go .ready 0

/-- START_JOB (R305, R347, R355, R357, R415): accepted; the first tick begins at the next tick beacon. -/
def State.startJob (s : State) (first : DWord) (restore : Bool) (peer : List (List Byte × List Byte)) : State :=
  let s := match s.fencedDies with
    | f :: _ => if flag (s.reg Reg.TCK_STATUS) 24 then s else s.applyDegraded f
    | [] => s
  let s := if restore then
      match s.restoreSlots peer with
      | some xs => (s.restoreFrom xs).setRegFld Reg.TCK_ROLE 31 31 0
      | none => s
    else s
  ({ s with job := { s.job with start := some first } } : State).showStage

/-- The payload of GET_STATUS, in the order R298 lists it: state, standby, preferred, TCK_SEQ, TCK_EPOCH, TCK_STATUS, TCK_IMAGE_STATUS. -/
def State.statusPayload (s : State) : List Byte :=
  let role := s.reg Reg.TCK_ROLE
  [BitVec.ofNat 8 s.mode.code, BitVec.ofNat 8 (fld role 31 31), BitVec.ofNat 8 (fld role 30 30)] ++ leBytes 8 s.seq ++
    leBytes 4 (s.reg Reg.TCK_EPOCH).toNat ++ leBytes 4 (s.reg Reg.TCK_STATUS).toNat ++ leBytes 4 (s.reg Reg.TCK_IMAGE_STATUS).toNat

/-- OPEN_QP (R307): a queue pair with a local number, a starting PSN and an rkey drawn at random; the number's low bits are the pair's
place among the 64 of its port. -/
def State.openPair (s : State) (x : Session) (pl : List Byte) : Nat × List Byte × State :=
  let n := fun o k => leNat ((pl.drop o).take k)
  let mine := s.qps.filter (fun q => q.port == x.port)
  if flag (s.reg Reg.GLV_STATUS) 30 then (0xD, [], s)
  else
    match (List.range 64).find? (fun k => !(mine.any (fun q => q.qpn % 64 == k))) with
    | none => (0xD, [], s)
    | some k =>
      let qpn := s.free % 2 ^ 18 * 64 + k
      let psn := s.drawn.free % 2 ^ 24
      let rkey := s.drawn.drawn.free % 2 ^ 32
      let q : Qp := { port := x.port, qpn := qpn, remote := n 0 4, rkey := rkey, mtu := n 8 4, gid := BitVec.ofNat 128 (n 12 16), kind := n 28 1, psn := n 4 4,
                      msg := none, broken := false, halfTo := 0, cnpAt := 0 }
      (0, leBytes 4 qpn ++ leBytes 4 psn ++ leBytes 4 rkey, { s.drawn.drawn.drawn with qps := s.qps ++ [q] })

/-- What became of a request that passed the judgement: answered, or still executing. -/
inductive Verdict where
  | now (status : Nat) (payload : List Byte) (s : State)
  | later (s : State)

/-- A command in which the states of Bank entry or of a load do not mix: answered BUSY (DESIGN CHOICE). -/
def State.midway (s : State) : Bool := s.job.loading.isSome || (s.boot.bankedFrom.isSome && s.mode != .banked)

/-- A command carried out. DESIGN CHOICE (log 130): a BANK in Loaded while a START_JOB waits for its beacon is answered OK and drops nothing: a beacon before the
entry is complete starts the job, and a start kept through Banked acts after the wake. -/
def State.cmdRun (s : State) (r : MhpReq) (x : Session) (code : Nat) (pl : List Byte) (peer : List (List Byte × List Byte)) : Verdict :=
  let n := fun o k => leNat ((pl.drop o).take k)
  let m := BitVec.ofNat 8 x.master
  match code with
  | 0x0002 => .now 0 [] (s.closeSession x.slot)
  | 0x0003 => .now 0 [] s
  | 0x0010 => .now 0 s.statusPayload s
  | 0x0011 =>
    match s.readWords m (n 0 8) (n 8 4) [] with
    | (.ok ws, t) => .now 0 ws t
    | (.error e, t) => .now 5 (busPayload e) t
  | 0x0012 =>
    match s.writeWords m (n 0 8) 0 (wordsAt pl 12) with
    | (none, t) => .now 0 [] t
    | (some e, t) => .now 5 (busPayload e) t
  | 0x0020 =>
    if s.midway || s.boot.cmd.isSome || s.glove.cmd == some 0 then .now 0xB [] s
    else .later { s with job := { s.job with loading := some (r, n 0 8, n 8 8, n 16 8) } }
  | 0x0021 => if s.midway then .now 0xB [] s else .now 0 [] s.unload
  | 0x0022 =>
    if s.midway || (flag (s.reg Reg.THM_STATUS) 6 && decide (760 ≤ s.tmax)) then .now 0xB [] s
    else .now 0 [] (s.startJob (BitVec.ofNat 64 (n 0 8)) (n 8 1 % 2 == 1) peer)
  | 0x0023 => .now 0 [] (s.go .draining 0)
  | 0x0024 => .now 0 [] s.teardown
  | 0x0030 =>
    if s.midway || s.boot.cmd.isSome then .now 0xB [] s else .now 0 [] { s with boot := { s.boot with bankedFrom := some s.mode, waking := false } }
  | 0x0031 => .now 0 [] { s with boot := { s.boot with waking := true } }
  | 0x0040 => .now 0 [] { s with boot := { s.boot with asked := s.boot.asked ++ [(n 0 1, if n 0 1 = 2 then n 1 1 else 0)] } }
  | 0x0041 =>
    if s.boot.cmd.isSome then .now 0xB [] s
    else .now 0 [] { s with boot := { s.boot with revert := s.setInUse.map (fun r => !r), asked := s.boot.asked ++ [(0, 0)] } }
  | 0x0050 =>
    let (st, p, t) := s.mbxSendAll m (n 0 1) (wordsAt pl 4)
    .now st p t
  | 0x0051 =>
    let (p, t) := s.mbxRecvAll m (n 0 1)
    .now 0 p t
  | 0x0060 =>
    let (st, p, t) := s.openPair x pl
    .now st p t
  | 0x0061 => .now 0 [] { s with qps := s.qps.filter (fun q => !(q.port == x.port && q.qpn == n 0 4)) }
  | 0x0070 => .now 0 [] (s.onSession x.slot (fun y => { y with mask := BitVec.ofNat 32 (n 0 4) }))
  | 0x0080 =>
    if 4 ≤ s.glove.quotes.length then .now 0xB [] s
    else
      let s := { s with glove := { s.glove with quotes := s.glove.quotes ++ [(r, BitVec.ofNat 256 (leNat pl))] } }
      .later (s.setRegFld Reg.GLV_STATUS 23 21 s.glove.quotes.length)
  | _ => .now 3 [] s

/-- A request judged in the order of R298 and, where it passes, carried out. -/
def State.judge (s : State) (r : MhpReq) (x : Session) (code : Nat) (pl : List Byte) (peer : List (List Byte × List Byte)) : Verdict :=
  match cmdRoles code with
  | none => .now 3 [] s
  | some roles =>
    if !(roles x.role) then .now 8 [] s
    else if s.cmdDenied x code pl then .now 8 [] (if code = 0x0080 then s.orReg Reg.GLV_EVENTS 1 else s)
    else if !(s.cmdLegal code pl) then .now 2 [BitVec.ofNat 8 s.mode.code] (s.bumpReg (Reg.HST_CONFLICTS r.port) 31 0)
    else
      match s.cmdBad x code pl peer with
      | some o => .now 4 (leBytes 2 o) s
      | none => s.cmdRun r x code pl peer

/-- A request of an open session: one seen before is not executed again (R297). -/
def State.sessionRequest (s : State) (r : MhpReq) (x : Session) (code : Nat) (pl : List Byte) (peer : List (List Byte × List Byte)) : State :=
  let q := r.seq.toNat
  if x.busy.contains q then s.reply r code 1 []
  else if q ≤ x.h then
    match x.kept.find? (fun k => k.1 == q) with
    | some (_, c, st, p) => s.reply r c st p
    | none => s.reply r code 9 []
  else
    match (s.onSession x.slot (fun y => { y with h := q })).judge r x code pl peer with
    | .now st p t => t.conclude r x.slot code st p
    | .later t => t.onSession x.slot (fun y => { y with busy := y.busy ++ [q] })

/-- An MHP request at a host port (R293 to R301). -/
def State.mhp (s : State) (r : MhpReq) (code : Nat) (pl : List Byte) (peer : List (List Byte × List Byte)) : State :=
  if !(s.portUp r.port) || !(flag (s.reg (Reg.HST_CTRL r.port)) 1) then s
  else if code = 1 then
    let (st, p, t) := s.hello r pl
    t.reply r 1 st p
  else
    match s.sessionOf r with
    | none => s.reply r code 0xA []
    | some x => s.sessionRequest r x code pl peer

end Sys2Proof.Machine
end

