-- ==== Sys2Proof/Machine/Glovebox.lean ====
section
/-! DEFINITION. Commands of the Glovebox (chapter 17): self-tests, owner roots, measurements, tamper and quotes. -/

namespace Sys2Proof.Machine

/-! ### GLV_CMD (R434, R436, R438, R441) -/

/-- SELF_TESTS: GLV_CMD action 0 (R438). -/
def execSelfTests (m : Byte) (s : State) : Host.Outcome State Fault Refusal := .next (s.access m Reg.GLV_CMD 4 0x80000000)

/-- OWNER_ROOT_RECORD: GLV_CMD action 1; GLV_CMD_OFF names the record (R434). -/
def execOwnerRootRecord (m : Byte) (s : State) : Host.Outcome State Fault Refusal := .next (s.access m Reg.GLV_CMD 4 0x90000000)

/-- EXTEND_M3: GLV_CMD action 3 (R436). -/
def execExtendM3 (m : Byte) (s : State) : Host.Outcome State Fault Refusal := .next (s.access m Reg.GLV_CMD 4 0xB0000000)

/-- A Glovebox command that ends with a status word. -/
def State.gloveEnd (s : State) (status : Word) : State :=
  (({ s with glove := { s.glove with cmd := none } } : State).setReg Reg.GLV_CMD_STATUS status).clearReg Reg.GLV_CMD 0x80000000

/-- A failure of a self-test or of the entropy source (R438). -/
def State.selftestFailed (s : State) : State := (s.orReg Reg.GLV_STATUS 0x40000000).orReg Reg.GLV_EVENTS 8

/-- Whether the body of an owner-root record is well formed (R434). -/
def recordOk (b : List Byte) : Bool :=
  let v := fun i => (b.getD i 0).toNat
  b.take 4 == [0x45, 0x4D, 0x4F, 0x52] && v 4 == 0x10 && decide (v 5 ≤ 1 ∧ v 6 ≤ 3) && v 7 == 0 && (b.drop 72).all (fun x => x == 0) &&
    (v 5 == 0 || ((b.drop 40).take 32).all (fun x => x == 0))

/-- Whether a record verifies under the root of R433: the vendor's for slot 0 or while no owner root is active, else the active owner's. -/
def State.recordVerifies (s : State) (body sig : List Byte) : Bool :=
  let b5 := body.getD 5 0
  let install0 := b5 == 0 && body.getD 6 0 == 0
  if flag (s.reg Reg.GLV_STATUS) 30 then false
  else
    match s.activeRoot with
    | some k => if install0 then Config.slhVerify Config.vendorRoot body sig else Config.slhVerify (s.ownerRoot k) body sig
    | none => b5 == 0 && Config.slhVerify Config.vendorRoot body sig

/-- The active owner slot worked out anew: the highest slot programmed and not revoked (R432). -/
def State.showActive (s : State) : State :=
  let w := s.reg Reg.GLV_ROOTS
  match [3, 2, 1, 0].find? (fun k => flag w (28 + k) && !(flag w (24 + k))) with
  | some k => s.setReg Reg.GLV_ROOTS (setFld (setFlag w 23 true) 22 21 k)
  | none => s.setReg Reg.GLV_ROOTS (setFld (setFlag w 23 false) 22 21 0)

/-- The key in the identity register, as bytes. -/
def State.identityBytes (s : State) : List Byte := leBytes 32 s.identity.toNat

/-- An owner-root record acted on: its status word, and the state after. A record that the Glovebox refuses shows refused; one that is malformed or
does not verify has failed (R434, GLV_CMD_STATUS). -/
def State.ownerRecord (s : State) : Word × State :=
  let o := fld (s.reg Reg.GLV_CMD_OFF) 28 0 * 128
  let body := s.stage o 80
  let slot := (body.getD 6 0).toNat
  let w := s.reg Reg.GLV_ROOTS
  let revoke := body.getD 5 0 == 1
  if decide (2 ^ 36 < o + 7936) || !(recordOk body) then (0x10030000, s)
  else if !(s.recordVerifies body (s.stage (o + 80) 7856)) then (0x10040000, s.orReg Reg.GLV_EVENTS 4)
  else if revoke && (!(flag w (28 + slot)) || flag w (24 + slot)) then (0x20050000, s)
  else if !revoke && flag w (28 + slot) then (0x20050000, s)
  else if (body.drop 8).take 32 ≠ s.identityBytes then (0x20060000, s)
  else
    let s := s.setReg Reg.GLV_ROOTS (setFlag w (if revoke then 24 + slot else 28 + slot) true)
    let s := if revoke then s else s.setWords (Reg.GLV_OWNER_ROOT (8 * slot)) ((body.drop 40).take 32) 8
    (0x40000000, s.showActive.orReg Reg.GLV_EVENTS 2)

/-- The value in GLV_EXT_DATA. -/
def State.extData (s : State) : List Byte := ((List.range 8).map (fun w => leBytes 4 (s.reg (Reg.GLV_EXT_DATA w)).toNat)).flatten

/-- GLV_CMD_END: the command under way ends; `testsPass`: what the self-tests of action 0 found (R434, R436, R438). -/
def execGlvCmdEnd (testsPass : Bool) (s : State) : Host.Outcome State Fault Refusal :=
  match s.glove.cmd with
  | none => .next s
  | some 0 =>
    if testsPass then .next ((s.orReg Reg.GLV_STATUS 0x80000000).gloveEnd 0x40000000)
    else .next ((s.clearReg Reg.GLV_STATUS 0x80000000).selftestFailed.gloveEnd 0x10000000)
  | some 1 =>
    let (w, t) := s.ownerRecord
    .next (t.gloveEnd w)
  | some _ => .next ((s.extend 3 s.extData).gloveEnd 0x40000000)

/-! ### Tamper and entropy (R438, R439) -/

/-- Whether the backup domain has power: VBAK, or the 48 V input (R466). -/
def State.backupLive (s : State) : Bool := s.boot.vbak || s.boot.input

/-- TAMPER: the monitor finds a cause of GLV_TAMPER: the seed is zeroised, the cause recorded and counted; a command in progress ends failed and a
quote being signed is dropped; a Cold reset of source 6, which GLV_EVENTS.tamper shows after it (log 81), or in_off where the input is absent (R439). -/
def execTamper (cause : BitVec 4) (s : State) : Host.Outcome State Fault Refusal :=
  let c := cause.toNat
  if !s.backupLive || c = 0 || decide (5 < c) then .next s
  else
    let on := s.boot.input
    let s := s.orReg Reg.GLV_STATUS 0x20000000
    let s := ((s.setRegFld Reg.GLV_TAMPER 31 28 c).setRegFld Reg.GLV_TAMPER 27 27 (if on then 0 else 1)).bumpReg Reg.GLV_TAMPER 15 0
    let busy := s.glove.cmd.isSome
    let s := { s with glove := { s.glove with cmd := none, quotes := s.glove.quotes.drop 1 } }
    if !on then .next s
    else
      let s := (s.fireCold 6 0).orReg Reg.GLV_EVENTS 16
      .next (if busy then s.setReg Reg.GLV_CMD_STATUS 0x10070000 else s)

/-- ENTROPY_HEALTH_FAIL: a continuous test of the entropy source fails (R438). -/
def execEntropyHealthFail (s : State) : Host.Outcome State Fault Refusal := if s.mode == .off then .next s else .next s.selftestFailed

/-! ### Quotes (R437) -/

/-- The body of a quote: 336 bytes. -/
def State.quoteBody (s : State) (nonce : BitVec 256) : List Byte :=
  let bit := fun (b : Bool) (k : Nat) => if b then 2 ^ k else 0
  let flags := bit (flag (s.reg Reg.TCK_STATUS) 24) 0 + bit s.activeRoot.isSome 1 + bit (flag (s.reg Reg.TCK_IMAGE_STATUS) 31) 2 + bit (flag (s.reg Reg.CFG_STATUS) 29) 3
  let l := s.glove.latch
  [0x45, 0x4D, 0x51, 0x54, 0x10, BitVec.ofNat 8 flags, BitVec.ofNat 8 (fld (s.reg Reg.CFG_STATUS) 31 31),
    (match s.activeRoot with | some k => BitVec.ofNat 8 k | none => 0xFF)] ++
  leBytes 4 s.glove.setVer ++ leBytes 4 l.1.toNat ++ leBytes 8 l.2.1 ++ leBytes 8 l.2.2.1 ++ leBytes 8 l.2.2.2 ++ leBytes 32 nonce.toNat ++
  s.glove.setDigest ++ ((List.range 4).map s.measure).flatten ++ s.glove.image ++ s.glove.degraded ++ s.identityBytes ++
  leBytes 2 (fld (s.reg Reg.GLV_TAMPER) 15 0) ++ List.replicate 6 0

/-- QUOTE_SIGNED: the quote at the head of the queue is signed and sent, 17,424 bytes in 13 parts (R293, R437). One accepted before the seed was
zeroised or a self-test failed is not signed: it is answered NOT_PERMITTED (R438). -/
def execQuoteSigned (s : State) : Host.Outcome State Fault Refusal :=
  match s.glove.quotes with
  | [] => .next s
  | (r, nonce) :: rest =>
    let s := ({ s with glove := { s.glove with quotes := rest } } : State).setRegFld Reg.GLV_STATUS 23 21 rest.length
    if fld (s.reg Reg.GLV_STATUS) 30 29 ≠ 0 then .next ((s.orReg Reg.GLV_EVENTS 1).replyLater r 0x0080 8 [])
    else
      let b := s.quoteBody nonce
      .next (s.replyLater r 0x0080 0 (b ++ (Config.slhSign b ++ List.replicate 17088 0).take 17088))

end Sys2Proof.Machine
end

