-- ==== Sys2Proof/Machine/Hearth.lean ====
section
/-! DEFINITION. The commands of the Hearth (chapter 06): windows, blocks, reserves, landings through the gateways, memory requests, pilot frames
and lane failures. -/

namespace Sys2Proof.Machine

/-- A block received after the errors of its lane: the block its decoder delivers with the number of symbols corrected, or none
(R163). A pattern beyond two symbols may decode to another block. -/
def received (b : HBlock) (noise : List (Nat × Byte)) : Option (HBlock × Nat) :=
  let bs := xorBytes b.bytes noise
  match rsBlock bs with
  | none => none
  | some fix =>
    let good := xorBytes bs fix
    some (spelledBlock b (leNat (good.take 8)) ((good.drop 8).take 128), fix.length)

/-! ### Windows (R171) -/

/-- Word `w` of window `k` of a group: 0 its start, 1 its control word. -/
def State.windowWord (s : State) (p g k w : Nat) : Word := s.tblWord (tblKey 1 p 1 (2 * (fld (s.groupWord p g) 10 0 + k) + w))

/-- HEARTH_WINDOW_OPEN: the next window of a scheduled group opens, in a Hearth cycle not before its start, and sends what its queue holds of its stream
(R171); one that opens after its start is counted (R187). DESIGN CHOICE: a window not in use, or of no blocks, is passed over (log 127). -/
def execHearthWindowOpen (p : Fin 36) (g : Fin 38) (cycle : Nat) (s : State) : Host.Outcome State Fault Refusal :=
  let x := s.port p
  let q := x.group g
  let e := s.groupWord p g
  let w := s.windowWord p g q.window 1
  let start := (s.windowWord p g q.window 0).toNat
  if s.ticking && s.tick.isOpen && !s.tick.guard && !q.isOpen && flag e 31 && !(flag e 30) && decide (q.window < fld e 26 16 ∧ start ≤ cycle) then
    if flag w 31 && fld w 15 0 != 0 then
      let x := if start < cycle then x.count g 6 8 1 else x
      .next ((s.setPort p (x.setGroup g { q with isOpen := true, opened := cycle, stream := fld w 23 16, left := fld w 15 0 })).pump p g)
    else .next (s.setPort p (x.setGroup g { q with window := q.window + 1 }))
  else .next s

/-! ### Receiving (R163, R174 to R177, R185, R186) -/

/-- The reserve that a sender's blocks enter: the pair bundle's or the sender's own (R174). -/
def reserveFor (p src : Nat) : Nat := if ownPair p src then 36 else src

/-- The size of a reserve (R174). -/
def reserveSize (key : Nat) : Nat := if key = 36 then 2048 else 128

/-- A block into a reserve, with the peak occupancy of the congestion map (R187). -/
def State.reserveBlock (s : State) (p key : Nat) (b : HBlock) : State :=
  let x := s.port p
  let x := x.setReserve key (x.reserve key ++ [b])
  let n := (x.reserve key).length
  s.setPort p (if x.map.get 0 (8 * b.src + 3) < n then { x with map := x.map.set 0 (8 * b.src + 3) n } else x)

/-- Whether a header is out of range at a receiver while its parity holds (R161, R186 code 0x02). -/
def headerBad (p : Nat) (b : HBlock) : Bool :=
  match b.kind with
  | 0 => b.dst != p || decide (16 ≤ p) || decide (b.addr / 2 ^ 17 % 64 > 47) || b.addr / 2 ^ 13 % 16 != 0
  | 3 => b.dst != p || (decide (16 ≤ p) && !(decide (32 ≤ p ∧ 16 ≤ b.src ∧ b.src < 32))) || decide (b.addr / 2 ^ 17 % 64 > 47) || b.addr / 2 ^ 13 % 16 != 0
  | 1 => b.dst != p || !(decide (16 ≤ p ∧ p < 32)) || decide (b.addr * 128 ≥ 0xC00000000)
  | 2 => b.dst != p || !(decide (16 ≤ p ∧ p < 32) || (decide (34 ≤ p ∧ b.src < 16) && b.stream == 0xFF))
  | 4 => b.dst != b.src
  | _ => true

/-- A write or response on its way into a tile, through the gateway of R166 (R88, R174, R186 codes 0x0A and 0x0B): a poisoned block makes a poisoned packet,
one of another tick a packet of that tick. -/
def State.landBlock (s : State) (p : Nat) (b : HBlock) : State :=
  let s := if b.poison then s.hearthError p b.src 0x3FF 0 0x0A
    else if b.tick != s.seq % 16 then s.hearthError p b.src 0x3FF 0 0x0B else s
  s.toTile p (b.src == p + 16) (b.addr / 2 ^ 23 % 64) (b.addr / 2 ^ 17 % 64) (b.addr % 2 ^ 13 * 128) (s.blockTick b.tick) b.ctr b.last b.data b.poison

/-- A lane's uncorrectable block: counted, error 0x01, and the tick marked in the lane's run (R163, R185, R186). -/
def State.blockLost (s : State) (p src l : Nat) : State :=
  let s := s.setTbl (tblKey 1 p 5 l) (bumpFld (s.tblWord (tblKey 1 p 5 l)) 23 16 1)
  let x := (s.port p).count src 4 8 1
  (s.setPort p { x with laneNow := x.laneNow.set false l true }).hearthError p src l 0 0x01

/-- The third tick in a row with uncorrectable blocks fails the lane (R185). -/
def State.laneRunCheck (s : State) (p l : Nat) (before : Bool) : State :=
  if !before && (s.port p).laneRun.get 0 l = 2 then s.laneFail p l else s

/-- A decoded block delivered at a port (R174, R176, R177, R186). -/
def State.deliverBlock (s : State) (p l : Nat) (pos : Option Nat) (b : HBlock) : State :=
  if headerBad p b then s.hearthError p b.src l 0 0x02
  else match pos with
    | some j =>
      if b.kind ≠ 4 then s.hearthError p b.src l j 0x02
      else if !(flag (s.tblWord (tblKey 1 p 2 (2 * (256 * j + b.stream)))) 31) then s
      else if ((s.port p).reserve (40 + j)).length ≥ 64 then
        (s.setPort p ((s.port p).count b.src 5 8 1)).hearthError p b.src l j 0x03
      else s.reserveBlock p (40 + j) b
    | none =>
      let key := reserveFor p b.src
      if b.kind = 4 then s.hearthError p b.src l 0 0x02
      else if ((s.port p).reserve key).length ≥ reserveSize key then s.hearthError p b.src l 0 0x04
      else
        s.reserveBlock p key b

/-- The block that a command names: the `k`-th on the light, or an idle block (R164). -/
def State.lightBlock (s : State) (k : Nat) : HBlock := s.hearth.light.getD k idleBlock

/-- Whether a block on the light may reach a port by a lane now: it is still to reach it, comes by the lane that its sender's rotation gave it, and no earlier
block of its group is still to reach it (R165). An idle block may come at any time. -/
def State.mayReceive (s : State) (p k l : Nat) (src : Nat) (pos : Option Nat) : Bool :=
  match s.hearth.light[k]? with
  | none => true
  | some b => b.dests.contains p && b.src == src && (pos.isSome == (b.kind == 4)) && b.lane == (if pos.isSome then (l - 452) % 16 else l) &&
      !((s.hearth.light.take k).any (fun c => c.src == b.src && c.group == b.group && c.dests.contains p))

/-- The light after a block has reached a port. -/
def State.takeLight (s : State) (p k : Nat) : State :=
  match s.hearth.light[k]? with
  | none => s
  | some b =>
    let dests := b.dests.erase p
    { s with hearth := { s.hearth with
        light := if dests.isEmpty then s.hearth.light.eraseIdx k else s.hearth.light.set k { b with dests := dests } } }

/-- HEARTH_BLOCK_RECEIVE: block `k` on the light (an idle block where there is none) comes to port `p` by a lane, with the errors of the
lane; it is decoded, counted, and delivered or discarded (R163, R164). -/
def execHearthBlockReceive (p : Fin 36) (k : Nat) (lane : BitVec 10) (noise : List (Nat × Byte)) (s : State) :
    Host.Outcome State Fault Refusal :=
  let l := lane.toNat
  match s.laneSource p l with
  | none => .next s
  | some (src, pos) =>
    if !(s.mayReceive p k l src pos) then .next s
    else
      let b := s.lightBlock k
      let s := s.takeLight p k
      match received b noise with
      | none =>
        let before := (s.port p).laneNow.get false l
        .next ((s.blockLost p src l).laneRunCheck p l before)
      | some (c, n) =>
        let s := if n = 0 then s
          else (s.setTbl (tblKey 1 p 5 l) (bumpFld (s.tblWord (tblKey 1 p 5 l)) 15 0 n)).setPort p ((s.port p).count src 2 16 1)
        .next (if c.kind = 7 then s else s.deliverBlock p l pos c)

/-! ### Broadcast landings (R176) -/

/-- Where block `q` of a stream lands under a reception entry in spread mode: the tile by row and logical column, its number there, and whether it is the last
there (R176). -/
def spreadPlace (w0 w1 : Word) (q : Nat) : Option (Nat × Nat × Nat × Bool) :=
  let wide := fld w0 5 0 + 1 - fld w0 11 6
  let n := (fld w0 17 12 + 1 - fld w0 23 18) * wide
  let row := fld w0 23 18 + q % n / wide
  let col := fld w0 11 6 + q % n % wide
  if n = 0 ∨ row > 63 ∨ col > 47 then none else some (row, col, q / n, decide (q + n ≥ fld w1 31 16))

/-- The tile offset of block `i` under a reception entry, where it does not pass the end of tile SRAM (R176). -/
def landOffset (w1 : Word) (i : Nat) : Option Nat :=
  let off := (fld w1 12 0 + i) * 128
  if off + 128 > 0x100000 then none else some off

/-- A broadcast block on its way to its tiles as the reception entry states: one tile, a rectangle, a group, or one tile of a rectangle in turn (R166, R176);
none where the landing is out of range. -/
def State.landBroadcast (s : State) (p : Nat) (w0 w1 : Word) (b : HBlock) : Option State :=
  let t := s.blockTick b.tick
  let c := fld w0 27 24
  match fld w0 29 28 with
  | 0 => (landOffset w1 b.addr).bind (fun off =>
      if fld w0 17 12 > 47 then none else some (s.toTile p false (fld w0 23 18) (fld w0 17 12) off t c b.last b.data b.poison))
  | 1 => (landOffset w1 b.addr).bind (fun off =>
      if fld w0 5 0 > 47 ∨ fld w0 5 0 < fld w0 11 6 ∨ fld w0 17 12 < fld w0 23 18 then none
      else some (s.toRectangle p (fld w0 23 18) (fld w0 17 12) (fld w0 11 6) (fld w0 5 0) off t c b.last b.data b.poison))
  | 2 => (landOffset w1 b.addr).map (fun off => s.toGroup p (fld w0 3 0) off t c b.last b.data b.poison)
  | _ => (spreadPlace w0 w1 b.addr).bind (fun x => (landOffset w1 x.2.2.1).map (fun off =>
      s.toTile p false x.1 x.2.1 off t c x.2.2.2 b.data b.poison))

/-- BROADCAST_BLOCK_LANDING: the oldest block of a read position's reserve goes where its reception entry states: to the memory stack, or through its gateway
into the mesh, hop by hop with the events listed and the rest of its way by MESH_PACKET_ARRIVAL (R174, R176, R177). -/
def execBroadcastBlockLanding (p : Fin 36) (pos : Fin 4) (evs : List FlitEvent) (s : State) : Host.Outcome State Fault Refusal :=
  let x := s.port p
  match x.reserve (40 + pos) with
  | [] => .next s
  | b :: bs =>
    let s := s.setPort p (x.setReserve (40 + pos) bs)
    let w0 := s.tblWord (tblKey 1 p 2 (2 * (256 * pos.val + b.stream)))
    let w1 := s.tblWord (tblKey 1 p 2 (2 * (256 * pos.val + b.stream) + 1))
    let old := b.tick != s.seq % 16
    let err := fun (s : State) => if b.poison then s.hearthError p b.src 0x3FF pos 0x0A else if old then s.hearthError p b.src 0x3FF pos 0x0B else s
    if !(flag w0 31) then .next s
    else if flag w0 30 then
      let off := (fld w1 28 0 + b.addr) * 128
      if p.val < 16 ∨ 32 ≤ p.val ∨ off + 128 > 0xC00000000 then .next (s.hearthError p b.src 0x3FF pos 0x06)
      else if b.poison then .next (err s)
      else .next ((err s).memWrite (p.val - 16) off b.data ⟨b.src, false⟩).2
    else if 16 ≤ p.val then .next (s.hearthError p b.src 0x3FF pos 0x06)
    else
      match (err s).landBroadcast p w0 w1 b with
      | none => .next (s.hearthError p b.src 0x3FF pos 0x06)
      | some t => .next (t.travel s.flights.length evs)

/-! ### Memory over the Hearth (R168, R244) -/

/-- The reserve of a sender at a memory stack's port. -/
def stackReserve (m src : Nat) : Nat := reserveFor (16 + m) src

/-- The response blocks of a read request that its group's queue has room for, `n` left from number `i` on: each is read and queued with its own poison, the
last with last (R88, R168, R170). Answers the number reached. -/
def State.answerRead (s : State) (m src base ret stream ctr : Nat) : Nat → Nat → State × Nat
  | 0, i => (s, i)
  | n + 1, i =>
    let p := 16 + m
    if !(s.groupRoom p (groupFor p src)) then (s, i)
    else
      let (a, s) := s.memRead m (base + 128 * i) 128 ⟨src, false⟩
      let (data, bad) := match a with
        | .data d b => (d, b)
        | .refused _ => (List.replicate 128 0, true)
      let b : HBlock := { idleBlock with src := p, dst := src, kind := 3, poison := bad, stream := stream, ctr := ctr, last := n == 0,
                                         addr := blockAddr (ret + 128 * i), data := data }
      (s.queueBlock p (groupFor p src) b).answerRead m src base ret stream ctr n (i + 1)

/-- A read request with its first `i` blocks answered (R168). -/
def restOfRead (d : List Byte) (i : Nat) : List Byte :=
  leBytes 8 (leNat (d.take 8) + 128 * i) ++ leBytes 8 (leNat ((d.drop 8).take 8) + 128 * i) ++ leBytes 4 (leNat ((d.drop 16).take 4) - 128 * i) ++ d.drop 20

/-- READ_REQUEST: the oldest block of a sender at a memory port, a read request, is executed; its answer goes into the requester's group
(R168). One of stream 0xFF is a remote operation or a flush (R273, R275). DESIGN CHOICE: where the group's queue fills first, the rest of the request stays at
the head of its reserve. -/
def execReadRequest (stack : Fin 16) (src : Fin 36) (s : State) : Host.Outcome State Fault Refusal :=
  let p := 16 + stack.val
  let key := stackReserve stack src
  match (s.port p).reserve key with
  | [] => .next s
  | b :: bs =>
    if b.kind ≠ 2 then .next s
    else if b.stream = 0xFF then .next ((s.setPort p ((s.port p).setReserve key bs)).serveRemote stack b.src (leNat b.data))
    else
      let d := b.data
      let n := leNat ((d.drop 16).take 4) / 128
      let (s, i) := s.answerRead stack b.src (leNat (d.take 8) % 2 ^ 36) (leNat ((d.drop 8).take 8) % 2 ^ 48) ((d.getD 20 0).toNat)
        ((d.getD 21 0).toNat % 16) n 0
      let rest := if i = n then bs else { b with data := restOfRead d i } :: bs
      .next (s.setPort p ((s.port p).setReserve key rest)).settle

/-- A scheduled cell written, counted at its receive entry in its own tick (R270, R271). -/
def State.cellWritten (s : State) (b : HBlock) : State :=
  if b.mark = 0 ∨ b.tick ≠ s.seq % 16 then s
  else
    let x := s.fport ((b.mark - 1) / 512)
    let k := (b.mark - 1) % 512
    s.setFport ((b.mark - 1) / 512) { x with written := x.written.set 0 k (x.written.get 0 k + 1) }

/-- MEMORY_WRITE: the oldest block of a sender at a memory port, a write, is executed (R244). -/
def execMemoryWrite (stack : Fin 16) (src : Fin 36) (s : State) : Host.Outcome State Fault Refusal :=
  let p := 16 + stack.val
  let key := stackReserve stack src
  match (s.port p).reserve key with
  | [] => .next s
  | b :: bs =>
    if b.kind ≠ 1 then .next s
    else
      let s := s.setPort p ((s.port p).setReserve key bs)
      if b.poison then .next (s.hearthError p b.src 0x3FF 0 0x0A)
      else
        let s := if b.tick != s.seq % 16 then s.hearthError p b.src 0x3FF 0 0x0B else s
        match s.memWrite stack (b.addr * 128) b.data ⟨b.src, false⟩ with
        | (none, s) => .next (s.cellWritten b)
        | (some _, s) => .next s

/-- READ_RESPONSE_LANDING: the oldest block of a sender's reserve at a compute port, a response or a tile write, leaves through its gateway into the mesh, hop
by hop with the events listed and the rest of its way by MESH_PACKET_ARRIVAL (R88, R166, R168, R174). At an I/O port it brings a cell of a scheduled window
(R269), or a remote response on its way to its module (R274); one of stream 0xFF at a compute port waits for its remote unit (R273). -/
def execReadResponseLanding (p : Fin 36) (src : Fin 36) (evs : List FlitEvent) (s : State) : Host.Outcome State Fault Refusal :=
  let key := reserveFor p src
  match (s.port p).reserve key with
  | [] => .next s
  | b :: bs =>
    let t := s.setPort p ((s.port p).setReserve key bs)
    if p.val < 16 then (if b.stream = 0xFF then .next s else .next ((t.landBlock p b).travel s.flights.length evs))
    else if p.val < 32 ∨ b.kind ≠ 3 then .next s
    else if b.stream = 0xFF then .next (t.sendResponse p (descOf (leNat b.data)) none)
    else .next (t.takeRead p b)

/-! ### Flow control (R174) -/

/-- The off and on levels of a reserve. -/
def State.levels (s : State) (key : Nat) : Nat × Nat :=
  if key = 36 then (fld (s.reg Reg.HRT_PAIR_FC_LEVEL) 27 16, fld (s.reg Reg.HRT_PAIR_FC_LEVEL) 11 0)
  else (fld (s.reg Reg.HRT_FC_LEVEL) 15 8, fld (s.reg Reg.HRT_FC_LEVEL) 7 0)

/-- RESERVE_OFF: a reserve at its off level sends an off frame that names the sender's group. -/
def execReserveOff (p : Fin 36) (src : Fin 36) (s : State) : Host.Outcome State Fault Refusal :=
  let key := reserveFor p src
  let x := s.port p
  if (x.reserve key).length ≥ (s.levels key).1 ∧ x.offSent.get false key = false then
    .next ((s.setPort p { x with offSent := x.offSent.set false key true }).sendFrame 3 src p (groupFor src p * 2 ^ 26))
  else .next s

/-- RESERVE_ON: a reserve at or below its on level after an off frame sends an on frame. -/
def execReserveOn (p : Fin 36) (src : Fin 36) (s : State) : Host.Outcome State Fault Refusal :=
  let key := reserveFor p src
  let x := s.port p
  if (x.reserve key).length ≤ (s.levels key).2 ∧ x.offSent.get false key = true then
    .next ((s.setPort p { x with offSent := x.offSent.set false key false }).sendFrame 4 src p (groupFor src p * 2 ^ 26))
  else .next s

/-! ### Pilot frames (R179 to R183, R186) -/

/-- A good frame on pilot lane A (0) or B (1) of a port: its run of losses ends; one taken from its second copy is counted (R180, R183, R187). -/
def State.pilotGood (s : State) (p lane : Nat) (second : Bool) : State :=
  let x := s.port p
  let x := { x with lostRun := x.lostRun.set 0 lane 0 }
  if second then (s.setPort p (x.count p 7 8 1)).bumpReg Reg.HRT_PILOT_COUNT 31 16 else s.setPort p x

/-- The frame that two copies bring, where it is good, of a type, and for this receiver: a port's own or every port's on lane A, the relay's or a port's on
lane B (R179, R180). -/
def pilotFrameOf (p : Nat) (laneB : Bool) (type : Nat) (x : PilotCopies) : Option (BitVec 128 × Bool) :=
  match readPilot x.first x.second with
  | .good f second =>
    if frameFld f 127 120 = 0x5A ∧ frameFld f 119 116 = type ∧ (if laneB then frameFld f 103 96 = p else frameFld f 111 104 = p ∨ frameFld f 111 104 = 0xFF)
    then some (f, second) else none
  | _ => none

/-- What a good frame of a type does at a port, besides being received. -/
def State.pilot (s : State) (p : Nat) (laneB : Bool) (type : Nat) (x : PilotCopies) (act : State → BitVec 128 → State) : State :=
  match pilotFrameOf p laneB type x with
  | some (f, second) => act (s.pilotGood p (if laneB then 1 else 0) second) f
  | none => s

/-- The receiver that a group's off and on frames come from, with its reserve of this sender. -/
def groupReceiver (p g : Nat) : Nat × Nat := if g = 36 then (if p < 16 then p + 16 else p - 16, 36) else (g, reserveFor g p)

/-- Whether an off or on frame at a port is one that its group's receiver has sent. -/
def State.frameFrom (s : State) (p : Nat) (f : BitVec 128) (off : Bool) : Bool :=
  let g := frameFld f 95 90
  let (q, key) := groupReceiver p g
  decide (g < 37 ∧ g ≠ p ∧ frameFld f 103 96 = q) && (s.port q).offSent.get false key == off

/-- OFF: a good off frame stops the group it names from the Hearth cycle of its end (R174). -/
def execOffFrame (p : Fin 36) (x : PilotCopies) (cycle : Nat) (s : State) : Host.Outcome State Fault Refusal :=
  .next (s.pilot p false 3 x (fun s f =>
    let g := frameFld f 95 90
    let q := (s.port p).group g
    if s.frameFrom p f true ∧ q.off = false then s.setPort p ((s.port p).setGroup g { q with off := true, offFrom := cycle }) else s))

/-- ON: a good on frame lets the group go on; the Hearth cycles of its hold in this tick add to tx_off (R174, R187). -/
def execOnFrame (p : Fin 36) (x : PilotCopies) (cycle : Nat) (s : State) : Host.Outcome State Fault Refusal :=
  .next (s.pilot p false 4 x (fun s f =>
    let g := frameFld f 95 90
    let q := (s.port p).group g
    if s.frameFrom p f false ∧ q.off then
      (s.setPort p (((s.port p).setGroup g { q with off := false, offFrom := 0 }).count g 1 32 (cycle - q.offFrom))).pump p g
    else s))

/-- PILOT_TICK_BEACON: the end of the frame is the port's beacon (R181); what the beacon does everywhere is TICK_BEACON's. -/
def execPilotTickBeacon (p : Fin 36) (x : PilotCopies) (s : State) : Host.Outcome State Fault Refusal := .next (s.pilot p false 1 x (fun s _ => s))

/-- PILOT_GUARD_START: the end of the frame is the port's guard-start event (R181). -/
def execPilotGuardStart (p : Fin 36) (x : PilotCopies) (s : State) : Host.Outcome State Fault Refusal := .next (s.pilot p false 2 x (fun s _ => s))

/-- FIRMWARE_WORD: a control word between controllers arrives by a port's lane A or B (R179); what the firmware makes of it is the commands that follow. -/
def execFirmwareWord (p : Fin 36) (laneB : Bool) (x : PilotCopies) (s : State) : Host.Outcome State Fault Refusal :=
  .next (s.pilot p laneB 5 x (fun s _ => s))

/-- LANE_SET: an end of a lane takes its new state, with the other end (R165, R179). -/
def execLaneSet (p : Fin 36) (x : PilotCopies) (s : State) : Host.Outcome State Fault Refusal :=
  .next (s.pilot p false 6 x (fun s f =>
    let v := BitVec.ofNat 32 (frameFld f 95 64)
    let m : LaneMove := { why := 1, cls := fld v 31 30, flue := fld v 29 26, src := fld v 25 20, dst := fld v 19 14, lane := fld v 13 7, back := false }
    if frameFld f 103 96 = 0x40 then s.setLanes (fld v 6 1) (s.movedLanes m) else s))

/-- ERROR_REPORT: an error report that a port has sent reaches Stoker by its lane B (R186). -/
def execErrorReport (p : Fin 36) (x : PilotCopies) (s : State) : Host.Outcome State Fault Refusal :=
  .next (s.pilot p true 7 x (fun s f =>
    { s with hearth := { s.hearth with reports := s.hearth.reports.erase (p.val, frameFld f 95 64) } }))

/-- PILOT_FRAME_LOST: both copies fail their CRC: counted, error 0x07; three in a row on a lane are a Hearth-plane loss (R180, R183). -/
def execPilotFrameLost (p : Fin 36) (laneB : Bool) (x : PilotCopies) (s : State) : Host.Outcome State Fault Refusal :=
  if readPilot x.first x.second ≠ .lost then .next s
  else
    let q := s.port p
    let i := if laneB then 1 else 0
    let n := q.lostRun.get 0 i + 1
    let s := ((s.setPort p { q with lostRun := q.lostRun.set 0 i n }).bumpReg Reg.HRT_PILOT_COUNT 15 0).hearthError p 0 (516 + i) 0 0x07
    .next (if n ≥ 3 then s.planeLoss else s)

/-- PILOT_COMPLEMENT_MISMATCH: a good CRC over a value that its nvalue does not complement: error 0x08, a critical-state error and so a reset source (R180,
R411). -/
def execPilotComplementMismatch (p : Fin 36) (laneB : Bool) (x : PilotCopies) (s : State) : Host.Outcome State Fault Refusal :=
  if readPilot x.first x.second = .mismatch then .next ((s.hearthError p 0 (if laneB then 517 else 516) 0 0x08).criticalError 1) else .next s

/-! ### Lanes (R183 to R185) -/

/-- LANE_FAIL: a lane that has lost lock fails (R185). -/
def execLaneFail (p : Fin 36) (lane : BitVec 10) (s : State) : Host.Outcome State Fault Refusal := .next (s.laneFail p lane.toNat)

end Sys2Proof.Machine
end

