-- ==== Sys2Proof/Machine/HearthInstr.lean ====
section
/-! DEFINITION. Hearth, class 0x6 (R86 to R89, R118, R239): sends to other ports, reads of memory stacks and contributions to
ember-sum. -/

namespace Sys2Proof.Machine

/-- Whether a length is a multiple of 128 from 128 to 65,536 (R87). -/
def hearthLength (n : Nat) : Bool := decide (128 ≤ n ∧ n ≤ 65536 ∧ n % 128 = 0)

/-- Whether a range names memory-stack storage: region 0x1, zero in [39:36], ending by offset 0xB_FFFF_FFFF (R87, R239). -/
def stackRange (mpa len : Nat) : Bool :=
  mpa / 2 ^ 44 == 1 && mpa / 2 ^ 36 % 16 == 0 && decide (mpa % 2 ^ 36 + len ≤ 0xC00000000)

/-- Whether a range names tile SRAM of another compute die (R87, R239, R344): plain view, column to 47, within 1 MiB; logical bay 15
of a degraded image is no die. -/
def State.remoteTile (s : State) (k mpa len : Nat) : Bool :=
  mpa / 2 ^ 44 == 0 && mpa / 2 ^ 40 % 16 != s.dieBay (keyDie k) && decide (mpa / 2 ^ 28 % 64 ≤ 47) && mpa / 2 ^ 20 % 256 == 0 &&
    decide (mpa % 2 ^ 20 + len ≤ 2 ^ 20) && !(flag (s.reg Reg.TCK_STATUS) 24 && mpa / 2 ^ 40 % 16 == 15)

/-- HSEND: b bytes from local address a to the address in d (R86, R87). -/
def execHsend (u : Issue) (f : Fields) (s : State) : Answer :=
  .next (s.issue u f 0x6 0x00 (fun q =>
    let mpa := (q.x.rs q.f.dest.toNat).toNat
    let ea := (q.x.rs q.f.srca.toNat).toNat
    let len := (q.x.rs q.f.srcb.toNat).toNat
    if !(hearthLength len) || (mpa / 2 ^ 44 == 1 && q.f.bits 3 0 != 0) then .fault 0x01 0
    else match q.range ea len with
      | none => .fault 0x04 (ea % 2 ^ 20)
      | some off =>
        if !(stackRange mpa len || q.s.remoteTile q.k mpa len) then .fault 0x04 0
        else if ea % 128 ≠ 0 then .fault 0x03 (ea % 2 ^ 20)
        else if mpa % 128 ≠ 0 then .fault 0x03 0
        else q.enqueue (q.desc (.hsend mpa (q.f.bits 15 8) (q.f.bits 3 0)) off 0 len)))

/-- HBCAST: b bytes from local address a on the port's own broadcast flue (R86, R87). -/
def execHbcast (u : Issue) (f : Fields) (s : State) : Answer :=
  .next (s.issue u f 0x6 0x01 (fun q =>
    let ea := (q.x.rs q.f.srca.toNat).toNat
    let len := (q.x.rs q.f.srcb.toNat).toNat
    if !(hearthLength len) then .fault 0x01 0
    else match q.range ea len with
      | none => .fault 0x04 (ea % 2 ^ 20)
      | some off =>
        if ea % 128 ≠ 0 then .fault 0x03 (ea % 2 ^ 20)
        else q.enqueue (q.desc (.hbcast (q.f.bits 15 8)) off 0 len)))

/-- HGET: b bytes from the memory-stack address in a into local address d (R86 to R88). -/
def execHget (u : Issue) (f : Fields) (s : State) : Answer :=
  .next (s.issue u f 0x6 0x02 (fun q =>
    let ea := (q.x.rs q.f.dest.toNat).toNat
    let mpa := (q.x.rs q.f.srca.toNat).toNat
    let len := (q.x.rs q.f.srcb.toNat).toNat
    if !(hearthLength len) then .fault 0x01 0
    else match q.range ea len with
      | none => .fault 0x04 (ea % 2 ^ 20)
      | some off =>
        if !(stackRange mpa len) then .fault 0x04 0
        else if ea % 128 ≠ 0 then .fault 0x03 (ea % 2 ^ 20)
        else if mpa % 128 ≠ 0 then .fault 0x03 0
        else q.enqueue (q.desc (.hget mpa (q.f.bits 15 8) (q.f.bits 3 0)) 0 off len)))

/-- ESEND: contributes d values from local address a to sum group imm[3:0], scaled by exponent b (R89); the router port reads and codes them as it injects
(R80, R196). -/
def execEsend (u : Issue) (f : Fields) (s : State) : Answer :=
  .next (s.issue u f 0x6 0x08 (fun q =>
    let count := (q.x.rs q.f.dest.toNat).toNat
    let ea := (q.x.rs q.f.srca.toNat).toNat
    let b := (q.x.rs q.f.srcb.toNat).toInt
    if count < 1 ∨ count > 16384 then .fault 0x01 0
    else match q.range ea (4 * count) with
      | none => .fault 0x04 (ea % 2 ^ 20)
      | some off =>
        if ea % 64 ≠ 0 then .fault 0x03 (ea % 2 ^ 20)
        else q.enqueue (q.desc (.esend (q.f.bits 3 0) (q.f.bits 15 8) b (flag q.f.imm 16)) off 0 (4 * count))))

/-- HQUIET: waits as MQUIET, for Hearth sends only (R86). -/
def execHquiet (u : Issue) (f : Fields) (s : State) : Answer :=
  .next (s.issue u f 0x6 0x0B (fun q =>
    if (q.t.queue q.n).any SendDesc.isHearth then q.waits .data .hearth else .done q.s q.t q.x none))

end Sys2Proof.Machine
end

