-- ==== Sys2Proof/Machine/Host.lean ====
section
/-! DEFINITION. Commands of the host ports (chapter 11): MHP requests and datagrams, the ends of what they start, and the frames that the I/O die
answers itself. -/

namespace Sys2Proof.Machine

/-! ### MHP requests (R294 to R305) -/

/-- MHP_DATAGRAM: a UDP datagram at the MHP port; a malformed one is dropped and counted, a one-part request is judged and executed, anything
else is ignored (R291 to R293). -/
def execMhpDatagram (port : Fin 2) (h : FrameHead) (c : Carried) (addr : Nat) (udp : BitVec 16) (bytes : List Byte)
    (peer : List (List Byte × List Byte)) (s : State) : Host.Outcome State Fault Refusal :=
  .next (s.onTraffic port h c .mhp (fun s =>
    match readDatagram bytes with
    | none => s.bumpReg (Reg.HST_DROPS port) 31 16
    | some m =>
      if m.type = 0 ∧ m.part = 0 ∧ m.parts = 1 then
        s.mhp { port := port, addr := addr, udp := udp, session := BitVec.ofNat 16 m.session, seq := BitVec.ofNat 32 m.seq } m.code m.payload peer
      else s))

/-- HELLO: a session is opened (R294, R295). -/
def execHello (r : MhpReq) (majors : BitVec 16) (minor1 : Byte) (role : Byte) (take : Bool) (s : State) : Host.Outcome State Fault Refusal :=
  .next (s.mhp r 0x0001 (leBytes 2 majors.toNat ++ [0, minor1] ++ List.replicate 14 0 ++ [role, if take then 1 else 0]) [])

/-- BYE: the session is closed (R296). -/
def execBye (r : MhpReq) (s : State) : Host.Outcome State Fault Refusal := .next (s.mhp r 0x0002 [] [])

/-- KEEPALIVE (R298). -/
def execKeepalive (r : MhpReq) (s : State) : Host.Outcome State Fault Refusal := .next (s.mhp r 0x0003 [] [])

/-- GET_STATUS (R298). -/
def execGetStatus (r : MhpReq) (s : State) : Host.Outcome State Fault Refusal := .next (s.mhp r 0x0010 [] [])

/-- REG_READ: words of the control space (R299). -/
def execRegRead (r : MhpReq) (addr : BitVec 64) (count : Word) (s : State) : Host.Outcome State Fault Refusal :=
  .next (s.mhp r 0x0011 (leBytes 8 addr.toNat ++ leBytes 4 count.toNat) [])

/-- REG_WRITE: words of the control space (R299). -/
def execRegWrite (r : MhpReq) (addr : BitVec 64) (words : List Word) (s : State) : Host.Outcome State Fault Refusal :=
  .next (s.mhp r 0x0012 (leBytes 8 addr.toNat ++ leBytes 4 words.length ++ (words.map (fun w => leBytes 4 w.toNat)).flatten) [])

/-- LOAD_JOB: the images of the staging range are taken for loading; LOAD_JOB_END answers it (R304). -/
def execLoadJob (r : MhpReq) (normalLen : DWord) (degOff : DWord) (degLen : DWord) (s : State) : Host.Outcome State Fault Refusal :=
  .next (s.mhp r 0x0020 (leBytes 8 normalLen.toNat ++ leBytes 8 degOff.toNat ++ leBytes 8 degLen.toNat) [])

/-- UNLOAD_JOB: to Ready (R298). -/
def execUnloadJob (r : MhpReq) (s : State) : Host.Outcome State Fault Refusal := .next (s.mhp r 0x0021 [] [])

/-- START_JOB: Running begins at the next tick beacon; `peer` is what the peer's checkpoint store answers where TCK_CKPT_CTRL names it, as the
header and data of slot k of stack m at 2m + k (R305, R355). -/
def execStartJob (r : MhpReq) (first : DWord) (restore : Bool) (peer : List (List Byte × List Byte)) (s : State) : Host.Outcome State Fault Refusal :=
  .next (s.mhp r 0x0022 (leBytes 8 first.toNat ++ [if restore then 1 else 0]) peer)

/-- STOP_JOB: to Draining, and answered there (R298). -/
def execStopJob (r : MhpReq) (s : State) : Host.Outcome State Fault Refusal := .next (s.mhp r 0x0023 [] [])

/-- TEARDOWN: the job is torn down (R300, R349). -/
def execTeardown (r : MhpReq) (s : State) : Host.Outcome State Fault Refusal := .next (s.mhp r 0x0024 [] [])

/-- BANK: the entry to Banked begins; BANK_ENTRY_END ends it (R406). -/
def execBank (r : MhpReq) (s : State) : Host.Outcome State Fault Refusal := .next (s.mhp r 0x0030 [] [])

/-- WAKE: a wake event; WAKE_COMPLETE follows 1.5 ms later (R407). -/
def execWake (r : MhpReq) (s : State) : Host.Outcome State Fault Refusal := .next (s.mhp r 0x0031 [] [])

/-- RESET: a reset is asked for; it acts 1 ms after the response, by COLD_RESET, WARM_RESET, DIE_RESET or JOB_RESET (R298, R415). -/
def execReset (r : MhpReq) (scope : Byte) (unit : Byte) (s : State) : Host.Outcome State Fault Refusal := .next (s.mhp r 0x0040 [scope, unit] [])

/-- CONFIG_REVERT: the other set is to be pinned in a Cold reset that follows the response (R426). -/
def execConfigRevert (r : MhpReq) (s : State) : Host.Outcome State Fault Refusal := .next (s.mhp r 0x0041 [] [])

/-- MBX_SEND: words and doorbell into a channel (R329). -/
def execMbxSend (r : MhpReq) (chan : Byte) (words : List Word) (s : State) : Host.Outcome State Fault Refusal :=
  .next (s.mhp r 0x0050 ([chan, 0, 0, 0] ++ (words.map (fun w => leBytes 4 w.toNat)).flatten) [])

/-- MBX_RECV: the head outbound message of a channel (R330). -/
def execMbxRecv (r : MhpReq) (chan : Byte) (s : State) : Host.Outcome State Fault Refusal := .next (s.mhp r 0x0051 [chan] [])

/-- OPEN_QP: a RoCEv2 queue pair (R307, R353). -/
def execOpenQp (r : MhpReq) (remoteQpn : Word) (remotePsn : Word) (mtu : Word) (gid : BitVec 128) (kind : Byte) (s : State) :
    Host.Outcome State Fault Refusal :=
  .next (s.mhp r 0x0060 (leBytes 4 remoteQpn.toNat ++ leBytes 4 remotePsn.toNat ++ leBytes 4 mtu.toNat ++ leBytes 16 gid.toNat ++ [kind]) [])

/-- CLOSE_QP (R298). -/
def execCloseQp (r : MhpReq) (qpn : Word) (s : State) : Host.Outcome State Fault Refusal := .next (s.mhp r 0x0061 (leBytes 4 qpn.toNat) [])

/-- SUBSCRIBE: the events a session takes (R302). -/
def execSubscribe (r : MhpReq) (mask : Word) (s : State) : Host.Outcome State Fault Refusal := .next (s.mhp r 0x0070 (leBytes 4 mask.toNat) [])

/-- GET_QUOTE: a quote is queued; QUOTE_SIGNED answers it (R437). -/
def execGetQuote (r : MhpReq) (nonce : BitVec 256) (s : State) : Host.Outcome State Fault Refusal :=
  .next (s.mhp r 0x0080 (leBytes 32 nonce.toNat) [])

/-- SESSION_IDLE_TIMEOUT: 10 s without a request of the session in a slot: it is closed (R296). -/
def execSessionIdleTimeout (slot : Fin 16) (s : State) : Host.Outcome State Fault Refusal := .next (s.closeSession slot)

/-! ### What requests start -/

/-- Why images are refused: the image at fault, reason and section (R230, R232, R347). -/
def State.loadRefused (s : State) (g d : Image) : Option (Nat × Nat × Nat) :=
  match s.imageCheck g false with
  | some (a, b) => some (0, a, b)
  | none =>
    match (if d.base = 0 then none else s.imageCheck d true) with
    | some (a, b) => some (1, a, b)
    | none => if s.fencedDies.isEmpty || (s.fencedDies.length == 1 && d.base != 0) then none else some (1, 3, 0)

/-- Accepted images: measured, made resident, the normal one applied, or the degraded one where a die is fenced (R233, R347, R436). -/
def State.acceptImages (s : State) (g d : Image) : State :=
  let zero := GloveState.reset.degraded
  let h := sha256 (s.stage g.base g.len)
  let k := if d.base = 0 then zero else sha256 (s.stage d.base d.len)
  let s := { s with
    job := { s.job with len := g.len, degOff := d.base, degLen := (if d.base = 0 then 0 else d.len) }
    glove := { s.glove with image := h, degraded := k } }
  let s := ((s.extend 2 h).extend 2 k).setRegFld Reg.GLV_STATUS 27 26 (if s.activeRoot.isSome then 2 else 1)
  let s := s.setRegFld Reg.TCK_IMAGE_STATUS 31 30 (if d.base = 0 then 2 else 3)
  match s.fencedDies with
  | f :: _ => s.applyDegraded f
  | [] => s.applyImage g

/-- LOAD_JOB_END: the checks and the application of LOAD_JOB end: OK and Loaded, or IMAGE_REFUSED in Ready (R230 to R233, R304). -/
def execLoadJobEnd (s : State) : Host.Outcome State Fault Refusal :=
  match s.job.loading with
  | none => .next s
  | some (r, n, o, l) =>
    let s := { s with job := { s.job with loading := none } }
    if s.mode != .ready then .next s
    else
      let g : Image := { base := 0, len := n }
      let d : Image := { base := o, len := l }
      match s.loadRefused g d with
      | some (i, reason, sec) =>
        let s := s.setReg Reg.TCK_IMAGE_STATUS (BitVec.ofNat 32 (reason * 256 + sec))
        let s := if reason = 1 then s.orReg Reg.GLV_EVENTS 4 else s
        .next (s.replyLater r 0x0020 7 [BitVec.ofNat 8 i, BitVec.ofNat 8 reason, BitVec.ofNat 8 sec])
      | none => .next (((s.acceptImages g d).go .loaded 0).replyLater r 0x0020 0 [])

/-- WAKE_COMPLETE: 1.5 ms after a wake event in Banked: domains on, stacks out of self-refresh, and the state Banked was entered from (R21, R407). -/
def execWakeComplete (s : State) : Host.Outcome State Fault Refusal :=
  match s.mode, s.boot.bankedFrom, s.boot.waking with
  | .banked, some m, true =>
    let s := (s.setDies 1 1 (List.range 16)).setStackStates 2 (List.range 16)
    let s := if m == .loaded then s.settleBays (List.range 16) else s
    .next (({ s with boot := { s.boot with bankedFrom := none, waking := false } } : State).go m 4)
  | _, _, _ => .next s

/-! ### Frames that the I/O die handles itself (R290, R291, R293) -/

/-- ARP_REQUEST: ARP, neighbour discovery or an echo request for an address of the port is answered by its I/O die; one for another address is no traffic of
the port, and is dropped and counted (R290, R291). -/
def execArpRequest (port : Fin 2) (h : FrameHead) (v6 : Bool) (echo : Bool) (addr : Nat) (body : List Byte) (s : State) : Host.Outcome State Fault Refusal :=
  if !(s.portUp port && s.accepts port h) then .next s
  else if s.ownAddress port v6 addr then
    .next (s.send (.frame port (if echo then 2 else if v6 then 1 else 0) (if echo then body else macBytes port) (s.frameTag port)))
  else .next (s.bumpReg (Reg.HST_DROPS port) 15 0)

/-- FRAME_DROP: an accepted frame that no row of R291 takes, an IP fragment, or a RoCEv2 packet whose ICRC fails is dropped and counted (R290, R291,
R306). -/
def execFrameDrop (port : Fin 2) (h : FrameHead) (c : Carried) (icrcBad : Bool) (s : State) : Host.Outcome State Fault Refusal :=
  .next (s.onTraffic port h c .roce (fun t => if icrcBad then t.bumpReg (Reg.HST_DROPS port) 15 0 else t))

end Sys2Proof.Machine
end

