-- ==== Sys2Proof/Machine/Mailbox.lean ====
section
/-! DEFINITION. Commands of the mailbox block (chapter 12). -/

namespace Sys2Proof.Machine

/-- MBX_IN_WR: a word of an inbound message written; the first opens it (R321, R322). -/
def execMbxInWr (m : Byte) (c : Fin 32) (w : Word) (s : State) : Host.Outcome State Fault Refusal := .next (s.access m (Reg.MBX_IN_WR c) 4 w)

/-- MBX_IN_RD: the owner pops a word, oldest message first (R323). -/
def execMbxInRd (m : Byte) (c : Fin 32) (s : State) : Host.Outcome State Fault Refusal := .next (s.accessRead m (Reg.MBX_IN_RD c) 4)

/-- MBX_IN_BELL: the inbound doorbell: the open message is closed, the owner signalled, and woken (R322, R325, R326). -/
def execMbxInBell (m : Byte) (c : Fin 32) (w : Word) (s : State) : Host.Outcome State Fault Refusal := .next (s.access m (Reg.MBX_IN_BELL c) 4 w)

/-- MBX_OUT_WR: a word of an outbound message written by the owner (R321, R322). -/
def execMbxOutWr (m : Byte) (c : Fin 32) (w : Word) (s : State) : Host.Outcome State Fault Refusal := .next (s.access m (Reg.MBX_OUT_WR c) 4 w)

/-- MBX_OUT_RD: an admitted reader pops a word (R323). -/
def execMbxOutRd (m : Byte) (c : Fin 32) (s : State) : Host.Outcome State Fault Refusal := .next (s.accessRead m (Reg.MBX_OUT_RD c) 4)

/-- MBX_OUT_BELL: the outbound doorbell (R322, R325). -/
def execMbxOutBell (m : Byte) (c : Fin 32) (w : Word) (s : State) : Host.Outcome State Fault Refusal := .next (s.access m (Reg.MBX_OUT_BELL c) 4 w)

/-- MBX_ACK_WRITE: the reader answers a message (R324). -/
def execMbxAckWrite (m : Byte) (c : Fin 32) (out : Bool) (w : Word) (s : State) : Host.Outcome State Fault Refusal := .next (s.access m (if out then Reg.MBX_OUT_ACK c else Reg.MBX_IN_ACK c) 4 w)

/-- MBX_ACK_READ: the sender reads the answer; ack_new is cleared (R324). -/
def execMbxAckRead (m : Byte) (c : Fin 32) (out : Bool) (s : State) : Host.Outcome State Fault Refusal := .next (s.accessRead m (if out then Reg.MBX_OUT_ACK c else Reg.MBX_IN_ACK c) 4)

/-- MBX_VER_WRITE: an end offers its versions; hardware sets the agreed fields (R328). -/
def execMbxVerWrite (m : Byte) (c : Fin 32) (w : Word) (s : State) : Host.Outcome State Fault Refusal := .next (s.access m (Reg.MBX_VER c) 4 w)

/-- MAILBOX_MESSAGE_EXPIRY: a message has been open for 100 µs: it is discarded whole and counted (R322). -/
def execMailboxMessageExpiry (c : Fin 32) (out : Bool) (s : State) : Host.Outcome State Fault Refusal := .next (s.mbxExpire c out)

end Sys2Proof.Machine
end

