-- ==== Sys2Proof/Machine/Matrix.lean ====
section
/-! DEFINITION. Matrix, class 0x4 (R41 to R43, R74 to R77, R114 to R116): the outer products and the accumulator
instructions. -/

namespace Sys2Proof.Machine

/-! ### Outer products (R75, R76) -/

/-- The operand formats of a MOP: element width, row pitch in bits, k, array cycles (R41, R75). -/
structure MopFormat where
  w      : Nat
  pitch  : Nat
  k      : Nat
  cycles : Nat
  mx     : Bool
deriving DecidableEq, Repr

/-- Row `r` of an operand pair. -/
def mopRow (fm : MopFormat) (val : Nat → FV) (pair r : Nat) : List FV :=
  (List.range fm.k).map (fun kk => val (pair / 2 ^ (fm.pitch * r + fm.w * kk) % 2 ^ fm.w))

/-- The 1,024 bits of an operand pair. -/
def pairBits (x : Thread) (n : Nat) : Nat := (x.rv n).toNat + 2 ^ 512 * (x.rv (n + 1)).toNat

/-- The 256 elements of an accumulator after a MOP, row by row, with flags (R76, R114 to R116). -/
def mopAcc (fm : MopFormat) (va vb : Nat → FV) (old : Acc) (clr : Bool) (pa pb sv aq bq : Nat) : List (Word × Nat) :=
  (List.range 256).map (fun i =>
    let r := i / 16
    let c := i % 16
    let o := if clr then FV.fin false 0 0 else ofF32 (BitVec.ofNat 32 (old.toNat / 2 ^ (32 * i)))
    let as := mopRow fm va pa r
    let bs := mopRow fm vb pb c
    if fm.mx then mopMx o as bs (sv / 2 ^ (8 * (16 * aq + r)) % 256) (sv / 2 ^ (8 * (16 * bq + c)) % 256)
    else mopWide o as bs)

/-- A MOP (R76). -/
def mop (fn : Nat) (fm : MopFormat) (ea eb : Bool → Nat → FV) (u : Issue) (f : Fields) (s : State) : State :=
  s.issue u f 0x4 fn (fun q =>
    let a := q.f.dest.toNat
    let rs := mopAcc fm (ea (flag q.f.imm 9)) (eb (flag q.f.imm 10)) (q.t.acc.get 0 a) (flag q.f.imm 8)
      (pairBits q.x q.f.srca.toNat) (pairBits q.x q.f.srcb.toNat) (q.x.rv (q.f.bits 3 0)).toNat (q.f.bits 5 4) (q.f.bits 7 6)
    let fl := allFlags rs
    let t := if fl = 0 then q.t else q.t.setFlags 0 fl
    .done q.s { t.macPush a fm.cycles q.c with
                acc := t.acc.set 0 a (BitVec.ofNat 8192 (packNat 32 (rs.map (fun r => r.1.toNat)))),
                accBad := (if flag q.f.imm 8 then t.accBad.set false a false else t.accBad) } q.x none)

/-- BF16 operands (R41). -/
def mopFmtWide : MopFormat := ⟨16, 64, 4, 8, false⟩

/-- MOP.BF16 (R115). -/
def execMopBf16 (u : Issue) (f : Fields) (s : State) : Answer :=
  .next (mop 0x00 mopFmtWide (fun _ => bf16.decode) (fun _ => bf16.decode) u f s)
/-- MOP.FP16 (R115). -/
def execMopFp16 (u : Issue) (f : Fields) (s : State) : Answer :=
  .next (mop 0x01 mopFmtWide (fun _ => fp16.decode) (fun _ => fp16.decode) u f s)
/-- MOP.MXI8 (R114). -/
def execMopMxi8 (u : Issue) (f : Fields) (s : State) : Answer :=
  .next (mop 0x02 ⟨8, 64, 8, 8, true⟩ (fun _ => MxType.decode .int8) (fun _ => MxType.decode .int8) u f s)
/-- MOP.MXF8 (R114). -/
def execMopMxf8 (u : Issue) (f : Fields) (s : State) : Answer :=
  .next (mop 0x03 ⟨8, 64, 8, 8, true⟩ (fun e => (if e then MxType.e5m2 else MxType.e4m3).decode)
    (fun e => (if e then MxType.e5m2 else MxType.e4m3).decode) u f s)
/-- MOP.MXF6 (R114). -/
def execMopMxf6 (u : Issue) (f : Fields) (s : State) : Answer :=
  .next (mop 0x04 ⟨6, 48, 8, 4, true⟩ (fun e => (if e then MxType.e3m2 else MxType.e2m3).decode)
    (fun e => (if e then MxType.e3m2 else MxType.e2m3).decode) u f s)
/-- MOP.MXF4 (R114). -/
def execMopMxf4 (u : Issue) (f : Fields) (s : State) : Answer :=
  .next (mop 0x05 ⟨4, 64, 16, 8, true⟩ (fun _ => MxType.decode .e2m1) (fun _ => MxType.decode .e2m1) u f s)

/-- MOP_ARRAY_DONE: the executing MOP's last array cycle passes and its place is free (R42). -/
def execMopArrayDone (t : TileId) (s : State) : Answer :=
  match (s.tile t.key).mac with
  | [] => .next s
  | (_, l) :: rest => .next (s.setTile t.key { s.tile t.key with mac := rest, cycle := max (s.tile t.key).cycle (l + 1) })

/-! ### Accumulators and tile SRAM (R43, R77) -/

/-- The rows of a 1 KiB access at `ea`, resolved (R77). -/
def Ctx.accRows (q : Ctx) (ea : Nat) (store : Bool) : List Local :=
  (List.range 16).map (fun r => q.s.localAt q.k (ea + 64 * r) store)

/-- The fault of a 1 KiB access at issue: ADDR, CARRY_RO, MISALIGN in the order of R482. -/
def accFault (ls : List Local) (ea : Nat) : Option Nat :=
  if ls.any (fun l => l == .bad 0x04) || decide (ea % 2 ^ 20 + 1023 ≥ 2 ^ 20) then some 0x04
  else if ls.any (fun l => l == .bad 0x05) then some 0x05
  else if ea % 64 ≠ 0 then some 0x03
  else none

/-- AST's rows stored one after the other. -/
def Ctx.storeRows (q : Ctx) (a : Acc) (ea : Nat) : List Nat → State → Tile → State × Tile
  | [], s, t => (s, t)
  | r :: rs, s, t =>
    match q.store s t (ea + 64 * r) 64 (leBytes 64 (accRow a r).toNat) with
    | .inl _ => q.storeRows a ea rs s t
    | .inr (s', t') => q.storeRows a ea rs s' t'

/-- AST: the accumulator b to 1 KiB at EA, row r at EA + 64 r; the core port held 16 cycles (R43, R77). -/
def execAst (u : Issue) (f : Fields) (s : State) : Answer :=
  .next (s.issue u f 0x4 0x10 (fun q =>
      match accFault (q.accRows q.ea true) q.ea with
      | some code => .fault code (q.ea % 2 ^ 20)
      | none =>
        let r := q.storeRows (q.t.acc.get 0 q.f.srcb.toNat) q.ea (List.range 16) q.s q.t
        .done r.1 { r.2 with stored := q.c + 16 } q.x none))

/-- ALD: accumulator d from 1 KiB at EA, usable from cycle t + 22; an uncorrectable word raises ECC_SRAM and leaves the accumulator
unspecified, a free value (R77). -/
def execAld (u : Issue) (f : Fields) (s : State) : Answer :=
  .next (s.issue u f 0x4 0x11 (fun q =>
      let a := q.f.dest.toNat
      let ls := q.accRows q.ea false
      match accFault ls q.ea with
      | some code => .fault code (q.ea % 2 ^ 20)
      | none =>
        let offs := ls.map (fun l => match l with | .at_ o _ => o | .bad _ => 0)
        let ws := offs.flatMap (fun o => wordsOf o 64)
        match q.t.badWord ws with
        | some w => .crash q.s.drawn { q.t with acc := q.t.acc.set 0 a (Config.brokenAcc q.s.draws) } 0x10 (8 * w)
        | none =>
          let v := accOfRows (offs.map (fun o => ofBytes (q.t.bytes o 64)))
          let t := q.t.countFixes ws
          .done q.s { t with acc := t.acc.set 0 a v, accBad := t.accBad.set false a false,
                             accFrom := t.accFrom.set 0 a (q.c + 22) } q.x none))

/-- MZERO: accumulator d := 0; a MOP into it may issue in the next cycle, or when an earlier ALD of it lets it (R77). -/
def execMzero (u : Issue) (f : Fields) (s : State) : Answer :=
  .next (s.issue u f 0x4 0x12 (fun q =>
      let a := q.f.dest.toNat
      .done q.s { q.t with acc := q.t.acc.set 0 a 0, accBad := q.t.accBad.set false a false,
                           accFrom := q.t.accFrom.set 0 a (max (q.t.accFrom.get 0 a) (q.c + 1)) } q.x none))

/-- AGET: d := row imm[3:0] of accumulator a, latency 2 (R74). -/
def execAget (u : Issue) (f : Fields) (s : State) : Answer :=
  .next (s.issue u f 0x4 0x13 (fun q =>
      q.write (q.x.wv q.f.dest.toNat (accRow (q.t.acc.get 0 q.f.srca.toNat) (q.f.bits 3 0)) (q.c + 2))))

end Sys2Proof.Machine
end

