-- ==== Sys2Proof/Machine/Ptp.lean ====
section
/-! DEFINITION. The PTP clock of the module (R226, R227, R313): the master it follows, offset and path delay from its timestamps, the servo and its lock. -/

namespace Sys2Proof

/-- The dataset as the comparison looks at it. PRESUMED from IEEE 1588: the smaller in this order is the better. -/
def PtpDataset.rank (d : PtpDataset) : List Nat :=
  [d.priority1.toNat, d.class_.toNat, d.accuracy.toNat, d.variance.toNat, d.priority2.toNat, d.grand.toNat, d.steps.toNat]

namespace Machine

/-- The lock judged at the end of a Sync interval (R227): set after 16 offsets in a row below 500 ns, cleared after 16 above. DEDUCED: an offset of exactly
500 ns ends both runs. -/
def State.judgeLock (s : State) (offset : Nat) : State :=
  let p := s.host.ptp
  let b := if offset < 500 then min 16 (p.below + 1) else 0
  let a := if 500 < offset then min 16 (p.above + 1) else 0
  let s : State := { s with host := { s.host with ptp := { p with below := b, above := a } } }
  if b = 16 then s.setRegFld Reg.TCK_PTP_STATUS 31 31 1
  else if a = 16 && flag (s.reg Reg.TCK_PTP_STATUS) 31 then (s.setRegFld Reg.TCK_PTP_STATUS 31 31 0).orReg Reg.TCK_EVENTS 1
  else s

/-- A Sync interval ends with an offset from the master: above 1 ms the master counter steps where it may; else the servo trims its rate by at
most ±25 ppm, a free value within that bound, since no servo law is given (R226, R227). -/
def State.syncEnd (s : State) (offset : Int) : State :=
  let s := s.setReg Reg.TCK_PTP_OFFSET (intWord (clampInt (-2147483648) 2147483647 offset))
  let s := (s.setRegFld Reg.TCK_PTP_STATUS 15 0 0).judgeLock offset.natAbs
  if decide (offset.natAbs > 1000000) && !s.ticking then s.stepTime (-offset)
  else
    let ppb : Int := (s.free % 50001 : Nat) - (25000 : Int)
    let s := s.drawn
    ({ s with slew := s.slew.set 0 36 ppb } : State).setReg Reg.TCK_PTP_FREQ (intWord ppb)

/-- Whether one list of numbers comes before another, the first difference deciding. -/
def listBefore : List Nat → List Nat → Bool
  | x :: xs, y :: ys => decide (x < y) || (x == y && listBefore xs ys)
  | _, _ => false

/-- The Delay_Req of a number (R313). PRESUMED from IEEE 1588: its header, clock identity from the MAC address, port number 1, no origin timestamp. -/
def delayReq (i domain seq : Nat) : List Byte :=
  let mac := macBytes i
  [0x01, 0x12, 0, 44, BitVec.ofNat 8 domain] ++ List.replicate 15 0 ++ mac.take 3 ++ [0xFF, 0xFE] ++ mac.drop 3 ++ [0, 1] ++ (leBytes 2 seq).reverse ++
    [1, 0x7F] ++ List.replicate 10 0

/-- A Sync that awaits its Follow_Up: its arrival by the I/O die's module time counter, and a Delay_Req sent (R227, R313). DESIGN CHOICE: one with each
Sync. -/
def State.takeSync (s : State) (i : Nat) (h : PtpHead) : State :=
  let p := s.host.ptp
  let now := s.timeNs (32 + i)
  let s := s.send (.frame i 4 (delayReq i h.domain.toNat p.next.toNat) (s.frameTag i))
  { s with host := { s.host with ptp := { p with sync := some (h.seq, now), asked := some (p.next, now), next := p.next + 1, pair := none } } }

/-- A PTP message of the domain in use (R227, R313): Announce chooses the master; Sync, Follow_Up and Delay_Resp of the master give t1 to t4, and so the path
delay ((t2 − t1) + (t4 − t3)) ÷ 2 and the offset t2 − t1 − delay. -/
def State.ptp (s : State) (i : Nat) (h : PtpHead) (m : PtpMsg) : State :=
  let p := s.host.ptp
  let mine := p.master.any (fun x => x.1 == h.sender)
  match m with
  | .announce d =>
    let better := match p.master with
      | none => true
      | some x => x.1 == h.sender || listBefore d.rank x.2.rank
    if better then { s with host := { s.host with ptp := { p with master := some (h.sender, d) } } } else s
  | .sync twoStep => if mine && twoStep && decide (-7 ≤ h.interval ∧ h.interval ≤ 1) then s.takeSync i h else s
  | .followUp t1 =>
    match p.sync with
    | some (n, t2) =>
      if mine && h.seq == n then
        ({ s with host := { s.host with ptp := { p with sync := none, pair := some (t1, t2) } } } : State).syncEnd ((t2 : Int) - t1 - p.delay)
      else s
    | none => s
  | .delayResp t4 =>
    match p.asked, p.pair with
    | some (n, t3), some (t1, t2) =>
      if mine && h.seq == n then
        { s with host := { s.host with ptp := { p with asked := none, delay := (((t2 : Int) - t1) + ((t4 : Int) - t3)) / 2 } } }
      else s
    | _, _ => s
  | .ignored => s

/-- PTP_MESSAGE: a PTP message on a host port: taken where PTP runs on that port, and in its domain (R227, R291, R313). -/
def execPtpMessage (port : Fin 2) (h : FrameHead) (c : Carried) (p : PtpHead) (m : PtpMsg) (s : State) : Host.Outcome State Fault Refusal :=
  .next (s.onTraffic port h c .ptp (fun s =>
    let v := s.reg Reg.TCK_PTP_CTRL
    if flag v 31 && decide (fld v 30 30 = port.val) && decide (p.domain.toNat = fld v 23 16) then s.ptp port p m else s))

/-- SYNC_INTERVAL_MISSED: a Sync interval without a Sync: sixteen in a row clear the lock (R227). -/
def execSyncIntervalMissed (s : State) : Host.Outcome State Fault Refusal :=
  if !(flag (s.reg Reg.TCK_PTP_CTRL) 31) then .next s
  else
    let s := s.bumpReg Reg.TCK_PTP_STATUS 15 0
    let s : State := { s with host := { s.host with ptp := { s.host.ptp with below := 0, above := 0, sync := none } } }
    if fld (s.reg Reg.TCK_PTP_STATUS) 15 0 ≥ 16 && flag (s.reg Reg.TCK_PTP_STATUS) 31 then
      .next ((s.setRegFld Reg.TCK_PTP_STATUS 31 31 0).orReg Reg.TCK_EVENTS 1)
    else .next s

end Machine
end Sys2Proof
end

