-- ==== Sys2Proof/Machine/Rdma.lean ====
section
/-! DEFINITION. RoCEv2 and flow control at the host ports (R306 to R309, R353): what a queue pair may reach, reads and writes of the memory stacks,
congestion notification and pause. PRESUMED, from the reliable-connection transport of RoCEv2: how packets of a message follow one another, what a sequence
number behind or ahead of the expected one leads to, and which number an answer carries (log 132). -/

namespace Sys2Proof.Machine

/-! ### What a queue pair may reach (R304, R308, R353) -/

/-- Host RDMA as an accessor of memory (R245). -/
def hostWho : Who := ⟨0x3F, true⟩

/-- A span of memory cut at 128-byte boundaries, as (stack, offset, length). -/
def stackPieces (m off n : Nat) : List (Nat × Nat × Nat) := (pieces (n / 128 + 2) off n).map (fun p => (m, p.1, p.2))

/-- A span of the staging range cut at 128-byte boundaries. -/
def stagingPieces (o n : Nat) : List (Nat × Nat × Nat) :=
  (pieces (n / 128 + 2) o n).map (fun p => (p.1 / 2 ^ 32, 0xB00000000 + p.1 % 2 ^ 32, p.2))

/-- Whether a span lies in the slots of one ring. -/
def RingInfo.holds (r : RingInfo) (off n : Nat) : Bool := decide (r.base ≤ off ∧ off + n ≤ r.base + r.slots * (128 + r.len))

/-- Whether a span lies in the headers of the snapshot slots, or, by `slot`, in a slot's data or its header (R351). -/
def inSlot (k off n : Nat) : Bool :=
  decide (0x800000000 + k * 0x100000000 ≤ off ∧ off + n ≤ 0x900000000 + k * 0x100000000) ||
    decide (0xA00000000 + 128 * k ≤ off ∧ off + n ≤ 0xA00000080 + 128 * k)

/-- The places that an operation of a queue pair reaches; none where the table does not allow it. A stack that is not ready is out of reach
(DEDUCED: it holds its contents in self-refresh). -/
def State.rdmaPlaces (s : State) (q : Qp) (write : Bool) (va n : Nat) : Option (List (Nat × Nat × Nat)) :=
  if q.kind = 1 then
    if s.mode = .ready ∧ s.job.loading.isNone ∧ va + n ≤ stagingBytes then some (stagingPieces va n) else none
  else
    let m := va / 2 ^ 40 % 16
    let off := va % 2 ^ 36
    if va / 2 ^ 44 ≠ 1 ∨ va / 2 ^ 36 % 16 ≠ 0 ∨ fld (s.reg (Reg.MEM_STATUS m)) 31 30 ≠ 2 then none
    else if q.kind = 0 then
      if (s.rings m).any (fun r => r.holds off n && (!write || !r.output)) then some (stackPieces m off n) else none
    else
      let head := decide (0xA00000000 ≤ off ∧ off + n ≤ 0xA00000100)
      let slot := fun k => inSlot k off n && (write || (s.stack m).byte (0xA00000007 + 128 * k) == 1)
      if (if write then s.mode == .loaded && (head || slot 0 || slot 1) else head || slot 0 || slot 1) then some (stackPieces m off n) else none

/-- Whether an offset lies in the data of an output slot that is open (R250). -/
def State.openData (s : State) (m off : Nat) : Bool :=
  (s.rings m).any (fun r => r.output && r.holds off 1 && s.ticking && s.ringState m r.index == 0 && r.slotOf off == s.currentSlot r &&
    decide (128 ≤ (off - r.base) % (128 + r.len)))

/-- Pieces read: the data, and the first refusal. -/
def State.hostRead (s : State) : List (Nat × Nat × Nat) → List Byte × Option Nat × State
  | [] => ([], none, s)
  | (m, off, n) :: ps =>
    match s.memRead m off n hostWho with
    | (.refused c, s) => ([], some c, s)
    | (.data bs _, t) =>
      let (rest, c, u) := t.hostRead ps
      ((if s.openData m off then List.replicate n 0 else bs) ++ rest, c, u)

/-- Pieces written: the codes of those discarded. -/
def State.hostWrite (s : State) (bs : List Byte) : List (Nat × Nat × Nat) → List Nat × State
  | [] => ([], s)
  | (m, off, n) :: ps =>
    let (c, t) := s.memWrite m off (bs.take n) hostWho
    let (cs, u) := t.hostWrite (bs.drop n) ps
    (c.toList ++ cs, u)

/-! ### Queue pairs -/

/-- The queue pair of a port and a number. -/
def State.pair (s : State) (port : Nat) (qpn : Nat) : Option Qp := s.qps.find? (fun q => q.port == port && q.qpn == qpn)

/-- The state with a queue pair changed. -/
def State.onPair (s : State) (q : Qp) (f : Qp → Qp) : State :=
  { s with qps := s.qps.map (fun x => if x.port = q.port ∧ x.qpn = q.qpn then f x else x) }

/-- A RoCEv2 frame sent with the priority of HST_PFC, or held while a PFC pause received stands (R289, R309). -/
def State.sendRoce (s : State) (q : Qp) (op : RdmaOut) (psn : Nat) (data : List Byte) : State :=
  let i := q.port
  let m : OutMsg := .rdma i q.remote op psn data (s.vlanTag i (fld (s.reg (Reg.HST_PFC i)) 18 16))
  if s.host.paused.get false i then { s with host := { s.host with roce := s.host.roce.set [] i (s.host.roce.get [] i ++ [m]) } } else s.send m

/-- A negative acknowledgement that leaves the pair in the error state; a Remote Access Error is counted (R306, R308). -/
def State.nak (s : State) (q : Qp) (op : RdmaOut) (psn : Nat) : State :=
  let s := (s.sendRoce q op psn []).onPair q (fun x => { x with broken := true })
  if op = .nakAccess then s.bumpReg (Reg.HST_RDMA q.port) 31 16 else s

/-- A packet marked CE: a CNP, at most one per 50 µs and pair (R309). -/
def State.congestion (s : State) (q : Qp) (ce : Bool) : State :=
  if ce && flag (s.reg (Reg.HST_CTRL q.port)) 3 && decide (q.cnpAt ≤ s.timeNs 36) then
    (s.sendRoce q .cnp 0 []).onPair q (fun x => { x with cnpAt := s.timeNs 36 + 50000 })
  else s

/-- The packets of a READ response, of the path MTU but for the last (R306). -/
def State.respond (s : State) (q : Qp) (psn : Nat) : Nat → List Byte → Bool → State
  | 0, _, _ => s
  | n + 1, bs, first =>
    let op : RdmaOut := if n = 0 then (if first then .readOnly else .readLast) else if first then .readFirst else .readMiddle
    (s.sendRoce q op psn (bs.take q.mtu)).respond q ((psn + 1) % 2 ^ 24) n (bs.drop q.mtu) false

/-- Whether a packet held ends a READ response of a pair: the READ is still outstanding. -/
def endsRead (q : Qp) : OutMsg → Bool
  | .rdma i n op _ _ _ => i == q.port && n == q.remote && (op == .readLast || op == .readOnly)
  | _ => false

/-- The READ requests of a pair that are outstanding: those whose response waits for the end of a pause (R306, R309). -/
def State.readsHeld (s : State) (q : Qp) : Nat := ((s.host.roce.get [] q.port).filter (endsRead q)).length

/-- An operation that its pair's table does not allow: one that addresses a carry window's ranges of a stack is recorded by its logic die (R245, R308), and
all get a Remote Access Error NAK. -/
def State.refuseHost (s : State) (q : Qp) (psn va n : Nat) : State :=
  let m := va / 2 ^ 40 % 16
  let off := va % 2 ^ 36
  let hits := q.kind != 1 && va / 2 ^ 44 == 1 && va / 2 ^ 36 % 16 == 0 && ((s.inWindow m off n).isSome || s.inCopy1 m off n)
  (if hits then s.memError m 0x3F 0x08 off false else s).nak q .nakAccess psn

/-! ### Commands -/

/-- Where a packet's sequence number stands to the one its pair expects. -/
inductive PsnPlace where
  | due | ahead | behind
deriving DecidableEq, Repr

/-- Behind within half the number space, else ahead. -/
def Qp.place (q : Qp) (psn : Nat) : PsnPlace :=
  let d := (psn + 2 ^ 24 - q.psn) % 2 ^ 24
  if d = 0 then .due else if d < 2 ^ 23 then .ahead else .behind

/-- What a RoCEv2 request does at a queue pair that a port holds and that is not in the error state (R291, R306, R309). -/
def State.onRoce (s : State) (i : Nat) (h : FrameHead) (c : Carried) (x : RdmaHead) (act : State → Qp → State) : State :=
  s.onTraffic i h c .roce (fun s =>
    match s.pair i x.qpn.toNat with
    | none => s
    | some q => if q.broken then s else act (s.congestion q x.ce) q)

/-- The message that a WRITE packet belongs to, as its virtual address and the bytes still to come: a new one at a first or only packet, else the one under way; none
where the packet does not follow the one before it, is not of the path MTU where more follow, or ends at another length. -/
def Qp.writeSpan (q : Qp) (op : RdmaOp) (x : RdmaHead) (n : Nat) : Option (Nat × Nat) :=
  let new := (x.va.toNat, x.len.toNat)
  match op, q.msg with
  | .writeFirst, none => if n = q.mtu ∧ n < new.2 ∧ new.2 ≤ 2 ^ 31 then some new else none
  | .writeOnly, none => if n ≤ q.mtu ∧ n = new.2 then some new else none
  | .writeMiddle, some (va, left, _) => if n = q.mtu ∧ n < left then some (va, left) else none
  | .writeLast, some (va, left, _) => if n ≤ q.mtu ∧ n = left then some (va, left) else none
  | _, _ => none

/-- A WRITE packet that is due: its data written, the next packet expected, the message moved on; a WRITE with a packet at a locked slot is counted once at its end,
and acknowledged like any other (R249, R308, R309). -/
def State.writePacket (s : State) (q : Qp) (x : RdmaHead) (va left : Nat) (data : List Byte) : State :=
  let psn := x.psn.toNat
  let n := data.length
  match s.rdmaPlaces q true va n with
  | none => s.refuseHost q psn va n
  | some ps =>
    let (cs, t) := s.hostWrite data ps
    if cs.contains 8 || cs.contains 2 then t.nak q .nakAccess psn
    else
      let late := cs.contains 7 || q.msg.any (fun m => m.2.2)
      let t := if n = left ∧ late then t.bumpReg (Reg.HST_RDMA q.port) 15 0 else t
      let t := t.onPair q (fun y => { y with psn := (psn + 1) % 2 ^ 24, msg := if n = left then none else some (va + n, left - n, late) })
      if x.ack then t.sendRoce q .ack psn [] else t

/-- RDMA_WRITE: a packet of a WRITE (R306, R308, R309). The whole message is held to the rkey and the table when it begins; a packet already taken is acknowledged
again, and one ahead of its turn changes nothing. Another opcode is answered with an Invalid Request NAK (R306). -/
def execRdmaWrite (port : Fin 2) (h : FrameHead) (c : Carried) (op : RdmaOp) (x : RdmaHead) (data : List Byte) (s : State) : Host.Outcome State Fault Refusal :=
  .next (s.onRoce port h c x (fun s q =>
    let psn := x.psn.toNat
    match op, q.place psn with
    | .unsupported, _ => s.nak q .nakInvalid psn
    | _, .ahead => s.sendRoce q .nakSequence q.psn []
    | _, .behind => s.sendRoce q .ack ((q.psn + 2 ^ 24 - 1) % 2 ^ 24) []
    | _, .due =>
      match q.writeSpan op x data.length with
      | none => s.nak q .nakInvalid psn
      | some (va, left) =>
        if q.msg.isNone && (x.rkey.toNat != q.rkey || (s.rdmaPlaces q true va left).isNone) then s.refuseHost q psn va left
        else s.writePacket q x va left data))

/-- RDMA_READ: a message read for a queue pair, its response in packets of the path MTU; the data of an open output slot reads zero; at most 16 are outstanding
(R250, R306, R308). -/
def execRdmaRead (port : Fin 2) (h : FrameHead) (c : Carried) (x : RdmaHead) (s : State) : Host.Outcome State Fault Refusal :=
  .next (s.onRoce port h c x (fun s q =>
    let psn := x.psn.toNat
    let va := x.va.toNat
    let len := x.len.toNat
    if q.place psn = .ahead then s.sendRoce q .nakSequence q.psn []
    else if 2 ^ 31 < len ∨ 16 ≤ s.readsHeld q ∨ q.msg.isSome then s.nak q .nakInvalid psn
    else
      match (if x.rkey.toNat = q.rkey then s.rdmaPlaces q false va len else none) with
      | none => s.refuseHost q psn va len
      | some ps =>
        match s.hostRead ps with
        | (_, some _, t) => t.nak q .nakAccess psn
        | (bs, none, t) =>
          let n := max 1 ((len + q.mtu - 1) / q.mtu)
          let t := t.respond q psn n bs true
          if q.place psn = .due then t.onPair q (fun y => { y with psn := (psn + n) % 2 ^ 24 }) else t))

/-- CNP_RECEIVE: a CNP halves the READ response rate of its pair for 100 µs (R309). -/
def execCnpReceive (port : Fin 2) (h : FrameHead) (c : Carried) (qpn : Word) (s : State) : Host.Outcome State Fault Refusal :=
  .next (s.onTraffic port h c .roce (fun s =>
    match s.pair port qpn.toNat with
    | none => s
    | some q => if flag (s.reg (Reg.HST_CTRL port)) 3 then s.onPair q (fun x => { x with halfTo := s.timeNs 36 + 100000 }) else s))

/-- PFC_PAUSE: under priority flow control, a pause or its end is received, obeyed on HST_PFC.prio; or the receive buffer holds another number of bytes, which may
have the port send a pause or its end (R289, R309). -/
def execPfcPause (port : Fin 2) (x : PfcEvent) (s : State) : Host.Outcome State Fault Refusal :=
  let i := port.val
  if !(s.portUp port) then .next s
  else match x with
  | .received prio on =>
    if !(flag (s.reg (Reg.HST_CTRL i)) 2) || prio.val != fld (s.reg (Reg.HST_PFC i)) 18 16 then .next s
    else .next (if on then { s with host := { s.host with paused := s.host.paused.set false i true } } else s.sendHeld i)
  | .buffer n => .next (({ s with host := { s.host with buffer := s.host.buffer.set 0 i n } } : State).checkBuffer i)

end Sys2Proof.Machine
end

