-- ==== Sys2Proof/Machine/RemoteInstr.lean ====
section
/-! DEFINITION. Fabric remote, class 0x7 (R36 to R38, R90 to R92): the checks at issue, the request, and the response or timeout that ends
or keeps the wait. -/

namespace Sys2Proof.Machine

/-- A word of the window table mirrored into the compute dies (R272). -/
def State.mirrorWindow (s : State) (e w : Nat) : Word := s.fabric.mirror.get 0 (4 * e + w)
/-- A word of the mirrored rank table, kept from index 256 on. -/
def State.mirrorRank (s : State) (r : Nat) : Word := s.fabric.mirror.get 0 (256 + r)

/-- The coordinates a remote address names, or none where R90 and R92 refuse it. -/
def State.remoteCoord (s : State) (rank : Bool) (a : Nat) : Option Nat :=
  if rank then
    let r := a / 2 ^ 48 % 2 ^ 16
    if r < 4096 ∧ flag (s.mirrorRank r) 31 then some (fld (s.mirrorRank r) 11 0) else none
  else if a / 2 ^ 60 % 16 ≠ 0 then none else some (a / 2 ^ 48 % 2 ^ 12)

/-- The operation bit of the window table (R287): XLD 30, XST 29, XADD 28, the fetching atomics 27. -/
def opBit (op : Nat) : Nat := if op ≤ 1 then 30 else if op ≤ 5 then 29 else if op = 8 then 28 else 27

/-- Whether a mirrored window-table entry grants an operation (R272). -/
def State.windowGrants (s : State) (c mpa op : Nat) (e : Nat) : Bool :=
  let w0 := s.mirrorWindow e 0
  let w1 := s.mirrorWindow e 1
  let off := mpa % 2 ^ 40
  flag w0 31 && flag w0 (opBit op) && flag w0 (mpa / 2 ^ 40 % 16) &&
    decide (fld w1 31 28 ≤ axisOf c 0 ∧ axisOf c 0 ≤ fld w1 27 24 ∧ fld w1 23 20 ≤ axisOf c 1 ∧ axisOf c 1 ≤ fld w1 19 16 ∧
      fld w1 15 12 ≤ axisOf c 2 ∧ axisOf c 2 ≤ fld w1 11 8) &&
    decide (fld (s.mirrorWindow e 2) 23 0 * 4096 ≤ off ∧ off + opBytes op ≤ fld (s.mirrorWindow e 3) 23 0 * 4096 + 4096)

/-- Whether the sending side lets an operation out (R92, R272). -/
def State.granted (s : State) (c mpa op : Nat) : Bool := mpa / 2 ^ 44 == 1 && (List.range 64).any (s.windowGrants c mpa op)

/-- A fabric remote instruction (R36, R90 to R92): WINDOW or MISALIGN, or the thread parks and its request leaves. -/
def Ctx.remote (q : Ctx) (op : Nat) (vector : Bool) (value compare : DWord) (data : VReg) : Effect :=
  let a := (q.x.rs q.f.srca.toNat).toNat
  match q.s.remoteCoord (flag q.f.imm 31) a with
  | none => .fault 0x08 0
  | some c =>
    if !(q.s.granted c (a % 2 ^ 48) op) then .fault 0x08 0
    else if a % opBytes op ≠ 0 then .fault 0x03 0
    else
      let d : RemoteDesc :=
        { op := BitVec.ofNat 4 op, target := BitVec.ofNat 12 c, mpa := BitVec.ofNat 48 a, from_ := BitVec.ofNat 12 q.s.coord,
          die := ⟨keyDie q.k % 16, Nat.mod_lt _ (by decide)⟩, row := ⟨keyRow q.k % 64, Nat.mod_lt _ (by decide)⟩,
          col := BitVec.ofNat 6 (q.s.logCol q.k), thread := ⟨q.n % 4, Nat.mod_lt _ (by decide)⟩, tick := BitVec.ofNat 8 q.s.seq, status := 0,
          value := value, compare := compare, data := data }
      .done (q.s.sendRequest (keyDie q.k) d) q.t
        { q.x with state := .parked, wait := .remote,
                   remote := some { op := op, dest := q.f.dest.toNat, vector := vector, tick := q.s.seq % 256, target := c, timedOut := false } } none

/-- XLD.D: d := 8 bytes at the remote address in a. -/
def execXldD (u : Issue) (f : Fields) (s : State) : Answer :=
  .next (s.issue u f 0x7 0x00 (fun q => q.remote 0 false 0 0 0))

/-- XLD.V: d := 64 bytes at the remote address in a. -/
def execXldV (u : Issue) (f : Fields) (s : State) : Answer :=
  .next (s.issue u f 0x7 0x01 (fun q => q.remote 1 true 0 0 0))

/-- XST.D: b to the 8 bytes at the remote address in a. -/
def execXstD (u : Issue) (f : Fields) (s : State) : Answer :=
  .next (s.issue u f 0x7 0x04 (fun q => q.remote 4 false (q.x.rs q.f.srcb.toNat) 0 0))

/-- XST.V: b to the 64 bytes at the remote address in a. -/
def execXstV (u : Issue) (f : Fields) (s : State) : Answer :=
  .next (s.issue u f 0x7 0x05 (fun q => q.remote 5 false 0 0 (q.x.rv q.f.srcb.toNat)))

/-- XADD: b added to the word at the remote address in a. -/
def execXadd (u : Issue) (f : Fields) (s : State) : Answer :=
  .next (s.issue u f 0x7 0x08 (fun q => q.remote 8 false (q.x.rs q.f.srcb.toNat) 0 0))

/-- XFADD: d := the word at the remote address in a, to which b is added. -/
def execXfadd (u : Issue) (f : Fields) (s : State) : Answer :=
  .next (s.issue u f 0x7 0x09 (fun q => q.remote 9 false (q.x.rs q.f.srcb.toNat) 0 0))

/-- XSWAP: d := the word at the remote address in a, which becomes b. -/
def execXswap (u : Issue) (f : Fields) (s : State) : Answer :=
  .next (s.issue u f 0x7 0x0A (fun q => q.remote 10 false (q.x.rs q.f.srcb.toNat) 0 0))

/-- XCAS: d := the word at the remote address in a, which becomes b where it equals d. -/
def execXcas (u : Issue) (f : Fields) (s : State) : Answer :=
  .next (s.issue u f 0x7 0x0B (fun q =>
    q.remote 11 false (q.x.rs q.f.srcb.toNat) (q.x.rs q.f.dest.toNat) 0))

/-- A response taken by the thread it is for (R92, R277): status 1 to 3 writes zero and records error 0x09. -/
def State.takeResponse (s : State) (k : Nat) (d : RemoteDesc) (r : RemoteOut) : State :=
  let t := s.tile k
  let n := d.thread.val
  let x := t.thread n
  let ok := d.status == 0
  let y := if !(opDelivers r.op) then x
    else if r.vector then x.wv r.dest (if ok then d.data else 0) 0
    else x.ws r.dest (if ok then d.value else 0) 0
  let s := s.finish k t n { y with state := .running, wait := .none, came := true, remote := none }
  if ok then s else s.fabricError 7 r.target 0 0x09

/-- A tile without the first of its orphaned operations that `p` picks. -/
def Tile.dropOrphan (t : Tile) (p : Nat × RemoteOut → Bool) : Tile := { t with orphans := t.orphans.eraseP p }

/-- A response at the remote unit of a compute die, for the tile whose row and logical column its block names (R273, R277): it ends the wait of its thread, or,
of an earlier tick or after a timeout, is discarded and counted; the timer of an operation of an earlier tick stops (R278). -/
def State.remoteAnswered (s : State) (die addr : Nat) (d : RemoteDesc) : State :=
  let row := addr / 2 ^ 23 % 64
  let k := posKey die row (s.physCol die row (addr / 2 ^ 17 % 64))
  let n := d.thread.val
  let old := fun (x : Nat × RemoteOut) => x.1 == n && x.2.tick == d.tick.toNat && x.2.op == d.op.toNat
  let stale : State := { s.setTile k ((s.tile k).dropOrphan old) with fabric := { s.fabric with stale := s.fabric.stale + 1 } }
  match ((s.tile k).thread n).remote with
  | none => stale
  | some r =>
    if d.tick.toNat ≠ s.seq % 256 ∨ d.tick.toNat ≠ r.tick ∨ r.timedOut ∨ ((s.tile k).thread n).state ≠ .parked then stale
    else s.takeResponse k d r

/-- REMOTE_RESPONSE: the oldest block of the reserve of I/O port 34 or 35 at a compute port, a response of stream 0xFF, reaches the remote unit (R277). -/
def execRemoteResponse (p : Fin 16) (io : Fin 2) (s : State) : Answer :=
  let key := 34 + io.val
  match (s.port p).reserve key with
  | [] => .next s
  | b :: bs =>
    if b.stream ≠ 0xFF then .next s
    else .next ((s.setPort p ((s.port p).setReserve key bs)).remoteAnswered p b.addr (descOf (leNat b.data)))

/-- A timeout recorded: error 0x08, and the target in FAB_LOSS (R278). -/
def State.timeoutError (s : State) (target : Nat) : State :=
  let s := s.fabricError 7 target 0 0x08
  let w := s.reg (Reg.FAB_LOSS 2)
  s.setReg (Reg.FAB_LOSS 2) (if flag w 31 then setFlag w 30 true else BitVec.ofNat 32 (0x80000000 + target % 4096))

/-- REMOTE_TIMEOUT: 50 µs without a response (R278), for the oldest operation of the thread whose timer runs: one of an earlier tick, whose thread has
restarted, or that of the parked thread, which stays parked. -/
def execRemoteTimeout (t : TileId) (thread : Fin 4) (s : State) : Answer :=
  let k := t.key
  let x := (s.tile k).thread thread
  match (s.tile k).orphans.find? (fun o => o.1 == thread.val), x.remote with
  | some o, _ => .next ((s.setTile k ((s.tile k).dropOrphan (fun y => y.1 == thread.val))).timeoutError o.2.target)
  | none, none => .next s
  | none, some r =>
    if r.timedOut then .next s
    else .next ((s.setTile k ((s.tile k).setThread thread { x with remote := some { r with timedOut := true } })).timeoutError r.target)

end Sys2Proof.Machine
end

