-- ==== Sys2Proof/Machine/Slot.lean ====
section
/-! DEFINITION. Events of the slot and the cages (chapters 16 and 19): the 48 V input, VBAK, MOD_RESET_N, the I2C identity map, optics and host
links. -/

namespace Sys2Proof.Machine

/-! ### Power (R20, R21, R411, R464 to R466) -/

/-- Address ranges of the backup domain (R405, R428, R429, R441). -/
def backupRanges : List (Nat × Nat) :=
  [(Reg.RST_LAST, Reg.RST_STATUS), (Reg.PWR_WEAR_ON, Reg.PWR_WEAR_PEAK + 1), (Reg.CFG_SELECT, Reg.CFG_SELECT + 1),
   (Reg.GLV_TAMPER, Reg.GLV_TAMPER + 1)]

/-- Address ranges that Off keeps: the backup domain and the owner roots in anti-fuse (R432). -/
def keptOff : List (Nat × Nat) := backupRanges ++ [(Reg.GLV_ROOTS, Reg.GLV_ROOTS + 1), (Reg.GLV_OWNER_ROOT 0, Reg.GLV_OWNER_ROOT 32)]

/-- The backup domain cleared (R411, R466). -/
def State.clearBackup (s : State) : State :=
  { s with
      regs := s.regs.keep (fun a => !(inRanges backupRanges a)), host := { s.host with i2c := 0 }
      thermal := { s.thermal with peakRounds := 0 } }

/-- The module without its 48 V input: only the backup domain, the flash and the anti-fuse banks keep their contents (R20, R439, R465). -/
def State.powerOff (s : State) : State :=
  let b := s.boot.interrupt
  let t := { State.reset with
    pending := s.pending, out := s.out, draws := s.draws
    regs := s.regs.keep (inRanges keptOff)
    host := { HostState.reset with i2c := s.host.i2c }
    thermal := { ThermalState.reset with peakRounds := s.thermal.peakRounds }
    boot := { BootState.reset with flash := b.flash, bad := b.bad, held := b.held, vbak := b.vbak, vbakSeen := b.vbakSeen } }
  t.setReg Reg.GLV_STATUS (s.reg Reg.GLV_STATUS &&& 0x20000000)

/-- Off is left where the input is in range and VBAK present: the power-on reset (R21, R411). -/
def State.powerOn (s : State) : State := if s.mode = .off ∧ s.boot.input ∧ s.boot.vbak then s.coldReset 0 0 else s

/-- INPUT_QUALIFIED: the 48 V input has been in range for 10 ms (R464). -/
def execInputQualified (s : State) : Host.Outcome State Fault Refusal :=
  if s.boot.input then .next s else .next ({ s with boot := { s.boot with input := true } } : State).powerOn

/-- The backup domain loses its contents where nothing powers it (R466). -/
def State.backupFade (s : State) : State :=
  if s.boot.vbak || s.boot.input then s else { s with boot := { s.boot with vbakSeen := false } }

/-- INPUT_LOST: the 48 V input is out of range: the module enters Off (R21, R465). -/
def execInputLost (s : State) : Host.Outcome State Fault Refusal := if s.boot.input then .next s.powerOff.backupFade else .next s

/-- VBAK_APPLIED: VBAK is present; its first application, and the first after the backup domain has lost its contents, clears that domain (R411, R466). -/
def execVbakApplied (s : State) : Host.Outcome State Fault Refusal :=
  if s.boot.vbak then .next s
  else
    let s := if s.boot.vbakSeen then s else s.clearBackup
    .next ({ s with boot := { s.boot with vbak := true, vbakSeen := true } } : State).powerOn

/-- VBAK_LOST: VBAK is gone for more than 10 ms; the backup domain lives on the 48 V input, if that is there (R466). -/
def execVbakLost (s : State) : Host.Outcome State Fault Refusal :=
  .next ({ s with boot := { s.boot with vbak := false } } : State).backupFade

/-! ### MOD_RESET_N (R401, R411, R417) -/

/-- MOD_RESET_N: low for 1 µs, or high again. Low fires source 2 and holds the release; in Class L one that comes in Tripped while a junction is at
70 °C or more waits for the round of R401. -/
def execModResetN (low : Bool) (s : State) : Host.Outcome State Fault Refusal :=
  let s := { s with boot := { s.boot with held := low } }
  if !low || s.mode == .off then .next s
  else if s.mode == .tripped && s.classL && (List.range 612).any (fun n => decide (560 ≤ s.used n)) then
    .next { s with thermal := { s.thermal with heldReset := true } }
  else .next (s.coldReset 2 0)

/-! ### The I2C identity map (R469) -/

/-- A byte of the slot identity map. -/
def State.slotByte (s : State) (o : Nat) : Byte :=
  if o < 8 then ([0x45, 0x4D, 0x59, 0x2D, 0x4D, 0x53, 0x31, 0x00] : List Byte).getD o 0
  else if o < 24 then (leBytes 4 (serialWord ((o - 8) / 4)).toNat).getD ((o - 8) % 4) 0
  else if o < 30 then (macBytes 0).getD (o - 24) 0
  else if o < 36 then (macBytes 1).getD (o - 30) 0
  else if o = 36 then (if s.boot.input then BitVec.ofNat 8 s.mode.code else 0xFF)
  else if o = 37 then BitVec.ofNat 8 (bitsOf (s.boot.input :: (List.range 3).map s.holdDriven))
  else if o = 38 then BitVec.ofNat 8 (fld (s.reg Reg.RST_LAST) 31 28 + fld (s.reg Reg.RST_LAST) 27 26 * 16)
  else 0

/-- Bytes read over I2C, one after another. -/
def State.sendBytes (s : State) : List Byte → State
  | [] => s
  | b :: bs => (s.send (.i2c b)).sendBytes bs

/-- I2C_READ: bytes of the map from the offset last written; offsets wrap at 64. No target answers while the backup domain is unpowered. -/
def execI2cRead (count : Nat) (s : State) : Host.Outcome State Fault Refusal :=
  if s.boot.vbak || s.boot.input then .next (s.sendBytes ((List.range count).map (fun i => s.slotByte ((s.host.i2c + i) % 64)))) else .next s

/-- I2C_OFFSET_WRITE: the offset byte of a write. -/
def execI2cOffsetWrite (off : Byte) (s : State) : Host.Outcome State Fault Refusal :=
  if s.boot.vbak || s.boot.input then .next { s with host := { s.host with i2c := off.toNat % 64 } } else .next s

/-! ### Cages and host links (R314, R474) -/

/-- Whether the cage of a port is supplied: its SerDes domain is on, and its optic has not been powered off (R474). -/
def State.caged (s : State) (i : Nat) : Bool := s.domain (64 + 2 * i) == 1 && s.unitUp (.io i) && !(s.host.opticOff.get false i)

/-- OPTIC_OVERPOWER: an optic draws more than 16 W for 100 ms: it is powered off and its port is down. -/
def execOpticOverpower (port : Fin 2) (s : State) : Host.Outcome State Fault Refusal :=
  if s.caged port then
    .next (({ s with host := { s.host with opticOff := s.host.opticOff.set false port true } } : State).hostLinkLost port)
  else .next s

/-- HOST_LINK_DOWN: a host link is lost; sessions stay open for 10 s without a request (R296, R314). -/
def execHostLinkDown (port : Fin 2) (s : State) : Host.Outcome State Fault Refusal := .next (s.hostLinkLost port)

/-- HOST_LINK_UP: an enabled port aligns and comes up with FEC lock (R288, R314). -/
def execHostLinkUp (port : Fin 2) (s : State) : Host.Outcome State Fault Refusal :=
  if s.mode != .tripped && s.caged port && flag (s.reg (Reg.HST_CTRL port)) 0 then .next (s.setRegFld (Reg.HST_LINK port) 31 29 5) else .next s

end Sys2Proof.Machine
end

