-- ==== Sys2Proof/Machine/Estimates.lean ====
section
/-! DEFINITION. The estimate functions of R113 and the lane sum of R120 and R121: exact and special cases as the tables state;
elsewhere a free value held to the bound, with a value inside the bound where the free value lies outside. -/

namespace Sys2Proof.Machine

/-- An operand of an estimate: a subnormal counts as zero of its sign (R113). -/
def estOperand (w : Word) : FV :=
  if w.toNat / 2 ^ 23 % 256 = 0 then .fin w.msb 0 0 else ofF32 w

/-- Whether m is a power of two. -/
def isPow2 (m : Nat) : Bool := m != 0 && m == 2 ^ Nat.log2 m

/-- Whether an FP32 word is a subnormal or a zero. -/
def isTiny (w : Word) : Bool := w.toNat / 2 ^ 23 % 256 == 0

/-- An FP32 word that an estimate delivers in place of an exact result that is not zero and not equal to it, with underflow where it is a subnormal or
zero (R117). -/
def inexact (y : Word) : Word × Nat := (y, if isTiny y then flagUnderflow else 0)

/-- VRCP on one lane (R113). A result below the normal range has no stated bound: it is a subnormal of the right sign with free fraction bits, not zero
(R100), or the smallest normal where that lies within the bound. -/
def estRcp (w : Word) : Word × Nat :=
  match estOperand w with
  | .nan => (0x7FC00000, 0)
  | .inf neg => (if neg then 0x80000000 else 0, 0)
  | .fin neg m e =>
    if m = 0 then (if neg then 0xFF800000 else 0x7F800000, flagOverflow)
    else if isPow2 m then deliver (.fin neg 1 (-(floorLog2 m e)), 0)
    else
      let y := Config.estimate 0 w
      let sign : Word := if neg then 0x80000000 else 0
      let back := inexact (toF32 (.fin neg (2 ^ 60 / m) (-60 - e))).1
      if floorLog2 m e ≥ 126 then
        if y = sign ||| 0x00800000 ∧ rcpBound 1 (-126) m e then (y, 0)
        else if y &&& 0x007FFFFF = 0 then back
        else inexact (sign ||| (y &&& 0x007FFFFF))
      else match ofF32 y with
        | .fin g n k => if g = neg ∧ rcpBound n k m e then inexact y else back
        | _ => back

/-- VRSQ on one lane (R113). -/
def estRsq (w : Word) : Word × Nat :=
  match estOperand w with
  | .nan => (0x7FC00000, 0)
  | .inf neg => if neg then (0x7FC00000, flagInvalid) else (0, 0)
  | .fin neg m e =>
    if m = 0 then (if neg then 0xFF800000 else 0x7F800000, flagOverflow)
    else if neg then (0x7FC00000, flagInvalid)
    else if isPow2 m ∧ floorLog2 m e % 2 = 0 then deliver (.fin false 1 (-(floorLog2 m e / 2)), 0)
    else
      let y := Config.estimate 1 w
      let (m', e') := if e % 2 = 0 then (m, e) else (2 * m, e - 1)
      let back := deliver (.fin false (isqrt (2 ^ 80 / m') 40 0) (-40 - e' / 2), 0)
      match ofF32 y with
      | .fin g n k => if g = false ∧ rsqBound n k m e then (y, 0) else back
      | _ => back

/-- The integer value of a finite number, if it is one. -/
def intOf (neg : Bool) (m : Nat) (e : Int) : Option Int :=
  if e ≥ 0 then some (sgn neg (m <<< e.toNat))
  else if (m >>> (-e).toNat) <<< (-e).toNat = m then some (sgn neg (m >>> (-e).toNat)) else none

/-- VEXP2 on one lane (R113). DESIGN CHOICE: +∞, an input that R113 has set overflow and R117 does not (it asks for finite operands), gives +∞ and sets
no flag (log 125). -/
def estExp2 (w : Word) : Word × Nat :=
  match estOperand w with
  | .nan => (0x7FC00000, 0)
  | .inf neg => if neg then (0, 0) else (0x7F800000, 0)
  | .fin neg m e =>
    if !neg && leDyadic 128 0 m e then (0x7F800000, flagOverflow)
    else
      let y := Config.estimate 2 w
      if neg && !(leDyadic m e 126 0) then
        let y' := y &&& 0x007FFFFF
        let isExact : Bool := match intOf neg m e with
          | some i => decide (i ≥ -149) && ofF32 y' == .fin false (2 ^ (i + 149).toNat) (-149)
          | none => false
        (y', if isExact then 0 else flagUnderflow)
      else match intOf neg m e with
        | some i => deliver (.fin false 1 i, 0)
        | none =>
          let f := fixed72 neg m e
          let back := inexact (toF32 (.fin false (exp2Fix (f % 2 ^ 72).toNat) (f / 2 ^ 72 - 96))).1
          match ofF32 y with
          | .fin g n k => if g = false ∧ exp2Bound n k neg m e then inexact y else back
          | _ => back

/-- VLOG2 on one lane (R113). -/
def estLog2 (w : Word) : Word × Nat :=
  match estOperand w with
  | .nan => (0x7FC00000, 0)
  | .inf neg => if neg then (0x7FC00000, flagInvalid) else (0x7F800000, 0)
  | .fin neg m e =>
    if m = 0 then (0xFF800000, flagOverflow)
    else if neg then (0x7FC00000, flagInvalid)
    else if isPow2 m then
      let i := floorLog2 m e
      deliver (.fin (decide (i < 0)) i.natAbs 0, 0)
    else
      let y := Config.estimate 3 w
      if log2Bound (ofF32 y) m e then inexact y
      else
        let l := log2Fix m e
        inexact (toF32 (.fin (decide (l < 0)) l.natAbs (-80))).1

/-- The sum of magnitudes of finite values. -/
def sumAbs (xs : List FV) : Nat × Int :=
  let r := sumExact (xs.map (fun x => match x with | .fin _ m e => .fin false m e | v => v))
  (r.1.natAbs, r.2)

/-- Whether a finite word lies within 15 · 2^−24 · Σ|a_i| of the exact sum (R121). -/
def vsumBound (y : FV) (xs : List FV) : Bool :=
  match y with
  | .fin s m e =>
    let d := sumExact (.fin (!s) m e :: xs)
    let a := sumAbs xs
    leDyadic d.1.natAbs d.2 (15 * a.1) (a.2 - 24)
  | _ => false

/-- VSUM of the sixteen lanes (R71, R120, R121). An infinite result is possible where the magnitudes could overflow in some pairing. DESIGN CHOICE:
R117 names no rule of VSUM, and its additions count as those of R111: NaN from infinities of both signs, given or met in a pairing, sets invalid, an
infinity of finite lanes overflow, and a subnormal or zero that is not the exact sum underflow (log 126). -/
def vsumOf (die : Nat) (v : VReg) (xs : List FV) : Word × Nat :=
  match sumTerms xs with
  | (.nan, fl) => (0x7FC00000, fl)
  | (.inf neg, _) => (if neg then 0xFF800000 else 0x7F800000, 0)
  | (.fin s m e, _) =>
    let y := Config.vsum die v
    let a := sumAbs xs
    match ofF32 y with
    | .fin .. =>
      if !(vsumBound (ofF32 y) xs) then deliver (.fin s m e, 0)
      else if (ofF32 y).isZero then
        let zero : Word := if m = 0 ∧ s then 0x80000000 else 0
        if m = 0 then (zero, 0) else inexact zero
      else if m = 0 ∨ (ofF32 y).eq (.fin s m e) then (y, 0) else inexact y
    | .inf _ => if leDyadic (2 ^ 24 - 1) 104 a.1 a.2 then (y, flagOverflow) else deliver (.fin s m e, 0)
    | .nan => if leDyadic (2 ^ 24 - 1) 105 a.1 a.2 then (0x7FC00000, flagInvalid) else deliver (.fin s m e, 0)

end Sys2Proof.Machine
end

