-- ==== Sys2Proof/Machine/Vector.lean ====
section
/-! DEFINITION. Vector, class 0x3 (R71 to R73, R107 to R113): one meaning per function over the shared forms. -/

namespace Sys2Proof.Machine

/-- The tile with the flags that lane results raise for the issuing thread (R117). -/
def Ctx.flagged (q : Ctx) (fl : Nat) : Tile := if fl = 0 then q.t else q.t.setFlags q.n fl

/-- A lane-by-lane result from two vectors that sets no flag (R71). -/
def vecRR (fn : Nat) (op : Word → Word → Word) (lat : Nat) (u : Issue) (f : Fields) (s : State) : State :=
  s.issue u f 0x3 fn (fun q =>
    q.write (q.x.wv q.f.dest.toNat
      (ofLanes (List.zipWith op (lanes (q.x.rv q.f.srca.toNat)) (lanes (q.x.rv q.f.srcb.toNat)))) (q.c + lat)))

/-- A lane-by-lane FP32 result with flags, from two vectors (R71, R111, R112). -/
def vecFR (fn : Nat) (op : Word → Word → Word × Nat) (u : Issue) (f : Fields) (s : State) : State :=
  s.issue u f 0x3 fn (fun q =>
    let rs := List.zipWith op (lanes (q.x.rv q.f.srca.toNat)) (lanes (q.x.rv q.f.srcb.toNat))
    .done q.s (q.flagged (allFlags rs)) (q.x.wv q.f.dest.toNat (ofLanes (rs.map (fun r => r.1))) (q.c + 4)) none)

/-- A bitwise result from two vectors (R71). -/
def vecBits (fn : Nat) (op : VReg → VReg → VReg) (u : Issue) (f : Fields) (s : State) : State :=
  s.issue u f 0x3 fn (fun q =>
    q.write (q.x.wv q.f.dest.toNat (op (q.x.rv q.f.srca.toNat) (q.x.rv q.f.srcb.toNat)) (q.c + 2)))

/-- A lane-by-lane shift by imm[4:0] (R71). -/
def vecShift (fn : Nat) (op : Word → Nat → Word) (u : Issue) (f : Fields) (s : State) : State :=
  s.issue u f 0x3 fn (fun q =>
    q.write (q.x.wv q.f.dest.toNat
      (ofLanes ((lanes (q.x.rv q.f.srca.toNat)).map (fun w => op w (q.f.bits 4 0)))) (q.c + 2)))

/-- An estimate on every lane (R113). -/
def vecEst (fn : Nat) (op : Word → Word × Nat) (u : Issue) (f : Fields) (s : State) : State :=
  s.issue u f 0x3 fn (fun q =>
    let rs := (lanes (q.x.rv q.f.srca.toNat)).map op
    .done q.s (q.flagged (allFlags rs)) (q.x.wv q.f.dest.toNat (ofLanes (rs.map (fun r => r.1))) (q.c + 6)) none)

/-- The 32 FP32 elements of a register pair (R71). -/
def pairElems (x : Thread) (n : Nat) : List Word := lanes (x.rv n) ++ lanes (x.rv (n + 1))

/-- The rounding of one element: to nearest, or a fresh draw where it needs one (R105). -/
def roundingOf (rmode needs : Bool) (draws : Nat) : Rounding :=
  if rmode && needs then .draw (Config.free draws % 65536) else .nearest

/-- VCVT of elements (R107): codes, flags, draws used. -/
def cvtElems (fm : Fmt) (rmode : Bool) : Nat → List Word → List Nat × Nat × Nat
  | d, [] => ([], 0, d)
  | d, w :: ws =>
    let v := ofF32 w
    let needs := match v with
      | .fin _ m e => needsDraw fm.p fm.emin m e
      | _ => false
    let (c, fl) := fm.round (roundingOf rmode needs d) v
    let (cs, g, d') := cvtElems fm rmode (if rmode && needs then d + 1 else d) ws
    (c :: cs, orFlags fl g, d')

/-- VCVT (R107): 32 FP32 elements of (a, a+1) to 16-bit elements in d. -/
def vecCvt (fn : Nat) (fm : Fmt) (u : Issue) (f : Fields) (s : State) : State :=
  s.issue u f 0x3 fn (fun q =>
    let (cs, fl, d) := cvtElems fm (flag q.f.imm 16) q.s.draws (pairElems q.x q.f.srca.toNat)
    .done { q.s with draws := d } (q.flagged fl) (q.x.wv q.f.dest.toNat (BitVec.ofNat 512 (packNat 16 cs)) (q.c + 3)) none)

/-- The register pair (d, d+1) written with 32 FP32 elements. -/
def Thread.wpair (x : Thread) (n : Nat) (ws : List Word) (c : Nat) : Thread :=
  (x.wv n (ofLanes (ws.take 16)) c).wv (n + 1) (ofLanes (ws.drop 16)) c

/-- VEXT (R107): 32 16-bit elements to FP32, exact; NaN becomes the canonical NaN. -/
def vecExt (fn : Nat) (fm : Fmt) (u : Issue) (f : Fields) (s : State) : State :=
  s.issue u f 0x3 fn (fun q =>
    let v := (q.x.rv q.f.srca.toNat).toNat
    q.write (q.x.wpair q.f.dest.toNat
      ((List.range 32).map (fun j => (toF32 (fm.decode (v / 2 ^ (16 * j) % 65536))).1)) (q.c + 3)))

/-- The elements of a block packed (R109): codes, flags, draws used. -/
def packElems (ty : MxType) (rmode : Bool) (scale : Nat) : Nat → List FV → List Nat × Nat × Nat
  | d, [] => ([], 0, d)
  | d, v :: vs =>
    let needs := ty.packDraws scale v
    let (c, fl) := ty.pack (roundingOf rmode needs d) scale v
    let (cs, g, d') := packElems ty rmode scale (if rmode && needs then d + 1 else d) vs
    (c :: cs, orFlags fl g, d')

/-- Register `v` with bytes from offset `o` on replaced (R72). -/
def overlay (v : VReg) (o : Nat) (bs : List Byte) : VReg :=
  ofBytes ((List.range 64).map (fun j => if o ≤ j ∧ j < o + bs.length then bs.getD (j - o) 0 else vbyte v j))

/-- VPACK (R72, R108, R109): `w` bits an element; the elements are written first and the scale byte
second; where every input is a zero, every element is 0 (R108). -/
def vecPack (fn : Nat) (w : Nat) (ty : Bool → MxType) (u : Issue) (f : Fields) (s : State) : State :=
  s.issue u f 0x3 fn (fun q =>
    let t := ty (flag q.f.imm 17)
    let o := q.f.bits 5 0
    if o % 8 ≠ 0 ∨ o + 4 * w > 64 then .fault 0x01 0
    else
      let xs := (pairElems q.x q.f.srca.toNat).map ofF32
      let (scale, cs, fl, d) := match mxScale t xs with
        | none => (255, List.replicate 32 0, flagInvalid, q.s.draws)
        | some (sc, g) =>
          if xs.all FV.isZero then (sc, List.replicate 32 0, g, q.s.draws)
          else
          let (cs, fl, d) := packElems t (flag q.f.imm 16) sc q.s.draws xs
          (sc, cs, orFlags g fl, d)
      let bs := leBytes (4 * w) (packNat w cs)
      let x := q.x.wv q.f.dest.toNat (overlay (q.x.rv q.f.dest.toNat) o bs) (q.c + 3)
      let x := x.wv q.f.srcb.toNat (setVbyte (x.rv q.f.srcb.toNat) (q.f.bits 13 8) (BitVec.ofNat 8 scale)) (q.c + 3)
      .done { q.s with draws := d } (q.flagged fl) x none)

/-- One unpacked element (R110): FP32 word and flags. -/
def unpackElem (ty : MxType) (scale c : Nat) : Word × Nat :=
  if scale = 255 then (0x7FC00000, flagInvalid) else toF32 (mxValue ty c scale)

/-- VUNPK (R72, R110). -/
def vecUnpk (fn : Nat) (w : Nat) (ty : Bool → MxType) (u : Issue) (f : Fields) (s : State) : State :=
  s.issue u f 0x3 fn (fun q =>
    let o := q.f.bits 5 0
    if o % 8 ≠ 0 ∨ o + 4 * w > 64 then .fault 0x01 0
    else
      let blk := (q.x.rv q.f.srca.toNat).toNat / 2 ^ (8 * o)
      let scale := (vbyte (q.x.rv q.f.srcb.toNat) (q.f.bits 13 8)).toNat
      let rs := (List.range 32).map (fun j => unpackElem (ty (flag q.f.imm 17)) scale (blk / 2 ^ (w * j) % 2 ^ w))
      .done q.s (q.flagged (allFlags rs)) (q.x.wpair q.f.dest.toNat (rs.map (fun r => r.1)) (q.c + 3)) none)

/-- MXFP8 element type by etype (R72). -/
def mxf8 (e : Bool) : MxType := if e then .e5m2 else .e4m3
/-- MXFP6 element type by etype (R72). -/
def mxf6 (e : Bool) : MxType := if e then .e3m2 else .e2m3

/-- VADD (R71, R111). -/
def execVadd (u : Issue) (f : Fields) (s : State) : Answer := .next (vecFR 0x00 f32Add u f s)

/-- VSUB (R71, R111). -/
def execVsub (u : Issue) (f : Fields) (s : State) : Answer := .next (vecFR 0x01 f32Sub u f s)

/-- VMUL (R71, R111). -/
def execVmul (u : Issue) (f : Fields) (s : State) : Answer := .next (vecFR 0x02 f32Mul u f s)

/-- VFMA: d := a × b + d with one rounding (R71, R111). -/
def execVfma (u : Issue) (f : Fields) (s : State) : Answer :=
  .next (s.issue u f 0x3 0x03 (fun q =>
    let rs := List.zipWith (fun ab c => f32Fma ab.1 ab.2 c)
      (List.zip (lanes (q.x.rv q.f.srca.toNat)) (lanes (q.x.rv q.f.srcb.toNat))) (lanes (q.x.rv q.f.dest.toNat))
    .done q.s (q.flagged (allFlags rs)) (q.x.wv q.f.dest.toNat (ofLanes (rs.map (fun r => r.1))) (q.c + 4)) none))

/-- VMIN (R71, R112). -/
def execVmin (u : Issue) (f : Fields) (s : State) : Answer := .next (vecRR 0x04 f32Min 4 u f s)

/-- VMAX (R71, R112). -/
def execVmax (u : Issue) (f : Fields) (s : State) : Answer := .next (vecRR 0x05 f32Max 4 u f s)

/-- VFCMPLT (R71, R112). -/
def execVfcmplt (u : Issue) (f : Fields) (s : State) : Answer := .next (vecFR 0x06 f32CmpLt u f s)

/-- VFCMPEQ (R71, R112). -/
def execVfcmpeq (u : Issue) (f : Fields) (s : State) : Answer := .next (vecFR 0x07 f32CmpEq u f s)

/-- VIADD: wrapping (R71). -/
def execViadd (u : Issue) (f : Fields) (s : State) : Answer := .next (vecRR 0x08 (fun a b => a + b) 2 u f s)

/-- VISUB: wrapping (R71). -/
def execVisub (u : Issue) (f : Fields) (s : State) : Answer := .next (vecRR 0x09 (fun a b => a - b) 2 u f s)

/-- VAND (R71). -/
def execVand (u : Issue) (f : Fields) (s : State) : Answer := .next (vecBits 0x0A (fun a b => a &&& b) u f s)

/-- VOR (R71). -/
def execVor (u : Issue) (f : Fields) (s : State) : Answer := .next (vecBits 0x0B (fun a b => a ||| b) u f s)

/-- VXOR (R71). -/
def execVxor (u : Issue) (f : Fields) (s : State) : Answer := .next (vecBits 0x0C (fun a b => a ^^^ b) u f s)

/-- VSHLI: by imm[4:0] (R71). -/
def execVshli (u : Issue) (f : Fields) (s : State) : Answer := .next (vecShift 0x0D (fun w n => w <<< n) u f s)

/-- VSHRI: zero-filled (R71). -/
def execVshri (u : Issue) (f : Fields) (s : State) : Answer := .next (vecShift 0x0E (fun w n => w >>> n) u f s)

/-- VBLEND: d := (d and a) or (not d and b) (R71). -/
def execVblend (u : Issue) (f : Fields) (s : State) : Answer :=
  .next (s.issue u f 0x3 0x0F (fun q =>
    let d := q.x.rv q.f.dest.toNat
    q.write (q.x.wv q.f.dest.toNat ((d &&& q.x.rv q.f.srca.toNat) ||| (~~~d &&& q.x.rv q.f.srcb.toNat)) (q.c + 2))))

/-- VPERM: lane i of d := lane b[i][3:0] of a (R71). -/
def execVperm (u : Issue) (f : Fields) (s : State) : Answer :=
  .next (s.issue u f 0x3 0x10 (fun q =>
    q.write (q.x.wv q.f.dest.toNat (ofLanes ((lanes (q.x.rv q.f.srcb.toNat)).map (fun w =>
      lane (q.x.rv q.f.srca.toNat) (w.toNat % 16)))) (q.c + 2))))

/-- VBCAST: every lane of d := a[31:0] (R71). -/
def execVbcast (u : Issue) (f : Fields) (s : State) : Answer :=
  .next (s.issue u f 0x3 0x11 (fun q =>
    q.write (q.x.wv q.f.dest.toNat (ofLanes (List.replicate 16 ((q.x.rs q.f.srca.toNat).setWidth 32))) (q.c + 2))))

/-- VGET: d := lane imm[3:0] of a, zero-extended (R71). -/
def execVget (u : Issue) (f : Fields) (s : State) : Answer :=
  .next (s.issue u f 0x3 0x12 (fun q =>
    q.write (q.x.ws q.f.dest.toNat ((lane (q.x.rv q.f.srca.toNat) (q.f.bits 3 0)).setWidth 64) (q.c + 2))))

/-- VSET: lane imm[3:0] of d := a[31:0]; other lanes kept, so d is read too (R71). -/
def execVset (u : Issue) (f : Fields) (s : State) : Answer :=
  .next (s.issue u f 0x3 0x13 (fun q =>
    q.write (q.x.wv q.f.dest.toNat (ofLanes ((lanes (q.x.rv q.f.dest.toNat)).mapIdx (fun i w =>
      if i = q.f.bits 3 0 then (q.x.rs q.f.srca.toNat).setWidth 32 else w))) (q.c + 2))))

/-- VANY: d := 1 if any bit of a is 1 (R71). -/
def execVany (u : Issue) (f : Fields) (s : State) : Answer :=
  .next (s.issue u f 0x3 0x14 (fun q =>
    q.write (q.x.wp q.f.dest.toNat (q.x.rv q.f.srca.toNat != 0) (q.c + 2))))

/-- VICMPLT: signed 32-bit (R71). -/
def execVicmplt (u : Issue) (f : Fields) (s : State) : Answer := .next (vecRR 0x15 (fun a b => if a.slt b then 0xFFFFFFFF else 0) 2 u f s)

/-- VCVT.BF16 (R107). -/
def execVcvtBf16 (u : Issue) (f : Fields) (s : State) : Answer := .next (vecCvt 0x18 bf16 u f s)

/-- VCVT.FP16 (R107). -/
def execVcvtFp16 (u : Issue) (f : Fields) (s : State) : Answer := .next (vecCvt 0x19 fp16 u f s)

/-- VEXT.BF16 (R107). -/
def execVextBf16 (u : Issue) (f : Fields) (s : State) : Answer := .next (vecExt 0x1A bf16 u f s)

/-- VEXT.FP16 (R107). -/
def execVextFp16 (u : Issue) (f : Fields) (s : State) : Answer := .next (vecExt 0x1B fp16 u f s)

/-- VPACK.MXF8 (R108, R109). -/
def execVpackMxf8 (u : Issue) (f : Fields) (s : State) : Answer := .next (vecPack 0x1C 8 mxf8 u f s)

/-- VPACK.MXF6 (R108, R109). -/
def execVpackMxf6 (u : Issue) (f : Fields) (s : State) : Answer := .next (vecPack 0x1D 6 mxf6 u f s)

/-- VPACK.MXF4 (R108, R109). -/
def execVpackMxf4 (u : Issue) (f : Fields) (s : State) : Answer := .next (vecPack 0x1E 4 (fun _ => .e2m1) u f s)

/-- VPACK.MXI8 (R108, R109). -/
def execVpackMxi8 (u : Issue) (f : Fields) (s : State) : Answer := .next (vecPack 0x1F 8 (fun _ => .int8) u f s)

/-- VUNPK.MXF8 (R110). -/
def execVunpkMxf8 (u : Issue) (f : Fields) (s : State) : Answer := .next (vecUnpk 0x20 8 mxf8 u f s)

/-- VUNPK.MXF6 (R110). -/
def execVunpkMxf6 (u : Issue) (f : Fields) (s : State) : Answer := .next (vecUnpk 0x21 6 mxf6 u f s)

/-- VUNPK.MXF4 (R110). -/
def execVunpkMxf4 (u : Issue) (f : Fields) (s : State) : Answer := .next (vecUnpk 0x22 4 (fun _ => .e2m1) u f s)

/-- VUNPK.MXI8 (R110). -/
def execVunpkMxi8 (u : Issue) (f : Fields) (s : State) : Answer := .next (vecUnpk 0x23 8 (fun _ => .int8) u f s)

/-- VRCP (R113). -/
def execVrcp (u : Issue) (f : Fields) (s : State) : Answer := .next (vecEst 0x28 estRcp u f s)

/-- VRSQ (R113). -/
def execVrsq (u : Issue) (f : Fields) (s : State) : Answer := .next (vecEst 0x29 estRsq u f s)

/-- VEXP2 (R113). -/
def execVexp2 (u : Issue) (f : Fields) (s : State) : Answer := .next (vecEst 0x2A estExp2 u f s)

/-- VLOG2 (R113). -/
def execVlog2 (u : Issue) (f : Fields) (s : State) : Answer := .next (vecEst 0x2B estLog2 u f s)

/-- VSUM: lane 0 of d := sum of the lanes of a; other lanes 0 (R71, R120). -/
def execVsum (u : Issue) (f : Fields) (s : State) : Answer :=
  .next (s.issue u f 0x3 0x30 (fun q =>
    let v := q.x.rv q.f.srca.toNat
    let r := vsumOf (keyDie q.k) v ((lanes v).map ofF32)
    .done q.s (q.flagged r.2) (q.x.wv q.f.dest.toNat (r.1.setWidth 512) (q.c + 6)) none))

/-- VRMAX: lane 0 of d := maximum of the lanes of a under VMAX's rules; other lanes 0 (R71, R112). -/
def execVrmax (u : Issue) (f : Fields) (s : State) : Answer :=
  .next (s.issue u f 0x3 0x31 (fun q =>
    let ls := lanes (q.x.rv q.f.srca.toNat)
    q.write (q.x.wv q.f.dest.toNat ((ls.foldl f32Max (lane (q.x.rv q.f.srca.toNat) 0)).setWidth 512) (q.c + 6))))

end Sys2Proof.Machine
end

