-- ==== Sys2Proof/Machine/Dispatch.lean ====
section
/-! DEFINITION. One arm per command: a direct call of its meaning. -/

namespace Sys2Proof.Machine

def exec (i : Instr) (s : State) : Host.Outcome State Fault Refusal :=
  match i with
  | .add u f => Sys2Proof.Machine.execAdd u f s
  | .sub u f => Sys2Proof.Machine.execSub u f s
  | .and u f => Sys2Proof.Machine.execAnd u f s
  | .or u f => Sys2Proof.Machine.execOr u f s
  | .xor u f => Sys2Proof.Machine.execXor u f s
  | .sll u f => Sys2Proof.Machine.execSll u f s
  | .srl u f => Sys2Proof.Machine.execSrl u f s
  | .sra u f => Sys2Proof.Machine.execSra u f s
  | .mul u f => Sys2Proof.Machine.execMul u f s
  | .mulhu u f => Sys2Proof.Machine.execMulhu u f s
  | .mulhs u f => Sys2Proof.Machine.execMulhs u f s
  | .min u f => Sys2Proof.Machine.execMin u f s
  | .max u f => Sys2Proof.Machine.execMax u f s
  | .minu u f => Sys2Proof.Machine.execMinu u f s
  | .maxu u f => Sys2Proof.Machine.execMaxu u f s
  | .sel u f => Sys2Proof.Machine.execSel u f s
  | .addi u f => Sys2Proof.Machine.execAddi u f s
  | .andi u f => Sys2Proof.Machine.execAndi u f s
  | .ori u f => Sys2Proof.Machine.execOri u f s
  | .xori u f => Sys2Proof.Machine.execXori u f s
  | .slli u f => Sys2Proof.Machine.execSlli u f s
  | .srli u f => Sys2Proof.Machine.execSrli u f s
  | .srai u f => Sys2Proof.Machine.execSrai u f s
  | .muli u f => Sys2Proof.Machine.execMuli u f s
  | .movhi u f => Sys2Proof.Machine.execMovhi u f s
  | .cmpeq u f => Sys2Proof.Machine.execCmpeq u f s
  | .cmplt u f => Sys2Proof.Machine.execCmplt u f s
  | .cmpltu u f => Sys2Proof.Machine.execCmpltu u f s
  | .cmpeqi u f => Sys2Proof.Machine.execCmpeqi u f s
  | .cmplti u f => Sys2Proof.Machine.execCmplti u f s
  | .cmpltui u f => Sys2Proof.Machine.execCmpltui u f s
  | .pand u f => Sys2Proof.Machine.execPand u f s
  | .por u f => Sys2Proof.Machine.execPor u f s
  | .pxor u f => Sys2Proof.Machine.execPxor u f s
  | .pandn u f => Sys2Proof.Machine.execPandn u f s
  | .ldb u f => Sys2Proof.Machine.execLdb u f s
  | .ldh u f => Sys2Proof.Machine.execLdh u f s
  | .ldw u f => Sys2Proof.Machine.execLdw u f s
  | .ldd u f => Sys2Proof.Machine.execLdd u f s
  | .ldbs u f => Sys2Proof.Machine.execLdbs u f s
  | .ldhs u f => Sys2Proof.Machine.execLdhs u f s
  | .ldws u f => Sys2Proof.Machine.execLdws u f s
  | .stb u f => Sys2Proof.Machine.execStb u f s
  | .sth u f => Sys2Proof.Machine.execSth u f s
  | .stw u f => Sys2Proof.Machine.execStw u f s
  | .std u f => Sys2Proof.Machine.execStd u f s
  | .vld u f => Sys2Proof.Machine.execVld u f s
  | .vst u f => Sys2Proof.Machine.execVst u f s
  | .br u f => Sys2Proof.Machine.execBr u f s
  | .brr u f => Sys2Proof.Machine.execBrr u f s
  | .call u f => Sys2Proof.Machine.execCall u f s
  | .loop u f => Sys2Proof.Machine.execLoop u f s
  | .loopr u f => Sys2Proof.Machine.execLoopr u f s
  | .lpop u f => Sys2Proof.Machine.execLpop u f s
  | .vadd u f => Sys2Proof.Machine.execVadd u f s
  | .vsub u f => Sys2Proof.Machine.execVsub u f s
  | .vmul u f => Sys2Proof.Machine.execVmul u f s
  | .vfma u f => Sys2Proof.Machine.execVfma u f s
  | .vmin u f => Sys2Proof.Machine.execVmin u f s
  | .vmax u f => Sys2Proof.Machine.execVmax u f s
  | .vfcmplt u f => Sys2Proof.Machine.execVfcmplt u f s
  | .vfcmpeq u f => Sys2Proof.Machine.execVfcmpeq u f s
  | .viadd u f => Sys2Proof.Machine.execViadd u f s
  | .visub u f => Sys2Proof.Machine.execVisub u f s
  | .vand u f => Sys2Proof.Machine.execVand u f s
  | .vor u f => Sys2Proof.Machine.execVor u f s
  | .vxor u f => Sys2Proof.Machine.execVxor u f s
  | .vshli u f => Sys2Proof.Machine.execVshli u f s
  | .vshri u f => Sys2Proof.Machine.execVshri u f s
  | .vblend u f => Sys2Proof.Machine.execVblend u f s
  | .vperm u f => Sys2Proof.Machine.execVperm u f s
  | .vbcast u f => Sys2Proof.Machine.execVbcast u f s
  | .vget u f => Sys2Proof.Machine.execVget u f s
  | .vset u f => Sys2Proof.Machine.execVset u f s
  | .vany u f => Sys2Proof.Machine.execVany u f s
  | .vicmplt u f => Sys2Proof.Machine.execVicmplt u f s
  | .vcvtBf16 u f => Sys2Proof.Machine.execVcvtBf16 u f s
  | .vcvtFp16 u f => Sys2Proof.Machine.execVcvtFp16 u f s
  | .vextBf16 u f => Sys2Proof.Machine.execVextBf16 u f s
  | .vextFp16 u f => Sys2Proof.Machine.execVextFp16 u f s
  | .vpackMxf8 u f => Sys2Proof.Machine.execVpackMxf8 u f s
  | .vpackMxf6 u f => Sys2Proof.Machine.execVpackMxf6 u f s
  | .vpackMxf4 u f => Sys2Proof.Machine.execVpackMxf4 u f s
  | .vpackMxi8 u f => Sys2Proof.Machine.execVpackMxi8 u f s
  | .vunpkMxf8 u f => Sys2Proof.Machine.execVunpkMxf8 u f s
  | .vunpkMxf6 u f => Sys2Proof.Machine.execVunpkMxf6 u f s
  | .vunpkMxf4 u f => Sys2Proof.Machine.execVunpkMxf4 u f s
  | .vunpkMxi8 u f => Sys2Proof.Machine.execVunpkMxi8 u f s
  | .vrcp u f => Sys2Proof.Machine.execVrcp u f s
  | .vrsq u f => Sys2Proof.Machine.execVrsq u f s
  | .vexp2 u f => Sys2Proof.Machine.execVexp2 u f s
  | .vlog2 u f => Sys2Proof.Machine.execVlog2 u f s
  | .vsum u f => Sys2Proof.Machine.execVsum u f s
  | .vrmax u f => Sys2Proof.Machine.execVrmax u f s
  | .mopBf16 u f => Sys2Proof.Machine.execMopBf16 u f s
  | .mopFp16 u f => Sys2Proof.Machine.execMopFp16 u f s
  | .mopMxi8 u f => Sys2Proof.Machine.execMopMxi8 u f s
  | .mopMxf8 u f => Sys2Proof.Machine.execMopMxf8 u f s
  | .mopMxf6 u f => Sys2Proof.Machine.execMopMxf6 u f s
  | .mopMxf4 u f => Sys2Proof.Machine.execMopMxf4 u f s
  | .mopArrayDone t => Sys2Proof.Machine.execMopArrayDone t s
  | .ast u f => Sys2Proof.Machine.execAst u f s
  | .ald u f => Sys2Proof.Machine.execAld u f s
  | .mzero u f => Sys2Proof.Machine.execMzero u f s
  | .aget u f => Sys2Proof.Machine.execAget u f s
  | .msend u f => Sys2Proof.Machine.execMsend u f s
  | .mwait u f => Sys2Proof.Machine.execMwait u f s
  | .mtest u f => Sys2Proof.Machine.execMtest u f s
  | .mcnt u f => Sys2Proof.Machine.execMcnt u f s
  | .mquiet u f => Sys2Proof.Machine.execMquiet u f s
  | .hsend u f => Sys2Proof.Machine.execHsend u f s
  | .hbcast u f => Sys2Proof.Machine.execHbcast u f s
  | .hget u f => Sys2Proof.Machine.execHget u f s
  | .esend u f => Sys2Proof.Machine.execEsend u f s
  | .hquiet u f => Sys2Proof.Machine.execHquiet u f s
  | .xldD u f => Sys2Proof.Machine.execXldD u f s
  | .xldV u f => Sys2Proof.Machine.execXldV u f s
  | .xstD u f => Sys2Proof.Machine.execXstD u f s
  | .xstV u f => Sys2Proof.Machine.execXstV u f s
  | .xadd u f => Sys2Proof.Machine.execXadd u f s
  | .xfadd u f => Sys2Proof.Machine.execXfadd u f s
  | .xswap u f => Sys2Proof.Machine.execXswap u f s
  | .xcas u f => Sys2Proof.Machine.execXcas u f s
  | .stampAt u f => Sys2Proof.Machine.execStampAt u f s
  | .stampReached t => Sys2Proof.Machine.execStampReached t s
  | .sync u f => Sys2Proof.Machine.execSync u f s
  | .tickend u f => Sys2Proof.Machine.execTickend u f s
  | .srd u f => Sys2Proof.Machine.execSrd u f s
  | .swr u f => Sys2Proof.Machine.execSwr u f s
  | .stime u f => Sys2Proof.Machine.execStime u f s
  | .stick u f => Sys2Proof.Machine.execStick u f s
  | .coreCheck t => Sys2Proof.Machine.execCoreCheck t s
  | .sramWriteBack t word => Sys2Proof.Machine.execSramWriteBack t word s
  | .remoteResponse p io => Sys2Proof.Machine.execRemoteResponse p io s
  | .remoteTimeout t thread => Sys2Proof.Machine.execRemoteTimeout t thread s
  | .sendInject t loose => Sys2Proof.Machine.execSendInject t loose s
  | .meshSlotWindowOpen t cycle => Sys2Proof.Machine.execMeshSlotWindowOpen t cycle s
  | .meshPacketArrival t k ev => Sys2Proof.Machine.execMeshPacketArrival t k ev s
  | .reducePacketCombine t k ev => Sys2Proof.Machine.execReducePacketCombine t k ev s
  | .forkSlip t => Sys2Proof.Machine.execForkSlip t s
  | .syncToken t g ev => Sys2Proof.Machine.execSyncToken t g ev s
  | .syncRelease t g evs => Sys2Proof.Machine.execSyncRelease t g evs s
  | .syncFence die pauses => Sys2Proof.Machine.execSyncFence die pauses s
  | .crossingSlip t cycles => Sys2Proof.Machine.execCrossingSlip t cycles s
  | .tickBeacon => Sys2Proof.Machine.execTickBeacon s
  | .idleBeacon => Sys2Proof.Machine.execIdleBeacon s
  | .flywheelBeacon => Sys2Proof.Machine.execFlywheelBeacon s
  | .tickInEdge offsetNs => Sys2Proof.Machine.execTickInEdge offsetNs s
  | .guardStart => Sys2Proof.Machine.execGuardStart s
  | .localVerdictFinal => Sys2Proof.Machine.execLocalVerdictFinal s
  | .voteClose => Sys2Proof.Machine.execVoteClose s
  | .voteSend => Sys2Proof.Machine.execVoteSend s
  | .voteWaitExpiry => Sys2Proof.Machine.execVoteWaitExpiry s
  | .commitDecision => Sys2Proof.Machine.execCommitDecision s
  | .decisionLost => Sys2Proof.Machine.execDecisionLost s
  | .coreFencePrepare t => Sys2Proof.Machine.execCoreFencePrepare t s
  | .spareLoadingEnd die => Sys2Proof.Machine.execSpareLoadingEnd die s
  | .dieFailure die => Sys2Proof.Machine.execDieFailure die s
  | .takeoverEnd => Sys2Proof.Machine.execTakeoverEnd s
  | .jobTeardown => Sys2Proof.Machine.execJobTeardown s
  | .checkpointSnapshotEnd stack ok => Sys2Proof.Machine.execCheckpointSnapshotEnd stack ok s
  | .peerCheckpointTransfer => Sys2Proof.Machine.execPeerCheckpointTransfer s
  | .healthReport bistPass bistFail lanesBad => Sys2Proof.Machine.execHealthReport bistPass bistFail lanesBad s
  | .yield => Sys2Proof.Machine.execYield s
  | .stokerSnapshot => Sys2Proof.Machine.execStokerSnapshot s
  | .stokerFailover failed => Sys2Proof.Machine.execStokerFailover failed s
  | .stokerReturn => Sys2Proof.Machine.execStokerReturn s
  | .criticalPairSweep base bad => Sys2Proof.Machine.execCriticalPairSweep base bad s
  | .hearthWindowOpen p g cycle => Sys2Proof.Machine.execHearthWindowOpen p g cycle s
  | .hearthBlockReceive p k lane noise => Sys2Proof.Machine.execHearthBlockReceive p k lane noise s
  | .broadcastBlockLanding p pos evs => Sys2Proof.Machine.execBroadcastBlockLanding p pos evs s
  | .readRequest stack src => Sys2Proof.Machine.execReadRequest stack src s
  | .readResponseLanding p src evs => Sys2Proof.Machine.execReadResponseLanding p src evs s
  | .memoryWrite stack src => Sys2Proof.Machine.execMemoryWrite stack src s
  | .reserveOff p src => Sys2Proof.Machine.execReserveOff p src s
  | .reserveOn p src => Sys2Proof.Machine.execReserveOn p src s
  | .offFrame p x cycle => Sys2Proof.Machine.execOffFrame p x cycle s
  | .onFrame p x cycle => Sys2Proof.Machine.execOnFrame p x cycle s
  | .pilotTickBeacon p x => Sys2Proof.Machine.execPilotTickBeacon p x s
  | .pilotGuardStart p x => Sys2Proof.Machine.execPilotGuardStart p x s
  | .firmwareWord p laneB x => Sys2Proof.Machine.execFirmwareWord p laneB x s
  | .laneSet p x => Sys2Proof.Machine.execLaneSet p x s
  | .errorReport p x => Sys2Proof.Machine.execErrorReport p x s
  | .pilotFrameLost p laneB x => Sys2Proof.Machine.execPilotFrameLost p laneB x s
  | .pilotComplementMismatch p laneB x => Sys2Proof.Machine.execPilotComplementMismatch p laneB x s
  | .laneFail p lane => Sys2Proof.Machine.execLaneFail p lane s
  | .laneSwapToSpare a v => Sys2Proof.Machine.execLaneSwapToSpare a v s
  | .laneSwapReturn a v => Sys2Proof.Machine.execLaneSwapReturn a v s
  | .sumPacketQueue p k ev => Sys2Proof.Machine.execSumPacketQueue p k ev s
  | .sumRoundSend p packets => Sys2Proof.Machine.execSumRoundSend p packets s
  | .sumRoundReceive p entry preamble => Sys2Proof.Machine.execSumRoundReceive p entry preamble s
  | .sumResultDelivery p evs => Sys2Proof.Machine.execSumResultDelivery p evs s
  | .toneWindow p det sender tone gainErr offsetErr => Sys2Proof.Machine.execToneWindow p det sender tone gainErr offsetErr s
  | .referenceLost detected edges => Sys2Proof.Machine.execReferenceLost detected edges s
  | .referenceReturned => Sys2Proof.Machine.execReferenceReturned s
  | .timeStep a v => Sys2Proof.Machine.execTimeStep a v s
  | .ptpMessage port h c p m => Sys2Proof.Machine.execPtpMessage port h c p m s
  | .inputDeadline stack ring => Sys2Proof.Machine.execInputDeadline stack ring s
  | .patrolScrub stack line => Sys2Proof.Machine.execPatrolScrub stack line s
  | .fabricAtomic stack => Sys2Proof.Machine.execFabricAtomic stack s
  | .trainingCell port c => Sys2Proof.Machine.execTrainingCell port c s
  | .linkDown port reason => Sys2Proof.Machine.execLinkDown port reason s
  | .linkUp port => Sys2Proof.Machine.execLinkUp port s
  | .fabricCellReceive port bits fec => Sys2Proof.Machine.execFabricCellReceive port bits fec s
  | .replayRequest port ack => Sys2Proof.Machine.execReplayRequest port ack s
  | .linkDelayMeasure port ps stamp => Sys2Proof.Machine.execLinkDelayMeasure port ps stamp s
  | .scheduledWindowStart port cycle => Sys2Proof.Machine.execScheduledWindowStart port cycle s
  | .scheduledCellReceive port => Sys2Proof.Machine.execScheduledCellReceive port s
  | .remoteRequest place => Sys2Proof.Machine.execRemoteRequest place s
  | .combinerFlush path => Sys2Proof.Machine.execCombinerFlush path s
  | .beaconFrame port residencePs => Sys2Proof.Machine.execBeaconFrame port residencePs s
  | .vote port => Sys2Proof.Machine.execVote port s
  | .decision port => Sys2Proof.Machine.execDecision port s
  | .echoRequest port residencePs => Sys2Proof.Machine.execEchoRequest port residencePs s
  | .echoReply port arrival => Sys2Proof.Machine.execEchoReply port arrival s
  | .loss => Sys2Proof.Machine.execLoss s
  | .mhpDatagram port h c addr udp bytes peer => Sys2Proof.Machine.execMhpDatagram port h c addr udp bytes peer s
  | .hello r majors minor1 role take => Sys2Proof.Machine.execHello r majors minor1 role take s
  | .bye r => Sys2Proof.Machine.execBye r s
  | .keepalive r => Sys2Proof.Machine.execKeepalive r s
  | .getStatus r => Sys2Proof.Machine.execGetStatus r s
  | .regRead r addr count => Sys2Proof.Machine.execRegRead r addr count s
  | .regWrite r addr words => Sys2Proof.Machine.execRegWrite r addr words s
  | .loadJob r normalLen degOff degLen => Sys2Proof.Machine.execLoadJob r normalLen degOff degLen s
  | .unloadJob r => Sys2Proof.Machine.execUnloadJob r s
  | .startJob r first restore peer => Sys2Proof.Machine.execStartJob r first restore peer s
  | .stopJob r => Sys2Proof.Machine.execStopJob r s
  | .drainEnd => Sys2Proof.Machine.execDrainEnd s
  | .teardown r => Sys2Proof.Machine.execTeardown r s
  | .bank r => Sys2Proof.Machine.execBank r s
  | .wake r => Sys2Proof.Machine.execWake r s
  | .wakeComplete => Sys2Proof.Machine.execWakeComplete s
  | .reset r scope unit => Sys2Proof.Machine.execReset r scope unit s
  | .rstReqWrite a v => Sys2Proof.Machine.execRstReqWrite a v s
  | .configRevert r => Sys2Proof.Machine.execConfigRevert r s
  | .mbxSend r chan words => Sys2Proof.Machine.execMbxSend r chan words s
  | .mbxRecv r chan => Sys2Proof.Machine.execMbxRecv r chan s
  | .openQp r remoteQpn remotePsn mtu gid kind => Sys2Proof.Machine.execOpenQp r remoteQpn remotePsn mtu gid kind s
  | .closeQp r qpn => Sys2Proof.Machine.execCloseQp r qpn s
  | .subscribe r mask => Sys2Proof.Machine.execSubscribe r mask s
  | .getQuote r nonce => Sys2Proof.Machine.execGetQuote r nonce s
  | .sessionIdleTimeout slot => Sys2Proof.Machine.execSessionIdleTimeout slot s
  | .rdmaWrite port h c op x data => Sys2Proof.Machine.execRdmaWrite port h c op x data s
  | .rdmaRead port h c x => Sys2Proof.Machine.execRdmaRead port h c x s
  | .cnpReceive port h c qpn => Sys2Proof.Machine.execCnpReceive port h c qpn s
  | .pfcPause port x => Sys2Proof.Machine.execPfcPause port x s
  | .arpRequest port h v6 echo addr body => Sys2Proof.Machine.execArpRequest port h v6 echo addr body s
  | .frameDrop port h c icrcBad => Sys2Proof.Machine.execFrameDrop port h c icrcBad s
  | .mbxInWr m c w => Sys2Proof.Machine.execMbxInWr m c w s
  | .mbxInRd m c => Sys2Proof.Machine.execMbxInRd m c s
  | .mbxInBell m c w => Sys2Proof.Machine.execMbxInBell m c w s
  | .mbxOutWr m c w => Sys2Proof.Machine.execMbxOutWr m c w s
  | .mbxOutRd m c => Sys2Proof.Machine.execMbxOutRd m c s
  | .mbxOutBell m c w => Sys2Proof.Machine.execMbxOutBell m c w s
  | .mbxAckWrite m c out w => Sys2Proof.Machine.execMbxAckWrite m c out w s
  | .mbxAckRead m c out => Sys2Proof.Machine.execMbxAckRead m c out s
  | .mbxVerWrite m c w => Sys2Proof.Machine.execMbxVerWrite m c w s
  | .mailboxMessageExpiry c out => Sys2Proof.Machine.execMailboxMessageExpiry c out s
  | .rwcLowWrite a v => Sys2Proof.Machine.execRwcLowWrite a v s
  | .rwcHighWrite a v => Sys2Proof.Machine.execRwcHighWrite a v s
  | .rwcPendingExpiry addr => Sys2Proof.Machine.execRwcPendingExpiry addr s
  | .lockWrite a v => Sys2Proof.Machine.execLockWrite a v s
  | .tblAddrWrite m b v => Sys2Proof.Machine.execTblAddrWrite m b v s
  | .tblDataRead m b high => Sys2Proof.Machine.execTblDataRead m b high s
  | .mshShadowReady m die v => Sys2Proof.Machine.execMshShadowReady m die v s
  | .hrtShadowReady m v => Sys2Proof.Machine.execHrtShadowReady m v s
  | .timeLoRead a => Sys2Proof.Machine.execTimeLoRead a s
  | .tckSrcWrite m v => Sys2Proof.Machine.execTckSrcWrite m v s
  | .tckPeriodWrite m v => Sys2Proof.Machine.execTckPeriodWrite m v s
  | .pwrBudgetWrite m v => Sys2Proof.Machine.execPwrBudgetWrite m v s
  | .fabLockWrite m io v => Sys2Proof.Machine.execFabLockWrite m io v s
  | .portRetrain m port v => Sys2Proof.Machine.execPortRetrain m port v s
  | .glvExtDataWrite m w v => Sys2Proof.Machine.execGlvExtDataWrite m w v s
  | .cfgFlashDataWrite m v => Sys2Proof.Machine.execCfgFlashDataWrite m v s
  | .registerWrite a v => Sys2Proof.Machine.execRegisterWrite a v s
  | .controlAccessTimeout a write took => Sys2Proof.Machine.execControlAccessTimeout a write took s
  | .reReference m => Sys2Proof.Machine.execReReference m s
  | .combReturn m bank pos => Sys2Proof.Machine.execCombReturn m bank pos s
  | .spareStart m bank pos => Sys2Proof.Machine.execSpareStart m bank pos s
  | .spareHandover m bank pos => Sys2Proof.Machine.execSpareHandover m bank pos s
  | .spareLock bank => Sys2Proof.Machine.execSpareLock bank s
  | .spareLockTimeout bank => Sys2Proof.Machine.execSpareLockTimeout bank s
  | .handoverRampEnd bank => Sys2Proof.Machine.execHandoverRampEnd bank s
  | .heaterLoopWindow e error move => Sys2Proof.Machine.execHeaterLoopWindow e error move s
  | .laneCalibration m v => Sys2Proof.Machine.execLaneCalibration m v s
  | .sumDelayCalibration m v => Sys2Proof.Machine.execSumDelayCalibration m v s
  | .lockThresholdCalibration m v => Sys2Proof.Machine.execLockThresholdCalibration m v s
  | .calibrationMeasurementEnd r => Sys2Proof.Machine.execCalibrationMeasurementEnd r s
  | .housekeepingRound x => Sys2Proof.Machine.execHousekeepingRound x s
  | .damperStageChange die => Sys2Proof.Machine.execDamperStageChange die s
  | .coolSecond => Sys2Proof.Machine.execCoolSecond s
  | .wearSecond => Sys2Proof.Machine.execWearSecond s
  | .brownOut dom => Sys2Proof.Machine.execBrownOut dom s
  | .bankEntryEnd => Sys2Proof.Machine.execBankEntryEnd s
  | .coldReset source detail also => Sys2Proof.Machine.execColdReset source detail also s
  | .warmReset source detail also => Sys2Proof.Machine.execWarmReset source detail also s
  | .dieReset unit source detail also => Sys2Proof.Machine.execDieReset unit source detail also s
  | .jobReset => Sys2Proof.Machine.execJobReset s
  | .releaseStepEnd ok bistFails => Sys2Proof.Machine.execReleaseStepEnd ok bistFails s
  | .optionLoad => Sys2Proof.Machine.execOptionLoad s
  | .setSignatureVerify => Sys2Proof.Machine.execSetSignatureVerify s
  | .bootLimitExpiry also => Sys2Proof.Machine.execBootLimitExpiry also s
  | .stokerWatchdogExpiry => Sys2Proof.Machine.execStokerWatchdogExpiry s
  | .eraseRegion m => Sys2Proof.Machine.execEraseRegion m s
  | .checkRegion m => Sys2Proof.Machine.execCheckRegion m s
  | .selfTests m => Sys2Proof.Machine.execSelfTests m s
  | .ownerRootRecord m => Sys2Proof.Machine.execOwnerRootRecord m s
  | .extendM3 m => Sys2Proof.Machine.execExtendM3 m s
  | .tamper cause => Sys2Proof.Machine.execTamper cause s
  | .entropyHealthFail => Sys2Proof.Machine.execEntropyHealthFail s
  | .inputQualified => Sys2Proof.Machine.execInputQualified s
  | .inputLost => Sys2Proof.Machine.execInputLost s
  | .vbakApplied => Sys2Proof.Machine.execVbakApplied s
  | .vbakLost => Sys2Proof.Machine.execVbakLost s
  | .modResetN low => Sys2Proof.Machine.execModResetN low s
  | .i2cRead count => Sys2Proof.Machine.execI2cRead count s
  | .i2cOffsetWrite off => Sys2Proof.Machine.execI2cOffsetWrite off s
  | .opticOverpower port => Sys2Proof.Machine.execOpticOverpower port s
  | .droopStretch die region quarters => Sys2Proof.Machine.execDroopStretch die region quarters s
  | .syncIntervalMissed => Sys2Proof.Machine.execSyncIntervalMissed s
  | .hostLinkDown port => Sys2Proof.Machine.execHostLinkDown port s
  | .hostLinkUp port => Sys2Proof.Machine.execHostLinkUp port s
  | .loadJobEnd => Sys2Proof.Machine.execLoadJobEnd s
  | .cfgCmdEnd flashOk => Sys2Proof.Machine.execCfgCmdEnd flashOk s
  | .glvCmdEnd testsPass => Sys2Proof.Machine.execGlvCmdEnd testsPass s
  | .quoteSigned => Sys2Proof.Machine.execQuoteSigned s

end Sys2Proof.Machine
end

