-- ==== Sys2Proof/Machine/Period.lean ====
section
/-! DEFINITION. One period of the time clock, 0.625 ns, in which no command arrives (R217, R224): the module time counters, and the milliseconds
that CLK_HOLD_MS and TCK_STOKER.snap_age count. -/

namespace Sys2Proof.Machine

/-- Whether the unit of a module time counter runs: 0 to 15 compute, 16 to 31 memory, 32 to 35 I/O, 36 hub; the hub counts from the release of a
Cold reset on (R224). -/
def State.counts (s : State) (u : Nat) : Bool :=
  if u < 36 then s.boot.input && s.unitOn u else s.mode != .off && !(s.boot.active && s.boot.scope == 0 && s.boot.step == 1)

/-- One counter's period: 0.625 ns, which is 40,960 units of 2^-16 ns, with its slew in parts of 10^9. -/
def State.advanceUnit (s : State) (u : Nat) : State :=
  let t := s.slewRest.get 0 u + (40960 * (1000000000 + s.slew.get 0 u)).toNat
  { s with clock := s.clock.set 0 u ((s.clock.get 0 u + t / 1000000000) % 2 ^ 80), slewRest := s.slewRest.set 0 u (t % 1000000000) }

/-- The counters that run, in order. -/
def State.advanceUnits (s : State) : List Nat → State
  | [] => s
  | u :: us => (if s.counts u then s.advanceUnit u else s).advanceUnits us

/-- A millisecond of the hub's counter ends: counted in holdover, and in the age of the Stoker's snapshot (R221, R359). -/
def State.millisecond (s : State) : State :=
  let s := if fld (s.reg Reg.CLK_STATUS) 31 30 = 2 then s.bumpReg Reg.CLK_HOLD_MS 31 0 else s
  if s.stokerRuns then s.bumpReg Reg.TCK_STOKER 27 20 else s

/-- A time-clock period without a command. -/
def State.period (s : State) : State :=
  let t := s.advanceUnits (List.range 37)
  if s.timeNs 36 / 1000000 = t.timeNs 36 / 1000000 then t else t.millisecond

end Sys2Proof.Machine
end

