-- ==== Sys2Proof/Safety.lean ====
section
/-! DEFINITION. The words in which claims are made: when a tile instruction issues and nothing stops it, what it may leave changed, and what
keeps every memory in its canonical form. -/

namespace Sys2Proof.Machine

/-! ### Tile instructions -/

/-- The thread that issues, as the state holds it. -/
def State.at_ (s : State) (u : Issue) : Thread := (s.tile u.tile.key).thread u.thread

/-- The cycle in which a thread that may issue does so (R34, R44, R45). -/
def State.cycleOf (s : State) (u : Issue) : Nat := (s.tile u.tile.key).issueCycle u.thread u.cycle

/-- The thread may issue and is the core's choice for its cycle, and its fetch is good and brings this very instruction: its program counter, loop state,
predicate register and program-store word hold no uncorrectable error, and it is neither the erased-store code nor a control instruction at a
loop end (R26, R27, R31, R34, R59, R70). -/
def State.fetched (s : State) (u : Issue) (f : Fields) (cls fn : Nat) : Bool :=
  let t := s.tile u.tile.key
  let x := s.at_ u
  s.mayIssue u.tile.key u.thread && s.chosen u.tile.key u.thread (s.cycleOf u) && wordIs (t.word x.pc) cls fn f &&
    !(regBad t x .pc) && t.pstoreEcc.get .good x.pc != .double && !(regBad t x (.p f.pidx.toNat)) && (x.loops.isEmpty || !(regBad t x .loops)) &&
    !(cls == 15 && fn == 0x3F) && !(cls == 2 && x.loops.any (fun l => l.stop == x.pc))

/-- The predicate that an instruction names, under its negate bit, is 1 (R33). -/
def State.holds (s : State) (u : Issue) (f : Fields) : Bool := (s.at_ u).holds f

/-- A fetched instruction whose predicate holds, whose class its thread may issue, and whose operands are in range and free of parity errors (R31, R33,
R39, R59 to R61). -/
def State.legal (s : State) (u : Issue) (f : Fields) (cls fn : Nat) : Bool :=
  s.fetched u f cls fn && s.holds u f && classAllowed cls fn u.thread &&
    (match opSpec cls fn f with
    | some sp => !(sp.illegal f) && !((sp.reads f).any (regBad (s.tile u.tile.key) (s.at_ u)))
    | none => false)

/-- A legal instruction that does not run off the end of the program store (R27). -/
def State.clear (s : State) (u : Issue) (f : Fields) (cls fn : Nat) : Bool :=
  s.legal u f cls fn && decide ((loopEnd (s.at_ u).loops (s.at_ u).pc).2 ≤ 4095)

/-- What an instruction of a core leaves alone whatever it computes: every other tile, the core's other threads, and, of the tile, all but the
issuing thread, the bookkeeping of issue, and the system registers TIL_WAIT_CYCLES, TIL_ECC_COUNT and those in `sys`. -/
def onlyThread (s t : State) (u : Issue) (sys : List Nat) : Prop :=
  let k := u.tile.key
  let a := s.tile k
  (∀ j, j ≠ k → t.tile j = s.tile j) ∧ (∀ m, m ≠ u.thread.val → (t.tile k).thread m = a.thread m) ∧
    (∀ i, i ≠ 11 → i ≠ 12 → i ∉ sys → (t.tile k).sys i = a.sys i) ∧
    { t.tile k with threads := a.threads, cycle := a.cycle, lastLoose := a.lastLoose, portFree := a.portFree, til := a.til } = a

/-- The module beside the tiles is as before. -/
def sameBesideTiles (s t : State) : Prop := { t with tiles := s.tiles } = s

/-- The three register files after an instruction that wrote scalar register `d` alone: s0 stays zero (R31). -/
def wroteScalar (x y : Thread) (d : Nat) (v : DWord) : Prop :=
  (∀ m, y.rs m = if m = d ∧ d ≠ 0 then v else x.rs m) ∧ (∀ m, y.rv m = x.rv m) ∧ (∀ m, y.rp m = x.rp m)

/-- As `wroteScalar`, for predicate register `d`: p0 stays 1 (R31). -/
def wrotePred (x y : Thread) (d : Nat) (b : Bool) : Prop :=
  (∀ m, y.rs m = x.rs m) ∧ (∀ m, y.rv m = x.rv m) ∧ (∀ m, y.rp m = if m = d ∧ d ≠ 0 then b else x.rp m)

/-- As `wroteScalar`, for vector register `d`. -/
def wroteVector (x y : Thread) (d : Nat) (v : VReg) : Prop :=
  (∀ m, y.rs m = x.rs m) ∧ (∀ m, y.rv m = if m = d then v else x.rv m) ∧ (∀ m, y.rp m = x.rp m)

/-- No register written. -/
def sameRegisters (x y : Thread) : Prop := y.s = x.s ∧ y.v = x.v ∧ y.p = x.p

/-- The thread goes on behind the instruction, one index further or at a loop's start (R70). -/
def goesOn (x y : Thread) : Prop := y.pc = (loopEnd x.loops x.pc).2 ∧ y.loops = (loopEnd x.loops x.pc).1 ∧ y.state = x.state

/-- What a scalar instruction that writes register `d` with `v`, readable `lat` cycles after its issue, leaves. -/
def scalarDone (s t : State) (u : Issue) (d : Nat) (v : DWord) (lat : Nat) : Prop :=
  sameBesideTiles s t ∧ onlyThread s t u [] ∧ wroteScalar (s.at_ u) (t.at_ u) d v ∧ goesOn (s.at_ u) (t.at_ u) ∧
    (d ≠ 0 → (t.at_ u).readyAt (.s d) = s.cycleOf u + lat)

/-- As `scalarDone`, for predicate register `d`. -/
def predDone (s t : State) (u : Issue) (d : Nat) (b : Bool) (lat : Nat) : Prop :=
  sameBesideTiles s t ∧ onlyThread s t u [] ∧ wrotePred (s.at_ u) (t.at_ u) d b ∧ goesOn (s.at_ u) (t.at_ u) ∧
    (d ≠ 0 → (t.at_ u).readyAt (.p d) = s.cycleOf u + lat)

/-- The OR of the flag sets of sixteen lanes. -/
def laneFlags (g : Nat → Nat) : Nat := ((List.range 16).map g).foldr (fun a b => a ||| b) 0

/-- What a vector instruction that writes vector register `d`, and may set flags `fl` of its thread in TIL_FP_FLAGS (R117), leaves of its core. -/
def vectorStep (s t : State) (u : Issue) (d : Nat) (v : VReg) (lat fl : Nat) : Prop :=
  onlyThread s t u [13] ∧ wroteVector (s.at_ u) (t.at_ u) d v ∧ goesOn (s.at_ u) (t.at_ u) ∧
    (t.at_ u).readyAt (.v d) = s.cycleOf u + lat ∧
    (t.tile u.tile.key).sys 13 = (s.tile u.tile.key).sys 13 ||| BitVec.ofNat 32 (fl % 16 * 2 ^ (4 * u.thread.val))

/-- As `vectorStep`, with the module beside the tiles unchanged. -/
def vectorDone (s t : State) (u : Issue) (d : Nat) (v : VReg) (lat fl : Nat) : Prop := sameBesideTiles s t ∧ vectorStep s t u d v lat fl

/-- Both registers of a pair written with sixteen FP32 elements each, `v` being the 1,024 bits; flags as in `vectorDone`. -/
def pairDone (s t : State) (u : Issue) (d : Nat) (elem : Nat → Word) (lat fl : Nat) : Prop :=
  sameBesideTiles s t ∧ onlyThread s t u [13] ∧ goesOn (s.at_ u) (t.at_ u) ∧
    (∀ m, (t.at_ u).rs m = (s.at_ u).rs m) ∧ (∀ m, (t.at_ u).rp m = (s.at_ u).rp m) ∧
    (∀ m, m ≠ d → m ≠ d + 1 → (t.at_ u).rv m = (s.at_ u).rv m) ∧
    (∀ i < 32, lane ((t.at_ u).rv (d + i / 16)) (i % 16) = elem i) ∧
    (t.at_ u).readyAt (.v d) = s.cycleOf u + lat ∧
    (t.at_ u).readyAt (.v (d + 1)) = s.cycleOf u + lat ∧
    (t.tile u.tile.key).sys 13 = (s.tile u.tile.key).sys 13 ||| BitVec.ofNat 32 (fl % 16 * 2 ^ (4 * u.thread.val))

/-- What a local store of `bs` from offset `off` on leaves: those bytes, every other byte of the tile's SRAM, every register and every other
tile as before. -/
def storeDone (s t : State) (u : Issue) (off : Nat) (bs : List Byte) : Prop :=
  let k := u.tile.key
  let a := s.tile k
  sameBesideTiles s t ∧ (∀ j, j ≠ k → t.tile j = s.tile j) ∧ (∀ m, m ≠ u.thread.val → (t.tile k).thread m = a.thread m) ∧
    (∀ i, i ≠ 11 → i ≠ 12 → (t.tile k).sys i = a.sys i) ∧
    { t.tile k with threads := a.threads, cycle := a.cycle, lastLoose := a.lastLoose, portFree := a.portFree, til := a.til,
                    sram := a.sram, sramEcc := a.sramEcc, granules := a.granules } = a ∧
    (∀ x, (t.tile k).byte x = if off ≤ x ∧ x < off + bs.length then bs.getD (x - off) 0 else a.byte x) ∧
    sameRegisters (s.at_ u) (t.at_ u) ∧ goesOn (s.at_ u) (t.at_ u)

/-- Of a tile, all but the threads, the bookkeeping of issue and the send queue of thread `n` as before; the flags may rise. -/
def onlyQueue (a b : Tile) (n : Nat) : Prop :=
  { b with threads := a.threads, cycle := a.cycle, lastLoose := a.lastLoose, portFree := a.portFree, til := a.til, sendB := a.sendB, sendL := a.sendL } = a ∧
    (n = 0 → b.sendL = a.sendL) ∧ (n ≠ 0 → b.sendB = a.sendB) ∧ (∀ m, m ≠ n → b.thread m = a.thread m) ∧
    (∀ i, i ≠ 11 → i ≠ 12 → i ≠ 13 → b.sys i = a.sys i)

/-- What a fault of the issuing thread leaves: the thread stopped, its registers and the tile's memory kept, the first fault recorded with its
thread, index and offset or, where one stands, `more` set, and the tick it is charged to (R51, R54, R55). -/
def faultDone (s t : State) (u : Issue) (code offset : Nat) : Prop :=
  let k := u.tile.key
  let a := s.tile k
  let b := t.tile k
  (t.at_ u).state = .faulted ∧ sameRegisters (s.at_ u) (t.at_ u) ∧ (t.at_ u).pc = (s.at_ u).pc ∧
    (∀ m, m ≠ u.thread.val → b.thread m = a.thread m) ∧ (∀ j, j ≠ k → t.tile j = s.tile j) ∧
    b.sram = a.sram ∧ b.acc = a.acc ∧ b.sendB = a.sendB ∧ b.sendL = a.sendL ∧ b.ctr = a.ctr ∧
    (if flag (a.sys 7) 31 then b.sys 7 = setFlag (a.sys 7) 30 true ∧ b.sys 8 = a.sys 8 ∧ b.sys 9 = a.sys 9
     else b.sys 7 = BitVec.ofNat 32 (0x80000000 + code) ∧ b.sys 8 = BitVec.ofNat 32 (u.thread.val * 2 ^ 16 + (s.at_ u).pc % 4096) ∧
       b.sys 9 = BitVec.ofNat 32 (offset % 2 ^ 20)) ∧
    (if s.tick.closed then t.tick.chargeNext = true ∧ t.tick.charged = s.tick.charged
     else t.tick.charged = true ∧ t.tick.chargeNext = s.tick.chargeNext)

/-! ### Requests of the host (R292 to R297) -/

/-- A host port takes the request: MHP is on and the request is of the open session `x` and has not been seen. -/
def State.takes (s : State) (r : MhpReq) (x : Session) : Bool :=
  s.portUp r.port && flag (s.reg (Reg.HST_CTRL r.port)) 1 && s.sessionOf r == some x && decide (x.h < r.seq.toNat) && !(x.busy.contains r.seq.toNat)

/-- The state in which a new request is judged: its number is the highest seen of its session (R297). -/
def State.seen (s : State) (r : MhpReq) (x : Session) : State := s.onSession x.slot (fun y => { y with h := r.seq.toNat })

/-- The newest thing to leave the module is the response to a request, under the module's state and tick at sending. -/
def answered (t : State) (r : MhpReq) (code status : Nat) (payload : List Byte) : Prop :=
  t.out.head? = some (.response r code status t.mode.code t.seq payload (t.frameTag r.port))

/-! ### The Hearth -/

/-- A block of a port with this payload waits in its group's queue, or for a place there, or is on the light. -/
def State.onItsWay (s : State) (p dst : Nat) (data : List Byte) : Prop :=
  ∃ b : HBlock, b.src = p ∧ b.dst = dst ∧ b.data = data ∧
    (b ∈ ((s.port p).group (groupFor p dst)).queue ∨ b ∈ ((s.port p).group (groupFor p dst)).held ∨ b ∈ s.hearth.light)

/-! ### Memories -/

/-- A byte memory in canonical form: addresses rise strictly, no entry holds what an unlisted byte reads as. -/
def Memory.wf (unlisted : Byte) (m : List Host.Cell) : Bool := SMap.wf (α := Byte) (fun _ => unlisted) m

/-- Every tile SRAM, every memory stack and the flash are in canonical form (unlisted bytes of SRAM and DRAM read 0, of the flash 0xFF). -/
def State.memoriesWf (s : State) : Bool :=
  s.tiles.all (fun kt => Memory.wf 0 kt.2.sram) && s.stackMem.all (fun kx => Memory.wf 0 kx.2.dram) && Memory.wf 0xFF s.boot.flash

end Sys2Proof.Machine
end

