-- ==== Sys2Proof/Certificates/Slice0/Obligations.lean ====
section
/-! DEFINITION. The statements for the provers. -/

open Sys2Proof Sys2Proof.Machine

/-! ### The scalar ALU (R64) -/

/-- R64, two scalar operands: ADD, SUB, AND, OR, XOR, SLL, SRL, SRA, MUL, MULHU, MULHS, MIN, MAX, MINU, MAXU and SEL. R64, a scalar operand and the
immediate: ADDI, ANDI, ORI, XORI, MULI, MOVHI, and the shifts SLLI, SRLI, SRAI by imm[5:0]. R64, results in a predicate: the comparisons of two
registers, those with the sign-extended immediate, and PAND, POR, PXOR, PANDN. The choices of the model it rests on: log entries 5, 6. -/
def Obligations.ScalarAlu : Prop :=
  ((∀ r ∈ ([(Instr.add, 0x00, fun a b => a + b, 1), (Instr.sub, 0x01, fun a b => a - b, 1), (Instr.and, 0x02, fun a b => a &&& b, 1),
      (Instr.or, 0x03, fun a b => a ||| b, 1), (Instr.xor, 0x04, fun a b => a ^^^ b, 1),
      (Instr.sll, 0x05, fun a b => a <<< (b.extractLsb' 0 6).toNat, 1), (Instr.srl, 0x06, fun a b => a >>> (b.extractLsb' 0 6).toNat, 1),
      (Instr.sra, 0x07, fun a b => a.sshiftRight (b.extractLsb' 0 6).toNat, 1), (Instr.mul, 0x08, fun a b => a * b, 3),
      (Instr.mulhu, 0x09, fun a b => (a.setWidth 128 * b.setWidth 128).extractLsb' 64 64, 3),
      (Instr.mulhs, 0x0A, fun a b => (a.signExtend 128 * b.signExtend 128).extractLsb' 64 64, 3),
      (Instr.min, 0x0B, fun a b => if a.toInt ≤ b.toInt then a else b, 1), (Instr.max, 0x0C, fun a b => if a.toInt ≤ b.toInt then b else a, 1),
      (Instr.minu, 0x0D, fun a b => if a.toNat ≤ b.toNat then a else b, 1), (Instr.maxu, 0x0E, fun a b => if a.toNat ≤ b.toNat then b else a, 1)] :
      List ((Issue → Fields → Instr) × Nat × (DWord → DWord → DWord) × Nat)),
    ∀ (u : Issue) (f : Fields) (s : State), s.clear u f 0 r.2.1 = true →
      ∃ t : State, exec (r.1 u f) s = .next t ∧
        scalarDone s t u f.dest.toNat (r.2.2.1 ((s.at_ u).rs f.srca.toNat) ((s.at_ u).rs f.srcb.toNat)) r.2.2.2) ∧
  (∀ (u : Issue) (f : Fields) (s : State), s.clear u f 0 0x0F = true →
      ∃ t : State, exec (.sel u f) s = .next t ∧
        scalarDone s t u f.dest.toNat
          (if (s.at_ u).rp (f.imm.toNat % 8) then (s.at_ u).rs f.srca.toNat else (s.at_ u).rs f.srcb.toNat) 1)) ∧
  ((∀ r ∈ ([(Instr.addi, 0x10, fun a i => a + i.signExtend 64, 1), (Instr.andi, 0x11, fun a i => a &&& i.signExtend 64, 1),
      (Instr.ori, 0x12, fun a i => a ||| i.signExtend 64, 1), (Instr.xori, 0x13, fun a i => a ^^^ i.signExtend 64, 1),
      (Instr.muli, 0x17, fun a i => a * i.signExtend 64, 3), (Instr.movhi, 0x18, fun a i => i ++ a.setWidth 32, 1)] :
      List ((Issue → Fields → Instr) × Nat × (DWord → Word → DWord) × Nat)),
    ∀ (u : Issue) (f : Fields) (s : State), s.clear u f 0 r.2.1 = true →
      ∃ t : State, exec (r.1 u f) s = .next t ∧ scalarDone s t u f.dest.toNat (r.2.2.1 ((s.at_ u).rs f.srca.toNat) f.imm) r.2.2.2) ∧
  (∀ r ∈ ([(Instr.slli, 0x14, fun a n => a <<< n), (Instr.srli, 0x15, fun a n => a >>> n), (Instr.srai, 0x16, fun a n => a.sshiftRight n)] :
      List ((Issue → Fields → Instr) × Nat × (DWord → Nat → DWord))),
    ∀ (u : Issue) (f : Fields) (s : State), s.clear u f 0 r.2.1 = true →
      ∃ t : State, exec (r.1 u f) s = .next t ∧ scalarDone s t u f.dest.toNat (r.2.2 ((s.at_ u).rs f.srca.toNat) f.imm.toNat) 1)) ∧
  ((∀ r ∈ ([(Instr.cmpeq, 0x20, fun a b => decide (a = b)), (Instr.cmplt, 0x21, fun a b => decide (a.toInt < b.toInt)),
      (Instr.cmpltu, 0x22, fun a b => decide (a.toNat < b.toNat))] : List ((Issue → Fields → Instr) × Nat × (DWord → DWord → Bool))),
    ∀ (u : Issue) (f : Fields) (s : State), s.clear u f 0 r.2.1 = true →
      ∃ t : State, exec (r.1 u f) s = .next t ∧
        predDone s t u f.dest.toNat (r.2.2 ((s.at_ u).rs f.srca.toNat) ((s.at_ u).rs f.srcb.toNat)) 1) ∧
  (∀ r ∈ ([(Instr.cmpeqi, 0x23, fun a b => decide (a = b)), (Instr.cmplti, 0x24, fun a b => decide (a.toInt < b.toInt)),
      (Instr.cmpltui, 0x25, fun a b => decide (a.toNat < b.toNat))] : List ((Issue → Fields → Instr) × Nat × (DWord → DWord → Bool))),
    ∀ (u : Issue) (f : Fields) (s : State), s.clear u f 0 r.2.1 = true →
      ∃ t : State, exec (r.1 u f) s = .next t ∧
        predDone s t u f.dest.toNat (r.2.2 ((s.at_ u).rs f.srca.toNat) (f.imm.signExtend 64)) 1) ∧
  (∀ r ∈ ([(Instr.pand, 0x28, fun a b => a && b), (Instr.por, 0x29, fun a b => a || b), (Instr.pxor, 0x2A, fun a b => a != b),
      (Instr.pandn, 0x2B, fun a b => a && !b)] : List ((Issue → Fields → Instr) × Nat × (Bool → Bool → Bool))),
    ∀ (u : Issue) (f : Fields) (s : State), s.clear u f 0 r.2.1 = true →
      ∃ t : State, exec (r.1 u f) s = .next t ∧
        predDone s t u f.dest.toNat (r.2.2 ((s.at_ u).rp f.srca.toNat) ((s.at_ u).rp f.srcb.toNat)) 1))

/-! ### Scalar memory and control (R66 to R70) -/

/-- R66, R67, loads of the tile's own SRAM: LDB, LDH, LDW, LDD, LDBS, LDHS, LDWS and VLD take little-endian bytes from where EA leads, readable 2
cycles later from a near bank and 6 from a deep one. The choices of the model it rests on: log entries 5, 6, 10. -/
def Obligations.LocalLoads : Prop :=
  (∀ r ∈ ([(Instr.ldb, 1, 0x00, fun n => BitVec.ofNat 64 n), (Instr.ldh, 2, 0x01, fun n => BitVec.ofNat 64 n),
      (Instr.ldw, 4, 0x02, fun n => BitVec.ofNat 64 n), (Instr.ldd, 8, 0x03, fun n => BitVec.ofNat 64 n),
      (Instr.ldbs, 1, 0x04, fun n => (BitVec.ofNat 8 n).signExtend 64), (Instr.ldhs, 2, 0x05, fun n => (BitVec.ofNat 16 n).signExtend 64),
      (Instr.ldws, 4, 0x06, fun n => (BitVec.ofNat 32 n).signExtend 64)] : List ((Issue → Fields → Instr) × Nat × Nat × (Nat → DWord))),
    ∀ (u : Issue) (f : Fields) (s : State) off w, s.clear u f 1 r.2.2.1 = true →
      s.localAt u.tile.key ((s.at_ u).rs f.srca.toNat + f.imm.signExtend 64).toNat false = .at_ off w →
      ((s.at_ u).rs f.srca.toNat + f.imm.signExtend 64).toNat % r.2.1 = 0 →
      (s.tile u.tile.key).badWord (wordsOf off r.2.1) = none →
      ∃ t : State, exec (r.1 u f) s = .next t ∧
        scalarDone s t u f.dest.toNat (r.2.2.2 (leNat ((s.tile u.tile.key).bytes off r.2.1))) (if off < 0x40000 then 2 else 6)) ∧
  (∀ (u : Issue) (f : Fields) (s : State) off w, s.clear u f 1 0x10 = true →
      s.localAt u.tile.key ((s.at_ u).rs f.srca.toNat + f.imm.signExtend 64).toNat false = .at_ off w →
      ((s.at_ u).rs f.srca.toNat + f.imm.signExtend 64).toNat % 64 = 0 → (s.tile u.tile.key).badWord (wordsOf off 64) = none →
      ∃ t : State, exec (.vld u f) s = .next t ∧
        vectorDone s t u f.dest.toNat (ofBytes ((s.tile u.tile.key).bytes off 64)) (if off < 0x40000 then 2 else 6) 0)

/-- R66, R67, stores of STB, STH, STW, STD and VST: the low bytes of the register, the least significant at the lowest address; no other byte changes.
A store through the write alias after the guard start stores nothing and is the carry error 0x04 (R247); one that would merge with an uncorrectable
word faults (R481, LocalFaults). The choices of the model it rests on: log entries 5, 6. -/
def Obligations.LocalStores : Prop :=
  ∀ r ∈ ([(Instr.stb, 1, 0x08, fun x n => leBytes 1 (x.rs n).toNat), (Instr.sth, 2, 0x09, fun x n => leBytes 2 (x.rs n).toNat),
      (Instr.stw, 4, 0x0A, fun x n => leBytes 4 (x.rs n).toNat), (Instr.std, 8, 0x0B, fun x n => leBytes 8 (x.rs n).toNat),
      (Instr.vst, 64, 0x11, fun x n => leBytes 64 (x.rv n).toNat)] : List ((Issue → Fields → Instr) × Nat × Nat × (Thread → Nat → List Byte))),
    ∀ (u : Issue) (f : Fields) (s : State) off w, s.clear u f 1 r.2.2.1 = true →
      s.localAt u.tile.key ((s.at_ u).rs f.srca.toNat + f.imm.signExtend 64).toNat true = .at_ off w →
      ((s.at_ u).rs f.srca.toNat + f.imm.signExtend 64).toNat % r.2.1 = 0 →
      ((w && s.tick.guard) = false → (s.tile u.tile.key).badWord (partWords off r.2.1) = none →
        ∃ t : State, exec (r.1 u f) s = .next t ∧ storeDone s t u off (r.2.2.2 (s.at_ u) f.srcb.toNat)) ∧
      ((w && s.tick.guard) = true →
        ∃ t : State, exec (r.1 u f) s = .next t ∧ (∀ k x, (t.tile k).byte x = (s.tile k).byte x) ∧ sameRegisters (s.at_ u) (t.at_ u) ∧
          goesOn (s.at_ u) (t.at_ u) ∧ flag (t.reg (Reg.TIL_CARRY_ERR (keyDie u.tile.key))) 31 = true ∧
          (flag (s.reg (Reg.TIL_CARRY_ERR (keyDie u.tile.key))) 31 = false → (t.reg (Reg.TIL_CARRY_ERR (keyDie u.tile.key))).toNat % 256 = 4) ∧
          (if s.tick.closed then t.tick.chargeNext else t.tick.charged) = true)

/-- The faults of a load or store of the tile's own SRAM, in the order of R482: ADDR or CARRY_RO where EA leads nowhere (R66, R241), then MISALIGN,
then ECC_SRAM, each recorded with its offset and charged to its tick (R51, R54, R55). The choices of the model it rests on: log entries 5, 16. -/
def Obligations.LocalFaults : Prop :=
  ∀ r ∈ ([(Instr.ldb, 1, 0x00, false), (Instr.ldh, 2, 0x01, false), (Instr.ldw, 4, 0x02, false), (Instr.ldd, 8, 0x03, false), (Instr.ldbs, 1, 0x04, false),
      (Instr.ldhs, 2, 0x05, false), (Instr.ldws, 4, 0x06, false), (Instr.vld, 64, 0x10, false), (Instr.stb, 1, 0x08, true), (Instr.sth, 2, 0x09, true),
      (Instr.stw, 4, 0x0A, true), (Instr.std, 8, 0x0B, true), (Instr.vst, 64, 0x11, true)] : List ((Issue → Fields → Instr) × Nat × Nat × Bool)),
    ∀ (u : Issue) (f : Fields) (s : State), s.legal u f 1 r.2.2.1 = true →
      let ea := ((s.at_ u).rs f.srca.toNat + f.imm.signExtend 64).toNat
      (∀ code, s.localAt u.tile.key ea r.2.2.2 = .bad code → ∃ t : State, exec (r.1 u f) s = .next t ∧ faultDone s t u code ea) ∧
      (∀ off w, s.localAt u.tile.key ea r.2.2.2 = .at_ off w → ea % r.2.1 ≠ 0 → ∃ t : State, exec (r.1 u f) s = .next t ∧ faultDone s t u 0x03 ea) ∧
      (∀ off w x, s.localAt u.tile.key ea r.2.2.2 = .at_ off w → ea % r.2.1 = 0 → (r.2.2.2 && w && s.tick.guard) = false →
        (s.tile u.tile.key).badWord (if r.2.2.2 then partWords off r.2.1 else wordsOf off r.2.1) = some x →
        ∃ t : State, exec (r.1 u f) s = .next t ∧ faultDone s t u 0x10 (8 * x))

/-- R69, R70, the control class: where BR, BRR, CALL, LOOP, LOOPR and LPOP leave the program counter, the loop levels and the link register; a taken
branch lets its thread issue again two cycles after it; a target beyond the program store, a count from 2^20 on, a third level and an end below the
start are ILLEGAL. R70, the end of a hardware loop: the instruction at the end index of the innermost level repeats the body while the count lasts,
and closes the level, trying the next, when it runs out. The choices of the model it rests on: log entries 5, 6, 133. -/
def Obligations.ControlFlow : Prop :=
  (∀ (u : Issue) (f : Fields) (s : State),
    (∀ i fn d v tgt, ((i = Instr.br ∧ fn = 0x00 ∧ d = 0 ∧ v = 0 ∧ tgt = f.imm.toNat % 4096) ∨
        (i = Instr.brr ∧ fn = 0x01 ∧ d = 0 ∧ v = 0 ∧ tgt = ((s.at_ u).rs f.srca.toNat).toNat ∧ tgt < 4096) ∨
        (i = Instr.call ∧ fn = 0x02 ∧ d = f.dest.toNat ∧ v = BitVec.ofNat 64 ((s.at_ u).pc + 1) ∧ tgt = f.imm.toNat % 4096)) →
      s.legal u f 2 fn = true →
      ∃ t : State, exec (i u f) s = .next t ∧ sameBesideTiles s t ∧ onlyThread s t u [] ∧ wroteScalar (s.at_ u) (t.at_ u) d v ∧
        (t.at_ u).pc = tgt ∧ (t.at_ u).loops = (s.at_ u).loops ∧ (t.at_ u).state = (s.at_ u).state ∧
        (t.at_ u).next = s.cycleOf u + 2 ∧ (fn = 0x02 → d ≠ 0 → (t.at_ u).readyAt (.s d) = s.cycleOf u + 1)) ∧
    (∀ i fn count, ((i = Instr.loop ∧ fn = 0x08 ∧ count = f.imm.toNat / 4096) ∨
        (i = Instr.loopr ∧ fn = 0x09 ∧ count = ((s.at_ u).rs f.srca.toNat).toNat ∧ count < 2 ^ 20)) →
      s.legal u f 2 fn = true → (s.at_ u).loops.length < 2 → (s.at_ u).pc + 1 ≤ f.imm.toNat % 4096 →
      (count ≠ 0 → ∃ t : State, exec (i u f) s = .next t ∧ sameBesideTiles s t ∧ onlyThread s t u [] ∧ sameRegisters (s.at_ u) (t.at_ u) ∧
        (t.at_ u).pc = (s.at_ u).pc + 1 ∧
        (t.at_ u).loops = { count := count, start := (s.at_ u).pc + 1, stop := f.imm.toNat % 4096 } :: (s.at_ u).loops) ∧
      (count = 0 → f.imm.toNat % 4096 < 4095 → ∃ t : State, exec (i u f) s = .next t ∧ sameBesideTiles s t ∧ onlyThread s t u [] ∧
        sameRegisters (s.at_ u) (t.at_ u) ∧ (t.at_ u).pc = f.imm.toNat % 4096 + 1 ∧ (t.at_ u).loops = (s.at_ u).loops)) ∧
    (s.legal u f 2 0x0A = true → (s.at_ u).pc < 4095 →
      ∃ t : State, exec (.lpop u f) s = .next t ∧ sameBesideTiles s t ∧ onlyThread s t u [] ∧ sameRegisters (s.at_ u) (t.at_ u) ∧
        (t.at_ u).pc = (s.at_ u).pc + 1 ∧ (t.at_ u).loops = (s.at_ u).loops.tail) ∧
    (∀ i fn, ((i = Instr.brr ∧ fn = 0x01 ∧ 4096 ≤ ((s.at_ u).rs f.srca.toNat).toNat) ∨
        (i = Instr.loopr ∧ fn = 0x09 ∧ 2 ^ 20 ≤ ((s.at_ u).rs f.srca.toNat).toNat) ∨
        (((i = Instr.loop ∧ fn = 0x08) ∨ (i = Instr.loopr ∧ fn = 0x09)) ∧ (2 ≤ (s.at_ u).loops.length ∨ f.imm.toNat % 4096 < (s.at_ u).pc + 1))) →
      s.legal u f 2 fn = true → ∃ t : State, exec (i u f) s = .next t ∧ faultDone s t u 0x01 0)) ∧
  (∀ (l : LoopLevel) (ls : List LoopLevel) (i : Nat),
    (i ≠ l.stop → loopEnd (l :: ls) i = (l :: ls, i + 1)) ∧
    (i = l.stop → 2 ≤ l.count → loopEnd (l :: ls) i = ({ l with count := l.count - 1 } :: ls, l.start)) ∧
    (i = l.stop → l.count = 1 → loopEnd (l :: ls) i = loopEnd ls i) ∧ loopEnd [] i = ([], i + 1))

/-! ### The vector unit (R71 to R73, R107 to R113) -/

/-- R71, the vector instructions that set no flag: lane by lane VIADD, VISUB, VICMPLT (2 cycles) and VMIN, VMAX (4); bit by bit VAND, VOR, VXOR; by
imm[4:0] VSHLI, VSHRI; VBLEND, VPERM, VBCAST and VSET. R71, vector instructions that write another register file: VGET a scalar register, VANY a
predicate. The choices of the model it rests on: log entries 5, 6. -/
def Obligations.VectorLanes : Prop :=
  ((∀ r ∈ ([(Instr.viadd, 0x08, fun a b => a + b, 2), (Instr.visub, 0x09, fun a b => a - b, 2),
      (Instr.vicmplt, 0x15, fun a b => if a.toInt < b.toInt then 0xFFFFFFFF else 0, 2), (Instr.vmin, 0x04, f32Min, 4), (Instr.vmax, 0x05, f32Max, 4),
      (Instr.vand, 0x0A, fun a b => a &&& b, 2), (Instr.vor, 0x0B, fun a b => a ||| b, 2), (Instr.vxor, 0x0C, fun a b => a ^^^ b, 2)] :
      List ((Issue → Fields → Instr) × Nat × (Word → Word → Word) × Nat)),
    ∀ (u : Issue) (f : Fields) (s : State), s.clear u f 3 r.2.1 = true →
      ∃ t : State, ∃ v, exec (r.1 u f) s = .next t ∧ vectorDone s t u f.dest.toNat v r.2.2.2 0 ∧
        ∀ i < 16, lane v i = r.2.2.1 (lane ((s.at_ u).rv f.srca.toNat) i) (lane ((s.at_ u).rv f.srcb.toNat) i)) ∧
  (∀ r ∈ ([(Instr.vshli, 0x0D, fun a n => a <<< n), (Instr.vshri, 0x0E, fun a n => a >>> n)] : List ((Issue → Fields → Instr) × Nat × (Word → Nat → Word))),
    ∀ (u : Issue) (f : Fields) (s : State), s.clear u f 3 r.2.1 = true →
      ∃ t : State, ∃ v, exec (r.1 u f) s = .next t ∧ vectorDone s t u f.dest.toNat v 2 0 ∧
        ∀ i < 16, lane v i = r.2.2 (lane ((s.at_ u).rv f.srca.toNat) i) f.imm.toNat) ∧
  (∀ (u : Issue) (f : Fields) (s : State), s.clear u f 3 0x0F = true →
      ∃ t : State, ∃ v, exec (.vblend u f) s = .next t ∧ vectorDone s t u f.dest.toNat v 2 0 ∧
        ∀ i, v.getLsbD i = if ((s.at_ u).rv f.dest.toNat).getLsbD i then ((s.at_ u).rv f.srca.toNat).getLsbD i
          else ((s.at_ u).rv f.srcb.toNat).getLsbD i) ∧
  (∀ (u : Issue) (f : Fields) (s : State), s.clear u f 3 0x10 = true →
      ∃ t : State, ∃ v, exec (.vperm u f) s = .next t ∧ vectorDone s t u f.dest.toNat v 2 0 ∧
        ∀ i < 16, lane v i = lane ((s.at_ u).rv f.srca.toNat) ((lane ((s.at_ u).rv f.srcb.toNat) i).toNat % 16)) ∧
  (∀ (u : Issue) (f : Fields) (s : State), s.clear u f 3 0x11 = true →
      ∃ t : State, ∃ v, exec (.vbcast u f) s = .next t ∧ vectorDone s t u f.dest.toNat v 2 0 ∧
        ∀ i < 16, lane v i = ((s.at_ u).rs f.srca.toNat).setWidth 32) ∧
  (∀ (u : Issue) (f : Fields) (s : State), s.clear u f 3 0x13 = true →
      ∃ t : State, ∃ v, exec (.vset u f) s = .next t ∧ vectorDone s t u f.dest.toNat v 2 0 ∧
        ∀ i < 16, lane v i = if i = f.imm.toNat then ((s.at_ u).rs f.srca.toNat).setWidth 32 else lane ((s.at_ u).rv f.dest.toNat) i)) ∧
  ((∀ (u : Issue) (f : Fields) (s : State), s.clear u f 3 0x12 = true →
      ∃ t : State, exec (.vget u f) s = .next t ∧
        scalarDone s t u f.dest.toNat ((lane ((s.at_ u).rv f.srca.toNat) f.imm.toNat).setWidth 64) 2) ∧
  (∀ (u : Issue) (f : Fields) (s : State), s.clear u f 3 0x14 = true →
      ∃ t : State, exec (.vany u f) s = .next t ∧
        predDone s t u f.dest.toNat (decide ((s.at_ u).rv f.srca.toNat ≠ 0)) 2))

/-- R71, R111 to R113, R117, the floating-point lane operations: each lane is the operation's result on the lanes of the operands, and the flags of
all lanes are set for the thread. VADD, VSUB, VMUL, VFMA, VFCMPLT and VFCMPEQ take 4 cycles, the estimates 6. The choices of the model it rests on:
log entries 5, 6, 17. -/
def Obligations.VectorFloat : Prop :=
  (∀ r ∈ ([(Instr.vadd, 0x00, f32Add), (Instr.vsub, 0x01, f32Sub), (Instr.vmul, 0x02, f32Mul), (Instr.vfcmplt, 0x06, f32CmpLt), (Instr.vfcmpeq, 0x07, f32CmpEq)] :
      List ((Issue → Fields → Instr) × Nat × (Word → Word → Word × Nat))),
    ∀ (u : Issue) (f : Fields) (s : State), s.clear u f 3 r.2.1 = true →
      let g := fun i => r.2.2 (lane ((s.at_ u).rv f.srca.toNat) i) (lane ((s.at_ u).rv f.srcb.toNat) i)
      ∃ t : State, ∃ v, exec (r.1 u f) s = .next t ∧ vectorDone s t u f.dest.toNat v 4 (laneFlags (fun i => (g i).2)) ∧
        ∀ i < 16, lane v i = (g i).1) ∧
  (∀ (u : Issue) (f : Fields) (s : State), s.clear u f 3 0x03 = true →
      let g := fun i => f32Fma (lane ((s.at_ u).rv f.srca.toNat) i) (lane ((s.at_ u).rv f.srcb.toNat) i) (lane ((s.at_ u).rv f.dest.toNat) i)
      ∃ t : State, ∃ v, exec (.vfma u f) s = .next t ∧ vectorDone s t u f.dest.toNat v 4 (laneFlags (fun i => (g i).2)) ∧
        ∀ i < 16, lane v i = (g i).1) ∧
  (∀ r ∈ ([(Instr.vrcp, 0x28, estRcp), (Instr.vrsq, 0x29, estRsq), (Instr.vexp2, 0x2A, estExp2), (Instr.vlog2, 0x2B, estLog2)] :
      List ((Issue → Fields → Instr) × Nat × (Word → Word × Nat))),
    ∀ (u : Issue) (f : Fields) (s : State), s.clear u f 3 r.2.1 = true →
      let g := fun i => r.2.2 (lane ((s.at_ u).rv f.srca.toNat) i)
      ∃ t : State, ∃ v, exec (r.1 u f) s = .next t ∧ vectorDone s t u f.dest.toNat v 6 (laneFlags (fun i => (g i).2)) ∧
        ∀ i < 16, lane v i = (g i).1)

/-- R121, the error of a lane sum: a finite VSUM of finite lanes lies within 15 · 2^−24 of the sum of their magnitudes; R113, VRCP of a normal operand
whose reciprocal is normal is finite and within its relative bound. Both whatever the implementation's free value is. R71, R112, R120, the reductions:
VRMAX leaves the maximum of the lanes and VSUM a sum of them in lane 0, zero in the others. R113, R121, the estimates' exact and special cases: NaN
in, the canonical NaN out; the reciprocal of an infinity is a zero of its sign and of a zero an infinity of its sign; a power of two has an exact
reciprocal. The choices of the model it rests on: log entries 5, 6, 17, 18, 125, 126. -/
def Obligations.ReductionsAndEstimates : Prop :=
  ((∀ die v (ws : List Word), (∀ w ∈ ws, ∃ n m e, ofF32 w = .fin n m e) →
    ∀ n m e, ofF32 (vsumOf die v (ws.map ofF32)).1 = .fin n m e → vsumBound (.fin n m e) (ws.map ofF32) = true) ∧
  (∀ (w : Word) n m e, estOperand w = .fin n m e → m ≠ 0 → floorLog2 m e < 126 →
    ∃ k g, ofF32 (estRcp w).1 = .fin n k g ∧ rcpBound k g m e = true)) ∧
  ((∀ (u : Issue) (f : Fields) (s : State), s.clear u f 3 0x31 = true →
      ∃ t : State, ∃ v, exec (.vrmax u f) s = .next t ∧ vectorDone s t u f.dest.toNat v 6 0 ∧
        (∀ i < 16, i ≠ 0 → lane v i = 0) ∧
        lane v 0 = (List.range 16).foldl (fun m i => f32Max m (lane ((s.at_ u).rv f.srca.toNat) i)) (lane ((s.at_ u).rv f.srca.toNat) 0)) ∧
  (∀ (u : Issue) (f : Fields) (s : State), s.clear u f 3 0x30 = true →
      let y := vsumOf (keyDie u.tile.key) ((s.at_ u).rv f.srca.toNat) ((List.range 16).map (fun i => ofF32 (lane ((s.at_ u).rv f.srca.toNat) i)))
      ∃ t : State, ∃ v, exec (.vsum u f) s = .next t ∧ vectorDone s t u f.dest.toNat v 6 y.2 ∧
        (∀ i < 16, i ≠ 0 → lane v i = 0) ∧ lane v 0 = y.1)) ∧
  ((∀ w : Word, ofF32 w = .nan → (estRcp w).1 = 0x7FC00000 ∧ (estRsq w).1 = 0x7FC00000 ∧ (estExp2 w).1 = 0x7FC00000 ∧ (estLog2 w).1 = 0x7FC00000) ∧
  estRcp 0x7F800000 = (0, 0) ∧ estRcp 0xFF800000 = (0x80000000, 0) ∧ estRcp 0 = (0x7F800000, flagOverflow) ∧
  estRcp 0x80000000 = (0xFF800000, flagOverflow) ∧ estRsq 0x7F800000 = (0, 0) ∧ estExp2 0xFF800000 = (0, 0) ∧
  estLog2 0x7F800000 = (0x7F800000, 0) ∧
  (∀ k : Fin 253, ∀ sign : Bool,
    estRcp (BitVec.ofNat 32 ((if sign then 2 ^ 31 else 0) + (k.val + 1) * 2 ^ 23)) =
      (BitVec.ofNat 32 ((if sign then 2 ^ 31 else 0) + (253 - k.val) * 2 ^ 23), 0)))

/-- R102, R103, an element of an MX block: under a scale e from 0x00 to 0xFE its value is the element's times 2^(e - 127), NaN where the element is
NaN and infinite with its sign where the element is; under the scale 0xFF it is NaN. -/
def Obligations.MxElementValues : Prop :=
  (∀ (ty : MxType) c, mxValue ty c 0xFF = .nan) ∧
  (∀ (ty : MxType) c e, e < 0xFF →
    (∀ n m x, ty.decode c = .fin n m x → mxValue ty c e = .fin n m (x + ((e : Int) - 127))) ∧
    (ty.decode c = .nan → mxValue ty c e = .nan) ∧ (∀ n, ty.decode c = .inf n → mxValue ty c e = .inf n)) ∧
  (∀ (ty : MxType) c, (ty.decode c = .nan → ty = .e4m3 ∨ ty = .e5m2) ∧ (∀ n, ty.decode c = .inf n → ty = .e5m2))

/-- R105, R107, format conversion: VEXT gives 32 FP32 words exactly; VCVT rounds 32 FP32 elements, to nearest under rmode 0 and each by nearest or by
a draw under rmode 1. The choices of the model it rests on: log entries 5, 6, 19. -/
def Obligations.VectorConversions : Prop :=
  (∀ r ∈ ([(Instr.vextBf16, 0x1A, bf16), (Instr.vextFp16, 0x1B, fp16)] : List ((Issue → Fields → Instr) × Nat × Fmt)),
    ∀ (u : Issue) (f : Fields) (s : State), s.clear u f 3 r.2.1 = true →
      ∃ t : State, exec (r.1 u f) s = .next t ∧
        pairDone s t u f.dest.toNat
          (fun i => (toF32 (r.2.2.decode (((s.at_ u).rv f.srca.toNat).extractLsb' (16 * i) 16).toNat)).1) 3 0) ∧
  (∀ r ∈ ([(Instr.vcvtBf16, 0x18, bf16), (Instr.vcvtFp16, 0x19, fp16)] : List ((Issue → Fields → Instr) × Nat × Fmt)),
    ∀ (u : Issue) (f : Fields) (s : State), s.clear u f 3 r.2.1 = true →
      ∃ t : State, ∃ v, ∃ rs : Nat → Rounding, exec (r.1 u f) s = .next t ∧ (flag f.imm 16 = false → t.draws = s.draws ∧ ∀ i, rs i = .nearest) ∧
        sameBesideTiles { s with draws := t.draws } t ∧
        let g := fun i => r.2.2.round (rs i) (ofF32 (lane ((s.at_ u).rv (f.srca.toNat + i / 16)) (i % 16)))
        vectorStep s t u f.dest.toNat v 3 (((List.range 32).map (fun i => (g i).2)).foldr (fun a b => a ||| b) 0) ∧
        ∀ i < 32, (v.extractLsb' (16 * i) 16).toNat = (g i).1)

/-- R72, R105, R108 to R110, MX blocks: VPACK writes 32 elements under one scale byte, the elements first and the scale byte after them, a NaN or
infinity in the input giving the scale 0xFF and inputs that are all zero giving elements of 0; VUNPK gives each element times its scale as FP32. An
offset that is no multiple of 8 or that puts the block beyond byte 63 raises ILLEGAL. The choices of the model it rests on: log entries 5, 6, 19, 124.
-/
def Obligations.VectorMxBlocks : Prop :=
  (∀ r ∈ ([(Instr.vpackMxf8, 0x1C, 8, mxf8), (Instr.vpackMxf6, 0x1D, 6, mxf6), (Instr.vpackMxf4, 0x1E, 4, fun _ => .e2m1),
      (Instr.vpackMxi8, 0x1F, 8, fun _ => .int8)] : List ((Issue → Fields → Instr) × Nat × Nat × (Bool → MxType))),
    ∀ (u : Issue) (f : Fields) (s : State), s.clear u f 3 r.2.1 = true → f.bits 5 0 % 8 = 0 → f.bits 5 0 + 4 * r.2.2.1 ≤ 64 →
      let ty := r.2.2.2 (flag f.imm 17)
      let o := f.bits 5 0
      let p := f.bits 13 8
      let xs := (List.range 32).map (fun i => ofF32 (lane ((s.at_ u).rv (f.srca.toNat + i / 16)) (i % 16)))
      ∃ t : State, ∃ rs : Nat → Rounding, exec (r.1 u f) s = .next t ∧ (flag f.imm 16 = false → t.draws = s.draws ∧ ∀ i, rs i = .nearest) ∧
        sameBesideTiles { s with draws := t.draws } t ∧ onlyThread s t u [13] ∧ goesOn (s.at_ u) (t.at_ u) ∧
        (∀ m, (t.at_ u).rs m = (s.at_ u).rs m) ∧ (∀ m, (t.at_ u).rp m = (s.at_ u).rp m) ∧
        (∀ m, m ≠ f.dest.toNat → m ≠ f.srcb.toNat → (t.at_ u).rv m = (s.at_ u).rv m) ∧
        vbyte ((t.at_ u).rv f.srcb.toNat) p = (match mxScale ty xs with | some (sc, _) => BitVec.ofNat 8 sc | none => 0xFF) ∧
        (∀ i < 32, (f.dest = f.srcb → p < o + r.2.2.1 * i / 8 ∨ o + (r.2.2.1 * i + r.2.2.1 - 1) / 8 < p) →
          ((t.at_ u).rv f.dest.toNat).toNat / 2 ^ (8 * o + r.2.2.1 * i) % 2 ^ r.2.2.1 =
            if xs.all FV.isZero then 0
            else match mxScale ty xs with | some (sc, _) => (ty.pack (rs i) sc (xs.getD i .nan)).1 | none => 0) ∧
        (∀ j < 64, (j < o ∨ o + 4 * r.2.2.1 ≤ j) → (f.dest = f.srcb → j ≠ p) →
          vbyte ((t.at_ u).rv f.dest.toNat) j = vbyte ((s.at_ u).rv f.dest.toNat) j) ∧
        (∀ j < 64, j ≠ p → (f.dest = f.srcb → j < o ∨ o + 4 * r.2.2.1 ≤ j) →
          vbyte ((t.at_ u).rv f.srcb.toNat) j = vbyte ((s.at_ u).rv f.srcb.toNat) j) ∧
        (t.tile u.tile.key).sys 13 = (s.tile u.tile.key).sys 13 ||| BitVec.ofNat 32 (2 ^ (4 * u.thread.val) *
          if xs.all FV.isZero then 0
          else match mxScale ty xs with
          | some (sc, g) => (g ||| ((List.range 32).map (fun i => (ty.pack (rs i) sc (xs.getD i .nan)).2)).foldr (fun a b => a ||| b) 0) % 16
          | none => flagInvalid)) ∧
  (∀ r ∈ ([(Instr.vunpkMxf8, 0x20, 8, mxf8), (Instr.vunpkMxf6, 0x21, 6, mxf6), (Instr.vunpkMxf4, 0x22, 4, fun _ => .e2m1),
      (Instr.vunpkMxi8, 0x23, 8, fun _ => .int8)] : List ((Issue → Fields → Instr) × Nat × Nat × (Bool → MxType))),
    ∀ (u : Issue) (f : Fields) (s : State), s.clear u f 3 r.2.1 = true → f.bits 5 0 % 8 = 0 → f.bits 5 0 + 4 * r.2.2.1 ≤ 64 →
      let ty := r.2.2.2 (flag f.imm 17)
      let sc := (vbyte ((s.at_ u).rv f.srcb.toNat) (f.bits 13 8)).toNat
      let g := fun i => unpackElem ty sc (((s.at_ u).rv f.srca.toNat).toNat / 2 ^ (8 * f.bits 5 0 + r.2.2.1 * i) % 2 ^ r.2.2.1)
      ∃ t : State, exec (r.1 u f) s = .next t ∧
        pairDone s t u f.dest.toNat (fun i => (g i).1) 3 (((List.range 32).map (fun i => (g i).2)).foldr (fun a b => a ||| b) 0)) ∧
  (∀ r ∈ ([(Instr.vpackMxf8, 0x1C, 8), (Instr.vpackMxf6, 0x1D, 6), (Instr.vpackMxf4, 0x1E, 4), (Instr.vpackMxi8, 0x1F, 8),
      (Instr.vunpkMxf8, 0x20, 8), (Instr.vunpkMxf6, 0x21, 6), (Instr.vunpkMxf4, 0x22, 4), (Instr.vunpkMxi8, 0x23, 8)] :
      List ((Issue → Fields → Instr) × Nat × Nat)),
    ∀ (u : Issue) (f : Fields) (s : State), s.legal u f 3 r.2.1 = true → f.bits 5 0 % 8 ≠ 0 ∨ 64 < f.bits 5 0 + 4 * r.2.2 →
      ∃ t : State, exec (r.1 u f) s = .next t ∧ faultDone s t u 0x01 0)

/-! ### Rounding (R104, R105) -/

/-- R104, R105: an exact value keeps, an inexact one goes to the nearest multiple, ties to the even one; under a 16-bit draw it goes up where the
discarded part exceeds the draw. R99, R104: every FP32 word but the NaNs is the word of its own value, and rounding it sets no flag. -/
def Obligations.FloatFormats : Prop :=
  ((∀ m k : Nat, let n := (roundShift .nearest m k).1
    2 * m ≤ 2 * n * 2 ^ k + 2 ^ k ∧ 2 * n * 2 ^ k ≤ 2 * m + 2 ^ k ∧
    (2 * m = 2 * n * 2 ^ k + 2 ^ k ∨ 2 * n * 2 ^ k = 2 * m + 2 ^ k → n % 2 = 0) ∧ ((roundShift .nearest m k).2 = false ↔ n * 2 ^ k = m)) ∧
  (∀ m k d : Nat, let n := m / 2 ^ k
    (m % 2 ^ k = 0 → roundShift (.draw d) m k = (n, false)) ∧
    (m % 2 ^ k ≠ 0 → (roundShift (.draw d) m k).1 = if m % 2 ^ k * 65536 / 2 ^ k > d then n + 1 else n))) ∧
  (∀ w : Word, ofF32 w ≠ .nan → toF32 (ofF32 w) = (w, 0))

/-! ### The MAC array (R41 to R43, R74 to R77) -/

/-- R75, R76, R114, R115, one outer product: element (r, c) of the accumulator becomes the sum, under the format's rules, of what it held (0 with clr)
and the products of row r of A with row c of B; an MX format takes its scales from the quarters that the immediate names. The MOP takes a place of the
array and may raise flags of the bound thread; no register and no memory changes. R43, R74, R77, the accumulator instructions: AST stores an
accumulator as sixteen 64-byte rows, each where its own address leads, and holds the core port for sixteen cycles; ALD loads one, usable from 22
cycles after its issue; MZERO clears one; AGET reads a row; an executing MOP ends. A row through the write alias after the guard start is not stored
and is a carry error (R247). The choices of the model it rests on: log entries 5, 6, 122. -/
def Obligations.MatrixClass : Prop :=
  (∀ r ∈ ([(Instr.mopBf16, 0x00, ⟨16, 64, 4, 8, false⟩, fun _ => bf16.decode), (Instr.mopFp16, 0x01, ⟨16, 64, 4, 8, false⟩, fun _ => fp16.decode),
      (Instr.mopMxi8, 0x02, ⟨8, 64, 8, 8, true⟩, fun _ => MxType.decode .int8),
      (Instr.mopMxf8, 0x03, ⟨8, 64, 8, 8, true⟩, fun e => if e then MxType.decode .e5m2 else MxType.decode .e4m3),
      (Instr.mopMxf6, 0x04, ⟨6, 48, 8, 4, true⟩, fun e => if e then MxType.decode .e3m2 else MxType.decode .e2m3),
      (Instr.mopMxf4, 0x05, ⟨4, 64, 16, 8, true⟩, fun _ => MxType.decode .e2m1)] :
      List ((Issue → Fields → Instr) × Nat × MopFormat × (Bool → Nat → FV))),
    ∀ (u : Issue) (f : Fields) (s : State), s.clear u f 4 r.2.1 = true →
      let fm := r.2.2.1
      let a := s.tile u.tile.key
      let x := s.at_ u
      let pair := fun n => (x.rv n).toNat + 2 ^ 512 * (x.rv (n + 1)).toNat
      let row := fun (e : Bool) (n i : Nat) =>
        (List.range fm.k).map (fun j => r.2.2.2 e (pair n / 2 ^ (fm.pitch * i + fm.w * j) % 2 ^ fm.w))
      let scale := fun q i => (vbyte (x.rv (f.bits 3 0)) (16 * q + i)).toNat
      let g := fun i j =>
        let old := if flag f.imm 8 then FV.fin false 0 0 else ofF32 (lane (accRow (a.acc.get 0 f.dest.toNat) i) j)
        if fm.mx then mopMx old (row (flag f.imm 9) f.srca.toNat i) (row (flag f.imm 10) f.srcb.toNat j) (scale (f.bits 5 4) i) (scale (f.bits 7 6) j)
        else mopWide old (row (flag f.imm 9) f.srca.toNat i) (row (flag f.imm 10) f.srcb.toNat j)
      ∃ t : State, exec (r.1 u f) s = .next t ∧
        let b := t.tile u.tile.key
        sameBesideTiles s t ∧ (∀ j, j ≠ u.tile.key → t.tile j = s.tile j) ∧ (∀ m, m ≠ u.thread.val → b.thread m = a.thread m) ∧
        { b with threads := a.threads, cycle := a.cycle, lastLoose := a.lastLoose, portFree := a.portFree, til := a.til, acc := a.acc,
                 accBad := a.accBad, mac := a.mac, macLast := a.macLast } = a ∧
        (∀ i, i ≠ 11 → i ≠ 12 → i ≠ 13 → b.sys i = a.sys i) ∧
        b.sys 13 = a.sys 13 ||| BitVec.ofNat 32 (((List.range 256).map (fun i => (g (i / 16) (i % 16)).2)).foldr (fun p q => p ||| q) 0 % 16) ∧
        (∀ n, n ≠ f.dest.toNat → b.acc.get 0 n = a.acc.get 0 n) ∧
        (∀ i < 16, ∀ j < 16, lane (accRow (b.acc.get 0 f.dest.toNat) i) j = (g i j).1) ∧
        (∃ l ∈ b.mac, l.1 = f.dest.toNat ∧ b.macLast.get 0 f.dest.toNat = l.2 ∧ s.cycleOf u + fm.cycles ≤ l.2) ∧
        sameRegisters (s.at_ u) (t.at_ u) ∧ goesOn (s.at_ u) (t.at_ u)) ∧
  ((∀ (u : Issue) (f : Fields) (s : State) (off : Nat → Nat) (w : Nat → Bool), s.clear u f 4 0x10 = true →
      let k := u.tile.key
      let ea := ((s.at_ u).rs f.srca.toNat + f.imm.signExtend 64).toNat
      let put := fun r => w r = false ∨ s.tick.guard = false
      let holds := fun r x => off r ≤ x ∧ x < off r + 64
      ea % 64 = 0 → (∀ r < 16, s.localAt k (ea + 64 * r) true = .at_ (off r) (w r)) → ea % 2 ^ 20 + 1023 < 2 ^ 20 →
      ∃ t : State, exec (.ast u f) s = .next t ∧ (∀ j, j ≠ k → t.tile j = s.tile j) ∧ sameRegisters (s.at_ u) (t.at_ u) ∧
        goesOn (s.at_ u) (t.at_ u) ∧ ((∀ r < 16, put r) → sameBesideTiles s t) ∧
        (∀ r < 16, put r → ∀ x, holds r x → (∀ q < 16, r < q → put q → ¬ holds q x) →
          (t.tile k).byte x = BitVec.ofNat 8 ((accRow ((s.tile k).acc.get 0 f.srcb.toNat) r).toNat / 2 ^ (8 * (x - off r)))) ∧
        (∀ x, (∀ r < 16, put r → ¬ holds r x) → (t.tile k).byte x = (s.tile k).byte x) ∧
        ((∃ r < 16, ¬ put r) → flag (t.reg (Reg.TIL_CARRY_ERR u.tile.die)) 31 = true) ∧
        (t.tile k).acc = (s.tile k).acc ∧ (t.tile k).portFree = s.cycleOf u + 16) ∧
  (∀ (u : Issue) (f : Fields) (s : State) (off : Nat → Nat) (w : Nat → Bool), s.clear u f 4 0x11 = true →
      let k := u.tile.key
      let ea := ((s.at_ u).rs f.srca.toNat + f.imm.signExtend 64).toNat
      ea % 64 = 0 → (∀ r < 16, s.localAt k (ea + 64 * r) false = .at_ (off r) (w r)) → ea % 2 ^ 20 + 1023 < 2 ^ 20 →
      ((∀ r < 16, (s.tile k).badWord (wordsOf (off r) 64) = none) → ∃ t : State, exec (.ald u f) s = .next t ∧
        let a := s.tile k
        let b := t.tile k
        sameBesideTiles s t ∧ (∀ j, j ≠ k → t.tile j = s.tile j) ∧ b.sram = a.sram ∧ sameRegisters (s.at_ u) (t.at_ u) ∧
        (∀ n, n ≠ f.dest.toNat → b.acc.get 0 n = a.acc.get 0 n) ∧
        (∀ r < 16, accRow (b.acc.get 0 f.dest.toNat) r = ofBytes (a.bytes (off r) 64)) ∧
        s.cycleOf u + 22 ≤ b.accReadable f.dest.toNat ∧ goesOn (s.at_ u) (t.at_ u)) ∧
      ((∃ r < 16, (s.tile k).badWord (wordsOf (off r) 64) ≠ none) → ∃ t : State, exec (.ald u f) s = .next t ∧
        (t.at_ u).state = .faulted ∧ sameRegisters (s.at_ u) (t.at_ u) ∧ (t.tile k).sram = (s.tile k).sram ∧
        (∀ n, n ≠ f.dest.toNat → (t.tile k).acc.get 0 n = (s.tile k).acc.get 0 n) ∧
        (flag ((s.tile k).sys 7) 31 = false → (t.tile k).sys 7 = 0x80000010))) ∧
  (∀ r ∈ ([(Instr.ast, 0x10, true), (Instr.ald, 0x11, false)] : List ((Issue → Fields → Instr) × Nat × Bool)),
    ∀ (u : Issue) (f : Fields) (s : State), s.legal u f 4 r.2.1 = true →
      let ea := ((s.at_ u).rs f.srca.toNat + f.imm.signExtend 64).toNat
      let bad := fun code => ∃ i < 16, s.localAt u.tile.key (ea + 64 * i) r.2.2 = .bad code
      let faults := fun code => ∃ t : State, exec (r.1 u f) s = .next t ∧ faultDone s t u code ea
      (bad 4 ∨ 2 ^ 20 ≤ ea % 2 ^ 20 + 1023 → faults 4) ∧
      (¬ bad 4 → ea % 2 ^ 20 + 1023 < 2 ^ 20 → (bad 5 → faults 5) ∧ (¬ bad 5 → ea % 64 ≠ 0 → faults 3))) ∧
  (∀ (u : Issue) (f : Fields) (s : State), s.clear u f 4 0x12 = true →
      ∃ t : State, exec (.mzero u f) s = .next t ∧
        let a := s.tile u.tile.key
        let b := t.tile u.tile.key
        sameBesideTiles s t ∧ (∀ j, j ≠ u.tile.key → t.tile j = s.tile j) ∧ b.sram = a.sram ∧ sameRegisters (s.at_ u) (t.at_ u) ∧
        (∀ n, b.acc.get 0 n = if n = f.dest.toNat then 0 else a.acc.get 0 n) ∧ goesOn (s.at_ u) (t.at_ u)) ∧
  (∀ (u : Issue) (f : Fields) (s : State), s.clear u f 4 0x13 = true →
      ∃ t : State, exec (.aget u f) s = .next t ∧
        vectorDone s t u f.dest.toNat (accRow ((s.tile u.tile.key).acc.get 0 f.srca.toNat) f.imm.toNat) 2 0) ∧
  (∀ k (s : State) m rest, (s.tile k.key).mac = m :: rest →
      ∃ t : State, exec (.mopArrayDone k) s = .next t ∧ sameBesideTiles s t ∧ (∀ j, j ≠ k.key → t.tile j = s.tile j) ∧
        (t.tile k.key).mac = rest ∧ (t.tile k.key).cycle = max (s.tile k.key).cycle (m.2 + 1) ∧
        { t.tile k.key with mac := (s.tile k.key).mac, cycle := (s.tile k.key).cycle } = s.tile k.key))

/-! ### Sends and waits (R78 to R89) -/

/-- R78 to R80, R86, R87, R89, the sends: a legal MSEND, HSEND, HBCAST, HGET or ESEND joins the queue of its thread as the newest of at most four
descriptors, with its offsets, its length and its issuing thread, and completes at issue; a full queue holds its thread off. Nothing else changes. The
choices of the model it rests on: log entries 5, 6. -/
def Obligations.Sends : Prop :=
  ∀ (u : Issue) (f : Fields) (s : State),
    let q := (s.tile u.tile.key).queue u.thread
    let d := (s.at_ u).rs f.dest.toNat
    let a := (s.at_ u).rs f.srca.toNat
    let b := (s.at_ u).rs f.srcb.toNat
    let joins := fun (i : Instr) (kind : SendKind) (src dst len : Nat) =>
      (q.length < 4 → ∃ t : State, exec i s = .next t ∧ sameBesideTiles s t ∧ sameRegisters (s.at_ u) (t.at_ u) ∧ goesOn (s.at_ u) (t.at_ u) ∧
        (∀ j, j ≠ u.tile.key → t.tile j = s.tile j) ∧ onlyQueue (s.tile u.tile.key) (t.tile u.tile.key) u.thread ∧
        (t.tile u.tile.key).queue u.thread = q ++
          [{ kind := kind, thread := u.thread, pc := (s.at_ u).pc, src := src, dst := dst, len := len, sent := 0, part := [], partBad := none, poison := false }]) ∧
      (4 ≤ q.length → ∃ t : State, exec i s = .next t ∧ sameBesideTiles s t ∧ onlyThread s t u [] ∧ sameRegisters (s.at_ u) (t.at_ u) ∧
        (t.at_ u).pc = (s.at_ u).pc ∧ (t.at_ u).state = .data ∧ (t.at_ u).wait = .place)
    let here := fun (ea : DWord) (len off : Nat) => (∃ w, s.localAt u.tile.key ea.toNat false = .at_ off w) ∧
      ∃ w, s.localAt u.tile.key (ea.toNat + len - 1) false = .at_ (off + len - 1) w
    (s.clear u f 5 0x00 = true → routeBad f.imm = false →
      32 ≤ b.toNat → b.toNat ≤ 65536 → b.toNat % 32 = 0 → a.toNat % 32 = 0 → d.toNat % 32 = 0 → d.toNat + b.toNat ≤ 2 ^ 20 →
      ∀ off, here a b.toNat off → joins (.msend u f) (.mesh f.imm) off d.toNat b.toNat) ∧
    (s.clear u f 6 0x00 = true →
      hearthLength b.toNat = true → a.toNat % 128 = 0 → d.toNat % 128 = 0 →
      ((d.toNat / 2 ^ 44 = 1 ∧ f.bits 3 0 = 0 ∧ stackRange d.toNat b.toNat = true) ∨ s.remoteTile u.tile.key d.toNat b.toNat = true) →
      ∀ off, here a b.toNat off → joins (.hsend u f) (.hsend d.toNat (f.bits 15 8) (f.bits 3 0)) off 0 b.toNat) ∧
    (s.clear u f 6 0x01 = true → hearthLength b.toNat = true → a.toNat % 128 = 0 →
      ∀ off, here a b.toNat off → joins (.hbcast u f) (.hbcast (f.bits 15 8)) off 0 b.toNat) ∧
    (s.clear u f 6 0x02 = true →
      hearthLength b.toNat = true → d.toNat % 128 = 0 → a.toNat % 128 = 0 → stackRange a.toNat b.toNat = true →
      ∀ off, here d b.toNat off → joins (.hget u f) (.hget a.toNat (f.bits 15 8) (f.bits 3 0)) 0 off b.toNat) ∧
    (s.clear u f 6 0x08 = true → 1 ≤ d.toNat → d.toNat ≤ 16384 → a.toNat % 64 = 0 →
      ∀ off, here a (4 * d.toNat) off → joins (.esend u f) (.esend (f.bits 3 0) (f.bits 15 8) b.toInt (flag f.imm 16)) off 0 (4 * d.toNat))

/-- R78, R79, R86, R87, R89, R482, the faults of the sends: ILLEGAL for a length, a count, a route or a stack destination's counter that is not
allowed, ADDR for a local range that is not the tile's own or a far range that is none, MISALIGN for an address off its grain, in this order. R26,
R27, R31, R39, R59 to R61, R70, R482, the faults of the fetch, in their order: parity of the program counter, an uncorrectable program-store word,
parity of the predicate or the loop state, parity of a register read, the code of the erased store and a control instruction at a loop end, the
thread's class, and a reserved field or an operand out of range; a code of no instruction is ILLEGAL. The choices of the model it rests on: log
entries 5, 16, 33, 131, 133, 148. -/
def Obligations.InstructionFaults : Prop :=
  (∀ (u : Issue) (f : Fields) (s : State),
    let d := ((s.at_ u).rs f.dest.toNat).toNat
    let a := ((s.at_ u).rs f.srca.toNat).toNat
    let b := ((s.at_ u).rs f.srcb.toNat).toNat
    let checks := fun (i : Instr) (illegal : Prop) (ea len grain : Nat) (far : Prop) (farOff : Prop) =>
      let faults := fun code addr => ∃ t : State, exec i s = .next t ∧ faultDone s t u code addr
      let here := ∃ off w w', s.localAt u.tile.key ea false = .at_ off w ∧ s.localAt u.tile.key (ea + len - 1) false = .at_ (off + len - 1) w'
      (illegal → faults 0x01 0) ∧
      (¬ illegal → (¬ here → faults 0x04 ea) ∧ (here → (¬ far → faults 0x04 0) ∧ (far → (ea % grain ≠ 0 → faults 0x03 ea) ∧
        (ea % grain = 0 → farOff → faults 0x03 0))))
    (s.legal u f 5 0x00 = true → checks (.msend u f) (b < 32 ∨ 65536 < b ∨ b % 32 ≠ 0 ∨ routeBad f.imm = true) a b 32 (d + b ≤ 2 ^ 20) (d % 32 ≠ 0)) ∧
    (s.legal u f 6 0x00 = true → checks (.hsend u f) (hearthLength b = false ∨ (d / 2 ^ 44 = 1 ∧ f.bits 3 0 ≠ 0)) a b 128
      (stackRange d b = true ∨ s.remoteTile u.tile.key d b = true) (d % 128 ≠ 0)) ∧
    (s.legal u f 6 0x01 = true → checks (.hbcast u f) (hearthLength b = false) a b 128 True False) ∧
    (s.legal u f 6 0x02 = true → checks (.hget u f) (hearthLength b = false) d b 128 (stackRange a b = true) (a % 128 ≠ 0)) ∧
    (s.legal u f 6 0x08 = true → checks (.esend u f) (d < 1 ∨ 16384 < d) a (4 * d) 64 True False)) ∧
  (∀ r ∈ tileCodes, ∀ (u : Issue) (f : Fields) (s : State),
    let a := s.tile u.tile.key
    let x := s.at_ u
    let w := a.word x.pc
    let faults := fun code => ∃ t : State, exec (r.2.2 u f) s = .next t ∧ faultDone s t u code 0
    s.mayIssue u.tile.key u.thread = true → s.chosen u.tile.key u.thread (s.cycleOf u) = true →
      (regBad a x .pc = true → faults 0x12) ∧
      (regBad a x .pc = false → a.pstoreEcc.get .good x.pc = .double → faults 0x11) ∧
      (regBad a x .pc = false → a.pstoreEcc.get .good x.pc ≠ .double → wordIs w r.1 r.2.1 f = true →
        (regBad a x (.p f.pidx.toNat) = true ∨ (x.loops ≠ [] ∧ regBad a x .loops = true) → faults 0x12) ∧
        (regBad a x (.p f.pidx.toNat) = false → (x.loops = [] ∨ regBad a x .loops = false) →
          (s.holds u f = true → (∃ sp, opSpec r.1 r.2.1 f = some sp ∧ ∃ o ∈ sp.reads f, regBad a x o = true) → faults 0x12) ∧
          ((s.holds u f = false ∨ ∀ sp, opSpec r.1 r.2.1 f = some sp → ∀ o ∈ sp.reads f, regBad a x o = false) →
            r.1 = 2 → (∃ l ∈ x.loops, l.stop = x.pc) → faults 0x01))) ∧
      (s.fetched u f r.1 r.2.1 = true → s.holds u f = true → classAllowed r.1 r.2.1 u.thread = true →
        (∃ sp, opSpec r.1 r.2.1 f = some sp ∧ sp.illegal f = true ∧ ∀ o ∈ sp.reads f, regBad a x o = false) → faults 0x01) ∧
      (regBad a x .pc = false → a.pstoreEcc.get .good x.pc ≠ .double → definedCode (wordClass w) (wordFunction w) = false →
        regBad a x (.p (fieldsOf w).pidx.toNat) = false → (x.loops = [] ∨ regBad a x .loops = false) → x.holds (fieldsOf w) = true →
        classAllowed (wordClass w) (wordFunction w) u.thread = true → faults 0x01))

/-- R83, R86, the waiting functions: MWAIT takes n from its counter where it holds that many and waits for it otherwise; MTEST and MCNT read it;
MQUIET and HQUIET go on where no earlier send, or no Hearth send, stands in the thread's queue, and wait otherwise. The choices of the model it rests
on: log entries 5, 6. -/
def Obligations.MeshWaits : Prop :=
  ∀ (u : Issue) (f : Fields) (s : State),
    let a := s.tile u.tile.key
    let k := f.imm.toNat % 16
    let n := f.imm.toNat / 65536
    let waits := fun (i : Instr) (w : Wait) =>
      ∃ t : State, exec i s = .next t ∧ sameBesideTiles s t ∧ onlyThread s t u [] ∧ sameRegisters (s.at_ u) (t.at_ u) ∧
        (t.at_ u).state = .data ∧ (t.at_ u).wait = w ∧ (t.at_ u).waitFrom = some (s.cycleOf u + 1)
    let on_ := fun (i : Instr) =>
      ∃ t : State, exec i s = .next t ∧ sameBesideTiles s t ∧ onlyThread s t u [] ∧ sameRegisters (s.at_ u) (t.at_ u) ∧ goesOn (s.at_ u) (t.at_ u)
    (s.clear u f 5 0x08 = true →
      (n ≤ a.ctr.get 0 k → ∃ t : State, exec (.mwait u f) s = .next t ∧ sameBesideTiles s t ∧ sameRegisters (s.at_ u) (t.at_ u) ∧
        goesOn (s.at_ u) (t.at_ u) ∧ (∀ j, j ≠ u.tile.key → t.tile j = s.tile j) ∧ (t.tile u.tile.key).sram = a.sram ∧
        ∀ j, (t.tile u.tile.key).ctr.get 0 j = if j = k then a.ctr.get 0 k - n else a.ctr.get 0 j) ∧
      (a.ctr.get 0 k < n → waits (.mwait u f) (.counter ⟨k, Nat.mod_lt _ (by decide)⟩ n))) ∧
    (s.clear u f 5 0x09 = true →
      ∃ t : State, exec (.mtest u f) s = .next t ∧ predDone s t u f.dest.toNat (decide (n ≤ a.ctr.get 0 k)) 1) ∧
    (s.clear u f 5 0x0A = true →
      ∃ t : State, exec (.mcnt u f) s = .next t ∧ scalarDone s t u f.dest.toNat (BitVec.ofNat 64 (a.ctr.get 0 k)) 1) ∧
    (s.clear u f 5 0x0B = true →
      (a.queue u.thread = [] → on_ (.mquiet u f)) ∧
      (a.queue u.thread ≠ [] → waits (.mquiet u f) (.quiet (a.queue u.thread).length))) ∧
    (s.clear u f 6 0x0B = true →
      ((∀ d ∈ a.queue u.thread, d.isHearth = false) → on_ (.hquiet u f)) ∧
      ((∃ d ∈ a.queue u.thread, d.isHearth = true) → waits (.hquiet u f) .hearth))

/-! ### Fabric remote, tick and system (R36, R46 to R48, R57, R90 to R97) -/

/-- R36, R90 to R92, R272 to R274, a remote operation that the window table grants: its request leaves the die's remote unit for the Hearth, holding
the issuer's coordinates, die, row, column, thread and tick, and the thread parks with the operation outstanding. R92, R272, a remote operation that
the sending side refuses: fault WINDOW with no request sent, and MISALIGN for a granted address off its size. The choices of the model it rests on:
log entries 5, 6. -/
def Obligations.RemoteOperations : Prop :=
  (∀ r ∈ ([(Instr.xldD, 0, false), (Instr.xldV, 1, true), (Instr.xstD, 4, false), (Instr.xstV, 5, false), (Instr.xadd, 8, false), (Instr.xfadd, 9, false),
      (Instr.xswap, 10, false), (Instr.xcas, 11, false)] : List ((Issue → Fields → Instr) × Nat × Bool)),
    ∀ (u : Issue) (f : Fields) (s : State) c, s.clear u f 7 r.2.1 = true →
      let a := ((s.at_ u).rs f.srca.toNat).toNat
      s.remoteCoord (flag f.imm 31) a = some c → s.granted c (a % 2 ^ 48) r.2.1 = true → a % opBytes r.2.1 = 0 →
      ∃ t : State, ∃ d : RemoteDesc, exec (r.1 u f) s = .next t ∧ sameBesideTiles (s.sendRequest u.tile.die d) t ∧ sameRegisters (s.at_ u) (t.at_ u) ∧
        onlyThread s t u [] ∧
        d.op.toNat = r.2.1 ∧ d.target.toNat = c % 4096 ∧ d.mpa.toNat = a % 2 ^ 48 ∧ d.from_.toNat = s.coord % 4096 ∧ d.die = u.tile.die ∧ d.row = u.tile.row ∧
        d.col = BitVec.ofNat 6 (s.logCol u.tile.key) ∧ d.thread = u.thread ∧ d.tick.toNat = s.seq % 256 ∧ d.status = 0 ∧
        (r.2.1 = 4 ∨ 8 ≤ r.2.1 → d.value = (s.at_ u).rs f.srcb.toNat) ∧ (r.2.1 = 5 → d.data = (s.at_ u).rv f.srcb.toNat) ∧
        (r.2.1 = 11 → d.compare = (s.at_ u).rs f.dest.toNat) ∧
        (t.at_ u).pc = (loopEnd (s.at_ u).loops (s.at_ u).pc).2 ∧ (t.at_ u).state = .parked ∧ (t.at_ u).wait = .remote ∧
        (t.at_ u).remote = some { op := r.2.1, dest := f.dest.toNat, vector := r.2.2, tick := s.seq % 256, target := c, timedOut := false }) ∧
  (∀ r ∈ ([(Instr.xldD, 0), (Instr.xldV, 1), (Instr.xstD, 4), (Instr.xstV, 5), (Instr.xadd, 8), (Instr.xfadd, 9), (Instr.xswap, 10), (Instr.xcas, 11)] :
      List ((Issue → Fields → Instr) × Nat)),
    ∀ (u : Issue) (f : Fields) (s : State), s.legal u f 7 r.2 = true →
      let a := ((s.at_ u).rs f.srca.toNat).toNat
      let faults := fun code => ∃ t : State, exec (r.1 u f) s = .next t ∧ faultDone s t u code 0 ∧ t.fabric = s.fabric ∧ t.ports = s.ports
      ((s.remoteCoord (flag f.imm 31) a = none ∨ ∃ c, s.remoteCoord (flag f.imm 31) a = some c ∧ s.granted c (a % 2 ^ 48) r.2 = false) → faults 0x08) ∧
      (∀ c, s.remoteCoord (flag f.imm 31) a = some c → s.granted c (a % 2 ^ 48) r.2 = true → a % opBytes r.2 ≠ 0 → faults 0x03))

/-- R92, R277, R278, the end of a remote operation: a response in the thread's tick writes its result, or zero where it was refused, which is error
0x09, and ends the wait; a response of an earlier tick or after a timeout is discarded and counted; a timeout leaves the thread parked and records
error 0x08 with the target, for an operation of an earlier tick too. The choices of the model it rests on: log entry 3. -/
def Obligations.RemoteEnds : Prop :=
  (∀ (p : Fin 16) (io : Fin 2) (s : State) b bs, (s.port p).reserve (34 + io) = b :: bs → b.stream = 0xFF →
      let d := descOf (leNat b.data)
      let row := b.addr / 2 ^ 23 % 64
      let k := posKey p row (s.physCol p row (b.addr / 2 ^ 17 % 64))
      let x := (s.tile k).thread d.thread
      (∀ o, x.remote = some o → x.state = .parked → x.pc ≤ 4095 → o.timedOut = false → d.tick.toNat = o.tick → o.tick = s.seq % 256 →
        ∃ t : State, exec (.remoteResponse p io) s = .next t ∧
          let y := (t.tile k).thread d.thread
          y.state = .running ∧ y.remote = none ∧ y.pc = x.pc ∧ (t.port p).reserve (34 + io) = bs ∧
          (∀ j, j ≠ k → t.tile j = s.tile j) ∧ (t.tile k).sram = (s.tile k).sram ∧ (∀ m, m ≠ d.thread.val → (t.tile k).thread m = (s.tile k).thread m) ∧
          (∀ m, y.rs m = if opDelivers o.op ∧ o.vector = false ∧ m = o.dest ∧ m ≠ 0 then (if d.status = 0 then d.value else 0) else x.rs m) ∧
          (∀ m, y.rv m = if opDelivers o.op ∧ o.vector = true ∧ m = o.dest then (if d.status = 0 then d.data else 0) else x.rv m) ∧
          (d.status = 0 → t.regs = s.regs) ∧
          (d.status ≠ 0 → flag (s.reg (Reg.FAB_ERR_STATUS 2)) 31 = false → t.reg (Reg.FAB_ERR_STATUS 2) = 0x80000009)) ∧
      ((d.tick.toNat ≠ s.seq % 256 ∨ x.remote = none ∨ ∃ o, x.remote = some o ∧ (o.timedOut = true ∨ d.tick.toNat ≠ o.tick)) →
        ∃ t : State, exec (.remoteResponse p io) s = .next t ∧ (t.port p).reserve (34 + io) = bs ∧ t.fabric.stale = s.fabric.stale + 1 ∧
          (∀ j, j ≠ k → t.tile j = s.tile j) ∧ { t.tile k with orphans := (s.tile k).orphans } = s.tile k ∧ t.regs = s.regs)) ∧
  (∀ (k : TileId) (n : Fin 4) (s : State), flag (s.reg (Reg.FAB_LOSS 2)) 31 = false →
      let lost := fun (t : State) (target : Nat) => t.reg (Reg.FAB_LOSS 2) = BitVec.ofNat 32 (2 ^ 31 + target % 4096) ∧
        (flag (s.reg (Reg.FAB_ERR_STATUS 2)) 31 = false → t.reg (Reg.FAB_ERR_STATUS 2) = 0x80000008)
      (∀ o, ((s.tile k.key).thread n).remote = some o → o.timedOut = false → (∀ y ∈ (s.tile k.key).orphans, y.1 ≠ n.val) →
        ∃ t : State, exec (.remoteTimeout k n) s = .next t ∧ ((t.tile k.key).thread n).state = ((s.tile k.key).thread n).state ∧
          ((t.tile k.key).thread n).remote = some { o with timedOut := true } ∧ lost t o.target) ∧
      (∀ o rest, (s.tile k.key).orphans = (n.val, o) :: rest →
        ∃ t : State, exec (.remoteTimeout k n) s = .next t ∧ (t.tile k.key).threads = (s.tile k.key).threads ∧ (t.tile k.key).orphans = rest ∧ lost t o.target))

/-- R46 to R48, R93 to R96, the tick class: AT c waits for c or counts a late stamp; AT at or beyond the budget faults; SYNC leaves a token at the
router and waits for the release; TICKEND stops a loose thread, marks the core done for the bound thread whose sends have left, and holds it
otherwise; STAMP_REACHED ends a stamp wait. The choices of the model it rests on: log entries 5, 6. -/
def Obligations.TickClass : Prop :=
  ∀ (u : Issue) (f : Fields) (s : State),
    let k := u.tile.key
    let a := s.tile k
    let at_ := s.cycleOf u
    (s.clear u f 8 0x00 = true → f.imm.toNat < (a.sys 3).toNat →
      ∃ t : State, exec (.stampAt u f) s = .next t ∧ sameBesideTiles s t ∧ onlyThread s t u [10] ∧ sameRegisters (s.at_ u) (t.at_ u) ∧
        (at_ < f.imm.toNat → f.imm.toNat ≤ (t.at_ u).next ∧ (t.tile k).sys 10 = a.sys 10 ∧
          (at_ + 1 < f.imm.toNat → (t.at_ u).state = .stamp ∧ (t.at_ u).wait = .stamp f.imm.toNat)) ∧
        (f.imm.toNat ≤ at_ → (t.at_ u).state = .running ∧ fld ((t.tile k).sys 10) 15 0 = min (fld (a.sys 10) 15 0 + 1) 0xFFFF ∧
          fld ((t.tile k).sys 10) 31 16 = max (fld (a.sys 10) 31 16) (min (at_ - f.imm.toNat) 0xFFFF))) ∧
    (s.legal u f 8 0x00 = true → (a.sys 3).toNat ≤ f.imm.toNat → ∃ t : State, exec (.stampAt u f) s = .next t ∧ faultDone s t u 0x06 0) ∧
    (s.clear u f 8 0x01 = true →
      ∃ t : State, exec (.sync u f) s = .next t ∧ sameBesideTiles { s with routers := t.routers } t ∧ onlyThread s t u [] ∧ sameRegisters (s.at_ u) (t.at_ u) ∧
        (t.at_ u).state = .data ∧ (t.router k).tokens.get 0 f.imm.toNat = (s.router k).tokens.get 0 f.imm.toNat ||| 1 ∧
        (∀ g, g ≠ f.imm.toNat → (t.router k).tokens.get 0 g = (s.router k).tokens.get 0 g) ∧ (∀ j, j ≠ k → t.router j = s.router j)) ∧
    (u.thread ≠ 0 → s.legal u f 8 0x02 = true →
      ∃ t : State, exec (.tickend u f) s = .next t ∧ sameBesideTiles s t ∧ onlyThread s t u [] ∧ sameRegisters (s.at_ u) (t.at_ u) ∧
        (t.at_ u).state = .ended) ∧
    (u.thread = 0 → s.legal u f 8 0x02 = true →
      (a.sendB = [] → ∃ t : State, exec (.tickend u f) s = .next t ∧ (t.tile k).done = true ∧ (t.at_ u).state = .ended ∧
        sameRegisters (s.at_ u) (t.at_ u) ∧ (t.tile k).sram = a.sram ∧ (∀ j, j ≠ k → t.tile j = s.tile j) ∧ t.regs = s.regs ∧
        4 * at_ ≤ t.tick.lastDone ∧ a.stored ≤ at_) ∧
      (a.sendB ≠ [] → ∃ t : State, exec (.tickend u f) s = .next t ∧ (t.tile k).done = a.done ∧ (t.at_ u).state = .data ∧ (t.at_ u).wait = .tickend ∧
        (t.at_ u).pc = (s.at_ u).pc ∧ sameBesideTiles s t)) ∧
    (u.thread = 0 → (s.at_ u).state = .stamp → (s.at_ u).pc ≤ 4095 →
      ∃ t : State, exec (.stampReached u.tile) s = .next t ∧ (t.at_ u).state = .running ∧ (t.at_ u).wait = .none ∧ sameRegisters (s.at_ u) (t.at_ u) ∧
        sameBesideTiles s t ∧ (∀ j, j ≠ k → t.tile j = s.tile j))

/-- R57, R97, the system class: SRD reads a defined core system register and faults on any other offset; SWR clears the thread's own floating-point
flags and faults on any other offset; STIME reads the die's time counter and STICK the tick sequence number. The choices of the model it rests on: log
entries 5, 6, 123. -/
def Obligations.SystemClass : Prop :=
  ∀ (u : Issue) (f : Fields) (s : State),
    let k := u.tile.key
    (s.clear u f 15 0x00 = true → f.imm.toNat % 4 = 0 ∧ f.imm.toNat ≤ 0x34 →
      ∃ t : State, ∃ v, exec (.srd u f) s = .next t ∧ scalarDone s t u f.dest.toNat v 2 ∧
        (f.imm.toNat = 0 → v = BitVec.ofNat 64 (s.coreId k)) ∧
        (f.imm.toNat = 4 → v = BitVec.ofNat 64 (s.threadStates k)) ∧
        (f.imm.toNat = 8 → v = BitVec.ofNat 64 (s.cycleOf u % 2 ^ 32)) ∧
        (12 ≤ f.imm.toNat → f.imm.toNat ≠ 0x2C → f.imm.toNat ≠ 0x30 → v = ((s.tile k).sys (f.imm.toNat / 4)).setWidth 64)) ∧
    (s.legal u f 15 0x00 = true → (f.imm.toNat % 4 ≠ 0 ∨ 0x34 < f.imm.toNat) → ∃ t : State, exec (.srd u f) s = .next t ∧ faultDone s t u 0x07 0) ∧
    (s.clear u f 15 0x01 = true → f.imm.toNat = 0x34 →
      ∃ t : State, exec (.swr u f) s = .next t ∧ sameBesideTiles s t ∧ onlyThread s t u [13] ∧ sameRegisters (s.at_ u) (t.at_ u) ∧ goesOn (s.at_ u) (t.at_ u) ∧
        ∀ i < 32, flag ((t.tile k).sys 13) i =
          (flag ((s.tile k).sys 13) i && !(decide (i / 4 = u.thread.val) && ((s.at_ u).rs f.srca.toNat).getLsbD i))) ∧
    (s.legal u f 15 0x01 = true → f.imm.toNat ≠ 0x34 → ∃ t : State, exec (.swr u f) s = .next t ∧ faultDone s t u 0x07 0) ∧
    (s.clear u f 15 0x02 = true →
      ∃ t : State, exec (.stime u f) s = .next t ∧ scalarDone s t u f.dest.toNat (BitVec.ofNat 64 (s.timeNs u.tile.die)) 4) ∧
    (s.clear u f 15 0x03 = true → ∃ t : State, exec (.stick u f) s = .next t ∧
      scalarDone s t u f.dest.toNat (s.reg Reg.TCK_SEQ_HI ++ s.reg Reg.TCK_SEQ_LO) 2)

/-! ### Every tile instruction -/

/-- R39, an instruction of a class that its thread may not issue raises THREAD_CLASS: matrix, Hearth and tick instructions but TICKEND on a loose
thread, fabric remote ones on the bound thread. R33, an instruction whose predicate is 0 issues and does nothing else: for every tile instruction, no
register, no memory, no queue and nothing beside the tile changes. A tile instruction does nothing where its thread may not issue (the module not
ticking, the core unpowered, unplaced, held or loading, the thread stopped or waiting), where another thread of the core goes before it, or where the
fetch brings another instruction (R26, R34 to R37, R51, R53). R34, R45, the core's choice: the bound thread goes before any loose one that would issue
in the same or a later cycle, and of threads that may issue now, one at least is chosen for its cycle; a loose thread's issue leaves the cycle of a
bound thread that waits for nothing as it was. The choices of the model it rests on: log entries 5, 6, 32, 33, 34. -/
def Obligations.IssueRules : Prop :=
  (∀ r ∈ tileCodes, ∀ (u : Issue) (f : Fields) (s : State),
    ((r.1 = 4 ∨ r.1 = 6 ∨ (r.1 = 8 ∧ r.2.1 ≠ 2)) ∧ u.thread ≠ 0 ∨ r.1 = 7 ∧ u.thread = 0) →
    s.fetched u f r.1 r.2.1 = true → s.holds u f = true →
    (∀ sp, opSpec r.1 r.2.1 f = some sp → ∀ o ∈ sp.reads f, regBad (s.tile u.tile.key) (s.at_ u) o = false) →
    ∃ t : State, exec (r.2.2 u f) s = .next t ∧ faultDone s t u 0x02 0) ∧
  (∀ r ∈ tileCodes, ∀ (u : Issue) (f : Fields) (s : State), s.fetched u f r.1 r.2.1 = true → s.holds u f = false →
    (loopEnd (s.at_ u).loops (s.at_ u).pc).2 ≤ 4095 →
    ∃ t : State, exec (r.2.2 u f) s = .next t ∧ sameBesideTiles s t ∧ onlyThread s t u [] ∧ sameRegisters (s.at_ u) (t.at_ u) ∧ goesOn (s.at_ u) (t.at_ u)) ∧
  (∀ r ∈ tileCodes, ∀ (u : Issue) (f : Fields) (s : State),
    (s.mayIssue u.tile.key u.thread = false ∨ s.chosen u.tile.key u.thread (s.cycleOf u) = false ∨ (s.tile u.tile.key).fetches u.thread r.1 r.2.1 f = false) →
    exec (r.2.2 u f) s = .next s) ∧
  ((∀ (s : State) k n, n ≠ 0 → n < 4 → s.mayIssue k 0 = true → ((s.tile k).thread 0).came = false → ∀ c, (s.tile k).issueCycle 0 0 ≤ c → s.chosen k n c = false) ∧
  (∀ (s : State) k, (∀ n < 4, ((s.tile k).thread n).came = false) → (∃ n < 4, s.mayIssue k n = true) →
    ∃ n < 4, s.mayIssue k n = true ∧ s.chosen k n ((s.tile k).issueCycle n 0) = true) ∧
  (∀ (s t : State) (u v : Issue) (f : Fields), s.clear u f 0 0x00 = true → u.thread ≠ 0 → v.tile = u.tile → v.thread = 0 → (s.at_ v).came = false →
    exec (.add u f) s = .next t → t.cycleOf v = s.cycleOf v))

/-- R50, R51, R30, steps of the core that no thread issues: a failed pipeline check stops every thread, holds the core and records thread 7; a
write-back clears a corrected word's mark and takes an uncorrectable word as a hardware fault. -/
def Obligations.CoreSteps : Prop :=
  ∀ (k : TileId) (s : State), s.tilePowered k.key = true →
    (∃ t : State, exec (.coreCheck k) s = .next t ∧ (t.tile k.key).hwFault = true ∧ (∀ n < 4, ((t.tile k.key).thread n).state = .faulted) ∧
      (t.tile k.key).sram = (s.tile k.key).sram ∧
      (flag ((s.tile k.key).sys 7) 31 = false → (t.tile k.key).sys 7 = 0x80000013 ∧ (t.tile k.key).sys 8 = 0x70000) ∧
      (s.fenced k.key = false → k.key ∈ t.recovery.pendingFences)) ∧
    (∀ w, (s.tile k.key).sramEcc.get .good w.toNat = .single →
      ∃ t : State, exec (.sramWriteBack k w) s = .next t ∧ sameBesideTiles s t ∧ (t.tile k.key).sramEcc.get .good w.toNat = .good ∧
        { t.tile k.key with sramEcc := (s.tile k.key).sramEcc } = s.tile k.key ∧ (∀ j, j ≠ k.key → t.tile j = s.tile j)) ∧
    (∀ w, (s.tile k.key).sramEcc.get .good w.toNat = .double →
      ∃ t : State, exec (.sramWriteBack k w) s = .next t ∧ (t.tile k.key).hwFault = true ∧ (∀ n < 4, ((t.tile k.key).thread n).state = .faulted) ∧
        (flag ((s.tile k.key).sys 7) 31 = false → (t.tile k.key).sys 7 = 0x80000010 ∧ (t.tile k.key).sys 9 = BitVec.ofNat 32 (8 * w.toNat)))

/-- R55, the first fault of a core is kept: where one is recorded, no tile instruction, injected packet, failed pipeline check or write-back (all that
raise faults) changes its code, thread, program index or offset, and at most `more` is set; a failed pipeline check, as a later fault, sets it, and
where none is recorded it is recorded. -/
def Obligations.FirstFaultKept : Prop :=
  let keeps := fun (s t : State) => ∀ k, flag ((s.tile k).sys 7) 31 = true →
    (t.tile k).sys 8 = (s.tile k).sys 8 ∧ (t.tile k).sys 9 = (s.tile k).sys 9 ∧
    ((t.tile k).sys 7 = (s.tile k).sys 7 ∨ (t.tile k).sys 7 = setFlag ((s.tile k).sys 7) 30 true)
  (∀ r ∈ tileCodes, ∀ (u : Issue) (f : Fields) (s : State) (t : State), exec (r.2.2 u f) s = .next t → keeps s t) ∧
  (∀ k (s : State) (t : State), exec (.coreCheck k) s = .next t → keeps s t) ∧
  (∀ k w (s : State) (t : State), exec (.sramWriteBack k w) s = .next t → keeps s t) ∧
  (∀ k loose (s : State) (t : State), exec (.sendInject k loose) s = .next t → keeps s t) ∧
  (∀ k (s : State), s.tilePowered k.key = true → ∃ t : State, exec (.coreCheck k) s = .next t ∧
    (t.tile k.key).sys 7 = if flag ((s.tile k.key).sys 7) 31 then setFlag ((s.tile k.key).sys 7) 30 true else 0x80000013)

/-! ### The die mesh (chapter 05) -/

/-- R80, R133, R138, injection: the next valid window of a router's slot table opens with its count from its start on; the next packet of a mesh send
leaves its queue whole through an open window, or on the loose channel, and stands at its router with its bytes as they are now, its route, offset,
counter and tick of injection; its descriptor goes with its last packet. The choices of the model it rests on: log entries 22, 127. -/
def Obligations.MeshInjection : Prop :=
  (∀ (p : TileId) (cycle : Nat) (s : State), let k := p.key; let r := s.router k; let w := s.tblWord (tblKey 0 k 3 (2 * r.window + 1))
    s.ticking = true → s.tick.isOpen = true → r.isOpen = false → r.window < 512 → flag w 31 = true → fld w 15 0 ≠ 0 →
    exec (.meshSlotWindowOpen p cycle) s =
      .next (if (s.tblWord (tblKey 0 k 3 (2 * r.window))).toNat ≤ cycle then s.setRouter k { r with isOpen := true, left := fld w 15 0 } else s)) ∧
  (∀ (p : TileId) (loose : Bool) (s : State) (d : SendDesc) (ds : List SendDesc) (r : Word) (i : Nat), let k := p.key
    let n := min 512 (d.len - 512 * i)
    let ends := decide (i + 1 = (d.len + 511) / 512)
    (s.tile k).queue (if loose then 1 else 0) = d :: ds → d.kind = .mesh r → fld r 31 30 ≤ 2 → d.sent = 17 * i → 512 * i < d.len → d.part = [] →
    d.partBad = none → d.poison = false → d.len % 32 = 0 → s.ticking = true → s.tilePowered k = true →
    (s.tile k).badWord (wordsOf (d.src + 512 * i) n) = none → (loose = true → flag (s.reg (Reg.MSH_CTRL p.die)) 0 = true) →
    (loose = false → (s.router k).isOpen = true ∧ 1 + n / 32 ≤ (s.router k).left) →
    ∃ t : State, ∃ f : Flight, exec (.sendInject p loose) s = .next t ∧
      (t.tile k).queue (if loose then 1 else 0) = (if ends then ds else { d with sent := 17 * (i + 1) } :: ds) ∧ t.flights = s.flights ++ [f] ∧
      f.router = k ∧ f.port = 0 ∧ f.target = 0 ∧ f.data = (s.tile k).bytes (d.src + 512 * i) n ∧ f.offset = d.dst + 512 * i ∧ f.index = i ∧ f.last = ends ∧
      f.ctr = fld r 3 0 ∧ f.tick = s.seq % 256 ∧ f.srcRow = p.row ∧ f.srcCol = p.pcol ∧ (f.loose = true ↔ d.thread ≠ 0) ∧ f.poison = none ∧ f.mute = false ∧
      f.turned = none ∧ f.mode = fld r 31 30 ∧
      (f.mode = 0 → f.rowA = fld r 29 24 ∧ f.colA = fld r 23 18 ∧ f.red = flag r 17 ∧ f.bf16 = (flag r 17 && flag r 16) ∧ f.tag = fld r 15 8 ∧ f.weight = 1) ∧
      (f.mode = 1 → f.rowA = fld r 29 24 ∧ f.rowB = fld r 23 18 ∧ f.colA = fld r 17 12 ∧ f.colB = fld r 11 6) ∧
      (f.mode = 2 → f.group = fld r 7 4) ∧
      (t.tile k).sram = (s.tile k).sram ∧ (∀ j, j ≠ k → t.tile j = s.tile j) ∧
      (loose = false → (t.router k).left = (s.router k).left - (1 + n / 32)))

/-- R133, R161, R166 to R168, injection of a Hearth send: a packet to the gateway of its row and column, of the lattice or, between the ports of one
bay, of the pair, carrying a block of the descriptor: a write to a tile or a stack, a broadcast, or a read request whose answer returns to the sender.
The choices of the model it rests on: log entries 22, 140, 148. -/
def Obligations.HearthInjection : Prop :=
  ∀ (p : TileId) (s : State) (d : SendDesc) (ds : List SendDesc) (i : Nat), let k := p.key
    (s.tile k).sendB = d :: ds → d.sent = 5 * i → i < d.packets → d.part = [] → d.partBad = none → d.poison = false → d.thread = 0 → s.ticking = true →
    s.tilePowered k = true → (s.router k).isOpen = true → 5 ≤ (s.router k).left →
    let ends := decide (i + 1 = d.packets)
    let paired := fun kind dst => decide (kind ≠ 4) && (decide (dst = p.die.val + 16) || decide (p.die.val = dst + 16))
    let sent := fun (gone : Bool) (kind dst addr stream ctr : Nat) (last : Bool) (data : List Byte) =>
      ∃ t : State, ∃ f : Flight, ∃ b : HBlock, exec (.sendInject p false) s = .next t ∧ t.flights = s.flights ++ [f] ∧
        (t.tile k).sendB = (if gone then ds else { d with sent := 5 * (i + 1) } :: ds) ∧ (t.tile k).sram = (s.tile k).sram ∧
        f.router = k ∧ f.port = 0 ∧ f.hblk = BitVec.ofNat 64 b.header ∧ f.data = data ∧ f.tick = s.seq % 256 ∧ f.loose = false ∧
        f.target = (if paired kind dst then 2 else 1) ∧ f.gw = gatewayFrom (paired kind dst) p.row p.pcol ∧
        b.src = p.die ∧ b.dst = dst ∧ b.kind = kind ∧ b.addr = addr ∧ b.stream = stream ∧ b.ctr = ctr ∧ b.last = last ∧ b.poison = false ∧ b.tick = s.seq % 16
    let bytes := (s.tile k).bytes (d.src + 128 * i) 128
    ((s.tile k).badWord (wordsOf (d.src + 128 * i) 128) = none →
      (∀ mpa stream ctr, d.kind = .hsend mpa stream ctr → mpa / 2 ^ 44 = 0 →
        sent ends 0 (s.bayDie (mpa / 2 ^ 40 % 16)) (blockAddr (mpa + 128 * i)) stream ctr ends bytes) ∧
      (∀ mpa stream ctr, d.kind = .hsend mpa stream ctr → mpa / 2 ^ 44 = 1 →
        sent ends 1 (16 + mpa / 2 ^ 40 % 16) (blockAddr (mpa + 128 * i)) stream 0 ends bytes) ∧
      (∀ stream, d.kind = .hbcast stream → sent ends 4 p.die 0 stream 0 ends bytes)) ∧
    (∀ mpa stream ctr, d.kind = .hget mpa stream ctr →
      sent false 2 (16 + mpa / 2 ^ 40 % 16) 0 0 0 true
        (readRequest mpa (s.dieBay p.die * 2 ^ 40 + p.row * 2 ^ 34 + s.logCol k * 2 ^ 28 + d.dst) d.len stream ctr))

/-- R89, R118, R196, R206, ESEND at its port: a descriptor whose length differs from that of its valid send entry is dropped with error 0x02; else
each packet carries the codes of 128 values, and code 32 behind them. Under rmode 0 a code is the value over 2^b rounded to nearest, plus 32, held to
0 to 63; NaN is coded as 32. The choices of the model it rests on: log entries 5, 6, 19, 124, 141. -/
def Obligations.EmberContribution : Prop :=
  (∀ (p : TileId) (s : State) (d : SendDesc) (ds : List SendDesc) (i g stream : Nat) (b : Int) (rmode : Bool), let k := p.key
    (s.tile k).sendB = d :: ds → d.kind = .esend g stream b rmode → d.sent = 5 * i → 512 * i < d.len → d.len % 4 = 0 → d.part = [] → d.partBad = none →
    d.poison = false → d.thread = 0 → s.ticking = true → s.tilePowered k = true →
    (i = 0 → s.emberLength k d = true → ∃ t : State, exec (.sendInject p false) s = .next t ∧ (t.tile k).sendB = ds ∧ t.flights = s.flights ∧
      (flag (s.reg Reg.EMB_ERR_STATUS) 31 = false → t.reg Reg.EMB_ERR_STATUS = 0x80000002)) ∧
    ((i = 0 → s.emberLength k d = false) → (s.router k).isOpen = true → 5 ≤ (s.router k).left →
      let n := min 128 (d.len / 4 - 128 * i)
      (s.tile k).badWord (wordsOf (d.src + 512 * i) (4 * n)) = none →
      ∃ t : State, ∃ f : Flight, exec (.sendInject p false) s = .next t ∧ t.flights = s.flights ++ [f] ∧ f.target = 1 ∧
        f.gw = gatewayFrom false p.row p.pcol ∧ f.data.length = 128 ∧ (∀ j, n ≤ j → j < 128 → f.data.getD j 0 = 32) ∧ (∀ j < 128, (f.data.getD j 0).toNat < 64) ∧
        (rmode = false → t.draws = s.draws ∧ ∀ j < n, (f.data.getD j 0).toNat =
          (emberCode false b 0 (ofF32 (BitVec.ofNat 32 (leNat ((s.tile k).bytes (d.src + 512 * i + 4 * j) 4))))).1) ∧
        f.hblk.toNat = 128 * i % 2 ^ 14 + (if 512 * (i + 1) < d.len then 0 else 2 ^ 31) + s.seq % 16 * 2 ^ 36 + stream % 256 * 2 ^ 40 + g % 16 * 2 ^ 48 +
          0x3F * 2 ^ 52 + p.die * 2 ^ 58 ∧
        (t.tile k).sendB = (if 512 * (i + 1) < d.len then { d with sent := 5 * (i + 1) } :: ds else ds))) ∧
  (∀ (b : Int) (neg : Bool) (m : Nat) (e : Int), m < 2 ^ 24 →
    let i : Int := 32 + sgn neg (if b ≤ e then m * 2 ^ (e - b).toNat else (roundShift .nearest m (b - e).toNat).1)
    (emberCode false b 0 (.fin neg m e)).1 = (max 0 (min 63 i)).toNat) ∧
  (∀ rmode b d, (emberCode rmode b d .nan).1 = 32 ∧ (emberCode rmode b d (.inf false)).1 = 63 ∧ (emberCode rmode b d (.inf true)).1 = 0)

/-- R82, R85, R129, R135, R147, a unicast packet at a router: it goes one link on, along its column to its row and along its row to the physical
column into which the first router of that row translates its logical one, or is ejected there. Its bytes then stand at its offset and no other byte
of the tile changes; with the last packet of a message of this tick the named counter rises by one, staying at 0xFFFF; a packet of an earlier tick
moves no counter; a fenced tile takes nothing. R134, R153, the errors of a link: one bit of a quarter of a flit or of its check byte is corrected; two
of one quarter poison a packet from that payload flit on, error 0x01, and lose it in the head flit, error 0x02, as an odd number of turned sideband
bits does; and the third tick in a row with an error puts the router at fault, error 0x08. The choices of the model it rests on: log entries 22, 120,
135, 136, 137, 139. -/
def Obligations.MeshArrivalAndLinkErrors : Prop :=
  (∀ (p : TileId) i f (s : State), let k := p.key
    s.flights[i]? = some f → f.router = k → f.port ≠ 6 → f.mode = 0 → f.target = 0 → s.mustCombine f = false → s.mayMove i f = true →
    let col := f.turned.getD (s.physCol p.die f.rowA f.colA)
    let onward := fun port turned => ∀ n, neighbour k port = some n →
      ∃ t : State, exec (.meshPacketArrival p i (.link [])) s = .next t ∧ t.tiles = s.tiles ∧ t.regs = s.regs ∧
        t.flights = s.flights.eraseIdx i ++ [{ f with router := n, port := facing port, turned := turned }]
    (f.turned = none → f.rowA < p.row → onward 1 none) ∧
    (f.turned = none → p.row.val < f.rowA → onward 2 none) ∧
    ((f.turned ≠ none ∨ f.rowA = p.row) → (p.pcol.val < col → onward 3 (some col)) ∧ (col < p.pcol → onward 4 (some col)) ∧
      (col = p.pcol →
        (s.tilePowered k = true → s.carryWins p.die = [] → f.poison = none → f.mute = false →
          (∀ n < 4, ∀ j m, ((s.tile k).thread n).wait = .counter j m → j.val ≠ f.ctr) →
          ∃ t : State, exec (.meshPacketArrival p i (.link [])) s = .next t ∧
            (∀ x, (t.tile k).byte x = if f.offset ≤ x ∧ x < f.offset + f.data.length then f.data.getD (x - f.offset) 0 else (s.tile k).byte x) ∧
            (∀ c, (t.tile k).ctr.get 0 c =
              if c = f.ctr ∧ f.last = true ∧ f.tick = s.seq % 256 then (if (s.tile k).ctr.get 0 c = 0xFFFF then 0xFFFF else (s.tile k).ctr.get 0 c + 1)
              else (s.tile k).ctr.get 0 c) ∧
            t.flights = s.flights.eraseIdx i ∧ (∀ j, j ≠ k → t.tile j = s.tile j) ∧ t.regs = s.regs) ∧
        (s.tilePowered k = false → ∃ t : State, exec (.meshPacketArrival p i (.link [])) s = .next t ∧ t.tiles = s.tiles ∧
          t.flights = s.flights.eraseIdx i ∧
          (s.fenced k = true → f.last = true → (t.router k).map.get 0 7 = min ((s.router k).map.get 0 7 + 1) 255))))) ∧
  ((∀ n j b, j ≤ n → b < 288 → readLink n [(j, b)] = { corrected := 1, bad := [], lost := false }) ∧
  (∀ n j b c, j ≤ n → b < 288 → c < 288 → b ≠ c → bitCover b = bitCover c → 1 ≤ j → readLink n [(j, b), (j, c)] = { corrected := 0, bad := [j], lost := false }) ∧
  (∀ n b c, b < 288 → c < 288 → b ≠ c → bitCover b = bitCover c → (readLink n [(0, b), (0, c)]).lost = true) ∧
  (∀ n j b, j ≤ n → 291 ≤ b → b < 296 → (readLink n [(j, b)]).lost = true) ∧
  (∀ (p : TileId) i f (s : State) flips, let k := p.key; let r := readLink f.flits flips
    s.flights[i]? = some f → f.router = k → f.port ≠ 6 → s.mustCombine f = false → s.mayMove i f = true → r.lost = true →
    ∃ t : State, exec (.meshPacketArrival p i (.link flips)) s = .next t ∧ t.tiles = s.tiles ∧ t.flights = s.flights.eraseIdx i ∧
      (t.router k).errNow.get false f.port = true ∧
      (s.ticking = true → (if s.tick.closed then t.tick.chargeNext else t.tick.charged) = true) ∧
      (let third := (s.router k).errNow.get false f.port = false ∧ (s.router k).errRun.get 0 f.port = 2
       (flag (s.reg (Reg.MSH_ERR_STATUS p.die)) 31 = false → t.reg (Reg.MSH_ERR_STATUS p.die) = if third then 0xC0000002 else 0x80000002) ∧
         (third → p.die.val ∈ t.recovery.dieReports))))

/-- R140 to R145, R150, R151, R210, what routers and regions do: a packet of a group copied along its tree; a combine opened by the first packet of a
tag and offset, and the sum passed on when its weight is complete; slips counted; a token passed to the parent and the release that ends the waits; a
pause counted as a stretch. The choices of the model it rests on: log entries 22, 138, 150. -/
def Obligations.MeshRouters : Prop :=
  (∀ (p : TileId) i f (s : State), let k := p.key; let w := s.groupEntry k f.group
    s.flights[i]? = some f → f.router = k → f.port ≠ 6 → (f.mode = 2 ∨ f.mode = 3) → f.target = 0 → s.mayMove i f = true →
    (groupValid w = true → ∃ t : State, exec (.meshPacketArrival p i (.link [])) s = .next t ∧ (flag w 0 = false → t.tiles = s.tiles) ∧
      t.flights = s.flights.eraseIdx i ++ ([1, 2, 3, 4].filter (flag w)).filterMap (fun port =>
        (neighbour k port).map (fun n => { f with router := n, port := facing port, turned := none }))) ∧
    (groupValid w = false → ∃ t : State, exec (.meshPacketArrival p i (.link [])) s = .next t ∧ t.tiles = s.tiles ∧ t.flights = s.flights.eraseIdx i ∧
      (flag (s.reg (Reg.MSH_ERR_STATUS p.die)) 31 = false → t.reg (Reg.MSH_ERR_STATUS p.die) = 0x80000004))) ∧
  (∀ (p : TileId) i f (s : State) w, let k := p.key
    s.flights[i]? = some f → f.router = k → s.mayMove i f = true → s.mustCombine f = true → s.reduction k f.tag = some w → f.mute = false →
    ((∀ c ∈ (s.router k).combine, c.tag ≠ f.tag ∨ c.offset ≠ f.offset) → f.weight < w → (s.router k).combine.length < 4 →
      ∃ t : State, exec (.reducePacketCombine p i (.link [])) s = .next t ∧ t.flights = s.flights.eraseIdx i ∧ t.tiles = s.tiles ∧
        (t.router k).combine = (s.router k).combine ++ [f]) ∧
    (∀ c n port, (s.router k).combine = [c] → c.tag = f.tag → c.offset = f.offset → c.data.length = f.data.length → c.bf16 = f.bf16 → c.ctr = f.ctr →
      c.last = f.last → c.weight + f.weight = w → c.router = k → c.mode = 0 → c.target = 0 → c.turned = none →
      towardRow k c.rowA = some port → neighbour k port = some n →
      ∃ t : State, exec (.reducePacketCombine p i (.link [])) s = .next t ∧ (t.router k).combine = [] ∧
        (t.router k).map.get 0 8 = min ((s.router k).map.get 0 8 + 1) 0xFFFF ∧
        t.flights = s.flights.eraseIdx i ++ [{ c with data := addWords f.bf16 c.data f.data, weight := w, poison := minPoison c.poison f.poison,
                                                      srcRow := p.row, srcCol := p.pcol, router := n, port := facing port }])) ∧
  (∀ (p : TileId) (s : State), ∃ t : State, exec (.forkSlip p) s = .next t ∧ { t with routers := s.routers } = s ∧
    (t.router p.key).map.get 0 4 = min ((s.router p.key).map.get 0 4 + 1) 255 ∧ (∀ j, j ≠ p.key → t.router j = s.router j)) ∧
  (∀ (p : TileId) n (s : State), (hasCrossing p.key = false → exec (.crossingSlip p n) s = .next s) ∧
    (hasCrossing p.key = true → ∃ t : State, exec (.crossingSlip p n) s = .next t ∧ { t with routers := s.routers, regs := s.regs } = s ∧
      (t.router p.key).map.get 0 5 = min ((s.router p.key).map.get 0 5 + n) 0xFFFF ∧
      (t.reg (Reg.MSH_SLIP_TOTAL p.die)).toNat = min ((s.reg (Reg.MSH_SLIP_TOTAL p.die)).toNat + n) 0xFFFFFFFF)) ∧
  (∀ (p : TileId) (g : Fin 16) (s : State) n, let k := p.key; let w := s.groupEntry k g
    s.ticking = true → groupValid w = true → flag w 14 = false → s.tokensComplete k g = true → s.tokensAt k g ≠ 0 →
    neighbour k (fld w 13 11) = some n → groupValid (s.groupEntry n g) = true → n ≠ k →
    ∃ t : State, exec (.syncToken p g (.link [])) s = .next t ∧ { t with routers := s.routers } = s ∧ (t.router k).tokens.get 0 g = 0 ∧
      (t.router n).tokens.get 0 g = (s.router n).tokens.get 0 g ||| 2 ^ facing (fld w 13 11)) ∧
  (∀ (p : TileId) (g : Fin 16) (s : State), let k := p.key; let w := s.groupEntry k g
    s.ticking = true → groupValid w = true → flag w 14 = true → s.tokensComplete k g = true → s.tokensAt k g ≠ 0 →
    ∃ t : State, exec (.syncRelease p g []) s = .next t ∧ (t.router k).tokens.get 0 g = 0 ∧
      (∀ port ∈ [1, 2, 3, 4], flag w port = true → ∀ n, neighbour k port = some n →
        ∃ f ∈ t.flights, f.router = n ∧ f.port = facing port ∧ f.mode = 3 ∧ f.ckind = 1 ∧ f.group = g ∧ f.tick = s.seq % 256) ∧
      (flag w 0 = true → ((s.tile k).thread 0).wait = .sync g → ((s.tile k).thread 0).state = .data → ((s.tile k).thread 0).pc ≤ 4095 →
        ((t.tile k).thread 0).state = .running ∧ ((t.tile k).thread 0).wait = .none)) ∧
  (∀ (p : TileId) i f (s : State), let k := p.key; let x := (s.tile k).thread 0
    s.flights[i]? = some f → f.router = k → f.port ≠ 6 → f.mode = 3 → f.target = 0 → f.tick = s.seq % 256 → s.mayMove i f = true →
    groupValid (s.groupEntry k f.group) = true → flag (s.groupEntry k f.group) 0 = true → (∃ g : Fin 16, x.wait = .sync g ∧ g.val = f.group) → x.state = .data →
    x.pc ≤ 4095 → ∃ t : State, exec (.meshPacketArrival p i (.link [])) s = .next t ∧ ((t.tile k).thread 0).state = .running ∧
      ((t.tile k).thread 0).wait = .none ∧ (∀ j, j ≠ k → t.tile j = s.tile j)) ∧
  (∀ (die : Fin 16) ps (s : State), s.ticking = true →
    ∃ t : State, exec (.syncFence die ps) s = .next t ∧ { t with regs := s.regs } = s ∧ ∀ r < 8,
      (t.reg (Reg.CLK_RGN_CUR_COUNT (16 * die + r))).toNat = min ((s.reg (Reg.CLK_RGN_CUR_COUNT (16 * die + r))).toNat + (if ps.getD r 0 = 0 then 0 else 1)) 0xFFFFFFFF ∧
      (t.reg (Reg.CLK_RGN_CUR_TIME (16 * die + r))).toNat = min ((s.reg (Reg.CLK_RGN_CUR_TIME (16 * die + r))).toNat + (ps.getD r 0 + 9) / 10) 0xFFFFFFFF)

/-! ### Ticks, clocks and module time (chapter 08) -/

/-- R24, R211, R213 to R216, R225, R226, beacons: a tick beacon raises the sequence number, or takes START_JOB's, though not in a standby, opens the
tick and clears threads and accumulators; an idle beacon leaves tick, number and module state, shows each die's error, steps the dies beyond 1 µs and
latches the master time; a flywheel beacon counts its miss; an edge within its window is accepted, another counted as early. The choices of the model
it rests on: log entries 3, 26, 152, 153. -/
def Obligations.Beacons : Prop :=
  let opened := fun (s t : State) (n : Nat) (abandon : Bool) =>
    t.seq = n ∧ t.mode = .running ∧ t.tick.isOpen = true ∧ t.tick.guard = false ∧ t.tick.resolved = false ∧ t.tick.abandonBeacon = abandon ∧
      t.tick.parity = flag (s.reg Reg.TCK_EPOCH) 0 ∧ (s.tick.chargeNext = true → t.tick.charged = true) ∧
      ∀ k, (t.tile k).done = false ∧ (t.tile k).acc = [] ∧ ∀ n < 4, ∀ r, ((t.tile k).thread n).rs r = 0 ∧ ((t.tile k).thread n).rv r = 0
  let noPathFailed := fun (s : State) => ∀ p < 16, ∀ i < 576, ∀ kw ∈ s.tbl, kw.1 = tblKey 2 p 2 i → flag kw.2 30 = false
  (∀ (s : State), s.mode = .running → s.tick.resolved = true → s.recovery.dieReports = [] → noPathFailed s → s.source = 0 →
    ∃ t : State, exec .tickBeacon s = .next t ∧ opened s t ((s.seq + 1) % 2 ^ 64) false) ∧
  (∀ (s : State) n, s.mode = .loaded → s.job.start = some n → flag (s.reg Reg.TCK_ROLE) 31 = false → s.recovery.dieReports = [] → noPathFailed s →
    s.source = 0 →
    ∃ t : State, exec .tickBeacon s = .next t ∧ opened s t n.toNat false ∧ t.job.start = none ∧ flag (t.reg Reg.TCK_STATUS) 27 = true) ∧
  (∀ (s : State), s.mode = .loaded → s.job.start.isSome = true → flag (s.reg Reg.TCK_ROLE) 31 = true → exec .tickBeacon s = .next s) ∧
  (∀ (s : State), s.mode = .running → s.tick.resolved = true → s.recovery.dieReports = [] → noPathFailed s → s.source = 1 → s.tick.edge = 0 →
    s.tick.srcLost = false → s.tick.misses < 2 → ∃ t : State, exec .flywheelBeacon s = .next t ∧ opened s t ((s.seq + 1) % 2 ^ 64) false ∧ flag (t.reg Reg.TCK_EVENTS) 4 = true ∧
      fld (t.reg Reg.TCK_STATUS) 31 30 = 1 ∧ t.tick.misses = s.tick.misses + 1) ∧
  (∀ (s : State), s.mode = .running → s.tick.resolved = true → s.recovery.dieReports = [] → noPathFailed s → s.source = 2 → s.tick.frame = none → s.tick.edge = 0 →
    ∃ t : State, exec .flywheelBeacon s = .next t ∧ opened s t ((s.seq + 1) % 2 ^ 64) true) ∧
  (∀ (s : State), s.idleDue = true → (∀ d < 16, flag (s.shadow (Reg.TIL_DIE_FENCE d)) 31 = true → flag (s.reg (Reg.TIL_DIE_FENCE d)) 31 = true) →
    ∃ t : State, exec .idleBeacon s = .next t ∧ t.seq = s.seq ∧ t.mode = s.mode ∧ t.tick.isOpen = s.tick.isOpen ∧ t.tiles = s.tiles ∧
      t.reg64 Reg.TCK_BEACON_LO Reg.TCK_BEACON_HI = s.clock.get 0 36 / 65536 % 2 ^ 64 ∧ t.clock.get 0 36 = s.clock.get 0 36 ∧
      ∀ u < 36, s.unitOn u = true →
        let e : Int := ((s.clock.get 0 36 / 65536 : Nat) : Int) - ((s.clock.get 0 u / 65536 : Nat) : Int)
        t.reg (Reg.TCK_DIE_ERR u) = intWord (clampInt (-2147483648) 2147483647 e) ∧
        (1000 < e.natAbs → t.clock.get 0 u = s.clock.get 0 36) ∧
        (e.natAbs ≤ 1000 → t.clock.get 0 u = s.clock.get 0 u ∧ t.slew.get 0 u = clampInt (-50000) 50000 (e * 1000))) ∧
  (∀ (s : State) (x : Int), s.mode = .running → s.source = 1 → s.tick.srcLost = false →
    let w : Int := 1000 * (fld (s.reg Reg.TCK_SRC) 7 0 : Nat)
    (s.tick.edge ≠ 1 → -w ≤ x → x ≤ w →
      ∃ t : State, exec (.tickInEdge x) s = .next t ∧ t.tick = { s.tick with edge := 1, misses := 0 } ∧ { t with tick := s.tick, regs := s.regs } = s ∧
        fld (t.reg Reg.TCK_SRC_COUNT) 23 16 = if 0 < x then min (fld (s.reg Reg.TCK_SRC_COUNT) 23 16 + 1) 255 else fld (s.reg Reg.TCK_SRC_COUNT) 23 16) ∧
    (x < -w → exec (.tickInEdge x) s = .next (s.bumpReg Reg.TCK_SRC_COUNT 31 24)))

/-- R49, R209, R210, R218, R220 to R222, R226, R227, R313: a guard start latches the guard, judges an overrun and records its margin; a loss of the
reference switches to the oscillator, a return back, at once only while no tick runs; a stretched period is counted with its time; PTP follows its
master: a Sync is stamped and answered by a Delay_Req, the Delay_Resp gives the path delay and the Follow_Up the offset, which steps the master clock
where it is above 1 ms and no tick runs and trims it within ±25 ppm otherwise; the sixteenth good interval locks, the sixteenth missed one unlocks.
The choices of the model it rests on: log entries 3, 27, 28, 29, 151, 155. -/
def Obligations.GuardAndClocks : Prop :=
  (∀ (s : State), s.ticking = true → s.tick.isOpen = true → s.tick.guard = false →
    ∃ t : State, exec .guardStart s = .next t ∧ t.tick.guard = true ∧ t.seq = s.seq ∧
      (s.overran = true → t.tick.overrun = true ∧ t.reg Reg.TCK_MARGIN = 0x80000000) ∧
      (t.tick.overrun = false → (∀ d, s.thermal.acted.get 0 d = 0) →
        (t.reg Reg.TCK_MARGIN).toNat = (32 * (s.reg Reg.TCK_GUARD_OFF).toNat - 5 * s.tick.lastDone) / 32 % 2 ^ 31)) ∧
  (∀ (s : State) edges, s.mode ≠ .off → fld (s.reg Reg.CLK_STATUS) 31 30 ≠ 2 →
    (∃ t : State, exec (.referenceLost false edges) s = .next t ∧ { t with regs := s.regs } = s ∧ fld (t.reg Reg.CLK_STATUS) 31 30 = 1 ∧
      flag (t.reg Reg.CLK_STATUS) 29 = edges ∧ flag (t.reg Reg.CLK_STATUS) 28 = false) ∧
    ∃ t : State, exec (.referenceLost true edges) s = .next t ∧ { t with regs := s.regs, draws := s.draws } = s ∧ fld (t.reg Reg.CLK_STATUS) 31 30 = 2 ∧
      flag (t.reg Reg.CLK_EVENTS) 0 = true ∧ fld (t.reg Reg.CLK_REF_LOSSES) 15 0 = min (fld (s.reg Reg.CLK_REF_LOSSES) 15 0 + 1) 65535 ∧
      -10000 ≤ (t.reg Reg.CLK_OSC_OFFSET).toInt ∧ (t.reg Reg.CLK_OSC_OFFSET).toInt ≤ 10000) ∧
  (∀ (s : State), s.mode ≠ .off → ∃ t : State, exec .referenceReturned s = .next t ∧ { t with regs := s.regs } = s ∧ flag (t.reg Reg.CLK_STATUS) 28 = true ∧
    (fld (s.reg Reg.CLK_STATUS) 31 30 = 1 → fld (t.reg Reg.CLK_STATUS) 31 30 = 0) ∧
    (s.ticking = true → fld (s.reg Reg.CLK_STATUS) 31 30 ≠ 1 → fld (t.reg Reg.CLK_STATUS) 31 30 = fld (s.reg Reg.CLK_STATUS) 31 30) ∧
    (s.ticking = false → fld (s.reg Reg.CLK_STATUS) 31 30 = 2 → flag (s.reg Reg.CLK_CTRL) 0 = true →
      fld (t.reg Reg.CLK_STATUS) 31 30 = 0 ∧ flag (t.reg Reg.CLK_EVENTS) 1 = true)) ∧
  (∀ (d : Fin 16) (r : Fin 8) (q : Fin 3) (s : State), s.ticking = true → s.tick.isOpen = true → s.unitOn d = true →
    exec (.droopStretch d r q) s = .next ((s.bumpReg (Reg.CLK_RGN_CUR_COUNT (16 * d.val + r.val)) 31 0).bumpReg
      (Reg.CLK_RGN_CUR_TIME (16 * d.val + r.val)) 31 0 (2 ^ q.val))) ∧
  (∀ (s : State) (i : Fin 2) h c (p : PtpHead), s.portUp i = true → s.accepts i h = true → s.dispatch i c = .ptp →
    flag (s.reg Reg.TCK_PTP_CTRL) 31 = true → fld (s.reg Reg.TCK_PTP_CTRL) 30 30 = i → p.domain.toNat = fld (s.reg Reg.TCK_PTP_CTRL) 23 16 →
    let x := s.host.ptp
    (∀ d, x.master = none → ∃ t : State, exec (.ptpMessage i h c p (.announce d)) s = .next t ∧ t.host.ptp = { x with master := some (p.sender, d) }) ∧
    (∀ d, x.master = some (p.sender, d) →
      (-7 ≤ p.interval → p.interval ≤ 1 → ∃ t : State, exec (.ptpMessage i h c p (.sync true)) s = .next t ∧
        t.host.ptp.sync = some (p.seq, s.timeNs (32 + i)) ∧ t.host.ptp.asked = some (x.next, s.timeNs (32 + i)) ∧
        t.out = .frame i 4 (delayReq i p.domain.toNat x.next.toNat) (s.frameTag i) :: s.out) ∧
      (∀ t1 t2 t3 t4 : Nat, x.asked = some (p.seq, t3) → x.pair = some (t1, t2) →
        ∃ t : State, exec (.ptpMessage i h c p (.delayResp t4)) s = .next t ∧ t.host.ptp.delay = (((t2 : Int) - t1) + ((t4 : Int) - t3)) / 2) ∧
      (∀ t1 t2 : Nat, x.sync = some (p.seq, t2) → let y : Int := (t2 : Int) - t1 - x.delay
        ∃ t : State, exec (.ptpMessage i h c p (.followUp t1)) s = .next t ∧ t.host.ptp.sync = none ∧ t.host.ptp.pair = some (t1, t2) ∧
          (-2147483648 ≤ y → y ≤ 2147483647 → (t.reg Reg.TCK_PTP_OFFSET).toInt = y) ∧
          (1000000 < y.natAbs → s.ticking = false → flag (t.reg Reg.TCK_EVENTS) 1 = true ∧
            ((t.clock.get 0 36 : Nat) : Int) = (((s.clock.get 0 36 : Nat) : Int) - y * 65536) % 2 ^ 80) ∧
          (y.natAbs ≤ 1000000 ∨ s.ticking = true → t.clock = s.clock ∧ -25000 ≤ t.slew.get 0 36 ∧ t.slew.get 0 36 ≤ 25000) ∧
          (y.natAbs < 500 → x.below = 15 → flag (t.reg Reg.TCK_PTP_STATUS) 31 = true)))) ∧
  (∀ (s : State), flag (s.reg Reg.TCK_PTP_CTRL) 31 = true →
    ∃ t : State, exec .syncIntervalMissed s = .next t ∧ t.host.ptp.below = 0 ∧
      fld (t.reg Reg.TCK_PTP_STATUS) 15 0 = min (fld (s.reg Reg.TCK_PTP_STATUS) 15 0 + 1) 65535 ∧
      (fld (s.reg Reg.TCK_PTP_STATUS) 15 0 = 15 → flag (s.reg Reg.TCK_PTP_STATUS) 31 = true →
        flag (t.reg Reg.TCK_PTP_STATUS) 31 = false ∧ flag (t.reg Reg.TCK_EVENTS) 0 = true) ∧
      (fld (s.reg Reg.TCK_PTP_STATUS) 15 0 < 15 → flag (t.reg Reg.TCK_PTP_STATUS) 31 = flag (s.reg Reg.TCK_PTP_STATUS) 31))

/-! ### The vote, the decision and recovery (chapter 13) -/

/-- R218, R282, R335 to R339: closing the vote; the final verdict shown and counted; a member's vote when it holds every child's, or at the wait's end
as abandon; the decision of a module alone, of the root from every verdict and the count, and of a member from its parent; a commit raises the epoch
and records the tick, an abandon leaves both; a lost decision tears the job down. The choices of the model it rests on: log entries 3, 30. -/
def Obligations.VoteAndDecision : Prop :=
  ∀ (s : State), s.ticking = true → s.tick.isOpen = true →
    let resolvedAs := fun (t : State) (d : Bool) =>
      t.tick.resolved = true ∧ t.tick.decision = some d ∧ t.seq = s.seq ∧
        t.reg Reg.TCK_EPOCH = (if d then s.reg Reg.TCK_EPOCH + 1 else s.reg Reg.TCK_EPOCH) ∧
        t.reg64 Reg.TCK_LAST_COMMIT_LO Reg.TCK_LAST_COMMIT_HI = (if d then s.seq else s.reg64 Reg.TCK_LAST_COMMIT_LO Reg.TCK_LAST_COMMIT_HI) ∧
        fld (t.reg Reg.TCK_COMMIT_STATUS) 31 30 = if d then 1 else 2
    (s.tick.guard = true → s.tick.closed = false → exec .voteClose s = .next { s with tick := { s.tick with closed := true } }) ∧
    (s.tick.closed = true → s.tick.verdict = none → s.tick.resolved = false →
      ∃ t : State, exec .localVerdictFinal s = .next t ∧ { t with regs := s.regs, tick := s.tick } = s ∧
        t.tick = { s.tick with verdict := some (!(s.tick.overrun || s.tick.charged || s.tick.late || s.tick.abandonBeacon || s.tick.recovery)) } ∧
        t.tick.verdict = some (flag (t.reg Reg.TCK_STATUS) 26) ∧ flag (t.reg Reg.TCK_STATUS) 25 = s.tick.overrun ∧
        fld (t.reg Reg.TCK_COUNTS) 31 16 = min 65535 (fld (s.reg Reg.TCK_COUNTS) 31 16 + if s.tick.overrun then 1 else 0) ∧
        fld (t.reg Reg.TCK_COUNTS) 15 0 = min 65535 (fld (s.reg Reg.TCK_COUNTS) 15 0 + if t.tick.verdict = some true then 0 else 1)) ∧
    (s.tick.guard = true → s.tick.resolved = false →
      (∀ v, s.groupSize ≤ 1 → s.tick.verdict = some v → ∃ t : State, exec .commitDecision s = .next t ∧ resolvedAs t v) ∧
      (1 < s.groupSize → s.isRoot = true → s.tick.verdict.isSome = true → s.votesHeld = true →
        ∃ t : State, exec .commitDecision s = .next t ∧
          resolvedAs t (s.tick.verdict.getD false && s.tick.votes.all (fun v => v.2.2) && decide (s.voteCount = s.groupSize))) ∧
      (∀ d, 1 < s.groupSize → s.isRoot = false → s.tick.decision = some d → ∃ t : State, exec .commitDecision s = .next t ∧ resolvedAs t d) ∧
      (1 < s.groupSize → s.isRoot = false → s.tick.voteSent = false →
        (s.tick.verdict.isSome = true → s.votesHeld = true →
          ∃ t : State, exec .voteSend s = .next t ∧ t.tick = { s.tick with voteSent := true } ∧ t.reg Reg.TCK_EPOCH = s.reg Reg.TCK_EPOCH ∧
            flag (t.reg Reg.TCK_COMMIT_STATUS) 29 = true ∧ fld (t.reg Reg.TCK_COMMIT_STATUS) 28 16 = s.voteCount % 2 ^ 13) ∧
        (∃ t : State, exec .voteWaitExpiry s = .next t ∧ t.tick = { s.tick with voteSent := true, cause := 4 } ∧
          fld (t.reg Reg.TCK_COMMIT_STATUS) 28 16 = s.voteCount % 2 ^ 13)) ∧
      (1 < s.groupSize → s.tick.decision = none →
        ∃ t : State, exec .decisionLost s = .next t ∧ resolvedAs t false ∧ t.mode = .faulted ∧ flag (t.reg Reg.TCK_RCV_EVENTS) 4 = true))

/-- R340 to R349, fences and teardown: a core fence puts the tile's logical column on the nearest unused column, in shadow, and marks the die's
shadows ready; one that cannot be prepared fails the die; a die failure fences the die and starts the degraded takeover with its bay map, or tears
down; a takeover ends in the degraded image; a teardown abandons the tick, releases every thread and enters Faulted. The choices of the model it rests
on: log entries 35, 36, 40, 134. -/
def Obligations.FencesAndTeardown : Prop :=
  (∀ (p : TileId) (s : State) e copies, s.ticking = true → s.recovery.pendingFences = [p.key] → flag (s.reg (Reg.MSH_SHADOW p.die)) 0 = false →
    s.recovery.takeover = false → s.fencePlan p.key = some (e, copies) →
    ∃ t : State, exec (.coreFencePrepare p) s = .next t ∧ t.recovery.pendingFences = [] ∧
      t.recovery.prepared = s.recovery.prepared ++ [(p.key, posKey p.die p.row e)] ∧
      nearest p.pcol (unusedCols s.shadow p.die p.row) = some e ∧ fenceHas (t.shadow (Reg.TIL_FENCE p.die p.row)) p.pcol = true ∧
      (∀ l, findCol (rowMapIn s.shadow p.die p.row) p.pcol 48 = some l → rowMapIn t.shadow p.die p.row l = e) ∧
      flag (t.reg (Reg.MSH_SHADOW p.die)) 0 = true ∧ flag (t.reg Reg.TCK_RCV_EVENTS) 2 = true ∧ t.tiles = s.tiles ∧
      (∀ a w, a ≠ Reg.MSH_SHADOW p.die → a ≠ Reg.TCK_RCV_EVENTS → a ≠ Reg.TCK_RCV_STATUS → t.regs.get w a = s.regs.get w a)) ∧
  (∀ (p : TileId) (s : State), s.ticking = true → s.recovery.pendingFences = [p.key] → flag (s.reg (Reg.MSH_SHADOW p.die)) 0 = false →
    s.recovery.takeover = false → s.fencePlan p.key = none →
    ∃ t : State, exec (.coreFencePrepare p) s = .next t ∧ flag (t.reg Reg.TCK_RCV_EVENTS) 1 = true ∧ t.shadow (Reg.TIL_DIE_FENCE p.die) = 0x80000000) ∧
  (∀ (d : Fin 16) (s : State), ∃ t : State, exec (.spareLoadingEnd d) s = .next t ∧
    t.recovery.loading = s.recovery.loading.filter (fun e => !(decide (keyDie e = d))) ∧
    t.recovery.fenceBuffer = s.recovery.fenceBuffer.filter (fun x => !(s.recovery.loading.contains x.1 && decide (keyDie x.1 = d))) ∧
    ∀ k, (k ∉ s.recovery.loading ∨ keyDie k ≠ d) → t.tile k = s.tile k) ∧
  (∀ (d : Fin 16) (s : State), s.unitOn d = true → flag (s.shadow (Reg.TIL_DIE_FENCE d)) 31 = false →
    ∃ t : State, exec (.dieFailure d) s = .next t ∧ t.shadow (Reg.TIL_DIE_FENCE d) = 0x80000000 ∧ flag (t.reg Reg.TCK_RCV_EVENTS) 3 = true ∧
      (s.ticking = false → flag (s.reg (Reg.TIL_DIE_FENCE d)) 31 = false → t.reg (Reg.TIL_DIE_FENCE d) = 0x80000000 ∧
        ∀ i < 3, t.domain (3 * d + i) = 0) ∧
      (s.ticking = true → flag (s.reg Reg.TCK_IMAGE_STATUS) 30 = false → t.mode = .faulted) ∧
      (s.ticking = true → flag (s.reg Reg.TCK_IMAGE_STATUS) 30 = true → s.recovery.takeover = false → flag (s.reg Reg.TCK_STATUS) 24 = false →
        (∀ k < 16, flag (s.shadow (Reg.TIL_DIE_FENCE k)) 31 = false) →
        t.recovery.takeover = true ∧ t.mode = s.mode ∧ fld (t.reg Reg.TCK_RCV_STATUS) 31 29 = 3 ∧
          ∀ k < 16, bayIn t.shadow k = if k < d.val then k else if k ≤ 14 then k + 1 else d.val)) ∧
  (∀ (s : State), s.recovery.takeover = true → s.ticking = true → s.recovery.pendingFences = [] → s.recovery.prepared = [] →
    ∃ t : State, exec .takeoverEnd s = .next t ∧
      if s.withMaps.fencesListed s.degradedImage then
        t.recovery.takeover = false ∧ t.tick.rebuildNext = true ∧ flag (t.reg Reg.TCK_STATUS) 24 = true ∧ flag (t.reg Reg.TCK_RCV_EVENTS) 0 = true ∧
          flag (t.reg Reg.HRT_SHADOW) 0 = true ∧ ∀ d < 16, flag (t.reg (Reg.MSH_SHADOW d)) 0 = true
      else t.mode = .faulted ∧ flag (t.reg Reg.TCK_RCV_EVENTS) 1 = true) ∧
  (∀ (s : State), s.ticking = true → ∃ t : State, exec .jobTeardown s = .next t ∧ t.mode = .faulted ∧ t.tick.isOpen = false ∧ flag (t.reg Reg.TCK_RCV_EVENTS) 5 = true ∧
    flag (t.reg Reg.TCK_STATUS) 27 = false ∧
    (s.tick.isOpen = true → s.tick.resolved = false → t.tick.decision = some false ∧ t.reg Reg.TCK_EPOCH = s.reg Reg.TCK_EPOCH ∧
      fld (t.reg Reg.TCK_COMMIT_STATUS) 31 30 = 2) ∧
    ∀ k, (t.tile k).sendB = [] ∧ (t.tile k).sendL = [] ∧ ∀ n, ((t.tile k).thread n).state = .idle ∧ ((t.tile k).thread n).remote = none) ∧
  (∀ (s : State), s.ticking = false → exec .jobTeardown s = .next s)

/-- R350 to R361, checkpoints, standby and the Stoker pair: a stack's slot holds its windows' read copies with a whole header once its copy ends, and
the last stack completes the checkpoint; a slot goes to the peer; a good second of self-test raises good_s, another clears it; a yield whose
checkpoint is stored becomes standby; control of the Stoker pair passes to B and back. The choices of the model it rests on: log entries 37, 39, 42,
45, 171. -/
def Obligations.CheckpointsAndStandby : Prop :=
  (∀ (m : Fin 16) (s : State), s.recovery.ckptRunning = true → m.val ∈ s.recovery.ckptLeft →
    let rs := s.snapshotRanges m
    let data := (rs.map (fun r => (s.stack m).bytes r.1 r.2)).flatten
    let slot := s.recovery.ckptSlot
    (s.snapshotBad m = false → slot < 2 → data.length ≤ 2 ^ 32 →
      ∃ t : State, exec (.checkpointSnapshotEnd m true) s = .next t ∧
        (t.stack m).bytes (0x800000000 + slot * 0x100000000) data.length = data ∧
        (t.stack m).bytes (0xA00000000 + 128 * slot) 128 =
          [0x45, 0x4D, 0x43, 0x4B, 0x10, BitVec.ofNat 8 m, BitVec.ofNat 8 rs.length, 1] ++ leBytes 8 s.recovery.ckptTick ++
            leBytes 8 s.recovery.ckptEpoch.toNat ++ leBytes 8 data.length ++ s.stage (s.imageInUse.base + 0x060) 32 ++ sha256 data ++ List.replicate 32 0 ∧
        (∀ j, j ≠ m.val → t.stack j = s.stack j) ∧ t.tiles = s.tiles ∧
        (s.recovery.ckptLeft.filter (fun j => j != m.val) ≠ [] → t.recovery.ckptRunning = true ∧ t.regs = s.regs) ∧
        (s.recovery.ckptLeft = [m.val] → t.recovery.ckptRunning = false ∧
          t.reg64 Reg.TCK_CKPT_LAST_LO Reg.TCK_CKPT_LAST_HI = s.recovery.ckptTick % 2 ^ 64 ∧ flag (t.reg Reg.TCK_CKPT_STATUS) 28 = false ∧
          fld (t.reg Reg.TCK_CKPT_STATUS) 15 0 = min 65535 (fld (s.reg Reg.TCK_CKPT_STATUS) 15 0 + 1) ∧
          flag (t.reg Reg.TCK_CKPT_STATUS) 29 = decide (slot = 1))) ∧
    (s.ticking = true → ∃ t : State, exec (.checkpointSnapshotEnd m false) s = .next t ∧ t.mode = .faulted ∧ t.recovery.ckptRunning = false ∧
      flag (t.reg Reg.TCK_CKPT_STATUS) 28 = true)) ∧
  (∀ (s : State) slot, s.recovery.transfer = some slot →
    ∃ t : State, exec .peerCheckpointTransfer s = .next t ∧ t.recovery = { s.recovery with transfer := none } ∧ t.stackMem = s.stackMem ∧
      fld (t.reg Reg.TCK_CKPT_STATUS) 31 30 = 0) ∧
  (∀ (s : State) pass bad lanes, flag (s.reg Reg.TCK_ROLE) 31 = true → (s.mode = .ready ∨ s.mode = .loaded) →
    ∃ t : State, exec (.healthReport pass bad lanes) s = .next t ∧ t.recovery = { s.recovery with fencesSeen := s.fenceCount } ∧ t.mode = s.mode ∧
      (∀ a w, a ≠ Reg.TCK_ROLE → t.regs.get w a = s.regs.get w a) ∧
      fld (t.reg Reg.TCK_ROLE) 15 0 = (if s.goodSecond bad.toNat lanes.toNat then min 65535 (fld (s.reg Reg.TCK_ROLE) 15 0 + 1) else 0) ∧
      (flag (s.reg Reg.TCK_ROLE) 30 = true → 10 ≤ fld (t.reg Reg.TCK_ROLE) 15 0 → flag (t.reg Reg.TCK_ROLE) 28 = true)) ∧
  (∀ (s : State), s.recovery.yielding = true → s.mode = .loaded → s.recovery.ckptStart = false → s.recovery.ckptRunning = false → s.recovery.transfer = none →
    ∃ t : State, exec .yield s = .next t ∧ { t with regs := s.regs, recovery := { t.recovery with yielding := true } } = s ∧ t.recovery.yielding = false ∧
      flag (t.reg Reg.TCK_ROLE) 31 = true ∧ flag (t.reg Reg.TCK_ROLE) 29 = false) ∧
  (∀ (s : State), s.stokerRuns = true →
    exec .stokerSnapshot s = .next (s.setRegFld Reg.TCK_STOKER 27 20 0) ∧
    (∀ failed, flag (s.reg Reg.TCK_STOKER) 31 = false → s.domain 79 ≠ 3 → ∃ t : State, exec (.stokerFailover failed) s = .next t ∧
      flag (t.reg Reg.TCK_STOKER) 31 = true ∧ flag (t.reg Reg.TCK_STOKER) 29 = true ∧ (failed = true → flag (t.reg Reg.TCK_STOKER) 30 = false) ∧ t.domain 79 = 1 ∧ fld (t.reg Reg.TCK_STOKER) 15 0 = min 65535 (fld (s.reg Reg.TCK_STOKER) 15 0 + 1)) ∧
    (flag (s.reg Reg.TCK_STOKER) 31 = true → ∃ t : State, exec .stokerReturn s = .next t ∧ flag (t.reg Reg.TCK_STOKER) 30 = true ∧ t.domain 78 = 1 ∧
      (s.mode = .running → flag (t.reg Reg.TCK_STOKER) 31 = true ∧ t.recovery.returnPending = true) ∧
      (s.mode ≠ .running → flag (t.reg Reg.TCK_STOKER) 31 = false ∧ t.domain 79 = 0 ∧ t.recovery.returnPending = false))) ∧
  (∀ (s : State), s.mode = .draining → s.tick.resolved = true → s.thermal.stopSnap = false →
    ∃ t : State, exec .drainEnd s = .next t ∧ t.mode = .loaded ∧ t.seq = s.seq ∧ flag (t.reg Reg.TCK_STATUS) 27 = false)

/-! ### The Huaren fabric (chapter 10) -/

/-- R260 to R265, R279, R287, links: a training cell without a common version or from no neighbour holds the link down with its reason; a good one
lets the link come up; a loss empties the sender and counts; a delay is measured by an echo over a tree link; a replay request drops what it
acknowledges, counts and resends the rest, the eighth without progress takes the link down; a good cell in order enters its buffer, another moves no
buffer and is asked for once; what the FEC reports is counted. The choices of the model it rests on: log entries 113, 159, 160, 164. -/
def Obligations.FabricLinks : Prop :=
  ∀ (p : Fin 6) (s : State), let f := p.val
    let io := Reg.FAB_ERR_STATUS (fabIo f)
    (∀ c : Training, s.portTrains f = true → s.linkUp f = false →
      (c.majors.getLsbD 1 = false → ∃ t : State, exec (.trainingCell p c) s = .next t ∧ t.reg (portStatus f) = BitVec.ofNat 32 (3 * 2 ^ 29 + 1 * 2 ^ 26) ∧
        t.fabric = s.fabric ∧ (flag (s.reg io) 31 = false → t.reg io = 0x80000003)) ∧
      (c.majors.getLsbD 1 = true → s.neighbourOk f c = false → ∃ t : State, exec (.trainingCell p c) s = .next t ∧
        fld (t.reg (portStatus f)) 31 29 = 3 ∧ fld (t.reg (portStatus f)) 28 26 = 2 ∧ t.fabric = s.fabric ∧
        (flag (s.reg io) 31 = false → t.reg io = 0x80000004)) ∧
      (c.majors.getLsbD 1 = true → s.neighbourOk f c = true →
        exec (.trainingCell p c) s = .next (s.setReg (portStatus f) (BitVec.ofNat 32 (1 * 2 ^ 29 + 1 * 2 ^ 22 + c.coord.toNat))))) ∧
    (s.portTrains f = true → fld (s.reg (portStatus f)) 31 29 = 1 → fld (s.reg (portStatus f)) 25 22 = 1 →
      ∃ t : State, exec (.linkUp p) s = .next t ∧ t.linkUp f = true ∧ t.peer f = s.peer f ∧ (∀ g, g ≠ f → t.fport g = s.fport g)) ∧
    (∀ reason, s.linkUp f = true →
      ∃ t : State, exec (.linkDown p reason) s = .next t ∧ fld (t.reg (portStatus f)) 31 29 = 4 ∧ fld (t.reg (portStatus f)) 28 26 = reason.toNat ∧
        (t.fport f).replay = [] ∧ (t.fport f).wait = [] ∧ (t.fport f).rx = (s.fport f).rx ∧ (∀ g, g ≠ f → t.fport g = s.fport g) ∧
        fld (t.reg (Reg.FAB_ERR_COUNT (fabIo f))) 15 0 = min 65535 (fld (s.reg (Reg.FAB_ERR_COUNT (fabIo f))) 15 0 + 1)) ∧
    (∀ ps stamp,
      ((fld (s.reg (portStatus f)) 31 29 = 1 ∨ fld (s.reg (portStatus f)) 31 29 = 2 ∧ s.treePort f = false) →
        exec (.linkDelayMeasure p ps stamp) s = .next (s.setReg (Reg.FAB_PORT_DELAY (fabIo f) (f / 2)) ps)) ∧
      (s.linkUp f = true → s.treePort f = true →
        exec (.linkDelayMeasure p ps stamp) s = .next (s.sendMgmt f (mgmtPayload 4 0 stamp.toNat 0 0)))) ∧
    (∀ ack : BitVec 13, s.linkUp f = true → (s.fport f).wait = [] →
      let kept := ackCells ack.toNat (s.fport f).replay
      let again := (s.fport f).stallAt = ack.toNat + 1 ∧ kept.length = (s.fport f).replay.length
      (again → 7 ≤ (s.fport f).stalls → ∃ t : State, exec (.replayRequest p ack) s = .next t ∧ fld (t.reg (portStatus f)) 31 29 = 4 ∧
        fld (t.reg (portStatus f)) 28 26 = 4) ∧
      ((¬again ∨ (s.fport f).stalls < 7) → ∃ t : State, exec (.replayRequest p ack) s = .next t ∧ (t.fport f).replay = kept ∧
        ((s.fport f).peerOff = 0 → (t.fport f).again = [] ∧ t.out.length = s.out.length + kept.length) ∧
        (t.fport f).map.get 0 5 = min 65535 ((s.fport f).map.get 0 5 + 1) ∧
        fld (t.reg (Reg.FAB_ERR_COUNT (fabIo f))) 31 16 = min 65535 (fld (s.reg (Reg.FAB_ERR_COUNT (fabIo f))) 31 16 + 1))) ∧
    (∀ bits fec, s.linkUp f = true → let c := readCell bits
      let good := cellHolds bits = true ∧ ∀ r ∈ fec, FecReport.bad r = false
      (good → c.kind.toNat ≤ 3 → c.seq.toNat = (s.fport f).rxNext → (s.buffer f c.buffer).length < bufferSize c.buffer → c.known = true →
        ∃ t : State, exec (.fabricCellReceive p bits fec) s = .next t ∧
          t.buffer f c.buffer = s.buffer f c.buffer ++ [c] ∧ (∀ b, b ≠ c.buffer → t.buffer f b = s.buffer f b) ∧
          (t.fport f).rxNext = ((s.fport f).rxNext + 1) % 8192 ∧ (t.fport f).skipping = false ∧ (t.fport f).peerOff = c.off.toNat) ∧
      (good → c.kind.toNat ≤ 3 → c.seq.toNat ≠ (s.fport f).rxNext → ∃ t : State, exec (.fabricCellReceive p bits fec) s = .next t ∧
        (t.fport f).rx = (s.fport f).rx ∧ (t.fport f).rxNext = (s.fport f).rxNext ∧ (t.fport f).skipping = true) ∧
      (¬good → ∃ t : State, exec (.fabricCellReceive p bits fec) s = .next t ∧ (t.fport f).rx = (s.fport f).rx ∧ (t.fport f).rxNext = (s.fport f).rxNext ∧
        (t.fport f).replay = (s.fport f).replay ∧ (t.fport f).skipping = true ∧ (flag (s.reg io) 31 = false → t.reg io = 0x80000001) ∧
        ((s.fport f).skipping = false → .cell f ((s.fport f).stamp (cellOf 6 false 0)).bits ∈ t.out) ∧
        (t.fport f).map.get 0 6 = min 65535 ((s.fport f).map.get 0 6 + 1)) ∧
      (∀ r : FecReport, fec = [r] → ∃ t : State, exec (.fabricCellReceive p bits fec) s = .next t ∧
        let w := s.tblWord (fabKey f 4 r.lane)
        let v := t.tblWord (fabKey f 4 r.lane)
        fld v 15 0 = min 65535 (fld w 15 0 + ((s.fport f).corrRest.get 0 r.lane + r.symbols) / 1024) ∧
          fld v 23 16 = min 255 (fld w 23 16 + if r.bad then 1 else 0)))

/-- R269 to R271, R273 to R276, R278 to R282, traffic: a transmit window opens and reads its stacks; a scheduled cell goes on to its place, waits for
the Hearth, or is discarded with error 0x06; a store to a line enters the combiner and is acknowledged, its flush leaves as one block and is performed
on its line at the logic die; beacon frames, votes and decisions of the right neighbour are kept for the tick; echoes are answered and end a
measurement; a loss is reported. The choices of the model it rests on: log entries 157, 158, 161, 162, 163, 165. -/
def Obligations.FabricTraffic : Prop :=
  ∀ (p : Fin 6) (s : State), let f := p.val
    let hp := fabHearthPort f
    (∀ cycle, let k := (s.fport f).window
      let n := fld (s.txWindow f k 1) 29 28 + 1
      s.ticking = true → s.tick.isOpen = true → k < 512 → flag (s.txWindow f k 1) 31 = true → s.windowSent f = true → (s.txWindow f k 0).toNat ≤ cycle →
      ∃ t : State, ∃ w : FabWindow, exec (.scheduledWindowStart p cycle) s = .next t ∧ (t.fport f).window = k + 1 ∧ (t.fport f).sending = some w ∧ w.index = k ∧
        w.next = 0 ∧ w.ready = [] ∧ (∀ j < n, w.asked.get 0 j = min 512 (((s.txWindow f k 3).toNat + n - 1 - j) / n)) ∧ t.stackMem = s.stackMem) ∧
    (∀ c cs, s.buffer f 0 = c :: cs →
      let k := c.window.toNat
      let q := (s.fport f).rxCount.get 0 k
      let w := s.rxEntry f k 0
      let pl := cellPlace w (s.rxEntry f k 1) q
      ((flag w 31 = false ∨ c.tick.toNat ≠ s.seq % 16 ∨ (s.rxEntry f k 2).toNat ≤ q) →
        ∃ t : State, exec (.scheduledCellReceive p) s = .next t ∧ t.buffer f 0 = cs ∧ t.stackMem = s.stackMem ∧ (t.fport f).rxCount = (s.fport f).rxCount ∧
          (flag (s.reg (Reg.FAB_ERR_STATUS (fabIo f))) 31 = false → t.reg (Reg.FAB_ERR_STATUS (fabIo f)) = 0x80000006)) ∧
      (flag w 31 = true → c.tick.toNat = s.seq % 16 → q < (s.rxEntry f k 2).toNat →
        ((s.ringOf pl.1 pl.2 128).isSome = true → ∃ t : State, exec (.scheduledCellReceive p) s = .next t ∧ t.buffer f 0 = cs ∧ t.stackMem = s.stackMem ∧
          (t.fport f).rxCount.get 0 k = q + 1 ∧
          (flag (s.reg (Reg.FAB_ERR_STATUS (fabIo f))) 31 = false → t.reg (Reg.FAB_ERR_STATUS (fabIo f)) = 0x80000006)) ∧
        (s.ringOf pl.1 pl.2 128 = none → s.inCopy1 pl.1 pl.2 128 = false →
          (s.groupRoom hp (16 + pl.1) = false → exec (.scheduledCellReceive p) s = .next s) ∧
          (s.groupRoom hp (16 + pl.1) = true → ∃ t : State, exec (.scheduledCellReceive p) s = .next t ∧ t.buffer f 0 = cs ∧
            (t.fport f).rxCount.get 0 k = q + 1 ∧ t.onItsWay hp (16 + pl.1) (leBytes 128 c.payload.toNat) ∧ t.stackMem = s.stackMem ∧ t.regs = s.regs)))) ∧
    (∀ (path : Fin 7) e es, s.combiner path = e :: es → s.groupRoom (pathPort path) (16 + e.stack) = true →
      ∃ t : State, exec (.combinerFlush path) s = .next t ∧ t.combiner path = es ∧ (∀ j, j ≠ path.val → t.combiner j = s.combiner j) ∧
        t.onItsWay (pathPort path) (16 + e.stack) (leBytes 128 e.payload) ∧ t.stackMem = s.stackMem) ∧
    (∀ (m : Fin 16) (src : Fin 36) b bs (e : CombEntry), (s.port (16 + m.val)).reserve (stackReserve m src) = b :: bs → b.kind = 2 → b.stream = 0xFF →
      leNat b.data = e.payload → e.stack = m.val → 64 * e.line + 64 ≤ 0xC00000000 → s.remoteBar m (64 * e.line) 64 = none → (s.stack m).atomics = [] →
      (s.stack m).ecc.get .good e.line = .good →
      let old := fun w => leNat ((s.stack m).bytes (64 * e.line + 8 * w) 8)
      ∃ t : State, exec (.readRequest m src) s = .next t ∧ (t.port (16 + m.val)).reserve (stackReserve m src) = bs ∧
        (∀ w < 8, leNat ((t.stack m).bytes (64 * e.line + 8 * w) 8) =
          match e.words.find? (fun kv => kv.1 == w) with
          | none => old w
          | some _ => if (e.words.get (false, 0) w).1 then (e.words.get (false, 0) w).2.toNat else (old w + (e.words.get (false, 0) w).2.toNat) % 2 ^ 64) ∧
        (∀ x, (x < 64 * e.line ∨ 64 * e.line + 64 ≤ x) → (t.stack m).byte x = (s.stack m).byte x) ∧ (∀ j, j ≠ m.val → t.stack j = s.stack j)) ∧
    (∀ (io : Fin 2) (src : Fin 16) b bs, let d := descOf (leNat b.data)
      (s.port (34 + io.val)).reserve src = b :: bs → b.kind = 2 → s.nextPort d.target.toNat = none → d.wellFormed = true → d.op = 4 → s.combiner 6 = [] →
      s.nextPort d.from_.toNat = none → d.thread.val ≠ 0 →
      ∃ t : State, exec (.remoteRequest (.hearth io src)) s = .next t ∧ (t.port (34 + io.val)).reserve src = bs ∧ t.stackMem = s.stackMem ∧
        t.combiner 6 = [({ stack := d.stack, line := d.off / 64, words := SMap.set (false, 0) [] (d.off % 64 / 8) (true, d.value) } : CombEntry)] ∧
        t.onItsWay 34 d.die (leBytes 128 (d.answer 0 0 0).payload)) ∧
    (∀ c cs d, s.buffer f 1 = c :: cs → c.kind = 1 → descOf c.payload.toNat = d → d.target.toNat = s.coord → d.wellFormed = true → d.op = 4 →
      s.combiner f = [] →
      ∃ t : State, exec (.remoteRequest (.link p)) s = .next t ∧ t.buffer f 1 = cs ∧ t.stackMem = s.stackMem ∧
        t.combiner f = [({ stack := d.stack, line := d.off / 64, words := SMap.set (false, 0) [] (d.off % 64 / 8) (true, d.value) } : CombEntry)]) ∧
    (∀ pl s' residence, s.takeMgmt f 1 = some (pl, s') → (s.treeParent = some f → fld (s'.reg Reg.TCK_SRC) 17 16 = 2 →
        ∃ t : State, exec (.beaconFrame p residence) s = .next t ∧ t.tick.frame = some (BitVec.ofNat 64 (pl / 2 ^ 64 % 2 ^ 64)) ∧
          t.fabric.frameTick = (pl / 256 % 256 == 1) ∧ t.tick.misses = 0 ∧ t.tick.srcLost = false ∧
          (s.tick.srcLost = true → flag (t.reg Reg.TCK_EVENTS) 2 = true)) ∧
      (s.treeParent ≠ some f → exec (.beaconFrame p residence) s = .next s')) ∧
    (∀ pl s', s.takeMgmt f 2 = some (pl, s') → (s.ticking = true → pl / 2 ^ 64 % 2 ^ 64 = s.seq → f ∈ s.children → (∀ v ∈ s.tick.votes, v.1 ≠ f) →
        exec (.vote p) s = .next { s' with tick := { s.tick with votes := s.tick.votes ++ [(f, pl / 2 ^ 192 % 2 ^ 16, pl / 2 ^ 128 % 2 == 1)] } }) ∧
      (f ∉ s.children → exec (.vote p) s = .next s')) ∧
    (∀ pl s', s.takeMgmt f 3 = some (pl, s') → (s.ticking = true → pl / 2 ^ 64 % 2 ^ 64 = s.seq → s.treeParent = some f → s.tick.decision = none →
        ∃ t : State, exec (.decision p) s = .next t ∧ t.tick = { s.tick with decision := some (pl / 2 ^ 128 % 2 == 1) } ∧
          t.tiles = s.tiles ∧ t.stackMem = s.stackMem) ∧
      (s.treeParent ≠ some f → exec (.decision p) s = .next s')) ∧
    (∀ pl s', s.takeMgmt f 4 = some (pl, s') → ∀ r : BitVec 64, exec (.echoRequest p r) s =
      .next (if s.treePort f then s'.sendMgmt f (mgmtPayload 5 0 (pl / 2 ^ 64 % 2 ^ 64) r.toNat 0) else s')) ∧
    (∀ pl s' arrival, s.takeMgmt f 5 = some (pl, s') → s.treePort f = true → ∃ t : State, exec (.echoReply p arrival) s = .next t ∧
      { t with regs := s'.regs } = s' ∧
      (t.reg (Reg.FAB_PORT_DELAY (fabIo f) (f / 2))).toNat =
        min ((((arrival - BitVec.ofNat 64 (pl / 2 ^ 64)).toNat * 625 - pl / 2 ^ 128 % 2 ^ 64)) / 2) (2 ^ 32 - 1)) ∧
    (flag (s.reg (Reg.FAB_LOSS 2)) 31 = true → ∃ t : State, exec .loss s = .next t ∧ { t with sessions := s.sessions, out := s.out } = s ∧
      t.sessions.map (fun x => (x.slot, x.id, x.count)) =
        s.sessions.map (fun x => (x.slot, x.id, if x.role = 1 ∨ x.role = 2 then x.count + 1 else x.count)) ∧
      t.out.length = s.out.length + (s.sessions.filter (fun x => x.role == 1 || x.role == 2)).length)

/-! ### The Hearth (chapter 06) -/

/-- R163, R164, R168, R170, R171, R174, R176, R186, R244, R270, blocks: a window opens in its turn with its stream and count, late or not; a decoded
block enters its reserve, one that does not decode or finds it full enters none; a write lands at its place and nowhere else, a poisoned one nowhere;
a read request is answered with the data, or waits for the group's queue; a response leaves for its tile through its gateway; a full reserve stops its
sender's group. The choices of the model it rests on: log entries 46, 127, 144, 146, 147. -/
def Obligations.HearthBlocks : Prop :=
  (∀ (p : Fin 36) (g : Fin 38) (cycle : Nat) (s : State), let q := (s.port p).group g; let e := s.groupWord p g; let w := s.windowWord p g q.window 1
    let start := (s.windowWord p g q.window 0).toNat
    s.ticking = true → s.tick.isOpen = true → s.tick.guard = false → q.isOpen = false → flag e 31 = true → flag e 30 = false →
    q.window < fld e 26 16 → start ≤ cycle → ∃ t : State, exec (.hearthWindowOpen p g cycle) s = .next t ∧
      (∀ j, j ≠ p.val → t.port j = s.port j) ∧ t.tiles = s.tiles ∧ t.regs = s.regs ∧
      (if flag w 31 = true ∧ 0 < fld w 15 0 then
          (t.port p).map.get 0 (8 * g.val + 6) =
            (if start < cycle then min 255 ((s.port p).map.get 0 (8 * g.val + 6) + 1) else (s.port p).map.get 0 (8 * g.val + 6)) ∧
          (q.queue = [] → q.held = [] → { t with ports := s.ports } = s ∧
            (t.port p).group g = { q with isOpen := true, opened := cycle, stream := fld w 23 16, left := fld w 15 0 }) ∧
          (q.off = false → g.val ≠ 37 → (∀ b ∈ q.queue ++ q.held, b.stream ≠ 0xFF) →
            t.hearth.light.map (fun b => b.data) =
              s.hearth.light.map (fun b => b.data) ++ (takeStream (fld w 23 16) (fld w 15 0) (q.queue ++ q.held)).1.map (fun b => b.data))
        else { t with ports := s.ports } = s ∧ (t.port p).group g = { q with window := q.window + 1 })) ∧
  (∀ (p : Fin 36) k (l : BitVec 10) noise (s : State) (c : HBlock) (src : Nat) (pos : Option Nat), s.laneSource p l.toNat = some (src, pos) →
    s.mayReceive p k l.toNat src pos = true →
    (received (s.lightBlock k) noise = none → (s.port p).laneRun.get 0 l.toNat ≠ 2 →
      ∃ t : State, exec (.hearthBlockReceive p k l noise) s = .next t ∧ (∀ r, (t.port p).reserve r = (s.port p).reserve r) ∧ t.tiles = s.tiles ∧ t.stackMem = s.stackMem ∧
        fld (t.tblWord (tblKey 1 p 5 l.toNat)) 23 16 = min 255 (fld (s.tblWord (tblKey 1 p 5 l.toNat)) 23 16 + 1) ∧
        (flag (s.reg Reg.HRT_ERR_STATUS) 31 = false → t.reg Reg.HRT_ERR_STATUS = 0x80000001)) ∧
    (received (s.lightBlock k) noise = some (c, 0) → c.kind = 7 →
      ∃ t : State, exec (.hearthBlockReceive p k l noise) s = .next t ∧ { t with hearth := s.hearth } = s) ∧
    (received (s.lightBlock k) noise = some (c, 0) → c.kind ≠ 7 → (headerBad p c = true ∨ (pos.isSome = true ↔ c.kind ≠ 4)) →
      ∃ t : State, exec (.hearthBlockReceive p k l noise) s = .next t ∧ (∀ j, (t.port p).reserve j = (s.port p).reserve j) ∧
        (flag (s.reg Reg.HRT_ERR_STATUS) 31 = false → t.reg Reg.HRT_ERR_STATUS = 0x80000002)) ∧
    (received (s.lightBlock k) noise = some (c, 0) → headerBad p c = false → c.kind ≠ 7 →
      let place := match pos with
        | none => if c.kind = 4 then none else some (reserveFor p c.src, reserveSize (reserveFor p c.src), 4)
        | some j => if c.kind = 4 ∧ flag (s.tblWord (tblKey 1 p 2 (2 * (256 * j + c.stream)))) 31 = true then some (40 + j, 64, 3) else none
      ∀ r size code, place = some (r, size, code) →
        (((s.port p).reserve r).length < size → ∃ t : State, exec (.hearthBlockReceive p k l noise) s = .next t ∧
          (t.port p).reserve r = (s.port p).reserve r ++ [c] ∧ (∀ j, j ≠ r → (t.port p).reserve j = (s.port p).reserve j) ∧
          (∀ q, q ≠ p.val → t.port q = s.port q) ∧ t.regs = s.regs) ∧
        (size ≤ ((s.port p).reserve r).length → ∃ t : State, exec (.hearthBlockReceive p k l noise) s = .next t ∧
          (∀ j, (t.port p).reserve j = (s.port p).reserve j) ∧
          (flag (s.reg Reg.HRT_ERR_STATUS) 31 = false → t.reg Reg.HRT_ERR_STATUS = BitVec.ofNat 32 (0x80000000 + code))))) ∧
  (∀ (m : Fin 16) (src : Fin 36) (s : State) (b : HBlock) (bs : List HBlock), (s.port (16 + m.val)).reserve (stackReserve m src) = b :: bs →
    (b.kind = 1 → b.poison = false → b.tick = s.seq % 16 → b.data.length = 128 → b.addr * 128 + 128 ≤ 0xC00000000 →
      s.inCopy1 m (b.addr * 128) 128 = false → s.inWindow m (b.addr * 128) 128 = none → s.ringOf m (b.addr * 128) 128 = none →
      (∀ a ∈ (s.stack m).atomics, a.2.off / 64 ∉ linesOf (b.addr * 128) 128) →
      ∃ t : State, exec (.memoryWrite m src) s = .next t ∧ (t.port (16 + m.val)).reserve (stackReserve m src) = bs ∧
        (∀ x, (t.stack m).byte x = if b.addr * 128 ≤ x ∧ x < b.addr * 128 + 128 then b.data.getD (x - b.addr * 128) 0 else (s.stack m).byte x) ∧
        (∀ j, j ≠ m.val → t.stack j = s.stack j) ∧ t.tiles = s.tiles ∧ t.regs = s.regs ∧
        (b.mark ≠ 0 → let f := (b.mark - 1) / 512; let k := (b.mark - 1) % 512
          (t.fport f).written.get 0 k = (s.fport f).written.get 0 k + 1)) ∧
    (b.kind = 1 → b.poison = true → ∃ t : State, exec (.memoryWrite m src) s = .next t ∧ t.stackMem = s.stackMem ∧
      (t.port (16 + m.val)).reserve (stackReserve m src) = bs ∧ (flag (s.reg Reg.HRT_ERR_STATUS) 31 = false → t.reg Reg.HRT_ERR_STATUS = 0x8000000A)) ∧
    (b.kind = 2 → b.stream ≠ 0xFF → let a := leNat (b.data.take 8) % 2 ^ 36
      let g := groupFor (16 + m.val) b.src
      leNat ((b.data.drop 16).take 4) = 128 → s.recovery.stackLost = false →
      (s.groupRoom (16 + m.val) g = false → ∃ t : State, exec (.readRequest m src) s = .next t ∧ t.stackMem = s.stackMem ∧ t.regs = s.regs ∧
        (t.port (16 + m.val)).reserve (stackReserve m src) = { b with data := restOfRead b.data 0 } :: bs) ∧
      (s.groupRoom (16 + m.val) g = true → a + 128 ≤ 0xC00000000 → s.inCopy1 m a 128 = false → s.inWindow m a 128 = none →
        (∀ l ∈ linesOf a 128, (s.stack m).ecc.get .good l = .good) → (∀ x ∈ (s.stack m).atomics, x.2.off / 64 ∉ linesOf a 128) →
        ∃ t : State, ∃ r : HBlock, exec (.readRequest m src) s = .next t ∧ (t.port (16 + m.val)).reserve (stackReserve m src) = bs ∧
          (r ∈ ((t.port (16 + m.val)).group g).queue ∨ r ∈ t.hearth.light) ∧ r.kind = 3 ∧ r.data = (s.stack m).bytes a 128 ∧ r.last = true ∧
          r.poison = false ∧ r.dst = b.src ∧ r.stream = (b.data.getD 20 0).toNat ∧ r.ctr = (b.data.getD 21 0).toNat % 16 ∧
          r.addr = blockAddr (leNat ((b.data.drop 8).take 8) % 2 ^ 48) ∧ t.stackMem = s.stackMem))) ∧
  (∀ (p src : Fin 36) (s : State) (b : HBlock) (bs : List HBlock), let key := reserveFor p src
    (s.port p).reserve key = b :: bs →
    (p.val < 16 → b.stream = 0xFF → ∀ evs, exec (.readResponseLanding p src evs) s = .next s) ∧
    (p.val < 16 → b.stream ≠ 0xFF → let row := b.addr / 2 ^ 23 % 64; let col := b.addr / 2 ^ 17 % 64
      ∃ t : State, ∃ f : Flight, exec (.readResponseLanding p src []) s = .next t ∧ (t.port p).reserve key = bs ∧ t.flights = s.flights ++ [f] ∧
        f.router = s.entryRouter p (b.src == p.val + 16) row col ∧ f.target = 0 ∧ f.mode = 0 ∧ f.rowA = row ∧ f.colA = col ∧
        f.offset = b.addr % 2 ^ 13 * 128 ∧ f.ctr = b.ctr ∧ f.last = b.last ∧ f.data = b.data ∧ f.loose = false ∧
        f.tick = s.blockTick b.tick ∧ f.poison = (if b.poison then some 0 else none) ∧ t.tiles = s.tiles ∧ t.stackMem = s.stackMem ∧
        (b.poison = true → flag (s.reg Reg.HRT_ERR_STATUS) 31 = false → t.reg Reg.HRT_ERR_STATUS = 0x8000000A)) ∧
    (∀ evs t, exec (.readResponseLanding p src []) s = .next t → exec (.readResponseLanding p src evs) s = .next (t.travel s.flights.length evs)) ∧
    (∀ w : FabWindow, 32 ≤ p.val → b.kind = 3 → b.stream ≠ 0xFF → b.tick = s.seq % 16 → (s.fport (b.addr / 2 ^ 23 % 64)).sending = some w →
      ∃ t : State, ∃ v : FabWindow, exec (.readResponseLanding p src []) s = .next t ∧ (t.port p).reserve key = bs ∧
        (t.fport (b.addr / 2 ^ 23 % 64)).sending = some v ∧ v.index = w.index ∧
        v.taken.get 0 (b.addr / 2 ^ 17 % 64) = w.taken.get 0 (b.addr / 2 ^ 17 % 64) + 1 ∧ t.tiles = s.tiles ∧ t.stackMem = s.stackMem)) ∧
  (∀ (p : Fin 36) (j : Fin 4) (s : State) (b : HBlock) (bs : List HBlock),
    let w0 := s.tblWord (tblKey 1 p 2 (2 * (256 * j.val + b.stream)))
    let w1 := s.tblWord (tblKey 1 p 2 (2 * (256 * j.val + b.stream) + 1))
    let moff := (fld w1 28 0 + b.addr) * 128
    let m := p.val - 16
    (s.port p).reserve (40 + j) = b :: bs →
    (flag w0 31 = false → ∀ evs, exec (.broadcastBlockLanding p j evs) s = .next (s.setPort p ((s.port p).setReserve (40 + j) bs))) ∧
    (flag w0 31 = true → flag w0 30 = true → 16 ≤ p.val → p.val < 32 → b.poison = false → b.tick = s.seq % 16 → b.data.length = 128 → moff + 128 ≤ 0xC00000000 →
      s.inCopy1 m moff 128 = false → s.inWindow m moff 128 = none → s.ringOf m moff 128 = none →
      (∀ a ∈ (s.stack m).atomics, a.2.off / 64 ∉ linesOf moff 128) →
      ∃ t : State, exec (.broadcastBlockLanding p j []) s = .next t ∧ (t.port p).reserve (40 + j) = bs ∧
        (∀ x, (t.stack m).byte x = if moff ≤ x ∧ x < moff + 128 then b.data.getD (x - moff) 0 else (s.stack m).byte x) ∧
        (∀ i, i ≠ m → t.stack i = s.stack i) ∧ t.tiles = s.tiles ∧ t.flights = s.flights) ∧
    (flag w0 31 = true → flag w0 30 = false → p.val < 16 → b.poison = false → b.tick = s.seq % 16 →
      let off := (fld w1 12 0 + b.addr) * 128
      let lands := fun (mode row0 row1 col0 col1 group offset : Nat) (last : Bool) =>
        ∃ t : State, ∃ f : Flight, exec (.broadcastBlockLanding p j []) s = .next t ∧ (t.port p).reserve (40 + j) = bs ∧ t.flights = s.flights ++ [f] ∧
          f.mode = mode ∧ f.rowA = row0 ∧ f.rowB = row1 ∧ f.colA = col0 ∧ f.colB = col1 ∧ f.group = group ∧ f.offset = offset ∧ f.ctr = fld w0 27 24 ∧
          f.last = last ∧ f.data = b.data ∧ f.poison = none ∧ f.tick = s.seq % 256 ∧ f.target = 0 ∧ keyDie f.router = p ∧ t.tiles = s.tiles ∧ t.regs = s.regs
      (fld w0 29 28 = 0 → off + 128 ≤ 0x100000 → fld w0 17 12 ≤ 47 → lands 0 (fld w0 23 18) 0 (fld w0 17 12) 0 0 off b.last) ∧
      (fld w0 29 28 = 1 → off + 128 ≤ 0x100000 → fld w0 5 0 ≤ 47 → fld w0 11 6 ≤ fld w0 5 0 → fld w0 23 18 ≤ fld w0 17 12 →
        lands 1 (fld w0 23 18) (fld w0 17 12) (fld w0 11 6) (fld w0 5 0) 0 off b.last) ∧
      (fld w0 29 28 = 2 → off + 128 ≤ 0x100000 → lands 2 0 0 0 0 (fld w0 3 0) off b.last) ∧
      (∀ row col i last, fld w0 29 28 = 3 → spreadPlace w0 w1 b.addr = some (row, col, i, last) → (fld w1 12 0 + i) * 128 + 128 ≤ 0x100000 →
        lands 0 row 0 col 0 0 ((fld w1 12 0 + i) * 128) last) ∧
      (fld w0 29 28 ≤ 2 → 0x100000 < off + 128 → ∃ t : State, exec (.broadcastBlockLanding p j []) s = .next t ∧ t.flights = s.flights ∧
        (flag (s.reg Reg.HRT_ERR_STATUS) 31 = false → t.reg Reg.HRT_ERR_STATUS = 0x80000006))) ∧
    (∀ evs t, exec (.broadcastBlockLanding p j []) s = .next t → exec (.broadcastBlockLanding p j evs) s = .next (t.travel s.flights.length evs))) ∧
  (∀ (p src : Fin 36) (s : State), let key := reserveFor p src; let x := s.port p
    let n := s.hearth.pilotSeq.get 0 p
    ((s.levels key).1 ≤ (x.reserve key).length → x.offSent.get false key = false →
      ∃ t : State, exec (.reserveOff p src) s = .next t ∧ t.port p = { x with offSent := x.offSent.set false key true } ∧
        t.out = .pilot p (pilotFrame 3 src p (groupFor src p * 2 ^ 26) n) :: s.out) ∧
    ((x.reserve key).length ≤ (s.levels key).2 → x.offSent.get false key = true →
      ∃ t : State, exec (.reserveOn p src) s = .next t ∧ t.port p = { x with offSent := x.offSent.set false key false } ∧
        t.out = .pilot p (pilotFrame 4 src p (groupFor src p * 2 ^ 26) n) :: s.out)) ∧
  (∀ (p : Fin 36) (x : PilotCopies) cycle (s : State) f second, let g := frameFld f 95 90
    let q := (s.port p).group g
    (pilotFrameOf p false 3 x = some (f, second) → s.frameFrom p f true = true → q.off = false →
      ∃ t : State, exec (.offFrame p x cycle) s = .next t ∧ (t.port p).group g = { q with off := true, offFrom := cycle } ∧
        { t with ports := s.ports, regs := s.regs } = s ∧ ∀ j, j ≠ p.val → t.port j = s.port j) ∧
    (pilotFrameOf p false 4 x = some (f, second) → s.frameFrom p f false = true → q.off = true →
      ∃ t : State, exec (.onFrame p x cycle) s = .next t ∧ ((t.port p).group g).off = false ∧
        (t.port p).map.get 0 (8 * g + 1) = min (2 ^ 32 - 1) ((s.port p).map.get 0 (8 * g + 1) + (cycle - q.offFrom)) ∧
        t.tiles = s.tiles ∧ t.stackMem = s.stackMem))

/-- R165, R179 to R186, pilot frames and lanes: a good frame of a type for its receiver ends a run of losses and a second copy is counted, any other
frame does nothing; a lane set puts its lanes in their state; an error report leaves the ones under way; a lost frame is counted with error 0x07, the
third in a row tears down; a complement mismatch resets; a failed lane takes its spare position, at once only while no tick runs. The choices of the
model it rests on: log entries 3, 46, 48, 144, 145, 149. -/
def Obligations.HearthPilotsAndLanes : Prop :=
  (∀ (p : Fin 36) (x : PilotCopies) (s : State),
    let heard := fun (lane : Nat) (second : Bool) (t : State) =>
      (t.port p).lostRun.get 0 lane = 0 ∧ (∀ q, q ≠ p.val → t.port q = s.port q) ∧
        fld (t.reg Reg.HRT_PILOT_COUNT) 31 16 = min 65535 (fld (s.reg Reg.HRT_PILOT_COUNT) 31 16 + if second then 1 else 0)
    (∀ f second, pilotFrameOf p false 1 x = some (f, second) → ∃ t : State, exec (.pilotTickBeacon p x) s = .next t ∧ heard 0 second t ∧
      { t with ports := s.ports, regs := s.regs } = s) ∧
    (∀ f second, pilotFrameOf p false 2 x = some (f, second) → ∃ t : State, exec (.pilotGuardStart p x) s = .next t ∧ heard 0 second t ∧
      { t with ports := s.ports, regs := s.regs } = s) ∧
    (∀ laneB f second, pilotFrameOf p laneB 5 x = some (f, second) → ∃ t : State, exec (.firmwareWord p laneB x) s = .next t ∧
      heard (if laneB then 1 else 0) second t ∧ { t with ports := s.ports, regs := s.regs } = s) ∧
    (∀ f second, pilotFrameOf p false 6 x = some (f, second) → let v := BitVec.ofNat 32 (frameFld f 95 64)
      ∃ t : State, exec (.laneSet p x) s = .next t ∧ heard 0 second t ∧ { t with tbl := s.tbl, ports := s.ports, regs := s.regs } = s ∧
        (frameFld f 103 96 = 0x40 → ∀ q ∈ s.movedLanes
            { why := 1, cls := fld v 31 30, flue := fld v 29 26, src := fld v 25 20, dst := fld v 19 14, lane := fld v 13 7, back := false },
          t.laneState q.1 q.2 = fld v 6 1 % 8)) ∧
    (∀ f second, pilotFrameOf p true 7 x = some (f, second) → ∃ t : State, exec (.errorReport p x) s = .next t ∧ heard 1 second t ∧
      t.hearth.reports = s.hearth.reports.erase (p.val, frameFld f 95 64) ∧ { t with ports := s.ports, regs := s.regs, hearth := s.hearth } = s) ∧
    (pilotFrameOf p false 1 x = none → exec (.pilotTickBeacon p x) s = .next s) ∧
    (pilotFrameOf p false 6 x = none → exec (.laneSet p x) s = .next s) ∧
    (∀ b, let i := if b then 1 else 0
      (readPilot x.first x.second = .lost → ∃ t : State, exec (.pilotFrameLost p b x) s = .next t ∧ (t.port p).lostRun.get 0 i = (s.port p).lostRun.get 0 i + 1 ∧
        fld (t.reg Reg.HRT_PILOT_COUNT) 15 0 = min 65535 (fld (s.reg Reg.HRT_PILOT_COUNT) 15 0 + 1) ∧
        (flag (s.reg Reg.HRT_ERR_STATUS) 31 = false → t.reg Reg.HRT_ERR_STATUS = 0x80000007) ∧
        ((s.port p).lostRun.get 0 i < 2 → t.mode = s.mode) ∧ (2 ≤ (s.port p).lostRun.get 0 i → s.ticking = true → t.mode = .faulted)) ∧
      (readPilot x.first x.second ≠ .lost → exec (.pilotFrameLost p b x) s = .next s) ∧
      (readPilot x.first x.second = .mismatch → s.mode ≠ .off → s.boot.active = false →
        ∃ t : State, exec (.pilotComplementMismatch p b x) s = .next t ∧ t.mode = .boot ∧ t.boot.step = 4 ∧
          fld (t.reg Reg.RST_LAST) 31 28 = 7 ∧ fld (t.reg Reg.RST_LAST) 27 26 = 1 ∧ fld (t.reg Reg.RST_LAST) 15 0 = 1))) ∧
  (∀ type dst src value seq, type < 16 → dst < 256 → src < 256 → let f := pilotFrame type dst src value seq
    readPilot f f = .good f false ∧ frameFld f 127 120 = 0x5A ∧ frameFld f 119 116 = type ∧ frameFld f 111 104 = dst ∧ frameFld f 103 96 = src ∧
      frameFld f 95 64 = value % 2 ^ 32) ∧
  (∀ (p c : Fin 36) (f : Fin 8) (s : State), let l : BitVec 10 := BitVec.ofNat 10 (36 * f.val + c.val)
    c ≠ p → s.laneState p (36 * f.val + c.val) = 0 → s.sparePlace c p = 0 → s.laneState p (288 + c.val) ≠ 2 → s.hearth.moves = [] →
    ∃ t : State, exec (.laneFail p l) s = .next t ∧ (flag (s.reg Reg.HRT_ERR_STATUS) 31 = false → t.reg Reg.HRT_ERR_STATUS = 0x80000009) ∧
      (s.ticking = false → t.laneState p (36 * f.val + c.val) = 2 ∧ t.laneState p (288 + c.val) = 4 ∧ t.sparePlace c p = 1 + f.val * 2 ^ 7) ∧
      (s.ticking = true → t.tbl = s.tbl ∧ t.hearth.spare = s.hearth.spare ∧
        t.hearth.moves = [{ why := 2, cls := 0, flue := f.val, src := c.val, dst := p.val, lane := 0, back := false }]))

/-! ### Ember-sum (chapter 07) -/

/-- R98, R122, R166, R171, R196 to R202, R205, R381: a packet takes a place of group 37, waits while they are taken, or is discarded; a whole round
leaves with its codes, one that runs short with code 32; light that starts no round passes, a round with a bad preamble gives nothing, and one
received under valid calibration gives for each value the code sum to within one step, times 2^b; results leave for their tile; a tone window records
its tone, moves its trims, and fails a path the third time it is weak. The choices of the model it rests on: log entries 49, 50, 141, 142, 143, 149.
-/
def Obligations.EmberRounds : Prop :=
  ∀ (p : Fin 16) (s : State),
    (∀ k f ev, s.flights[k]? = some f → keyDie f.router = p → f.port = 6 → f.isSum = true → s.mayMove k f = true →
      let valid := flag (s.sendEntry p f.codes.group 0) 31
      (valid = true → 64 ≤ (s.port p).sums.length → exec (.sumPacketQueue p k ev) s = .next s) ∧
      (f.poison = none → ev = .link [] →
        (valid = true → (s.port p).sums.length < 64 → ∃ t : State, exec (.sumPacketQueue p k ev) s = .next t ∧ (t.port p).sums = (s.port p).sums ++ [f.codes] ∧
          t.flights = s.flights.eraseIdx k ∧ { t with ports := s.ports, flights := s.flights } = s ∧ (∀ q, q ≠ p.val → t.port q = s.port q)) ∧
        (valid = false → ∃ t : State, exec (.sumPacketQueue p k ev) s = .next t ∧ t.flights = s.flights.eraseIdx k ∧ t.ports = s.ports ∧
          (flag (s.reg Reg.EMB_ERR_STATUS) 31 = false → t.reg Reg.EMB_ERR_STATUS = 0x80000003))) ∧
      (f.poison.isSome = true → ev = .link [] → (valid = true → (s.port p).sums.length < 64) →
        exec (.sumPacketQueue p k ev) s = .next { s with flights := s.flights.eraseIdx k })) ∧
    (∀ y n, let q := (s.port p).group 37
      q.isOpen = true → s.ticking = true → (s.port p).sending = none → (s.port p).sums = [y] → y.stream = q.stream → y.index = 0 →
      y.codes.length = fld (s.sendEntry p y.group 1) 14 0 → 1 ≤ y.codes.length → 1 ≤ n →
      ∃ t : State, exec (.sumRoundSend p n) s = .next t ∧ (t.port p).sums = [] ∧ (t.port p).sending = none ∧
        (t.port p).group 37 = { q with isOpen := false, left := 0, window := q.window + 1 } ∧
        t.hearth.rounds = s.hearth.rounds ++ [{ s.newRound p y with codes := y.codes }] ∧ t.regs = s.regs ∧ t.tiles = s.tiles) ∧
    (∀ r n, (s.port p).sending = some r → r.codes.length < r.len → (s.port p).sums = [] → 1 ≤ n →
      ∃ t : State, exec (.sumRoundSend p n) s = .next t ∧ (t.port p).sending = none ∧
        t.hearth.rounds = s.hearth.rounds ++ [{ r with codes := r.codes ++ List.replicate (r.len - r.codes.length) 32 }] ∧
        (flag (s.reg Reg.EMB_ERR_STATUS) 31 = false → t.reg Reg.EMB_ERR_STATUS = 0x80000004) ∧
        (s.ticking = true → s.tick.closed = false → t.tick.charged = true)) ∧
    (∀ (r : Fin 36) dev, let w0 := s.recvEntry p r 0
      let who := (bits16 (fld w0 27 12)).map s.bayDie
      let rs := firstRounds p r who s.hearth.rounds
      let len := fld (s.recvEntry p r 2) 14 0
      let wide := fld (s.recvEntry p r 2) 25 20
      let fault := preambleFault (fld (s.reg Reg.EMB_ALIGN_TOL) 2 0) who.length rs.length wide dev
      let starts := ∃ k < wide, 16 ≤ startSample rs.length dev k
      flag w0 31 = true →
      (¬starts → ∃ t : State, exec (.sumRoundReceive p r dev) s = .next t ∧ t.ports = s.ports ∧ t.regs = s.regs ∧ t.tiles = s.tiles) ∧
      (starts → ∀ k, fault = some k →
        ∃ t : State, exec (.sumRoundReceive p r dev) s = .next t ∧ (t.port p).results = (s.port p).results ∧ flag (t.groupStatus p r) 29 = true ∧
          (flag (s.reg Reg.EMB_ERR_STATUS) 31 = false → t.reg Reg.EMB_ERR_STATUS = 0x80000005)) ∧
      (starts → fault = none → s.calValid p r who = true → 1 ≤ len →
        len + (((s.port p).results.map (fun y => y.words.length)).foldl (· + ·) 0) ≤ 131072 →
        ∃ t : State, ∃ y, exec (.sumRoundReceive p r dev) s = .next t ∧ (t.port p).results = (s.port p).results ++ [y] ∧ y.words.length = len ∧
          y.row = fld (s.recvEntry p r 1) 31 26 ∧ y.col = fld (s.recvEntry p r 1) 25 20 ∧
          y.offset = fld (s.recvEntry p r 1) 19 0 ∧ y.ctr = fld w0 11 8 ∧ y.whole = !(rs.any (fun x => x.late)) ∧ t.regs = s.regs ∧ t.tiles = s.tiles ∧
          ∀ i < len, ∃ v : Int, (v - (codeSums len rs).getD i 0).natAbs ≤ 1 ∧
            y.words.getD i 0 = emberWord v (((fld w0 7 0 : Nat) : Int) - (if fld w0 7 0 ≥ 128 then 256 else 0)))) ∧
    (∀ y ys, (s.port p).results = y :: ys → y.col ≤ 47 →
      let whole := y.whole && decide (y.words.length ≤ 128)
      ∃ t : State, ∃ f : Flight, exec (.sumResultDelivery p []) s = .next t ∧ t.flights = s.flights ++ [f] ∧
        (t.port p).results = (if y.words.length ≤ 128 then ys else { y with words := y.words.drop 128, offset := y.offset + 512 } :: ys) ∧
        flag (t.groupStatus p y.entry) 31 = true ∧ f.router = s.entryRouter p false y.row y.col ∧ f.mode = 0 ∧ f.rowA = y.row ∧ f.colA = y.col ∧
        f.offset = y.offset ∧ f.ctr = y.ctr ∧ f.last = whole ∧ f.tick = y.tick ∧ f.data = ((y.words.take 128).map (fun w => leBytes 4 w.toNat)).flatten ∧
        t.tiles = s.tiles ∧ t.regs = s.regs) ∧
    (∀ evs t, exec (.sumResultDelivery p []) s = .next t → exec (.sumResultDelivery p evs) s = .next (t.travel s.flights.length evs)) ∧
    (∀ (det : Fin 36) (c : Fin 16) (tone : BitVec 12) ge oe, let i := 16 * det.val + c.val
      let a := tblKey 2 p 2 i
      let o := tblKey 2 p 3 det
      let shown := if s.lit c then tone.toNat else 0
      p ≠ c → s.mode ≠ .banked →
      ∃ t : State, exec (.toneWindow p det c tone ge oe) s = .next t ∧ fld (t.tblWord a) 11 0 = shown ∧
        fld (t.tblWord a) 23 12 = moveTrim (fld (s.tblWord a) 23 12) ge ∧ (t.tblWord o).toNat = moveTrim (fld (s.tblWord o) 11 0) oe ∧
        (s.rampMet (576 * p.val + i) c = true → flag (t.tblWord a) 31 = false) ∧
        ((s.port p).weak.get 0 i < 2 ∨ 512 ≤ shown → t.regs = s.regs ∧ (∀ j, j ≠ a → j ≠ o → t.tblWord j = s.tblWord j)) ∧
        ((s.port p).weak.get 0 i = 2 → shown < 512 → flag (t.tblWord a) 30 = true ∧
          (flag (s.reg Reg.EMB_ERR_STATUS) 31 = false → t.reg Reg.EMB_ERR_STATUS = 0x80000009) ∧
          (s.ticking = true → s.pathInUse p det c = true → t.mode = .faulted)))

/-! ### Memory stacks (chapter 09) -/

/-- R236, R238, R249, R252, R274, R276, R311: at its deadline an input slot is valid, or makes a required stream's tick late, or is marked missing;
the scrub corrects and counts a single error and counts and records an uncorrectable one; a remote load or store at a logic die reads or writes its
bytes and is answered, a fetching atomic waits its turn, and the one at the head reads and writes its word. The choices of the model it rests on: log
entries 3, 154. -/
def Obligations.MemoryEvents : Prop :=
  ∀ (m : Fin 16) (s : State),
    (∀ (i : Fin 64) r, s.ring m i = some r → s.ticking = true → s.tick.isOpen = true → s.tick.guard = false → s.ringFilling m r = true → r.word3 < s.budget →
      let a := r.slotAt (s.currentSlot r)
      let header := (s.stack m).bytes a 16
      a + 16 ≤ 0xC00000000 → s.inCopy1 m a 16 = false → s.inWindow m a 16 = none → (∀ l ∈ linesOf a 16, (s.stack m).ecc.get .good l = .good) →
      (∀ x ∈ (s.stack m).atomics, x.2.off / 64 ∉ linesOf a 16) →
      (inputValid s.seq header = true → ∃ t : State, exec (.inputDeadline m i) s = .next t ∧ s.ringState m i = 0 ∧ t.ringState m i = 1 ∧
        { t with tbl := s.tbl } = s) ∧
      (inputValid s.seq header = false → r.required = true → ∃ t : State, exec (.inputDeadline m i) s = .next t ∧ t.ringState m i = 2 ∧ t.tick.late = true ∧
        t.stackMem = s.stackMem) ∧
      (inputValid s.seq header = false → r.required = false → ∃ t : State, exec (.inputDeadline m i) s = .next t ∧ t.ringState m i = 2 ∧ t.tick = s.tick ∧
        (t.stack m).bytes a 16 = (slotHeader s.seq 0 2).take 16 ∧ (∀ x, (x < a ∨ a + 16 ≤ x) → (t.stack m).byte x = (s.stack m).byte x))) ∧
    (∀ l, flag (s.reg (Reg.MEM_CTRL m)) 8 = true → fld (s.reg (Reg.MEM_STATUS m)) 31 30 = 2 → 64 * l < 0xC00000000 →
      ((s.stack m).ecc.get .good l = .good → exec (.patrolScrub m l) s = .next s) ∧
      ((s.stack m).ecc.get .good l = .single → ∃ t : State, exec (.patrolScrub m l) s = .next t ∧ (t.stack m).ecc.get .good l = .good ∧
        (t.stack m).dram = (s.stack m).dram ∧ fld (t.reg (Reg.MEM_ECC_COUNT m)) 15 0 = min 65535 (fld (s.reg (Reg.MEM_ECC_COUNT m)) 15 0 + 1)) ∧
      ((s.stack m).ecc.get .good l = .double → s.readCopy m (64 * l) = false → ∃ t : State, exec (.patrolScrub m l) s = .next t ∧ t.stackMem = s.stackMem ∧ t.tick = s.tick ∧
        fld (t.reg (Reg.MEM_ECC_COUNT m)) 31 16 = min 65535 (fld (s.reg (Reg.MEM_ECC_COUNT m)) 31 16 + 1) ∧
        (flag (s.reg (Reg.MEM_ERR_STATUS m)) 31 = false → t.reg (Reg.MEM_ERR_STATUS m) = 0x80000001 ∧ fld (t.reg (Reg.MEM_ERR_INFO m)) 31 26 = 0x3E))) ∧
    (∀ (src : Fin 36) b bs, let d := descOf (leNat b.data)
      let x := s.stack m
      let n := opBytes d.op.toNat
      (s.port (16 + m.val)).reserve (stackReserve m src) = b :: bs → b.kind = 2 → b.stream = 0xFF →
      (9 ≤ d.op.toNat → d.op.toNat ≤ 11 → ∃ t : State, exec (.readRequest m src) s = .next t ∧ (t.stack m).atomics = x.atomics ++ [(b.src, d)] ∧
        (t.stack m).dram = x.dram ∧ (t.port (16 + m.val)).reserve (stackReserve m src) = bs ∧ (∀ j, j ≠ m.val → t.stack j = s.stack j)) ∧
      ((d.op = 0 ∨ d.op = 1 ∨ d.op = 5) → ∀ c, s.remoteBar m d.off n = some c → ∃ t : State, exec (.readRequest m src) s = .next t ∧ t.stackMem = s.stackMem ∧
        t.onItsWay (16 + m.val) b.src (leBytes 128 (d.answer 2 0 0).payload)) ∧
      (s.remoteBar m d.off n = none → d.off % n = 0 → (∀ l ∈ linesOf d.off n, x.ecc.get .good l = .good) →
        (∀ a ∈ x.atomics, a.2.off / 64 ∉ linesOf d.off n) →
        (d.op = 5 → ∃ t : State, exec (.readRequest m src) s = .next t ∧ (t.stack m).bytes d.off 64 = leBytes 64 d.data.toNat ∧
          (∀ i, (i < d.off ∨ d.off + 64 ≤ i) → (t.stack m).byte i = x.byte i) ∧ t.onItsWay (16 + m.val) b.src (leBytes 128 (d.answer 0 0 0).payload)) ∧
        (d.op = 1 → ∃ t : State, exec (.readRequest m src) s = .next t ∧ t.stackMem = s.stackMem ∧
          t.onItsWay (16 + m.val) b.src (leBytes 128 (d.answer 0 0 (BitVec.ofNat 512 (leNat (x.bytes d.off 64)))).payload)) ∧
        (d.op = 0 → ∃ t : State, exec (.readRequest m src) s = .next t ∧ t.stackMem = s.stackMem ∧
          t.onItsWay (16 + m.val) b.src (leBytes 128 (d.answer 0 (BitVec.ofNat 64 (leNat (x.bytes d.off 8))) 0).payload)))) ∧
    (∀ io d rest, (s.stack m).atomics = (io, d) :: rest → d.off % 8 = 0 → s.remoteBar m d.off 8 = none →
      (s.stack m).ecc.get .good (d.off / 64) = .good →
      let old := BitVec.ofNat 64 (leNat ((s.stack m).bytes d.off 8))
      ∃ t : State, exec (.fabricAtomic m) s = .next t ∧ (t.stack m).atomics = rest ∧ t.onItsWay (16 + m.val) io (leBytes 128 (d.answer 0 old 0).payload) ∧
        BitVec.ofNat 64 (leNat ((t.stack m).bytes d.off 8)) = atomicWord d.op.toNat old d.value d.compare ∧
        (∀ x, (x < d.off ∨ d.off + 8 ≤ x) → (t.stack m).byte x = (s.stack m).byte x) ∧ (∀ j, j ≠ m.val → t.stack j = s.stack j))

/-! ### The host ports (chapter 11) -/

/-- R293 to R299, R301, R302, sessions: HELLO opens a session, BYE and ten idle seconds close it; KEEPALIVE, GET_STATUS, SUBSCRIBE, REG_READ and
REG_WRITE have their effect and answer; a request of a role or a state that forbids it, one seen before and one of no session are answered without
effect; a datagram that spells a request is that request, a malformed one is dropped and counted. The choices of the model it rests on: log entries
96, 97, 98. -/
def Obligations.HostSessions : Prop :=
  (∀ (r : MhpReq) (x : Session) (s : State), s.takes r x = true → s.boot.faulted = false →
    (∃ t : State, exec (.keepalive r) s = .next t ∧ answered t r 3 0 [] ∧ { t with out := s.out, sessions := s.sessions } = s) ∧
    (∃ t : State, exec (.getStatus r) s = .next t ∧ { t with out := s.out, sessions := s.sessions } = s ∧ answered t r 0x10 0
      ([BitVec.ofNat 8 s.mode.code, BitVec.ofNat 8 (fld (s.reg Reg.TCK_ROLE) 31 31), BitVec.ofNat 8 (fld (s.reg Reg.TCK_ROLE) 30 30)] ++ leBytes 8 s.seq ++
        leBytes 4 (s.reg Reg.TCK_EPOCH).toNat ++ leBytes 4 (s.reg Reg.TCK_STATUS).toNat ++ leBytes 4 (s.reg Reg.TCK_IMAGE_STATUS).toNat)) ∧
    (∃ t : State, exec (.bye r) s = .next t ∧ answered t r 2 0 [] ∧ t.sessions = (s.seen r x).sessions.filter (fun y => y.slot != x.slot)) ∧
    (∀ m, ∃ t : State, exec (.subscribe r m) s = .next t ∧ answered t r 0x70 0 [] ∧ { t with out := s.out, sessions := s.sessions } = s ∧
      ∀ y ∈ t.sessions, y.slot = x.slot → y.mask = m ∧ y.h = r.seq.toNat) ∧
    (∀ (a : BitVec 64) (w : Word) (t1 : State), a.toNat < 2 ^ 40 → (s.seen r x).ctlRead (BitVec.ofNat 8 x.master) a.toNat 4 = (some w, t1) →
      ∃ t : State, exec (.regRead r a 1) s = .next t ∧ answered t r 0x11 0 (leBytes 4 w.toNat) ∧ { t with out := t1.out, sessions := t1.sessions } = t1) ∧
    (∀ (a : BitVec 64) (t1 : State), a.toNat < 2 ^ 40 → (s.seen r x).ctlRead (BitVec.ofNat 8 x.master) a.toNat 4 = (none, t1) →
      ∃ t : State, exec (.regRead r a 1) s = .next t ∧ answered t r 0x11 5 (leBytes 8 a.toNat ++ leBytes 4 0)) ∧
    (∀ (a : BitVec 64) (w : Word) (t1 : State), x.role = 1 → a.toNat < 2 ^ 40 → (s.seen r x).ctlWrite (BitVec.ofNat 8 x.master) a.toNat 4 w = (true, t1) →
      ∃ t : State, exec (.regWrite r a [w]) s = .next t ∧ answered t r 0x12 0 [] ∧ { t with out := t1.out, sessions := t1.sessions } = t1) ∧
    (x.role = 0 → ∃ t : State, exec (.stopJob r) s = .next t ∧ answered t r 0x23 8 [] ∧ { t with out := s.out, sessions := s.sessions } = s) ∧
    (x.role = 1 → s.mode ≠ .running → ∃ t : State, exec (.stopJob r) s = .next t ∧ answered t r 0x23 2 [BitVec.ofNat 8 s.mode.code] ∧ t.mode = s.mode ∧
      t.reg (Reg.HST_CONFLICTS r.port) = BitVec.ofNat 32 (min ((s.reg (Reg.HST_CONFLICTS r.port)).toNat + 1) 0xFFFFFFFF))) ∧
  (∀ (r : MhpReq) (s : State), ∀ c ∈ [(Instr.bye r, 2), (.keepalive r, 3), (.getStatus r, 0x10), (.unloadJob r, 0x21), (.stopJob r, 0x23), (.teardown r, 0x24), (.bank r, 0x30),
      (.wake r, 0x31), (.configRevert r, 0x41)],
    s.portUp r.port = true → flag (s.reg (Reg.HST_CTRL r.port)) 1 = true →
    (s.sessionOf r = none → exec c.1 s = .next (s.reply r c.2 0xA [])) ∧
    (∀ (x : Session) (k : Nat × Nat × Nat × List Byte), s.sessionOf r = some x → r.seq.toNat ≤ x.h → r.seq.toNat ∉ x.busy → x.kept.find? (fun e => e.1 == r.seq.toNat) = some k →
      exec c.1 s = .next (s.reply r k.2.1 k.2.2.1 k.2.2.2))) ∧
  (∀ (r : MhpReq) (majors : BitVec 16) minor (role : Byte) take (s : State) (k : Nat), s.portUp r.port = true → flag (s.reg (Reg.HST_CTRL r.port)) 1 = true →
    majors.getLsbD 1 = true → role.toNat ≤ 2 → (role.toNat = 0 ∨ ∀ x ∈ s.sessions, x.role ≠ role.toNat) → flag (s.reg Reg.GLV_STATUS) 30 = false →
    (List.range 16).find? (fun j => !(s.sessions.any (fun x => x.slot == j))) = some k →
    ∃ t : State, ∃ y : Session, exec (.hello r majors minor role take) s = .next t ∧ t.sessions = s.sessions ++ [y] ∧ y.slot = k ∧ y.role = role.toNat ∧ y.port = r.port.val ∧
      y.addr = r.addr ∧ y.udp = r.udp ∧ y.h = r.seq.toNat ∧ y.mask = 0 ∧
      answered t r 1 0 ([0x10, BitVec.ofNat 8 (if role.toNat = 2 then 0x50 else 0x10 + k)] ++ leBytes 2 y.id.toNat ++ [BitVec.ofNat 8 k])) ∧
  (∀ (k : Fin 16) (s : State), exec (.sessionIdleTimeout k) s = .next { s with sessions := s.sessions.filter (fun x => x.slot != k.val) }) ∧
  (∀ (p : Fin 2) f c addr udp (bytes : List Byte) peer (s : State), s.portUp p = true →
    (s.accepts p f = false → exec (.mhpDatagram p f c addr udp bytes peer) s = .next s) ∧
    (s.accepts p f = true → s.dispatch p c = .mhp →
      (readDatagram bytes = none → exec (.mhpDatagram p f c addr udp bytes peer) s = .next (s.bumpReg (Reg.HST_DROPS p) 31 16)) ∧
      (∀ h, readDatagram bytes = some h → h.type = 0 → h.part = 0 → h.parts = 1 → h.code = 3 → h.payload = [] → peer = [] →
        exec (.mhpDatagram p f c addr udp bytes peer) s =
          exec (.keepalive { port := p, addr := addr, udp := udp, session := BitVec.ofNat 16 h.session, seq := BitVec.ofNat 32 h.seq }) s)))

/-- R298, R300, R304, R305, R307, R329, R330, R347, R406, R407, R426, R437, commands of a controller: each, in a state in which it is legal and with
good arguments, has its effect and answers OK; LOAD_JOB, GET_QUOTE answer later. The choices of the model it rests on: log entries 99, 101, 130, 156.
-/
def Obligations.HostCommands : Prop :=
  (∀ (r : MhpReq) (x : Session) (s : State), s.takes r x = true → x.role = 1 → s.boot.faulted = false → s.midway = false → s.boot.cmd = none → s.glove.cmd = none →
    (∀ n : DWord, s.mode = .ready → 1 ≤ n.toNat → n.toNat ≤ stagingBytes →
      ∃ t : State, exec (.loadJob r n 0 0) s = .next t ∧ t.job.loading = some (r, n.toNat, 0, 0) ∧ t.out = s.out ∧ t.mode = .ready ∧
        { t with job := s.job, sessions := s.sessions } = s) ∧
    (s.mode = .loaded → ∃ t : State, exec (.unloadJob r) s = .next t ∧ answered t r 0x21 0 [] ∧ t.mode = .ready ∧ fld (t.reg Reg.TCK_IMAGE_STATUS) 31 30 = 0 ∧
      t.reg Reg.TCK_PERIOD = 0 ∧ ∀ k, (t.tile k).placed = false) ∧
    (∀ n : DWord, s.mode = .loaded → (s.source = 2 → n = 0) → s.fencedDies = [] → flag (s.reg Reg.TCK_ROLE) 31 = false → flag (s.reg Reg.THM_STATUS) 6 = false →
      ∃ t : State, exec (.startJob r n false []) s = .next t ∧ answered t r 0x22 0 [] ∧ t.job.start = some n ∧ t.mode = .loaded ∧ t.tiles = s.tiles ∧
        t.seq = s.seq) ∧
    (s.mode = .running → ∃ t : State, exec (.stopJob r) s = .next t ∧ answered t r 0x23 0 [] ∧ t.mode = .draining ∧ t.tick = s.tick ∧ t.tiles = s.tiles) ∧
    (s.ticking = true → ∃ t : State, exec (.teardown r) s = .next t ∧ answered t r 0x24 0 [] ∧ t.mode = .faulted) ∧
    ((s.mode = .ready ∨ s.mode = .loaded) → ∃ t : State, exec (.bank r) s = .next t ∧ answered t r 0x30 0 [] ∧ t.boot = { s.boot with bankedFrom := some s.mode, waking := false } ∧
      t.mode = s.mode) ∧
    (s.mode = .banked → ∃ t : State, exec (.wake r) s = .next t ∧ answered t r 0x31 0 [] ∧ t.boot = { s.boot with waking := true }) ∧
    (∀ scope unit : Byte, scope.toNat ≤ 3 → unit.toNat ≤ 35 → s.resetLegal scope.toNat = true →
      ∃ t : State, exec (.reset r scope unit) s = .next t ∧ answered t r 0x40 0 [] ∧ t.mode = s.mode ∧
        t.boot = { s.boot with asked := s.boot.asked ++ [(scope.toNat, if scope.toNat = 2 then unit.toNat else 0)] }) ∧
    (∀ b : Bool, (s.mode = .ready ∨ s.mode = .faulted) → s.setInUse = some b → s.eligible (!b) = true →
      ∃ t : State, exec (.configRevert r) s = .next t ∧ answered t r 0x41 0 [] ∧ t.boot = { s.boot with revert := some (!b), asked := s.boot.asked ++ [(0, 0)] }) ∧
    (∀ c : Fin 32, ∀ w : Word, s.mbxSends x.master c = true → flag (s.reg (Reg.MBX_VER c)) 7 = true → (s.chan c).inQ = MbxQueue.reset →
      ∃ t : State, exec (.mbxSend r (BitVec.ofNat 8 c) [w]) s = .next t ∧ answered t r 0x50 0 [] ∧
        (let h := if s.mbxStamp c then setFld w 31 24 x.master else w
         (t.chan c).inQ = { done := [(h, [h])], writer := none, words := [] })) ∧
    (∀ c : Fin 32, s.mbxSends x.master c = true → (s.chan c).outQ.done = [] → s.mayReadAck (BitVec.ofNat 8 x.master) c false = true →
      ∃ t : State, exec (.mbxRecv r (BitVec.ofNat 8 c)) s = .next t ∧ answered t r 0x51 0 (leBytes 4 (s.reg (Reg.MBX_IN_ACK c)).toNat ++ [0, 0, 0, 0]) ∧
        flag (t.reg (Reg.MBX_STATUS c)) 22 = false) ∧
    (∀ (rq rp : BitVec 24) (gid : BitVec 128) (k : Nat), s.mode = .loaded → flag (s.reg Reg.GLV_STATUS) 30 = false →
      (List.range 64).find? (fun j => !((s.qps.filter (fun q => q.port == x.port)).any (fun q => q.qpn % 64 == j))) = some k →
      ∃ t : State, ∃ q : Qp, exec (.openQp r (rq.setWidth 32) (rp.setWidth 32) 4096 gid 0) s = .next t ∧ t.qps = s.qps ++ [q] ∧ q.port = x.port ∧ q.remote = rq.toNat ∧
        q.mtu = 4096 ∧ q.gid = gid ∧ q.kind = 0 ∧ q.psn = rp.toNat ∧ q.broken = false ∧ q.qpn % 64 = k ∧ q.qpn < 2 ^ 24 ∧ q.rkey < 2 ^ 32 ∧
        ∃ p < 2 ^ 24, answered t r 0x60 0 (leBytes 4 q.qpn ++ leBytes 4 p ++ leBytes 4 q.rkey)) ∧
    (∀ q ∈ s.qps, q.port = x.port → q.qpn < 2 ^ 32 → ∃ t : State, exec (.closeQp r (BitVec.ofNat 32 q.qpn)) s = .next t ∧ answered t r 0x61 0 [] ∧
      t.qps = s.qps.filter (fun y => !(y.port == x.port && y.qpn == q.qpn))) ∧
    (∀ n, fld (s.reg Reg.GLV_STATUS) 30 29 = 0 → s.glove.quotes.length < 4 → ∃ t : State, exec (.getQuote r n) s = .next t ∧
      t.glove.quotes = s.glove.quotes ++ [(r, n)] ∧ fld (t.reg Reg.GLV_STATUS) 23 21 = s.glove.quotes.length + 1 ∧ t.out = s.out)) ∧
  (∀ (r : MhpReq) (n : Nat) (s : State) (x : Session), s.mode = .ready → s.job.loading = some (r, n, 0, 0) → s.sessionOf r = some x →
    let s0 := { s with job := { s.job with loading := none } }
    (∀ i a b, s0.loadRefused ⟨0, n⟩ ⟨0, 0⟩ = some (i, a, b) →
      ∃ t : State, exec .loadJobEnd s = .next t ∧ t.mode = .ready ∧ answered t r 0x20 7 [BitVec.ofNat 8 i, BitVec.ofNat 8 a, BitVec.ofNat 8 b] ∧ t.tiles = s.tiles ∧
        t.stackMem = s.stackMem ∧ t.reg Reg.TCK_IMAGE_STATUS = BitVec.ofNat 32 (a * 256 + b)) ∧
    (s0.loadRefused ⟨0, n⟩ ⟨0, 0⟩ = none → ∃ t : State, exec .loadJobEnd s = .next t ∧ t.mode = .loaded ∧ answered t r 0x20 0 [] ∧
      fld (t.reg Reg.TCK_IMAGE_STATUS) 31 30 = 2)) ∧
  (∀ (s : State) (m : ModState), s.mode = .banked → s.boot.bankedFrom = some m → s.boot.waking = true → (m = .ready ∨ m = .loaded) →
    ∃ t : State, exec .wakeComplete s = .next t ∧ t.mode = m ∧ t.boot = { s.boot with bankedFrom := none, waking := false } ∧ t.stackMem = s.stackMem ∧ t.tiles = s.tiles ∧
      ∀ k < 16, fld (t.reg (Reg.MEM_STATUS k)) 31 30 = 2) ∧
  (∀ (p : Fin 2) f (s : State), s.portUp p = true →
    (s.accepts p f = false → (∀ v6 echo a body, exec (.arpRequest p f v6 echo a body) s = .next s) ∧ ∀ c icrc, exec (.frameDrop p f c icrc) s = .next s) ∧
    (s.accepts p f = true → (∀ v6 echo a body, exec (.arpRequest p f v6 echo a body) s =
        .next (if s.ownAddress p v6 a then
            s.send (if echo then .frame p 2 body (s.frameTag p) else .frame p (if v6 then 1 else 0) (macBytes p) (s.frameTag p))
          else s.bumpReg (Reg.HST_DROPS p) 15 0)) ∧
      ∀ c icrc, exec (.frameDrop p f c icrc) s =
        .next (if s.dispatch p c = .other ∨ (s.dispatch p c = .roce ∧ icrc = true) then s.bumpReg (Reg.HST_DROPS p) 15 0 else s)))

/-! ### RoCEv2, flow control and mailboxes (chapters 11 and 12) -/

/-- R245, R249, R250, R289, R306, R308, R309, R353, RDMA: a WRITE packet in its turn with the right key inside the slots of a ring is written and
acknowledged where asked, one at a locked slot is discarded and counted, a READ is answered in packets of the path MTU; what lies outside the reach of
its queue pair, or has another key, moves nothing, gets a Remote Access Error, is counted, recorded where it meets a carry window, and breaks the
pair; an opcode or a length that is not allowed is an Invalid Request; a packet out of its turn writes nothing; a marked packet is answered with a
CNP; a CNP halves the rate of its pair for 100 µs; pauses on the priority of RoCEv2 hold its frames, and are sent as the receive buffer fills and
empties. The choices of the model it rests on: log entries 104, 105, 109, 132, 167. -/
def Obligations.RdmaAndFlowControl : Prop :=
  let live := fun (s : State) (port : Fin 2) h c (x : RdmaHead) (q : Qp) =>
    s.pair port x.qpn.toNat = some q ∧ s.portUp port = true ∧ s.accepts port h = true ∧ s.dispatch port c = .roce ∧ q.broken = false
  let packet := fun (s : State) (q : Qp) (op : RdmaOut) (psn : Nat) (data : List Byte) =>
    OutMsg.rdma q.port q.remote op psn data (s.vlanTag q.port (fld (s.reg (Reg.HST_PFC q.port)) 18 16))
  let refused := fun (s t : State) (q : Qp) op psn =>
    t.out.head? = some (packet s q op psn []) ∧ t.stackMem = s.stackMem ∧ ∀ y ∈ t.qps, y.port = q.port → y.qpn = q.qpn → y.broken = true
  (∀ (port : Fin 2) h c op (x : RdmaHead) data (s : State) q, live s port h c x q → x.ce = false → s.host.paused.get false port = false →
    let psn := x.psn.toNat
    (op = .unsupported ∨ q.place psn = .due ∧ q.writeSpan op x data.length = none →
      ∃ t : State, exec (.rdmaWrite port h c op x data) s = .next t ∧ refused s t q .nakInvalid psn ∧ t.regs = s.regs) ∧
    (op ≠ .unsupported → q.place psn = .ahead → ∃ t : State, exec (.rdmaWrite port h c op x data) s = .next t ∧ { t with out := s.out } = s ∧
      t.out = packet s q .nakSequence q.psn [] :: s.out) ∧
    (op ≠ .unsupported → q.place psn = .behind → ∃ t : State, exec (.rdmaWrite port h c op x data) s = .next t ∧ { t with out := s.out } = s ∧
      t.out = packet s q .ack ((q.psn + 2 ^ 24 - 1) % 2 ^ 24) [] :: s.out) ∧
    (∀ va left, op ≠ .unsupported → q.place psn = .due → q.writeSpan op x data.length = some (va, left) → q.msg = none →
      (x.rkey.toNat ≠ q.rkey ∨ s.rdmaPlaces q true va left = none) →
      ∃ t : State, exec (.rdmaWrite port h c op x data) s = .next t ∧ refused s t q .nakAccess psn ∧
        fld (t.reg (Reg.HST_RDMA port)) 31 16 = min (fld (s.reg (Reg.HST_RDMA port)) 31 16 + 1) 65535 ∧
        ∀ (m : Fin 16) off, q.kind ≠ 1 → va = 2 ^ 44 + m.val * 2 ^ 40 + off → off < 2 ^ 36 →
          ((s.inWindow m off left).isSome = true ∨ s.inCopy1 m off left = true) → flag (s.reg (Reg.MEM_ERR_STATUS m)) 31 = false →
          t.reg (Reg.MEM_ERR_STATUS m) = 0x80000008) ∧
    (∀ va left (m : Fin 16) off r, op ≠ .unsupported → q.place psn = .due → q.writeSpan op x data.length = some (va, left) → q.kind = 0 →
      (q.msg = none → x.rkey.toNat = q.rkey ∧ (s.rdmaPlaces q true va left).isSome = true) →
      va = 2 ^ 44 + m.val * 2 ^ 40 + off → off + data.length ≤ 0xC00000000 → fld (s.reg (Reg.MEM_STATUS m)) 31 30 = 2 →
      r ∈ s.rings m → r.output = false → r.holds off data.length = true → s.inWindow m off data.length = none → s.inCopy1 m off data.length = false →
      (∀ a k, off ≤ a → 0 < k → a + k ≤ off + data.length → s.ringOf m a k = some r) →
      (∀ a ∈ (s.stack m).atomics, a.2.off / 64 ∉ linesOf off data.length) →
      let n := data.length
      let late := q.msg.any (fun y => y.2.2)
      let moved := fun (t : State) (l : Bool) => ∀ y ∈ t.qps, y.port = q.port → y.qpn = q.qpn →
        y.psn = (psn + 1) % 2 ^ 24 ∧ y.msg = if n = left then none else some (va + n, left - n, l)
      let acked := fun (t : State) => x.ack = true → t.out.head? = some (packet s q .ack psn [])
      ((s.ringState m r.index = 0 ∨ ∀ a, off ≤ a → a < off + n → r.slotOf a ≠ s.currentSlot r) → (s.stack m).badLines (linesOf off n) = [] →
        ∃ t : State, exec (.rdmaWrite port h c op x data) s = .next t ∧ acked t ∧ moved t late ∧
          ∀ k a, (t.stack k).byte a = if k = m.val ∧ off ≤ a ∧ a < off + n then data.getD (a - off) 0 else (s.stack k).byte a) ∧
      (s.ringState m r.index ≠ 0 → (∀ a, off ≤ a → a < off + n → r.slotOf a = s.currentSlot r) → 0 < n →
        ∃ t : State, exec (.rdmaWrite port h c op x data) s = .next t ∧ acked t ∧ moved t true ∧ t.stackMem = s.stackMem ∧
          (off % 128 + n ≤ 128 → fld (t.ringStatus m r.index) 15 0 = min (fld (s.ringStatus m r.index) 15 0 + 1) 65535) ∧
          (n = left → fld (t.reg (Reg.HST_RDMA port)) 15 0 = min (fld (s.reg (Reg.HST_RDMA port)) 15 0 + 1) 65535)))) ∧
  (∀ (s : State) (q : Qp) w va n, (q.kind = 1 → s.mode ≠ .ready → s.rdmaPlaces q w va n = none) ∧
    (q.kind ≠ 1 → va / 2 ^ 44 ≠ 1 → s.rdmaPlaces q w va n = none) ∧
    (q.kind = 0 → (∀ r ∈ s.rings (va / 2 ^ 40 % 16), r.holds (va % 2 ^ 36) n = true → w = true ∧ r.output = true) → s.rdmaPlaces q w va n = none) ∧
    (q.kind = 2 → w = true → s.mode ≠ .loaded → s.rdmaPlaces q w va n = none)) ∧
  (∀ (port : Fin 2) h c (x : RdmaHead) (s : State) q, live s port h c x q → x.ce = false → s.host.paused.get false port = false →
    let psn := x.psn.toNat
    let va := x.va.toNat
    let n := x.len.toNat
    (q.place psn = .ahead → ∃ t : State, exec (.rdmaRead port h c x) s = .next t ∧ { t with out := s.out } = s ∧
      t.out = packet s q .nakSequence q.psn [] :: s.out) ∧
    (q.place psn ≠ .ahead → (2 ^ 31 < n ∨ 16 ≤ s.readsHeld q ∨ q.msg.isSome = true) →
      ∃ t : State, exec (.rdmaRead port h c x) s = .next t ∧ refused s t q .nakInvalid psn ∧ t.regs = s.regs) ∧
    (q.place psn ≠ .ahead → n ≤ 2 ^ 31 → s.readsHeld q < 16 → q.msg = none →
      ((x.rkey.toNat ≠ q.rkey ∨ s.rdmaPlaces q false va n = none) →
        ∃ t : State, exec (.rdmaRead port h c x) s = .next t ∧ refused s t q .nakAccess psn) ∧
      (∀ (m : Fin 16) off r zero, x.rkey.toNat = q.rkey → q.kind = 0 → va = 2 ^ 44 + m.val * 2 ^ 40 + off → off + n ≤ 0xC00000000 →
        fld (s.reg (Reg.MEM_STATUS m)) 31 30 = 2 → r ∈ s.rings m → r.holds off n = true → s.inWindow m off n = none → s.inCopy1 m off n = false →
        (∀ l ∈ linesOf off n, (s.stack m).ecc.get .good l = .good) → (∀ a ∈ (s.stack m).atomics, a.2.off / 64 ∉ linesOf off n) →
        (∀ a, off ≤ a → a < off + n → s.openData m a = zero) →
        let data := if zero then List.replicate n 0 else (s.stack m).bytes off n
        let k := max 1 ((n + q.mtu - 1) / q.mtu)
        ∃ t : State, exec (.rdmaRead port h c x) s = .next t ∧ t.stackMem = s.stackMem ∧ t.out.drop k = s.out ∧
          (∀ j < k, t.out[k - 1 - j]? = some (packet s q (if k = 1 then .readOnly else if j = 0 then .readFirst else if j = k - 1 then .readLast else .readMiddle)
            ((psn + j) % 2 ^ 24) ((data.drop (q.mtu * j)).take q.mtu))) ∧
          (q.place psn = .due → ∀ y ∈ t.qps, y.port = q.port → y.qpn = q.qpn → y.psn = (psn + k) % 2 ^ 24)))) ∧
  (∀ (port : Fin 2) h c op (x : RdmaHead) data (s : State) q,
    (s.pair port x.qpn.toNat = none ∨ s.pair port x.qpn.toNat = some q ∧ q.broken = true → s.dispatch port c = .roce →
      exec (.rdmaWrite port h c op x data) s = .next s ∧ exec (.rdmaRead port h c x) s = .next s) ∧
    (live s port h c x q → x.ce = true → flag (s.reg (Reg.HST_CTRL port)) 3 = true → q.cnpAt ≤ s.timeNs 36 →
      let y := { x with ce := false }
      let s' := (s.sendRoce q .cnp 0 []).onPair q (fun z => { z with cnpAt := s.timeNs 36 + 50000 })
      exec (.rdmaWrite port h c op x data) s = exec (.rdmaWrite port h c op y data) s' ∧ exec (.rdmaRead port h c x) s = exec (.rdmaRead port h c y) s') ∧
    (live s port h c x q → s.host.paused.get false port = true → x.ce = false → ∃ t : State, exec (.rdmaWrite port h c .unsupported x data) s = .next t ∧
      t.out = s.out ∧ t.host.roce.get [] port = s.host.roce.get [] port ++ [packet s q .nakInvalid x.psn.toNat []])) ∧
  (∀ (port : Fin 2) h c (qpn : Word) (s : State) q, s.pair port qpn.toNat = some q → s.portUp port = true → s.accepts port h = true → s.dispatch port c = .roce →
    flag (s.reg (Reg.HST_CTRL port)) 3 = true →
    ∃ t : State, exec (.cnpReceive port h c qpn) s = .next t ∧ { t with qps := s.qps } = s ∧
      ∀ x ∈ t.qps, x.port = q.port → x.qpn = q.qpn → x.halfTo = s.timeNs 36 + 100000) ∧
  (∀ (port : Fin 2) (s : State), s.portUp port = true → flag (s.reg (Reg.HST_CTRL port)) 2 = true →
    let prio := fld (s.reg (Reg.HST_PFC port)) 18 16
    (∀ (k : Fin 8) on, k.val ≠ prio → exec (.pfcPause port (.received k on)) s = .next s) ∧
    (∀ k : Fin 8, k.val = prio →
      (∃ t : State, exec (.pfcPause port (.received k true)) s = .next t ∧ { t with host := s.host } = s ∧ t.host.paused.get false port = true) ∧
      (∃ t : State, exec (.pfcPause port (.received k false)) s = .next t ∧ t.host.paused.get false port = false ∧ t.host.roce.get [] port = [] ∧
        t.out = (s.host.roce.get [] port).reverse ++ s.out)) ∧
    ∀ n, let want := decide (fld (s.reg (Reg.HST_PFC port)) 7 0 * 2 ^ 20 < n)
      ∃ t : State, exec (.pfcPause port (.buffer n)) s = .next t ∧ t.host.pausing.get false port = want ∧
        t.out = if want = s.host.pausing.get false port then s.out
          else .frame port (if want then 3 else 5) [BitVec.ofNat 8 prio] none :: s.out)

/-- R315 to R319, R321 to R326, R328, R331, R450, mailboxes: an admitted writer opens or extends its message, its doorbell closes it, signals and
wakes the owner; the reader pops oldest first; answers set and clear ack_new; a version offer sets the agreed fields; a message left open is discarded
and counted; anyone else is answered with a bus error, counted, and changes no queue. The choices of the model it rests on: log entries 88, 89. -/
def Obligations.Mailboxes : Prop :=
  let told := fun (t : State) (m : Byte) (a : Nat) (x : Option Word) => t.out.head? = some (.bus m.toNat a x)
  let owner := fun (s : State) (m : Byte) (c : Fin 32) => s.mbxOn c = true ∧ s.mbxOwns m.toNat c = true
  let onlyChan := fun (s t : State) (c : Fin 32) => { t with mailbox := s.mailbox, out := s.out } = s ∧ ∀ k, k ≠ c.val → t.chan k = s.chan k
  let opened := fun (q r : MbxQueue) (m : Byte) (first next : Word) =>
    r = { q with writer := some m, words := if q.writer = none then [first] else q.words ++ [next] }
  (∀ (m : Byte) (c : Fin 32) w (s : State), s.boot.input = true →
    (s.mbxSends m.toNat c = true → (s.chan c).inQ.count < 8 → ((s.chan c).inQ.writer = none ∨ (s.chan c).inQ.writer = some m) →
      ∃ t : State, exec (.mbxInWr m c w) s = .next t ∧ told t m (Reg.MBX_IN_WR c) (some 0) ∧ onlyChan s t c ∧ (t.chan c).outQ = (s.chan c).outQ ∧
        opened (s.chan c).inQ (t.chan c).inQ m (if s.mbxStamp c then setFld w 31 24 m.toNat else w) w) ∧
    (owner s m c → (s.chan c).outQ.count < 8 → ((s.chan c).outQ.writer = none ∨ (s.chan c).outQ.writer = some m) →
      ∃ t : State, exec (.mbxOutWr m c w) s = .next t ∧ told t m (Reg.MBX_OUT_WR c) (some 0) ∧ onlyChan s t c ∧ (t.chan c).inQ = (s.chan c).inQ ∧
        opened (s.chan c).outQ (t.chan c).outQ m w w) ∧
    (s.mbxSends m.toNat c = false ∨ (s.chan c).inQ.count ≥ 8 ∨ (∃ x, (s.chan c).inQ.writer = some x ∧ x ≠ m) → flag (s.reg Reg.CAP_EVENTS) 3 = false →
      ∃ t : State, exec (.mbxInWr m c w) s = .next t ∧ told t m (Reg.MBX_IN_WR c) none ∧ t.mailbox = s.mailbox ∧
        fld (t.reg (Reg.MBX_COUNT c)) 31 16 = min (fld (s.reg (Reg.MBX_COUNT c)) 31 16 + 1) 65535 ∧ flag (t.reg Reg.CAP_EVENTS) 3 = true ∧
        t.reg Reg.CAP_ERR_ADDR_LO = BitVec.ofNat 32 (Reg.MBX_IN_WR c) ∧
        t.reg Reg.CAP_ERR_INFO = BitVec.ofNat 32 (m.toNat * 2 ^ 24 + (if s.mbxSends m.toNat c then 9 else 3) * 2 ^ 16 + 2 ^ 15)) ∧
    (∀ x, flag w 0 = true → flag (s.reg (Reg.MBX_VER c)) 7 = true → s.mbxSends m.toNat c = true → (s.chan c).inQ = x → x.writer = some m →
      ∃ t : State, exec (.mbxInBell m c w) s = .next t ∧ told t m (Reg.MBX_IN_BELL c) (some 0) ∧ t.out.tail = .signal c 0 :: s.out ∧
        (t.chan c).inQ = { done := x.done ++ [(x.words.headD 0, x.words)], writer := none, words := [] } ∧ flag t.mbxPending c = true ∧
        (s.mode = .banked → t.boot.waking = true) ∧
        (s.mode = .ready → s.boot.bankedFrom = none → ∀ d : Fin 16, c.val = d.val → s.dieFenced d = false → s.domain (3 * d.val + 2) = 0 →
          t.domain (3 * d.val + 2) = 1)) ∧
    (flag w 0 = true → s.mbxSends m.toNat c = true → (s.chan c).inQ.writer = none →
      ∃ t : State, exec (.mbxInBell m c w) s = .next t ∧ told t m (Reg.MBX_IN_BELL c) (some 0) ∧ t.mailbox = s.mailbox ∧ flag (t.reg (Reg.MBX_STATUS c)) 8 = true) ∧
    (flag w 0 = true → flag (s.reg (Reg.MBX_VER c)) 7 = true → owner s m c → (s.chan c).outQ.writer = some m →
      ∃ t : State, exec (.mbxOutBell m c w) s = .next t ∧ told t m (Reg.MBX_OUT_BELL c) (some 0) ∧ t.regs = s.regs ∧
        (t.chan c).outQ = { done := (s.chan c).outQ.done ++ [((s.chan c).outQ.words.headD 0, (s.chan c).outQ.words)], writer := none, words := [] })) ∧
  (∀ (m : Byte) (c : Fin 32) h w ws rest (s : State), s.boot.input = true →
    (owner s m c → (s.chan c).inQ.done = (h, w :: ws) :: rest →
      ∃ t : State, exec (.mbxInRd m c) s = .next t ∧ told t m (Reg.MBX_IN_RD c) (some w) ∧ onlyChan s t c ∧
        t.chan c = { s.chan c with inQ := { (s.chan c).inQ with done := if ws = [] then rest else (h, ws) :: rest }, popped := BitVec.ofNat 8 (fld h 31 24) }) ∧
    ((s.chan c).outQ.done = (h, w :: ws) :: rest → (if s.mbxStamp c then s.mbxSends m.toNat c = true ∧ m.toNat = fld h 23 16 else s.mbxPeer m.toNat c = true) →
      ∃ t : State, exec (.mbxOutRd m c) s = .next t ∧ told t m (Reg.MBX_OUT_RD c) (some w) ∧ onlyChan s t c ∧ (t.chan c).inQ = (s.chan c).inQ ∧
        (t.chan c).outQ.done = if ws = [] then rest else (h, ws) :: rest) ∧
    (owner s m c → (s.chan c).inQ.done = [] → ∃ t : State, exec (.mbxInRd m c) s = .next t ∧ told t m (Reg.MBX_IN_RD c) none ∧ t.mailbox = s.mailbox)) ∧
  (∀ (m : Byte) (c : Fin 32) w (s : State), s.boot.input = true →
    (owner s m c → ∃ t : State, exec (.mbxAckWrite m c false w) s = .next t ∧ told t m (Reg.MBX_IN_ACK c) (some 0) ∧ t.reg (Reg.MBX_IN_ACK c) = w ∧
      flag (t.reg (Reg.MBX_STATUS c)) 22 = true ∧
      flag (t.reg (Reg.MBX_STATUS c)) 21 = (flag (s.reg (Reg.MBX_STATUS c)) 21 || flag (s.reg (Reg.MBX_STATUS c)) 22) ∧ t.mailbox = s.mailbox) ∧
    (s.mbxPeer m.toNat c = true → ∃ t : State, exec (.mbxAckWrite m c true w) s = .next t ∧ told t m (Reg.MBX_OUT_ACK c) (some 0) ∧ t.reg (Reg.MBX_OUT_ACK c) = w ∧
      flag (t.reg (Reg.MBX_STATUS c)) 10 = true ∧ t.mailbox = s.mailbox) ∧
    (s.mbxPeer m.toNat c = true → ∃ t : State, exec (.mbxAckRead m c false) s = .next t ∧ told t m (Reg.MBX_IN_ACK c) (some (s.reg (Reg.MBX_IN_ACK c))) ∧
      flag (t.reg (Reg.MBX_STATUS c)) 22 = false ∧ { t with out := s.out, regs := s.regs } = s) ∧
    (owner s m c → ∃ t : State, exec (.mbxAckRead m c true) s = .next t ∧ told t m (Reg.MBX_OUT_ACK c) (some (s.reg (Reg.MBX_OUT_ACK c))) ∧
      flag (t.reg (Reg.MBX_STATUS c)) 10 = false) ∧
    (s.mayReadAck m c false = false → ∃ t : State, exec (.mbxAckRead m c false) s = .next t ∧ told t m (Reg.MBX_IN_ACK c) none ∧
      t.reg (Reg.MBX_STATUS c) = s.reg (Reg.MBX_STATUS c)) ∧
    (owner s m c → s.mbxPeer m.toNat c = false → ∃ t : State, exec (.mbxVerWrite m c w) s = .next t ∧ told t m (Reg.MBX_VER c) (some 0) ∧
      fld (t.reg (Reg.MBX_VER c)) 31 20 = fld w 31 20 ∧ fld (t.reg (Reg.MBX_VER c)) 19 8 = fld (s.reg (Reg.MBX_VER c)) 19 8 ∧
      (s.mbxStamp c = true → fld w 31 24 = 2 → fld (t.reg (Reg.MBX_VER c)) 7 0 = 0x90 + fld w 23 20) ∧
      (s.mbxStamp c = false → fld w 31 24 = 2 → fld (s.reg (Reg.MBX_VER c)) 19 12 = 2 →
        fld (t.reg (Reg.MBX_VER c)) 7 0 = 0x90 + min (fld w 23 20) (fld (s.reg (Reg.MBX_VER c)) 11 8)) ∧
      (s.mbxStamp c = false → fld w 31 24 &&& fld (s.reg (Reg.MBX_VER c)) 19 12 = 0 → fld (t.reg (Reg.MBX_VER c)) 7 0 = 0)) ∧
    ∀ out, let q := fun (s : State) => if out then (s.chan c).outQ else (s.chan c).inQ
      (q s).writer ≠ none → ∃ t : State, exec (.mailboxMessageExpiry c out) s = .next t ∧ q t = { q s with writer := none, words := [] } ∧
        (if out then (t.chan c).inQ = (s.chan c).inQ else (t.chan c).outQ = (s.chan c).outQ) ∧
        fld (t.reg (Reg.MBX_COUNT c)) 15 0 = min (fld (s.reg (Reg.MBX_COUNT c)) 15 0 + 1) 65535 ∧ { t with mailbox := s.mailbox, regs := s.regs } = s)

/-! ### Upkeep of the light (chapters 06 and 14) -/

/-- R368 to R370, R374, R388, the Bellows: a spare that locks takes over at once without ticks and waits for a guard with them; one that does not lock
has failed; at a ramp's end the spare serves the position, or its comb does again; each legal BLW_CMD has its effect, one out of state is refused with
its reason. The choices of the model it rests on: log entries 54, 169, 170. -/
def Obligations.Bellows : Prop :=
  let may := fun (s : State) (m : Byte) => m.toNat = s.stokerId ∧ s.boot.input = true ∧ flag (s.reg Reg.BLW_CMD_STATUS) 31 = false
  let told := fun (t : State) (m : Byte) => t.out.head? = some (.bus m.toNat Reg.BLW_CMD (some 0))
  (∀ (b : Fin 2) (s : State), s.light.returning.get 0 b = 0 → s.spareState b = 1 →
    (∃ t : State, exec (.spareLock b) s = .next t ∧ t.spareState b = 2 ∧ t.sparePos b = s.sparePos b ∧ t.comb (6 * b + 5) = 2 ∧ t.mode = s.mode ∧
      (s.ticking = true → t.light = s.light) ∧
      (s.ticking = false → s.light.ramp.get 0 b = 0 → flag (s.reg Reg.BLW_CTRL) 0 = true → t.light.ramp.get 0 b = 1)) ∧
    ∃ t : State, exec (.spareLockTimeout b) s = .next t ∧ t.spareState b = 4 ∧ t.comb (6 * b + 5) = 5 ∧ flag (t.reg Reg.BLW_EVENTS) 5 = true ∧ t.light = s.light) ∧
  (∀ (b : Fin 2) (k : Fin 5) (s : State), s.light.returning.get 0 b = k.val + 1 → s.comb (6 * b + k) = 1 →
    (∃ t : State, exec (.spareLock b) s = .next t ∧ t.comb (6 * b + k) = 2 ∧ t.light.ramp.get 0 b = 2 ∧ t.reg Reg.BLW_STATUS = s.reg Reg.BLW_STATUS) ∧
    ∃ t : State, exec (.spareLockTimeout b) s = .next t ∧ t.comb (6 * b + k) = 4 ∧ t.light.returning.get 0 b = 0 ∧ t.reg Reg.BLW_CMD_STATUS = 0x20040000 ∧
      t.reg Reg.BLW_STATUS = s.reg Reg.BLW_STATUS) ∧
  (∀ (b : Fin 2) (k : Fin 5) (s : State), s.sparePos b = k.val →
    (s.light.ramp.get 0 b = 1 → ∃ t : State, exec (.handoverRampEnd b) s = .next t ∧ t.comb (6 * b + k) = 4 ∧ t.comb (6 * b + 5) = 3 ∧ t.spareState b = 3 ∧
      t.sparePos b = k.val ∧ t.light.ramp.get 0 b = 0 ∧ flag (t.reg Reg.BLW_EVENTS) 2 = true ∧
      fld (t.reg Reg.BLW_HANDOVERS) 15 0 = min (fld (s.reg Reg.BLW_HANDOVERS) 15 0 + 1) 65535 ∧
      (s.light.armed.get false b = true → t.reg Reg.BLW_CMD_STATUS = 0x40000000)) ∧
    (s.light.ramp.get 0 b = 2 → ∃ t : State, exec (.handoverRampEnd b) s = .next t ∧ t.comb (6 * b + k) = 3 ∧ t.comb (6 * b + 5) = 0 ∧ t.spareState b = 0 ∧
      t.light.ramp.get 0 b = 0 ∧ t.light.returning.get 0 b = 0 ∧ t.reg Reg.BLW_CMD_STATUS = 0x40000000 ∧
      fld (t.reg Reg.BLW_HANDOVERS) 31 16 = min (fld (s.reg Reg.BLW_HANDOVERS) 31 16 + 1) 65535)) ∧
  (∀ m (s : State), may s m →
    ((s.mode = .ready ∨ s.mode = .loaded) → ∃ t : State, exec (.reReference m) s = .next t ∧ told t m ∧ t.reg Reg.BLW_CMD_STATUS = 0x40000000 ∧
      ∀ c < 12, c % 6 ≠ 5 → s.comb (c / 6 * 6 + 5) ≠ 3 →
        if s.comb c = 3 then fld (t.reg (Reg.BLW_COMB c)) 15 0 = 0 ∧ t.comb c = 3 ∧
          fld (t.reg (Reg.BLW_REF c)) 15 0 = (fld (s.reg (Reg.BLW_REF c)) 15 0 + fld (s.reg (Reg.BLW_COMB c)) 15 0) % 65536
        else t.reg (Reg.BLW_COMB c) = s.reg (Reg.BLW_COMB c) ∧ t.reg (Reg.BLW_REF c) = s.reg (Reg.BLW_REF c)) ∧
    (s.mode = .running → ∃ t : State, exec (.reReference m) s = .next t ∧ told t m ∧ t.reg Reg.BLW_CMD_STATUS = 0x20020000 ∧
      ∀ c < 12, t.reg (Reg.BLW_COMB c) = s.reg (Reg.BLW_COMB c) ∧ t.reg (Reg.BLW_REF c) = s.reg (Reg.BLW_REF c)) ∧
    (∀ (b : Fin 2) (k : Fin 5), (s.mode = .ready ∨ s.mode = .loaded) → s.spareState b = 3 → s.sparePos b = k.val → s.comb (6 * b + k) = 4 →
      ∃ t : State, exec (.combReturn m b k) s = .next t ∧ told t m ∧ t.reg Reg.BLW_CMD_STATUS = 0x80000000 ∧ t.comb (6 * b + k) = 1 ∧
        t.light.returning.get 0 b = k.val + 1 ∧ t.spareState b = 3) ∧
    (∀ (b : Fin 2) (k : Fin 5), s.spareState b = 0 → s.comb (6 * b + k) = 3 →
      ∃ t : State, exec (.spareStart m b k) s = .next t ∧ told t m ∧ t.reg Reg.BLW_CMD_STATUS = 0x40000000 ∧ t.spareState b = 1 ∧ t.sparePos b = k.val ∧
        t.comb (6 * b + 5) = 1 ∧ t.comb (6 * b + k) = 3 ∧ flag (t.reg Reg.BLW_EVENTS) 1 = true) ∧
    (∀ (b : Fin 2) (k : Fin 5), s.spareState b = 2 → s.sparePos b = k.val → s.light.ramp.get 0 b = 0 →
      ∃ t : State, exec (.spareHandover m b k) s = .next t ∧ told t m ∧ t.reg Reg.BLW_CMD_STATUS = 0x80000000 ∧ t.light.armed.get false b = true ∧
        t.light.ramp.get 0 b = if s.ticking then 0 else 1)) ∧
  (∀ m (b : Fin 2) (k : Fin 5) (s : State), m.toNat = s.stokerId → s.boot.input = true → flag (s.reg Reg.BLW_CMD_STATUS) 31 = true →
    ∃ t : State, exec (.spareStart m b k) s = .next t ∧ told t m ∧ t.reg Reg.BLW_STATUS = s.reg Reg.BLW_STATUS ∧ t.light = s.light ∧
      flag (t.reg Reg.BLW_CMD_STATUS) 31 = true ∧ flag (t.reg Reg.BLW_CMD_STATUS) 29 = true ∧ fld (t.reg Reg.BLW_CMD_STATUS) 23 16 = 1)

/-- R184, R185, R379, R381 to R385, R389, lanes and calibration: a lattice lane moves to its free spare position and back; a heater moves by at most 4
codes, locks after three windows below the threshold and unlocks after ten above it, when a sum slice loses every path's cal_ok; a calibration is
taken in its legal states, measured twice, accepted when the measurements agree and the error ratio is met, and refused or rejected with its reason
otherwise. The choices of the model it rests on: log entries 53, 168, 169. -/
def Obligations.LanesAndCalibration : Prop :=
  let stoker := fun (s : State) (m : Byte) => m.toNat = s.stokerId ∧ s.boot.input = true
  let free := fun (s : State) (f x y : Nat) => x < 36 ∧ y < 36 ∧ x ≠ y ∧ f < 8 ∧ flag (s.reg Reg.HRT_STATUS) 27 = false ∧ s.sparePlace x y = 0 ∧
    s.laneState y (36 * f + x) = 0
  let moved := fun (t : State) (f x y : Nat) => t.laneState y (36 * f + x) = 1 ∧ t.sparePlace x y = 1 + 128 * f ∧ t.laneState y (288 + x) = 4
  (∀ (a : Access) v (s : State), stoker s a.master → a.addr.toNat = Reg.HRT_LANE_SWAP → a.size = 4 → fld v 29 28 = 0 → flag (s.reg Reg.HRT_SWAP_STATUS) 31 = false →
    s.hearth.moves = [] →
    (free s (fld v 27 24) (fld v 23 18) (fld v 17 12) → ∃ t : State, exec (.laneSwapToSpare a v) s = .next t ∧
      (s.ticking = false → moved t (fld v 27 24) (fld v 23 18) (fld v 17 12) ∧ t.reg Reg.HRT_SWAP_STATUS = 0x40000000) ∧
      (s.ticking = true → t.tbl = s.tbl ∧ t.reg Reg.HRT_SWAP_STATUS = 0x80000000 ∧
        t.hearth.moves = [⟨0, 0, fld v 27 24, fld v 23 18, fld v 17 12, fld v 6 0, false⟩])) ∧
    (fld v 27 24 < 8 → fld v 23 18 < 36 → fld v 17 12 < 36 → fld v 23 18 ≠ fld v 17 12 → flag (s.reg Reg.HRT_STATUS) 27 = false →
      s.sparePlace (fld v 23 18) (fld v 17 12) ≠ 0 →
      ∃ t : State, exec (.laneSwapToSpare a v) s = .next t ∧ t.tbl = s.tbl ∧ t.hearth = s.hearth ∧ t.reg Reg.HRT_SWAP_STATUS = 0x20020000) ∧
    (s.ticking = false → fld v 27 24 < 8 → fld v 23 18 < 36 → fld v 17 12 < 36 → fld v 23 18 ≠ fld v 17 12 →
      moved s (fld v 27 24) (fld v 23 18) (fld v 17 12) →
      ∃ t : State, exec (.laneSwapReturn a v) s = .next t ∧ t.laneState (fld v 17 12) (36 * fld v 27 24 + fld v 23 18) = 0 ∧
        t.sparePlace (fld v 23 18) (fld v 17 12) = 0 ∧ t.reg Reg.HRT_SWAP_STATUS = 0x40000000)) ∧
  (∀ (e : Fin 900) (x : BitVec 12) (move : Int) (s : State), s.loopRuns e = true →
    ∃ t : State, exec (.heaterLoopWindow e x move) s = .next t ∧
      (let k := tblKey 4 0 3 e
       fld (t.tblWord k) 11 0 = x.toNat ∧ (fld (t.tblWord k) 23 12 : Int) = clampInt 0 4095 (fld (s.tblWord k) 23 12 + clampInt (-4) 4 move) ∧
       (x.toNat < 256 → s.light.lockRun.get 0 e = 2 → flag (t.tblWord k) 31 = true) ∧
       (256 < x.toNat → s.light.lossRun.get 0 e = 9 → flag (t.tblWord k) 31 = false ∧
         (flag (s.tblWord k) 31 = true → 144 ≤ e.val → e.val < 180 →
           ∀ p < 16, ∀ c < 16, flag (t.tblWord (tblKey 2 p 2 (16 * (e.val - 144) + c))) 31 = false)) ∧
       (256 < x.toNat → s.light.lossRun.get 0 e = 9 → flag (s.tblWord k) 31 = true → s.hearth.moves = [] → flag (s.reg Reg.HRT_ERR_STATUS) 31 = false →
         ∀ q, 180 ≤ e.val → (elementLanes e).head? = some q → s.laneState q.1 q.2 = 0 → fld (t.reg Reg.HRT_ERR_STATUS) 7 0 = 9) ∧
       (x.toNat < 256 → s.light.lockRun.get 0 e < 2 → flag (t.tblWord k) 31 = flag (s.tblWord k) 31) ∧
       (256 < x.toNat → s.light.lossRun.get 0 e < 9 → flag (t.tblWord k) 31 = flag (s.tblWord k) 31))) ∧
  (∀ m v (s : State), stoker s m → s.light.req = none →
    (fld v 27 26 = 0 → s.calLegal 0 = true → s.hearth.moves = [] → free s (fld v 25 22) (fld v 21 16) (fld v 15 10) →
      ∃ t : State, ∃ w, exec (.laneCalibration m v) s = .next t ∧ t.out.head? = some (.bus m.toNat Reg.CAL_REQ (some 0)) ∧ t.light.req = some w ∧ fld w 30 28 = 0 ∧
        fld w 27 10 = fld v 27 10 ∧ t.light.first = none ∧ t.reg Reg.CAL_STATUS = (if s.ticking then 0x90000000 else 0xA0000000) ∧
        (s.ticking = false → moved t (fld v 25 22) (fld v 21 16) (fld v 15 10)) ∧ (s.ticking = true → t.tbl = s.tbl)) ∧
    (∀ c ∈ [(Instr.sumDelayCalibration m v, 1), (.lockThresholdCalibration m v, 2)],
      ((s.mode = .ready ∨ s.mode = .loaded ∨ s.mode = .faulted) → ∃ t : State, ∃ w, exec c.1 s = .next t ∧ t.light.req = some w ∧ fld w 30 28 = c.2 ∧
        t.reg Reg.CAL_STATUS = 0xA0000000 ∧ t.tbl = s.tbl) ∧
      (s.mode = .running → ∃ t : State, exec c.1 s = .next t ∧ t.light = s.light ∧ t.reg Reg.CAL_STATUS = 0x04090000 ∧
        fld (t.reg Reg.CAL_COUNTS) 31 16 = min (fld (s.reg Reg.CAL_COUNTS) 31 16 + 1) 65535))) ∧
  (∀ r (s : State) v, s.light.req = some v → (fld (s.reg Reg.CAL_STATUS) 30 28 = 2 ∨ fld (s.reg Reg.CAL_STATUS) 30 28 = 3) →
    let met := ∃ b < 2, s.light.met.get false b = true ∧ s.measFed v b = true
    let ended := fun (t : State) (reason : Nat) => t.light.req = none ∧
      t.reg Reg.CAL_STATUS = (if reason = 0 then 0x08000000 else BitVec.ofNat 32 (0x04000000 + reason * 2 ^ 16)) ∧
      (reason = 0 → fld (t.reg Reg.CAL_COUNTS) 15 0 = min (fld (s.reg Reg.CAL_COUNTS) 15 0 + 1) 65535) ∧
      (reason ≠ 0 → fld (t.reg Reg.CAL_COUNTS) 31 16 = min (fld (s.reg Reg.CAL_COUNTS) 31 16 + 1) 65535)
    let waits := fun (t : State) (reason : Nat) => t.light.result = some (reason, r) ∧ fld (t.reg Reg.CAL_STATUS) 30 28 = 4 ∧ t.tbl = s.tbl
    (¬met → s.light.first = none →
      ∃ t : State, exec (.calibrationMeasurementEnd r) s = .next t ∧ t.light.first = some r ∧ t.light.req = some v ∧ t.light.repeated = false ∧
        fld (t.reg Reg.CAL_STATUS) 30 28 = 3 ∧ t.tbl = s.tbl) ∧
    (∀ a, ¬met → s.light.first = some a →
      let reason := if fld v 30 28 ≠ 0 then (if (a.heater - r.heater).natAbs ≤ 1 then 0 else 4) else if !(s.measAgree a r) then 4
        else if a.serExp < fld (s.reg Reg.CAL_TOL) 7 0 ∨ r.serExp < fld (s.reg Reg.CAL_TOL) 7 0 then 5 else 0
      (fld v 30 28 = 0 → s.ticking = true → ∃ t : State, exec (.calibrationMeasurementEnd r) s = .next t ∧ waits t reason) ∧
      (fld v 30 28 ≠ 0 → ∃ t : State, exec (.calibrationMeasurementEnd r) s = .next t ∧ ended t reason) ∧
      (fld v 30 28 = 0 → s.ticking = false → fld v 27 26 = 0 → fld v 21 16 < 36 → fld v 15 10 < 36 → fld v 21 16 ≠ fld v 15 10 → fld v 25 22 < 8 →
        s.sparePlace (fld v 21 16) (fld v 15 10) = 1 + 128 * fld v 25 22 →
        ∃ t : State, exec (.calibrationMeasurementEnd r) s = .next t ∧ ended t reason ∧
          t.laneState (fld v 15 10) (36 * fld v 25 22 + fld v 21 16) = 0 ∧ t.sparePlace (fld v 21 16) (fld v 15 10) = 0 ∧
          (let trim := tblKey 4 (fld v 21 16) 1 (36 * fld v 25 22 + fld v 15 10)
           t.tblWord trim = if reason = 0 then BitVec.ofNat 32 (r.heater % 256).toNat else s.tblWord trim))) ∧
    (met → s.light.repeated = false →
      ∃ t : State, exec (.calibrationMeasurementEnd r) s = .next t ∧ t.light.repeated = true ∧ t.light.first = s.light.first ∧ { t with light := s.light } = s) ∧
    (met → s.light.repeated = true →
      (fld v 30 28 = 0 → s.ticking = true → ∃ t : State, exec (.calibrationMeasurementEnd r) s = .next t ∧ waits t 7) ∧
      ((fld v 30 28 ≠ 0 ∨ s.ticking = false) → ∃ t : State, exec (.calibrationMeasurementEnd r) s = .next t ∧ ended t 7)))

/-! ### Power and temperature (chapter 15) -/

/-- R368, R369, R392, R394 to R397, R399, R400, R402, R403, a housekeeping round: trusted readings become used values; 115 °C trips by level, two
neighbours that rise by 8 °C trip by rate; 107 °C begins the orderly stop with stage 2 on every die; 103 °C in a die's scope decides stage 2 for it; a
cool, steady round decides no stage; the governor's bucket fills and drains with g 64 while it holds and the fraction of R403 at zero; a second round
at or below the start level starts the bank's spare. A round above the budget counts towards the wear of R405: a second of it is 4,000 such rounds,
the model's reading. The choices of the model it rests on: log entries 57, 58, 59. -/
def Obligations.HousekeepingRounds : Prop :=
  let T := fun (x : HkSample) (n : Nat) => x.temps.getD n 0
  let quiet := fun (s : State) (x : HkSample) => s.boot.input = true ∧ s.thermal.heldReset = false ∧
    (∀ f ∈ x.fades, (-10 : Int) * fld (s.reg Reg.BLW_THRESH) 7 0 < f ∧ -300 < f) ∧ x.temps.length = 626 ∧
    (∀ n < 626, -320 ≤ T x n ∧ T x n ≤ 1600) ∧ ∀ n < 612, flag (s.reg (Reg.THM_SENSOR n)) 7 = false ∧ s.thermal.suspectRun.get 0 n < 2
  let rise := fun (s : State) (x : HkSample) (n : Nat) => if s.thermal.sampled then T x n - s.used n else 0
  let live := fun (s : State) => s.mode ≠ .tripped ∧ s.mode ≠ .off
  (∀ x (s : State), quiet s x → ∃ t : State, exec (.housekeepingRound x) s = .next t ∧ t.thermal.sampled = true ∧
    t.reg Reg.PWR_INPUT = BitVec.ofNat 32 (min x.inputW 65535 * 65536 + min x.inputCv 65535) ∧
    ∀ n < 612, t.used n = T x n ∧ fld (t.reg (Reg.THM_SENSOR n)) 19 8 = temp12 (T x n) ∧ flag (t.reg (Reg.THM_SENSOR n)) 7 = false) ∧
  (∀ x (s : State), quiet s x → live s → (∃ n < 612, 920 ≤ T x n) →
    ∃ t : State, exec (.housekeepingRound x) s = .next t ∧ t.mode = .tripped ∧ fld (t.reg Reg.THM_TRIP) 31 30 = 1 ∧ flag (t.reg Reg.THM_EVENTS) 6 = true ∧
      (let h := fld (t.reg Reg.THM_TRIP) 29 20
       h < 612 ∧ ∀ n < 612, T x n ≤ T x h) ∧
      ∀ k < 80, t.domain k = if s.tripKeeps k then s.domain k else 0) ∧
  (∀ x (s : State) a b, quiet s x → live s → (∀ n < 612, T x n < 920) → a < 612 → b ∈ neighbours a → 64 ≤ rise s x a → 64 ≤ rise s x b →
    ∃ t : State, exec (.housekeepingRound x) s = .next t ∧ t.mode = .tripped ∧ fld (t.reg Reg.THM_TRIP) 31 30 = 2 ∧ flag (t.reg Reg.THM_EVENTS) 7 = true) ∧
  (∀ x (s : State), quiet s x → (∀ n < 612, T x n < 920 ∧ rise s x n < 64) → flag (s.reg Reg.THM_STATUS) 6 = false →
    (s.mode = .running → (∃ n < 612, 856 ≤ T x n) →
      ∃ t : State, exec (.housekeepingRound x) s = .next t ∧ t.mode = .draining ∧ flag (t.reg Reg.THM_STATUS) 6 = true ∧ flag (t.reg Reg.THM_EVENTS) 5 = true ∧
        ∀ d < 16, t.thermal.decided.get 0 d = 11) ∧
    (∀ d < 16, live s → s.mode ≠ .banked → (∀ n < 612, T x n < 856) → (∃ n ∈ scopeSensors d, 824 ≤ T x n) →
      ∃ t : State, exec (.housekeepingRound x) s = .next t ∧ t.mode = s.mode ∧ t.thermal.decided.get 0 d = 9) ∧
    (live s → (∀ n < 612, T x n < 784 ∧ rise s x n < 24) → (∀ k < 17, s.thermal.rate1.get 0 k ≤ 1 ∧ s.thermal.rate2.get 0 k ≤ 1) →
      ∃ t : State, exec (.housekeepingRound x) s = .next t ∧ t.mode = s.mode ∧ ∀ d < 16, t.thermal.decided.get 0 d = 0)) ∧
  (∀ x (s : State), quiet s x →
    ∃ t : State, exec (.housekeepingRound x) s = .next t ∧
      t.thermal.peakRounds = s.thermal.peakRounds + if fld (s.reg Reg.PWR_BUDGET) 13 0 < x.inputW then 1 else 0) ∧
  (∀ x (s : State), quiet s x →
    let budget := fld (s.reg Reg.PWR_BUDGET) 13 0
    let b : Int := min 4000000 ((s.thermal.bucket : Int) + budget - x.inputW)
    let pc := (x.domsW.take 48).sum
    (0 < b → s.capped = false → ∃ t : State, exec (.housekeepingRound x) s = .next t ∧ (t.thermal.bucket : Int) = b ∧ fld (t.reg Reg.PWR_GOV) 30 24 = 64 ∧
      t.reg Reg.PWR_BUCKET = BitVec.ofNat 32 (b.toNat / 4) ∧ t.thermal.overdraft = s.thermal.overdraft) ∧
    (b ≤ 0 → 0 < pc → ∃ t : State, exec (.housekeepingRound x) s = .next t ∧ t.thermal.bucket = 0 ∧ t.reg Reg.PWR_BUCKET = 0 ∧
      (fld (t.reg Reg.PWR_GOV) 30 24 : Int) = clampInt 8 64 (((budget : Int) - x.inputW + pc) * fld (s.reg Reg.PWR_GOV) 30 24 / pc) ∧
      (t.thermal.overdraft : Int) = s.thermal.overdraft - b ∧ (b < 0 → flag (t.reg Reg.PWR_EVENTS) 0 = true))) ∧
  (∀ x (s : State) c, s.boot.input = true → s.thermal.heldReset = false → x.fades.length = 12 → c < 12 → c % 6 ≠ 5 → s.comb c = 3 → s.light.fadeRun.get 0 c = 1 →
    flag (s.reg Reg.BLW_CTRL) 0 = true → s.spareState (c / 6) = 0 →
    let start : Int := -10 * fld (s.reg Reg.BLW_THRESH) 7 0
    x.fades.getD c 0 ≤ start → -300 < x.fades.getD c 0 → (∀ j < 12, j ≠ c → start < x.fades.getD j 0 ∧ -300 < x.fades.getD j 0) →
    ∃ t : State, exec (.housekeepingRound x) s = .next t ∧ t.spareState (c / 6) = 1 ∧ t.sparePos (c / 6) = fld (s.reg (Reg.BLW_COMB c)) 28 26 ∧
      t.comb (c / 6 * 6 + 5) = 1 ∧ (fld (t.reg (Reg.BLW_COMB c)) 15 0 : Int) = x.fades.getD c 0 % 65536)

/-- R376, R397, R400, R401, R405, R406, R408, the other events of power and temperature: a decided stage takes force; a cool second counts in Tripped,
and the thirtieth restarts a Class S module; a second with input counts PWR_WEAR_ON, and 4,000 rounds above the budget one of PWR_WEAR_PEAK (the
model's count of them), which may set the cap; the entry to Banked ends with tile logic off, SRAM in retention, stacks in self-refresh and their
contents kept. The choices of the model it rests on: log entries 68, 117. -/
def Obligations.PowerEvents : Prop :=
  (∀ (d : Fin 16) (s : State), s.thermal.decided.get 0 d < 12 →
    ∃ t : State, exec (.damperStageChange d) s = .next t ∧ t.mode = s.mode ∧ t.tiles = s.tiles ∧ t.tick = s.tick ∧
      fld (t.reg (Reg.THM_DAMP d)) 31 30 = s.thermal.decided.get 0 d / 4 ∧ fld (t.reg (Reg.THM_DAMP d)) 29 28 = s.thermal.decided.get 0 d % 4 ∧
      (∀ k < 16, k ≠ d.val → t.reg (Reg.THM_DAMP k) = s.reg (Reg.THM_DAMP k)) ∧
      (∀ k < 16, fld (t.reg (Reg.THM_DAMP k)) 31 30 ≤ fld (t.reg Reg.THM_STATUS) 9 8) ∧
      ∃ k < 16, fld (t.reg (Reg.THM_DAMP k)) 31 30 = fld (t.reg Reg.THM_STATUS) 9 8) ∧
  (∀ (s : State), s.mode = .tripped → s.tmax < 560 →
    (s.classL = true ∨ fld (s.reg Reg.THM_TRIP) 15 0 < 29 →
      exec .coolSecond s = .next (s.setReg Reg.THM_TRIP (setFld (s.reg Reg.THM_TRIP) 15 0 (min (fld (s.reg Reg.THM_TRIP) 15 0 + 1) 65535)))) ∧
    (s.classL = false → 29 ≤ fld (s.reg Reg.THM_TRIP) 15 0 →
      ∃ t : State, exec .coolSecond s = .next t ∧ t.mode = .optionLoad ∧ fld (t.reg Reg.RST_LAST) 31 28 = 5 ∧ fld (t.reg Reg.RST_LAST) 27 26 = 0)) ∧
  (∀ (s : State), 560 ≤ s.tmax ∨ s.mode ≠ .tripped → exec .coolSecond s = .next s) ∧
  (∀ (s : State), s.boot.input = true → ∃ t : State, exec .wearSecond s = .next t ∧ { t with regs := s.regs, thermal := s.thermal } = s ∧
    (t.reg Reg.PWR_WEAR_ON).toNat = min ((s.reg Reg.PWR_WEAR_ON).toNat + 1) 0xFFFFFFFF ∧
    (if 4000 ≤ s.thermal.peakRounds then
      t.thermal = { s.thermal with peakRounds := s.thermal.peakRounds - 4000 } ∧
        (t.reg Reg.PWR_WEAR_PEAK).toNat = min ((s.reg Reg.PWR_WEAR_PEAK).toNat + 1) 0xFFFFFFFF
    else t.thermal = s.thermal ∧ t.reg Reg.PWR_WEAR_PEAK = s.reg Reg.PWR_WEAR_PEAK) ∧
    (s.capped = false → max (t.reg Reg.PWR_WEAR_ON).toNat 86400 < (t.reg Reg.PWR_WEAR_PEAK).toNat * 20 → flag (t.reg Reg.PWR_EVENTS) 3 = true)) ∧
  (∀ (s : State), s.boot.bankedFrom = some s.mode → s.mode = .ready ∨ s.mode = .loaded →
    ∃ t : State, exec .bankEntryEnd s = .next t ∧ t.mode = .banked ∧ t.tiles = s.tiles ∧ t.stackMem = s.stackMem ∧ t.boot = s.boot ∧
      (∀ d < 16, s.dieFenced d = false → t.domain (3 * d) = 0 ∧ t.domain (3 * d + 1) = 2 ∧ t.domain (3 * d + 2) = 0) ∧
      (∀ k, 48 ≤ k → k < 80 → t.domain k = s.domain k) ∧ (∀ m < 16, fld (t.reg (Reg.MEM_STATUS m)) 31 30 = 3) ∧
      (∀ p < 16, ∀ k < 36, ∀ c < 16, flag (t.tblWord (tblKey 2 p 2 (16 * k + c))) 31 = false) ∧ t.light.req = none ∧
      ∀ d < 16, t.thermal.decided.get 0 d = 0)

/-! ### Reset and release (chapter 16) -/

/-- R21, R307, R327, R386, R411 to R416, resets: of the sources that fire together each is counted, and the lowest-coded of those that ask for the
acting scope is recorded with scope, unit and detail; a brown-out's reset that waits acts once the module's state allows; a reset within a release
restarts that release, Cold before Warm; a Cold or Warm reset empties tiles, memory stacks, mailboxes, sessions and queue pairs and starts its
release, Cold at step 1 with every register but the kept ones at its reset value, Warm at step 4 with working calibration and options kept; a Die
reset clears its unit alone; a Job reset clears job state, keeps fences and memory stacks, and enters Ready. The choices of the model it rests on: log
entries 67, 72, 73, 74, 129, 134, 172. -/
def Obligations.Resets : Prop :=
  let fired := fun (source : Fin 8) (detail : BitVec 16) (also : List Firing) =>
    (source.val, detail.toNat) :: (also.filter (fun f => f.same)).map (fun f => (f.source.val, f.detail.toNat))
  let recorded := fun (s t : State) (source : Fin 8) (detail : BitVec 16) (also : List Firing) (scope unit : Nat) =>
    (∃ m d, (m, d) ∈ fired source detail also ∧ (∀ c ∈ fired source detail also, m ≤ c.1) ∧
      t.reg Reg.RST_LAST = BitVec.ofNat 32 (m * 2 ^ 28 + scope * 2 ^ 26 + unit * 2 ^ 20 + d)) ∧
      (t.reg Reg.RST_TOTAL).toNat = min ((s.reg Reg.RST_TOTAL).toNat + 1) 0xFFFFFFFF ∧
      (let half := fun (x : State) n => if n % 2 = 1 then fld (x.reg (Reg.RST_COUNT (n / 2))) 31 16 else fld (x.reg (Reg.RST_COUNT (n / 2))) 15 0
       ∀ n < 8, half t n = min (half s n + (source.val :: also.map (fun f => f.source.val)).count n) 65535)
  let empty := fun (t : State) => t.tiles = [] ∧ t.stackMem = [] ∧ t.mailbox = [] ∧ t.sessions = [] ∧ t.qps = [] ∧ t.routers = [] ∧ t.flights = [] ∧
    t.ports = [] ∧ t.hearth.light = []
  let asked := fun (s : State) (source scope unit : Nat) => s.boot.input = true ∧ s.mode ≠ .off ∧ (source = 4 → (scope, unit) ∈ s.boot.asked)
  let early := fun (s : State) (source : Fin 8) (detail : BitVec 16) => source = 1 ∧ detail.toNat ∈ s.boot.waiting
  (∀ (source : Fin 8) (detail : BitVec 16) also (s : State), asked s source 0 0 →
    ∃ t : State, exec (.coldReset source detail also) s = .next t ∧ t.mode = .optionLoad ∧ recorded s t source detail also 0 0 ∧ empty t ∧ t.tbl = [] ∧
      t.boot.active = true ∧ t.boot.scope = 0 ∧ t.boot.step = 1 ∧ t.boot.flash = s.boot.flash ∧ t.pending = s.pending ∧
      (∀ a, inRanges keptAlways a = false → a ≠ Reg.CFG_CMD_STATUS → t.reg a = regReset a) ∧
      (∀ a ∈ [Reg.PWR_WEAR_ON, Reg.PWR_WEAR_PEAK, Reg.GLV_TAMPER, Reg.GLV_ROOTS], t.reg a = s.reg a) ∧
      (s.boot.revert = none → t.reg Reg.CFG_SELECT = s.reg Reg.CFG_SELECT) ∧
      ∀ b, s.boot.revert = some b → flag (t.reg Reg.CFG_SELECT) 31 = true ∧ flag (t.reg Reg.CFG_SELECT) 30 = b ∧ t.fails b = 0 ∧ t.boot.revert = none) ∧
  (∀ (source : Fin 8) (detail : BitVec 16) also (s : State), asked s source 1 0 → (s.boot.active = false ∨ s.boot.scope ≠ 0) →
    (early s source detail → s.mode ≠ .faulted → exec (.warmReset source detail also) s = .next s) ∧
    (¬(early s source detail) ∨ s.mode = .faulted →
    ∃ t : State, exec (.warmReset source detail also) s = .next t ∧ t.mode = .boot ∧ recorded s t source detail also 1 0 ∧ empty t ∧
      t.boot.active = true ∧ t.boot.scope = 1 ∧ t.boot.step = 4 ∧ t.boot.options = s.boot.options ∧ t.boot.flash = s.boot.flash ∧
      (∀ k, isCalibration k = true → t.tblWord k = s.tblWord k) ∧ (∀ w < 32, t.reg (Reg.GLV_MEAS w) = 0) ∧ t.clock.get 0 36 = s.clock.get 0 36 ∧
      ∀ a ∈ [Reg.PWR_WEAR_ON, Reg.PWR_WEAR_PEAK, Reg.CFG_SELECT, Reg.GLV_TAMPER, Reg.GLV_ROOTS, Reg.CFG_STATUS], t.reg a = s.reg a)) ∧
  (∀ (u : Fin 36) (source : Fin 8) (detail : BitVec 16) also (s : State), asked s source 2 u → s.boot.active = false →
    (early s source detail → s.mode ≠ .ready → s.mode ≠ .faulted → exec (.dieReset u source detail also) s = .next s) ∧
    (¬(early s source detail) ∨ s.mode = .ready ∨ s.mode = .faulted →
    ∃ t : State, exec (.dieReset u source detail also) s = .next t ∧ t.mode = s.mode ∧ recorded s t source detail also 2 u ∧ u.val ∈ t.boot.units ∧
      (∀ a, (unitRange u).1 ≤ a → a < (unitRange u).2 → t.reg a = regReset a) ∧ (∀ k ∈ unitDomains u, t.domain k = 1) ∧
      (∀ k, t.tile k = if u.val < 16 ∧ keyDie k = u then Tile.reset else s.tile k) ∧
      (∀ m x, (t.stack m).byte x = if u.val = 16 + m ∧ m < 16 ∧ x < 0xB00000000 then 0 else (s.stack m).byte x) ∧
      t.port u = HPort.reset ∧ (s.calTouches u = false → ∀ p, p ≠ u.val → t.port p = s.port p) ∧
      (∀ c, t.chan c = if u.val < 16 ∧ c = u.val then MbxChan.reset else s.chan c) ∧
      t.sessions = (if 32 ≤ u.val ∧ u.val < 34 then s.sessions.filter (fun x => x.port != u.val - 32) else s.sessions))) ∧
  (∀ (source : Fin 8) (detail : BitVec 16) also (s : State), s.boot.active = true → s.boot.scope = 0 → asked s source 1 0 → ¬(early s source detail) →
    ∃ t : State, exec (.warmReset source detail also) s = .next t ∧ t.mode = .optionLoad ∧ t.boot.step = 1 ∧ recorded s t source detail also 0 0) ∧
  (∀ (u : Fin 36) (source : Fin 8) (detail : BitVec 16) also (s : State), s.boot.active = true → asked s source 2 u → ¬(early s source detail) →
    ∃ t : State, exec (.dieReset u source detail also) s = .next t ∧ t.boot.units = [] ∧
      if s.boot.scope = 0 then t.mode = .optionLoad ∧ t.boot.step = 1 else t.mode = .boot ∧ t.boot.step = 4) ∧
  (∀ (s : State), s.mode = .faulted → s.boot.input = true → (3, 0) ∈ s.boot.asked → SMap.sorted s.regs = true →
    ∃ t : State, exec .jobReset s = .next t ∧ t.mode = .ready ∧ recorded s t 4 0 [] 3 0 ∧ t.tiles = [] ∧ t.routers = [] ∧ t.flights = [] ∧ t.ports = [] ∧
      t.stackMem = s.stackMem ∧ t.mailbox = s.mailbox ∧
      t.reg Reg.TCK_IMAGE_STATUS = 0 ∧ t.reg Reg.TCK_PERIOD = 0 ∧ (flag (s.reg Reg.TCK_CTRL) 31 = false → t.seq = 0) ∧
      (∀ d < 16, t.reg (Reg.TIL_DIE_FENCE d) = s.reg (Reg.TIL_DIE_FENCE d) ∧ ∀ r < 64, t.reg (Reg.TIL_FENCE d r) = s.reg (Reg.TIL_FENCE d r)) ∧
      ∀ k, jobTable k = true → t.tblWord k = tblReset k)

/-- R360, R391, R411, R412, R417, R418, R423 to R425, R436, release and its failures: the option loader picks the pinned set, else the higher version,
else the ROM's options; a set that verifies is measured into M0, one that does not is out, and with none left the module is Faulted; every step leaves
its work; the boot limit, the watchdog and brown-outs act by table. The choices of the model it rests on: log entries 37, 70, 75. -/
def Obligations.Release : Prop :=
  let at3 := fun (s : State) => s.boot.active = true ∧ s.boot.scope = 0 ∧ s.boot.step = 3
  let zeros : List Byte := List.replicate 32 0
  (∀ (s : State), at3 s →
    (∀ p, flag (s.reg Reg.CFG_SELECT) 31 = true → flag (s.reg Reg.CFG_SELECT) 30 = p → s.eligible p = true →
      ∃ t : State, exec .optionLoad s = .next t ∧ t.boot.loaded = true ∧ t.boot.options = s.boot.optionBytes p ∧ flag (t.reg Reg.CFG_STATUS) 31 = p ∧
        fld (t.reg Reg.CFG_STATUS) 28 27 = 1 ∧ flag (t.reg Reg.CFG_STATUS) 29 = false) ∧
    (flag (s.reg Reg.CFG_SELECT) 31 = false → s.eligible false = true → s.eligible true = true →
      let r := decide (s.boot.head false 8 4 < s.boot.head true 8 4)
      ∃ t : State, exec .optionLoad s = .next t ∧ t.boot.options = s.boot.optionBytes r ∧ flag (t.reg Reg.CFG_STATUS) 31 = r ∧ fld (t.reg Reg.CFG_STATUS) 28 27 = 0) ∧
    (s.eligible false = false → s.eligible true = false →
      ∃ t : State, exec .optionLoad s = .next t ∧ t.boot.loaded = true ∧ t.boot.options = romOptions ∧ fld (t.reg Reg.CFG_STATUS) 28 27 = 3 ∧
        flag (t.reg Reg.CFG_STATUS) 29 = true ∧ t.mode = s.mode)) ∧
  (∀ (s : State) r, s.boot.active = true → s.boot.step = 4 → s.boot.checked = false → s.setInUse = some r →
    (∀ k, s.setRoot r = some k → (∀ w < 8, s.reg (Reg.GLV_MEAS w) = 0) →
      ∃ t : State, exec .setSignatureVerify s = .next t ∧ t.boot.checked = true ∧ t.mode = s.mode ∧ flag (t.reg Reg.CFG_STATUS) 30 = true ∧
        fld (t.reg Reg.GLV_STATUS) 28 28 = k ∧ t.glove.setDigest = sha256 (s.boot.signed r) ∧
        t.measure 0 = sha256 (sha256 (zeros ++ sha256 (s.boot.signed r)) ++ (BitVec.ofNat 8 k :: List.replicate 31 0))) ∧
    (s.setRoot r = none → s.eligible (!r) = true → ∃ t : State, exec .setSignatureVerify s = .next t ∧ t.mode = s.mode ∧ t.setInUse = some (!r) ∧
      t.sigBad r = true ∧ t.boot.checked = false ∧ t.boot.options = s.boot.optionBytes (!r) ∧ flag (t.reg Reg.GLV_EVENTS) 2 = true) ∧
    (s.setRoot r = none → s.eligible (!r) = false → ∃ t : State, exec .setSignatureVerify s = .next t ∧ t.mode = .faulted ∧ t.boot.faulted = true ∧ t.boot.active = false)) ∧
  (∀ ok (bad : List (Fin 16 × Fin 64 × Fin 50)) (s : State), s.boot.active = true → s.boot.held = false → s.boot.scope ≤ 1 →
    (s.boot.step = 3 → s.boot.loaded = true) → (s.boot.step = 4 → s.boot.checked = true) →
    (s.boot.step < 8 → ∃ t : State, exec (.releaseStepEnd ok bad) s = .next t ∧ t.boot = { s.boot with step := s.boot.step + 1 } ∧
      fld (t.reg Reg.RST_STATUS) 31 28 = s.boot.step ∧ t.mode = (if s.boot.step = 3 then .boot else s.mode) ∧
      (s.boot.step = 2 → fld (t.reg Reg.GLV_STATUS) 31 30 = if ok then 2 else 1) ∧
      (s.boot.step = 3 → t.reg (Reg.CFG_OPTION 0) = optionWord s.boot.options 0 ∧ t.binding 16 = bindWord s.boot.options 16) ∧
      (s.boot.step = 4 → t.reg Reg.TCK_STOKER = if ok then 0x40000000 else 0xA0000000) ∧
      (s.boot.step = 6 → ∀ c < 12, t.comb c = if c % 6 = 5 then 0 else 3) ∧
      (s.boot.step = 7 → ∀ m < 16, fld (t.reg (Reg.MEM_STATUS m)) 31 30 = 2)) ∧
    (8 ≤ s.boot.step → ∃ t : State, exec (.releaseStepEnd ok bad) s = .next t ∧ t.mode = .ready ∧ t.boot.active = false ∧
      (s.boot.step = 8 → fld (t.reg Reg.RST_STATUS) 31 28 = 8 ∧
      (∀ r, s.setInUse = some r → t.fails r = 0) ∧
      ∀ d : Fin 16,
        let cols := fun (r : Fin 64) => (List.finRange 50).filter (fun c => decide ((d, r, c) ∈ bad))
        if ∃ r, 2 < (cols r).length then flag (t.reg (Reg.TIL_DIE_FENCE d)) 31 = true
        else flag (t.reg (Reg.TIL_DIE_FENCE d)) 31 = false ∧
          ∀ r : Fin 64, (t.reg (Reg.TIL_FENCE d r)).toNat = (match cols r with
            | [] => 0
            | [a] => 2 ^ 31 + a.val * 2 ^ 24
            | a :: b :: _ => 2 ^ 31 + a.val * 2 ^ 24 + 2 ^ 23 + b.val * 2 ^ 16) ∧
          (cols r = [] → ∀ l < 48, t.physCol d r l = if l < 24 then l else l + 1)))) ∧
  (∀ ok (bad : List (Fin 16 × Fin 64 × Fin 50)) (s : State) u us, s.boot.active = false → s.boot.held = false → s.boot.units = u :: us →
    ∃ t : State, exec (.releaseStepEnd ok bad) s = .next t ∧ t.boot.units = us.filter (fun x => x != u) ∧ t.mode = s.mode ∧
      (16 ≤ u → u < 32 → fld (t.reg (Reg.MEM_STATUS (u - 16))) 31 30 = 2)) ∧
  (∀ also (s : State), s.boot.active = true → 4 ≤ s.boot.step → s.mode ≠ .off → s.boot.revert = none →
    ∃ t : State, exec (.bootLimitExpiry also) s = .next t ∧ t.mode = .optionLoad ∧ t.boot.step = 1 ∧
    ((∀ f ∈ also, f.same = true → 3 ≤ f.source.val) → fld (t.reg Reg.RST_LAST) 31 28 = 3) ∧ ∀ r, s.setInUse = some r → t.fails r = min 3 (s.fails r + 1) ∧ (2 ≤ s.fails r → t.rejected r = true)) ∧
  (∀ (s : State), (s.mode = .boot → ∃ t : State, exec .stokerWatchdogExpiry s = .next t ∧ t.mode = .optionLoad ∧ fld (t.reg Reg.RST_LAST) 31 28 = 3) ∧
    (s.stokerRuns = true → flag (s.reg Reg.TCK_STOKER) 31 = false → s.domain 79 ≠ 3 →
      ∃ t : State, exec .stokerWatchdogExpiry s = .next t ∧ t.mode = s.mode ∧ flag (t.reg Reg.TCK_STOKER) 31 = true ∧ t.domain 79 = 1 ∧ t.tiles = s.tiles) ∧
    (s.stokerRuns = true → flag (s.reg Reg.TCK_STOKER) 31 = true → s.boot.active = false →
      ∃ t : State, exec .stokerWatchdogExpiry s = .next t ∧ t.mode = .boot ∧ fld (t.reg Reg.RST_LAST) 31 26 = 3 * 4 + 1)) ∧
  (∀ (k : Fin 80) (s : State), s.mode ≠ .off → s.domain k = 1 ∨ s.domain k = 2 → s.boot.active = false →
    (k.val < 64 → s.ticking = false → ∃ t : State, exec (.brownOut k) s = .next t ∧ t.mode = s.mode ∧ flag (t.reg Reg.PWR_EVENTS) 2 = true ∧
      (let u := if k.val < 48 then k.val / 3 else k.val - 32
       u ∈ t.boot.units ∧ t.reg Reg.RST_LAST = BitVec.ofNat 32 (0x18000000 + u * 2 ^ 20 + k.val))) ∧
    (k.val < 64 → s.mode = .draining → ∃ t : State, exec (.brownOut k) s = .next t ∧ t.mode = .draining ∧ t.domain k = 3 ∧ k.val ∈ t.boot.waiting ∧ t.boot.units = s.boot.units) ∧
    (48 ≤ k.val → k.val < 64 → s.mode = .running → ∃ t : State, exec (.brownOut k) s = .next t ∧ t.mode = .faulted ∧ k.val ∈ t.boot.waiting) ∧
    (64 ≤ k.val → k.val < 72 → ∃ t : State, exec (.brownOut k) s = .next t ∧ t.mode = s.mode ∧ flag (t.reg Reg.PWR_EVENTS) 2 = true ∧
      (let u := 32 + (k.val - 64) / 2
       u ∈ t.boot.units ∧ t.reg Reg.RST_LAST = BitVec.ofNat 32 (0x18000000 + u * 2 ^ 20 + k.val))) ∧
    (72 ≤ k.val → k.val < 78 → s.ticking = false → ∃ t : State, exec (.brownOut k) s = .next t ∧ t.mode = .boot ∧ fld (t.reg Reg.RST_LAST) 31 26 = 5) ∧
    (72 ≤ k.val → k.val < 78 → s.ticking = true → ∃ t : State, exec (.brownOut k) s = .next t ∧ t.mode = .faulted ∧ k.val ∈ t.boot.waiting) ∧
    (k.val = 78 → s.stokerRuns = true → flag (s.reg Reg.TCK_STOKER) 31 = false → s.domain 79 ≠ 3 → ∃ t : State, exec (.brownOut k) s = .next t ∧ t.mode = s.mode ∧
      flag (t.reg Reg.TCK_STOKER) 31 = true ∧ t.domain 78 = 3 ∧ t.domain 79 = 1))

/-! ### The configuration flash, the Glovebox and the slot (chapters 16, 17 and 19) -/

/-- R421, R424, R427, R429, the flash: an erase or a check is taken where the region may be changed and the state allows it, an erase marking its
region invalid at once; its end erases the region alone, or reports what the check found; a programmed word only clears bits and moves the address on;
the set in use is refused. The choices of the model it rests on: log entries 77, 93. -/
def Obligations.ConfigurationFlash : Prop :=
  let region := fun (s : State) => flag (s.reg Reg.CFG_FLASH_ADDR) 31
  let may := fun (s : State) (m : Byte) => m.toNat = s.stokerId ∧ s.boot.input = true ∧ s.mode = .ready ∧ flag (s.reg Reg.CFG_CTRL) 0 = true ∧
    s.setInUse ≠ some (region s)
  (∀ m (s : State), may s m → s.boot.cmd = none →
    (∃ t : State, exec (.eraseRegion m) s = .next t ∧ t.out.head? = some (.bus m.toNat Reg.CFG_CMD (some 0)) ∧ t.boot.cmd = some (0, region s) ∧
      t.reg Reg.CFG_CMD_STATUS = 0x80000000 ∧ t.boot.valid (region s) = false ∧ t.boot.flash = s.boot.flash ∧
      t.boot.valid (!(region s)) = s.boot.valid (!(region s))) ∧
    (∃ t : State, exec (.checkRegion m) s = .next t ∧ t.boot = { s.boot with cmd := some (1, region s) } ∧ t.reg Reg.CFG_CMD_STATUS = 0x80000000)) ∧
  (∀ m (s : State), may s m → s.boot.cmd ≠ none → ∃ t : State, exec (.eraseRegion m) s = .next t ∧ t.boot = s.boot ∧ flag (t.reg Reg.CFG_CMD_STATUS) 29 = true ∧
    fld (t.reg Reg.CFG_CMD_STATUS) 23 16 = 1) ∧
  (∀ m w (s : State), m.toNat = s.stokerId → s.boot.input = true → s.setInUse = some (region s) →
    (∃ t : State, exec (.eraseRegion m) s = .next t ∧ t.out.head? = some (.bus m.toNat Reg.CFG_CMD none) ∧ t.boot = s.boot) ∧
    ∃ t : State, exec (.cfgFlashDataWrite m w) s = .next t ∧ t.out.head? = some (.bus m.toNat Reg.CFG_FLASH_DATA none) ∧ t.boot = s.boot ∧
      t.reg Reg.CFG_FLASH_ADDR = s.reg Reg.CFG_FLASH_ADDR) ∧
  (∀ m w (s : State), may s m → flag (s.reg Reg.CFG_CMD_STATUS) 31 = false →
    ∃ t : State, exec (.cfgFlashDataWrite m w) s = .next t ∧ t.out.head? = some (.bus m.toNat Reg.CFG_FLASH_DATA (some 0)) ∧
      (let o := fld (s.reg Reg.CFG_FLASH_ADDR) 24 0 / 4 * 4
       let base := regionBase (region s) + o
       (∀ x, t.boot.byte x = if base ≤ x ∧ x < base + 4 then s.boot.byte x &&& w.extractLsb' (8 * (x - base)) 8 else s.boot.byte x) ∧
       fld (t.reg Reg.CFG_FLASH_ADDR) 24 0 = (o + 4) % 2 ^ 25 ∧ region t = region s)) ∧
  (∀ (s : State) r, s.boot.cmd = some (0, r) →
    (∃ t : State, exec (.cfgCmdEnd true) s = .next t ∧ t.boot.cmd = none ∧ t.reg Reg.CFG_CMD_STATUS = 0x40000000 ∧ t.boot.valid r = false ∧
      ∀ x, t.boot.byte x = if regionBase r ≤ x ∧ x < regionBase r + 0x2000000 then 0xFF else s.boot.byte x) ∧
    ∃ t : State, exec (.cfgCmdEnd false) s = .next t ∧ t.boot = { s.boot with cmd := none } ∧ t.reg Reg.CFG_CMD_STATUS = 0x10070000) ∧
  (∀ (s : State) r, s.boot.cmd = some (1, r) →
    (s.boot.headerOk r = false → ∃ t : State, exec (.cfgCmdEnd true) s = .next t ∧ t.boot = { s.boot with cmd := none } ∧ t.reg Reg.CFG_CMD_STATUS = 0x10040000) ∧
    (s.boot.headerOk r = true → s.boot.blockOk r = false → ∃ t : State, exec (.cfgCmdEnd true) s = .next t ∧ t.reg Reg.CFG_CMD_STATUS = 0x10050000) ∧
    (s.boot.headerOk r = true → s.boot.blockOk r = true → s.setRoot r = none →
      ∃ t : State, exec (.cfgCmdEnd true) s = .next t ∧ t.reg Reg.CFG_CMD_STATUS = 0x10060000 ∧ flag (t.reg Reg.GLV_EVENTS) 2 = true) ∧
    (s.boot.headerOk r = true → s.boot.blockOk r = true → s.setRoot r ≠ none →
      ∃ t : State, exec (.cfgCmdEnd true) s = .next t ∧ t.reg Reg.CFG_CMD_STATUS = 0x40000000 ∧ t.eligible r = true ∧ t.fails r = 0 ∧
        flag (t.reg Reg.CFG_SELECT) 31 = false ∧ t.boot.flash = s.boot.flash))

/-- R432 to R434, R436 to R439, R441, the Glovebox: each action is taken in its states and ends with its result; an owner-root record that is good
programs its slot and may become active; M3 is extended with the eight words written; tamper zeroises the seed and fires a Cold reset; a failed test
leaves nothing verifying; the oldest quote is signed and sent. The choices of the model it rests on: log entries 13, 79, 80, 81, 129. -/
def Obligations.Glovebox : Prop :=
  let stoker := fun (s : State) (m : Byte) => m.toNat = s.stokerId ∧ s.boot.input = true
  let started := fun (s t : State) (m : Byte) (a : Nat) => t.out.head? = some (.bus m.toNat Reg.GLV_CMD (some 0)) ∧
    t.glove = { s.glove with cmd := some a } ∧ t.reg Reg.GLV_CMD_STATUS = 0x80000000
  let ended := fun (t : State) (w : Word) => t.glove.cmd = none ∧ t.reg Reg.GLV_CMD_STATUS = w ∧ flag (t.reg Reg.GLV_CMD) 31 = false
  (∀ m (s : State), stoker s m → s.glove.cmd = none →
    (s.served = true → ∃ t : State, exec (.selfTests m) s = .next t ∧ started s t m 0) ∧
    (s.mode = .ready → ∃ t : State, exec (.ownerRootRecord m) s = .next t ∧ started s t m 1) ∧
    (s.mode = .running → ∃ t : State, exec (.ownerRootRecord m) s = .next t ∧ t.glove = s.glove ∧ t.reg Reg.GLV_CMD_STATUS = 0x20020000) ∧
    (∃ t : State, exec (.extendM3 m) s = .next t ∧ started s t m 3) ∧
    ∀ (w : Fin 8) v, ∃ t : State, exec (.glvExtDataWrite m w v) s = .next t ∧ t.out.head? = some (.bus m.toNat (Reg.GLV_EXT_DATA w) (some 0)) ∧
      t.reg (Reg.GLV_EXT_DATA w) = v ∧ t.glove = s.glove ∧ ∀ k < 8, k ≠ w.val → t.reg (Reg.GLV_EXT_DATA k) = s.reg (Reg.GLV_EXT_DATA k)) ∧
  (∀ m (s : State), m.toNat = 0x04 → s.boot.input = true → (∃ t : State, exec (.extendM3 m) s = .next t ∧ t.out.head? = some (.bus 4 Reg.GLV_CMD none) ∧ t.glove = s.glove) ∧
    ∀ (w : Fin 8) v, ∃ t : State, exec (.glvExtDataWrite m w v) s = .next t ∧ t.out.head? = some (.bus 4 (Reg.GLV_EXT_DATA w) none) ∧
      t.reg (Reg.GLV_EXT_DATA w) = s.reg (Reg.GLV_EXT_DATA w)) ∧
  (∀ (s : State), s.glove.cmd = some 0 →
    (∃ t : State, exec (.glvCmdEnd true) s = .next t ∧ ended t 0x40000000 ∧ flag (t.reg Reg.GLV_STATUS) 31 = true ∧ flag (t.reg Reg.GLV_STATUS) 30 = flag (s.reg Reg.GLV_STATUS) 30) ∧
    ∃ t : State, exec (.glvCmdEnd false) s = .next t ∧ ended t 0x10000000 ∧ flag (t.reg Reg.GLV_STATUS) 30 = true ∧ flag (t.reg Reg.GLV_EVENTS) 3 = true ∧
      (∀ r, t.setRoot r = none) ∧ ∀ b g, t.recordVerifies b g = false) ∧
  (∀ (s : State) p, s.glove.cmd = some 3 → ∃ t : State, exec (.glvCmdEnd p) s = .next t ∧ ended t 0x40000000 ∧ t.measure 3 = sha256 (s.measure 3 ++ s.extData) ∧
    ∀ i < 3, t.measure i = s.measure i) ∧
  (∀ (s : State) p, s.glove.cmd = some 1 →
    let o := fld (s.reg Reg.GLV_CMD_OFF) 28 0 * 128
    let body := s.stage o 80
    let slot := (body.getD 6 0).toNat
    let good := o + 7936 ≤ 2 ^ 36 ∧ recordOk body = true ∧ s.recordVerifies body (s.stage (o + 80) 7856) = true
    (o + 7936 ≤ 2 ^ 36 → recordOk body = false → ∃ t : State, exec (.glvCmdEnd p) s = .next t ∧ ended t 0x10030000 ∧ t.reg Reg.GLV_ROOTS = s.reg Reg.GLV_ROOTS) ∧
    (recordOk body = true → o + 7936 ≤ 2 ^ 36 → s.recordVerifies body (s.stage (o + 80) 7856) = false →
      ∃ t : State, exec (.glvCmdEnd p) s = .next t ∧ ended t 0x10040000 ∧ t.reg Reg.GLV_ROOTS = s.reg Reg.GLV_ROOTS ∧ flag (t.reg Reg.GLV_EVENTS) 2 = true) ∧
    (good → body.getD 5 0 = 0 → flag (s.reg Reg.GLV_ROOTS) (28 + slot) = true →
      ∃ t : State, exec (.glvCmdEnd p) s = .next t ∧ ended t 0x20050000 ∧ t.reg Reg.GLV_ROOTS = s.reg Reg.GLV_ROOTS) ∧
    (good → body.getD 5 0 = 0 → flag (s.reg Reg.GLV_ROOTS) (28 + slot) = false → flag (s.reg Reg.GLV_ROOTS) (24 + slot) = false →
      (body.drop 8).take 32 = s.identityBytes →
      ∃ t : State, exec (.glvCmdEnd p) s = .next t ∧ ended t 0x40000000 ∧ flag (t.reg Reg.GLV_ROOTS) (28 + slot) = true ∧
        fld (t.reg Reg.GLV_ROOTS) 27 24 = fld (s.reg Reg.GLV_ROOTS) 27 24 ∧
        (∀ w < 8, t.reg (Reg.GLV_OWNER_ROOT (8 * slot + w)) = BitVec.ofNat 32 (leNat ((body.drop (40 + 4 * w)).take 4))) ∧
        ∃ k, t.activeRoot = some k ∧ slot ≤ k ∧ flag (t.reg Reg.GLV_ROOTS) (28 + k) = true ∧ flag (t.reg Reg.GLV_ROOTS) (24 + k) = false ∧
          ∀ j < 4, k < j → flag (t.reg Reg.GLV_ROOTS) (28 + j) = false ∨ flag (t.reg Reg.GLV_ROOTS) (24 + j) = true)) ∧
  (∀ (c : BitVec 4) (s : State), 1 ≤ c.toNat → c.toNat ≤ 5 →
    (s.boot.input = true → s.mode ≠ .off →
      ∃ t : State, exec (.tamper c) s = .next t ∧ t.mode = .optionLoad ∧ fld (t.reg Reg.RST_LAST) 31 28 = 6 ∧ t.identity = Config.zeroKey ∧ t.glove.cmd = none ∧
        t.glove.quotes = [] ∧ flag (t.reg Reg.GLV_EVENTS) 4 = true ∧ (s.glove.cmd ≠ none → t.reg Reg.GLV_CMD_STATUS = 0x10070000) ∧
        fld (t.reg Reg.GLV_TAMPER) 31 28 = c.toNat ∧ flag (t.reg Reg.GLV_TAMPER) 27 = false ∧
        fld (t.reg Reg.GLV_TAMPER) 15 0 = min (fld (s.reg Reg.GLV_TAMPER) 15 0 + 1) 65535) ∧
    (s.boot.input = false → s.boot.vbak = true → ∃ t : State, exec (.tamper c) s = .next t ∧ t.mode = s.mode ∧ t.identity = Config.zeroKey ∧
      flag (t.reg Reg.GLV_TAMPER) 27 = true ∧ t.reg Reg.RST_LAST = s.reg Reg.RST_LAST)) ∧
  (∀ (s : State), s.mode ≠ .off → ∃ t : State, exec .entropyHealthFail s = .next t ∧ { t with regs := s.regs } = s ∧ flag (t.reg Reg.GLV_STATUS) 30 = true ∧
    flag (t.reg Reg.GLV_EVENTS) 3 = true ∧ ∀ r, t.setRoot r = none) ∧
  (∀ (s : State) r n rest x, s.glove.quotes = (r, n) :: rest → rest.length < 8 → s.sessionOf r = some x →
    (fld (s.reg Reg.GLV_STATUS) 30 29 = 0 → ∃ t : State, exec .quoteSigned s = .next t ∧ t.glove.quotes = rest ∧ fld (t.reg Reg.GLV_STATUS) 23 21 = rest.length ∧
      answered t r 0x80 0 (s.quoteBody n ++ (Config.slhSign (s.quoteBody n) ++ List.replicate 17088 0).take 17088)) ∧
    (fld (s.reg Reg.GLV_STATUS) 30 29 ≠ 0 → ∃ t : State, exec .quoteSigned s = .next t ∧ t.glove.quotes = rest ∧ answered t r 0x80 8 [] ∧
      flag (t.reg Reg.GLV_EVENTS) 0 = true))

/-- R20, R21, R296, R314, R401, R405, R411, R417, R464 to R469, R474, the slot and the cages: input and VBAK together power the module on; loss of the
input leaves only the backup domain, flash and roots; the first VBAK clears the backup domain; MOD_RESET_N low resets and holds, or waits in a hot
Class L trip; the identity map is read from its offset on; an optic beyond its power is off and its link down. The choices of the model it rests on:
log entries 65, 83, 84. -/
def Obligations.SlotEvents : Prop :=
  (∀ (s : State), s.boot.input = false → s.mode = .off →
    (s.boot.vbak = true → ∃ t : State, exec .inputQualified s = .next t ∧ t.mode = .optionLoad ∧ t.boot.input = true ∧ t.boot.active = true ∧ t.boot.step = 1 ∧
      fld (t.reg Reg.RST_LAST) 31 26 = 0) ∧
    (s.boot.vbak = false → exec .inputQualified s = .next { s with boot := { s.boot with input := true } })) ∧
  (∀ (s : State), s.boot.input = true → exec .inputQualified s = .next s ∧
    ∃ t : State, exec .inputLost s = .next t ∧ t.mode = .off ∧ t.boot.input = false ∧ t.boot.flash = s.boot.flash ∧ t.tiles = [] ∧ t.stackMem = [] ∧ t.sessions = [] ∧
      (∀ a, inRanges keptOff a = true → t.reg a = s.reg a) ∧ (∀ a, inRanges keptOff a = false → a ≠ Reg.GLV_STATUS → t.reg a = regReset a) ∧
      (t.boot.vbakSeen = true → s.boot.vbak = true)) ∧
  (∀ (s : State), s.boot.vbak = false → s.boot.input = false →
    ∃ t : State, exec .vbakApplied s = .next t ∧ t.mode = s.mode ∧ t.boot.vbak = true ∧ t.boot.vbakSeen = true ∧
      ∀ a, inRanges backupRanges a = true → t.reg a = if s.boot.vbakSeen then s.reg a else regReset a) ∧
  (∀ (s : State), exec .vbakLost s = .next { s with boot := { s.boot with vbak := false, vbakSeen := s.boot.vbakSeen && s.boot.input } }) ∧
  (∀ (s : State), exec (.modResetN false) s = .next { s with boot := { s.boot with held := false } } ∧
    (s.mode ≠ .off → (s.mode ≠ .tripped ∨ s.classL = false ∨ ∀ n < 612, s.used n < 560) → ∃ t : State, exec (.modResetN true) s = .next t ∧ t.mode = .optionLoad ∧ t.boot.held = true ∧
      fld (t.reg Reg.RST_LAST) 31 28 = 2) ∧
    (s.mode = .tripped → s.classL = true → (∃ n < 612, 560 ≤ s.used n) → ∃ t : State, exec (.modResetN true) s = .next t ∧ t.mode = .tripped ∧
      t.thermal.heldReset = true ∧ t.reg Reg.RST_LAST = s.reg Reg.RST_LAST)) ∧
  (∀ n (off : Byte) (s : State), (s.boot.vbak || s.boot.input) = true →
    (∃ t : State, exec (.i2cRead n) s = .next t ∧ { t with out := s.out } = s ∧
      t.out = ((List.range n).map (fun i => OutMsg.i2c (s.slotByte ((s.host.i2c + i) % 64)))).reverse ++ s.out) ∧
    exec (.i2cOffsetWrite off) s = .next { s with host := { s.host with i2c := off.toNat % 64 } }) ∧
  (∀ s : State, s.slotByte 0 = 0x45 ∧ s.slotByte 1 = 0x4D ∧ s.slotByte 2 = 0x59 ∧ (s.boot.input = true → s.slotByte 36 = BitVec.ofNat 8 s.mode.code) ∧
    (s.boot.input = false → s.slotByte 36 = 0xFF)) ∧
  (∀ (p : Fin 2) (s : State), (s.caged p = true → ∃ t : State, exec (.opticOverpower p) s = .next t ∧ t.host.opticOff.get false p = true ∧ t.caged p = false ∧
      fld (t.reg (Reg.HST_LINK p)) 31 30 = 0) ∧
    (fld (s.reg (Reg.HST_LINK p)) 31 30 ≠ 0 → ∃ t : State, exec (.hostLinkDown p) s = .next t ∧ { t with regs := s.regs } = s ∧
      fld (t.reg (Reg.HST_LINK p)) 31 29 = 0 ∧ fld (t.reg (Reg.HST_LINK p)) 15 0 = min (fld (s.reg (Reg.HST_LINK p)) 15 0 + 1) 65535) ∧
    (s.mode ≠ .tripped → s.caged p = true → flag (s.reg (Reg.HST_CTRL p)) 0 = true →
      ∃ t : State, exec (.hostLinkUp p) s = .next t ∧ { t with regs := s.regs } = s ∧ fld (t.reg (Reg.HST_LINK p)) 31 30 = 2 ∧ flag (t.reg (Reg.HST_LINK p)) 29 = true))

/-! ### The control space (chapter 18) -/

/-- R9 to R13, R234, R443 to R453, the control space: a listed register comes to hold what its access codes say; a lock stays until reset and guards
the RWL registers of its block; a critical pair is stored by two complementary halves of one master; a wrong size or address, a missing permission and
a unit that is down are bus errors with their reasons, and change nothing else; a table word is read through its block's pair; a time's high half is
latched by its low half; a pending value expires; a pair whose halves disagree resets the module; an access without an answer is an error. The choices
of the model it rests on: log entries 76, 86, 87, 90, 91, 92. -/
def Obligations.ControlSpace : Prop :=
  let told := fun (t : State) (a : Access) (x : Option Word) => t.out.head? = some (.bus a.master.toNat a.addr.toNat x)
  let refused := fun (s t : State) (a : Access) (write : Bool) (reason : Nat) => told t a none ∧
    { t with regs := s.regs, out := s.out, sessions := s.sessions } = s ∧ flag (t.reg Reg.CAP_EVENTS) 3 = true ∧
    (flag (s.reg Reg.CAP_EVENTS) 3 = true → flag (t.reg Reg.CAP_EVENTS) 2 = true ∧ t.reg Reg.CAP_ERR_INFO = s.reg Reg.CAP_ERR_INFO) ∧
    (flag (s.reg Reg.CAP_EVENTS) 3 = false → t.reg Reg.CAP_ERR_ADDR_LO = BitVec.ofNat 32 a.addr.toNat ∧
      t.reg Reg.CAP_ERR_INFO = BitVec.ofNat 32 (a.master.toNat * 2 ^ 24 + reason * 2 ^ 16 + (if write then 2 ^ 15 else 0) + a.addr.toNat / 2 ^ 32)) ∧
    ∀ x, x ≠ Reg.CAP_EVENTS → x ≠ Reg.CAP_ERR_ADDR_LO → x ≠ Reg.CAP_ERR_INFO → t.reg x = s.reg x
  let row := fun (s : State) (a : Access) (w : Word) (b : Block) (off : Nat) (r : RegRow) (k : Nat) (hi : Bool) =>
    a.size = 4 ∧ a.addr.toNat % 4 = 0 ∧ blockOf a.addr.toNat = some (b, off) ∧ mbxAt b off = none ∧ s.boot.input = true ∧
      s.mayWrite a.master.toNat b off w = true ∧ s.unitUp b = true ∧ notThere b off = false ∧ findRow (blockRows b) off = some (r, k, hi) ∧
      (∀ p, tblRegs b = some p → a.addr.toNat ≠ p.2 ∧ a.addr.toNat ≠ p.2 + 4)
  let quiet := fun (b : Block) (off : Nat) => b = .thm ∨ b = .pwr ∨ b = .emb ∨ (b = .rst ∧ off ≠ 0x024) ∨ (b = .hrt ∧ off ≠ 0x004 ∧ off ≠ 0x010 ∧ off ≠ 0x050) ∨
    (∃ m, b = .mem m) ∨ (∃ d, b = .die d ∧ off ≠ 0x010) ∨ (∃ i, b = .io i ∧ off ≠ 0x004 ∧ off ≠ 0x034 ∧ (off < 0x100 ∨ 0x130 ≤ off))
  (∀ (r : RegRow) (old w : Word) (j : Fin 32), let n := (r.next old w).getLsbD j
    (r.w1c.getLsbD j = true → w.getLsbD j = true → n = false) ∧
    (r.w1c.getLsbD j = false → (r.rw ||| r.rwl ||| r.wo).getLsbD j = true → r.w1s.getLsbD j = false → n = w.getLsbD j) ∧
    (r.w1c.getLsbD j = false → (r.rw ||| r.rwl ||| r.wo).getLsbD j = false → r.w1s.getLsbD j = true → n = (old.getLsbD j || w.getLsbD j)) ∧
    ((r.rw ||| r.rwl ||| r.wo ||| r.w1s ||| r.w1c).getLsbD j = false → n = old.getLsbD j)) ∧
  (∀ a v (s : State) b off r k, row s a v b off r k false → r.rwc = 0 → (r.rwl ≠ 0 → s.locked b = false) → s.ownRule b off v (r.next (s.reg a.addr.toNat) v) = false →
    (quiet b off → ∃ t : State, exec (.registerWrite a v) s = .next t ∧ told t a (some 0) ∧ t.reg a.addr.toNat = r.next (s.reg a.addr.toNat) v ∧
      (∀ x, x ≠ a.addr.toNat → t.reg x = s.reg x) ∧ { t with regs := s.regs, out := s.out, tblMaster := s.tblMaster, rwc := s.rwc } = s) ∧
    (lockReg b = some a.addr.toNat → flag v 31 = true → ∃ t : State, exec (.lockWrite a v) s = .next t ∧ told t a (some 0) ∧ flag (t.reg a.addr.toNat) 31 = true ∧
      t.locked b = true)) ∧
  (∀ a v (s : State) b off r k, row s a v b off r k false → r.rwc = 0 → r.rwl ≠ 0 → s.locked b = true →
    ∃ t : State, exec (.registerWrite a v) s = .next t ∧ refused s t a true 5) ∧
  (∀ a v (s : State) b off r k, row s a v b off r k false → r.rwc = 0 → lockReg b = some a.addr.toNat → flag (s.reg a.addr.toNat) 31 = true →
    ∃ t : State, exec (.lockWrite a v) s = .next t ∧ flag (t.reg a.addr.toNat) 31 = true) ∧
  (∀ a v (s : State), (a.size ≠ 4 ∨ a.addr.toNat % 4 ≠ 0 → ∃ t : State, exec (.registerWrite a v) s = .next t ∧ refused s t a true 2) ∧
    (a.size = 4 → a.addr.toNat % 4 = 0 → blockOf a.addr.toNat = none → ∃ t : State, exec (.registerWrite a v) s = .next t ∧ refused s t a true 1) ∧
    (∀ b off, a.size = 4 → a.addr.toNat % 4 = 0 → blockOf a.addr.toNat = some (b, off) → mbxAt b off = none → s.boot.input = true →
      (s.mayWrite a.master.toNat b off v = false → ∃ t : State, exec (.registerWrite a v) s = .next t ∧ refused s t a true 3) ∧
      (s.mayWrite a.master.toNat b off v = true → s.unitUp b = false → ∃ t : State, exec (.registerWrite a v) s = .next t ∧ refused s t a true 4))) ∧
  (∀ a v (s : State) b off r k, row s a v b off r k false → r.rwc ≠ 0 → (∀ p ∈ s.rwc, p.addr = a.addr.toNat → p.master = a.master) →
    ∃ t : State, exec (.rwcLowWrite a v) s = .next t ∧ told t a (some 0) ∧ { t with out := s.out, rwc := s.rwc } = s ∧ ⟨a.addr.toNat, v, a.master⟩ ∈ t.rwc) ∧
  (∀ a v (s : State) b off r k p, row s a v b off r k true → r.rwc ≠ 0 → s.rwc.find? (fun q => q.addr == a.addr.toNat - 4) = some p →
    (p.master = a.master → v = ~~~p.value → shadowedReg b (off - 4) = false → a.addr.toNat - 4 ≠ Reg.HRT_BAY_MAP_1 →
      ∃ t : State, exec (.rwcHighWrite a v) s = .next t ∧ told t a (some 0) ∧ t.reg (a.addr.toNat - 4) = p.value &&& r.rwc ∧
        (∀ q ∈ t.rwc, q.addr ≠ a.addr.toNat - 4) ∧ ∀ x, x ≠ a.addr.toNat - 4 → t.reg x = s.reg x) ∧
    (p.master = a.master → v ≠ ~~~p.value → ∃ t : State, exec (.rwcHighWrite a v) s = .next t ∧ refused s t a true 6) ∧
    (p.master ≠ a.master → ∃ t : State, exec (.rwcHighWrite a v) s = .next t ∧ refused s t a true 7)) ∧
  (∀ (x : BitVec 40) (s : State), (∃ p ∈ s.rwc, p.addr = x.toNat) → ∃ t : State, exec (.rwcPendingExpiry x) s = .next t ∧ t.rwc = s.rwc.filter (fun p => p.addr != x.toNat) ∧
    flag (t.reg Reg.CAP_EVENTS) 1 = true ∧ { t with rwc := s.rwc, regs := s.regs } = s) ∧
  (∀ (m : Byte) b v (s : State) addr data, m.toNat = s.stokerId → s.boot.input = true → s.unitUp (tblBlock b) = true → tblRegs (tblBlock b) = some (addr, data) →
    (∃ t : State, exec (.tblAddrWrite m b v) s = .next t ∧ t.out.head? = some (.bus m.toNat addr (some 0)) ∧ t.tblMaster.get 0 addr = m ∧
      (∀ p ∈ t.rwc, p.addr ≠ data) ∧ tblPlace (tblBlock b) (t.reg addr) = tblPlace (tblBlock b) v ∧ flag (t.reg addr) 31 = flag v 31) ∧
    (∀ p, s.tblMaster.get 0 addr = m → tblPlace (tblBlock b) (s.reg addr) = some p → s.portPowered p = true →
      (∃ t : State, exec (.tblDataRead m b false) s = .next t ∧ t.out.head? = some (.bus m.toNat data (some (s.tblValue p).1)) ∧
        t.reg addr = bumpIndex (tblBlock b) (s.reg addr) ∧ t.tbl = s.tbl) ∧
      ∃ t : State, exec (.tblDataRead m b true) s = .next t ∧ t.out.head? = some (.bus m.toNat (data + 4) (some (~~~(s.tblValue p).1))) ∧ t.regs = s.regs) ∧
    (s.tblMaster.get 0 addr ≠ m → ∃ t : State, exec (.tblDataRead m b false) s = .next t ∧ t.out.head? = some (.bus m.toNat data none) ∧
      t.reg addr = s.reg addr)) ∧
  (∀ (a : Access) (s : State) lo hi v, a.master.toNat = s.stokerId → s.boot.input = true → a.size = 4 → a.addr.toNat = lo →
    ((lo, hi, v) = (Reg.TCK_TIME_LO, Reg.TCK_TIME_HI, s.timeNs 36) ∨ (lo, hi, v) = (Reg.TCK_BEACON_LO, Reg.TCK_BEACON_HI, s.reg64 Reg.TCK_BEACON_LO Reg.TCK_BEACON_HI) ∨
      ∃ i < 37, (lo, hi, v) = (Reg.TCK_DIE_TIME_LO i, Reg.TCK_DIE_TIME_HI i, s.timeNs i)) →
    ∃ t : State, exec (.timeLoRead a) s = .next t ∧ told t a (some (BitVec.ofNat 32 v)) ∧ (t.ctlRead a.master hi 4).1 = some (BitVec.ofNat 32 (v / 2 ^ 32)) ∧
      { t with out := s.out, hiLatch := s.hiLatch } = s) ∧
  (∀ (a : Access) w took (s : State) (u : State), s.ctlWrite a.master a.addr.toNat a.size w = (true, u) →
    ∃ t : State, exec (.controlAccessTimeout a (some w) took) s = .next t ∧ told t a none ∧ flag (t.reg Reg.CAP_EVENTS) 0 = true ∧
      { t with out := s.out, regs := s.regs, sessions := s.sessions } = { (if took then u else s) with out := s.out, regs := s.regs, sessions := s.sessions } ∧
      ∀ x, x ≠ Reg.CAP_EVENTS → x ≠ Reg.CAP_ERR_ADDR_LO → x ≠ Reg.CAP_ERR_INFO → t.reg x = (if took then u else s).reg x) ∧
  (∀ (base : BitVec 40) (s : State), exec (.criticalPairSweep base none) s = .next s ∧
    ∀ bad : BitVec 40, s.mode ≠ .off → s.boot.active = false → s.pairAt base.toNat bad.toNat = true →
      ∃ t : State, exec (.criticalPairSweep base (some bad)) s = .next t ∧ t.mode = .boot ∧ fld (t.reg Reg.RST_LAST) 31 26 = 7 * 4 + 1 ∧
        t.reg Reg.CAP_ERR_ADDR_LO = BitVec.ofNat 32 bad.toNat)

/-- R148, R155, R173, R211 to R213, R226, R258, R260, R272, R287, R404, R428, registers with a command of their own, written by the Stoker in control:
a time step moves the master; a reset is asked for where its scope is legal; the tick's source and period change only while no tick runs, the period
setting guard and budget by R212; the input budget stays in range; the fabric lock needs agreeing tables; a port disabled goes off; ready waits for a
beacon while ticks run, and adopts at once otherwise. The choices of the model it rests on: log entry 94. -/
def Obligations.CommandRegisters : Prop :=
  let stoker := fun (s : State) (m : Byte) => m.toNat = s.stokerId ∧ s.boot.input = true
  let told := fun (t : State) (m : Byte) (a : Nat) (x : Option Word) => t.out.head? = some (.bus m.toNat a x)
  let step := fun (s : State) (v : Word) => (((v ++ s.reg Reg.TCK_TIME_STEP_LO : BitVec 64)).toInt : Int)
  (∀ a v (s : State), stoker s a.master → a.addr.toNat = Reg.TCK_TIME_STEP_HI → a.size = 4 →
    (s.ticking = false → ∃ t : State, exec (.timeStep a v) s = .next t ∧ told t a.master Reg.TCK_TIME_STEP_HI (some 0) ∧
      ((t.clock.get 0 36 : Nat) : Int) = (((s.clock.get 0 36 : Nat) : Int) + step s v * 65536) % 2 ^ 80 ∧ (∀ u, u ≠ 36 → t.clock.get 0 u = s.clock.get 0 u) ∧
      flag (t.reg Reg.TCK_EVENTS) 1 = true) ∧
    (s.ticking = true → ∃ t : State, exec (.timeStep a v) s = .next t ∧ told t a.master Reg.TCK_TIME_STEP_HI none ∧ t.clock = s.clock)) ∧
  (∀ a v (s : State), stoker s a.master → a.addr.toNat = Reg.RST_REQ → a.size = 4 → flag v 31 = true → (fld v 27 26 = 2 → fld v 25 20 ≤ 35) →
    (s.resetLegal (fld v 27 26) = true → ∃ t : State, exec (.rstReqWrite a v) s = .next t ∧ told t a.master Reg.RST_REQ (some 0) ∧ t.reg Reg.RST_REQ = 0 ∧
      t.boot = { s.boot with asked := s.boot.asked ++ [(fld v 27 26, fld v 25 20)] } ∧ t.mode = s.mode) ∧
    (s.resetLegal (fld v 27 26) = false → ∃ t : State, exec (.rstReqWrite a v) s = .next t ∧ told t a.master Reg.RST_REQ none ∧ t.boot = s.boot)) ∧
  (∀ m v (s : State), stoker s m →
    (s.ticking = false → s.locked .tck = false → fld v 17 16 ≠ 3 → 1 ≤ fld v 7 0 → fld v 7 0 ≤ 10 →
      ∃ t : State, exec (.tckSrcWrite m v) s = .next t ∧ told t m Reg.TCK_SRC (some 0) ∧ t.source = fld v 17 16 ∧ fld (t.reg Reg.TCK_SRC) 7 0 = fld v 7 0 ∧
        t.tick.misses = 0 ∧ t.tick.srcLost = false) ∧
    (s.ticking = true → ∃ t : State, exec (.tckSrcWrite m v) s = .next t ∧ told t m Reg.TCK_SRC none ∧ t.tick = s.tick ∧ t.reg Reg.TCK_SRC = s.reg Reg.TCK_SRC) ∧
    (let p := fld v 19 0
     (s.ticking = false → 500 ≤ p → p ≤ 1000000 → ∃ t : State, exec (.tckPeriodWrite m v) s = .next t ∧ told t m Reg.TCK_PERIOD (some 0) ∧
       (t.reg Reg.TCK_PERIOD).toNat = p ∧ (t.reg Reg.TCK_GUARD).toNat = max 32000 (25 * p) ∧
       (t.reg Reg.TCK_BUDGET).toNat = 1600 * p - max 32000 (25 * p) ∧
       (t.reg Reg.TCK_GUARD_OFF).toNat = (1600 * p - max 32000 (25 * p)) * 5 / 8 / 10 * 10) ∧
     (s.ticking = true ∨ p < 500 ∨ 1000000 < p → ∃ t : State, exec (.tckPeriodWrite m v) s = .next t ∧ told t m Reg.TCK_PERIOD none ∧
       t.reg Reg.TCK_PERIOD = s.reg Reg.TCK_PERIOD ∧ t.reg Reg.TCK_BUDGET = s.reg Reg.TCK_BUDGET)) ∧
    (let w := fld v 13 0
     (s.budgetRefused w = false → ∃ t : State, exec (.pwrBudgetWrite m v) s = .next t ∧ told t m Reg.PWR_BUDGET (some 0) ∧ fld (t.reg Reg.PWR_BUDGET) 13 0 = w) ∧
     (w < 2000 ∨ 8000 < w → ∃ t : State, exec (.pwrBudgetWrite m v) s = .next t ∧ told t m Reg.PWR_BUDGET none ∧ t.reg Reg.PWR_BUDGET = s.reg Reg.PWR_BUDGET))) ∧
  (∀ m (i : Fin 2) v (s : State), stoker s m → s.unitUp (.io (2 + i.val)) = true → flag v 31 = true →
    (s.fabricAgrees = true → ∃ t : State, exec (.fabLockWrite m i v) s = .next t ∧ told t m (Reg.FAB_CTRL (2 + i)) (some 0) ∧ flag (t.reg (Reg.FAB_CTRL (2 + i))) 31 = true ∧
      t.tbl = s.tbl ∧ ∀ f : Fin 6, f.val % 2 = i.val → flag (s.reg (Reg.FAB_PORT_CTRL (fabIo f) (f / 2))) 31 = true →
        fld (s.reg (portStatus f)) 31 29 = 0 → fld (t.reg (portStatus f)) 31 29 = 1) ∧
    (s.fabricAgrees = false → ∃ t : State, exec (.fabLockWrite m i v) s = .next t ∧ told t m (Reg.FAB_CTRL (2 + i)) none ∧
      t.reg (Reg.FAB_CTRL (2 + i)) = s.reg (Reg.FAB_CTRL (2 + i)))) ∧
  (∀ m (f : Fin 6) v (s : State), stoker s m → s.unitUp (.io (fabIo f)) = true →
    (flag v 31 = false → ∃ t : State, exec (.portRetrain m f v) s = .next t ∧ fld (t.reg (portStatus f)) 31 29 = 0 ∧ flag (t.reg (Reg.FAB_PORT_CTRL (fabIo f) (f / 2))) 31 = false ∧
      ∀ g : Fin 6, g ≠ f → t.reg (portStatus g) = s.reg (portStatus g)) ∧
    (flag v 31 = true → flag v 30 = true → s.linkUp f = true → ∃ t : State, exec (.portRetrain m f v) s = .next t ∧ fld (t.reg (portStatus f)) 31 29 = 4 ∧
      flag (t.reg (Reg.FAB_PORT_CTRL (fabIo f) (f / 2))) 30 = false ∧ (t.fport f).replay = []) ∧
    (flag v 31 = true → flag v 30 = false → flag (s.reg (Reg.FAB_CTRL (fabIo f))) 31 = true → fld (s.reg (portStatus f)) 31 29 = 0 →
      ∃ t : State, exec (.portRetrain m f v) s = .next t ∧ fld (t.reg (portStatus f)) 31 29 = 1)) ∧
  (∀ m v (s : State), stoker s m → flag v 0 = true →
    (∀ d : Fin 16, s.unitUp (.die d.val) = true →
      (s.ticking = true → ∃ t : State, exec (.mshShadowReady m d v) s = .next t ∧ flag (t.reg (Reg.MSH_SHADOW d)) 0 = true ∧ t.tbl = s.tbl ∧
        ∀ r < 64, t.reg (Reg.TIL_FENCE d r) = s.reg (Reg.TIL_FENCE d r)) ∧
      (s.ticking = false → s.shadowMapsOk d = true → ∃ t : State, exec (.mshShadowReady m d v) s = .next t ∧ flag (t.reg (Reg.MSH_SHADOW d)) 0 = false ∧
        (∀ r < 64, t.reg (Reg.TIL_FENCE d r) = s.shadow (Reg.TIL_FENCE d r)) ∧
        ∀ r < 64, ∀ c < 50, ∀ i < 32, t.tblWord (tblKey 0 (posKey d r c) 2 i) = s.tblShadowWord (tblKey 0 (posKey d r c) 2 i))) ∧
    (bayMapOk s.shadow = true →
      (s.ticking = true → ∃ t : State, exec (.hrtShadowReady m v) s = .next t ∧ flag (t.reg Reg.HRT_SHADOW) 0 = true ∧ t.tbl = s.tbl) ∧
      (s.ticking = false → ∃ t : State, exec (.hrtShadowReady m v) s = .next t ∧ flag (t.reg Reg.HRT_SHADOW) 0 = false ∧
        ∀ p < 36, ∀ i < 4096, t.tblWord (tblKey 1 p 1 i) = s.tblShadowWord (tblKey 1 p 1 i))) ∧
    (bayMapOk s.shadow = false → ∃ t : State, exec (.hrtShadowReady m v) s = .next t ∧ told t m Reg.HRT_SHADOW none ∧ t.tbl = s.tbl))

/-! ### The block as a whole -/

/-- DESIGN CHOICE (the spec has no queue of commands; notes/assumptions say so): a step runs the command at the front of the queue on the state with
the queue's rest; with no command waiting one 0.625 ns period passes, in which the module time counters that run advance by their rate and nothing but
clocks and the two counts of milliseconds changes (R217, R224). The choices of the model it rests on: log entries 1, 2, 116. -/
def Obligations.StepRunsCommand : Prop :=
  (∀ (c : Instr) (is : List Instr) (s : State), s.pending = c :: is → step s = exec c { s with pending := is }) ∧
  ∀ (s : State), s.pending = [] → ∃ t : State, step s = .next t ∧
    { t with clock := s.clock, slewRest := s.slewRest, regs := s.regs } = s ∧
    (∀ a, a ≠ Reg.CLK_HOLD_MS → a ≠ Reg.TCK_STOKER → t.reg a = s.reg a) ∧
    ∀ u < 37, let units := fun (x : State) => x.clock.get 0 u * 1000000000 + x.slewRest.get 0 u
      (s.counts u = false → units t = units s) ∧
      (s.counts u = true → s.slewRest.get 0 u < 1000000000 → -1000000000 ≤ s.slew.get 0 u → s.clock.get 0 u + 90000 < 2 ^ 80 → s.slew.get 0 u ≤ 1000000000 →
        (units t : Int) = units s + 40960 * (1000000000 + s.slew.get 0 u))

/-- Every row of the table runs: in every state, a command answers a next state, never a fault or a refusal. The choices of the model it rests on: log
entries 5, 32, 119. -/
def Obligations.NoStop : Prop := ∀ (i : Instr) (s : State), ∃ t : State, exec i s = .next t

/-- R58, R59, R64, R67, R69, R71, R74, R78, R83, R86, R91, R93, R97: the instruction word of every tile instruction, with every value of every field,
decodes to that instruction with those fields; a word of another class or function decodes to none. -/
def Obligations.TileWordsDecode : Prop :=
  (∀ r ∈ tileCodes, ∀ (u : Issue) (f : Fields), decodeTileWord u (tileWord r.1 r.2.1 f) = some (r.2.2 u f)) ∧
  ∀ (u : Issue) (w : DWord), definedCode (wordClass w) (wordFunction w) = false → decodeTileWord u w = none

/-- The queue is first in, first out, and the block never adds to it: whatever a step runs, what waits afterwards is what waited behind the front. The
choices of the model it rests on: log entry 1. -/
def Obligations.QueueFirstInFirstOut : Prop := ∀ (s t : State), step s = .next t → t.pending = s.pending.tail

/-- Every step keeps every memory in canonical form: tile SRAM, memory stacks and flash, with addresses strictly rising and no byte listed that an
unlisted address reads as. The choices of the model it rests on: log entries 10, 11. -/
def Obligations.MemoriesStayCanonical : Prop := ∀ (s t : State), s.memoriesWf = true → step s = .next t → t.memoriesWf = true

/-- R11, R20, R31, R414, the block at reset: Off, no command waiting, every memory empty and in canonical form, s0 zero and p0 one in every thread,
and the registers at the values of their tables, here the budget, the tick's source, the Bellows start level and the MHP port. The choices of the
model it rests on: log entries 9, 10, 11, 31. -/
def Obligations.ResetState : Prop :=
  State.reset.mode = .off ∧ State.reset.pending = [] ∧ State.reset.memoriesWf = true ∧ State.reset.sessions = [] ∧ State.reset.qps = [] ∧
    (∀ k n, ((State.reset.tile k).thread n).rs 0 = 0 ∧ ((State.reset.tile k).thread n).rp 0 = true) ∧ (∀ k x, (State.reset.tile k).byte x = 0) ∧
    (∀ m x, (State.reset.stack m).byte x = 0) ∧ (∀ x, State.reset.boot.byte x = 0xFF) ∧
    State.reset.reg Reg.PWR_BUDGET = 8000 ∧ State.reset.reg Reg.TCK_SRC = 5 ∧ fld (State.reset.reg Reg.BLW_THRESH) 7 0 = 15 ∧
    State.reset.reg (Reg.HST_MHP_PORT 0) = 0xB798 ∧ State.reset.seq = 0 ∧ State.reset.reg Reg.RST_LAST = 0
end

