-- ==== Sys2Proof/Laws/Sparse.lean ====
section
/-! SUPPORT. The laws of sparse storage: what a read gives after a write, and that every operation keeps the canonical form. -/

namespace Sys2Proof.Machine

@[simp] theorem SMap.get_nil {α : Type} (d : α) (k : Nat) : SMap.get d ([] : SMap α) k = d := rfl

@[simp] theorem SMap.get_cons {α : Type} (d : α) (j : Nat) (v : α) (m : SMap α) (k : Nat) :
    SMap.get d ((j, v) :: m) k = if j = k then v else SMap.get d m k := rfl

/-- A read after `put`. -/
theorem SMap.get_put {α : Type} (d : α) (m : SMap α) (k j : Nat) (v : α) :
    SMap.get d (SMap.put m k v) j = if j = k then v else SMap.get d m j := by
  induction m with
  | nil => by_cases h : k = j <;> simp [SMap.put, h, eq_comm]
  | cons e m ih =>
    obtain ⟨i, w⟩ := e
    simp only [SMap.put]
    split
    · simp only [SMap.get_cons, ih]; split <;> split <;> first | rfl | omega
    · split <;> simp only [SMap.get_cons] <;> (repeat' split) <;> first | rfl | omega

/-- A read after `erase`. -/
theorem SMap.get_erase {α : Type} (d : α) (m : SMap α) (k j : Nat) :
    SMap.get d (SMap.erase m k) j = if j = k then d else SMap.get d m j := by
  induction m with
  | nil => simp [SMap.erase]
  | cons e m ih =>
    obtain ⟨i, w⟩ := e
    simp only [SMap.erase]
    split <;> simp only [SMap.get_cons, ih] <;> (repeat' split) <;> first | rfl | omega

/-- A read after a write: the value written at its key, everything else as before. -/
theorem SMap.get_set {α : Type} [DecidableEq α] (d : α) (m : SMap α) (k j : Nat) (v : α) :
    SMap.get d (SMap.set d m k v) j = if j = k then v else SMap.get d m j := by
  unfold SMap.set
  split
  · rename_i h; rw [SMap.get_erase, h]
  · exact SMap.get_put ..

/-- A read after a write where every key has its own unlisted value. -/
theorem SMap.get_set_key {α : Type} [DecidableEq α] (d : Nat → α) (m : SMap α) (k j : Nat) (v : α) :
    SMap.get (d j) (SMap.set (d k) m k v) j = if j = k then v else SMap.get (d j) m j := by
  unfold SMap.set
  split
  · rename_i h; rw [SMap.get_erase]; split
    · rename_i hj; rw [h, hj]
    · rfl
  · exact SMap.get_put ..

@[simp] theorem SMap.get_set_same {α : Type} [DecidableEq α] (d : α) (m : SMap α) (k : Nat) (v : α) :
    SMap.get d (SMap.set d m k v) k = v := by simp [SMap.get_set]

theorem SMap.get_set_other {α : Type} [DecidableEq α] (d : α) (m : SMap α) {k j : Nat} (v : α) (h : j ≠ k) :
    SMap.get d (SMap.set d m k v) j = SMap.get d m j := by simp [SMap.get_set, h]

/-! ### The canonical form -/

theorem SMap.sorted_cons {α : Type} (j : Nat) (v : α) (m : SMap α) :
    SMap.sorted ((j, v) :: m) = true ↔ (∀ e ∈ m, j < e.1) ∧ SMap.sorted m = true := by
  induction m generalizing j v with
  | nil => simp [SMap.sorted]
  | cons e m ih =>
    obtain ⟨k, w⟩ := e
    simp only [SMap.sorted, Bool.and_eq_true, decide_eq_true_eq, List.mem_cons, forall_eq_or_imp, ih]
    constructor
    · rintro ⟨h, h1, h2⟩
      exact ⟨⟨h, fun e he => Nat.lt_trans h (h1 e he)⟩, h1, h2⟩
    · rintro ⟨⟨h, _⟩, h1, h2⟩
      exact ⟨h, h1, h2⟩

theorem SMap.mem_put {α : Type} {m : SMap α} {k : Nat} {v : α} {e : Nat × α} (h : e ∈ SMap.put m k v) : e = (k, v) ∨ e ∈ m := by
  induction m with
  | nil => simpa [SMap.put] using h
  | cons x m ih =>
    obtain ⟨j, w⟩ := x
    simp only [SMap.put] at h
    split at h
    · rcases List.mem_cons.1 h with h | h
      · simp [h]
      · rcases ih h with h | h <;> simp [h]
    · split at h
      · rcases List.mem_cons.1 h with h | h <;> simp [h]
      · simpa using h

theorem SMap.mem_erase {α : Type} {m : SMap α} {k : Nat} {e : Nat × α} (h : e ∈ SMap.erase m k) : e ∈ m := by
  induction m with
  | nil => simp [SMap.erase] at h
  | cons x m ih =>
    obtain ⟨j, w⟩ := x
    simp only [SMap.erase] at h
    split at h
    · exact List.mem_cons_of_mem _ (ih h)
    · rcases List.mem_cons.1 h with h | h
      · simp [h]
      · exact List.mem_cons_of_mem _ (ih h)

theorem SMap.sorted_put {α : Type} {m : SMap α} (k : Nat) (v : α) (h : SMap.sorted m = true) : SMap.sorted (SMap.put m k v) = true := by
  induction m with
  | nil => rfl
  | cons x m ih =>
    obtain ⟨j, w⟩ := x
    obtain ⟨h1, h2⟩ := (SMap.sorted_cons j w m).1 h
    simp only [SMap.put]
    split
    · rename_i hj
      refine (SMap.sorted_cons _ _ _).2 ⟨fun e he => ?_, ih h2⟩
      rcases SMap.mem_put he with he | he
      · simpa [he] using hj
      · exact h1 e he
    · split
      · rename_i hk
        subst hk
        exact (SMap.sorted_cons _ _ _).2 ⟨h1, h2⟩
      · refine (SMap.sorted_cons _ _ _).2 ⟨fun e he => ?_, h⟩
        rcases List.mem_cons.1 he with he | he
        · subst he; simp only; omega
        · have := h1 e he; omega

theorem SMap.sorted_erase {α : Type} {m : SMap α} (k : Nat) (h : SMap.sorted m = true) : SMap.sorted (SMap.erase m k) = true := by
  induction m with
  | nil => rfl
  | cons x m ih =>
    obtain ⟨j, w⟩ := x
    obtain ⟨h1, h2⟩ := (SMap.sorted_cons j w m).1 h
    simp only [SMap.erase]
    split
    · exact ih h2
    · exact (SMap.sorted_cons _ _ _).2 ⟨fun e he => h1 e (SMap.mem_erase he), ih h2⟩

theorem SMap.sorted_filter {α : Type} {m : SMap α} (p : Nat × α → Bool) (h : SMap.sorted m = true) : SMap.sorted (m.filter p) = true := by
  induction m with
  | nil => rfl
  | cons x m ih =>
    obtain ⟨j, w⟩ := x
    obtain ⟨h1, h2⟩ := (SMap.sorted_cons j w m).1 h
    rw [List.filter_cons]
    split
    · exact (SMap.sorted_cons _ _ _).2 ⟨fun e he => h1 e (List.mem_filter.1 he).1, ih h2⟩
    · exact ih h2

/-- A write keeps the canonical form. -/
theorem SMap.wf_set {α : Type} [DecidableEq α] (d : α) {m : SMap α} (k : Nat) (v : α) (h : SMap.wf (fun _ => d) m = true) :
    SMap.wf (fun _ => d) (SMap.set d m k v) = true := by
  simp only [SMap.wf, SMap.noDefault, Bool.and_eq_true, List.all_eq_true, decide_eq_true_eq] at h ⊢
  unfold SMap.set
  split
  · exact ⟨SMap.sorted_erase k h.1, fun e he => h.2 e (SMap.mem_erase he)⟩
  · rename_i hv
    refine ⟨SMap.sorted_put k v h.1, fun e he => ?_⟩
    rcases SMap.mem_put he with he | he
    · simpa [he] using hv
    · exact h.2 e he

/-- Keeping the keys that meet a test keeps the canonical form. -/
theorem SMap.wf_keep {α : Type} [DecidableEq α] (d : Nat → α) {m : SMap α} (p : Nat → Bool) (h : SMap.wf d m = true) :
    SMap.wf d (SMap.keep p m) = true := by
  simp only [SMap.wf, SMap.noDefault, Bool.and_eq_true, List.all_eq_true, decide_eq_true_eq] at h ⊢
  exact ⟨SMap.sorted_filter _ h.1, fun e he => h.2 e (List.mem_filter.1 he).1⟩

/-- Keeping the keys that meet a test: those read as before, the others as unlisted. -/
theorem SMap.get_keep {α : Type} (d : α) (m : SMap α) (p : Nat → Bool) (k : Nat) :
    SMap.get d (SMap.keep p m) k = if p k then SMap.get d m k else d := by
  induction m with
  | nil => simp [SMap.keep]
  | cons x m ih =>
    obtain ⟨j, w⟩ := x
    by_cases hj : j = k
    · subst hj
      by_cases hp : p j = true <;> simp_all [SMap.keep]
    · by_cases hp : p j = true <;> simp_all [SMap.keep]

end Sys2Proof.Machine
end

