-- ==== Sys2Proof/Laws/State.lean ====
section
/-! SUPPORT. The laws of the state's accessors: what a read of a register, table word, tile, router, port, memory stack, thread or register file gives after an update,
and one lemma for each field an update leaves alone. -/

namespace Sys2Proof.Machine

/-! ### A read after a write -/

@[simp] theorem State.reg_setReg (s : State) (a : Nat) (w : Word) (b : Nat) : (s.setReg a w).reg b = if b = a then w else s.reg b := by
  exact SMap.get_set_key regReset _ _ _ _
@[simp] theorem State.shadow_setShadow (s : State) (a : Nat) (w : Word) (b : Nat) :
    (s.setShadow a w).shadow b = if b = a then w else s.shadow b := by
  exact SMap.get_set_key regReset _ _ _ _
@[simp] theorem State.tblWord_setTbl (s : State) (a : Nat) (w : Word) (b : Nat) :
    (s.setTbl a w).tblWord b = if b = a then w else s.tblWord b := by
  exact SMap.get_set_key tblReset _ _ _ _
@[simp] theorem State.tblShadowWord_setTblShadow (s : State) (a : Nat) (w : Word) (b : Nat) :
    (s.setTblShadow a w).tblShadowWord b = if b = a then w else s.tblShadowWord b := by
  exact SMap.get_set_key tblReset _ _ _ _
@[simp] theorem State.tile_setTile (s : State) (k : Nat) (t : Tile) (j : Nat) : (s.setTile k t).tile j = if j = k then t else s.tile j := by
  simp [State.setTile, State.tile, SMap.get_set]
@[simp] theorem State.router_setRouter (s : State) (k : Nat) (r : Router) (j : Nat) :
    (s.setRouter k r).router j = if j = k then r else s.router j := by
  simp [State.setRouter, State.router, SMap.get_set]
@[simp] theorem State.port_setPort (s : State) (k : Nat) (x : HPort) (j : Nat) : (s.setPort k x).port j = if j = k then x else s.port j := by
  simp [State.setPort, State.port, SMap.get_set]
@[simp] theorem State.fport_setFport (s : State) (k : Nat) (x : FabPort) (j : Nat) :
    (s.setFport k x).fport j = if j = k then x else s.fport j := by
  simp [State.setFport, State.fport, SMap.get_set]
@[simp] theorem State.stack_setStack (s : State) (k : Nat) (x : MemStack) (j : Nat) :
    (s.setStack k x).stack j = if j = k then x else s.stack j := by
  simp [State.setStack, State.stack, SMap.get_set]
@[simp] theorem HPort.group_setGroup (x : HPort) (g : Nat) (q : TxGroup) (h : Nat) : (x.setGroup g q).group h = if h = g then q else x.group h := by
  simp [HPort.setGroup, HPort.group, SMap.get_set]
@[simp] theorem Tile.thread_setThread (t : Tile) (n : Nat) (x : Thread) (m : Nat) :
    (t.setThread n x).thread m = if m = n then x else t.thread m := by
  simp [Tile.setThread, Tile.thread, SMap.get_set]
@[simp] theorem Tile.sys_setSys (t : Tile) (i : Nat) (w : Word) (j : Nat) : (t.setSys i w).sys j = if j = i then w else t.sys j := by
  simp [Tile.setSys, Tile.sys, SMap.get_set]
@[simp] theorem Tile.sys_setThread (t : Tile) (n : Nat) (x : Thread) (m : Nat) : (t.setThread n x).sys m = t.sys m := rfl
@[simp] theorem Tile.thread_setSys (t : Tile) (i : Nat) (w : Word) (m : Nat) : (t.setSys i w).thread m = t.thread m := rfl
@[simp] theorem Thread.rs_zero (x : Thread) : x.rs 0 = 0 := rfl
@[simp] theorem Thread.rp_zero (x : Thread) : x.rp 0 = true := rfl
theorem Thread.rs_ws (x : Thread) (n : Nat) (v : DWord) (c m : Nat) : (x.ws n v c).rs m = if m = n ∧ n ≠ 0 then v else x.rs m := by
  by_cases hn : n = 0
  · simp [Thread.ws, hn]
  · by_cases hm : m = n
    · subst hm; simp [Thread.ws, hn, Thread.rs]
    · simp [Thread.ws, hn, Thread.rs, SMap.get_set, hm]
theorem Thread.rp_wp (x : Thread) (n : Nat) (b : Bool) (c m : Nat) : (x.wp n b c).rp m = if m = n ∧ n ≠ 0 then b else x.rp m := by
  by_cases hn : n = 0
  · simp [Thread.wp, hn]
  · by_cases hm : m = n
    · subst hm; simp [Thread.wp, hn, Thread.rp]
    · simp [Thread.wp, hn, Thread.rp, SMap.get_set, hm]
@[simp] theorem Thread.rv_wv (x : Thread) (n : Nat) (v : VReg) (c m : Nat) : (x.wv n v c).rv m = if m = n then v else x.rv m := by
  simp [Thread.wv, Thread.rv, SMap.get_set]
@[simp] theorem Thread.rv_ws (x : Thread) (n : Nat) (v : DWord) (c m : Nat) : (x.ws n v c).rv m = x.rv m := by
  unfold Thread.ws; split <;> rfl
@[simp] theorem Thread.rp_ws (x : Thread) (n : Nat) (v : DWord) (c m : Nat) : (x.ws n v c).rp m = x.rp m := by
  unfold Thread.ws; split <;> rfl
@[simp] theorem Thread.rs_wv (x : Thread) (n : Nat) (v : VReg) (c m : Nat) : (x.wv n v c).rs m = x.rs m := rfl
@[simp] theorem Thread.rp_wv (x : Thread) (n : Nat) (v : VReg) (c m : Nat) : (x.wv n v c).rp m = x.rp m := rfl
@[simp] theorem Thread.rs_wp (x : Thread) (n : Nat) (b : Bool) (c m : Nat) : (x.wp n b c).rs m = x.rs m := by
  unfold Thread.wp; split <;> rfl
@[simp] theorem Thread.rv_wp (x : Thread) (n : Nat) (b : Bool) (c m : Nat) : (x.wp n b c).rv m = x.rv m := by
  unfold Thread.wp; split <;> rfl

/-! ### Updates that are others in disguise -/

theorem State.setRegFld_eq (s : State) (a hi lo v : Nat) : s.setRegFld a hi lo v = s.setReg a (setFld (s.reg a) hi lo v) := rfl
theorem State.orReg_eq (s : State) (a : Nat) (m : Word) : s.orReg a m = s.setReg a (s.reg a ||| m) := rfl
theorem State.clearReg_eq (s : State) (a : Nat) (m : Word) : s.clearReg a m = s.setReg a (s.reg a &&& ~~~m) := rfl
theorem State.bumpReg_eq (s : State) (a hi lo k : Nat) : s.bumpReg a hi lo k = s.setReg a (bumpFld (s.reg a) hi lo k) := rfl


/-! ### What `State.setReg` leaves alone -/

@[simp] theorem State.setReg_pending (s : State) (a : Nat) (w : Word) : (s.setReg a w).pending = s.pending := rfl
@[simp] theorem State.setReg_out (s : State) (a : Nat) (w : Word) : (s.setReg a w).out = s.out := rfl
@[simp] theorem State.setReg_draws (s : State) (a : Nat) (w : Word) : (s.setReg a w).draws = s.draws := rfl
@[simp] theorem State.setReg_mode (s : State) (a : Nat) (w : Word) : (s.setReg a w).mode = s.mode := rfl
@[simp] theorem State.setReg_shadowRegs (s : State) (a : Nat) (w : Word) : (s.setReg a w).shadowRegs = s.shadowRegs := rfl
@[simp] theorem State.setReg_tbl (s : State) (a : Nat) (w : Word) : (s.setReg a w).tbl = s.tbl := rfl
@[simp] theorem State.setReg_tblShadow (s : State) (a : Nat) (w : Word) : (s.setReg a w).tblShadow = s.tblShadow := rfl
@[simp] theorem State.setReg_rwc (s : State) (a : Nat) (w : Word) : (s.setReg a w).rwc = s.rwc := rfl
@[simp] theorem State.setReg_tblMaster (s : State) (a : Nat) (w : Word) : (s.setReg a w).tblMaster = s.tblMaster := rfl
@[simp] theorem State.setReg_hiLatch (s : State) (a : Nat) (w : Word) : (s.setReg a w).hiLatch = s.hiLatch := rfl
@[simp] theorem State.setReg_tiles (s : State) (a : Nat) (w : Word) : (s.setReg a w).tiles = s.tiles := rfl
@[simp] theorem State.setReg_routers (s : State) (a : Nat) (w : Word) : (s.setReg a w).routers = s.routers := rfl
@[simp] theorem State.setReg_flights (s : State) (a : Nat) (w : Word) : (s.setReg a w).flights = s.flights := rfl
@[simp] theorem State.setReg_ports (s : State) (a : Nat) (w : Word) : (s.setReg a w).ports = s.ports := rfl
@[simp] theorem State.setReg_hearth (s : State) (a : Nat) (w : Word) : (s.setReg a w).hearth = s.hearth := rfl
@[simp] theorem State.setReg_light (s : State) (a : Nat) (w : Word) : (s.setReg a w).light = s.light := rfl
@[simp] theorem State.setReg_thermal (s : State) (a : Nat) (w : Word) : (s.setReg a w).thermal = s.thermal := rfl
@[simp] theorem State.setReg_mailbox (s : State) (a : Nat) (w : Word) : (s.setReg a w).mailbox = s.mailbox := rfl
@[simp] theorem State.setReg_glove (s : State) (a : Nat) (w : Word) : (s.setReg a w).glove = s.glove := rfl
@[simp] theorem State.setReg_host (s : State) (a : Nat) (w : Word) : (s.setReg a w).host = s.host := rfl
@[simp] theorem State.setReg_fabric (s : State) (a : Nat) (w : Word) : (s.setReg a w).fabric = s.fabric := rfl
@[simp] theorem State.setReg_maps (s : State) (a : Nat) (w : Word) : (s.setReg a w).maps = s.maps := rfl
@[simp] theorem State.setReg_slew (s : State) (a : Nat) (w : Word) : (s.setReg a w).slew = s.slew := rfl
@[simp] theorem State.setReg_slewRest (s : State) (a : Nat) (w : Word) : (s.setReg a w).slewRest = s.slewRest := rfl
@[simp] theorem State.setReg_job (s : State) (a : Nat) (w : Word) : (s.setReg a w).job = s.job := rfl
@[simp] theorem State.setReg_qps (s : State) (a : Nat) (w : Word) : (s.setReg a w).qps = s.qps := rfl
@[simp] theorem State.setReg_boot (s : State) (a : Nat) (w : Word) : (s.setReg a w).boot = s.boot := rfl
@[simp] theorem State.setReg_stackMem (s : State) (a : Nat) (w : Word) : (s.setReg a w).stackMem = s.stackMem := rfl
@[simp] theorem State.setReg_sessions (s : State) (a : Nat) (w : Word) : (s.setReg a w).sessions = s.sessions := rfl
@[simp] theorem State.setReg_recovery (s : State) (a : Nat) (w : Word) : (s.setReg a w).recovery = s.recovery := rfl
@[simp] theorem State.setReg_tick (s : State) (a : Nat) (w : Word) : (s.setReg a w).tick = s.tick := rfl
@[simp] theorem State.setReg_clock (s : State) (a : Nat) (w : Word) : (s.setReg a w).clock = s.clock := rfl

/-! ### What `State.setRegFld` leaves alone -/

@[simp] theorem State.setRegFld_pending (s : State) (a hi lo v : Nat) : (s.setRegFld a hi lo v).pending = s.pending := rfl
@[simp] theorem State.setRegFld_out (s : State) (a hi lo v : Nat) : (s.setRegFld a hi lo v).out = s.out := rfl
@[simp] theorem State.setRegFld_draws (s : State) (a hi lo v : Nat) : (s.setRegFld a hi lo v).draws = s.draws := rfl
@[simp] theorem State.setRegFld_mode (s : State) (a hi lo v : Nat) : (s.setRegFld a hi lo v).mode = s.mode := rfl
@[simp] theorem State.setRegFld_shadowRegs (s : State) (a hi lo v : Nat) : (s.setRegFld a hi lo v).shadowRegs = s.shadowRegs := rfl
@[simp] theorem State.setRegFld_tbl (s : State) (a hi lo v : Nat) : (s.setRegFld a hi lo v).tbl = s.tbl := rfl
@[simp] theorem State.setRegFld_tblShadow (s : State) (a hi lo v : Nat) : (s.setRegFld a hi lo v).tblShadow = s.tblShadow := rfl
@[simp] theorem State.setRegFld_rwc (s : State) (a hi lo v : Nat) : (s.setRegFld a hi lo v).rwc = s.rwc := rfl
@[simp] theorem State.setRegFld_tblMaster (s : State) (a hi lo v : Nat) : (s.setRegFld a hi lo v).tblMaster = s.tblMaster := rfl
@[simp] theorem State.setRegFld_hiLatch (s : State) (a hi lo v : Nat) : (s.setRegFld a hi lo v).hiLatch = s.hiLatch := rfl
@[simp] theorem State.setRegFld_tiles (s : State) (a hi lo v : Nat) : (s.setRegFld a hi lo v).tiles = s.tiles := rfl
@[simp] theorem State.setRegFld_routers (s : State) (a hi lo v : Nat) : (s.setRegFld a hi lo v).routers = s.routers := rfl
@[simp] theorem State.setRegFld_flights (s : State) (a hi lo v : Nat) : (s.setRegFld a hi lo v).flights = s.flights := rfl
@[simp] theorem State.setRegFld_ports (s : State) (a hi lo v : Nat) : (s.setRegFld a hi lo v).ports = s.ports := rfl
@[simp] theorem State.setRegFld_hearth (s : State) (a hi lo v : Nat) : (s.setRegFld a hi lo v).hearth = s.hearth := rfl
@[simp] theorem State.setRegFld_light (s : State) (a hi lo v : Nat) : (s.setRegFld a hi lo v).light = s.light := rfl
@[simp] theorem State.setRegFld_thermal (s : State) (a hi lo v : Nat) : (s.setRegFld a hi lo v).thermal = s.thermal := rfl
@[simp] theorem State.setRegFld_mailbox (s : State) (a hi lo v : Nat) : (s.setRegFld a hi lo v).mailbox = s.mailbox := rfl
@[simp] theorem State.setRegFld_glove (s : State) (a hi lo v : Nat) : (s.setRegFld a hi lo v).glove = s.glove := rfl
@[simp] theorem State.setRegFld_host (s : State) (a hi lo v : Nat) : (s.setRegFld a hi lo v).host = s.host := rfl
@[simp] theorem State.setRegFld_fabric (s : State) (a hi lo v : Nat) : (s.setRegFld a hi lo v).fabric = s.fabric := rfl
@[simp] theorem State.setRegFld_maps (s : State) (a hi lo v : Nat) : (s.setRegFld a hi lo v).maps = s.maps := rfl
@[simp] theorem State.setRegFld_slew (s : State) (a hi lo v : Nat) : (s.setRegFld a hi lo v).slew = s.slew := rfl
@[simp] theorem State.setRegFld_slewRest (s : State) (a hi lo v : Nat) : (s.setRegFld a hi lo v).slewRest = s.slewRest := rfl
@[simp] theorem State.setRegFld_job (s : State) (a hi lo v : Nat) : (s.setRegFld a hi lo v).job = s.job := rfl
@[simp] theorem State.setRegFld_qps (s : State) (a hi lo v : Nat) : (s.setRegFld a hi lo v).qps = s.qps := rfl
@[simp] theorem State.setRegFld_boot (s : State) (a hi lo v : Nat) : (s.setRegFld a hi lo v).boot = s.boot := rfl
@[simp] theorem State.setRegFld_stackMem (s : State) (a hi lo v : Nat) : (s.setRegFld a hi lo v).stackMem = s.stackMem := rfl
@[simp] theorem State.setRegFld_sessions (s : State) (a hi lo v : Nat) : (s.setRegFld a hi lo v).sessions = s.sessions := rfl
@[simp] theorem State.setRegFld_recovery (s : State) (a hi lo v : Nat) : (s.setRegFld a hi lo v).recovery = s.recovery := rfl
@[simp] theorem State.setRegFld_tick (s : State) (a hi lo v : Nat) : (s.setRegFld a hi lo v).tick = s.tick := rfl
@[simp] theorem State.setRegFld_clock (s : State) (a hi lo v : Nat) : (s.setRegFld a hi lo v).clock = s.clock := rfl

/-! ### What `State.orReg` leaves alone -/

@[simp] theorem State.orReg_pending (s : State) (a : Nat) (m : Word) : (s.orReg a m).pending = s.pending := rfl
@[simp] theorem State.orReg_out (s : State) (a : Nat) (m : Word) : (s.orReg a m).out = s.out := rfl
@[simp] theorem State.orReg_draws (s : State) (a : Nat) (m : Word) : (s.orReg a m).draws = s.draws := rfl
@[simp] theorem State.orReg_mode (s : State) (a : Nat) (m : Word) : (s.orReg a m).mode = s.mode := rfl
@[simp] theorem State.orReg_shadowRegs (s : State) (a : Nat) (m : Word) : (s.orReg a m).shadowRegs = s.shadowRegs := rfl
@[simp] theorem State.orReg_tbl (s : State) (a : Nat) (m : Word) : (s.orReg a m).tbl = s.tbl := rfl
@[simp] theorem State.orReg_tblShadow (s : State) (a : Nat) (m : Word) : (s.orReg a m).tblShadow = s.tblShadow := rfl
@[simp] theorem State.orReg_rwc (s : State) (a : Nat) (m : Word) : (s.orReg a m).rwc = s.rwc := rfl
@[simp] theorem State.orReg_tblMaster (s : State) (a : Nat) (m : Word) : (s.orReg a m).tblMaster = s.tblMaster := rfl
@[simp] theorem State.orReg_hiLatch (s : State) (a : Nat) (m : Word) : (s.orReg a m).hiLatch = s.hiLatch := rfl
@[simp] theorem State.orReg_tiles (s : State) (a : Nat) (m : Word) : (s.orReg a m).tiles = s.tiles := rfl
@[simp] theorem State.orReg_routers (s : State) (a : Nat) (m : Word) : (s.orReg a m).routers = s.routers := rfl
@[simp] theorem State.orReg_flights (s : State) (a : Nat) (m : Word) : (s.orReg a m).flights = s.flights := rfl
@[simp] theorem State.orReg_ports (s : State) (a : Nat) (m : Word) : (s.orReg a m).ports = s.ports := rfl
@[simp] theorem State.orReg_hearth (s : State) (a : Nat) (m : Word) : (s.orReg a m).hearth = s.hearth := rfl
@[simp] theorem State.orReg_light (s : State) (a : Nat) (m : Word) : (s.orReg a m).light = s.light := rfl
@[simp] theorem State.orReg_thermal (s : State) (a : Nat) (m : Word) : (s.orReg a m).thermal = s.thermal := rfl
@[simp] theorem State.orReg_mailbox (s : State) (a : Nat) (m : Word) : (s.orReg a m).mailbox = s.mailbox := rfl
@[simp] theorem State.orReg_glove (s : State) (a : Nat) (m : Word) : (s.orReg a m).glove = s.glove := rfl
@[simp] theorem State.orReg_host (s : State) (a : Nat) (m : Word) : (s.orReg a m).host = s.host := rfl
@[simp] theorem State.orReg_fabric (s : State) (a : Nat) (m : Word) : (s.orReg a m).fabric = s.fabric := rfl
@[simp] theorem State.orReg_maps (s : State) (a : Nat) (m : Word) : (s.orReg a m).maps = s.maps := rfl
@[simp] theorem State.orReg_slew (s : State) (a : Nat) (m : Word) : (s.orReg a m).slew = s.slew := rfl
@[simp] theorem State.orReg_slewRest (s : State) (a : Nat) (m : Word) : (s.orReg a m).slewRest = s.slewRest := rfl
@[simp] theorem State.orReg_job (s : State) (a : Nat) (m : Word) : (s.orReg a m).job = s.job := rfl
@[simp] theorem State.orReg_qps (s : State) (a : Nat) (m : Word) : (s.orReg a m).qps = s.qps := rfl
@[simp] theorem State.orReg_boot (s : State) (a : Nat) (m : Word) : (s.orReg a m).boot = s.boot := rfl
@[simp] theorem State.orReg_stackMem (s : State) (a : Nat) (m : Word) : (s.orReg a m).stackMem = s.stackMem := rfl
@[simp] theorem State.orReg_sessions (s : State) (a : Nat) (m : Word) : (s.orReg a m).sessions = s.sessions := rfl
@[simp] theorem State.orReg_recovery (s : State) (a : Nat) (m : Word) : (s.orReg a m).recovery = s.recovery := rfl
@[simp] theorem State.orReg_tick (s : State) (a : Nat) (m : Word) : (s.orReg a m).tick = s.tick := rfl
@[simp] theorem State.orReg_clock (s : State) (a : Nat) (m : Word) : (s.orReg a m).clock = s.clock := rfl

/-! ### What `State.clearReg` leaves alone -/

@[simp] theorem State.clearReg_pending (s : State) (a : Nat) (m : Word) : (s.clearReg a m).pending = s.pending := rfl
@[simp] theorem State.clearReg_out (s : State) (a : Nat) (m : Word) : (s.clearReg a m).out = s.out := rfl
@[simp] theorem State.clearReg_draws (s : State) (a : Nat) (m : Word) : (s.clearReg a m).draws = s.draws := rfl
@[simp] theorem State.clearReg_mode (s : State) (a : Nat) (m : Word) : (s.clearReg a m).mode = s.mode := rfl
@[simp] theorem State.clearReg_shadowRegs (s : State) (a : Nat) (m : Word) : (s.clearReg a m).shadowRegs = s.shadowRegs := rfl
@[simp] theorem State.clearReg_tbl (s : State) (a : Nat) (m : Word) : (s.clearReg a m).tbl = s.tbl := rfl
@[simp] theorem State.clearReg_tblShadow (s : State) (a : Nat) (m : Word) : (s.clearReg a m).tblShadow = s.tblShadow := rfl
@[simp] theorem State.clearReg_rwc (s : State) (a : Nat) (m : Word) : (s.clearReg a m).rwc = s.rwc := rfl
@[simp] theorem State.clearReg_tblMaster (s : State) (a : Nat) (m : Word) : (s.clearReg a m).tblMaster = s.tblMaster := rfl
@[simp] theorem State.clearReg_hiLatch (s : State) (a : Nat) (m : Word) : (s.clearReg a m).hiLatch = s.hiLatch := rfl
@[simp] theorem State.clearReg_tiles (s : State) (a : Nat) (m : Word) : (s.clearReg a m).tiles = s.tiles := rfl
@[simp] theorem State.clearReg_routers (s : State) (a : Nat) (m : Word) : (s.clearReg a m).routers = s.routers := rfl
@[simp] theorem State.clearReg_flights (s : State) (a : Nat) (m : Word) : (s.clearReg a m).flights = s.flights := rfl
@[simp] theorem State.clearReg_ports (s : State) (a : Nat) (m : Word) : (s.clearReg a m).ports = s.ports := rfl
@[simp] theorem State.clearReg_hearth (s : State) (a : Nat) (m : Word) : (s.clearReg a m).hearth = s.hearth := rfl
@[simp] theorem State.clearReg_light (s : State) (a : Nat) (m : Word) : (s.clearReg a m).light = s.light := rfl
@[simp] theorem State.clearReg_thermal (s : State) (a : Nat) (m : Word) : (s.clearReg a m).thermal = s.thermal := rfl
@[simp] theorem State.clearReg_mailbox (s : State) (a : Nat) (m : Word) : (s.clearReg a m).mailbox = s.mailbox := rfl
@[simp] theorem State.clearReg_glove (s : State) (a : Nat) (m : Word) : (s.clearReg a m).glove = s.glove := rfl
@[simp] theorem State.clearReg_host (s : State) (a : Nat) (m : Word) : (s.clearReg a m).host = s.host := rfl
@[simp] theorem State.clearReg_fabric (s : State) (a : Nat) (m : Word) : (s.clearReg a m).fabric = s.fabric := rfl
@[simp] theorem State.clearReg_maps (s : State) (a : Nat) (m : Word) : (s.clearReg a m).maps = s.maps := rfl
@[simp] theorem State.clearReg_slew (s : State) (a : Nat) (m : Word) : (s.clearReg a m).slew = s.slew := rfl
@[simp] theorem State.clearReg_slewRest (s : State) (a : Nat) (m : Word) : (s.clearReg a m).slewRest = s.slewRest := rfl
@[simp] theorem State.clearReg_job (s : State) (a : Nat) (m : Word) : (s.clearReg a m).job = s.job := rfl
@[simp] theorem State.clearReg_qps (s : State) (a : Nat) (m : Word) : (s.clearReg a m).qps = s.qps := rfl
@[simp] theorem State.clearReg_boot (s : State) (a : Nat) (m : Word) : (s.clearReg a m).boot = s.boot := rfl
@[simp] theorem State.clearReg_stackMem (s : State) (a : Nat) (m : Word) : (s.clearReg a m).stackMem = s.stackMem := rfl
@[simp] theorem State.clearReg_sessions (s : State) (a : Nat) (m : Word) : (s.clearReg a m).sessions = s.sessions := rfl
@[simp] theorem State.clearReg_recovery (s : State) (a : Nat) (m : Word) : (s.clearReg a m).recovery = s.recovery := rfl
@[simp] theorem State.clearReg_tick (s : State) (a : Nat) (m : Word) : (s.clearReg a m).tick = s.tick := rfl
@[simp] theorem State.clearReg_clock (s : State) (a : Nat) (m : Word) : (s.clearReg a m).clock = s.clock := rfl

/-! ### What `State.bumpReg` leaves alone -/

@[simp] theorem State.bumpReg_pending (s : State) (a hi lo k : Nat) : (s.bumpReg a hi lo k).pending = s.pending := rfl
@[simp] theorem State.bumpReg_out (s : State) (a hi lo k : Nat) : (s.bumpReg a hi lo k).out = s.out := rfl
@[simp] theorem State.bumpReg_draws (s : State) (a hi lo k : Nat) : (s.bumpReg a hi lo k).draws = s.draws := rfl
@[simp] theorem State.bumpReg_mode (s : State) (a hi lo k : Nat) : (s.bumpReg a hi lo k).mode = s.mode := rfl
@[simp] theorem State.bumpReg_shadowRegs (s : State) (a hi lo k : Nat) : (s.bumpReg a hi lo k).shadowRegs = s.shadowRegs := rfl
@[simp] theorem State.bumpReg_tbl (s : State) (a hi lo k : Nat) : (s.bumpReg a hi lo k).tbl = s.tbl := rfl
@[simp] theorem State.bumpReg_tblShadow (s : State) (a hi lo k : Nat) : (s.bumpReg a hi lo k).tblShadow = s.tblShadow := rfl
@[simp] theorem State.bumpReg_rwc (s : State) (a hi lo k : Nat) : (s.bumpReg a hi lo k).rwc = s.rwc := rfl
@[simp] theorem State.bumpReg_tblMaster (s : State) (a hi lo k : Nat) : (s.bumpReg a hi lo k).tblMaster = s.tblMaster := rfl
@[simp] theorem State.bumpReg_hiLatch (s : State) (a hi lo k : Nat) : (s.bumpReg a hi lo k).hiLatch = s.hiLatch := rfl
@[simp] theorem State.bumpReg_tiles (s : State) (a hi lo k : Nat) : (s.bumpReg a hi lo k).tiles = s.tiles := rfl
@[simp] theorem State.bumpReg_routers (s : State) (a hi lo k : Nat) : (s.bumpReg a hi lo k).routers = s.routers := rfl
@[simp] theorem State.bumpReg_flights (s : State) (a hi lo k : Nat) : (s.bumpReg a hi lo k).flights = s.flights := rfl
@[simp] theorem State.bumpReg_ports (s : State) (a hi lo k : Nat) : (s.bumpReg a hi lo k).ports = s.ports := rfl
@[simp] theorem State.bumpReg_hearth (s : State) (a hi lo k : Nat) : (s.bumpReg a hi lo k).hearth = s.hearth := rfl
@[simp] theorem State.bumpReg_light (s : State) (a hi lo k : Nat) : (s.bumpReg a hi lo k).light = s.light := rfl
@[simp] theorem State.bumpReg_thermal (s : State) (a hi lo k : Nat) : (s.bumpReg a hi lo k).thermal = s.thermal := rfl
@[simp] theorem State.bumpReg_mailbox (s : State) (a hi lo k : Nat) : (s.bumpReg a hi lo k).mailbox = s.mailbox := rfl
@[simp] theorem State.bumpReg_glove (s : State) (a hi lo k : Nat) : (s.bumpReg a hi lo k).glove = s.glove := rfl
@[simp] theorem State.bumpReg_host (s : State) (a hi lo k : Nat) : (s.bumpReg a hi lo k).host = s.host := rfl
@[simp] theorem State.bumpReg_fabric (s : State) (a hi lo k : Nat) : (s.bumpReg a hi lo k).fabric = s.fabric := rfl
@[simp] theorem State.bumpReg_maps (s : State) (a hi lo k : Nat) : (s.bumpReg a hi lo k).maps = s.maps := rfl
@[simp] theorem State.bumpReg_slew (s : State) (a hi lo k : Nat) : (s.bumpReg a hi lo k).slew = s.slew := rfl
@[simp] theorem State.bumpReg_slewRest (s : State) (a hi lo k : Nat) : (s.bumpReg a hi lo k).slewRest = s.slewRest := rfl
@[simp] theorem State.bumpReg_job (s : State) (a hi lo k : Nat) : (s.bumpReg a hi lo k).job = s.job := rfl
@[simp] theorem State.bumpReg_qps (s : State) (a hi lo k : Nat) : (s.bumpReg a hi lo k).qps = s.qps := rfl
@[simp] theorem State.bumpReg_boot (s : State) (a hi lo k : Nat) : (s.bumpReg a hi lo k).boot = s.boot := rfl
@[simp] theorem State.bumpReg_stackMem (s : State) (a hi lo k : Nat) : (s.bumpReg a hi lo k).stackMem = s.stackMem := rfl
@[simp] theorem State.bumpReg_sessions (s : State) (a hi lo k : Nat) : (s.bumpReg a hi lo k).sessions = s.sessions := rfl
@[simp] theorem State.bumpReg_recovery (s : State) (a hi lo k : Nat) : (s.bumpReg a hi lo k).recovery = s.recovery := rfl
@[simp] theorem State.bumpReg_tick (s : State) (a hi lo k : Nat) : (s.bumpReg a hi lo k).tick = s.tick := rfl
@[simp] theorem State.bumpReg_clock (s : State) (a hi lo k : Nat) : (s.bumpReg a hi lo k).clock = s.clock := rfl

/-! ### What `State.setReg64` leaves alone -/

@[simp] theorem State.setReg64_pending (s : State) (l h v : Nat) : (s.setReg64 l h v).pending = s.pending := rfl
@[simp] theorem State.setReg64_out (s : State) (l h v : Nat) : (s.setReg64 l h v).out = s.out := rfl
@[simp] theorem State.setReg64_draws (s : State) (l h v : Nat) : (s.setReg64 l h v).draws = s.draws := rfl
@[simp] theorem State.setReg64_mode (s : State) (l h v : Nat) : (s.setReg64 l h v).mode = s.mode := rfl
@[simp] theorem State.setReg64_shadowRegs (s : State) (l h v : Nat) : (s.setReg64 l h v).shadowRegs = s.shadowRegs := rfl
@[simp] theorem State.setReg64_tbl (s : State) (l h v : Nat) : (s.setReg64 l h v).tbl = s.tbl := rfl
@[simp] theorem State.setReg64_tblShadow (s : State) (l h v : Nat) : (s.setReg64 l h v).tblShadow = s.tblShadow := rfl
@[simp] theorem State.setReg64_rwc (s : State) (l h v : Nat) : (s.setReg64 l h v).rwc = s.rwc := rfl
@[simp] theorem State.setReg64_tblMaster (s : State) (l h v : Nat) : (s.setReg64 l h v).tblMaster = s.tblMaster := rfl
@[simp] theorem State.setReg64_hiLatch (s : State) (l h v : Nat) : (s.setReg64 l h v).hiLatch = s.hiLatch := rfl
@[simp] theorem State.setReg64_tiles (s : State) (l h v : Nat) : (s.setReg64 l h v).tiles = s.tiles := rfl
@[simp] theorem State.setReg64_routers (s : State) (l h v : Nat) : (s.setReg64 l h v).routers = s.routers := rfl
@[simp] theorem State.setReg64_flights (s : State) (l h v : Nat) : (s.setReg64 l h v).flights = s.flights := rfl
@[simp] theorem State.setReg64_ports (s : State) (l h v : Nat) : (s.setReg64 l h v).ports = s.ports := rfl
@[simp] theorem State.setReg64_hearth (s : State) (l h v : Nat) : (s.setReg64 l h v).hearth = s.hearth := rfl
@[simp] theorem State.setReg64_light (s : State) (l h v : Nat) : (s.setReg64 l h v).light = s.light := rfl
@[simp] theorem State.setReg64_thermal (s : State) (l h v : Nat) : (s.setReg64 l h v).thermal = s.thermal := rfl
@[simp] theorem State.setReg64_mailbox (s : State) (l h v : Nat) : (s.setReg64 l h v).mailbox = s.mailbox := rfl
@[simp] theorem State.setReg64_glove (s : State) (l h v : Nat) : (s.setReg64 l h v).glove = s.glove := rfl
@[simp] theorem State.setReg64_host (s : State) (l h v : Nat) : (s.setReg64 l h v).host = s.host := rfl
@[simp] theorem State.setReg64_fabric (s : State) (l h v : Nat) : (s.setReg64 l h v).fabric = s.fabric := rfl
@[simp] theorem State.setReg64_maps (s : State) (l h v : Nat) : (s.setReg64 l h v).maps = s.maps := rfl
@[simp] theorem State.setReg64_slew (s : State) (l h v : Nat) : (s.setReg64 l h v).slew = s.slew := rfl
@[simp] theorem State.setReg64_slewRest (s : State) (l h v : Nat) : (s.setReg64 l h v).slewRest = s.slewRest := rfl
@[simp] theorem State.setReg64_job (s : State) (l h v : Nat) : (s.setReg64 l h v).job = s.job := rfl
@[simp] theorem State.setReg64_qps (s : State) (l h v : Nat) : (s.setReg64 l h v).qps = s.qps := rfl
@[simp] theorem State.setReg64_boot (s : State) (l h v : Nat) : (s.setReg64 l h v).boot = s.boot := rfl
@[simp] theorem State.setReg64_stackMem (s : State) (l h v : Nat) : (s.setReg64 l h v).stackMem = s.stackMem := rfl
@[simp] theorem State.setReg64_sessions (s : State) (l h v : Nat) : (s.setReg64 l h v).sessions = s.sessions := rfl
@[simp] theorem State.setReg64_recovery (s : State) (l h v : Nat) : (s.setReg64 l h v).recovery = s.recovery := rfl
@[simp] theorem State.setReg64_tick (s : State) (l h v : Nat) : (s.setReg64 l h v).tick = s.tick := rfl
@[simp] theorem State.setReg64_clock (s : State) (l h v : Nat) : (s.setReg64 l h v).clock = s.clock := rfl

/-! ### What `State.setShadow` leaves alone -/

@[simp] theorem State.setShadow_pending (s : State) (a : Nat) (w : Word) : (s.setShadow a w).pending = s.pending := rfl
@[simp] theorem State.setShadow_out (s : State) (a : Nat) (w : Word) : (s.setShadow a w).out = s.out := rfl
@[simp] theorem State.setShadow_draws (s : State) (a : Nat) (w : Word) : (s.setShadow a w).draws = s.draws := rfl
@[simp] theorem State.setShadow_mode (s : State) (a : Nat) (w : Word) : (s.setShadow a w).mode = s.mode := rfl
@[simp] theorem State.setShadow_regs (s : State) (a : Nat) (w : Word) : (s.setShadow a w).regs = s.regs := rfl
@[simp] theorem State.setShadow_tbl (s : State) (a : Nat) (w : Word) : (s.setShadow a w).tbl = s.tbl := rfl
@[simp] theorem State.setShadow_tblShadow (s : State) (a : Nat) (w : Word) : (s.setShadow a w).tblShadow = s.tblShadow := rfl
@[simp] theorem State.setShadow_rwc (s : State) (a : Nat) (w : Word) : (s.setShadow a w).rwc = s.rwc := rfl
@[simp] theorem State.setShadow_tblMaster (s : State) (a : Nat) (w : Word) : (s.setShadow a w).tblMaster = s.tblMaster := rfl
@[simp] theorem State.setShadow_hiLatch (s : State) (a : Nat) (w : Word) : (s.setShadow a w).hiLatch = s.hiLatch := rfl
@[simp] theorem State.setShadow_tiles (s : State) (a : Nat) (w : Word) : (s.setShadow a w).tiles = s.tiles := rfl
@[simp] theorem State.setShadow_routers (s : State) (a : Nat) (w : Word) : (s.setShadow a w).routers = s.routers := rfl
@[simp] theorem State.setShadow_flights (s : State) (a : Nat) (w : Word) : (s.setShadow a w).flights = s.flights := rfl
@[simp] theorem State.setShadow_ports (s : State) (a : Nat) (w : Word) : (s.setShadow a w).ports = s.ports := rfl
@[simp] theorem State.setShadow_hearth (s : State) (a : Nat) (w : Word) : (s.setShadow a w).hearth = s.hearth := rfl
@[simp] theorem State.setShadow_light (s : State) (a : Nat) (w : Word) : (s.setShadow a w).light = s.light := rfl
@[simp] theorem State.setShadow_thermal (s : State) (a : Nat) (w : Word) : (s.setShadow a w).thermal = s.thermal := rfl
@[simp] theorem State.setShadow_mailbox (s : State) (a : Nat) (w : Word) : (s.setShadow a w).mailbox = s.mailbox := rfl
@[simp] theorem State.setShadow_glove (s : State) (a : Nat) (w : Word) : (s.setShadow a w).glove = s.glove := rfl
@[simp] theorem State.setShadow_host (s : State) (a : Nat) (w : Word) : (s.setShadow a w).host = s.host := rfl
@[simp] theorem State.setShadow_fabric (s : State) (a : Nat) (w : Word) : (s.setShadow a w).fabric = s.fabric := rfl
@[simp] theorem State.setShadow_maps (s : State) (a : Nat) (w : Word) : (s.setShadow a w).maps = s.maps := rfl
@[simp] theorem State.setShadow_slew (s : State) (a : Nat) (w : Word) : (s.setShadow a w).slew = s.slew := rfl
@[simp] theorem State.setShadow_slewRest (s : State) (a : Nat) (w : Word) : (s.setShadow a w).slewRest = s.slewRest := rfl
@[simp] theorem State.setShadow_job (s : State) (a : Nat) (w : Word) : (s.setShadow a w).job = s.job := rfl
@[simp] theorem State.setShadow_qps (s : State) (a : Nat) (w : Word) : (s.setShadow a w).qps = s.qps := rfl
@[simp] theorem State.setShadow_boot (s : State) (a : Nat) (w : Word) : (s.setShadow a w).boot = s.boot := rfl
@[simp] theorem State.setShadow_stackMem (s : State) (a : Nat) (w : Word) : (s.setShadow a w).stackMem = s.stackMem := rfl
@[simp] theorem State.setShadow_sessions (s : State) (a : Nat) (w : Word) : (s.setShadow a w).sessions = s.sessions := rfl
@[simp] theorem State.setShadow_recovery (s : State) (a : Nat) (w : Word) : (s.setShadow a w).recovery = s.recovery := rfl
@[simp] theorem State.setShadow_tick (s : State) (a : Nat) (w : Word) : (s.setShadow a w).tick = s.tick := rfl
@[simp] theorem State.setShadow_clock (s : State) (a : Nat) (w : Word) : (s.setShadow a w).clock = s.clock := rfl

/-! ### What `State.setTbl` leaves alone -/

@[simp] theorem State.setTbl_pending (s : State) (k : Nat) (w : Word) : (s.setTbl k w).pending = s.pending := rfl
@[simp] theorem State.setTbl_out (s : State) (k : Nat) (w : Word) : (s.setTbl k w).out = s.out := rfl
@[simp] theorem State.setTbl_draws (s : State) (k : Nat) (w : Word) : (s.setTbl k w).draws = s.draws := rfl
@[simp] theorem State.setTbl_mode (s : State) (k : Nat) (w : Word) : (s.setTbl k w).mode = s.mode := rfl
@[simp] theorem State.setTbl_regs (s : State) (k : Nat) (w : Word) : (s.setTbl k w).regs = s.regs := rfl
@[simp] theorem State.setTbl_shadowRegs (s : State) (k : Nat) (w : Word) : (s.setTbl k w).shadowRegs = s.shadowRegs := rfl
@[simp] theorem State.setTbl_tblShadow (s : State) (k : Nat) (w : Word) : (s.setTbl k w).tblShadow = s.tblShadow := rfl
@[simp] theorem State.setTbl_rwc (s : State) (k : Nat) (w : Word) : (s.setTbl k w).rwc = s.rwc := rfl
@[simp] theorem State.setTbl_tblMaster (s : State) (k : Nat) (w : Word) : (s.setTbl k w).tblMaster = s.tblMaster := rfl
@[simp] theorem State.setTbl_hiLatch (s : State) (k : Nat) (w : Word) : (s.setTbl k w).hiLatch = s.hiLatch := rfl
@[simp] theorem State.setTbl_tiles (s : State) (k : Nat) (w : Word) : (s.setTbl k w).tiles = s.tiles := rfl
@[simp] theorem State.setTbl_routers (s : State) (k : Nat) (w : Word) : (s.setTbl k w).routers = s.routers := rfl
@[simp] theorem State.setTbl_flights (s : State) (k : Nat) (w : Word) : (s.setTbl k w).flights = s.flights := rfl
@[simp] theorem State.setTbl_ports (s : State) (k : Nat) (w : Word) : (s.setTbl k w).ports = s.ports := rfl
@[simp] theorem State.setTbl_hearth (s : State) (k : Nat) (w : Word) : (s.setTbl k w).hearth = s.hearth := rfl
@[simp] theorem State.setTbl_light (s : State) (k : Nat) (w : Word) : (s.setTbl k w).light = s.light := rfl
@[simp] theorem State.setTbl_thermal (s : State) (k : Nat) (w : Word) : (s.setTbl k w).thermal = s.thermal := rfl
@[simp] theorem State.setTbl_mailbox (s : State) (k : Nat) (w : Word) : (s.setTbl k w).mailbox = s.mailbox := rfl
@[simp] theorem State.setTbl_glove (s : State) (k : Nat) (w : Word) : (s.setTbl k w).glove = s.glove := rfl
@[simp] theorem State.setTbl_host (s : State) (k : Nat) (w : Word) : (s.setTbl k w).host = s.host := rfl
@[simp] theorem State.setTbl_fabric (s : State) (k : Nat) (w : Word) : (s.setTbl k w).fabric = s.fabric := rfl
@[simp] theorem State.setTbl_maps (s : State) (k : Nat) (w : Word) : (s.setTbl k w).maps = s.maps := rfl
@[simp] theorem State.setTbl_slew (s : State) (k : Nat) (w : Word) : (s.setTbl k w).slew = s.slew := rfl
@[simp] theorem State.setTbl_slewRest (s : State) (k : Nat) (w : Word) : (s.setTbl k w).slewRest = s.slewRest := rfl
@[simp] theorem State.setTbl_job (s : State) (k : Nat) (w : Word) : (s.setTbl k w).job = s.job := rfl
@[simp] theorem State.setTbl_qps (s : State) (k : Nat) (w : Word) : (s.setTbl k w).qps = s.qps := rfl
@[simp] theorem State.setTbl_boot (s : State) (k : Nat) (w : Word) : (s.setTbl k w).boot = s.boot := rfl
@[simp] theorem State.setTbl_stackMem (s : State) (k : Nat) (w : Word) : (s.setTbl k w).stackMem = s.stackMem := rfl
@[simp] theorem State.setTbl_sessions (s : State) (k : Nat) (w : Word) : (s.setTbl k w).sessions = s.sessions := rfl
@[simp] theorem State.setTbl_recovery (s : State) (k : Nat) (w : Word) : (s.setTbl k w).recovery = s.recovery := rfl
@[simp] theorem State.setTbl_tick (s : State) (k : Nat) (w : Word) : (s.setTbl k w).tick = s.tick := rfl
@[simp] theorem State.setTbl_clock (s : State) (k : Nat) (w : Word) : (s.setTbl k w).clock = s.clock := rfl

/-! ### What `State.setTblShadow` leaves alone -/

@[simp] theorem State.setTblShadow_pending (s : State) (k : Nat) (w : Word) : (s.setTblShadow k w).pending = s.pending := rfl
@[simp] theorem State.setTblShadow_out (s : State) (k : Nat) (w : Word) : (s.setTblShadow k w).out = s.out := rfl
@[simp] theorem State.setTblShadow_draws (s : State) (k : Nat) (w : Word) : (s.setTblShadow k w).draws = s.draws := rfl
@[simp] theorem State.setTblShadow_mode (s : State) (k : Nat) (w : Word) : (s.setTblShadow k w).mode = s.mode := rfl
@[simp] theorem State.setTblShadow_regs (s : State) (k : Nat) (w : Word) : (s.setTblShadow k w).regs = s.regs := rfl
@[simp] theorem State.setTblShadow_shadowRegs (s : State) (k : Nat) (w : Word) : (s.setTblShadow k w).shadowRegs = s.shadowRegs := rfl
@[simp] theorem State.setTblShadow_tbl (s : State) (k : Nat) (w : Word) : (s.setTblShadow k w).tbl = s.tbl := rfl
@[simp] theorem State.setTblShadow_rwc (s : State) (k : Nat) (w : Word) : (s.setTblShadow k w).rwc = s.rwc := rfl
@[simp] theorem State.setTblShadow_tblMaster (s : State) (k : Nat) (w : Word) : (s.setTblShadow k w).tblMaster = s.tblMaster := rfl
@[simp] theorem State.setTblShadow_hiLatch (s : State) (k : Nat) (w : Word) : (s.setTblShadow k w).hiLatch = s.hiLatch := rfl
@[simp] theorem State.setTblShadow_tiles (s : State) (k : Nat) (w : Word) : (s.setTblShadow k w).tiles = s.tiles := rfl
@[simp] theorem State.setTblShadow_routers (s : State) (k : Nat) (w : Word) : (s.setTblShadow k w).routers = s.routers := rfl
@[simp] theorem State.setTblShadow_flights (s : State) (k : Nat) (w : Word) : (s.setTblShadow k w).flights = s.flights := rfl
@[simp] theorem State.setTblShadow_ports (s : State) (k : Nat) (w : Word) : (s.setTblShadow k w).ports = s.ports := rfl
@[simp] theorem State.setTblShadow_hearth (s : State) (k : Nat) (w : Word) : (s.setTblShadow k w).hearth = s.hearth := rfl
@[simp] theorem State.setTblShadow_light (s : State) (k : Nat) (w : Word) : (s.setTblShadow k w).light = s.light := rfl
@[simp] theorem State.setTblShadow_thermal (s : State) (k : Nat) (w : Word) : (s.setTblShadow k w).thermal = s.thermal := rfl
@[simp] theorem State.setTblShadow_mailbox (s : State) (k : Nat) (w : Word) : (s.setTblShadow k w).mailbox = s.mailbox := rfl
@[simp] theorem State.setTblShadow_glove (s : State) (k : Nat) (w : Word) : (s.setTblShadow k w).glove = s.glove := rfl
@[simp] theorem State.setTblShadow_host (s : State) (k : Nat) (w : Word) : (s.setTblShadow k w).host = s.host := rfl
@[simp] theorem State.setTblShadow_fabric (s : State) (k : Nat) (w : Word) : (s.setTblShadow k w).fabric = s.fabric := rfl
@[simp] theorem State.setTblShadow_maps (s : State) (k : Nat) (w : Word) : (s.setTblShadow k w).maps = s.maps := rfl
@[simp] theorem State.setTblShadow_slew (s : State) (k : Nat) (w : Word) : (s.setTblShadow k w).slew = s.slew := rfl
@[simp] theorem State.setTblShadow_slewRest (s : State) (k : Nat) (w : Word) : (s.setTblShadow k w).slewRest = s.slewRest := rfl
@[simp] theorem State.setTblShadow_job (s : State) (k : Nat) (w : Word) : (s.setTblShadow k w).job = s.job := rfl
@[simp] theorem State.setTblShadow_qps (s : State) (k : Nat) (w : Word) : (s.setTblShadow k w).qps = s.qps := rfl
@[simp] theorem State.setTblShadow_boot (s : State) (k : Nat) (w : Word) : (s.setTblShadow k w).boot = s.boot := rfl
@[simp] theorem State.setTblShadow_stackMem (s : State) (k : Nat) (w : Word) : (s.setTblShadow k w).stackMem = s.stackMem := rfl
@[simp] theorem State.setTblShadow_sessions (s : State) (k : Nat) (w : Word) : (s.setTblShadow k w).sessions = s.sessions := rfl
@[simp] theorem State.setTblShadow_recovery (s : State) (k : Nat) (w : Word) : (s.setTblShadow k w).recovery = s.recovery := rfl
@[simp] theorem State.setTblShadow_tick (s : State) (k : Nat) (w : Word) : (s.setTblShadow k w).tick = s.tick := rfl
@[simp] theorem State.setTblShadow_clock (s : State) (k : Nat) (w : Word) : (s.setTblShadow k w).clock = s.clock := rfl

/-! ### What `State.setTile` leaves alone -/

@[simp] theorem State.setTile_pending (s : State) (k : Nat) (t : Tile) : (s.setTile k t).pending = s.pending := rfl
@[simp] theorem State.setTile_out (s : State) (k : Nat) (t : Tile) : (s.setTile k t).out = s.out := rfl
@[simp] theorem State.setTile_draws (s : State) (k : Nat) (t : Tile) : (s.setTile k t).draws = s.draws := rfl
@[simp] theorem State.setTile_mode (s : State) (k : Nat) (t : Tile) : (s.setTile k t).mode = s.mode := rfl
@[simp] theorem State.setTile_regs (s : State) (k : Nat) (t : Tile) : (s.setTile k t).regs = s.regs := rfl
@[simp] theorem State.setTile_shadowRegs (s : State) (k : Nat) (t : Tile) : (s.setTile k t).shadowRegs = s.shadowRegs := rfl
@[simp] theorem State.setTile_tbl (s : State) (k : Nat) (t : Tile) : (s.setTile k t).tbl = s.tbl := rfl
@[simp] theorem State.setTile_tblShadow (s : State) (k : Nat) (t : Tile) : (s.setTile k t).tblShadow = s.tblShadow := rfl
@[simp] theorem State.setTile_rwc (s : State) (k : Nat) (t : Tile) : (s.setTile k t).rwc = s.rwc := rfl
@[simp] theorem State.setTile_tblMaster (s : State) (k : Nat) (t : Tile) : (s.setTile k t).tblMaster = s.tblMaster := rfl
@[simp] theorem State.setTile_hiLatch (s : State) (k : Nat) (t : Tile) : (s.setTile k t).hiLatch = s.hiLatch := rfl
@[simp] theorem State.setTile_routers (s : State) (k : Nat) (t : Tile) : (s.setTile k t).routers = s.routers := rfl
@[simp] theorem State.setTile_flights (s : State) (k : Nat) (t : Tile) : (s.setTile k t).flights = s.flights := rfl
@[simp] theorem State.setTile_ports (s : State) (k : Nat) (t : Tile) : (s.setTile k t).ports = s.ports := rfl
@[simp] theorem State.setTile_hearth (s : State) (k : Nat) (t : Tile) : (s.setTile k t).hearth = s.hearth := rfl
@[simp] theorem State.setTile_light (s : State) (k : Nat) (t : Tile) : (s.setTile k t).light = s.light := rfl
@[simp] theorem State.setTile_thermal (s : State) (k : Nat) (t : Tile) : (s.setTile k t).thermal = s.thermal := rfl
@[simp] theorem State.setTile_mailbox (s : State) (k : Nat) (t : Tile) : (s.setTile k t).mailbox = s.mailbox := rfl
@[simp] theorem State.setTile_glove (s : State) (k : Nat) (t : Tile) : (s.setTile k t).glove = s.glove := rfl
@[simp] theorem State.setTile_host (s : State) (k : Nat) (t : Tile) : (s.setTile k t).host = s.host := rfl
@[simp] theorem State.setTile_fabric (s : State) (k : Nat) (t : Tile) : (s.setTile k t).fabric = s.fabric := rfl
@[simp] theorem State.setTile_maps (s : State) (k : Nat) (t : Tile) : (s.setTile k t).maps = s.maps := rfl
@[simp] theorem State.setTile_slew (s : State) (k : Nat) (t : Tile) : (s.setTile k t).slew = s.slew := rfl
@[simp] theorem State.setTile_slewRest (s : State) (k : Nat) (t : Tile) : (s.setTile k t).slewRest = s.slewRest := rfl
@[simp] theorem State.setTile_job (s : State) (k : Nat) (t : Tile) : (s.setTile k t).job = s.job := rfl
@[simp] theorem State.setTile_qps (s : State) (k : Nat) (t : Tile) : (s.setTile k t).qps = s.qps := rfl
@[simp] theorem State.setTile_boot (s : State) (k : Nat) (t : Tile) : (s.setTile k t).boot = s.boot := rfl
@[simp] theorem State.setTile_stackMem (s : State) (k : Nat) (t : Tile) : (s.setTile k t).stackMem = s.stackMem := rfl
@[simp] theorem State.setTile_sessions (s : State) (k : Nat) (t : Tile) : (s.setTile k t).sessions = s.sessions := rfl
@[simp] theorem State.setTile_recovery (s : State) (k : Nat) (t : Tile) : (s.setTile k t).recovery = s.recovery := rfl
@[simp] theorem State.setTile_tick (s : State) (k : Nat) (t : Tile) : (s.setTile k t).tick = s.tick := rfl
@[simp] theorem State.setTile_clock (s : State) (k : Nat) (t : Tile) : (s.setTile k t).clock = s.clock := rfl

/-! ### What `State.setRouter` leaves alone -/

@[simp] theorem State.setRouter_pending (s : State) (k : Nat) (r : Router) : (s.setRouter k r).pending = s.pending := rfl
@[simp] theorem State.setRouter_out (s : State) (k : Nat) (r : Router) : (s.setRouter k r).out = s.out := rfl
@[simp] theorem State.setRouter_draws (s : State) (k : Nat) (r : Router) : (s.setRouter k r).draws = s.draws := rfl
@[simp] theorem State.setRouter_mode (s : State) (k : Nat) (r : Router) : (s.setRouter k r).mode = s.mode := rfl
@[simp] theorem State.setRouter_regs (s : State) (k : Nat) (r : Router) : (s.setRouter k r).regs = s.regs := rfl
@[simp] theorem State.setRouter_shadowRegs (s : State) (k : Nat) (r : Router) : (s.setRouter k r).shadowRegs = s.shadowRegs := rfl
@[simp] theorem State.setRouter_tbl (s : State) (k : Nat) (r : Router) : (s.setRouter k r).tbl = s.tbl := rfl
@[simp] theorem State.setRouter_tblShadow (s : State) (k : Nat) (r : Router) : (s.setRouter k r).tblShadow = s.tblShadow := rfl
@[simp] theorem State.setRouter_rwc (s : State) (k : Nat) (r : Router) : (s.setRouter k r).rwc = s.rwc := rfl
@[simp] theorem State.setRouter_tblMaster (s : State) (k : Nat) (r : Router) : (s.setRouter k r).tblMaster = s.tblMaster := rfl
@[simp] theorem State.setRouter_hiLatch (s : State) (k : Nat) (r : Router) : (s.setRouter k r).hiLatch = s.hiLatch := rfl
@[simp] theorem State.setRouter_tiles (s : State) (k : Nat) (r : Router) : (s.setRouter k r).tiles = s.tiles := rfl
@[simp] theorem State.setRouter_flights (s : State) (k : Nat) (r : Router) : (s.setRouter k r).flights = s.flights := rfl
@[simp] theorem State.setRouter_ports (s : State) (k : Nat) (r : Router) : (s.setRouter k r).ports = s.ports := rfl
@[simp] theorem State.setRouter_hearth (s : State) (k : Nat) (r : Router) : (s.setRouter k r).hearth = s.hearth := rfl
@[simp] theorem State.setRouter_light (s : State) (k : Nat) (r : Router) : (s.setRouter k r).light = s.light := rfl
@[simp] theorem State.setRouter_thermal (s : State) (k : Nat) (r : Router) : (s.setRouter k r).thermal = s.thermal := rfl
@[simp] theorem State.setRouter_mailbox (s : State) (k : Nat) (r : Router) : (s.setRouter k r).mailbox = s.mailbox := rfl
@[simp] theorem State.setRouter_glove (s : State) (k : Nat) (r : Router) : (s.setRouter k r).glove = s.glove := rfl
@[simp] theorem State.setRouter_host (s : State) (k : Nat) (r : Router) : (s.setRouter k r).host = s.host := rfl
@[simp] theorem State.setRouter_fabric (s : State) (k : Nat) (r : Router) : (s.setRouter k r).fabric = s.fabric := rfl
@[simp] theorem State.setRouter_maps (s : State) (k : Nat) (r : Router) : (s.setRouter k r).maps = s.maps := rfl
@[simp] theorem State.setRouter_slew (s : State) (k : Nat) (r : Router) : (s.setRouter k r).slew = s.slew := rfl
@[simp] theorem State.setRouter_slewRest (s : State) (k : Nat) (r : Router) : (s.setRouter k r).slewRest = s.slewRest := rfl
@[simp] theorem State.setRouter_job (s : State) (k : Nat) (r : Router) : (s.setRouter k r).job = s.job := rfl
@[simp] theorem State.setRouter_qps (s : State) (k : Nat) (r : Router) : (s.setRouter k r).qps = s.qps := rfl
@[simp] theorem State.setRouter_boot (s : State) (k : Nat) (r : Router) : (s.setRouter k r).boot = s.boot := rfl
@[simp] theorem State.setRouter_stackMem (s : State) (k : Nat) (r : Router) : (s.setRouter k r).stackMem = s.stackMem := rfl
@[simp] theorem State.setRouter_sessions (s : State) (k : Nat) (r : Router) : (s.setRouter k r).sessions = s.sessions := rfl
@[simp] theorem State.setRouter_recovery (s : State) (k : Nat) (r : Router) : (s.setRouter k r).recovery = s.recovery := rfl
@[simp] theorem State.setRouter_tick (s : State) (k : Nat) (r : Router) : (s.setRouter k r).tick = s.tick := rfl
@[simp] theorem State.setRouter_clock (s : State) (k : Nat) (r : Router) : (s.setRouter k r).clock = s.clock := rfl

/-! ### What `State.setPort` leaves alone -/

@[simp] theorem State.setPort_pending (s : State) (k : Nat) (x : HPort) : (s.setPort k x).pending = s.pending := rfl
@[simp] theorem State.setPort_out (s : State) (k : Nat) (x : HPort) : (s.setPort k x).out = s.out := rfl
@[simp] theorem State.setPort_draws (s : State) (k : Nat) (x : HPort) : (s.setPort k x).draws = s.draws := rfl
@[simp] theorem State.setPort_mode (s : State) (k : Nat) (x : HPort) : (s.setPort k x).mode = s.mode := rfl
@[simp] theorem State.setPort_regs (s : State) (k : Nat) (x : HPort) : (s.setPort k x).regs = s.regs := rfl
@[simp] theorem State.setPort_shadowRegs (s : State) (k : Nat) (x : HPort) : (s.setPort k x).shadowRegs = s.shadowRegs := rfl
@[simp] theorem State.setPort_tbl (s : State) (k : Nat) (x : HPort) : (s.setPort k x).tbl = s.tbl := rfl
@[simp] theorem State.setPort_tblShadow (s : State) (k : Nat) (x : HPort) : (s.setPort k x).tblShadow = s.tblShadow := rfl
@[simp] theorem State.setPort_rwc (s : State) (k : Nat) (x : HPort) : (s.setPort k x).rwc = s.rwc := rfl
@[simp] theorem State.setPort_tblMaster (s : State) (k : Nat) (x : HPort) : (s.setPort k x).tblMaster = s.tblMaster := rfl
@[simp] theorem State.setPort_hiLatch (s : State) (k : Nat) (x : HPort) : (s.setPort k x).hiLatch = s.hiLatch := rfl
@[simp] theorem State.setPort_tiles (s : State) (k : Nat) (x : HPort) : (s.setPort k x).tiles = s.tiles := rfl
@[simp] theorem State.setPort_routers (s : State) (k : Nat) (x : HPort) : (s.setPort k x).routers = s.routers := rfl
@[simp] theorem State.setPort_flights (s : State) (k : Nat) (x : HPort) : (s.setPort k x).flights = s.flights := rfl
@[simp] theorem State.setPort_hearth (s : State) (k : Nat) (x : HPort) : (s.setPort k x).hearth = s.hearth := rfl
@[simp] theorem State.setPort_light (s : State) (k : Nat) (x : HPort) : (s.setPort k x).light = s.light := rfl
@[simp] theorem State.setPort_thermal (s : State) (k : Nat) (x : HPort) : (s.setPort k x).thermal = s.thermal := rfl
@[simp] theorem State.setPort_mailbox (s : State) (k : Nat) (x : HPort) : (s.setPort k x).mailbox = s.mailbox := rfl
@[simp] theorem State.setPort_glove (s : State) (k : Nat) (x : HPort) : (s.setPort k x).glove = s.glove := rfl
@[simp] theorem State.setPort_host (s : State) (k : Nat) (x : HPort) : (s.setPort k x).host = s.host := rfl
@[simp] theorem State.setPort_fabric (s : State) (k : Nat) (x : HPort) : (s.setPort k x).fabric = s.fabric := rfl
@[simp] theorem State.setPort_maps (s : State) (k : Nat) (x : HPort) : (s.setPort k x).maps = s.maps := rfl
@[simp] theorem State.setPort_slew (s : State) (k : Nat) (x : HPort) : (s.setPort k x).slew = s.slew := rfl
@[simp] theorem State.setPort_slewRest (s : State) (k : Nat) (x : HPort) : (s.setPort k x).slewRest = s.slewRest := rfl
@[simp] theorem State.setPort_job (s : State) (k : Nat) (x : HPort) : (s.setPort k x).job = s.job := rfl
@[simp] theorem State.setPort_qps (s : State) (k : Nat) (x : HPort) : (s.setPort k x).qps = s.qps := rfl
@[simp] theorem State.setPort_boot (s : State) (k : Nat) (x : HPort) : (s.setPort k x).boot = s.boot := rfl
@[simp] theorem State.setPort_stackMem (s : State) (k : Nat) (x : HPort) : (s.setPort k x).stackMem = s.stackMem := rfl
@[simp] theorem State.setPort_sessions (s : State) (k : Nat) (x : HPort) : (s.setPort k x).sessions = s.sessions := rfl
@[simp] theorem State.setPort_recovery (s : State) (k : Nat) (x : HPort) : (s.setPort k x).recovery = s.recovery := rfl
@[simp] theorem State.setPort_tick (s : State) (k : Nat) (x : HPort) : (s.setPort k x).tick = s.tick := rfl
@[simp] theorem State.setPort_clock (s : State) (k : Nat) (x : HPort) : (s.setPort k x).clock = s.clock := rfl

/-! ### What `State.setFport` leaves alone -/

@[simp] theorem State.setFport_pending (s : State) (k : Nat) (x : FabPort) : (s.setFport k x).pending = s.pending := rfl
@[simp] theorem State.setFport_out (s : State) (k : Nat) (x : FabPort) : (s.setFport k x).out = s.out := rfl
@[simp] theorem State.setFport_draws (s : State) (k : Nat) (x : FabPort) : (s.setFport k x).draws = s.draws := rfl
@[simp] theorem State.setFport_mode (s : State) (k : Nat) (x : FabPort) : (s.setFport k x).mode = s.mode := rfl
@[simp] theorem State.setFport_regs (s : State) (k : Nat) (x : FabPort) : (s.setFport k x).regs = s.regs := rfl
@[simp] theorem State.setFport_shadowRegs (s : State) (k : Nat) (x : FabPort) : (s.setFport k x).shadowRegs = s.shadowRegs := rfl
@[simp] theorem State.setFport_tbl (s : State) (k : Nat) (x : FabPort) : (s.setFport k x).tbl = s.tbl := rfl
@[simp] theorem State.setFport_tblShadow (s : State) (k : Nat) (x : FabPort) : (s.setFport k x).tblShadow = s.tblShadow := rfl
@[simp] theorem State.setFport_rwc (s : State) (k : Nat) (x : FabPort) : (s.setFport k x).rwc = s.rwc := rfl
@[simp] theorem State.setFport_tblMaster (s : State) (k : Nat) (x : FabPort) : (s.setFport k x).tblMaster = s.tblMaster := rfl
@[simp] theorem State.setFport_hiLatch (s : State) (k : Nat) (x : FabPort) : (s.setFport k x).hiLatch = s.hiLatch := rfl
@[simp] theorem State.setFport_tiles (s : State) (k : Nat) (x : FabPort) : (s.setFport k x).tiles = s.tiles := rfl
@[simp] theorem State.setFport_routers (s : State) (k : Nat) (x : FabPort) : (s.setFport k x).routers = s.routers := rfl
@[simp] theorem State.setFport_flights (s : State) (k : Nat) (x : FabPort) : (s.setFport k x).flights = s.flights := rfl
@[simp] theorem State.setFport_ports (s : State) (k : Nat) (x : FabPort) : (s.setFport k x).ports = s.ports := rfl
@[simp] theorem State.setFport_hearth (s : State) (k : Nat) (x : FabPort) : (s.setFport k x).hearth = s.hearth := rfl
@[simp] theorem State.setFport_light (s : State) (k : Nat) (x : FabPort) : (s.setFport k x).light = s.light := rfl
@[simp] theorem State.setFport_thermal (s : State) (k : Nat) (x : FabPort) : (s.setFport k x).thermal = s.thermal := rfl
@[simp] theorem State.setFport_mailbox (s : State) (k : Nat) (x : FabPort) : (s.setFport k x).mailbox = s.mailbox := rfl
@[simp] theorem State.setFport_glove (s : State) (k : Nat) (x : FabPort) : (s.setFport k x).glove = s.glove := rfl
@[simp] theorem State.setFport_host (s : State) (k : Nat) (x : FabPort) : (s.setFport k x).host = s.host := rfl
@[simp] theorem State.setFport_maps (s : State) (k : Nat) (x : FabPort) : (s.setFport k x).maps = s.maps := rfl
@[simp] theorem State.setFport_slew (s : State) (k : Nat) (x : FabPort) : (s.setFport k x).slew = s.slew := rfl
@[simp] theorem State.setFport_slewRest (s : State) (k : Nat) (x : FabPort) : (s.setFport k x).slewRest = s.slewRest := rfl
@[simp] theorem State.setFport_job (s : State) (k : Nat) (x : FabPort) : (s.setFport k x).job = s.job := rfl
@[simp] theorem State.setFport_qps (s : State) (k : Nat) (x : FabPort) : (s.setFport k x).qps = s.qps := rfl
@[simp] theorem State.setFport_boot (s : State) (k : Nat) (x : FabPort) : (s.setFport k x).boot = s.boot := rfl
@[simp] theorem State.setFport_stackMem (s : State) (k : Nat) (x : FabPort) : (s.setFport k x).stackMem = s.stackMem := rfl
@[simp] theorem State.setFport_sessions (s : State) (k : Nat) (x : FabPort) : (s.setFport k x).sessions = s.sessions := rfl
@[simp] theorem State.setFport_recovery (s : State) (k : Nat) (x : FabPort) : (s.setFport k x).recovery = s.recovery := rfl
@[simp] theorem State.setFport_tick (s : State) (k : Nat) (x : FabPort) : (s.setFport k x).tick = s.tick := rfl
@[simp] theorem State.setFport_clock (s : State) (k : Nat) (x : FabPort) : (s.setFport k x).clock = s.clock := rfl

/-! ### What `State.setStack` leaves alone -/

@[simp] theorem State.setStack_pending (s : State) (k : Nat) (x : MemStack) : (s.setStack k x).pending = s.pending := rfl
@[simp] theorem State.setStack_out (s : State) (k : Nat) (x : MemStack) : (s.setStack k x).out = s.out := rfl
@[simp] theorem State.setStack_draws (s : State) (k : Nat) (x : MemStack) : (s.setStack k x).draws = s.draws := rfl
@[simp] theorem State.setStack_mode (s : State) (k : Nat) (x : MemStack) : (s.setStack k x).mode = s.mode := rfl
@[simp] theorem State.setStack_regs (s : State) (k : Nat) (x : MemStack) : (s.setStack k x).regs = s.regs := rfl
@[simp] theorem State.setStack_shadowRegs (s : State) (k : Nat) (x : MemStack) : (s.setStack k x).shadowRegs = s.shadowRegs := rfl
@[simp] theorem State.setStack_tbl (s : State) (k : Nat) (x : MemStack) : (s.setStack k x).tbl = s.tbl := rfl
@[simp] theorem State.setStack_tblShadow (s : State) (k : Nat) (x : MemStack) : (s.setStack k x).tblShadow = s.tblShadow := rfl
@[simp] theorem State.setStack_rwc (s : State) (k : Nat) (x : MemStack) : (s.setStack k x).rwc = s.rwc := rfl
@[simp] theorem State.setStack_tblMaster (s : State) (k : Nat) (x : MemStack) : (s.setStack k x).tblMaster = s.tblMaster := rfl
@[simp] theorem State.setStack_hiLatch (s : State) (k : Nat) (x : MemStack) : (s.setStack k x).hiLatch = s.hiLatch := rfl
@[simp] theorem State.setStack_tiles (s : State) (k : Nat) (x : MemStack) : (s.setStack k x).tiles = s.tiles := rfl
@[simp] theorem State.setStack_routers (s : State) (k : Nat) (x : MemStack) : (s.setStack k x).routers = s.routers := rfl
@[simp] theorem State.setStack_flights (s : State) (k : Nat) (x : MemStack) : (s.setStack k x).flights = s.flights := rfl
@[simp] theorem State.setStack_ports (s : State) (k : Nat) (x : MemStack) : (s.setStack k x).ports = s.ports := rfl
@[simp] theorem State.setStack_hearth (s : State) (k : Nat) (x : MemStack) : (s.setStack k x).hearth = s.hearth := rfl
@[simp] theorem State.setStack_light (s : State) (k : Nat) (x : MemStack) : (s.setStack k x).light = s.light := rfl
@[simp] theorem State.setStack_thermal (s : State) (k : Nat) (x : MemStack) : (s.setStack k x).thermal = s.thermal := rfl
@[simp] theorem State.setStack_mailbox (s : State) (k : Nat) (x : MemStack) : (s.setStack k x).mailbox = s.mailbox := rfl
@[simp] theorem State.setStack_glove (s : State) (k : Nat) (x : MemStack) : (s.setStack k x).glove = s.glove := rfl
@[simp] theorem State.setStack_host (s : State) (k : Nat) (x : MemStack) : (s.setStack k x).host = s.host := rfl
@[simp] theorem State.setStack_fabric (s : State) (k : Nat) (x : MemStack) : (s.setStack k x).fabric = s.fabric := rfl
@[simp] theorem State.setStack_maps (s : State) (k : Nat) (x : MemStack) : (s.setStack k x).maps = s.maps := rfl
@[simp] theorem State.setStack_slew (s : State) (k : Nat) (x : MemStack) : (s.setStack k x).slew = s.slew := rfl
@[simp] theorem State.setStack_slewRest (s : State) (k : Nat) (x : MemStack) : (s.setStack k x).slewRest = s.slewRest := rfl
@[simp] theorem State.setStack_job (s : State) (k : Nat) (x : MemStack) : (s.setStack k x).job = s.job := rfl
@[simp] theorem State.setStack_qps (s : State) (k : Nat) (x : MemStack) : (s.setStack k x).qps = s.qps := rfl
@[simp] theorem State.setStack_boot (s : State) (k : Nat) (x : MemStack) : (s.setStack k x).boot = s.boot := rfl
@[simp] theorem State.setStack_sessions (s : State) (k : Nat) (x : MemStack) : (s.setStack k x).sessions = s.sessions := rfl
@[simp] theorem State.setStack_recovery (s : State) (k : Nat) (x : MemStack) : (s.setStack k x).recovery = s.recovery := rfl
@[simp] theorem State.setStack_tick (s : State) (k : Nat) (x : MemStack) : (s.setStack k x).tick = s.tick := rfl
@[simp] theorem State.setStack_clock (s : State) (k : Nat) (x : MemStack) : (s.setStack k x).clock = s.clock := rfl

/-! ### What `State.send` leaves alone -/

@[simp] theorem State.send_pending (s : State) (m : OutMsg) : (s.send m).pending = s.pending := rfl
@[simp] theorem State.send_draws (s : State) (m : OutMsg) : (s.send m).draws = s.draws := rfl
@[simp] theorem State.send_mode (s : State) (m : OutMsg) : (s.send m).mode = s.mode := rfl
@[simp] theorem State.send_regs (s : State) (m : OutMsg) : (s.send m).regs = s.regs := rfl
@[simp] theorem State.send_shadowRegs (s : State) (m : OutMsg) : (s.send m).shadowRegs = s.shadowRegs := rfl
@[simp] theorem State.send_tbl (s : State) (m : OutMsg) : (s.send m).tbl = s.tbl := rfl
@[simp] theorem State.send_tblShadow (s : State) (m : OutMsg) : (s.send m).tblShadow = s.tblShadow := rfl
@[simp] theorem State.send_rwc (s : State) (m : OutMsg) : (s.send m).rwc = s.rwc := rfl
@[simp] theorem State.send_tblMaster (s : State) (m : OutMsg) : (s.send m).tblMaster = s.tblMaster := rfl
@[simp] theorem State.send_hiLatch (s : State) (m : OutMsg) : (s.send m).hiLatch = s.hiLatch := rfl
@[simp] theorem State.send_tiles (s : State) (m : OutMsg) : (s.send m).tiles = s.tiles := rfl
@[simp] theorem State.send_routers (s : State) (m : OutMsg) : (s.send m).routers = s.routers := rfl
@[simp] theorem State.send_flights (s : State) (m : OutMsg) : (s.send m).flights = s.flights := rfl
@[simp] theorem State.send_ports (s : State) (m : OutMsg) : (s.send m).ports = s.ports := rfl
@[simp] theorem State.send_hearth (s : State) (m : OutMsg) : (s.send m).hearth = s.hearth := rfl
@[simp] theorem State.send_light (s : State) (m : OutMsg) : (s.send m).light = s.light := rfl
@[simp] theorem State.send_thermal (s : State) (m : OutMsg) : (s.send m).thermal = s.thermal := rfl
@[simp] theorem State.send_mailbox (s : State) (m : OutMsg) : (s.send m).mailbox = s.mailbox := rfl
@[simp] theorem State.send_glove (s : State) (m : OutMsg) : (s.send m).glove = s.glove := rfl
@[simp] theorem State.send_host (s : State) (m : OutMsg) : (s.send m).host = s.host := rfl
@[simp] theorem State.send_fabric (s : State) (m : OutMsg) : (s.send m).fabric = s.fabric := rfl
@[simp] theorem State.send_maps (s : State) (m : OutMsg) : (s.send m).maps = s.maps := rfl
@[simp] theorem State.send_slew (s : State) (m : OutMsg) : (s.send m).slew = s.slew := rfl
@[simp] theorem State.send_slewRest (s : State) (m : OutMsg) : (s.send m).slewRest = s.slewRest := rfl
@[simp] theorem State.send_job (s : State) (m : OutMsg) : (s.send m).job = s.job := rfl
@[simp] theorem State.send_qps (s : State) (m : OutMsg) : (s.send m).qps = s.qps := rfl
@[simp] theorem State.send_boot (s : State) (m : OutMsg) : (s.send m).boot = s.boot := rfl
@[simp] theorem State.send_stackMem (s : State) (m : OutMsg) : (s.send m).stackMem = s.stackMem := rfl
@[simp] theorem State.send_sessions (s : State) (m : OutMsg) : (s.send m).sessions = s.sessions := rfl
@[simp] theorem State.send_recovery (s : State) (m : OutMsg) : (s.send m).recovery = s.recovery := rfl
@[simp] theorem State.send_tick (s : State) (m : OutMsg) : (s.send m).tick = s.tick := rfl
@[simp] theorem State.send_clock (s : State) (m : OutMsg) : (s.send m).clock = s.clock := rfl

/-! ### What `State.drawn` leaves alone -/

@[simp] theorem State.drawn_pending (s : State) (n : Nat) : (s.drawn n).pending = s.pending := rfl
@[simp] theorem State.drawn_out (s : State) (n : Nat) : (s.drawn n).out = s.out := rfl
@[simp] theorem State.drawn_mode (s : State) (n : Nat) : (s.drawn n).mode = s.mode := rfl
@[simp] theorem State.drawn_regs (s : State) (n : Nat) : (s.drawn n).regs = s.regs := rfl
@[simp] theorem State.drawn_shadowRegs (s : State) (n : Nat) : (s.drawn n).shadowRegs = s.shadowRegs := rfl
@[simp] theorem State.drawn_tbl (s : State) (n : Nat) : (s.drawn n).tbl = s.tbl := rfl
@[simp] theorem State.drawn_tblShadow (s : State) (n : Nat) : (s.drawn n).tblShadow = s.tblShadow := rfl
@[simp] theorem State.drawn_rwc (s : State) (n : Nat) : (s.drawn n).rwc = s.rwc := rfl
@[simp] theorem State.drawn_tblMaster (s : State) (n : Nat) : (s.drawn n).tblMaster = s.tblMaster := rfl
@[simp] theorem State.drawn_hiLatch (s : State) (n : Nat) : (s.drawn n).hiLatch = s.hiLatch := rfl
@[simp] theorem State.drawn_tiles (s : State) (n : Nat) : (s.drawn n).tiles = s.tiles := rfl
@[simp] theorem State.drawn_routers (s : State) (n : Nat) : (s.drawn n).routers = s.routers := rfl
@[simp] theorem State.drawn_flights (s : State) (n : Nat) : (s.drawn n).flights = s.flights := rfl
@[simp] theorem State.drawn_ports (s : State) (n : Nat) : (s.drawn n).ports = s.ports := rfl
@[simp] theorem State.drawn_hearth (s : State) (n : Nat) : (s.drawn n).hearth = s.hearth := rfl
@[simp] theorem State.drawn_light (s : State) (n : Nat) : (s.drawn n).light = s.light := rfl
@[simp] theorem State.drawn_thermal (s : State) (n : Nat) : (s.drawn n).thermal = s.thermal := rfl
@[simp] theorem State.drawn_mailbox (s : State) (n : Nat) : (s.drawn n).mailbox = s.mailbox := rfl
@[simp] theorem State.drawn_glove (s : State) (n : Nat) : (s.drawn n).glove = s.glove := rfl
@[simp] theorem State.drawn_host (s : State) (n : Nat) : (s.drawn n).host = s.host := rfl
@[simp] theorem State.drawn_fabric (s : State) (n : Nat) : (s.drawn n).fabric = s.fabric := rfl
@[simp] theorem State.drawn_maps (s : State) (n : Nat) : (s.drawn n).maps = s.maps := rfl
@[simp] theorem State.drawn_slew (s : State) (n : Nat) : (s.drawn n).slew = s.slew := rfl
@[simp] theorem State.drawn_slewRest (s : State) (n : Nat) : (s.drawn n).slewRest = s.slewRest := rfl
@[simp] theorem State.drawn_job (s : State) (n : Nat) : (s.drawn n).job = s.job := rfl
@[simp] theorem State.drawn_qps (s : State) (n : Nat) : (s.drawn n).qps = s.qps := rfl
@[simp] theorem State.drawn_boot (s : State) (n : Nat) : (s.drawn n).boot = s.boot := rfl
@[simp] theorem State.drawn_stackMem (s : State) (n : Nat) : (s.drawn n).stackMem = s.stackMem := rfl
@[simp] theorem State.drawn_sessions (s : State) (n : Nat) : (s.drawn n).sessions = s.sessions := rfl
@[simp] theorem State.drawn_recovery (s : State) (n : Nat) : (s.drawn n).recovery = s.recovery := rfl
@[simp] theorem State.drawn_tick (s : State) (n : Nat) : (s.drawn n).tick = s.tick := rfl
@[simp] theorem State.drawn_clock (s : State) (n : Nat) : (s.drawn n).clock = s.clock := rfl

/-! ### What `State.event` leaves alone -/

@[simp] theorem State.event_pending (s : State) (bit c : Nat) (p : List Byte) : (s.event bit c p).pending = s.pending := rfl
@[simp] theorem State.event_draws (s : State) (bit c : Nat) (p : List Byte) : (s.event bit c p).draws = s.draws := rfl
@[simp] theorem State.event_mode (s : State) (bit c : Nat) (p : List Byte) : (s.event bit c p).mode = s.mode := rfl
@[simp] theorem State.event_regs (s : State) (bit c : Nat) (p : List Byte) : (s.event bit c p).regs = s.regs := rfl
@[simp] theorem State.event_shadowRegs (s : State) (bit c : Nat) (p : List Byte) : (s.event bit c p).shadowRegs = s.shadowRegs := rfl
@[simp] theorem State.event_tbl (s : State) (bit c : Nat) (p : List Byte) : (s.event bit c p).tbl = s.tbl := rfl
@[simp] theorem State.event_tblShadow (s : State) (bit c : Nat) (p : List Byte) : (s.event bit c p).tblShadow = s.tblShadow := rfl
@[simp] theorem State.event_rwc (s : State) (bit c : Nat) (p : List Byte) : (s.event bit c p).rwc = s.rwc := rfl
@[simp] theorem State.event_tblMaster (s : State) (bit c : Nat) (p : List Byte) : (s.event bit c p).tblMaster = s.tblMaster := rfl
@[simp] theorem State.event_hiLatch (s : State) (bit c : Nat) (p : List Byte) : (s.event bit c p).hiLatch = s.hiLatch := rfl
@[simp] theorem State.event_tiles (s : State) (bit c : Nat) (p : List Byte) : (s.event bit c p).tiles = s.tiles := rfl
@[simp] theorem State.event_routers (s : State) (bit c : Nat) (p : List Byte) : (s.event bit c p).routers = s.routers := rfl
@[simp] theorem State.event_flights (s : State) (bit c : Nat) (p : List Byte) : (s.event bit c p).flights = s.flights := rfl
@[simp] theorem State.event_ports (s : State) (bit c : Nat) (p : List Byte) : (s.event bit c p).ports = s.ports := rfl
@[simp] theorem State.event_hearth (s : State) (bit c : Nat) (p : List Byte) : (s.event bit c p).hearth = s.hearth := rfl
@[simp] theorem State.event_light (s : State) (bit c : Nat) (p : List Byte) : (s.event bit c p).light = s.light := rfl
@[simp] theorem State.event_thermal (s : State) (bit c : Nat) (p : List Byte) : (s.event bit c p).thermal = s.thermal := rfl
@[simp] theorem State.event_mailbox (s : State) (bit c : Nat) (p : List Byte) : (s.event bit c p).mailbox = s.mailbox := rfl
@[simp] theorem State.event_glove (s : State) (bit c : Nat) (p : List Byte) : (s.event bit c p).glove = s.glove := rfl
@[simp] theorem State.event_host (s : State) (bit c : Nat) (p : List Byte) : (s.event bit c p).host = s.host := rfl
@[simp] theorem State.event_fabric (s : State) (bit c : Nat) (p : List Byte) : (s.event bit c p).fabric = s.fabric := rfl
@[simp] theorem State.event_maps (s : State) (bit c : Nat) (p : List Byte) : (s.event bit c p).maps = s.maps := rfl
@[simp] theorem State.event_slew (s : State) (bit c : Nat) (p : List Byte) : (s.event bit c p).slew = s.slew := rfl
@[simp] theorem State.event_slewRest (s : State) (bit c : Nat) (p : List Byte) : (s.event bit c p).slewRest = s.slewRest := rfl
@[simp] theorem State.event_job (s : State) (bit c : Nat) (p : List Byte) : (s.event bit c p).job = s.job := rfl
@[simp] theorem State.event_qps (s : State) (bit c : Nat) (p : List Byte) : (s.event bit c p).qps = s.qps := rfl
@[simp] theorem State.event_boot (s : State) (bit c : Nat) (p : List Byte) : (s.event bit c p).boot = s.boot := rfl
@[simp] theorem State.event_stackMem (s : State) (bit c : Nat) (p : List Byte) : (s.event bit c p).stackMem = s.stackMem := rfl
@[simp] theorem State.event_recovery (s : State) (bit c : Nat) (p : List Byte) : (s.event bit c p).recovery = s.recovery := rfl
@[simp] theorem State.event_tick (s : State) (bit c : Nat) (p : List Byte) : (s.event bit c p).tick = s.tick := rfl
@[simp] theorem State.event_clock (s : State) (bit c : Nat) (p : List Byte) : (s.event bit c p).clock = s.clock := rfl

/-! ### What `Tile.setThread` leaves alone -/

@[simp] theorem Tile.setThread_placed (t : Tile) (n : Nat) (x : Thread) : (t.setThread n x).placed = t.placed := rfl
@[simp] theorem Tile.setThread_loading (t : Tile) (n : Nat) (x : Thread) : (t.setThread n x).loading = t.loading := rfl
@[simp] theorem Tile.setThread_held (t : Tile) (n : Nat) (x : Thread) : (t.setThread n x).held = t.held := rfl
@[simp] theorem Tile.setThread_cycle (t : Tile) (n : Nat) (x : Thread) : (t.setThread n x).cycle = t.cycle := rfl
@[simp] theorem Tile.setThread_lastLoose (t : Tile) (n : Nat) (x : Thread) : (t.setThread n x).lastLoose = t.lastLoose := rfl
@[simp] theorem Tile.setThread_acc (t : Tile) (n : Nat) (x : Thread) : (t.setThread n x).acc = t.acc := rfl
@[simp] theorem Tile.setThread_accBad (t : Tile) (n : Nat) (x : Thread) : (t.setThread n x).accBad = t.accBad := rfl
@[simp] theorem Tile.setThread_accFrom (t : Tile) (n : Nat) (x : Thread) : (t.setThread n x).accFrom = t.accFrom := rfl
@[simp] theorem Tile.setThread_macLast (t : Tile) (n : Nat) (x : Thread) : (t.setThread n x).macLast = t.macLast := rfl
@[simp] theorem Tile.setThread_mac (t : Tile) (n : Nat) (x : Thread) : (t.setThread n x).mac = t.mac := rfl
@[simp] theorem Tile.setThread_portFree (t : Tile) (n : Nat) (x : Thread) : (t.setThread n x).portFree = t.portFree := rfl
@[simp] theorem Tile.setThread_stored (t : Tile) (n : Nat) (x : Thread) : (t.setThread n x).stored = t.stored := rfl
@[simp] theorem Tile.setThread_done (t : Tile) (n : Nat) (x : Thread) : (t.setThread n x).done = t.done := rfl
@[simp] theorem Tile.setThread_hwFault (t : Tile) (n : Nat) (x : Thread) : (t.setThread n x).hwFault = t.hwFault := rfl
@[simp] theorem Tile.setThread_checkBad (t : Tile) (n : Nat) (x : Thread) : (t.setThread n x).checkBad = t.checkBad := rfl
@[simp] theorem Tile.setThread_til (t : Tile) (n : Nat) (x : Thread) : (t.setThread n x).til = t.til := rfl
@[simp] theorem Tile.setThread_orphans (t : Tile) (n : Nat) (x : Thread) : (t.setThread n x).orphans = t.orphans := rfl
@[simp] theorem Tile.setThread_pstore (t : Tile) (n : Nat) (x : Thread) : (t.setThread n x).pstore = t.pstore := rfl
@[simp] theorem Tile.setThread_pstoreEcc (t : Tile) (n : Nat) (x : Thread) : (t.setThread n x).pstoreEcc = t.pstoreEcc := rfl
@[simp] theorem Tile.setThread_sram (t : Tile) (n : Nat) (x : Thread) : (t.setThread n x).sram = t.sram := rfl
@[simp] theorem Tile.setThread_sramEcc (t : Tile) (n : Nat) (x : Thread) : (t.setThread n x).sramEcc = t.sramEcc := rfl
@[simp] theorem Tile.setThread_sendB (t : Tile) (n : Nat) (x : Thread) : (t.setThread n x).sendB = t.sendB := rfl
@[simp] theorem Tile.setThread_sendL (t : Tile) (n : Nat) (x : Thread) : (t.setThread n x).sendL = t.sendL := rfl
@[simp] theorem Tile.setThread_ctr (t : Tile) (n : Nat) (x : Thread) : (t.setThread n x).ctr = t.ctr := rfl
@[simp] theorem Tile.setThread_granules (t : Tile) (n : Nat) (x : Thread) : (t.setThread n x).granules = t.granules := rfl

/-! ### What `Tile.setSys` leaves alone -/

@[simp] theorem Tile.setSys_placed (t : Tile) (i : Nat) (w : Word) : (t.setSys i w).placed = t.placed := rfl
@[simp] theorem Tile.setSys_loading (t : Tile) (i : Nat) (w : Word) : (t.setSys i w).loading = t.loading := rfl
@[simp] theorem Tile.setSys_held (t : Tile) (i : Nat) (w : Word) : (t.setSys i w).held = t.held := rfl
@[simp] theorem Tile.setSys_threads (t : Tile) (i : Nat) (w : Word) : (t.setSys i w).threads = t.threads := rfl
@[simp] theorem Tile.setSys_cycle (t : Tile) (i : Nat) (w : Word) : (t.setSys i w).cycle = t.cycle := rfl
@[simp] theorem Tile.setSys_lastLoose (t : Tile) (i : Nat) (w : Word) : (t.setSys i w).lastLoose = t.lastLoose := rfl
@[simp] theorem Tile.setSys_acc (t : Tile) (i : Nat) (w : Word) : (t.setSys i w).acc = t.acc := rfl
@[simp] theorem Tile.setSys_accBad (t : Tile) (i : Nat) (w : Word) : (t.setSys i w).accBad = t.accBad := rfl
@[simp] theorem Tile.setSys_accFrom (t : Tile) (i : Nat) (w : Word) : (t.setSys i w).accFrom = t.accFrom := rfl
@[simp] theorem Tile.setSys_macLast (t : Tile) (i : Nat) (w : Word) : (t.setSys i w).macLast = t.macLast := rfl
@[simp] theorem Tile.setSys_mac (t : Tile) (i : Nat) (w : Word) : (t.setSys i w).mac = t.mac := rfl
@[simp] theorem Tile.setSys_portFree (t : Tile) (i : Nat) (w : Word) : (t.setSys i w).portFree = t.portFree := rfl
@[simp] theorem Tile.setSys_stored (t : Tile) (i : Nat) (w : Word) : (t.setSys i w).stored = t.stored := rfl
@[simp] theorem Tile.setSys_done (t : Tile) (i : Nat) (w : Word) : (t.setSys i w).done = t.done := rfl
@[simp] theorem Tile.setSys_hwFault (t : Tile) (i : Nat) (w : Word) : (t.setSys i w).hwFault = t.hwFault := rfl
@[simp] theorem Tile.setSys_checkBad (t : Tile) (i : Nat) (w : Word) : (t.setSys i w).checkBad = t.checkBad := rfl
@[simp] theorem Tile.setSys_orphans (t : Tile) (i : Nat) (w : Word) : (t.setSys i w).orphans = t.orphans := rfl
@[simp] theorem Tile.setSys_pstore (t : Tile) (i : Nat) (w : Word) : (t.setSys i w).pstore = t.pstore := rfl
@[simp] theorem Tile.setSys_pstoreEcc (t : Tile) (i : Nat) (w : Word) : (t.setSys i w).pstoreEcc = t.pstoreEcc := rfl
@[simp] theorem Tile.setSys_sram (t : Tile) (i : Nat) (w : Word) : (t.setSys i w).sram = t.sram := rfl
@[simp] theorem Tile.setSys_sramEcc (t : Tile) (i : Nat) (w : Word) : (t.setSys i w).sramEcc = t.sramEcc := rfl
@[simp] theorem Tile.setSys_sendB (t : Tile) (i : Nat) (w : Word) : (t.setSys i w).sendB = t.sendB := rfl
@[simp] theorem Tile.setSys_sendL (t : Tile) (i : Nat) (w : Word) : (t.setSys i w).sendL = t.sendL := rfl
@[simp] theorem Tile.setSys_ctr (t : Tile) (i : Nat) (w : Word) : (t.setSys i w).ctr = t.ctr := rfl
@[simp] theorem Tile.setSys_granules (t : Tile) (i : Nat) (w : Word) : (t.setSys i w).granules = t.granules := rfl

/-! ### Accessors across updates of another store -/

@[simp] theorem State.shadow_setReg (s : State) (a : Nat) (w : Word) (b : Nat) : (s.setReg a w).shadow b = s.shadow b := rfl
@[simp] theorem State.tblWord_setReg (s : State) (a : Nat) (w : Word) (b : Nat) : (s.setReg a w).tblWord b = s.tblWord b := rfl
@[simp] theorem State.tblShadowWord_setReg (s : State) (a : Nat) (w : Word) (b : Nat) : (s.setReg a w).tblShadowWord b = s.tblShadowWord b := rfl
@[simp] theorem State.tile_setReg (s : State) (a : Nat) (w : Word) (j : Nat) : (s.setReg a w).tile j = s.tile j := rfl
@[simp] theorem State.router_setReg (s : State) (a : Nat) (w : Word) (j : Nat) : (s.setReg a w).router j = s.router j := rfl
@[simp] theorem State.port_setReg (s : State) (a : Nat) (w : Word) (j : Nat) : (s.setReg a w).port j = s.port j := rfl
@[simp] theorem State.fport_setReg (s : State) (a : Nat) (w : Word) (j : Nat) : (s.setReg a w).fport j = s.fport j := rfl
@[simp] theorem State.stack_setReg (s : State) (a : Nat) (w : Word) (j : Nat) : (s.setReg a w).stack j = s.stack j := rfl
@[simp] theorem State.shadow_setRegFld (s : State) (a hi lo v : Nat) (b : Nat) : (s.setRegFld a hi lo v).shadow b = s.shadow b := rfl
@[simp] theorem State.tblWord_setRegFld (s : State) (a hi lo v : Nat) (b : Nat) : (s.setRegFld a hi lo v).tblWord b = s.tblWord b := rfl
@[simp] theorem State.tblShadowWord_setRegFld (s : State) (a hi lo v : Nat) (b : Nat) : (s.setRegFld a hi lo v).tblShadowWord b = s.tblShadowWord b := rfl
@[simp] theorem State.tile_setRegFld (s : State) (a hi lo v : Nat) (j : Nat) : (s.setRegFld a hi lo v).tile j = s.tile j := rfl
@[simp] theorem State.router_setRegFld (s : State) (a hi lo v : Nat) (j : Nat) : (s.setRegFld a hi lo v).router j = s.router j := rfl
@[simp] theorem State.port_setRegFld (s : State) (a hi lo v : Nat) (j : Nat) : (s.setRegFld a hi lo v).port j = s.port j := rfl
@[simp] theorem State.fport_setRegFld (s : State) (a hi lo v : Nat) (j : Nat) : (s.setRegFld a hi lo v).fport j = s.fport j := rfl
@[simp] theorem State.stack_setRegFld (s : State) (a hi lo v : Nat) (j : Nat) : (s.setRegFld a hi lo v).stack j = s.stack j := rfl
@[simp] theorem State.shadow_orReg (s : State) (a : Nat) (m : Word) (b : Nat) : (s.orReg a m).shadow b = s.shadow b := rfl
@[simp] theorem State.tblWord_orReg (s : State) (a : Nat) (m : Word) (b : Nat) : (s.orReg a m).tblWord b = s.tblWord b := rfl
@[simp] theorem State.tblShadowWord_orReg (s : State) (a : Nat) (m : Word) (b : Nat) : (s.orReg a m).tblShadowWord b = s.tblShadowWord b := rfl
@[simp] theorem State.tile_orReg (s : State) (a : Nat) (m : Word) (j : Nat) : (s.orReg a m).tile j = s.tile j := rfl
@[simp] theorem State.router_orReg (s : State) (a : Nat) (m : Word) (j : Nat) : (s.orReg a m).router j = s.router j := rfl
@[simp] theorem State.port_orReg (s : State) (a : Nat) (m : Word) (j : Nat) : (s.orReg a m).port j = s.port j := rfl
@[simp] theorem State.fport_orReg (s : State) (a : Nat) (m : Word) (j : Nat) : (s.orReg a m).fport j = s.fport j := rfl
@[simp] theorem State.stack_orReg (s : State) (a : Nat) (m : Word) (j : Nat) : (s.orReg a m).stack j = s.stack j := rfl
@[simp] theorem State.shadow_clearReg (s : State) (a : Nat) (m : Word) (b : Nat) : (s.clearReg a m).shadow b = s.shadow b := rfl
@[simp] theorem State.tblWord_clearReg (s : State) (a : Nat) (m : Word) (b : Nat) : (s.clearReg a m).tblWord b = s.tblWord b := rfl
@[simp] theorem State.tblShadowWord_clearReg (s : State) (a : Nat) (m : Word) (b : Nat) : (s.clearReg a m).tblShadowWord b = s.tblShadowWord b := rfl
@[simp] theorem State.tile_clearReg (s : State) (a : Nat) (m : Word) (j : Nat) : (s.clearReg a m).tile j = s.tile j := rfl
@[simp] theorem State.router_clearReg (s : State) (a : Nat) (m : Word) (j : Nat) : (s.clearReg a m).router j = s.router j := rfl
@[simp] theorem State.port_clearReg (s : State) (a : Nat) (m : Word) (j : Nat) : (s.clearReg a m).port j = s.port j := rfl
@[simp] theorem State.fport_clearReg (s : State) (a : Nat) (m : Word) (j : Nat) : (s.clearReg a m).fport j = s.fport j := rfl
@[simp] theorem State.stack_clearReg (s : State) (a : Nat) (m : Word) (j : Nat) : (s.clearReg a m).stack j = s.stack j := rfl
@[simp] theorem State.shadow_bumpReg (s : State) (a hi lo k : Nat) (b : Nat) : (s.bumpReg a hi lo k).shadow b = s.shadow b := rfl
@[simp] theorem State.tblWord_bumpReg (s : State) (a hi lo k : Nat) (b : Nat) : (s.bumpReg a hi lo k).tblWord b = s.tblWord b := rfl
@[simp] theorem State.tblShadowWord_bumpReg (s : State) (a hi lo k : Nat) (b : Nat) : (s.bumpReg a hi lo k).tblShadowWord b = s.tblShadowWord b := rfl
@[simp] theorem State.tile_bumpReg (s : State) (a hi lo k : Nat) (j : Nat) : (s.bumpReg a hi lo k).tile j = s.tile j := rfl
@[simp] theorem State.router_bumpReg (s : State) (a hi lo k : Nat) (j : Nat) : (s.bumpReg a hi lo k).router j = s.router j := rfl
@[simp] theorem State.port_bumpReg (s : State) (a hi lo k : Nat) (j : Nat) : (s.bumpReg a hi lo k).port j = s.port j := rfl
@[simp] theorem State.fport_bumpReg (s : State) (a hi lo k : Nat) (j : Nat) : (s.bumpReg a hi lo k).fport j = s.fport j := rfl
@[simp] theorem State.stack_bumpReg (s : State) (a hi lo k : Nat) (j : Nat) : (s.bumpReg a hi lo k).stack j = s.stack j := rfl
@[simp] theorem State.shadow_setReg64 (s : State) (l h v : Nat) (b : Nat) : (s.setReg64 l h v).shadow b = s.shadow b := rfl
@[simp] theorem State.tblWord_setReg64 (s : State) (l h v : Nat) (b : Nat) : (s.setReg64 l h v).tblWord b = s.tblWord b := rfl
@[simp] theorem State.tblShadowWord_setReg64 (s : State) (l h v : Nat) (b : Nat) : (s.setReg64 l h v).tblShadowWord b = s.tblShadowWord b := rfl
@[simp] theorem State.tile_setReg64 (s : State) (l h v : Nat) (j : Nat) : (s.setReg64 l h v).tile j = s.tile j := rfl
@[simp] theorem State.router_setReg64 (s : State) (l h v : Nat) (j : Nat) : (s.setReg64 l h v).router j = s.router j := rfl
@[simp] theorem State.port_setReg64 (s : State) (l h v : Nat) (j : Nat) : (s.setReg64 l h v).port j = s.port j := rfl
@[simp] theorem State.fport_setReg64 (s : State) (l h v : Nat) (j : Nat) : (s.setReg64 l h v).fport j = s.fport j := rfl
@[simp] theorem State.stack_setReg64 (s : State) (l h v : Nat) (j : Nat) : (s.setReg64 l h v).stack j = s.stack j := rfl
@[simp] theorem State.reg_setShadow (s : State) (a : Nat) (w : Word) (b : Nat) : (s.setShadow a w).reg b = s.reg b := rfl
@[simp] theorem State.tblWord_setShadow (s : State) (a : Nat) (w : Word) (b : Nat) : (s.setShadow a w).tblWord b = s.tblWord b := rfl
@[simp] theorem State.tblShadowWord_setShadow (s : State) (a : Nat) (w : Word) (b : Nat) : (s.setShadow a w).tblShadowWord b = s.tblShadowWord b := rfl
@[simp] theorem State.tile_setShadow (s : State) (a : Nat) (w : Word) (j : Nat) : (s.setShadow a w).tile j = s.tile j := rfl
@[simp] theorem State.router_setShadow (s : State) (a : Nat) (w : Word) (j : Nat) : (s.setShadow a w).router j = s.router j := rfl
@[simp] theorem State.port_setShadow (s : State) (a : Nat) (w : Word) (j : Nat) : (s.setShadow a w).port j = s.port j := rfl
@[simp] theorem State.fport_setShadow (s : State) (a : Nat) (w : Word) (j : Nat) : (s.setShadow a w).fport j = s.fport j := rfl
@[simp] theorem State.stack_setShadow (s : State) (a : Nat) (w : Word) (j : Nat) : (s.setShadow a w).stack j = s.stack j := rfl
@[simp] theorem State.reg_setTbl (s : State) (k : Nat) (w : Word) (b : Nat) : (s.setTbl k w).reg b = s.reg b := rfl
@[simp] theorem State.shadow_setTbl (s : State) (k : Nat) (w : Word) (b : Nat) : (s.setTbl k w).shadow b = s.shadow b := rfl
@[simp] theorem State.tblShadowWord_setTbl (s : State) (k : Nat) (w : Word) (b : Nat) : (s.setTbl k w).tblShadowWord b = s.tblShadowWord b := rfl
@[simp] theorem State.tile_setTbl (s : State) (k : Nat) (w : Word) (j : Nat) : (s.setTbl k w).tile j = s.tile j := rfl
@[simp] theorem State.router_setTbl (s : State) (k : Nat) (w : Word) (j : Nat) : (s.setTbl k w).router j = s.router j := rfl
@[simp] theorem State.port_setTbl (s : State) (k : Nat) (w : Word) (j : Nat) : (s.setTbl k w).port j = s.port j := rfl
@[simp] theorem State.fport_setTbl (s : State) (k : Nat) (w : Word) (j : Nat) : (s.setTbl k w).fport j = s.fport j := rfl
@[simp] theorem State.stack_setTbl (s : State) (k : Nat) (w : Word) (j : Nat) : (s.setTbl k w).stack j = s.stack j := rfl
@[simp] theorem State.reg_setTblShadow (s : State) (k : Nat) (w : Word) (b : Nat) : (s.setTblShadow k w).reg b = s.reg b := rfl
@[simp] theorem State.shadow_setTblShadow (s : State) (k : Nat) (w : Word) (b : Nat) : (s.setTblShadow k w).shadow b = s.shadow b := rfl
@[simp] theorem State.tblWord_setTblShadow (s : State) (k : Nat) (w : Word) (b : Nat) : (s.setTblShadow k w).tblWord b = s.tblWord b := rfl
@[simp] theorem State.tile_setTblShadow (s : State) (k : Nat) (w : Word) (j : Nat) : (s.setTblShadow k w).tile j = s.tile j := rfl
@[simp] theorem State.router_setTblShadow (s : State) (k : Nat) (w : Word) (j : Nat) : (s.setTblShadow k w).router j = s.router j := rfl
@[simp] theorem State.port_setTblShadow (s : State) (k : Nat) (w : Word) (j : Nat) : (s.setTblShadow k w).port j = s.port j := rfl
@[simp] theorem State.fport_setTblShadow (s : State) (k : Nat) (w : Word) (j : Nat) : (s.setTblShadow k w).fport j = s.fport j := rfl
@[simp] theorem State.stack_setTblShadow (s : State) (k : Nat) (w : Word) (j : Nat) : (s.setTblShadow k w).stack j = s.stack j := rfl
@[simp] theorem State.reg_setTile (s : State) (k : Nat) (t : Tile) (b : Nat) : (s.setTile k t).reg b = s.reg b := rfl
@[simp] theorem State.shadow_setTile (s : State) (k : Nat) (t : Tile) (b : Nat) : (s.setTile k t).shadow b = s.shadow b := rfl
@[simp] theorem State.tblWord_setTile (s : State) (k : Nat) (t : Tile) (b : Nat) : (s.setTile k t).tblWord b = s.tblWord b := rfl
@[simp] theorem State.tblShadowWord_setTile (s : State) (k : Nat) (t : Tile) (b : Nat) : (s.setTile k t).tblShadowWord b = s.tblShadowWord b := rfl
@[simp] theorem State.router_setTile (s : State) (k : Nat) (t : Tile) (j : Nat) : (s.setTile k t).router j = s.router j := rfl
@[simp] theorem State.port_setTile (s : State) (k : Nat) (t : Tile) (j : Nat) : (s.setTile k t).port j = s.port j := rfl
@[simp] theorem State.fport_setTile (s : State) (k : Nat) (t : Tile) (j : Nat) : (s.setTile k t).fport j = s.fport j := rfl
@[simp] theorem State.stack_setTile (s : State) (k : Nat) (t : Tile) (j : Nat) : (s.setTile k t).stack j = s.stack j := rfl
@[simp] theorem State.reg_setRouter (s : State) (k : Nat) (r : Router) (b : Nat) : (s.setRouter k r).reg b = s.reg b := rfl
@[simp] theorem State.shadow_setRouter (s : State) (k : Nat) (r : Router) (b : Nat) : (s.setRouter k r).shadow b = s.shadow b := rfl
@[simp] theorem State.tblWord_setRouter (s : State) (k : Nat) (r : Router) (b : Nat) : (s.setRouter k r).tblWord b = s.tblWord b := rfl
@[simp] theorem State.tblShadowWord_setRouter (s : State) (k : Nat) (r : Router) (b : Nat) : (s.setRouter k r).tblShadowWord b = s.tblShadowWord b := rfl
@[simp] theorem State.tile_setRouter (s : State) (k : Nat) (r : Router) (j : Nat) : (s.setRouter k r).tile j = s.tile j := rfl
@[simp] theorem State.port_setRouter (s : State) (k : Nat) (r : Router) (j : Nat) : (s.setRouter k r).port j = s.port j := rfl
@[simp] theorem State.fport_setRouter (s : State) (k : Nat) (r : Router) (j : Nat) : (s.setRouter k r).fport j = s.fport j := rfl
@[simp] theorem State.stack_setRouter (s : State) (k : Nat) (r : Router) (j : Nat) : (s.setRouter k r).stack j = s.stack j := rfl
@[simp] theorem State.reg_setPort (s : State) (k : Nat) (x : HPort) (b : Nat) : (s.setPort k x).reg b = s.reg b := rfl
@[simp] theorem State.shadow_setPort (s : State) (k : Nat) (x : HPort) (b : Nat) : (s.setPort k x).shadow b = s.shadow b := rfl
@[simp] theorem State.tblWord_setPort (s : State) (k : Nat) (x : HPort) (b : Nat) : (s.setPort k x).tblWord b = s.tblWord b := rfl
@[simp] theorem State.tblShadowWord_setPort (s : State) (k : Nat) (x : HPort) (b : Nat) : (s.setPort k x).tblShadowWord b = s.tblShadowWord b := rfl
@[simp] theorem State.tile_setPort (s : State) (k : Nat) (x : HPort) (j : Nat) : (s.setPort k x).tile j = s.tile j := rfl
@[simp] theorem State.router_setPort (s : State) (k : Nat) (x : HPort) (j : Nat) : (s.setPort k x).router j = s.router j := rfl
@[simp] theorem State.fport_setPort (s : State) (k : Nat) (x : HPort) (j : Nat) : (s.setPort k x).fport j = s.fport j := rfl
@[simp] theorem State.stack_setPort (s : State) (k : Nat) (x : HPort) (j : Nat) : (s.setPort k x).stack j = s.stack j := rfl
@[simp] theorem State.reg_setFport (s : State) (k : Nat) (x : FabPort) (b : Nat) : (s.setFport k x).reg b = s.reg b := rfl
@[simp] theorem State.shadow_setFport (s : State) (k : Nat) (x : FabPort) (b : Nat) : (s.setFport k x).shadow b = s.shadow b := rfl
@[simp] theorem State.tblWord_setFport (s : State) (k : Nat) (x : FabPort) (b : Nat) : (s.setFport k x).tblWord b = s.tblWord b := rfl
@[simp] theorem State.tblShadowWord_setFport (s : State) (k : Nat) (x : FabPort) (b : Nat) : (s.setFport k x).tblShadowWord b = s.tblShadowWord b := rfl
@[simp] theorem State.tile_setFport (s : State) (k : Nat) (x : FabPort) (j : Nat) : (s.setFport k x).tile j = s.tile j := rfl
@[simp] theorem State.router_setFport (s : State) (k : Nat) (x : FabPort) (j : Nat) : (s.setFport k x).router j = s.router j := rfl
@[simp] theorem State.port_setFport (s : State) (k : Nat) (x : FabPort) (j : Nat) : (s.setFport k x).port j = s.port j := rfl
@[simp] theorem State.stack_setFport (s : State) (k : Nat) (x : FabPort) (j : Nat) : (s.setFport k x).stack j = s.stack j := rfl
@[simp] theorem State.reg_setStack (s : State) (k : Nat) (x : MemStack) (b : Nat) : (s.setStack k x).reg b = s.reg b := rfl
@[simp] theorem State.shadow_setStack (s : State) (k : Nat) (x : MemStack) (b : Nat) : (s.setStack k x).shadow b = s.shadow b := rfl
@[simp] theorem State.tblWord_setStack (s : State) (k : Nat) (x : MemStack) (b : Nat) : (s.setStack k x).tblWord b = s.tblWord b := rfl
@[simp] theorem State.tblShadowWord_setStack (s : State) (k : Nat) (x : MemStack) (b : Nat) : (s.setStack k x).tblShadowWord b = s.tblShadowWord b := rfl
@[simp] theorem State.tile_setStack (s : State) (k : Nat) (x : MemStack) (j : Nat) : (s.setStack k x).tile j = s.tile j := rfl
@[simp] theorem State.router_setStack (s : State) (k : Nat) (x : MemStack) (j : Nat) : (s.setStack k x).router j = s.router j := rfl
@[simp] theorem State.port_setStack (s : State) (k : Nat) (x : MemStack) (j : Nat) : (s.setStack k x).port j = s.port j := rfl
@[simp] theorem State.fport_setStack (s : State) (k : Nat) (x : MemStack) (j : Nat) : (s.setStack k x).fport j = s.fport j := rfl
@[simp] theorem State.reg_send (s : State) (m : OutMsg) (b : Nat) : (s.send m).reg b = s.reg b := rfl
@[simp] theorem State.shadow_send (s : State) (m : OutMsg) (b : Nat) : (s.send m).shadow b = s.shadow b := rfl
@[simp] theorem State.tblWord_send (s : State) (m : OutMsg) (b : Nat) : (s.send m).tblWord b = s.tblWord b := rfl
@[simp] theorem State.tblShadowWord_send (s : State) (m : OutMsg) (b : Nat) : (s.send m).tblShadowWord b = s.tblShadowWord b := rfl
@[simp] theorem State.tile_send (s : State) (m : OutMsg) (j : Nat) : (s.send m).tile j = s.tile j := rfl
@[simp] theorem State.router_send (s : State) (m : OutMsg) (j : Nat) : (s.send m).router j = s.router j := rfl
@[simp] theorem State.port_send (s : State) (m : OutMsg) (j : Nat) : (s.send m).port j = s.port j := rfl
@[simp] theorem State.fport_send (s : State) (m : OutMsg) (j : Nat) : (s.send m).fport j = s.fport j := rfl
@[simp] theorem State.stack_send (s : State) (m : OutMsg) (j : Nat) : (s.send m).stack j = s.stack j := rfl
@[simp] theorem State.reg_drawn (s : State) (n : Nat) (b : Nat) : (s.drawn n).reg b = s.reg b := rfl
@[simp] theorem State.shadow_drawn (s : State) (n : Nat) (b : Nat) : (s.drawn n).shadow b = s.shadow b := rfl
@[simp] theorem State.tblWord_drawn (s : State) (n : Nat) (b : Nat) : (s.drawn n).tblWord b = s.tblWord b := rfl
@[simp] theorem State.tblShadowWord_drawn (s : State) (n : Nat) (b : Nat) : (s.drawn n).tblShadowWord b = s.tblShadowWord b := rfl
@[simp] theorem State.tile_drawn (s : State) (n : Nat) (j : Nat) : (s.drawn n).tile j = s.tile j := rfl
@[simp] theorem State.router_drawn (s : State) (n : Nat) (j : Nat) : (s.drawn n).router j = s.router j := rfl
@[simp] theorem State.port_drawn (s : State) (n : Nat) (j : Nat) : (s.drawn n).port j = s.port j := rfl
@[simp] theorem State.fport_drawn (s : State) (n : Nat) (j : Nat) : (s.drawn n).fport j = s.fport j := rfl
@[simp] theorem State.stack_drawn (s : State) (n : Nat) (j : Nat) : (s.drawn n).stack j = s.stack j := rfl
@[simp] theorem State.reg_event (s : State) (bit c : Nat) (p : List Byte) (b : Nat) : (s.event bit c p).reg b = s.reg b := rfl
@[simp] theorem State.shadow_event (s : State) (bit c : Nat) (p : List Byte) (b : Nat) : (s.event bit c p).shadow b = s.shadow b := rfl
@[simp] theorem State.tblWord_event (s : State) (bit c : Nat) (p : List Byte) (b : Nat) : (s.event bit c p).tblWord b = s.tblWord b := rfl
@[simp] theorem State.tblShadowWord_event (s : State) (bit c : Nat) (p : List Byte) (b : Nat) : (s.event bit c p).tblShadowWord b = s.tblShadowWord b := rfl
@[simp] theorem State.tile_event (s : State) (bit c : Nat) (p : List Byte) (j : Nat) : (s.event bit c p).tile j = s.tile j := rfl
@[simp] theorem State.router_event (s : State) (bit c : Nat) (p : List Byte) (j : Nat) : (s.event bit c p).router j = s.router j := rfl
@[simp] theorem State.port_event (s : State) (bit c : Nat) (p : List Byte) (j : Nat) : (s.event bit c p).port j = s.port j := rfl
@[simp] theorem State.fport_event (s : State) (bit c : Nat) (p : List Byte) (j : Nat) : (s.event bit c p).fport j = s.fport j := rfl
@[simp] theorem State.stack_event (s : State) (bit c : Nat) (p : List Byte) (j : Nat) : (s.event bit c p).stack j = s.stack j := rfl

/-! ### The whole of an update, for statements that a state is otherwise the same -/

theorem State.event_eq (s : State) (b c : Nat) (p : List Byte) :
    { s.event b c p with sessions := s.sessions, out := s.out } = s := rfl

/-- Charging an error touches only the two marks of the tick. -/
theorem State.charge_eq (s : State) :
    { s.charge with tick := { s.charge.tick with charged := s.tick.charged, chargeNext := s.tick.chargeNext } } = s := by
  unfold State.charge; split
  · split <;> rfl
  · rfl

/-- A first-error record touches its status and info registers alone. -/
theorem State.recordFirst_reg (s : State) (st info code : Nat) (w : Word) (a : Nat) (h1 : a ≠ st) (h2 : a ≠ info) :
    (s.recordFirst st info code w).reg a = s.reg a := by
  unfold State.recordFirst; split <;> simp only [State.reg_setReg, h1, h2, if_false]

theorem State.setReg_eq (s : State) (a : Nat) (w : Word) : { s.setReg a w with regs := s.regs } = s := rfl

theorem State.setReg_setReg_eq (s : State) (a : Nat) (w : Word) (b : Nat) (v : Word) :
    { (s.setReg a w).setReg b v with regs := s.regs } = s := rfl

theorem State.recordFirst_eq (s : State) (st info code : Nat) (w : Word) : { s.recordFirst st info code w with regs := s.regs } = s := by
  unfold State.recordFirst
  split
  · exact State.setReg_eq ..
  · exact State.setReg_setReg_eq ..

end Sys2Proof.Machine
end

