-- ==== Sys2Proof/Laws/Faults.lean ====
section
/-! SUPPORT. What charging an error, recording a first error and raising a core fault leave alone, field by field. -/

namespace Sys2Proof.Machine


/-! ### `State.charge` -/

@[simp] theorem State.charge_pending (s : State) : s.charge.pending = s.pending := by
  unfold State.charge; (repeat' split) <;> rfl
@[simp] theorem State.charge_out (s : State) : s.charge.out = s.out := by
  unfold State.charge; (repeat' split) <;> rfl
@[simp] theorem State.charge_draws (s : State) : s.charge.draws = s.draws := by
  unfold State.charge; (repeat' split) <;> rfl
@[simp] theorem State.charge_mode (s : State) : s.charge.mode = s.mode := by
  unfold State.charge; (repeat' split) <;> rfl
@[simp] theorem State.charge_regs (s : State) : s.charge.regs = s.regs := by
  unfold State.charge; (repeat' split) <;> rfl
@[simp] theorem State.charge_shadowRegs (s : State) : s.charge.shadowRegs = s.shadowRegs := by
  unfold State.charge; (repeat' split) <;> rfl
@[simp] theorem State.charge_tbl (s : State) : s.charge.tbl = s.tbl := by
  unfold State.charge; (repeat' split) <;> rfl
@[simp] theorem State.charge_tblShadow (s : State) : s.charge.tblShadow = s.tblShadow := by
  unfold State.charge; (repeat' split) <;> rfl
@[simp] theorem State.charge_rwc (s : State) : s.charge.rwc = s.rwc := by
  unfold State.charge; (repeat' split) <;> rfl
@[simp] theorem State.charge_tblMaster (s : State) : s.charge.tblMaster = s.tblMaster := by
  unfold State.charge; (repeat' split) <;> rfl
@[simp] theorem State.charge_hiLatch (s : State) : s.charge.hiLatch = s.hiLatch := by
  unfold State.charge; (repeat' split) <;> rfl
@[simp] theorem State.charge_tiles (s : State) : s.charge.tiles = s.tiles := by
  unfold State.charge; (repeat' split) <;> rfl
@[simp] theorem State.charge_routers (s : State) : s.charge.routers = s.routers := by
  unfold State.charge; (repeat' split) <;> rfl
@[simp] theorem State.charge_flights (s : State) : s.charge.flights = s.flights := by
  unfold State.charge; (repeat' split) <;> rfl
@[simp] theorem State.charge_ports (s : State) : s.charge.ports = s.ports := by
  unfold State.charge; (repeat' split) <;> rfl
@[simp] theorem State.charge_hearth (s : State) : s.charge.hearth = s.hearth := by
  unfold State.charge; (repeat' split) <;> rfl
@[simp] theorem State.charge_light (s : State) : s.charge.light = s.light := by
  unfold State.charge; (repeat' split) <;> rfl
@[simp] theorem State.charge_thermal (s : State) : s.charge.thermal = s.thermal := by
  unfold State.charge; (repeat' split) <;> rfl
@[simp] theorem State.charge_mailbox (s : State) : s.charge.mailbox = s.mailbox := by
  unfold State.charge; (repeat' split) <;> rfl
@[simp] theorem State.charge_glove (s : State) : s.charge.glove = s.glove := by
  unfold State.charge; (repeat' split) <;> rfl
@[simp] theorem State.charge_host (s : State) : s.charge.host = s.host := by
  unfold State.charge; (repeat' split) <;> rfl
@[simp] theorem State.charge_fabric (s : State) : s.charge.fabric = s.fabric := by
  unfold State.charge; (repeat' split) <;> rfl
@[simp] theorem State.charge_maps (s : State) : s.charge.maps = s.maps := by
  unfold State.charge; (repeat' split) <;> rfl
@[simp] theorem State.charge_slew (s : State) : s.charge.slew = s.slew := by
  unfold State.charge; (repeat' split) <;> rfl
@[simp] theorem State.charge_slewRest (s : State) : s.charge.slewRest = s.slewRest := by
  unfold State.charge; (repeat' split) <;> rfl
@[simp] theorem State.charge_job (s : State) : s.charge.job = s.job := by
  unfold State.charge; (repeat' split) <;> rfl
@[simp] theorem State.charge_qps (s : State) : s.charge.qps = s.qps := by
  unfold State.charge; (repeat' split) <;> rfl
@[simp] theorem State.charge_boot (s : State) : s.charge.boot = s.boot := by
  unfold State.charge; (repeat' split) <;> rfl
@[simp] theorem State.charge_stackMem (s : State) : s.charge.stackMem = s.stackMem := by
  unfold State.charge; (repeat' split) <;> rfl
@[simp] theorem State.charge_sessions (s : State) : s.charge.sessions = s.sessions := by
  unfold State.charge; (repeat' split) <;> rfl
@[simp] theorem State.charge_recovery (s : State) : s.charge.recovery = s.recovery := by
  unfold State.charge; (repeat' split) <;> rfl
@[simp] theorem State.charge_clock (s : State) : s.charge.clock = s.clock := by
  unfold State.charge; (repeat' split) <;> rfl

/-! ### `State.recordFirst` -/

@[simp] theorem State.recordFirst_pending (s : State) (st info code : Nat) (w : Word) : (s.recordFirst st info code w).pending = s.pending := by
  have h := congrArg State.pending (State.recordFirst_eq s st info code w); exact h
@[simp] theorem State.recordFirst_out (s : State) (st info code : Nat) (w : Word) : (s.recordFirst st info code w).out = s.out := by
  have h := congrArg State.out (State.recordFirst_eq s st info code w); exact h
@[simp] theorem State.recordFirst_draws (s : State) (st info code : Nat) (w : Word) : (s.recordFirst st info code w).draws = s.draws := by
  have h := congrArg State.draws (State.recordFirst_eq s st info code w); exact h
@[simp] theorem State.recordFirst_mode (s : State) (st info code : Nat) (w : Word) : (s.recordFirst st info code w).mode = s.mode := by
  have h := congrArg State.mode (State.recordFirst_eq s st info code w); exact h
@[simp] theorem State.recordFirst_shadowRegs (s : State) (st info code : Nat) (w : Word) : (s.recordFirst st info code w).shadowRegs = s.shadowRegs := by
  have h := congrArg State.shadowRegs (State.recordFirst_eq s st info code w); exact h
@[simp] theorem State.recordFirst_tbl (s : State) (st info code : Nat) (w : Word) : (s.recordFirst st info code w).tbl = s.tbl := by
  have h := congrArg State.tbl (State.recordFirst_eq s st info code w); exact h
@[simp] theorem State.recordFirst_tblShadow (s : State) (st info code : Nat) (w : Word) : (s.recordFirst st info code w).tblShadow = s.tblShadow := by
  have h := congrArg State.tblShadow (State.recordFirst_eq s st info code w); exact h
@[simp] theorem State.recordFirst_rwc (s : State) (st info code : Nat) (w : Word) : (s.recordFirst st info code w).rwc = s.rwc := by
  have h := congrArg State.rwc (State.recordFirst_eq s st info code w); exact h
@[simp] theorem State.recordFirst_tblMaster (s : State) (st info code : Nat) (w : Word) : (s.recordFirst st info code w).tblMaster = s.tblMaster := by
  have h := congrArg State.tblMaster (State.recordFirst_eq s st info code w); exact h
@[simp] theorem State.recordFirst_hiLatch (s : State) (st info code : Nat) (w : Word) : (s.recordFirst st info code w).hiLatch = s.hiLatch := by
  have h := congrArg State.hiLatch (State.recordFirst_eq s st info code w); exact h
@[simp] theorem State.recordFirst_tiles (s : State) (st info code : Nat) (w : Word) : (s.recordFirst st info code w).tiles = s.tiles := by
  have h := congrArg State.tiles (State.recordFirst_eq s st info code w); exact h
@[simp] theorem State.recordFirst_routers (s : State) (st info code : Nat) (w : Word) : (s.recordFirst st info code w).routers = s.routers := by
  have h := congrArg State.routers (State.recordFirst_eq s st info code w); exact h
@[simp] theorem State.recordFirst_flights (s : State) (st info code : Nat) (w : Word) : (s.recordFirst st info code w).flights = s.flights := by
  have h := congrArg State.flights (State.recordFirst_eq s st info code w); exact h
@[simp] theorem State.recordFirst_ports (s : State) (st info code : Nat) (w : Word) : (s.recordFirst st info code w).ports = s.ports := by
  have h := congrArg State.ports (State.recordFirst_eq s st info code w); exact h
@[simp] theorem State.recordFirst_hearth (s : State) (st info code : Nat) (w : Word) : (s.recordFirst st info code w).hearth = s.hearth := by
  have h := congrArg State.hearth (State.recordFirst_eq s st info code w); exact h
@[simp] theorem State.recordFirst_light (s : State) (st info code : Nat) (w : Word) : (s.recordFirst st info code w).light = s.light := by
  have h := congrArg State.light (State.recordFirst_eq s st info code w); exact h
@[simp] theorem State.recordFirst_thermal (s : State) (st info code : Nat) (w : Word) : (s.recordFirst st info code w).thermal = s.thermal := by
  have h := congrArg State.thermal (State.recordFirst_eq s st info code w); exact h
@[simp] theorem State.recordFirst_mailbox (s : State) (st info code : Nat) (w : Word) : (s.recordFirst st info code w).mailbox = s.mailbox := by
  have h := congrArg State.mailbox (State.recordFirst_eq s st info code w); exact h
@[simp] theorem State.recordFirst_glove (s : State) (st info code : Nat) (w : Word) : (s.recordFirst st info code w).glove = s.glove := by
  have h := congrArg State.glove (State.recordFirst_eq s st info code w); exact h
@[simp] theorem State.recordFirst_host (s : State) (st info code : Nat) (w : Word) : (s.recordFirst st info code w).host = s.host := by
  have h := congrArg State.host (State.recordFirst_eq s st info code w); exact h
@[simp] theorem State.recordFirst_fabric (s : State) (st info code : Nat) (w : Word) : (s.recordFirst st info code w).fabric = s.fabric := by
  have h := congrArg State.fabric (State.recordFirst_eq s st info code w); exact h
@[simp] theorem State.recordFirst_maps (s : State) (st info code : Nat) (w : Word) : (s.recordFirst st info code w).maps = s.maps := by
  have h := congrArg State.maps (State.recordFirst_eq s st info code w); exact h
@[simp] theorem State.recordFirst_slew (s : State) (st info code : Nat) (w : Word) : (s.recordFirst st info code w).slew = s.slew := by
  have h := congrArg State.slew (State.recordFirst_eq s st info code w); exact h
@[simp] theorem State.recordFirst_slewRest (s : State) (st info code : Nat) (w : Word) : (s.recordFirst st info code w).slewRest = s.slewRest := by
  have h := congrArg State.slewRest (State.recordFirst_eq s st info code w); exact h
@[simp] theorem State.recordFirst_job (s : State) (st info code : Nat) (w : Word) : (s.recordFirst st info code w).job = s.job := by
  have h := congrArg State.job (State.recordFirst_eq s st info code w); exact h
@[simp] theorem State.recordFirst_qps (s : State) (st info code : Nat) (w : Word) : (s.recordFirst st info code w).qps = s.qps := by
  have h := congrArg State.qps (State.recordFirst_eq s st info code w); exact h
@[simp] theorem State.recordFirst_boot (s : State) (st info code : Nat) (w : Word) : (s.recordFirst st info code w).boot = s.boot := by
  have h := congrArg State.boot (State.recordFirst_eq s st info code w); exact h
@[simp] theorem State.recordFirst_stackMem (s : State) (st info code : Nat) (w : Word) : (s.recordFirst st info code w).stackMem = s.stackMem := by
  have h := congrArg State.stackMem (State.recordFirst_eq s st info code w); exact h
@[simp] theorem State.recordFirst_sessions (s : State) (st info code : Nat) (w : Word) : (s.recordFirst st info code w).sessions = s.sessions := by
  have h := congrArg State.sessions (State.recordFirst_eq s st info code w); exact h
@[simp] theorem State.recordFirst_recovery (s : State) (st info code : Nat) (w : Word) : (s.recordFirst st info code w).recovery = s.recovery := by
  have h := congrArg State.recovery (State.recordFirst_eq s st info code w); exact h
@[simp] theorem State.recordFirst_tick (s : State) (st info code : Nat) (w : Word) : (s.recordFirst st info code w).tick = s.tick := by
  have h := congrArg State.tick (State.recordFirst_eq s st info code w); exact h
@[simp] theorem State.recordFirst_clock (s : State) (st info code : Nat) (w : Word) : (s.recordFirst st info code w).clock = s.clock := by
  have h := congrArg State.clock (State.recordFirst_eq s st info code w); exact h

/-! ### `State.faultEvent` -/

@[simp] theorem State.faultEvent_pending (s : State) (src inst code : Nat) (b : Bool) : (s.faultEvent src inst code b).pending = s.pending := by
  exact State.event_pending ..
@[simp] theorem State.faultEvent_draws (s : State) (src inst code : Nat) (b : Bool) : (s.faultEvent src inst code b).draws = s.draws := by
  exact State.event_draws ..
@[simp] theorem State.faultEvent_mode (s : State) (src inst code : Nat) (b : Bool) : (s.faultEvent src inst code b).mode = s.mode := by
  exact State.event_mode ..
@[simp] theorem State.faultEvent_regs (s : State) (src inst code : Nat) (b : Bool) : (s.faultEvent src inst code b).regs = s.regs := by
  exact State.event_regs ..
@[simp] theorem State.faultEvent_shadowRegs (s : State) (src inst code : Nat) (b : Bool) : (s.faultEvent src inst code b).shadowRegs = s.shadowRegs := by
  exact State.event_shadowRegs ..
@[simp] theorem State.faultEvent_tbl (s : State) (src inst code : Nat) (b : Bool) : (s.faultEvent src inst code b).tbl = s.tbl := by
  exact State.event_tbl ..
@[simp] theorem State.faultEvent_tblShadow (s : State) (src inst code : Nat) (b : Bool) : (s.faultEvent src inst code b).tblShadow = s.tblShadow := by
  exact State.event_tblShadow ..
@[simp] theorem State.faultEvent_rwc (s : State) (src inst code : Nat) (b : Bool) : (s.faultEvent src inst code b).rwc = s.rwc := by
  exact State.event_rwc ..
@[simp] theorem State.faultEvent_tblMaster (s : State) (src inst code : Nat) (b : Bool) : (s.faultEvent src inst code b).tblMaster = s.tblMaster := by
  exact State.event_tblMaster ..
@[simp] theorem State.faultEvent_hiLatch (s : State) (src inst code : Nat) (b : Bool) : (s.faultEvent src inst code b).hiLatch = s.hiLatch := by
  exact State.event_hiLatch ..
@[simp] theorem State.faultEvent_tiles (s : State) (src inst code : Nat) (b : Bool) : (s.faultEvent src inst code b).tiles = s.tiles := by
  exact State.event_tiles ..
@[simp] theorem State.faultEvent_routers (s : State) (src inst code : Nat) (b : Bool) : (s.faultEvent src inst code b).routers = s.routers := by
  exact State.event_routers ..
@[simp] theorem State.faultEvent_flights (s : State) (src inst code : Nat) (b : Bool) : (s.faultEvent src inst code b).flights = s.flights := by
  exact State.event_flights ..
@[simp] theorem State.faultEvent_ports (s : State) (src inst code : Nat) (b : Bool) : (s.faultEvent src inst code b).ports = s.ports := by
  exact State.event_ports ..
@[simp] theorem State.faultEvent_hearth (s : State) (src inst code : Nat) (b : Bool) : (s.faultEvent src inst code b).hearth = s.hearth := by
  exact State.event_hearth ..
@[simp] theorem State.faultEvent_light (s : State) (src inst code : Nat) (b : Bool) : (s.faultEvent src inst code b).light = s.light := by
  exact State.event_light ..
@[simp] theorem State.faultEvent_thermal (s : State) (src inst code : Nat) (b : Bool) : (s.faultEvent src inst code b).thermal = s.thermal := by
  exact State.event_thermal ..
@[simp] theorem State.faultEvent_mailbox (s : State) (src inst code : Nat) (b : Bool) : (s.faultEvent src inst code b).mailbox = s.mailbox := by
  exact State.event_mailbox ..
@[simp] theorem State.faultEvent_glove (s : State) (src inst code : Nat) (b : Bool) : (s.faultEvent src inst code b).glove = s.glove := by
  exact State.event_glove ..
@[simp] theorem State.faultEvent_host (s : State) (src inst code : Nat) (b : Bool) : (s.faultEvent src inst code b).host = s.host := by
  exact State.event_host ..
@[simp] theorem State.faultEvent_fabric (s : State) (src inst code : Nat) (b : Bool) : (s.faultEvent src inst code b).fabric = s.fabric := by
  exact State.event_fabric ..
@[simp] theorem State.faultEvent_maps (s : State) (src inst code : Nat) (b : Bool) : (s.faultEvent src inst code b).maps = s.maps := by
  exact State.event_maps ..
@[simp] theorem State.faultEvent_slew (s : State) (src inst code : Nat) (b : Bool) : (s.faultEvent src inst code b).slew = s.slew := by
  exact State.event_slew ..
@[simp] theorem State.faultEvent_slewRest (s : State) (src inst code : Nat) (b : Bool) : (s.faultEvent src inst code b).slewRest = s.slewRest := by
  exact State.event_slewRest ..
@[simp] theorem State.faultEvent_job (s : State) (src inst code : Nat) (b : Bool) : (s.faultEvent src inst code b).job = s.job := by
  exact State.event_job ..
@[simp] theorem State.faultEvent_qps (s : State) (src inst code : Nat) (b : Bool) : (s.faultEvent src inst code b).qps = s.qps := by
  exact State.event_qps ..
@[simp] theorem State.faultEvent_boot (s : State) (src inst code : Nat) (b : Bool) : (s.faultEvent src inst code b).boot = s.boot := by
  exact State.event_boot ..
@[simp] theorem State.faultEvent_stackMem (s : State) (src inst code : Nat) (b : Bool) : (s.faultEvent src inst code b).stackMem = s.stackMem := by
  exact State.event_stackMem ..
@[simp] theorem State.faultEvent_recovery (s : State) (src inst code : Nat) (b : Bool) : (s.faultEvent src inst code b).recovery = s.recovery := by
  exact State.event_recovery ..
@[simp] theorem State.faultEvent_tick (s : State) (src inst code : Nat) (b : Bool) : (s.faultEvent src inst code b).tick = s.tick := by
  exact State.event_tick ..
@[simp] theorem State.faultEvent_clock (s : State) (src inst code : Nat) (b : Bool) : (s.faultEvent src inst code b).clock = s.clock := by
  exact State.event_clock ..

/-! ### `State.reportHardware` -/

@[simp] theorem State.reportHardware_pending (s : State) (k : Nat) : (s.reportHardware k).pending = s.pending := by
  unfold State.reportHardware; split
  · rfl
  · simp only []; split <;> first | rw [State.setRegFld_pending] | rfl
@[simp] theorem State.reportHardware_out (s : State) (k : Nat) : (s.reportHardware k).out = s.out := by
  unfold State.reportHardware; split
  · rfl
  · simp only []; split <;> first | rw [State.setRegFld_out] | rfl
@[simp] theorem State.reportHardware_draws (s : State) (k : Nat) : (s.reportHardware k).draws = s.draws := by
  unfold State.reportHardware; split
  · rfl
  · simp only []; split <;> first | rw [State.setRegFld_draws] | rfl
@[simp] theorem State.reportHardware_mode (s : State) (k : Nat) : (s.reportHardware k).mode = s.mode := by
  unfold State.reportHardware; split
  · rfl
  · simp only []; split <;> first | rw [State.setRegFld_mode] | rfl
@[simp] theorem State.reportHardware_shadowRegs (s : State) (k : Nat) : (s.reportHardware k).shadowRegs = s.shadowRegs := by
  unfold State.reportHardware; split
  · rfl
  · simp only []; split <;> first | rw [State.setRegFld_shadowRegs] | rfl
@[simp] theorem State.reportHardware_tbl (s : State) (k : Nat) : (s.reportHardware k).tbl = s.tbl := by
  unfold State.reportHardware; split
  · rfl
  · simp only []; split <;> first | rw [State.setRegFld_tbl] | rfl
@[simp] theorem State.reportHardware_tblShadow (s : State) (k : Nat) : (s.reportHardware k).tblShadow = s.tblShadow := by
  unfold State.reportHardware; split
  · rfl
  · simp only []; split <;> first | rw [State.setRegFld_tblShadow] | rfl
@[simp] theorem State.reportHardware_rwc (s : State) (k : Nat) : (s.reportHardware k).rwc = s.rwc := by
  unfold State.reportHardware; split
  · rfl
  · simp only []; split <;> first | rw [State.setRegFld_rwc] | rfl
@[simp] theorem State.reportHardware_tblMaster (s : State) (k : Nat) : (s.reportHardware k).tblMaster = s.tblMaster := by
  unfold State.reportHardware; split
  · rfl
  · simp only []; split <;> first | rw [State.setRegFld_tblMaster] | rfl
@[simp] theorem State.reportHardware_hiLatch (s : State) (k : Nat) : (s.reportHardware k).hiLatch = s.hiLatch := by
  unfold State.reportHardware; split
  · rfl
  · simp only []; split <;> first | rw [State.setRegFld_hiLatch] | rfl
@[simp] theorem State.reportHardware_tiles (s : State) (k : Nat) : (s.reportHardware k).tiles = s.tiles := by
  unfold State.reportHardware; split
  · rfl
  · simp only []; split <;> first | rw [State.setRegFld_tiles] | rfl
@[simp] theorem State.reportHardware_routers (s : State) (k : Nat) : (s.reportHardware k).routers = s.routers := by
  unfold State.reportHardware; split
  · rfl
  · simp only []; split <;> first | rw [State.setRegFld_routers] | rfl
@[simp] theorem State.reportHardware_flights (s : State) (k : Nat) : (s.reportHardware k).flights = s.flights := by
  unfold State.reportHardware; split
  · rfl
  · simp only []; split <;> first | rw [State.setRegFld_flights] | rfl
@[simp] theorem State.reportHardware_ports (s : State) (k : Nat) : (s.reportHardware k).ports = s.ports := by
  unfold State.reportHardware; split
  · rfl
  · simp only []; split <;> first | rw [State.setRegFld_ports] | rfl
@[simp] theorem State.reportHardware_hearth (s : State) (k : Nat) : (s.reportHardware k).hearth = s.hearth := by
  unfold State.reportHardware; split
  · rfl
  · simp only []; split <;> first | rw [State.setRegFld_hearth] | rfl
@[simp] theorem State.reportHardware_light (s : State) (k : Nat) : (s.reportHardware k).light = s.light := by
  unfold State.reportHardware; split
  · rfl
  · simp only []; split <;> first | rw [State.setRegFld_light] | rfl
@[simp] theorem State.reportHardware_thermal (s : State) (k : Nat) : (s.reportHardware k).thermal = s.thermal := by
  unfold State.reportHardware; split
  · rfl
  · simp only []; split <;> first | rw [State.setRegFld_thermal] | rfl
@[simp] theorem State.reportHardware_mailbox (s : State) (k : Nat) : (s.reportHardware k).mailbox = s.mailbox := by
  unfold State.reportHardware; split
  · rfl
  · simp only []; split <;> first | rw [State.setRegFld_mailbox] | rfl
@[simp] theorem State.reportHardware_glove (s : State) (k : Nat) : (s.reportHardware k).glove = s.glove := by
  unfold State.reportHardware; split
  · rfl
  · simp only []; split <;> first | rw [State.setRegFld_glove] | rfl
@[simp] theorem State.reportHardware_host (s : State) (k : Nat) : (s.reportHardware k).host = s.host := by
  unfold State.reportHardware; split
  · rfl
  · simp only []; split <;> first | rw [State.setRegFld_host] | rfl
@[simp] theorem State.reportHardware_fabric (s : State) (k : Nat) : (s.reportHardware k).fabric = s.fabric := by
  unfold State.reportHardware; split
  · rfl
  · simp only []; split <;> first | rw [State.setRegFld_fabric] | rfl
@[simp] theorem State.reportHardware_maps (s : State) (k : Nat) : (s.reportHardware k).maps = s.maps := by
  unfold State.reportHardware; split
  · rfl
  · simp only []; split <;> first | rw [State.setRegFld_maps] | rfl
@[simp] theorem State.reportHardware_slew (s : State) (k : Nat) : (s.reportHardware k).slew = s.slew := by
  unfold State.reportHardware; split
  · rfl
  · simp only []; split <;> first | rw [State.setRegFld_slew] | rfl
@[simp] theorem State.reportHardware_slewRest (s : State) (k : Nat) : (s.reportHardware k).slewRest = s.slewRest := by
  unfold State.reportHardware; split
  · rfl
  · simp only []; split <;> first | rw [State.setRegFld_slewRest] | rfl
@[simp] theorem State.reportHardware_job (s : State) (k : Nat) : (s.reportHardware k).job = s.job := by
  unfold State.reportHardware; split
  · rfl
  · simp only []; split <;> first | rw [State.setRegFld_job] | rfl
@[simp] theorem State.reportHardware_qps (s : State) (k : Nat) : (s.reportHardware k).qps = s.qps := by
  unfold State.reportHardware; split
  · rfl
  · simp only []; split <;> first | rw [State.setRegFld_qps] | rfl
@[simp] theorem State.reportHardware_boot (s : State) (k : Nat) : (s.reportHardware k).boot = s.boot := by
  unfold State.reportHardware; split
  · rfl
  · simp only []; split <;> first | rw [State.setRegFld_boot] | rfl
@[simp] theorem State.reportHardware_stackMem (s : State) (k : Nat) : (s.reportHardware k).stackMem = s.stackMem := by
  unfold State.reportHardware; split
  · rfl
  · simp only []; split <;> first | rw [State.setRegFld_stackMem] | rfl
@[simp] theorem State.reportHardware_sessions (s : State) (k : Nat) : (s.reportHardware k).sessions = s.sessions := by
  unfold State.reportHardware; split
  · rfl
  · simp only []; split <;> first | rw [State.setRegFld_sessions] | rfl
@[simp] theorem State.reportHardware_tick (s : State) (k : Nat) : (s.reportHardware k).tick = s.tick := by
  unfold State.reportHardware; split
  · rfl
  · simp only []; split <;> first | rw [State.setRegFld_tick] | rfl
@[simp] theorem State.reportHardware_clock (s : State) (k : Nat) : (s.reportHardware k).clock = s.clock := by
  unfold State.reportHardware; split
  · rfl
  · simp only []; split <;> first | rw [State.setRegFld_clock] | rfl

/-! ### `State.raise` -/

@[simp] theorem State.raise_pending (s : State) (k : Nat) (t : Tile) (n pc code addr : Nat) : (s.raise k t n pc code addr).pending = s.pending := by
  rw [State.raise]; simp only [apply_ite State.pending, State.reportHardware_pending, State.charge_pending, State.faultEvent_pending, State.setTile_pending, ite_self]
@[simp] theorem State.raise_draws (s : State) (k : Nat) (t : Tile) (n pc code addr : Nat) : (s.raise k t n pc code addr).draws = s.draws := by
  rw [State.raise]; simp only [apply_ite State.draws, State.reportHardware_draws, State.charge_draws, State.faultEvent_draws, State.setTile_draws, ite_self]
@[simp] theorem State.raise_mode (s : State) (k : Nat) (t : Tile) (n pc code addr : Nat) : (s.raise k t n pc code addr).mode = s.mode := by
  rw [State.raise]; simp only [apply_ite State.mode, State.reportHardware_mode, State.charge_mode, State.faultEvent_mode, State.setTile_mode, ite_self]
@[simp] theorem State.raise_shadowRegs (s : State) (k : Nat) (t : Tile) (n pc code addr : Nat) : (s.raise k t n pc code addr).shadowRegs = s.shadowRegs := by
  rw [State.raise]; simp only [apply_ite State.shadowRegs, State.reportHardware_shadowRegs, State.charge_shadowRegs, State.faultEvent_shadowRegs, State.setTile_shadowRegs, ite_self]
@[simp] theorem State.raise_tbl (s : State) (k : Nat) (t : Tile) (n pc code addr : Nat) : (s.raise k t n pc code addr).tbl = s.tbl := by
  rw [State.raise]; simp only [apply_ite State.tbl, State.reportHardware_tbl, State.charge_tbl, State.faultEvent_tbl, State.setTile_tbl, ite_self]
@[simp] theorem State.raise_tblShadow (s : State) (k : Nat) (t : Tile) (n pc code addr : Nat) : (s.raise k t n pc code addr).tblShadow = s.tblShadow := by
  rw [State.raise]; simp only [apply_ite State.tblShadow, State.reportHardware_tblShadow, State.charge_tblShadow, State.faultEvent_tblShadow, State.setTile_tblShadow, ite_self]
@[simp] theorem State.raise_rwc (s : State) (k : Nat) (t : Tile) (n pc code addr : Nat) : (s.raise k t n pc code addr).rwc = s.rwc := by
  rw [State.raise]; simp only [apply_ite State.rwc, State.reportHardware_rwc, State.charge_rwc, State.faultEvent_rwc, State.setTile_rwc, ite_self]
@[simp] theorem State.raise_tblMaster (s : State) (k : Nat) (t : Tile) (n pc code addr : Nat) : (s.raise k t n pc code addr).tblMaster = s.tblMaster := by
  rw [State.raise]; simp only [apply_ite State.tblMaster, State.reportHardware_tblMaster, State.charge_tblMaster, State.faultEvent_tblMaster, State.setTile_tblMaster, ite_self]
@[simp] theorem State.raise_hiLatch (s : State) (k : Nat) (t : Tile) (n pc code addr : Nat) : (s.raise k t n pc code addr).hiLatch = s.hiLatch := by
  rw [State.raise]; simp only [apply_ite State.hiLatch, State.reportHardware_hiLatch, State.charge_hiLatch, State.faultEvent_hiLatch, State.setTile_hiLatch, ite_self]
@[simp] theorem State.raise_routers (s : State) (k : Nat) (t : Tile) (n pc code addr : Nat) : (s.raise k t n pc code addr).routers = s.routers := by
  rw [State.raise]; simp only [apply_ite State.routers, State.reportHardware_routers, State.charge_routers, State.faultEvent_routers, State.setTile_routers, ite_self]
@[simp] theorem State.raise_flights (s : State) (k : Nat) (t : Tile) (n pc code addr : Nat) : (s.raise k t n pc code addr).flights = s.flights := by
  rw [State.raise]; simp only [apply_ite State.flights, State.reportHardware_flights, State.charge_flights, State.faultEvent_flights, State.setTile_flights, ite_self]
@[simp] theorem State.raise_ports (s : State) (k : Nat) (t : Tile) (n pc code addr : Nat) : (s.raise k t n pc code addr).ports = s.ports := by
  rw [State.raise]; simp only [apply_ite State.ports, State.reportHardware_ports, State.charge_ports, State.faultEvent_ports, State.setTile_ports, ite_self]
@[simp] theorem State.raise_hearth (s : State) (k : Nat) (t : Tile) (n pc code addr : Nat) : (s.raise k t n pc code addr).hearth = s.hearth := by
  rw [State.raise]; simp only [apply_ite State.hearth, State.reportHardware_hearth, State.charge_hearth, State.faultEvent_hearth, State.setTile_hearth, ite_self]
@[simp] theorem State.raise_light (s : State) (k : Nat) (t : Tile) (n pc code addr : Nat) : (s.raise k t n pc code addr).light = s.light := by
  rw [State.raise]; simp only [apply_ite State.light, State.reportHardware_light, State.charge_light, State.faultEvent_light, State.setTile_light, ite_self]
@[simp] theorem State.raise_thermal (s : State) (k : Nat) (t : Tile) (n pc code addr : Nat) : (s.raise k t n pc code addr).thermal = s.thermal := by
  rw [State.raise]; simp only [apply_ite State.thermal, State.reportHardware_thermal, State.charge_thermal, State.faultEvent_thermal, State.setTile_thermal, ite_self]
@[simp] theorem State.raise_mailbox (s : State) (k : Nat) (t : Tile) (n pc code addr : Nat) : (s.raise k t n pc code addr).mailbox = s.mailbox := by
  rw [State.raise]; simp only [apply_ite State.mailbox, State.reportHardware_mailbox, State.charge_mailbox, State.faultEvent_mailbox, State.setTile_mailbox, ite_self]
@[simp] theorem State.raise_glove (s : State) (k : Nat) (t : Tile) (n pc code addr : Nat) : (s.raise k t n pc code addr).glove = s.glove := by
  rw [State.raise]; simp only [apply_ite State.glove, State.reportHardware_glove, State.charge_glove, State.faultEvent_glove, State.setTile_glove, ite_self]
@[simp] theorem State.raise_host (s : State) (k : Nat) (t : Tile) (n pc code addr : Nat) : (s.raise k t n pc code addr).host = s.host := by
  rw [State.raise]; simp only [apply_ite State.host, State.reportHardware_host, State.charge_host, State.faultEvent_host, State.setTile_host, ite_self]
@[simp] theorem State.raise_fabric (s : State) (k : Nat) (t : Tile) (n pc code addr : Nat) : (s.raise k t n pc code addr).fabric = s.fabric := by
  rw [State.raise]; simp only [apply_ite State.fabric, State.reportHardware_fabric, State.charge_fabric, State.faultEvent_fabric, State.setTile_fabric, ite_self]
@[simp] theorem State.raise_maps (s : State) (k : Nat) (t : Tile) (n pc code addr : Nat) : (s.raise k t n pc code addr).maps = s.maps := by
  rw [State.raise]; simp only [apply_ite State.maps, State.reportHardware_maps, State.charge_maps, State.faultEvent_maps, State.setTile_maps, ite_self]
@[simp] theorem State.raise_slew (s : State) (k : Nat) (t : Tile) (n pc code addr : Nat) : (s.raise k t n pc code addr).slew = s.slew := by
  rw [State.raise]; simp only [apply_ite State.slew, State.reportHardware_slew, State.charge_slew, State.faultEvent_slew, State.setTile_slew, ite_self]
@[simp] theorem State.raise_slewRest (s : State) (k : Nat) (t : Tile) (n pc code addr : Nat) : (s.raise k t n pc code addr).slewRest = s.slewRest := by
  rw [State.raise]; simp only [apply_ite State.slewRest, State.reportHardware_slewRest, State.charge_slewRest, State.faultEvent_slewRest, State.setTile_slewRest, ite_self]
@[simp] theorem State.raise_job (s : State) (k : Nat) (t : Tile) (n pc code addr : Nat) : (s.raise k t n pc code addr).job = s.job := by
  rw [State.raise]; simp only [apply_ite State.job, State.reportHardware_job, State.charge_job, State.faultEvent_job, State.setTile_job, ite_self]
@[simp] theorem State.raise_qps (s : State) (k : Nat) (t : Tile) (n pc code addr : Nat) : (s.raise k t n pc code addr).qps = s.qps := by
  rw [State.raise]; simp only [apply_ite State.qps, State.reportHardware_qps, State.charge_qps, State.faultEvent_qps, State.setTile_qps, ite_self]
@[simp] theorem State.raise_boot (s : State) (k : Nat) (t : Tile) (n pc code addr : Nat) : (s.raise k t n pc code addr).boot = s.boot := by
  rw [State.raise]; simp only [apply_ite State.boot, State.reportHardware_boot, State.charge_boot, State.faultEvent_boot, State.setTile_boot, ite_self]
@[simp] theorem State.raise_stackMem (s : State) (k : Nat) (t : Tile) (n pc code addr : Nat) : (s.raise k t n pc code addr).stackMem = s.stackMem := by
  rw [State.raise]; simp only [apply_ite State.stackMem, State.reportHardware_stackMem, State.charge_stackMem, State.faultEvent_stackMem, State.setTile_stackMem, ite_self]
@[simp] theorem State.raise_clock (s : State) (k : Nat) (t : Tile) (n pc code addr : Nat) : (s.raise k t n pc code addr).clock = s.clock := by
  rw [State.raise]; simp only [apply_ite State.clock, State.reportHardware_clock, State.charge_clock, State.faultEvent_clock, State.setTile_clock, ite_self]

end Sys2Proof.Machine
end

