-- ==== Sys2Proof/Laws/Issue.lean ====
section
/-! SUPPORT. What the shared operation of issue can do: that nothing happens unless the core issues the instruction, the bookkeeping it changes, where it
comes out for a clear instruction and for one whose predicate is false, and what its end leaves. -/

namespace Sys2Proof.Machine

/-- A thread that may not issue: nothing happens. -/
theorem issue_idle {s : State} {u : Issue} (h : s.mayIssue u.tile.key u.thread = false) (f : Fields) (cls fn : Nat) (body : Ctx → Effect) :
    s.issue u f cls fn body = s := by simp [State.issue, h]

/-- A thread that the core does not choose: nothing happens. -/
theorem issue_waits {s : State} {u : Issue} (h : s.chosen u.tile.key u.thread (s.cycleOf u) = false) (f : Fields) (cls fn : Nat) (body : Ctx → Effect) :
    s.issue u f cls fn body = s := by
  unfold State.cycleOf at h
  simp [State.issue, h]

/-- The bookkeeping of an issue changes slots, port and the two counters, and no slot is given back. -/
theorem booked (t : Tile) (pc n c r port : Nat) (x : Thread) :
    let b := (t.fetchCount pc).issued n c r port x
    { b with threads := t.threads, cycle := t.cycle, lastLoose := t.lastLoose, portFree := t.portFree, til := t.til } = t ∧
    b.threads = t.threads ∧ b.cycle = max t.cycle (c + 1) ∧ ∀ i, i ≠ 11 → i ≠ 12 → b.sys i = t.sys i := by
  simp only [Tile.issued, Tile.fetchCount, Tile.addWait]
  refine ⟨?_, ?_, ?_, fun i h1 h2 => ?_⟩
  · repeat' split
    all_goals rfl
  · repeat' split
    all_goals rfl
  · repeat' split
    all_goals rfl
  · repeat' split
    all_goals simp [Tile.setSys, Tile.sys, SMap.get_set, h1, h2]

/-- The count of a fetch touches a system register alone. -/
theorem fetchCount_word (t : Tile) (p q : Nat) : (t.fetchCount p).word q = t.word q := by
  simp only [Tile.fetchCount]; split <;> rfl
theorem fetchCount_ecc (t : Tile) (p : Nat) : (t.fetchCount p).pstoreEcc = t.pstoreEcc := by
  simp only [Tile.fetchCount]; split <;> rfl
theorem fetchCount_bad (t : Tile) (p : Nat) (x : Thread) (r : RegRef) : regBad (t.fetchCount p) x r = regBad t x r := by
  simp only [Tile.fetchCount]; split <;> rfl

/-- The parts of a fetched instruction, as the operation of issue tests them. -/
theorem fetched_parts {s : State} {u : Issue} {f : Fields} {cls fn : Nat} (h : s.fetched u f cls fn = true) :
    s.mayIssue u.tile.key u.thread = true ∧ s.chosen u.tile.key u.thread (s.cycleOf u) = true ∧
      wordIs ((s.tile u.tile.key).word (s.at_ u).pc) cls fn f = true ∧ regBad (s.tile u.tile.key) (s.at_ u) .pc = false ∧
      ((s.tile u.tile.key).pstoreEcc.get .good (s.at_ u).pc == .double) = false ∧
      regBad (s.tile u.tile.key) (s.at_ u) (.p f.pidx.toNat) = false ∧
      (!(s.at_ u).loops.isEmpty && regBad (s.tile u.tile.key) (s.at_ u) .loops) = false ∧
      ((cls == 15 && fn == 0x3F) || (cls == 2 && (s.at_ u).loops.any (fun l => l.stop == (s.at_ u).pc))) = false := by
  simp only [State.fetched, Bool.and_eq_true, Bool.not_eq_true', bne_iff_ne, ne_eq] at h
  obtain ⟨⟨⟨⟨⟨⟨⟨⟨h1, h2⟩, h3⟩, h4⟩, h5⟩, h6⟩, h7⟩, h8⟩, h9⟩ := h
  refine ⟨h1, h2, h3, h4, beq_eq_false_iff_ne.2 h5, h6, ?_, ?_⟩
  · cases h : (s.at_ u).loops.isEmpty <;> simp_all
  · rw [h8, h9]; rfl

/-- The word of a fetched instruction: its class, its function and its fields. -/
theorem wordIs_parts {w : DWord} {cls fn : Nat} {f : Fields} (h : wordIs w cls fn f = true) :
    wordClass w = cls ∧ wordFunction w = fn ∧ fieldsOf w = f := by
  simp only [wordIs, Bool.and_eq_true, beq_iff_eq, decide_eq_true_eq] at h
  exact ⟨h.1.1, h.1.2, h.2⟩

/-- The core takes up a fetched instruction. -/
theorem issue_fetched {s : State} {u : Issue} {f : Fields} {cls fn : Nat} (h : s.fetched u f cls fn = true) (body : Ctx → Effect) :
    s.issue u f cls fn body = s.issueNow u body := by
  obtain ⟨h1, h2, h3, -⟩ := fetched_parts h
  have hf : (s.tile u.tile.key).fetches u.thread cls fn f = true := by
    simp only [State.at_] at h3
    simp [Tile.fetches, h3]
  simp only [State.cycleOf] at h2
  simp only [State.issue, h1, h2, hf, Bool.and_self, if_true]

/-- A fetched instruction whose predicate is false leaves its thread one instruction further and books its cycle: R33. -/
theorem issue_off {s : State} {u : Issue} {f : Fields} {cls fn : Nat} (h : s.fetched u f cls fn = true) (hp : s.holds u f = false) (body : Ctx → Effect) :
    ∃ r, s.issue u f cls fn body =
      s.finish u.tile.key (((s.tile u.tile.key).fetchCount (s.at_ u).pc).issued u.thread (s.cycleOf u) r 0 (s.at_ u)) u.thread
        ({ s.at_ u with waitFrom := none, wait := .none, came := false }.advance (s.cycleOf u) none) := by
  rw [issue_fetched h]
  obtain ⟨-, -, h3, h4, h5, h6, h7, h8⟩ := fetched_parts h
  obtain ⟨e1, e2, e3⟩ := wordIs_parts h3
  refine ⟨(s.at_ u).release u.cycle, ?_⟩
  simp only [State.holds] at hp
  simp only [State.at_] at *
  simp only [State.issueNow, fetchFault, fetchCount_word, fetchCount_ecc, fetchCount_bad, e1, e2, e3, h4, h5, h6, h7, h8, hp, Bool.false_or, Bool.false_and,
    Bool.false_eq_true, if_false, Bool.not_false, if_true, State.cycleOf]

/-- A legal instruction: its body runs on the booked tile. -/
theorem issue_legal {s : State} {u : Issue} {f : Fields} {cls fn : Nat} (h : s.legal u f cls fn = true) (body : Ctx → Effect) :
    ∃ r port, s.issue u f cls fn body =
      (let k := u.tile.key
       let n := u.thread.val
       let x := s.at_ u
       let c := s.cycleOf u
       let b := ((s.tile k).fetchCount x.pc).issued n c r port x
       match body { s := s, k := k, t := b, n := n, x := { x with waitFrom := none, wait := .none, came := false }, c := c, f := f } with
       | .fault code addr => s.raise k (((s.tile k).fetchCount x.pc).issued n c r 0 x) n x.pc code addr
       | .crash s' t' code addr => s'.raise k t' n x.pc code addr
       | .done s' t' y target => s'.finish k t' n (y.advance c target)
       | .hold w => s.setTile k (((s.tile k).fetchCount x.pc).setThread n { x with state := .data, wait := w, waitFrom := some (x.waitFrom.getD c) })) := by
  simp only [State.legal, Bool.and_eq_true] at h
  obtain ⟨⟨⟨hf, hp⟩, hc⟩, hs⟩ := h
  rw [issue_fetched hf]
  obtain ⟨-, -, h3, h4, h5, h6, h7, h8⟩ := fetched_parts hf
  obtain ⟨e1, e2, e3⟩ := wordIs_parts h3
  revert hs
  cases hsp : opSpec cls fn f with
  | none => intro hs; cases hs
  | some sp =>
    intro hs
    simp only [Bool.and_eq_true, Bool.not_eq_true'] at hs
    obtain ⟨h9, h10⟩ := hs
    simp only [State.holds] at hp
    refine ⟨(s.at_ u).release u.cycle, sp.port, ?_⟩
    have h11 : (sp.reads f).any (regBad ((s.tile u.tile.key).fetchCount (s.at_ u).pc) (s.at_ u)) = false := by
      rw [← h10]; congr 1; funext r; exact fetchCount_bad _ _ _ _
    simp only [State.at_] at *
    simp only [State.issueNow, fetchFault, fetchCount_word, fetchCount_ecc, fetchCount_bad, e1, e2, e3, h4, h5, h6, h7, h8, hp, hsp, h9, h11, hc,
      Bool.false_or, Bool.true_and, Bool.false_eq_true, if_false, Bool.not_true, State.cycleOf] <;> rfl

/-- The end of an instruction that goes on: nothing is raised. -/
theorem finish_on {s : State} {k n : Nat} {t : Tile} {y : Thread} {c : Nat} (h : (loopEnd y.loops y.pc).2 ≤ 4095) :
    s.finish k t n (y.advance c none) = s.setTile k (t.setThread n (y.advance c none)) := by
  have : ¬ ((y.advance c none).state = .running ∧ (y.advance c none).pc > 4095) := by
    simp only [Thread.advance]; omega
  simp only [State.finish, this, if_false]

/-- A clear instruction whose body writes one scalar register goes on as `scalarDone` says. -/
theorem scalarDone_ws {s : State} {u : Issue} {f : Fields} {cls fn : Nat} (h : s.clear u f cls fn = true) (d : Nat) (v : DWord) (lat : Nat)
   (body : Ctx → Effect) (hb : ∀ q : Ctx, q.s = s → q.f = f → q.x.s = (s.at_ u).s → q.x.p = (s.at_ u).p → body q = .done q.s q.t (q.x.ws d v (q.c + lat)) none) :
   scalarDone s (s.issue u f cls fn body) u d v lat := by
  simp only [State.clear, Bool.and_eq_true, decide_eq_true_eq] at h
  obtain ⟨h, hend⟩ := h
  obtain ⟨r, port, hc⟩ := issue_legal h body
  rw [hc]
  simp only []
  rw [hb _ rfl rfl rfl rfl]
  have hl : ∀ (x : Thread), (x.ws d v (s.cycleOf u + lat)).loops = x.loops ∧ (x.ws d v (s.cycleOf u + lat)).pc = x.pc ∧
    (x.ws d v (s.cycleOf u + lat)).state = x.state ∧ (x.ws d v (s.cycleOf u + lat)).v = x.v ∧ (x.ws d v (s.cycleOf u + lat)).p = x.p := by
    intro x; simp only [Thread.ws]; split <;> simp
  simp only []
  rw [finish_on (by rw [(hl _).1, (hl _).2.1]; exact hend)]
  obtain ⟨b1, b2, b3, b4⟩ := booked (s.tile u.tile.key) (s.at_ u).pc u.thread (s.cycleOf u) r port (s.at_ u)
  generalize ((s.tile u.tile.key).fetchCount (s.at_ u).pc).issued u.thread (s.cycleOf u) r port (s.at_ u) = b at *
  refine ⟨rfl, ⟨?_, ?_, ?_, ?_⟩, ⟨?_, ?_, ?_⟩, ⟨?_, ?_, ?_⟩, ?_⟩
  · intro j hj; simp [hj]
  · intro m hm; simp only [State.tile_setTile, if_true, Tile.thread_setThread, hm, if_false]; simp only [Tile.thread, b2]
  · intro i h1 h2 _; simpa using b4 i h1 h2
  · simpa [Tile.setThread] using b1
  · intro m; simp [State.at_, Thread.advance]; exact Thread.rs_ws _ _ _ _ _
  · intro m; simp [State.at_, Thread.advance, Thread.rv, (hl _).2.2.2.1]
  · intro m; simp [State.at_, Thread.advance, Thread.rp, (hl _).2.2.2.2]
  · simp [State.at_, Thread.advance, (hl _).1, (hl _).2.1]
  · simp [State.at_, Thread.advance, (hl _).1, (hl _).2.1]
  · simp [State.at_, Thread.advance, (hl _).2.2.1]
  · intro hd
    simp [State.at_, Thread.advance, Thread.readyAt, hd, Thread.ws]

end Sys2Proof.Machine
end

