-- ==== Sys2Proof/Laws/Memory.lean ====
section
/-! SUPPORT. The byte memories: what a read gives after bytes are written, and that every operation over tile SRAM, memory stacks and the flash keeps
the canonical form. -/

namespace Sys2Proof.Machine

/-! ### Bytes written -/

/-- A byte after a run of bytes is written from `a` on: the run's byte inside it, as before outside. -/
theorem get_putBytes (bs : List Byte) (m : List Host.Cell) (a x : Nat) :
    SMap.get (0 : Byte) (putBytes m a bs) x = if a ≤ x ∧ x < a + bs.length then bs.getD (x - a) 0 else SMap.get (0 : Byte) m x := by
  induction bs generalizing m a with
  | nil =>
    rw [if_neg (fun h => by have := h.2; simp only [List.length_nil] at this; omega)]
    rfl
  | cons b bs ih =>
    simp only [putBytes, ih, SMap.get_set, List.length_cons]
    by_cases h1 : a + 1 ≤ x ∧ x < a + 1 + bs.length
    · rw [if_pos h1, if_pos (by omega)]
      have : x - a = (x - (a + 1)) + 1 := by omega
      rw [this, List.getD_cons_succ]
    · rw [if_neg h1]
      by_cases h2 : x = a
      · subst h2; simp
      · rw [if_neg h2, if_neg (by omega)]

/-- Writing bytes keeps the canonical form. -/
theorem wf_putBytes (bs : List Byte) {m : List Host.Cell} (a : Nat) (h : Memory.wf 0 m = true) : Memory.wf 0 (putBytes m a bs) = true := by
  induction bs generalizing m a with
  | nil => exact h
  | cons b bs ih => exact ih (a + 1) (SMap.wf_set (0 : Byte) a b h)

/-- Dropping a range keeps the canonical form. -/
theorem wf_keep {d : Byte} {m : List Host.Cell} (p : Nat → Bool) (h : Memory.wf d m = true) :
    Memory.wf d (SMap.keep (α := Byte) p m) = true := SMap.wf_keep _ p h

/-- Writing a byte keeps the canonical form, whatever an unlisted one reads as. -/
theorem wf_setByte {d : Byte} {m : List Host.Cell} (a : Nat) (b : Byte) (h : Memory.wf d m = true) :
    Memory.wf d (SMap.set d m a b) = true := SMap.wf_set d a b h

/-! ### Tile SRAM (R28) -/

@[simp] theorem Tile.byte_write (t : Tile) (a : Nat) (bs : List Byte) (x : Nat) :
    (t.write a bs).byte x = if a ≤ x ∧ x < a + bs.length then bs.getD (x - a) 0 else t.byte x := get_putBytes bs t.sram a x
@[simp] theorem Tile.byte_setThread (t : Tile) (n : Nat) (y : Thread) (x : Nat) : (t.setThread n y).byte x = t.byte x := rfl
@[simp] theorem Tile.byte_setSys (t : Tile) (i : Nat) (w : Word) (x : Nat) : (t.setSys i w).byte x = t.byte x := rfl
theorem Tile.wf_write {t : Tile} (a : Nat) (bs : List Byte) (h : Memory.wf 0 t.sram = true) : Memory.wf 0 (t.write a bs).sram = true :=
  wf_putBytes bs a h

/-! ### Memory stacks (R236) -/

@[simp] theorem MemStack.byte_write (m : MemStack) (a : Nat) (bs : List Byte) (x : Nat) :
    (m.write a bs).byte x = if a ≤ x ∧ x < a + bs.length then bs.getD (x - a) 0 else m.byte x := get_putBytes bs m.dram a x
theorem MemStack.wf_write {m : MemStack} (a : Nat) (bs : List Byte) (h : Memory.wf 0 m.dram = true) :
    Memory.wf 0 (m.write a bs).dram = true := wf_putBytes bs a h

/-! ### The whole module -/

/-- The memories at reset. -/
theorem memoriesWf_reset : State.reset.memoriesWf = true := by decide

theorem memoriesWf_iff (s : State) : s.memoriesWf = true ↔
    (∀ e ∈ s.tiles, Memory.wf 0 e.2.sram = true) ∧ (∀ e ∈ s.stackMem, Memory.wf 0 e.2.dram = true) ∧ Memory.wf 0xFF s.boot.flash = true := by
  simp [State.memoriesWf, Bool.and_eq_true, and_assoc]

/-- The SRAM of any tile, listed or not. -/
theorem tile_wf {s : State} (h : s.memoriesWf = true) (k : Nat) : Memory.wf 0 (s.tile k).sram = true := by
  have h1 := ((memoriesWf_iff s).1 h).1
  unfold State.tile
  generalize s.tiles = m at h1
  induction m with
  | nil => rfl
  | cons e m ih =>
    obtain ⟨j, t⟩ := e
    simp only [SMap.get_cons]
    split
    · exact h1 (j, t) (List.mem_cons_self ..)
    · exact ih (fun e he => h1 e (List.mem_cons_of_mem _ he))

/-- The contents of any memory stack, listed or not. -/
theorem stack_wf {s : State} (h : s.memoriesWf = true) (m : Nat) : Memory.wf 0 (s.stack m).dram = true := by
  have h1 := ((memoriesWf_iff s).1 h).2.1
  unfold State.stack
  generalize s.stackMem = q at h1
  induction q with
  | nil => rfl
  | cons e q ih =>
    obtain ⟨j, t⟩ := e
    simp only [SMap.get_cons]
    split
    · exact h1 (j, t) (List.mem_cons_self ..)
    · exact ih (fun e he => h1 e (List.mem_cons_of_mem _ he))

theorem mem_set {α : Type} [DecidableEq α] {d : α} {m : SMap α} {k : Nat} {v : α} {e : Nat × α} (h : e ∈ SMap.set d m k v) :
    e = (k, v) ∨ e ∈ m := by
  unfold SMap.set at h
  split at h
  · exact .inr (SMap.mem_erase h)
  · exact SMap.mem_put h

/-- A tile whose SRAM is canonical may be put in place. -/
theorem memoriesWf_setTile {s : State} (h : s.memoriesWf = true) (k : Nat) {t : Tile} (ht : Memory.wf 0 t.sram = true) :
    (s.setTile k t).memoriesWf = true := by
  obtain ⟨h1, h2, h3⟩ := (memoriesWf_iff s).1 h
  refine (memoriesWf_iff _).2 ⟨fun e he => ?_, h2, h3⟩
  rcases mem_set he with he | he
  · subst he; exact ht
  · exact h1 e he

/-- A stack whose contents are canonical may be put in place. -/
theorem memoriesWf_setStack {s : State} (h : s.memoriesWf = true) (k : Nat) {x : MemStack} (hx : Memory.wf 0 x.dram = true) :
    (s.setStack k x).memoriesWf = true := by
  obtain ⟨h1, h2, h3⟩ := (memoriesWf_iff s).1 h
  refine (memoriesWf_iff _).2 ⟨h1, fun e he => ?_, h3⟩
  rcases mem_set he with he | he
  · subst he; exact hx
  · exact h2 e he

/-- Only tiles, stacks and flash count. -/
theorem memoriesWf_congr {s t : State} (h : s.memoriesWf = true) (h1 : t.tiles = s.tiles) (h2 : t.stackMem = s.stackMem)
    (h3 : t.boot.flash = s.boot.flash) : t.memoriesWf = true := by
  simpa [State.memoriesWf, h1, h2, h3] using h

end Sys2Proof.Machine
end

