-- ==== Sys2Proof/WellFormed.lean ====
section
/-! DEFINITION. Which commands are well formed: the operands that Lean's types do not already bound are within what the command's row and
rules allow. The meanings are total and do not rest on it: outside these bounds a command does nothing, or is answered as the rules answer a bad access
or field. -/

namespace Sys2Proof

open Machine

/-- What is wrong with a command's operands. -/
inductive Malformed where
  /-- A bit turned over that lies in no flit of a packet (R133, R134). -/
  | flit
  /-- A lane beyond a port's 516 receive lanes (R185). -/
  | lane
  /-- A noise byte outside a block (R160). -/
  | noise
  /-- An access to another register than the row's. -/
  | register
  /-- An action field other than the row's. -/
  | action
  /-- Not the row's half of a critical pair, or no critical register (R12). -/
  | pair
  /-- Not a lock register, or the lock bit not written (R13). -/
  | lock
  /-- A line beyond the stack's 48 GiB (R236). -/
  | line
  /-- A reason a link does not go down for (R260). -/
  | reason
  /-- A cause the tamper monitor does not have (R439). -/
  | cause
  /-- A housekeeping round that misses channels (R392). -/
  | sample
  /-- A heater offset outside its field (R389). -/
  | heater
deriving DecidableEq, Repr

/-- `none` where `b` holds, else the check's name. -/
def need (b : Bool) (m : Malformed) : Option Malformed := if b then none else some m

/-- Bits turned over lie in the packet's flits, head and at most sixteen of payload, and their 296 bits (R133, R134). -/
def flitWithin : FlitEvent → Option Malformed
  | .link flips => need (flips.all (fun x => x.1 ≤ 16 && x.2 < 296)) .flit
  | .headRange | .routerCheck => none

/-- The same of every link and router of a path. -/
def flitsWithin (evs : List FlitEvent) : Option Malformed := evs.findSome? flitWithin

/-- The lane is one of a port's. -/
def laneExists (l : BitVec 10) : Option Malformed := need (l.toNat < 516) .lane

/-- Noise within a block. -/
def noiseWithin (n : List (Nat × Byte)) : Option Malformed := need (n.all (fun e => e.1 < 144)) .noise

/-- The access names the row's register. -/
def named (a : Access) (r : Nat) : Option Malformed := need (a.addr.toNat == r) .register

/-- The action that a lane swap writes. -/
def swapAction (v : Word) (n : Nat) : Option Malformed := need (v.toNat / 2 ^ 30 == n) .action

/-- The register that an address lies in, with its block and whether it is a high half. -/
def registerAt (a : Access) : Option (Block × RegRow × Bool) :=
  match blockOf a.addr.toNat with
  | none => none
  | some (b, off) => (findRow (blockRows b) off).map (fun r => (b, r.1, r.2.2))

/-- A lock register, and its lock bit written. -/
def lockNamed (a : Access) (v : Word) : Option Malformed :=
  match registerAt a with
  | some (_, r, _) => need (r.off == 4 && r.w1s.getLsbD 31 && v.getLsbD 31) .lock
  | none => some .lock

/-- The low or the high half of a critical pair. -/
def pairHalf (a : Access) (high : Bool) : Option Malformed :=
  match registerAt a with
  | some (_, r, hi) => need (r.rwc != 0 && hi == high) .pair
  | none => some .pair

/-- The low half of a time: of the master, its latest beacon, or a unit (R234). -/
def timeLow (a : Access) : Option Malformed :=
  need (a.addr.toNat == 0x50050 || a.addr.toNat == 0x50058 ||
    (0x50400 ≤ a.addr.toNat && a.addr.toNat < 0x50650 && a.addr.toNat % 16 == 0)) .register

/-- A line of a memory stack. -/
def lineExists (n : Nat) : Option Malformed := need (n < 0x30000000) .line

/-- The link goes down: FEC lock lost, replay stalled, lane errors. -/
def downReason (r : BitVec 3) : Option Malformed := need (3 ≤ r.toNat && r.toNat ≤ 5) .reason

/-- One of the five tamper causes. -/
def tamperCause (c : BitVec 4) : Option Malformed := need (1 ≤ c.toNat && c.toNat ≤ 5) .cause

/-- Every channel read. -/
def sampleWhole (x : HkSample) : Option Malformed :=
  need (x.temps.length == 626 && x.railMv.length == 80 && x.railDa.length == 80 && x.domsW.length == 80 && x.fades.length == 12) .sample

/-- A swept pair lies in the block that sweeps. -/
def sweepWithin (base : BitVec 40) (bad : Option (BitVec 40)) : Option Malformed :=
  match bad with
  | none => none
  | some a => need ((blockOf base.toNat).map (fun b => b.1) == (blockOf a.toNat).map (fun b => b.1)) .pair

/-- A heater offset in its eight bits. -/
def heaterCode (r : LaneMeas) : Option Malformed := need (-128 ≤ r.heater && r.heater ≤ 127) .heater

/-- The first check that a command fails. -/
def Instr.malformed : Instr → Option Malformed
  | .add _ _ | .sub _ _ | .and _ _ | .or _ _ | .xor _ _ | .sll _ _ | .srl _ _ | .sra _ _ | .mul _ _ | .mulhu _ _ | .mulhs _ _ | .min _ _ | .max _ _
  | .minu _ _ | .maxu _ _ | .sel _ _ | .addi _ _ | .andi _ _ | .ori _ _ | .xori _ _ | .slli _ _ | .srli _ _ | .srai _ _ | .muli _ _ | .movhi _ _
  | .cmpeq _ _ | .cmplt _ _ | .cmpltu _ _ | .cmpeqi _ _ | .cmplti _ _ | .cmpltui _ _ | .pand _ _ | .por _ _ | .pxor _ _ | .pandn _ _ | .ldb _ _
  | .ldh _ _ | .ldw _ _ | .ldd _ _ | .ldbs _ _ | .ldhs _ _ | .ldws _ _ | .stb _ _ | .sth _ _ | .stw _ _ | .std _ _ | .vld _ _ | .vst _ _ | .br _ _
  | .brr _ _ | .call _ _ | .loop _ _ | .loopr _ _ | .lpop _ _ | .vadd _ _ | .vsub _ _ | .vmul _ _ | .vfma _ _ | .vmin _ _ | .vmax _ _ | .vfcmplt _ _
  | .vfcmpeq _ _ | .viadd _ _ | .visub _ _ | .vand _ _ | .vor _ _ | .vxor _ _ | .vshli _ _ | .vshri _ _ | .vblend _ _ | .vperm _ _ | .vbcast _ _
  | .vget _ _ | .vset _ _ | .vany _ _ | .vicmplt _ _ | .vcvtBf16 _ _ | .vcvtFp16 _ _ | .vextBf16 _ _ | .vextFp16 _ _ | .vpackMxf8 _ _
  | .vpackMxf6 _ _ | .vpackMxf4 _ _ | .vpackMxi8 _ _ | .vunpkMxf8 _ _ | .vunpkMxf6 _ _ | .vunpkMxf4 _ _ | .vunpkMxi8 _ _ | .vrcp _ _ | .vrsq _ _
  | .vexp2 _ _ | .vlog2 _ _ | .vsum _ _ | .vrmax _ _ | .mopBf16 _ _ | .mopFp16 _ _ | .mopMxi8 _ _ | .mopMxf8 _ _ | .mopMxf6 _ _ | .mopMxf4 _ _
  | .mopArrayDone _ | .ast _ _ | .ald _ _ | .mzero _ _ | .aget _ _ | .msend _ _ | .mwait _ _ | .mtest _ _ | .mcnt _ _ | .mquiet _ _ | .hsend _ _
  | .hbcast _ _ | .hget _ _ | .esend _ _ | .hquiet _ _ | .xldD _ _ | .xldV _ _ | .xstD _ _ | .xstV _ _ | .xadd _ _ | .xfadd _ _ | .xswap _ _
  | .xcas _ _ | .stampAt _ _ | .stampReached _ | .sync _ _ | .tickend _ _ | .srd _ _ | .swr _ _ | .stime _ _ | .stick _ _ | .coreCheck _
  | .sramWriteBack _ _ | .remoteResponse _ _ | .remoteTimeout _ _ | .sendInject _ _ | .meshSlotWindowOpen _ _ => none
  | .meshPacketArrival _ _ ev => flitWithin ev
  | .reducePacketCombine _ _ ev => flitWithin ev
  | .forkSlip _ => none
  | .syncToken _ _ ev => flitWithin ev
  | .syncRelease _ _ evs => flitsWithin evs
  | .syncFence _ _ | .crossingSlip _ _ | .tickBeacon | .idleBeacon | .flywheelBeacon | .tickInEdge _ | .guardStart | .localVerdictFinal | .voteClose
  | .voteSend | .voteWaitExpiry | .commitDecision | .decisionLost | .coreFencePrepare _ | .spareLoadingEnd _ | .dieFailure _ | .takeoverEnd
  | .jobTeardown | .checkpointSnapshotEnd _ _ | .peerCheckpointTransfer | .healthReport _ _ _ | .yield | .stokerSnapshot | .stokerFailover _
  | .stokerReturn => none
  | .criticalPairSweep base bad => sweepWithin base bad
  | .hearthWindowOpen _ _ _ => none
  | .hearthBlockReceive _ _ lane noise => (laneExists lane).or (noiseWithin noise)
  | .broadcastBlockLanding _ _ evs => flitsWithin evs
  | .readRequest _ _ => none
  | .readResponseLanding _ _ evs => flitsWithin evs
  | .memoryWrite _ _ | .reserveOff _ _ | .reserveOn _ _ | .offFrame _ _ _ | .onFrame _ _ _ | .pilotTickBeacon _ _ | .pilotGuardStart _ _
  | .firmwareWord _ _ _ | .laneSet _ _ | .errorReport _ _ | .pilotFrameLost _ _ _ | .pilotComplementMismatch _ _ _ => none
  | .laneFail _ lane => laneExists lane
  | .laneSwapToSpare a v => (named a Reg.HRT_LANE_SWAP).or (swapAction v 2)
  | .laneSwapReturn a v => (named a Reg.HRT_LANE_SWAP).or (swapAction v 3)
  | .sumPacketQueue _ _ ev => flitWithin ev
  | .sumRoundSend _ _ | .sumRoundReceive _ _ _ => none
  | .sumResultDelivery _ evs => flitsWithin evs
  | .toneWindow _ _ _ _ _ _ | .referenceLost _ _ | .referenceReturned => none
  | .timeStep a _ => named a Reg.TCK_TIME_STEP_HI
  | .ptpMessage _ _ _ _ _ | .inputDeadline _ _ => none
  | .patrolScrub _ line => lineExists line
  | .fabricAtomic _ | .trainingCell _ _ => none
  | .linkDown _ reason => downReason reason
  | .linkUp _ | .fabricCellReceive _ _ _ | .replayRequest _ _ | .linkDelayMeasure _ _ _ | .scheduledWindowStart _ _ | .scheduledCellReceive _
  | .remoteRequest _ | .combinerFlush _ | .beaconFrame _ _ | .vote _ | .decision _ | .echoRequest _ _ | .echoReply _ _ | .loss
  | .mhpDatagram _ _ _ _ _ _ _ | .hello _ _ _ _ _ | .bye _ | .keepalive _ | .getStatus _ | .regRead _ _ _ | .regWrite _ _ _ | .loadJob _ _ _ _
  | .unloadJob _ | .startJob _ _ _ _ | .stopJob _ | .drainEnd | .teardown _ | .bank _ | .wake _ | .wakeComplete | .reset _ _ _ => none
  | .rstReqWrite a _ => named a Reg.RST_REQ
  | .configRevert _ | .mbxSend _ _ _ | .mbxRecv _ _ | .openQp _ _ _ _ _ _ | .closeQp _ _ | .subscribe _ _ | .getQuote _ _ | .sessionIdleTimeout _
  | .rdmaWrite _ _ _ _ _ _ | .rdmaRead _ _ _ _ | .cnpReceive _ _ _ _ | .pfcPause _ _ | .arpRequest _ _ _ _ _ _ | .frameDrop _ _ _ _ | .mbxInWr _ _ _
  | .mbxInRd _ _ | .mbxInBell _ _ _ | .mbxOutWr _ _ _ | .mbxOutRd _ _ | .mbxOutBell _ _ _ | .mbxAckWrite _ _ _ _ | .mbxAckRead _ _ _
  | .mbxVerWrite _ _ _ | .mailboxMessageExpiry _ _ => none
  | .rwcLowWrite a _ => pairHalf a false
  | .rwcHighWrite a _ => pairHalf a true
  | .rwcPendingExpiry _ => none
  | .lockWrite a v => lockNamed a v
  | .tblAddrWrite _ _ _ | .tblDataRead _ _ _ | .mshShadowReady _ _ _ | .hrtShadowReady _ _ => none
  | .timeLoRead a => timeLow a
  | .tckSrcWrite _ _ | .tckPeriodWrite _ _ | .pwrBudgetWrite _ _ | .fabLockWrite _ _ _ | .portRetrain _ _ _ | .glvExtDataWrite _ _ _
  | .cfgFlashDataWrite _ _ | .registerWrite _ _ | .controlAccessTimeout _ _ _ | .reReference _ | .combReturn _ _ _ | .spareStart _ _ _
  | .spareHandover _ _ _ | .spareLock _ | .spareLockTimeout _ | .handoverRampEnd _ | .heaterLoopWindow _ _ _ | .laneCalibration _ _
  | .sumDelayCalibration _ _ | .lockThresholdCalibration _ _ => none
  | .calibrationMeasurementEnd r => heaterCode r
  | .housekeepingRound x => sampleWhole x
  | .damperStageChange _ | .coolSecond | .wearSecond | .brownOut _ | .bankEntryEnd | .coldReset _ _ _ | .warmReset _ _ _ | .dieReset _ _ _ _ | .jobReset
  | .releaseStepEnd _ _ | .optionLoad | .setSignatureVerify | .bootLimitExpiry _ | .stokerWatchdogExpiry | .eraseRegion _ | .checkRegion _
  | .selfTests _ | .ownerRootRecord _ | .extendM3 _ => none
  | .tamper cause => tamperCause cause
  | .entropyHealthFail | .inputQualified | .inputLost | .vbakApplied | .vbakLost | .modResetN _ | .i2cRead _ | .i2cOffsetWrite _ | .opticOverpower _
  | .droopStretch _ _ _ | .syncIntervalMissed | .hostLinkDown _ | .hostLinkUp _ | .loadJobEnd | .cfgCmdEnd _ | .glvCmdEnd _ | .quoteSigned => none

/-- A well-formed command. -/
def Instr.wellFormed (i : Instr) : Bool := i.malformed.isNone

end Sys2Proof
end

