-- ==== Sys2Proof/Tests/Slice0.lean ====
section
/-! SUPPORT. Tests: for each statement a state and operands that meet its hypotheses (at boundary values), instruction words
written out from the encoding rules, single steps whose results follow from the spec's tables and worked examples, and a command that each
well-formedness check refuses. -/

namespace Sys2Proof.Tests

set_option Elab.async false

open Machine

/-! ### Small states -/

/-- Row 0 of die 0, physical column 48: logical column 47. -/
def tid : TileId := ⟨0, 0, 48⟩
def iss (n : Fin 4) : Issue := ⟨tid, n, 0⟩
/-- Operand fields: destination, sources, immediate, under p0. -/
def ops (d a b : Nat) (imm : Word) : Fields :=
  { pneg := false, pidx := 0, dest := BitVec.ofNat 6 d, srca := BitVec.ofNat 6 a, srcb := BitVec.ofNat 6 b, imm := imm }
/-- A running thread at index `pc`, its scalar registers listed. -/
def thr (pc : Nat) (regs : SMap DWord) : Thread := { Thread.reset with state := .running, pc := pc, s := regs }
/-- A placed tile with thread `n`; its program store holds the word `w` at the thread's index. -/
def cell (n : Nat) (x : Thread) (w : DWord := 0) : Tile :=
  { Tile.reset with placed := true, pstore := if w = 0 then [] else [(x.pc, w)], threads := [(n, x)] }
/-- The module running, its tick open, compute die 0 powered, one tile at `tid`. -/
def core (t : Tile) : State :=
  { State.reset with mode := .running, tick := { TickState.reset with isOpen := true }, tiles := [(48, t)] }.setReg (Reg.PWR_DOM 0) 5
/-- As `core`, with thread `n` at index 0 of an empty program store. -/
def run (n : Nat) (regs : SMap DWord) : State := core (cell n (thr 0 regs))
/-- As `run`, with the instruction of class `cls` and function `fn` at index 0. -/
def runs (n : Nat) (regs : SMap DWord) (cls fn : Nat) (f : Fields) : State := core (cell n (thr 0 regs) (tileWord cls fn f))
/-- What a step answers, where it answers a next state. -/
def next? (o : Host.Outcome State Fault Refusal) : Option State :=
  match o with
  | .next t => some t
  | .fault _ => none
  | .refused _ => none
/-- A fact about the next state. -/
def leads (i : Instr) (s : State) (p : State → Bool) : Bool := ((next? (exec i s)).map p).getD false
/-- The state with tile 48 changed. -/
def tweak (s : State) (g : Tile → Tile) : State := s.setTile 48 (g (s.tile 48))

/-! ### The core: hypotheses that can be met -/

/-- ScalarAlu: every operand form issues with the registers at the top of their ranges. -/
theorem wit_ScalarAlu :
    ([(0x00, ops 31 31 31 0), (0x0F, ops 31 1 2 7), (0x10, ops 31 1 0 0xFFFFFFFF), (0x14, ops 0 1 0 63), (0x20, ops 7 1 2 0),
      (0x25, ops 7 1 0 0x80000000), (0x2B, ops 7 7 7 0)] : List (Nat × Fields)).all
      (fun r => (runs 3 [(1, 5)] 0 r.1 r.2).clear (iss 3) r.2 0 r.1) = true := by decide +kernel

/-- LocalLoads: each width at the last bytes of the SRAM. -/
theorem wit_LocalLoads :
    (([(1, 0x00), (2, 0x01), (4, 0x02), (8, 0x03), (64, 0x10)] : List (Nat × Nat)).all (fun r =>
      let f := ops 15 1 0 (intWord (-(r.1 : Nat)))
      let s := runs 1 [(1, 0x100000)] 1 r.2 f
      s.clear (iss 1) f 1 r.2 && (s.localAt 48 ((s.at_ (iss 1)).rs 1 + f.imm.signExtend 64).toNat false == .at_ (0x100000 - r.1) false) &&
        ((s.tile 48).badWord (wordsOf (0x100000 - r.1) r.1) == none))) = true := by
  decide +kernel

/-- A carry window of tile 48: from 0x40 on, 128 bytes, its copy 1 at 0x80. -/
def windowed (s : State) : State :=
  (((s.setReg (Reg.TIL_CARRY 0 0 0) 0x80000000).setReg (Reg.TIL_CARRY 0 0 1) 1).setReg (Reg.TIL_CARRY 0 0 2) 2).setReg (Reg.TIL_CARRY 0 0 3) 4

/-- LocalStores: each width at the last bytes; VST through the write alias of a carry window before and after the guard start. -/
theorem wit_LocalStores :
    (([(1, 0x08), (2, 0x09), (4, 0x0A), (8, 0x0B), (64, 0x11)] : List (Nat × Nat)).all (fun r =>
      let f := ops 0 1 2 (intWord (-(r.1 : Nat)))
      let s := runs 1 [(1, 0x100000)] 1 r.2 f
      s.clear (iss 1) f 1 r.2 && (s.localAt 48 ((s.at_ (iss 1)).rs 1 + f.imm.signExtend 64).toNat true == .at_ (0x100000 - r.1) false) &&
        ((s.tile 48).badWord (partWords (0x100000 - r.1) r.1) == none)) &&
      (let f := ops 0 1 15 64
       let s := windowed (runs 0 [(1, 0x200000)] 1 0x11 f)
       let g := { s with tick := { s.tick with guard := true } }
       s.clear (iss 0) f 1 0x11 && (s.localAt 48 0x200040 true == .at_ 0x240 true) && !s.tick.guard && ((s.tile 48).badWord (partWords 0x240 64) == none) &&
         g.clear (iss 0) f 1 0x11 && (g.localAt 48 0x200040 true == .at_ 0x240 true))) = true := by
  decide +kernel

/-- LocalFaults: an address of another space, a misaligned one, and an uncorrectable word under a load and under part of a store. -/
theorem wit_LocalFaults :
    (let r := [(1, 0x10000000000000), (2, 0xFFFF1), (3, 0xFFFF8)]
     let ld := fun (a : Nat) => runs 2 r 1 0x03 (ops 4 a 0 0)
     let st := fun (a : Nat) => runs 2 r 1 0x08 (ops 0 a 4 0)
     let bad := fun (s : State) => s.setTile 48 { s.tile 48 with sramEcc := [(0x1FFFF, .double)] }
     (ld 1).legal (iss 2) (ops 4 1 0 0) 1 0x03 && (st 1).legal (iss 2) (ops 0 1 4 0) 1 0x08 && ((ld 1).localAt 48 0x10000000000000 false == .bad 0x04) &&
       ((st 1).localAt 48 0x10000000000000 true == .bad 0x04) && (ld 2).legal (iss 2) (ops 4 2 0 0) 1 0x03 &&
       ((ld 2).localAt 48 0xFFFF1 false == .at_ 0xFFFF1 false) && (bad (ld 3)).legal (iss 2) (ops 4 3 0 0) 1 0x03 &&
       (bad (st 3)).legal (iss 2) (ops 0 3 4 0) 1 0x08 && ((bad (ld 3)).localAt 48 0xFFFF8 true == .at_ 0xFFFF8 false) &&
       (((bad (ld 3)).tile 48).badWord (wordsOf 0xFFFF8 8) == some 0x1FFFF) && (((bad (st 3)).tile 48).badWord (partWords 0xFFFF8 1) == some 0x1FFFF)) = true := by
  decide +kernel

/-- ControlFlow: targets, counts and ends at the ends of their ranges, an open loop level, LPOP, and the four ILLEGAL operands. -/
theorem wit_ControlFlow :
    (let lv : LoopLevel := ⟨1, 0, 7⟩
     let s := fun (pc fn : Nat) (ls : List LoopLevel) (f : Fields) =>
       core (cell 0 { thr pc [(1, 4095), (2, 0xFFFFF), (3, 0x100000)] with loops := ls } (tileWord 2 fn f))
     let ok := fun (pc fn : Nat) (ls : List LoopLevel) (f : Fields) => (s pc fn ls f).legal (iss 0) f 2 fn
     ok 4094 0 [lv] (ops 0 0 0 0xFFF) && ok 4094 1 [lv] (ops 0 1 0 0) && ok 4094 2 [lv] (ops 31 0 0 0xFFF) && ok 4094 8 [lv] (ops 0 0 0 0xFFFFFFFF) &&
       ok 4094 9 [lv] (ops 0 2 0 0xFFF) && ok 4093 9 [lv] (ops 0 0 0 0xFFE) && ok 4094 10 [lv] (ops 0 0 0 0) && ok 4094 1 [] (ops 0 3 0 0) &&
       ok 4094 9 [] (ops 0 3 0 0xFFF) && ok 4094 8 [lv, lv] (ops 0 0 0 0xFFFFFFFF) && ok 4094 8 [] (ops 0 0 0 0x1FFE)) = true := by
  decide +kernel

/-- The vector statements: every operand form, registers and immediates at the top of their ranges, on a loose thread. -/
theorem wit_Vector :
    ([(0x00, ops 15 15 15 0), (0x0D, ops 15 15 0 31), (0x03, ops 15 14 13 0), (0x11, ops 15 31 0 0), (0x13, ops 15 31 0 15), (0x12, ops 31 15 0 15),
      (0x14, ops 7 15 0 0), (0x28, ops 15 15 0 0), (0x30, ops 15 15 0 0), (0x1A, ops 14 15 0 0), (0x18, ops 15 14 0 0x10000), (0x1C, ops 15 14 15 0x33F20),
      (0x1E, ops 15 14 13 0x13F20), (0x20, ops 14 15 13 0x23F20), (0x22, ops 14 15 13 0x3F30)] : List (Nat × Fields)).all
      (fun r => (runs 2 [(31, 7)] 3 r.1 r.2).clear (iss 2) r.2 3 r.1) = true := by decide +kernel

/-- ReductionsAndEstimates: a normal operand with a normal reciprocal, a NaN, and a lane that is finite. -/
theorem wit_ReductionsAndEstimates :
    ofF32 0x3F800000 = .fin false 0x800000 (-23) ∧ estOperand 0x3F800000 = .fin false 0x800000 (-23) ∧ floorLog2 0x800000 (-23) < 126 ∧
      ofF32 0x7FC00001 = .nan := by decide +kernel

/-- ReductionsAndEstimates: a finite VSUM of finite lanes, whatever the implementation's value is. -/
theorem wit_ReductionsAndEstimates_vsum : ∃ n m e, ofF32 (vsumOf 0 0 [FV.fin false 0 0]).1 = .fin n m e := by
  have hs : sumTerms [FV.fin false 0 0] = (.fin false 0 0, 0) := by decide +kernel
  have hd : deliver (FV.fin false 0 0, 0) = (0, 0) := by decide +kernel
  have hz : ∃ e, ofF32 0 = .fin false 0 e := ⟨(-149), by decide +kernel⟩
  obtain ⟨e0, hz⟩ := hz
  have h1 : leDyadic (2 ^ 24 - 1) 104 (sumAbs [FV.fin false 0 0]).1 (sumAbs [FV.fin false 0 0]).2 = false := by decide +kernel
  have h2 : leDyadic (2 ^ 24 - 1) 105 (sumAbs [FV.fin false 0 0]).1 (sumAbs [FV.fin false 0 0]).2 = false := by decide +kernel
  unfold vsumOf
  rw [hs]
  simp only [hd]
  split
  · rename_i n m e h
    split
    · exact ⟨_, _, _, hz⟩
    · split
      · exact ⟨_, _, _, by simpa using hz⟩
      · exact ⟨n, m, e, by simpa using h⟩
  · rw [h1]; exact ⟨_, _, _, hz⟩
  · rw [h2]; exact ⟨_, _, _, hz⟩


/-- MxElementValues: a number, a NaN and an infinity among the codes. -/
theorem wit_MxElementValues :
    MxType.decode .e4m3 0x38 = .fin false 8 (-3) ∧ mxValue .e4m3 0x38 0x80 = .fin false 8 (-2) ∧ MxType.decode .e4m3 0x7F = .nan ∧
      MxType.decode .e5m2 0xFC = .inf true ∧ mxValue .e5m2 0xFC 0xFE = .inf true ∧ mxValue .int8 0x40 0xFF = .nan := by decide +kernel

/-- VectorMxBlocks: an offset that is no multiple of 8, and one that puts the block beyond byte 63. -/
theorem wit_VectorMxBlocks :
    ([(0x1C, ops 15 14 13 0x1), (0x23, ops 14 15 13 0x28)] : List (Nat × Fields)).all
      (fun r => (runs 2 [] 3 r.1 r.2).legal (iss 2) r.2 3 r.1 && (r.2.bits 5 0 % 8 != 0 || decide (64 < r.2.bits 5 0 + 32))) = true := by decide +kernel

/-- The bound thread with a send descriptor or two in its queue. -/
def desc (kind : SendKind) (len sent : Nat) : SendDesc :=
  { kind := kind, thread := 0, pc := 0, src := 0, dst := 0, len := len, sent := sent, part := [], partBad := none, poison := false }

/-- MatrixClass: each MOP form, the accumulator forms, sixteen rows at the end of the SRAM, one of them uncorrectable, rows that lead nowhere, into a
copy 1, off their grain and through the write alias after the guard start, and a MOP in the array. -/
theorem wit_MatrixClass :
    ([(0x00, 0x100), (0x01, 0x100), (0x02, 0x1FF), (0x03, 0x6FF), (0x04, 0x4F0), (0x05, 0xFF)] : List (Nat × Word)).all
      (fun r => (runs 0 [] 4 r.1 (ops 3 14 12 r.2)).clear (iss 0) (ops 3 14 12 r.2) 4 r.1) = true ∧
    (let at_ := fun (ea : DWord) (fn : Nat) (f : Fields) => runs 0 [(1, ea)] 4 fn f
     let ast := ops 0 1 3 0
     let ald := ops 3 1 0 0
     let s := at_ 0xFFC00 0x10 ast
     let l := at_ 0xFFC00 0x11 ald
     let g := (fun (q : State) => { q with tick := { q.tick with guard := true } }) (windowed (at_ 0x200000 0x10 ast))
     s.clear (iss 0) ast 4 0x10 && l.clear (iss 0) ald 4 0x11 && g.clear (iss 0) ast 4 0x10 && (g.localAt 48 0x200000 true == .at_ 0x200 true) &&
       (List.range 16).all (fun r => s.localAt 48 (0xFFC00 + 64 * r) true == .at_ (0xFFC00 + 64 * r) false &&
         l.localAt 48 (0xFFC00 + 64 * r) false == .at_ (0xFFC00 + 64 * r) false) && ((l.tile 48).badWord (wordsOf 0xFFC00 1024) == none) &&
       (tweak l (fun t => { t with sramEcc := [(0x1FF80, .double)] })).clear (iss 0) ald 4 0x11 &&
       leads (.ast (iss 0) ast) (at_ 0xFFC40 0x10 ast) (fun t => (t.tile 48).sys 7 == 0x80000004) &&
       leads (.ast (iss 0) ast) (windowed (at_ 0x200 0x10 ast)) (fun t => (t.tile 48).sys 7 == 0x80000005) &&
       leads (.ald (iss 0) ald) (at_ 32 0x11 ald) (fun t => (t.tile 48).sys 7 == 0x80000003) &&
       (runs 0 [] 4 0x12 (ops 3 0 0 0)).clear (iss 0) (ops 3 0 0 0) 4 0x12 &&
       (runs 0 [] 4 0x13 (ops 15 3 0 15)).clear (iss 0) (ops 15 3 0 15) 4 0x13) = true ∧
    ((core { cell 0 (thr 0 []) with mac := [(3, 11)] }).tile tid.key).mac = (3, 11) :: [] := by decide +kernel

/-- Sends: behind three descriptors, the longest MSEND, an HSEND to the end of a stack and one to a tile of die 1, HBCAST, HGET and ESEND of the most
values; behind four, a send held off. -/
theorem wit_Sends :
    (let regs : SMap DWord := [(1, 0xF0000), (2, 65536), (3, 0x100BFFFF0000), (4, 0x10000000000), (5, 0xFFF80), (6, 128), (7, 0xF0000), (8, 16384)]
     let d := desc (.hbcast 0) 128 0
     let s := fun (n cls fn : Nat) (f : Fields) => tweak (runs 0 regs cls fn f) (fun t => { t with sendB := List.replicate n d })
     let ok := fun (cls fn : Nat) (f : Fields) => (s 3 cls fn f).clear (iss 0) f cls fn && (s 4 cls fn f).clear (iss 0) f cls fn
     let q := s 3 5 0 (ops 7 1 2 0x00BC0000)
     let here := fun (ea n : Nat) => q.localAt 48 ea false == .at_ ea false && q.localAt 48 (ea + n - 1) false == .at_ (ea + n - 1) false
     decide ((q.tile 48).sendB.length < 4) && ok 5 0 (ops 7 1 2 0x00BC0000) && !(routeBad 0x00BC0000) && decide (0xF0000 + 65536 ≤ 2 ^ 20) && here 0xF0000 65536 &&
       ok 6 0 (ops 3 1 2 0xFF00) && hearthLength 65536 && !(stackRange 0x100BFFFF0080 65536) && stackRange 0x100BFFFF0000 65536 &&
       ok 6 0 (ops 4 5 6 0xFE0F) && q.remoteTile 48 0x10000000000 128 && hearthLength 128 && here 0xFFF80 128 && ok 6 1 (ops 0 5 6 0x2500) &&
       ok 6 2 (ops 1 3 2 0xFE0F) && ok 6 8 (ops 8 1 0 0xFE0F)) = true := by decide +kernel

/-- The sends' operand checks, in the order of R482: of each send, a word whose operands break one of them and the fault code it raises: destination
register 5, source registers 6 and 7. -/
theorem wit_InstructionFaults_sends :
    ([(5, 0, 0, 0x40, 0x40, 33, 1), (5, 0, 0, 0x40, 0x10000000000000, 32, 4), (5, 0, 0, 0xFFFE0, 0x40, 64, 4), (5, 0, 0, 0x40, 1, 32, 3), (5, 0, 0, 1, 0x40, 32, 3),
      (6, 0, 0, 0x100000000000, 0, 1, 1), (6, 0, 1, 0x100000000000, 0, 128, 1), (6, 0, 0, 0x100000000000, 0x10000000000000, 128, 4), (6, 0, 0, 0, 0, 128, 4),
      (6, 0, 0, 0x100000000000, 64, 128, 3), (6, 0, 0, 0x100000000040, 0, 128, 3), (6, 1, 0, 0, 0, 1, 1), (6, 1, 0, 0, 0x10000000000000, 128, 4),
      (6, 1, 0, 0, 64, 128, 3), (6, 2, 0, 0, 0x100000000000, 1, 1), (6, 2, 0, 0x10000000000000, 0x100000000000, 128, 4), (6, 2, 0, 0, 0, 128, 4),
      (6, 2, 0, 64, 0x100000000000, 128, 3), (6, 2, 0, 0, 0x100000000040, 128, 3), (6, 8, 0, 0, 0, 0, 1), (6, 8, 0, 16385, 0, 0, 1),
      (6, 8, 0, 16, 0x10000000000000, 0, 4), (6, 8, 0, 16, 32, 0, 3)] : List (Nat × Nat × Word × DWord × DWord × DWord × Nat)).all
      (fun r =>
        let f := ops (if r.1 = 6 && r.2.1 = 1 then 0 else 5) 6 7 r.2.2.1
        let s := runs 0 [(5, r.2.2.2.1), (6, r.2.2.2.2.1), (7, r.2.2.2.2.2.1)] r.1 r.2.1 f
        s.legal (iss 0) f r.1 r.2.1 &&
          (match tileCtor r.1 r.2.1 with
          | some c => leads (c (iss 0) f) s (fun t => (t.tile 48).sys 7 == BitVec.ofNat 32 (0x80000000 + r.2.2.2.2.2.2))
          | none => false)) = true := by decide +kernel

/-- MeshWaits: a counter at its n and below it; queues with and without a Hearth send. -/
theorem wit_MeshWaits :
    (let full := fun (t : Tile) => { t with ctr := [(15, 0xFFFF)], sendB := [desc (.mesh 0) 64 0, desc (.hbcast 0) 128 0] }
     let both := fun (cls fn : Nat) (f : Fields) => (tweak (runs 0 [] cls fn f) full).clear (iss 0) f cls fn && (runs 0 [] cls fn f).clear (iss 0) f cls fn
     let s := tweak (run 0 []) full
     both 5 8 (ops 0 0 0 0xFFFF000F) && decide (0xFFFF000F / 65536 ≤ (s.tile 48).ctr.get 0 15) && decide (((run 0 []).tile 48).ctr.get 0 15 < 1) &&
       both 5 9 (ops 7 0 0 0xFFFF000F) && both 5 10 (ops 31 0 0 15) && both 5 11 (ops 0 0 0 0) && both 6 11 (ops 0 0 0 0xFF00) &&
       (((run 0 []).tile 48).queue 0 == []) && ((s.tile 48).queue 0).any (fun d => d.isHearth)) = true := by decide +kernel

/-- RemoteOperations: each operation granted at the end of its window of 4 KiB of stack 0, at every module; refused beyond it and where no module is named;
granted off its size. -/
theorem wit_RemoteOperations :
    (([(0, 0, false), (1, 1, false), (4, 4, true), (5, 5, true), (8, 8, true), (9, 9, true), (10, 10, true), (11, 11, true)] : List (Nat × Nat × Bool)).all
      (fun r =>
        let a := 0xFFF100000001000 - opBytes r.2.1
        let f : Fields := ops (if r.1 = 4 || r.1 = 5 || r.1 = 8 then 0 else 15) 1 (if r.2.2 then 15 else 0) 0
        let s := (fun (q : State) => { q with fabric := { q.fabric with mirror := [(0, 0xF8000001), (1, 0x0F0F0F00), (2, 0), (3, 0)] } })
          (runs 3 [(1, BitVec.ofNat 64 a)] 7 r.1 f)
        s.clear (iss 3) f 7 r.1 && (s.remoteCoord false a == some 0xFFF) && s.granted 0xFFF (a % 2 ^ 48) r.2.1 &&
          !(s.granted 0xFFF ((a + opBytes r.2.1) % 2 ^ 48) r.2.1) && s.granted 0xFFF (0xFFF100000000004 % 2 ^ 48) r.2.1 &&
          (s.remoteCoord true 0 == none))) = true := by decide +kernel

/-- A thread parked on an XLD.D to s5 issued in tick 0. -/
def parked (timedOut : Bool) : State :=
  core (cell 1 { thr 4095 [] with
    state := .parked, wait := .remote, remote := some { op := 0, dest := 5, vector := false, tick := 0, target := 0xFFF, timedOut := timedOut } })
/-- A response to it, of tick `n`, with status `st`. -/
def answer (n : BitVec 8) (st : BitVec 2) : RemoteDesc :=
  { op := 0, target := 0xFFF, mpa := 0, from_ := 0, die := 0, row := 0, col := 47, thread := 1, tick := n, status := st, value := 77, compare := 0, data := 0 }
/-- Blocks that wait in the reserve for I/O port 34 of port 0. -/
def waiting (s : State) (bs : List HBlock) : State := s.setPort 0 ((s.port 0).setReserve 34 bs)

/-- RemoteEnds: a response in its tick, one refused, one of an earlier tick, a thread that may time out, and an operation of an earlier tick. -/
theorem wit_RemoteEnds :
    (let b := fun (n : BitVec 8) (st : BitVec 2) => responseBlock 34 0 (answer n st)
     let s := waiting (parked false) [b 0 0]
     let d := descOf (leNat (b 0 0).data)
     let x := ((parked false).tile 48).thread 1
     ((s.port 0).reserve 34 == [b 0 0]) && (d == answer 0 0) && ((b 0 0).stream == 0xFF) &&
       (posKey 0 ((b 0 0).addr / 2 ^ 23 % 64) (s.physCol 0 ((b 0 0).addr / 2 ^ 23 % 64) ((b 0 0).addr / 2 ^ 17 % 64)) == 48) &&
       x.remote.any (fun o => !o.timedOut && o.tick == s.seq % 256) && (answer 255 0).tick.toNat != s.seq % 256 && (x.state == .parked) && decide (x.pc ≤ 4095) &&
       !(flag (s.reg (Reg.FAB_LOSS 2)) 31) && !(flag (s.reg (Reg.FAB_ERR_STATUS 2)) 31) &&
       leads (.remoteResponse 0 0) s (fun t => ((t.tile 48).thread 1).rs 5 == 77) &&
       leads (.remoteResponse 0 0) (waiting (parked false) [b 0 2]) (fun t => ((t.tile 48).thread 1).rs 5 == 0 && t.reg (Reg.FAB_ERR_STATUS 2) == 0x80000009) &&
       leads (.remoteResponse 0 0) (waiting (parked false) [b 255 0]) (fun t => t.fabric.stale == 1) &&
       leads (.remoteTimeout tid 1) s (fun t => t.reg (Reg.FAB_LOSS 2) == 0x80000FFF) &&
       leads (.remoteTimeout tid 2) (tweak s (fun t => { t with orphans := [(2, ⟨0, 5, false, 255, 7, false⟩)] }))
         (fun t => t.reg (Reg.FAB_LOSS 2) == 0x80000007 && (t.tile 48).orphans == [])) = true := by decide +kernel

/-- TickClass: stamps one below the budget, at it, and late; SYNC; TICKEND of a loose thread, and of the bound thread with and without sends; a stamp
reached. -/
theorem wit_TickClass :
    (let s := fun (fn : Nat) (f : Fields) =>
       core { cell 0 { thr 0 [] with next := 998 } (tileWord 8 fn f) with til := [(3, 1000)], cycle := 998 }
     let f := fun (n : Nat) => ops 0 0 0 (BitVec.ofNat 32 n)
     let q := tweak (s 2 (f 0)) (fun t => { t with sendB := [desc (.mesh 0) 64 0] })
     let w := core (cell 0 { thr 4095 [] with state := .stamp, wait := .stamp 9 })
     [999, 1000, 5].all (fun n => (s 0 (f n)).clear (iss 0) (f n) 8 0) && decide (999 < (((s 0 (f 0)).tile 48).sys 3).toNat) &&
       ((s 0 (f 5)).cycleOf (iss 0) == 998) &&
       leads (.stampAt (iss 0) (f 5)) (s 0 (f 5)) (fun t => (t.tile 48).sys 10 == 0x03E10001) &&
       (s 1 (f 15)).clear (iss 0) (f 15) 8 1 && (runs 3 [] 8 2 (f 0)).clear (iss 3) (f 0) 8 2 &&
       (s 2 (f 0)).clear (iss 0) (f 0) 8 2 && (((s 2 (f 0)).tile 48).sendB == []) && q.clear (iss 0) (f 0) 8 2 && ((q.tile 48).sendB != []) &&
       ((w.at_ (iss 0)).state == .stamp) && decide ((w.at_ (iss 0)).pc ≤ 4095)) = true := by decide +kernel

/-- SystemClass: the first, the last and an undefined offset; the write that SWR takes and one that it does not; STIME and STICK. -/
theorem wit_SystemClass :
    ([(0, ops 31 0 0 0), (0, ops 31 0 0 4), (0, ops 31 0 0 8), (0, ops 31 0 0 12), (0, ops 31 0 0 0x34), (0, ops 31 0 0 2), (0, ops 31 0 0 0x38),
      (1, ops 0 1 0 0x34), (1, ops 0 1 0 0x30), (2, ops 31 0 0 0), (3, ops 31 0 0 0)] : List (Nat × Fields)).all
      (fun r => (runs 2 [(1, 0xF)] 15 r.1 r.2).clear (iss 2) r.2 15 r.1) = true := by decide +kernel

/-- IssueRules: a false predicate (!p0) at the last index of a loop that closes; classes on the wrong thread; a thread that may not issue, one that is not
chosen and one whose fetch brings another instruction; a bound and a loose thread in one cycle. -/
theorem wit_IssueRules :
    (let x := { thr 4095 [] with loops := [⟨5, 4095, 4095⟩] }
     let f : Fields := { ops 0 0 0 0 with pneg := true }
     let s := core (cell 0 x (tileWord 0 0 f))
     let z := ops 0 0 0 0
     let two := core { cell 0 (thr 0 []) (tileWord 0 1 z) with threads := [(0, thr 0 []), (1, thr 0 [])] }
     s.fetched (iss 0) f 0 0 && !(s.holds (iss 0) f) && decide ((loopEnd x.loops x.pc).2 ≤ 4095) &&
       ([(4, 0x12), (6, 1), (8, 1)] : List (Nat × Nat)).all (fun r => (runs 1 [] r.1 r.2 z).fetched (iss 1) z r.1 r.2 && (runs 1 [] r.1 r.2 z).holds (iss 1) z) &&
       (runs 0 [] 7 0 z).fetched (iss 0) z 7 0 && (runs 0 [] 7 0 z).holds (iss 0) z &&
       !(State.reset.mayIssue 48 0) && two.mayIssue 48 0 && two.mayIssue 48 1 && !(two.chosen 48 1 (two.cycleOf (iss 1))) && two.chosen 48 0 (two.cycleOf (iss 0)) &&
       !(((runs 0 [] 0 1 z).tile 48).fetches 0 0 0 z) && decide ((two.tile 48).issueCycle 0 0 ≤ two.cycleOf (iss 1)) && !((two.tile 48).thread 0).came &&
       (let w := core { cell 0 (thr 0 []) with pstore := [(5, tileWord 0 0 z)], threads := [(0, { thr 0 [] with next := 9 }), (1, thr 5 [])] }
        w.clear (iss 1) z 0 0)) = true := by decide +kernel

/-- InstructionFaults, the faults of the fetch in their order: each mark, an erased-store code, a control instruction at a loop end, a field out of range, and
a code of no instruction. -/
theorem wit_InstructionFaults_fetch :
    (let z := ops 0 0 0 0
     let f := ops 1 2 0 0
     let base := fun (cls fn : Nat) (g : Fields) (x : Thread) => core (cell 0 x (tileWord cls fn g))
     let marked := fun (r : RegRef) => { thr 0 [] with bad := [(r.key, true)] }
     let codeOf := fun (i : Instr) (s : State) (n : Word) => leads i s (fun t => (t.tile 48).sys 7 == 0x80000000 + n)
     let add := Instr.add (iss 0)
     codeOf (add f) (base 0 0 f (marked .pc)) 0x12 && codeOf (add f) (tweak (base 0 0 f (thr 0 [])) (fun t => { t with pstoreEcc := [(0, .double)] })) 0x11 &&
       codeOf (add f) (base 0 0 f (marked (.p 0))) 0x12 && codeOf (add f) (base 0 0 f { marked .loops with loops := [⟨5, 0, 9⟩] }) 0x12 &&
       codeOf (add f) (base 0 0 f (marked (.s 2))) 0x12 && codeOf (.br (iss 0) z) (base 2 0 z { thr 0 [] with loops := [⟨5, 0, 0⟩] }) 0x01 &&
       codeOf (add (ops 32 2 0 0)) (base 0 0 (ops 32 2 0 0) (thr 0 [])) 0x01 && codeOf (add f) (base 0 0x3F f (thr 0 [])) 0x01 &&
       !(definedCode 0 0x3F)) = true := by decide +kernel

/-- CoreSteps: a powered core, a corrected and an uncorrectable word at the end of the SRAM. -/
theorem wit_CoreSteps :
    (let s := core { cell 0 (thr 0 []) with sramEcc := [(5, .single), (0x1FFFF, .double)] }
     s.tilePowered 48 && (s.tile 48).sramEcc.get .good 5 == .single && (s.tile 48).sramEcc.get .good 0x1FFFF == .double && !(s.fenced 48) &&
       !(flag ((s.tile 48).sys 7) 31)) = true := by decide +kernel

/-- FirstFaultKept: a core with a fault recorded, on which a further one sets `more` and keeps the rest. -/
theorem wit_FirstFaultKept :
    (let s := core ((cell 0 (thr 0 [])).recordFault 2 77 0x05 0x1234)
     s.tilePowered 48 && flag ((s.tile 48).sys 7) 31 &&
     (match exec (.coreCheck ⟨0, 0, 48⟩) s with
      | .next t => (t.tile 48).sys 7 == 0xC0000005 && (t.tile 48).sys 8 == 0x2004D && (t.tile 48).sys 9 == 0x1234
      | _ => false)) = true := by decide +kernel

/-! ### The mesh: hypotheses that can be met -/

/-- A unicast packet at an input of router 48, for the tile there: scheduled, of this tick, the last of its message, with 32 bytes of 7 to the end of the
SRAM. -/
def packet (red : Bool) (weight : Nat) : Flight :=
  { router := 48, port := 2, loose := false, mode := 0, red := red, bf16 := false, last := true, gateway := false, ckind := 0, tag := 9, weight := weight,
    ctr := 15, group := 0, srcRow := 1, srcCol := 48, rowA := 0, colA := 47, rowB := 0, colB := 0, offset := 0xFFFE0, index := 0, tick := 0, target := 0,
    gw := 0, hblk := 0, turned := none, data := List.replicate 32 7, poison := none, mute := false }
/-- The state with packets in flight. -/
def flying (s : State) (fs : List Flight) : State := { s with flights := fs }
/-- A row and the next of the die's tiles, column 48. -/
def tid1 : TileId := ⟨0, 1, 48⟩

/-- MeshInjection: a slot window of the last index with the largest count, and unicast sends of 512 and 32 bytes through it and on the loose channel. -/
theorem wit_MeshInjection :
    (let s := (run 0 []).setTbl (tblKey 0 48 3 (2 * 511 + 1)) 0x8000FFFF
     let s := s.setRouter 48 { Router.reset with window := 511 }
     let w := s.tblWord (tblKey 0 tid.key 3 (2 * 511 + 1))
     let q := core { cell 0 (thr 0 []) with sendB := [desc (.mesh 0x00BC000F) 544 0], sendL := [desc (.mesh 0x00BC000F) 544 17] }
     let q := (q.setRouter 48 { Router.reset with isOpen := true, left := 17 }).setReg (Reg.MSH_CTRL 0) 1
     s.ticking && s.tick.isOpen && flag w 31 && fld w 15 0 == 0xFFFF && fld (0x00BC000F : Word) 31 30 == 0 && q.ticking && q.tilePowered 48 &&
       ((q.tile 48).badWord (wordsOf 0 544) == none) && flag (q.reg (Reg.MSH_CTRL tid.die)) 0 && decide (1 + 512 / 32 ≤ (q.router 48).left) &&
       leads (.sendInject tid false) q (fun t => ((t.tile 48).sendB.map (fun d => d.sent) == [17]) && t.flights.any (fun f => f.colA == 47 && !f.last)) &&
       leads (.sendInject tid true) q (fun t => (t.tile 48).sendL.isEmpty && t.flights.any (fun f => f.index == 1 && f.last))) = true := by
  decide +kernel

/-- The bound thread's send of one descriptor, with a window of five flits open. -/
def sending (d : SendDesc) : State :=
  (core { cell 0 (thr 0 []) with sendB := [d] }).setRouter 48 { Router.reset with isOpen := true, left := 5 }

/-- HearthInjection: a write to a tile of die 1 and one to the stack of the own bay, the second and last of a broadcast's blocks, and a read request. -/
theorem wit_HearthInjection :
    ([(desc (.hsend 0x10000000000 0xFE 15) 128 0, 0), (desc (.hsend 0x100000000000 0xFE 0) 128 0, 1), (desc (.hbcast 7) 256 5, 4),
      (desc (.hget 0x100BFFFF0000 0xFE 15) 65536 0, 2)] : List (SendDesc × Nat)).all (fun r =>
        let s := sending r.1
        s.ticking && s.tilePowered 48 && decide (r.1.sent / 5 < r.1.packets) && ((s.tile 48).badWord (wordsOf (128 * (r.1.sent / 5)) 128) == none) &&
          leads (.sendInject tid false) s (fun t => t.flights.any (fun f => f.hblk.toNat / 2 ^ 49 % 8 == r.2))) = true := by decide +kernel

/-- EmberContribution: the first and the last packet of 129 values, and a descriptor whose length differs from that of its send entry. -/
theorem wit_EmberContribution :
    (let d := fun (n : Nat) => desc (.esend 15 255 (-126) false) 516 n
     let bad := ((sending (d 0)).setTbl (tblKey 2 0 0 30) 0x80000000).setTbl (tblKey 2 0 0 31) 128
     !((sending (d 0)).emberLength 48 (d 0)) && bad.emberLength 48 (d 0) && (((sending (d 5)).tile 48).badWord (wordsOf 512 4) == none) &&
       leads (.sendInject tid false) (sending (d 0)) (fun t => t.flights.any (fun f => f.data.length == 128) && !((t.tile 48).sendB.isEmpty)) &&
       leads (.sendInject tid false) (sending (d 5)) (fun t => t.flights.any (fun f => f.data.length == 128) && (t.tile 48).sendB.isEmpty) &&
       leads (.sendInject tid false) bad (fun t => t.reg Reg.EMB_ERR_STATUS == 0x80000002)) = true := by decide +kernel

/-- MeshArrivalAndLinkErrors: a packet on its way up, down, east and west; a last packet to the last bytes of a powered tile whose counter is full, and the same
at a fenced one; a head flit lost on the third tick in a row. -/
theorem wit_MeshArrival :
    (let f := packet false 0
     let go := fun (p : TileId) (g : Flight) (port : Nat) =>
       leads (.meshPacketArrival p 0 (.link [])) (flying (run 0 []) [g]) (fun t => t.flights.map (fun x => x.router) == (neighbour p.key port).toList)
     let s := flying (core { cell 0 (thr 0 []) with ctr := [(15, 0xFFFF)] }) [f]
     let d := flying ((run 0 []).setReg (Reg.TIL_FENCE 0 0) 0xB0000000) [f]
     let e := (s.setRouter 48 { Router.reset with errRun := [(2, 2)] })
     go tid { f with rowA := 63 } 2 && go tid1 { f with router := 98 } 1 && go tid { f with turned := some 49 } 3 && go tid { f with colA := 0 } 4 &&
       !(s.mustCombine f) && s.mayMove 0 f && s.physCol 0 0 47 == 48 && s.tilePowered 48 && (s.carryWins 0 == []) &&
       (List.range 4).all (fun n => ((s.tile 48).thread n).wait == .none) && !(d.tilePowered 48) && d.fenced 48 && !(d.mustCombine f) &&
       leads (.meshPacketArrival tid 0 (.link [])) s (fun t => (t.tile 48).ctr.get 0 15 == 0xFFFF && (t.tile 48).byte 0xFFFFF == 7 &&
         (t.tile 48).byte 0xFFFDF == 0 && t.flights.isEmpty) &&
       leads (.meshPacketArrival tid 0 (.link [])) d (fun t => (t.router 48).map.get 0 7 == 1) &&
       (readLink f.flits [(0, 0), (0, 1)]).lost && !((e.router 48).errNow.get false 2) && ((e.router 48).errRun.get 0 2 == 2) &&
       leads (.meshPacketArrival tid 0 (.link [(0, 0), (0, 1)])) e (fun t => t.recovery.dieReports.contains 0 && t.reg (Reg.MSH_ERR_STATUS 0) == 0xC0000002)) = true := by decide +kernel

/-- MeshRouters: a group packet with a valid entry and without; a first packet of a reduction, its last one, a token with a parent, the root's release, a
release on its way, a slip at a crossing and away from one, and a pause. -/
theorem wit_MeshRouters :
    (let f := packet true 254
     let grp : Flight := { packet false 0 with mode := 2, group := 15 }
     let entry := fun (s : State) (k : Nat) (w : Word) => s.setTbl (tblKey 0 k 1 15) w
     let s := fun (fs : List Flight) => (flying (run 0 []) fs).setTbl (tblKey 0 48 2 31) 0x8009FF00
     let c : Flight := { packet true 254 with rowA := 63 }
     let l : Flight := { packet true 1 with rowA := 63 }
     let s2 := (s [l]).setRouter 48 { Router.reset with combine := [c] }
     let g := (entry (entry (run 0 []) 48 0x9001) 98 0xF804).setRouter 48 { Router.reset with tokens := [(15, 1)] }
     let w := core (cell 0 { thr 4095 [] with state := .data, wait := .sync 15 })
     let r := (entry w 48 0xF805).setRouter 48 { Router.reset with tokens := [(15, 5)] }
     ((s [f]).reduction 48 9 == some 255) && (s [f]).mustCombine f && decide (((s [f]).router 48).combine.length < 4) && (towardRow 48 63 == some 2) &&
       leads (.meshPacketArrival tid 0 (.link [])) (entry (flying (run 0 []) [grp]) 48 0xF804) (fun t => t.flights.map (fun x => x.router) == [98]) &&
       leads (.meshPacketArrival tid 0 (.link [])) (flying (run 0 []) [grp]) (fun t => t.reg (Reg.MSH_ERR_STATUS 0) == 0x80000004) &&
       leads (.reducePacketCombine tid 0 (.link [])) (s [f]) (fun t => (t.router 48).combine.length == 1) &&
       leads (.reducePacketCombine tid 0 (.link [])) s2 (fun t => (t.router 48).combine == [] && t.flights.any (fun q => q.weight == 255 && q.router == 98)) &&
       g.ticking && groupValid (g.groupEntry 48 15) && !(flag (g.groupEntry 48 15) 14) && g.tokensComplete 48 15 && g.tokensAt 48 15 != 0 &&
       (neighbour 48 2 == some 98) && fld (g.groupEntry 48 15) 13 11 == 2 && groupValid (g.groupEntry 98 15) &&
       leads (.syncToken tid 15 (.link [])) g (fun t => (t.router 98).tokens.get 0 15 == 2) && flag (r.groupEntry 48 15) 14 && groupValid (r.groupEntry 48 15) &&
       r.tokensComplete 48 15 &&
       leads (.syncRelease tid 15 []) r (fun t => ((t.tile 48).thread 0).state == .running && t.flights.any (fun x => x.router == 98 && x.mode == 3)) &&
       leads (.meshPacketArrival tid 0 (.link [])) (flying (entry w 48 0x9001) [{ packet false 0 with mode := 3, ckind := 1, group := 15, data := [], last := false }])
         (fun t => ((t.tile 48).thread 0).state == .running) &&
       !(hasCrossing 48) && hasCrossing 49 && !(hasCrossing 60)) = true := by decide +kernel

/-- The module in a state, with a tick source, a tick already resolved. -/
def at_ (m : ModState) (src : Nat) : State :=
  ({ State.reset with mode := m } : State).setReg Reg.TCK_SRC (BitVec.ofNat 32 (src * 65536 + 10))

/-- Beacons: each source, the last sequence number, an edge at either end of its window and before it, idle beacons with units within and beyond 1 µs. -/
theorem wit_Beacons :
    (let a := (at_ .running 0).setSeq (2 ^ 64 - 1)
     let b : State := { at_ .loaded 0 with job := { JobState.reset with start := some 0xFFFFFFFFFFFFFFFF } }
     let st := b.setReg Reg.TCK_ROLE 0x80000000
     let c := at_ .running 1
     let d := at_ .running 2
     let i : State := { (at_ .ready 0).setReg (Reg.PWR_DOM 0) 0x55555555 with clock := [(0, 65536), (1, 66536 * 65536), (36, 66537 * 65536)] }
     a.tick.resolved && a.recovery.dieReports.isEmpty && a.source == 0 && leads .tickBeacon a (fun t => t.seq == 0 && t.tick.isOpen) &&
       b.job.start == some 0xFFFFFFFFFFFFFFFF && leads .tickBeacon b (fun t => t.seq == 2 ^ 64 - 1 && t.mode == .running) && c.source == 1 &&
       flag (st.reg Reg.TCK_ROLE) 31 && (st.mode == .loaded) && st.job.start.isSome && leads .tickBeacon st (fun t => t.mode == .loaded) &&
       c.tick.edge == 0 && !c.tick.srcLost && decide (c.tick.misses < 2) &&
       leads .flywheelBeacon c (fun t => t.seq == 1 && flag (t.reg Reg.TCK_EVENTS) 4) && d.source == 2 && (d.tick.frame == none) && d.tick.edge == 0 &&
       leads .flywheelBeacon d (fun t => t.seq == 1 && t.tick.abandonBeacon) && i.idleDue &&
       (List.range 16).all (fun k => !(flag (i.shadow (Reg.TIL_DIE_FENCE k)) 31)) && i.unitOn 0 && i.unitOn 1 &&
       leads .idleBeacon i (fun t => t.seq == 0 && t.clock.get 0 0 == 66537 * 65536 && t.clock.get 0 1 == 66536 * 65536 && t.reg (Reg.TCK_DIE_ERR 1) == 1) &&
       leads (.tickInEdge 10000) c (fun t => t.tick.edge == 1 && fld (t.reg Reg.TCK_SRC_COUNT) 23 16 == 1) &&
       leads (.tickInEdge (-10000)) c (fun t => t.tick.edge == 1) && leads (.tickInEdge (-10001)) c (fun t => t.tick.edge == 0)) = true := by
  decide +kernel

/-- A module with input power and its host port 1 up, PTP on it in domain 5, following `from_`. -/
def ptpUp (p : PtpState) : State :=
  let s := (((at_ .ready 0).setReg Reg.TCK_PTP_CTRL 0xC0050000).setReg (Reg.HST_LINK 1) 0x80000000).setReg (Reg.PWR_DOM 4) 0x55555555
  { s with boot := { BootState.reset with input := true }, host := { s.host with ptp := p }, clock := [(36, 5 * 65536), (33, 7 * 65536)] }
/-- The PTP clock at reset, and a master's dataset. -/
def ptp0 : PtpState := State.reset.host.ptp
def master : PtpDataset := { priority1 := 128, class_ := 6, accuracy := 33, variance := 0, priority2 := 128, grand := 1, steps := 0 }
/-- A PTP message to the group address, number `n`, interval `v`. -/
def ptpMsg (n : BitVec 16) (v : Int) (m : PtpMsg) : Instr :=
  .ptpMessage 1 ⟨64, none, 0x011B19000000⟩ (.ether 0x88F7) ⟨5, 9, n, v⟩ m

/-- GuardAndClocks: an unfinished core at the guard, and none. -/
theorem wit_GuardAndClocks :
    (let g := run 0 []
     let e := core { cell 0 (thr 0 []) with placed := false }
     g.ticking && g.tick.isOpen && !g.tick.guard && g.overran && !e.overran && !e.tick.overrun && e.thermal.acted.isEmpty) = true := by decide +kernel

/-- GuardAndClocks: references in use, holding and lost, ticking and not; a region of the last die. -/
theorem wit_GuardAndClocks_reference :
    (let g := run 0 []
     let r := at_ .ready 0
     let h := r.setReg Reg.CLK_STATUS 0x40000000
     let l := (r.setReg Reg.CLK_STATUS 0x80000000).setReg Reg.CLK_CTRL 1
     let d := (run 0 []).setReg (Reg.PWR_DOM 2) 0x40005555
     r.mode != .off && fld (r.reg Reg.CLK_STATUS) 31 30 != 2 && fld (h.reg Reg.CLK_STATUS) 31 30 == 1 && !l.ticking && fld (l.reg Reg.CLK_STATUS) 31 30 == 2 &&
       flag (l.reg Reg.CLK_CTRL) 0 && leads (.referenceLost false true) r (fun t => fld (t.reg Reg.CLK_STATUS) 31 30 == 1) &&
       leads .referenceReturned h (fun t => fld (t.reg Reg.CLK_STATUS) 31 30 == 0) && leads .referenceReturned g (fun t => flag (t.reg Reg.CLK_STATUS) 28) &&
       leads .referenceReturned l (fun t => fld (t.reg Reg.CLK_STATUS) 31 30 == 0 && flag (t.reg Reg.CLK_EVENTS) 1) && d.ticking && d.tick.isOpen && d.unitOn 15) = true := by decide +kernel

/-- GuardAndClocks, PTP: a first master; a Sync of it; the Delay_Resp of a delay request; a Follow_Up with an offset beyond 1 ms and one below 500 ns; the
sixteenth missed interval. -/
theorem wit_GuardAndClocks_ptp :
    (let mine := { ptp0 with master := some (9, master) }
     let asked := ptpUp { mine with asked := some (3, 100), pair := some (40, 60) }
     let synced := ptpUp { mine with sync := some (3, 1000020), below := 15 }
     let m := ((at_ .ready 0).setReg Reg.TCK_PTP_CTRL 0x80000000).setReg Reg.TCK_PTP_STATUS 0x8000000F
     (ptpUp ptp0).portUp 1 && (ptpUp ptp0).accepts 1 ⟨64, none, 0x011B19000000⟩ && ((ptpUp ptp0).dispatch 1 (.ether 0x88F7) == .ptp) &&
       flag ((ptpUp ptp0).reg Reg.TCK_PTP_CTRL) 31 && fld ((ptpUp ptp0).reg Reg.TCK_PTP_CTRL) 30 30 == 1 && fld ((ptpUp ptp0).reg Reg.TCK_PTP_CTRL) 23 16 == 5 &&
       leads (ptpMsg 3 0 (.announce master)) (ptpUp ptp0) (fun t => t.host.ptp.master == some (9, master)) &&
       leads (ptpMsg 3 1 (.sync true)) (ptpUp mine) (fun t => t.host.ptp.sync == some (3, 7) && t.host.ptp.asked == some (0, 7)) &&
       leads (ptpMsg 3 0 (.delayResp 130)) asked (fun t => t.host.ptp.delay == 25) &&
       leads (ptpMsg 3 0 (.followUp 1)) synced (fun t => flag (t.reg Reg.TCK_EVENTS) 1 && t.clock.get 0 36 == 2 ^ 80 - 1000014 * 65536) &&
       (synced.host.ptp.below == 15) && ((1000020 - 999521 - synced.host.ptp.delay : Int).natAbs == 499) && flag (m.reg Reg.TCK_PTP_CTRL) 31 &&
       fld (m.reg Reg.TCK_PTP_STATUS) 15 0 == 15 && flag (m.reg Reg.TCK_PTP_STATUS) 31 &&
       leads .syncIntervalMissed m (fun t => !(flag (t.reg Reg.TCK_PTP_STATUS) 31) && flag (t.reg Reg.TCK_EVENTS) 0)) = true := by decide +kernel

/-- A member of a commit group of two behind the guard: the image in stack 0 says two, FAB_TREE the place in the tree. -/
def member (size : Byte) (tree : Word) (v : Option Bool) : State :=
  let s := run 0 []
  ({ s with
     stackMem := if size = 0 then [] else [(0, { MemStack.reset with dram := [(0xB00000034, size)] })]
     tick := { s.tick with guard := true, closed := true, resolved := false, verdict := v, votes := [(0, 1, true)] } } : State).setReg (Reg.FAB_TREE 2) tree

/-- VoteAndDecision: a vote to close and one to judge; a module alone, a root with its child's vote, a member before and after its decision. -/
theorem wit_VoteAndDecision :
    (let o := run 0 []
     let g : State := { o with tick := { o.tick with guard := true } }
     let one := member 0 0 (some true)
     let root := member 2 0xC0010000 (some true)
     let leaf := member 2 0x80010000 (some false)
     let told : State := { leaf with tick := { leaf.tick with decision := some true } }
     g.ticking && g.tick.isOpen && g.tick.guard && !g.tick.closed && decide (one.groupSize ≤ 1) && leads .commitDecision one (fun t => t.reg Reg.TCK_EPOCH == 1) &&
       (member 0 0 none).tick.closed && leads .localVerdictFinal (member 0 0 none) (fun t => t.tick.verdict == some true) && root.groupSize == 2 && root.isRoot &&
       root.votesHeld && leads .commitDecision root (fun t => t.tick.decision == some true) && leaf.groupSize == 2 && !leaf.isRoot && leaf.votesHeld &&
       !leaf.tick.voteSent && leads .voteSend leaf (fun t => t.tick.voteSent) && leads .voteWaitExpiry leaf (fun t => t.tick.cause == 4) &&
       leads .commitDecision told (fun t => t.reg Reg.TCK_EPOCH == 1) && (leaf.tick.decision == none) &&
       leads .decisionLost leaf (fun t => t.mode == .faulted)) = true := by decide +kernel

/-- A tile of a running module that awaits its fence, its image's fence list naming it or not. -/
def fencing (listed : Bool) : State :=
  let s := run 0 []
  { s with
    recovery := { s.recovery with pendingFences := [48] }
    stackMem := if listed then
        [(0, { MemStack.reset with dram := [(0xB0000000C, 1), (0xB00000200, 6), (0xB00000204, 16), (0xB00000208, 0x80), (0xB00000209, 2), (0xB00000280, 1),
          (0xB0000028A, 48), (0xB0000028B, 0x3F)] })]
      else [] }

/-- FencesAndTeardown: a fence that is listed and one that is not. -/
theorem wit_Fences :
    (let a := fencing true
     let b := fencing false
     a.ticking && a.recovery.pendingFences == [tid.key] && !(flag (a.reg (Reg.MSH_SHADOW 0)) 0) && !a.recovery.takeover && (a.fencePlan 48 == some (49, [])) &&
       (b.fencePlan 48 == none)) = true := by decide +kernel

/-- FencesAndTeardown: a spare that loads; a die that fails while idle, with no degraded image, with one; a takeover that ends; ticks that run or not. -/
theorem wit_DieFailure :
    (let i := (at_ .ready 0).setReg (Reg.PWR_DOM 0) 0x10
     let n := (run 0 []).setReg (Reg.PWR_DOM 0) 0x10
     let y := n.setReg Reg.TCK_IMAGE_STATUS 0x40000000
     let e : State := { y with recovery := { y.recovery with takeover := true } }
     i.unitOn 0 && !(flag (i.shadow (Reg.TIL_DIE_FENCE 0)) 31) && !i.ticking && !(flag (i.reg (Reg.TIL_DIE_FENCE 0)) 31) && n.unitOn 0 && n.ticking &&
       !(flag (n.reg Reg.TCK_IMAGE_STATUS) 30) && leads (.dieFailure 0) n (fun t => t.mode == .faulted) && y.unitOn 0 && y.ticking &&
       flag (y.reg Reg.TCK_IMAGE_STATUS) 30 && !(flag (y.reg Reg.TCK_STATUS) 24) && (List.range 16).all (fun k => !(flag (y.shadow (Reg.TIL_DIE_FENCE k)) 31)) &&
       leads (.dieFailure 0) y (fun t => t.recovery.takeover && bayIn t.shadow 15 == 0) && e.recovery.takeover && e.recovery.prepared.isEmpty &&
       e.recovery.pendingFences.isEmpty && leads .jobTeardown e (fun t => t.mode == .faulted)) = true := by decide +kernel

/-- CheckpointsAndStandby: the last stack of a checkpoint in slot 1, and a stack before the last; a transfer; a standby module in its tenth second; a yield;
each Stoker in control. -/
theorem wit_CheckpointsAndStandby :
    (let r := run 0 []
     let c : State := { r with recovery := { r.recovery with ckptRunning := true, ckptSlot := 1, ckptLeft := [15] } }
     let x : State := { r with recovery := { r.recovery with transfer := some 1 } }
     let h := (at_ .loaded 0).setReg Reg.TCK_ROLE 0xC0000009
     let y : State := { at_ .loaded 0 with recovery := { RecoveryState.reset with yielding := true } }
     let b := (at_ .ready 0).setReg Reg.TCK_STOKER 0x80000000
     let d : State := { at_ .draining 0 with tick := { TickState.reset with isOpen := true } }
     c.recovery.ckptLeft.contains 15 && !(c.snapshotBad 15) && c.snapshotRanges 15 == [] && c.ticking && x.recovery.transfer.isSome &&
       leads .peerCheckpointTransfer x (fun t => t.recovery.transfer == none) && flag (h.reg Reg.TCK_ROLE) 31 && flag (h.reg Reg.TCK_ROLE) 30 &&
       fld (h.reg Reg.TCK_ROLE) 15 0 == 9 && y.recovery.yielding && !y.recovery.ckptStart && !y.recovery.ckptRunning && y.recovery.transfer == none &&
       leads .yield y (fun t => flag (t.reg Reg.TCK_ROLE) 31) && (at_ .ready 0).stokerRuns && !(flag ((at_ .ready 0).reg Reg.TCK_STOKER) 31) &&
       b.stokerRuns && flag (b.reg Reg.TCK_STOKER) 31 &&
       leads .stokerReturn b (fun t => t.domain 79 == 0) && d.tick.resolved && !d.thermal.stopSnap && leads .drainEnd d (fun t => t.mode == .loaded)) = true := by
  decide +kernel

/-! ### The fabric and the Hearth: hypotheses that can be met -/

/-- Registers set one after another. -/
def withRegs (s : State) : List (Nat × Word) → State
  | [] => s
  | (a, w) :: rs => withRegs (s.setReg a w) rs
/-- Table words set one after another. -/
def withTbl (s : State) : List (Nat × Word) → State
  | [] => s
  | (a, w) :: rs => withTbl (s.setTbl a w) rs
/-- A cell of a kind, with its number, window and payload. -/
def cellIn (kind : BitVec 3) (seq : BitVec 13) (window : BitVec 9) (payload : Nat) : Cell :=
  { dvc := true, kind := kind, seq := seq, ack := 8191, off := 0, window := window, tick := 0, payload := BitVec.ofNat 1024 payload }
/-- Port 5 of a module at (1, 2, 3) in a fabric of 16 × 16 × 16, enabled and locked, its link in a state. -/
def linked (st : Nat) (x : FabPort) : State :=
  let s := withRegs (run 0 []) [(Reg.FAB_PORT_CTRL 3 2, 0x80000000), (Reg.FAB_CTRL 3, 0x80000001), (Reg.FAB_COORD 2, 0x123FFF00),
    (Reg.FAB_PORT_STATUS 3 2, BitVec.ofNat 32 (st * 2 ^ 29 + 2 ^ 22))]
  { s with fabric := { FabricState.reset with ports := [(5, x)] } }
/-- Port 5 of `linked` leads to the tree parent, or to a child. -/
def inTree (s : State) (parent : Bool) : State := s.setReg (Reg.FAB_TREE 2) (if parent then 0xA8000000 else 0xC0200000)

/-- FabricLinks: training cells without a version, from no neighbour and from one; links up and down; a measurement at training and over a tree link. -/
theorem wit_FabricLinks_training :
    (let t := linked 0 FabPort.reset
     let tr := fun (coord : BitVec 12) (m : BitVec 16) => ({ coord := coord, sizes := 0xFFF, peer := 4, majors := m, minor1 := 0 } : Training)
     let u := linked 2 FabPort.reset
     t.portTrains 5 && !(t.linkUp 5) && (t.neighbourOk 5 (tr 0x122 2)) && !(t.neighbourOk 5 (tr 0x132 2)) && !(flag (t.reg (Reg.FAB_ERR_STATUS (fabIo 5))) 31) &&
       leads (.trainingCell 5 (tr 0x122 1)) t (fun q => q.reg (Reg.FAB_ERR_STATUS 3) == 0x80000003) &&
       leads (.trainingCell 5 (tr 0x132 2)) t (fun q => q.reg (Reg.FAB_ERR_STATUS 3) == 0x80000004) &&
       leads (.trainingCell 5 (tr 0x122 2)) t (fun q => fld (q.reg (portStatus 5)) 31 29 == 1) &&
       (linked 1 FabPort.reset).portTrains 5 && fld ((linked 1 FabPort.reset).reg (portStatus 5)) 31 29 == 1 &&
       fld ((linked 1 FabPort.reset).reg (portStatus 5)) 25 22 == 1 && leads (.linkUp 5) (linked 1 FabPort.reset) (fun t => t.linkUp 5) && u.linkUp 5 &&
       leads (.linkDown 5 5) u (fun t => fld (t.reg (portStatus 5)) 28 26 == 5) && (inTree u true).treePort 5 && (inTree u false).treePort 5 && !(u.treePort 5) &&
       leads (.linkDelayMeasure 5 77 0) (linked 1 FabPort.reset) (fun t => t.reg (Reg.FAB_PORT_DELAY 3 2) == 77) &&
       leads (.linkDelayMeasure 5 77 9) (inTree u true) (fun t => t.out.length == 1)) = true := by
  decide +kernel

/-- FabricLinks: replay requests with progress and without; cells in order at the last number, out of order and bad; FEC reports. -/
theorem wit_FabricLinks_cells :
    (let c := cellIn 0 0 0 0
     let u := linked 2 { FabPort.reset with rxNext := 8191, replay := [c], stallAt := 8192, stalls := 7 }
     let v := linked 2 { FabPort.reset with replay := [c] }
     let good := (cellIn 1 8191 0 9).bits
     u.linkUp 5 && (u.fport 5).wait.isEmpty && ((ackCells 8191 (u.fport 5).replay).length == (u.fport 5).replay.length) && ((u.fport 5).rxNext == 8191) &&
       leads (.replayRequest 5 8191) u (fun t => fld (t.reg (portStatus 5)) 28 26 == 4) && ((v.fport 5).peerOff == 0) &&
       leads (.replayRequest 5 8191) v (fun t => (t.fport 5).map.get 0 5 == 1 && t.out.length == 1) && cellHolds good && !(cellHolds (good ^^^ 1)) &&
       (readCell good == cellIn 1 8191 0 9) && (readCell good).known && ((readCell good).buffer == 2) &&
       leads (.fabricCellReceive 5 good []) u (fun t => (t.buffer 5 2).length == 1 && (t.fport 5).rxNext == 0) &&
       leads (.fabricCellReceive 5 (cellIn 1 0 0 9).bits []) u (fun t => (t.fport 5).skipping) &&
       leads (.fabricCellReceive 5 (good ^^^ 1) []) u (fun t => t.reg (Reg.FAB_ERR_STATUS 3) == 0x80000001 && t.out.length == 1) &&
       leads (.fabricCellReceive 5 good [⟨15, 1024, true⟩]) u (fun t => t.tblWord (fabKey 5 4 15) == 0x00010001)) = true := by decide +kernel

/-- FabricTraffic: the last window's start; cells for an entry, for a ring, for no entry, and behind a full group. -/
theorem wit_FabricTraffic_scheduled :
    (let w := withTbl (linked 2 { FabPort.reset with window := 511 }) [(fabKey 5 2 (4 * 511 + 1), 0x80000000), (fabKey 5 2 (4 * 511 + 3), 513)]
     let rx := fun (full : Nat) =>
       let s := withTbl (linked 2 { FabPort.reset with rx := [(0, [cellIn 0 0 511 7])] }) [(fabKey 5 3 (4 * 511), 0x8000000F),
         (fabKey 5 3 (4 * 511 + 1), 0x177FFFFF), (fabKey 5 3 (4 * 511 + 2), 1)]
       s.setPort 35 ((s.port 35).setGroup 31 { TxGroup.reset with queue := List.replicate full idleBlock })
     let no := linked 2 { FabPort.reset with rx := [(0, [cellIn 0 0 511 7])] }
     let e := rx 0
     let ring := withTbl e [(tblKey 3 15 1 0, 0x82000000), (tblKey 3 15 1 1, 0x177FFFFF), (tblKey 3 15 1 2, 1)]
     w.ticking && w.tick.isOpen && w.linkUp 5 && flag (w.txWindow 5 511 1) 31 && w.windowSent 5 && ((w.txWindow 5 511 0).toNat == 0) &&
       flag (e.rxEntry 5 511 0) 31 && ((e.rxEntry 5 511 2).toNat == 1) && (cellPlace (e.rxEntry 5 511 0) (e.rxEntry 5 511 1) 0 == (15, 0xBBFFFFF80)) &&
       (e.ringOf 15 0xBBFFFFF80 128 == none) && !(e.inCopy1 15 0xBBFFFFF80 128) && (ring.ringOf 15 0xBBFFFFF80 128).isSome &&
       e.groupRoom 35 31 && !((rx 64).groupRoom 35 31) &&
       leads (.scheduledCellReceive 5) (rx 64) (fun t => (t.buffer 5 0).length == 1) &&
       leads (.scheduledCellReceive 5) ring (fun t => t.reg (Reg.FAB_ERR_STATUS 3) == 0x80000006) &&
       leads (.scheduledCellReceive 5) no (fun t => t.reg (Reg.FAB_ERR_STATUS 3) == 0x80000006)) = true := by decide +kernel

/-- A block of stream 0xFF with a payload, in the reserve of port `src` at port `p`. -/
def unitBlock (p src : Nat) (payload : Nat) : State := { run 0 [] with ports := [(p, { HPort.reset with rx := [(src, [requestBlock src p payload])] })] }

/-- FabricTraffic: a combined line that leaves and is performed at the last line of a stack; requests from the own module and from a link. -/
theorem wit_FabricTraffic_remote :
    (let e : CombEntry := { stack := 15, line := 0x2FFFFFFF, words := [(0, (true, 5)), (7, (false, 6))] }
     let c : State := { run 0 [] with fabric := { FabricState.reset with comb := [(6, [e])] } }
     let m := unitBlock 31 34 e.payload
     let d : RemoteDesc := { answer 0 0 with op := 4, target := 0, mpa := 0x100BFFFFFFF8, from_ := 0 }
     let own := unitBlock 34 0 d.payload
     let cell : Cell := { cellIn 1 0 0 ({ d with target := 0x123 } : RemoteDesc).payload with dvc := false }
     let link := linked 2 { FabPort.reset with rx := [(1, [cell])] }
     c.groupRoom (pathPort 6) 31 && (c.combiner 6 == [e]) && leads (.combinerFlush 6) c (fun t => (t.combiner 6).isEmpty) &&
       ((m.port 31).reserve (stackReserve 15 34)).any (fun b => leNat b.data == e.payload) && (m.remoteBar 15 (64 * 0x2FFFFFFF) 64 == none) &&
       (m.stack 15).atomics.isEmpty && ((m.stack 15).ecc.get .good 0x2FFFFFFF == .good) &&
       leads (.readRequest 15 34) m (fun t => (t.stack 15).byte 0xBFFFFFFC0 == 5 && (t.stack 15).byte 0xBFFFFFFF8 == 6) && d.wellFormed &&
       (descOf (leNat (requestBlock 0 34 d.payload).data) == d) && (own.nextPort d.target.toNat == none) && (own.nextPort d.from_.toNat == none) &&
       (own.combiner 6 == []) && leads (.remoteRequest (.hearth 0 0)) own (fun t => (t.combiner 6).length == 1) && (link.coord == 0x123) &&
       ((link.buffer 5 1).length == 1) && leads (.remoteRequest (.link 5)) link (fun t => (t.combiner 5).length == 1)) = true := by decide +kernel

/-- FabricTraffic: management cells of each type, from the parent, from a child and from neither; a loss to report. -/
theorem wit_FabricTraffic_management :
    (let m := fun (t : Nat) => linked 2 { FabPort.reset with rx := [(3, [cellIn 3 0 0 t])] }
     let up := fun (t : Nat) => inTree (m t) true
     let down := fun (t : Nat) => inTree (m t) false
     let b := (up 1).setReg Reg.TCK_SRC 0x20000
     let l := withRegs State.reset [(Reg.FAB_LOSS 2, 0x80000FFF)]
     [1, 2, 3, 4, 5].all (fun k => ((m k).takeMgmt 5 k).isSome && ((up k).takeMgmt 5 k).isSome && ((down k).takeMgmt 5 k).isSome) &&
       ((up 1).treeParent == some 5) && ((m 1).treeParent != some 5) && leads (.beaconFrame 5 0) b (fun t => t.tick.frame == some 0) &&
       (down 2).children.contains 5 && !((m 2).children.contains 5) && (down 2).ticking && ((down 2).seq == 0) && (down 2).tick.votes.isEmpty &&
       leads (.vote 5) (down 2) (fun t => t.tick.votes == [(5, 0, false)]) && ((up 3).tick.decision == none) &&
       leads (.decision 5) (up 3) (fun t => t.tick.decision == some false) && leads (.echoRequest 5 3) (up 4) (fun t => t.out.length == 1) &&
       leads (.echoReply 5 32) (up 5) (fun t => t.reg (Reg.FAB_PORT_DELAY 3 2) == 10000) && flag (l.reg (Reg.FAB_LOSS 2)) 31) = true := by decide +kernel

/-- A block of a kind to a port, with its address and payload. -/
def block (src dst kind : Nat) (addr : Nat) (data : List Byte) : HBlock :=
  { idleBlock with src := src, dst := dst, kind := kind, ctr := 15, last := true, addr := addr, group := dst, lane := src, dests := [dst], data := data }
/-- A port with one block in a reserve. -/
def inReserve (p r : Nat) (b : HBlock) : State := { run 0 [] with ports := [(p, { HPort.reset with rx := [(r, [b])] })] }
/-- A block on the light. -/
def shining (s : State) (b : HBlock) : State := { s with hearth := { HearthState.reset with light := [b] } }

/-- HearthBlocks, sending: the last window of the last group, one with blocks that wait, and one of no blocks. -/
theorem wit_HearthBlocks_windows :
    (let s := fun (g : Nat) (q : TxGroup) (w : Word) => withTbl ({ run 0 [] with ports := [(35, { HPort.reset with tx := [(g, { q with window := 1 })] })] } : State)
       [(tblKey 1 35 0 g, 0x80020000 + 100), (tblKey 1 35 1 (2 * 101), 5), (tblKey 1 35 1 (2 * 101 + 1), w)]
     let a := s 37 TxGroup.reset 0x80FFFFFF
     let b := s 16 { TxGroup.reset with queue := [block 35 16 1 0 []] } 0x80000001
     a.ticking && flag (a.groupWord 35 37) 31 && !(flag (a.groupWord 35 37) 30) && decide (1 < fld (a.groupWord 35 37) 26 16) && flag (a.windowWord 35 37 1 1) 31 &&
       fld (a.windowWord 35 37 1 1) 15 0 == 0xFFFF && ((a.windowWord 35 37 1 0).toNat == 5) &&
       leads (.hearthWindowOpen 35 37 6) a (fun t => ((t.port 35).group 37).left == 0xFFFF && (t.port 35).map.get 0 (8 * 37 + 6) == 1) &&
       leads (.hearthWindowOpen 35 16 5) b (fun t => t.hearth.light.length == 1 && (t.port 35).map.get 0 (8 * 16 + 6) == 0) &&
       leads (.hearthWindowOpen 35 16 5) (s 16 TxGroup.reset 0x80000000) (fun t => ((t.port 35).group 16).window == 2)) = true := by decide +kernel

/-- HearthBlocks, receiving: a block on the light, received clean, lost, idle, with a header out of range and at a full reserve; a broadcast block. -/
theorem wit_HearthBlocks_light :
    (let b := block 1 16 1 0x17FFFFFF (List.replicate 128 9)
     let l := shining (run 0 []) b
     let bad := shining (run 0 []) (block 1 16 1 0x18000000 [])
     let full := l.setPort 16 ((l.port 16).setReserve 1 (List.replicate 128 b))
     let bc := withTbl (shining (run 0 []) { block 0 0 4 0 [] with dests := [31], lane := 15, stream := 255 }) [
       (tblKey 1 31 3 3, 0x80000000), (tblKey 1 31 2 (2 * (256 * 3 + 255)), 0xC0000000)]
     (l.laneSource 16 1 == some (1, none)) && l.mayReceive 16 0 1 1 none && (received (l.lightBlock 0) []).any (fun r => r.1.kind == 1 && r.2 == 0 && !(headerBad 16 r.1)) &&
       ((received (l.lightBlock 0) [(138, 3), (140, 5), (142, 6)]).isNone) && ((l.port 16).laneRun.get 0 1 != 2) && l.mayReceive 16 5 1 1 none &&
       (received (l.lightBlock 5) []).any (fun r => r.1.kind == 7 && r.2 == 0) &&
       leads (.hearthBlockReceive 16 0 1 []) l (fun t => ((t.port 16).reserve 1).length == 1 && t.hearth.light.isEmpty) &&
       leads (.hearthBlockReceive 16 0 1 [(138, 3), (140, 5), (142, 6)]) l (fun t => t.reg Reg.HRT_ERR_STATUS == 0x80000001) &&
       leads (.hearthBlockReceive 16 0 1 []) bad (fun t => t.reg Reg.HRT_ERR_STATUS == 0x80000002) &&
       leads (.hearthBlockReceive 16 0 1 []) full (fun t => t.reg Reg.HRT_ERR_STATUS == 0x80000004) && (bc.laneSource 31 515 == some (0, some 3)) &&
       bc.mayReceive 31 0 515 0 (some 3) && leads (.hearthBlockReceive 31 0 515 []) bc (fun t => ((t.port 31).reserve 43).length == 1)) = true := by decide +kernel

/-- HearthBlocks at a stack: a write to its last bytes, a poisoned one, and a read request for the last bytes, with a place in the group and without. -/
theorem wit_HearthBlocks_stack :
    (let w := inReserve 16 35 (block 35 16 1 0x17FFFFFF (List.replicate 128 9))
     let p := inReserve 16 35 { block 35 16 1 0x17FFFFFF (List.replicate 128 9) with poison := true }
     let rd : List Byte := leBytes 8 0x100BFFFFFF80 ++ leBytes 8 0 ++ leBytes 4 128 ++ [254, 15] ++ List.replicate 106 0
     let r := withTbl (inReserve 17 0 (block 0 17 2 0 rd)) [(tblKey 1 17 0 0, 0x80000000)]
     let full := r.setPort 17 ((r.port 17).setGroup 0 { TxGroup.reset with queue := List.replicate 64 idleBlock })
     (stackReserve 0 35 == 35) && !(w.inCopy1 0 0xBFFFFFF80 128) && (w.inWindow 0 0xBFFFFFF80 128 == none) && (w.ringOf 0 0xBFFFFFF80 128 == none) &&
       leads (.memoryWrite 0 35) w (fun u => (u.stack 0).byte 0xBFFFFFFFF == 9) &&
       leads (.memoryWrite 0 35) p (fun u => u.reg Reg.HRT_ERR_STATUS == 0x8000000A && u.stackMem.isEmpty) &&
       (leNat (rd.take 8) % 2 ^ 36 == 0xBFFFFFF80) && (leNat ((rd.drop 16).take 4) == 128) && !r.recovery.stackLost && r.groupRoom 17 0 && !(full.groupRoom 17 0) &&
       leads (.readRequest 1 0) r (fun u => ((u.port 17).group 0).queue.length == 1) &&
       leads (.readRequest 1 0) full (fun u => ((u.port 17).reserve 0).length == 1)) = true := by decide +kernel

/-- HearthBlocks at a tile and at an I/O port: a response to the last bytes of a tile, a poisoned one, one of stream 0xFF, and a response for a window. -/
theorem wit_HearthBlocks_responses :
    (let b := block 17 0 3 (47 * 2 ^ 17 + 0x1FFF) (List.replicate 128 8)
     let t := inReserve 0 17 b
     let io := (inReserve 35 31 (block 31 35 3 (5 * 2 ^ 23) [])).setFport 5 { FabPort.reset with sending := some ⟨0, [(0, 1)], [], [], 0⟩ }
     (reserveFor 0 17 == 17) && leads (.readResponseLanding 0 17 []) t (fun u => u.flights.length == 1 && ((u.port 0).reserve 17).isEmpty) &&
       leads (.readResponseLanding 0 17 []) (inReserve 0 17 { b with poison := true }) (fun u => u.reg Reg.HRT_ERR_STATUS == 0x8000000A) &&
       leads (.readResponseLanding 0 17 []) (inReserve 0 17 { b with stream := 255 }) (fun u => ((u.port 0).reserve 17).length == 1) &&
       (io.seq % 16 == 0) && leads (.readResponseLanding 35 31 []) io (fun u => (u.fport 5).sending.any (fun w => w.taken.get 0 0 == 1))) = true := by decide +kernel

/-- HearthBlocks, broadcasts: into a stack; nowhere; to one tile, a rectangle, a group, each tile in turn; beyond the end of the SRAM. -/
theorem wit_HearthBlocks_broadcast :
    (let s := fun (p : Nat) (w0 w1 : Word) => withTbl (inReserve p 43 (block 0 0 4 0 (List.replicate 128 6)))
       [(tblKey 1 p 2 (2 * 256 * 3), w0), (tblKey 1 p 2 (2 * 256 * 3 + 1), w1)]
     let lands := fun (w0 w1 : Word) (mode : Nat) => leads (.broadcastBlockLanding 0 3 []) (s 0 w0 w1) (fun u => u.flights.any (fun f => f.mode == mode))
     leads (.broadcastBlockLanding 31 3 []) (s 31 0xC0000000 0x17FFFFFF) (fun u => (u.stack 15).byte 0xBFFFFFFFF == 6) &&
       leads (.broadcastBlockLanding 31 3 []) (s 31 0 0) (fun u => (u.port 31).reserve 43 == []) && lands 0x8F02F000 0x1FFF 0 && lands 0x9F03F02F 0x1FFF 1 &&
       lands 0xA000000F 0x1FFF 2 && lands 0xBF03F02F 0x1FFF 0 && (spreadPlace 0xBF03F02F 0x1FFF 0 == some (0, 0, 0, true)) &&
       leads (.broadcastBlockLanding 0 3 []) ((s 0 0x8F02F000 0x1FFF).setPort 0 (((s 0 0x8F02F000 0x1FFF).port 0).setReserve 43 [block 0 0 4 1 []]))
         (fun u => u.reg Reg.HRT_ERR_STATUS == 0x80000006)) = true := by decide +kernel

/-- Both copies of a frame to port 0. -/
def copies (type dst src value : Nat) : PilotCopies := ⟨pilotFrame type dst src value 7, pilotFrame type dst src value 7⟩

/-- HearthBlocks, flow control: a reserve at its off level and one at its on level; an off and an on frame of the receiver of the last group. -/
theorem wit_HearthBlocks_flow :
    (let z := (run 0 []).setReg Reg.HRT_FC_LEVEL 0
     let off : State := { z with ports := [(35, { HPort.reset with offSent := [(0, true)] })] }
     let on_ : State := { z with ports := [(0, { HPort.reset with tx := [(35, { TxGroup.reset with off := true, offFrom := 3 })] })] }
     (z.levels 0 == (0, 0)) && leads (.reserveOff 35 0) z (fun u => (u.port 35).offSent.get false 0) &&
       leads (.reserveOn 35 0) off (fun u => !((u.port 35).offSent.get false 0)) && (groupReceiver 0 35 == (35, 0)) &&
       ((pilotFrameOf 0 false 3 (copies 3 0 35 (35 * 2 ^ 26))).isSome) && off.frameFrom 0 (copies 3 0 35 (35 * 2 ^ 26)).first true &&
       leads (.offFrame 0 (copies 3 0 35 (35 * 2 ^ 26)) 9) off (fun u => ((u.port 0).group 35).off) &&
       leads (.onFrame 0 (copies 4 0 35 (35 * 2 ^ 26)) 9) on_ (fun u => !((u.port 0).group 35).off && (u.port 0).map.get 0 (8 * 35 + 1) == 6)) = true := by
  decide +kernel

/-- HearthPilotsAndLanes: frames of each type, good in the first and in the second copy, of another receiver, lost three times in a row, and with a value that
its complement does not match. -/
theorem wit_HearthPilots :
    (let s := run 0 []
     let l : State := { s with ports := [(35, { HPort.reset with lostRun := [(1, 2)] })] }
     let spoilt : PilotCopies := ⟨0, pilotFrame 1 0 64 0 7⟩
     let body := 0x5A100000000000000000000000000007
     let wrong : BitVec 128 := BitVec.ofNat 128 (body / 2 ^ 16 * 2 ^ 16 + crc16 112 (body / 2 ^ 16) 0xFFFF)
     [(1, 0xFF, false), (2, 0, false), (5, 0, false), (5, 0, true), (6, 0, false)].all (fun r => (pilotFrameOf 0 r.2.2 r.1 (copies r.1 r.2.1 (if r.2.2 then 0 else 64) 0)).isSome) &&
       (pilotFrameOf 35 true 7 (copies 7 64 35 0)).isSome && (pilotFrameOf 0 false 1 spoilt == some (pilotFrame 1 0 64 0 7, true)) &&
       (pilotFrameOf 0 false 1 (copies 1 9 64 0) == none) && (pilotFrameOf 0 false 6 (copies 1 0 64 0) == none) &&
       leads (.pilotTickBeacon 0 spoilt) s (fun t => fld (t.reg Reg.HRT_PILOT_COUNT) 31 16 == 1) && (readPilot 0 0 == .lost) && l.ticking &&
       ((l.port 35).lostRun.get 0 1 == 2) && leads (.pilotFrameLost 35 true ⟨0, 0⟩) l (fun t => t.mode == .faulted) && (readPilot wrong wrong == .mismatch) &&
       ((at_ .ready 0).mode != .off) && !(at_ .ready 0).boot.active &&
       leads (.pilotComplementMismatch 0 false ⟨wrong, wrong⟩) (at_ .ready 0) (fun t => t.mode == .boot)) = true := by decide +kernel

/-- HearthPilotsAndLanes: a lattice lane of a free spare position fails, idle and ticking; a lane set of Stoker. -/
theorem wit_HearthLanes :
    (let s := run 0 []
     let set_ := copies 6 0 64 (7 * 2 ^ 20 + 2 * 2)
     s.sparePlace 0 35 == 0 && s.laneState 35 252 == 0 && s.laneState 35 288 != 2 && s.hearth.moves.isEmpty && s.ticking && !(at_ .ready 0).ticking &&
       leads (.laneFail 35 (BitVec.ofNat 10 (36 * 7))) (at_ .ready 0) (fun t => t.laneState 35 252 == 2 && t.laneState 35 288 == 4) &&
       leads (.laneFail 35 (BitVec.ofNat 10 (36 * 7))) s (fun t => t.hearth.moves.length == 1) && (frameFld set_.first 103 96 == 0x40) &&
       leads (.laneSet 0 set_) s (fun t => t.laneState 0 7 == 2)) = true := by decide +kernel

/-! ### Ember-sum and the memory stacks: hypotheses that can be met -/

/-- A result of 128 values for the last bytes of `tid`. -/
def result : SumResult :=
  { row := 0, col := 47, offset := 0xFFE00, ctr := 15, tick := 0, entry := 35, words := List.replicate 128 0x3F800000, whole := true }

/-- A sum packet of the longest kind on the link to its gateway, stream 63 of the last group. -/
def sumFlight (poison : Option Nat) : Flight :=
  { packet false 1 with router := posKey 15 0 48, port := 6, target := 1, hblk := 0x3FF3F0080000000, data := List.replicate 128 63, poison := poison }
/-- Its send entry valid, of 128 values for entry 35 of port 15. -/
def sumEntry (s : State) : State := withTbl s [(tblKey 2 15 0 30, 0x8F8C0040), (tblKey 2 15 0 31, 128)]
/-- A round of one value 63 on its way, for entry 35 of port 15. -/
def round1 : SumRound := { src := 0, entry := 15, dst := 15, rx := 35, first := 0, width := 1, len := 1, start := 0, codes := [63], late := false }

/-- EmberRounds, sending: a packet for a valid entry, for none, poisoned, and behind 64; an open window that sends a whole round; a round that runs short. -/
theorem wit_EmberRounds_send :
    (let pk := (sumFlight none).codes
     let q := fun (s : State) (f : Flight) => { s with flights := [f] }
     let e := sumEntry (run 0 [])
     let full := e.setPort 15 { e.port 15 with sums := List.replicate 64 pk }
     let w := sumEntry { run 0 [] with ports := [(15, { HPort.reset with sums := [pk], tx := [(37, { TxGroup.reset with isOpen := true, stream := 63 })] })] }
     let short := sumEntry { run 0 [] with ports := [(15, { HPort.reset with sending := some { round1 with src := 15, len := 200, codes := List.replicate 128 63 } })] }
     ((sumFlight none).isSum) && (pk.group == 15) && (pk.stream == 63) && (pk.index == 0) && pk.last && flag (e.sendEntry 15 15 0) 31 && e.mayMove 0 (sumFlight none) &&
       (keyDie (sumFlight none).router == 15) && leads (.sumPacketQueue 15 0 (.link [])) (q e (sumFlight none)) (fun t => (t.port 15).sums == [pk]) &&
       leads (.sumPacketQueue 15 0 (.link [])) (q (run 0 []) (sumFlight none)) (fun t => t.reg Reg.EMB_ERR_STATUS == 0x80000003) &&
       leads (.sumPacketQueue 15 0 (.link [])) (q e (sumFlight (some 0))) (fun t => t.flights.isEmpty && t.reg Reg.EMB_ERR_STATUS == 0) &&
       leads (.sumPacketQueue 15 0 (.link [])) (q full (sumFlight none)) (fun t => t.flights.length == 1) &&
       w.ticking && ((w.port 15).sending == none) && pk.codes.length == fld (w.sendEntry 15 15 1) 14 0 &&
       leads (.sumRoundSend 15 1) w (fun t => t.hearth.rounds.map (fun r => r.codes.length) == [128]) && short.ticking &&
       leads (.sumRoundSend 15 1) short (fun t => t.reg Reg.EMB_ERR_STATUS == 0x80000004 && t.hearth.rounds.map (fun r => r.codes.length) == [200])) = true := by
  decide +kernel

/-- EmberRounds, receiving: light that starts no round, a round whose preamble fails and one that passes under valid calibration; a result of 128 values and the
last of a longer one; a path seen weak twice, and its neighbour. -/
theorem wit_EmberRounds_receive :
    (let r := withTbl { run 0 [] with hearth := { HearthState.reset with rounds := [round1] } } [(tblKey 2 15 1 140, 0x80001F80),
       (tblKey 2 15 1 141, 0x02FFFFFC), (tblKey 2 15 1 142, 0x8C100001), (tblKey 2 15 2 (16 * 35), 0x80000000)]
     let dl : State := { run 0 [] with ports := [(15, { HPort.reset with results := [result] })] }
     let more : State := { run 0 [] with ports := [(15, { HPort.reset with results := [{ result with words := List.replicate 129 0 }] })] }
     let tn : State := { run 0 [] with ports := [(15, { HPort.reset with weak := [(16 * 35 + 14, 2)] })] }
     let tol := fld (r.reg Reg.EMB_ALIGN_TOL) 2 0
     flag (r.recvEntry 15 35 0) 31 && ((bits16 (fld (r.recvEntry 15 35 0) 27 12)).map r.bayDie == [0]) && (firstRounds 15 35 [0] r.hearth.rounds == [round1]) &&
       decide (16 ≤ startSample 1 [] 0) && !(decide (16 ≤ startSample 1 [-16] 0)) && (preambleFault tol 1 1 1 [1, -1, 0, 0] == none) &&
       (preambleFault tol 1 1 1 [3, 0, 0, 0] == some 0) && r.calValid 15 35 [0] && fld (r.recvEntry 15 35 2) 14 0 == 1 &&
       leads (.sumRoundReceive 15 35 [-16]) r (fun t => (t.port 15).results.isEmpty && t.reg Reg.EMB_ERR_STATUS == 0) &&
       leads (.sumRoundReceive 15 35 [3]) r (fun t => t.reg Reg.EMB_ERR_STATUS == 0x80000005) &&
       leads (.sumResultDelivery 15 []) dl (fun t => (t.port 15).results.isEmpty && t.flights.any (fun f => f.last && f.data.length == 512)) &&
       leads (.sumResultDelivery 15 []) more (fun t => (t.port 15).results.length == 1 && t.flights.any (fun f => !f.last)) &&
       ((15 : Fin 16) != 14) && tn.mode != .banked && (tn.port 15).weak.get 0 (16 * 35 + 14) == 2 && decide ((tn.port 15).weak.get 0 (16 * 35 + 13) < 2)) = true := by decide +kernel

/-- The last stack with an input ring of one slot whose base is a unit below its end, its header `h`. -/
def ringed (required : Bool) (h : List Byte) : State :=
  let s := withTbl (withRegs (run 0 []) [(Reg.TCK_BUDGET, 1), (Reg.MEM_STATUS 15, 0x80000000), (Reg.MEM_CTRL 15, 0x100)])
    [(tblKey 3 15 1 252, if required then 0x82010000 else 0x82000000), (tblKey 3 15 1 253, 0x17FFFFFE), (tblKey 3 15 1 254, 1), (tblKey 3 15 1 255, 0)]
  s.setStack 15 ((s.stack 15).write 0xBFFFFFF00 h)

/-- MemoryEvents: the last ring of the last stack with a slot that is valid and one that is not; the last line good, with a single and with an
uncorrectable error. -/
theorem wit_MemoryEvents :
    (let good := slotHeader 0 5 1
     let s := ringed true good
     let a := 0xBFFFFFF00
     let last := 0xC00000000 / 64 - 1
     let ecc := fun (m : EccMark) => s.setStack 15 { s.stack 15 with ecc := [(last, m)] }
     (s.ring 15 63).isSome && s.ticking && s.tick.isOpen && !s.tick.guard && (match s.ring 15 63 with
       | some r => s.ringFilling 15 r && decide (r.word3 < s.budget) && r.slotAt (s.currentSlot r) == a && r.required
       | none => false) && (s.stack 15).bytes a 16 == good.take 16 && inputValid s.seq (good.take 16) && !(inputValid s.seq ((slotHeader 0 5 2).take 16)) &&
       !(s.inCopy1 15 a 16) && (s.inWindow 15 a 16 == none) && (s.stack 15).atomics.isEmpty && (s.stack 15).ecc.isEmpty &&
       leads (.inputDeadline 15 63) s (fun t => t.ringState 15 63 == 1) &&
       leads (.inputDeadline 15 63) (ringed true (slotHeader 1 5 1)) (fun t => t.tick.late) &&
       leads (.inputDeadline 15 63) (ringed false (slotHeader 1 5 1)) (fun t => (t.stack 15).bytes a 16 == (slotHeader 0 0 2).take 16) &&
       flag (s.reg (Reg.MEM_CTRL 15)) 8 && fld (s.reg (Reg.MEM_STATUS 15)) 31 30 == 2 && (s.stack 15).ecc.get .good last == .good &&
       leads (.patrolScrub 15 last) (ecc .single) (fun t => (t.stack 15).ecc.get .good last == .good) && !((ecc .double).readCopy 15 (64 * last)) &&
       leads (.patrolScrub 15 last) (ecc .double) (fun t => t.reg (Reg.MEM_ERR_STATUS 15) == 0x80000001)) = true := by decide +kernel

/-- MemoryEvents, remote: at the last words of the last stack a load of each width, a store and an atomic, one into a ring, and an atomic at the head. -/
theorem wit_MemoryEvents_remote :
    (let d := fun (op : BitVec 4) (mpa : BitVec 48) => ({ answer 0 0 with op := op, mpa := mpa, from_ := 0, value := 9, data := 5 } : RemoteDesc)
     let s := fun (op : BitVec 4) (mpa : BitVec 48) => unitBlock 31 34 (d op mpa).payload
     let ring := withTbl (s 0 0x1F0BFFFFFF00) [(tblKey 3 15 1 252, 0x82000000), (tblKey 3 15 1 253, 0x17FFFFFE), (tblKey 3 15 1 254, 1)]
     let q := (run 0 []).setStack 15 { (run 0 []).stack 15 with atomics := [(34, d 9 0x1F0BFFFFFEF8)] }
     let lt := fun (s : State) => s.hearth.light.length + (((s.port 31).group 34).queue.length)
     (descOf (leNat (requestBlock 34 31 (d 1 0x1F0BFFFFFFC0).payload).data) == d 1 0x1F0BFFFFFFC0) && ((d 1 0x1F0BFFFFFFC0).off == 0xBFFFFFFC0) &&
       ((s 1 0).remoteBar 15 0xBFFFFFFC0 64 == none) && (ring.remoteBar 15 0xBFFFFFF00 8).isSome &&
       [(0, 0x1F0BFFFFFFF8), (1, 0x1F0BFFFFFFC0), (5, 0x1F0BFFFFFFC0)].all (fun (r : BitVec 4 × BitVec 48) => leads (.readRequest 15 34) (s r.1 r.2) (fun t => lt t == 1)) &&
       leads (.readRequest 15 34) (s 5 0x1F0BFFFFFFC0) (fun t => (t.stack 15).byte 0xBFFFFFFC0 == 5) && leads (.readRequest 15 34) ring (fun t => lt t == 1) &&
       leads (.readRequest 15 34) (s 11 0x1F0BFFFFFFF8) (fun t => (t.stack 15).atomics.length == 1) &&
       (q.remoteBar 15 0xBFFFFFEF8 8 == none) && leads (.fabricAtomic 15) q (fun t => (t.stack 15).atomics == [] && (t.stack 15).byte 0xBFFFFFEF8 == 9)) = true := by
  decide +kernel

/-! ### Configuration sets in flash -/

/-- Byte `i` of a set of a version: no sections, the option block of the hub ROM. -/
def setByte (ver i : Nat) : Byte :=
  if i < 128 then (([0x45, 0x4D, 0x43, 0x46, 0x10, 0, 0, 0] : List Byte) ++ leBytes 4 ver ++ leBytes 4 (0x180 + 7856)).getD i 0
  else if i % 2 = 0 then romOptions.getD ((i - 128) / 2) 0 else ~~~(romOptions.getD ((i - 128) / 2) 0)
/-- A run of `n` cells. -/
def run_ (base : Nat) (f : Nat → Byte) (n : Nat) : List Host.Cell := (List.range n).map (fun i => (base + i, f i))
/-- A set of version `a` in region A and one of version `b` in region B. -/
def sets (a b : Nat) : List Host.Cell := run_ 0 (setByte a) 384 ++ run_ 0x2000000 (setByte b) 384
/-- A boot state with both sets in flash. -/
def bootSets (a b : Nat) : BootState := { BootState.reset with input := true, vbak := true, vbakSeen := true, flash := sets a b }

/-- A lookup passes a list that does not name its key. -/
theorem get_past (d : Byte) (l r : List Host.Cell) (x : Nat) (h : ∀ c ∈ l, c.1 ≠ x) : SMap.get d (l ++ r) x = SMap.get d r x := by
  induction l with
  | nil => rfl
  | cons c l ih =>
    rw [List.cons_append, SMap.get_cons, if_neg (h c (List.mem_cons_self ..))]
    exact ih (fun y hy => h y (List.mem_cons_of_mem _ hy))

/-- A lookup within a run. -/
theorem get_run (d : Byte) (base : Nat) (f : Nat → Byte) (n k : Nat) (h : k < n) (r : List Host.Cell) : SMap.get d (run_ base f n ++ r) (base + k) = f k := by
  induction n generalizing r with
  | zero => exact absurd h (Nat.not_lt_zero _)
  | succ n ih =>
    have e : run_ base f (n + 1) ++ r = run_ base f n ++ ((base + n, f n) :: r) := by simp [run_, List.range_succ]
    rw [e]
    by_cases c : k = n
    · subst c
      rw [get_past, SMap.get_cons, if_pos rfl]
      intro y hy
      simp only [run_, List.mem_map, List.mem_range] at hy
      obtain ⟨i, hi, rfl⟩ := hy
      simp only
      omega
    · exact ih (by omega) _

/-- A byte of one of the two sets. -/
theorem bootSets_byte (a b : Nat) (r : Bool) (k : Nat) (h : k < 384) : (bootSets a b).byte (regionBase r + k) = setByte (if r then b else a) k := by
  unfold BootState.byte
  show SMap.get 0xFF (sets a b) _ = _
  cases r
  · exact get_run _ 0 _ _ _ h _
  · rw [sets, get_past]
    · have e := get_run 0xFF 0x2000000 (setByte b) 384 k h []
      rw [List.append_nil] at e
      exact e
    · intro y hy
      simp only [run_, List.mem_map, List.mem_range] at hy
      obtain ⟨i, hi, rfl⟩ := hy
      simp only [regionBase, if_true]
      omega

/-- Bytes of one of the two sets. -/
theorem bootSets_bytes (a b : Nat) (r : Bool) (o n : Nat) (h : o + n ≤ 384) :
    (bootSets a b).bytes (regionBase r + o) n = (List.range n).map (fun i => setByte (if r then b else a) (o + i)) := by
  unfold BootState.bytes
  refine List.map_congr_left (fun i hi => ?_)
  rw [Nat.add_assoc]
  exact bootSets_byte a b r (o + i) (by have := List.mem_range.mp hi; omega)

/-- The option bytes of both sets are those of the hub ROM. -/
theorem bootSets_options (a b : Nat) (r : Bool) : (bootSets a b).optionBytes r = romOptions := by
  have h : (bootSets a b).optionBytes r = (List.range 128).map (fun k => romOptions.getD k 0) := by
    unfold BootState.optionBytes
    refine List.map_congr_left (fun k hk => ?_)
    have k' := List.mem_range.mp hk
    rw [Nat.add_assoc, bootSets_byte a b r _ (by omega)]
    unfold setByte
    rw [if_neg (by omega), if_pos (by omega), show (128 + 2 * k - 128) / 2 = k by omega]
  rw [h]
  decide +kernel

/-- Both option blocks are valid (R420, R421). -/
theorem bootSets_block (a b : Nat) (r : Bool) : (bootSets a b).blockOk r = true := by
  unfold BootState.blockOk
  rw [bootSets_options, show optionsOk romOptions = true by decide +kernel, Bool.and_true, List.all_eq_true]
  intro k hk
  have k' := List.mem_range.mp hk
  rw [Nat.add_assoc, Nat.add_assoc, bootSets_byte a b r _ (by omega), Nat.add_assoc, bootSets_byte a b r _ (by omega)]
  unfold setByte
  rw [if_neg (by omega), if_neg (by omega), if_neg (by omega), if_pos (by omega), show (128 + (2 * k + 1) - 128) / 2 = k by omega,
    show (128 + 2 * k - 128) / 2 = k by omega]
  exact beq_self_eq_true _

/-- Sets of versions 1 and 2 are valid (R419, R421). -/
theorem bootSets_valid (r : Bool) : (bootSets 1 2).valid r = true := by
  have z : (bootSets 1 2).bytes (regionBase r) 4 = [0x45, 0x4D, 0x43, 0x46] := by
    have e := bootSets_bytes 1 2 r 0 4 (by omega)
    rw [Nat.add_zero] at e
    rw [e]
    cases r <;> decide
  have h : (bootSets 1 2).headerOk r = true := by
    unfold BootState.headerOk BootState.sections BootState.setLen BootState.head
    rw [z]
    simp only [List.map_cons, List.map_nil, Nat.add_assoc]
    rw [bootSets_bytes 1 2 r 4 1 (by omega), bootSets_bytes 1 2 r 5 3 (by omega), bootSets_bytes 1 2 r 8 4 (by omega), bootSets_bytes 1 2 r 0x00C 4 (by omega),
      bootSets_bytes 1 2 r 0x028 88 (by omega), bootSets_bytes 1 2 r 0x010 4 (by omega), bootSets_bytes 1 2 r 0x018 4 (by omega),
      bootSets_bytes 1 2 r 0x020 4 (by omega), bootSets_bytes 1 2 r (0x010 + 4) 4 (by omega), bootSets_bytes 1 2 r (0x018 + 4) 4 (by omega),
      bootSets_bytes 1 2 r (0x020 + 4) 4 (by omega)]
    cases r <;> decide +kernel
  unfold BootState.valid
  rw [h, bootSets_block]
  rfl

/-- The sets are valid in every boot state that holds them and has marked no region invalid. -/
theorem sets_valid (x : BootState) (f : x.flash = sets 1 2) (g : x.bad = []) (r : Bool) : x.valid r = true := by
  have h := bootSets_valid r
  cases x
  cases f
  cases g
  exact h

/-! ### The host ports: hypotheses that can be met -/

/-- The last request number of a session at port 1. -/
def req : MhpReq := { port := 1, addr := 0xFE80, udp := 0xFFFF, session := 0xFFFF, seq := 0xFFFFFFFF }
/-- The session of the last slot, in a role, which has seen every number but the last. -/
def sess (role : Nat) : Session :=
  { slot := 15, id := 0xFFFF, role := role, port := 1, addr := 0xFE80, udp := 0xFFFF, h := 0xFFFFFFFE, kept := [], busy := [], mask := 0, count := 0 }
/-- The module in a state with both host ports up, and one session. -/
def hosted (m : ModState) (x : Session) : State :=
  let s := withRegs (at_ m 0) [(Reg.PWR_DOM 0, 0x55555555), (Reg.PWR_DOM 1, 0x55555555), (Reg.PWR_DOM 2, 0x55555555), (Reg.PWR_DOM 3, 0x55555555),
    (Reg.PWR_DOM 4, 0x55555555), (Reg.HST_LINK 0, 0x80000000), (Reg.HST_LINK 1, 0x80000000), (Reg.HST_IPV4 1, 0xFFFFFFFF)]
  { s with sessions := [x], boot := { BootState.reset with input := true, vbak := true, vbakSeen := true } }
/-- A frame to a group address, untagged, of a length; a datagram to port 1's own address and MHP port. -/
def head (len : Nat) : FrameHead := ⟨len, none, 0x011B19000000⟩
def toMhp : Carried := .udp false 0xFFFFFFFF false 0xB798
/-- A KEEPALIVE as a datagram. -/
def dgram : List Byte :=
  let b : List Byte := [0x4D, 0x48, 0x10, 0] ++ leBytes 2 3 ++ [0, 0] ++ leBytes 2 0xFFFF ++ [0, 1] ++ leBytes 4 0xFFFFFFFF ++ List.replicate 12 0
  b ++ leBytes 4 (crc32c (b ++ [0, 0, 0, 0]))

/-- HostSessions: the last request of the last slot, of an observer and of a controller in two states; reads and writes that succeed and fail; a request
seen before and one of no session; HELLO for each role with fifteen sessions open; a datagram that spells a request and one that does not. -/
theorem wit_HostSessions :
    (let o := hosted .running (sess 0)
     let c := hosted .faulted (sess 1)
     let old := hosted .ready { sess 1 with h := 0xFFFFFFFF, kept := [(0xFFFFFFFF, 3, 0, [])] }
     let full : State := { hosted .ready (sess 2) with sessions := (List.range 15).map (fun k => { sess 0 with slot := k }) }
     o.takes req (sess 0) && c.takes req (sess 1) && !o.boot.faulted && !c.boot.faulted && c.mode != .running &&
       (((o.seen req (sess 0)).ctlRead 0x1F Reg.TCK_STATUS 4).1 == some (o.reg Reg.TCK_STATUS)) &&
       (((o.seen req (sess 0)).ctlRead 0x1F (2 ^ 40 - 1) 4).1 == none) &&
       ((c.seen req (sess 1)).ctlWrite 0x1F (Reg.MEM_CTRL 15) 4 0x114).1 && decide (Reg.MEM_CTRL 15 < 2 ^ 40) &&
       leads (.regWrite req (BitVec.ofNat 64 (Reg.MEM_CTRL 15)) [0x114]) c (fun t => t.reg (Reg.MEM_CTRL 15) == 0x114) &&
       leads (.stopJob req) c (fun t => t.reg (Reg.HST_CONFLICTS 1) == 1) && flag (o.reg (Reg.HST_CTRL 1)) 1 && o.portUp 1 &&
       (o.sessionOf { req with udp := 0 } == none) && (old.sessionOf req).isSome && ((old.sessionOf req).map (fun x => x.kept.length) == some 1) &&
       leads (.bye req) old (fun t => t.sessions.length == 1) &&
       full.portUp 1 && !(flag (full.reg Reg.GLV_STATUS) 30) && full.sessions.all (fun x => x.role != 1 && x.role != 2) &&
       ((List.range 16).find? (fun j => !(full.sessions.any (fun x => x.slot == j))) == some 15) &&
       leads (.sessionIdleTimeout 15) o (fun t => t.sessions == []) && (readDatagram dgram.tail == none) &&
       (readDatagram dgram).any (fun h => h.type == 0 && h.part == 0 && h.parts == 1 && h.code == 3 && h.payload == []) &&
       o.accepts 1 (head 9216) && !(o.accepts 1 (head 9217)) && (o.dispatch 1 toMhp == .mhp) &&
       leads (.mhpDatagram 1 (head 64) toMhp 0xFE80 0xFFFF dgram []) o (fun t => t.out.length == 1) &&
       leads (.mhpDatagram 1 (head 64) toMhp 0xFE80 0xFFFF dgram.tail []) o (fun t => t.reg (Reg.HST_DROPS 1) == 0x10000)) = true := by decide +kernel

/-- HostCommands: the states each command of a controller is legal in, with arguments at their limits. -/
theorem wit_HostCommands :
    (let s := fun (m : ModState) => hosted m (sess 1)
     let ok := fun (s : State) => s.takes req (sess 1) && !s.boot.faulted && !s.midway && s.boot.cmd == none && s.glove.cmd == none
     let banked : State := { s .banked with boot := { (s .banked).boot with bankedFrom := some .loaded } }
     let mb := withRegs (s .loaded) [(Reg.MBX_BIND 31, 0x80001000), (Reg.MBX_VER 31, 0x90)]
     let st := withRegs (s .loaded) [(Reg.MBX_BIND 31, 0xC0000000), (Reg.MBX_VER 31, 0x90)]
     let st : State := { st with mailbox := [(31, { MbxChan.reset with popped := 0x1F })] }
     let q : Qp := { port := 1, qpn := 0xFFFFC0, remote := 0, rkey := 0, mtu := 4096, gid := 0, kind := 0, psn := 0, msg := none, broken := false, halfTo := 0, cnpAt := 0 }
     let pairs : State := { s .loaded with qps := (List.range 63).map (fun k => { q with qpn := 0xFFFFC0 + k }) }
     let quote : State := { s .ready with glove := { GloveState.reset with quotes := List.replicate 3 (req, 0) } }
     let load : State := { s .ready with job := { JobState.reset with loading := some (req, 2 ^ 36, 0, 0) } }
     let wake : State := { s .banked with boot := { (s .banked).boot with bankedFrom := some .loaded, waking := true } }
     ok (s .ready) && ok (s .loaded) && ok (s .running) && ok (s .faulted) && ok banked && ok mb && ok st && ok pairs && ok quote &&
       stagingBytes == 2 ^ 36 && (s .running).ticking && (s .loaded).source == 0 && (s .loaded).fencedDies.isEmpty &&
       !(flag ((s .loaded).reg Reg.TCK_ROLE) 31) && !(flag ((s .loaded).reg Reg.THM_STATUS) 6) && (s .faulted).resetLegal 3 && (s .faulted).resetLegal 2 &&
       (s .faulted).resetLegal 1 && (s .faulted).resetLegal 0 && mb.mbxSends (sess 1).master 31 && flag (mb.reg (Reg.MBX_VER 31)) 7 &&
       (mb.chan 31).inQ == MbxQueue.reset && (mb.chan 31).outQ.done == [] && mb.mayReadAck 0x1F 31 false && !(mb.mbxStamp 31) &&
       st.mbxSends (sess 1).master 31 && st.mayReadAck 0x1F 31 false && st.mbxStamp 31 && !(flag (pairs.reg Reg.GLV_STATUS) 30) &&
       ((List.range 64).find? (fun j => !((pairs.qps.filter (fun q => q.port == 1)).any (fun q => q.qpn % 64 == j))) == some 63) &&
       fld (quote.reg Reg.GLV_STATUS) 30 29 == 0 && leads (.getQuote req 0) quote (fun t => fld (t.reg Reg.GLV_STATUS) 23 21 == 4) &&
       leads (.loadJob req (2 ^ 36) 0 0) (s .ready) (fun t => t.job.loading.isSome) && leads (.startJob req 0 false []) (s .loaded) (fun t => t.job.start == some 0) &&
       leads (.stopJob req) (s .running) (fun t => t.mode == .draining) && leads (.teardown req) (s .running) (fun t => t.mode == .faulted) &&
       leads (.mbxSend req 31 [5]) st (fun t => (t.chan 31).inQ.done == [(0x1F000005, [0x1F000005])]) &&
       leads (.closeQp req 0xFFFFC0) pairs (fun t => t.qps.length == 62) && (load.sessionOf req).isSome &&
       leads .wakeComplete wake (fun t => t.mode == .loaded) &&
       (s .ready).portUp 1 && (s .ready).ownAddress 1 false 0xFFFFFFFF && !((s .ready).ownAddress 1 false 0) &&
       leads (.arpRequest 1 (head 64) false false 0xFFFFFFFF []) (s .ready) (fun t => t.out.length == 1) &&
       leads (.frameDrop 1 (head 64) (.ether 0x800) false) (s .ready) (fun t => t.reg (Reg.HST_DROPS 1) == 1)) = true := by decide +kernel

/-- HostCommands, CONFIG_REVERT: region A in use, region B with a set that may be chosen. -/
theorem wit_HostCommands_revert :
    let r : State := { hosted .faulted (sess 1) with boot := { bootSets 1 2 with loaded := true } }
    r.takes req (sess 1) = true ∧ r.setInUse = some false ∧ r.eligible (!false) = true := by
  refine ⟨by decide +kernel, by decide +kernel, ?_⟩
  unfold State.eligible
  rw [Bool.not_false, sets_valid _ rfl rfl]
  decide +kernel

/-- HostCommands, LOAD_JOB_END: after a self-test failure no signature verifies, and the image is refused with reason 0x01 (R230, R438). -/
theorem wit_HostCommands_refused :
    ((hosted .ready (sess 1)).setReg Reg.GLV_STATUS 0x40000000).loadRefused ⟨0, 7984⟩ ⟨0, 0⟩ = some (0, 1, 0) := by decide +kernel

/-- The smallest image that passes every check of R230 but those the spec gives no rule for: seven sections, one input stream, no program. -/
def imageCells : List Host.Cell :=
  [(0xB00000000, 69), (0xB00000001, 77), (0xB00000002, 74), (0xB00000003, 73), (0xB00000004, 16), (0xB00000006, 16), (0xB00000009, 2), (0xB0000000C, 7), (0xB00000010, 48),
   (0xB00000011, 34), (0xB00000018, 244), (0xB00000019, 1), (0xB0000001D, 125), (0xB00000021, 184), (0xB00000022, 11), (0xB00000034, 1), (0xB00000200, 1), (0xB00000208, 128),
   (0xB00000209, 2), (0xB00000210, 2), (0xB00000218, 128), (0xB00000219, 2), (0xB00000220, 5), (0xB00000228, 128), (0xB00000229, 2), (0xB00000230, 6), (0xB00000238, 128),
   (0xB00000239, 2), (0xB00000240, 7), (0xB00000248, 128), (0xB00000249, 2), (0xB00000250, 9), (0xB00000254, 128), (0xB00000258, 128), (0xB00000259, 2), (0xB00000260, 10),
   (0xB00000264, 128), (0xB00000269, 3), (0xB00000300, 1), (0xB00000308, 2), (0xB00000318, 1)]
/-- The module Ready with that image in its staging range. -/
def staged : State := (hosted .ready (sess 1)).setStack 0 { (hosted .ready (sess 1)).stack 0 with dram := imageCells }

/-- HostCommands, LOAD_JOB_END: with a signature that verifies and sections that Config accepts, the image passes (R230). -/
theorem wit_HostCommands_accepted (hv : Config.slhVerify Config.vendorRoot (staged.stage 0 896) (staged.stage 896 7856) = true)
    (hs : ∀ t bs, Config.sectionRefused t bs = false) : staged.loadRefused ⟨0, 8752⟩ ⟨0, 0⟩ = none := by
  have v : staged.verifyJob (staged.stage 0 896) (staged.stage 896 7856) = true := by
    unfold State.verifyJob
    rw [show flag (staged.reg Reg.GLV_STATUS) 30 = false by decide +kernel, show staged.activeRoot = none by decide +kernel,
      show staged.everProgrammed = false by decide +kernel]
    simpa using hv
  have d : staged.imgDir ⟨0, 8752⟩ = [(1, 0, 0, 640), (2, 0, 0, 640), (5, 0, 0, 640), (6, 0, 0, 640), (7, 0, 0, 640), (9, 0, 128, 640), (10, 0, 128, 768)] := by
    decide +kernel
  have q : (staged.imgDir ⟨0, 8752⟩).find? (staged.sectionBad ⟨0, 8752⟩ false) = none := by
    have b1 : staged.sectionBad ⟨0, 8752⟩ false (1, 0, 0, 640) = false := by decide +kernel
    have b2 : staged.sectionBad ⟨0, 8752⟩ false (2, 0, 0, 640) = false := by simp [State.sectionBad]
    have b5 : staged.sectionBad ⟨0, 8752⟩ false (5, 0, 0, 640) = false := by simp [State.sectionBad, hs]
    have b6 : staged.sectionBad ⟨0, 8752⟩ false (6, 0, 0, 640) = false := by decide +kernel
    have b7 : staged.sectionBad ⟨0, 8752⟩ false (7, 0, 0, 640) = false := by simp [State.sectionBad, hs]
    have b9 : staged.sectionBad ⟨0, 8752⟩ false (9, 0, 128, 640) = false := by decide +kernel
    have b10 : staged.sectionBad ⟨0, 8752⟩ false (10, 0, 128, 768) = false := by decide +kernel
    rw [d]
    simp only [List.find?, b1, b2, b5, b6, b7, b9, b10]
  unfold State.loadRefused State.imageCheck
  simp only [show (8752 - 7856 : Nat) = 896 by rfl, Nat.zero_add, v, q]
  decide +kernel

/-! ### RDMA, mailboxes, the light: hypotheses that can be met -/

/-- The last queue pair of port 1, of a kind. -/
def qpair (kind : Nat) : Qp :=
  { port := 1, qpn := 0xFFFFFF, remote := 0xABCDEF, rkey := 0xFFFFFFFF, mtu := 4096, gid := 0, kind := kind, psn := 0, msg := none, broken := false, halfTo := 0, cnpAt := 0 }
/-- The module with a host port up, a queue pair, and the last ring of the last stack: two slots of one unit of data up to its end. -/
def ringHost (m : ModState) (kind : Nat) (output : Bool) (seq : Word) : State :=
  let s := withTbl (hosted m (sess 1)) [(tblKey 3 15 1 252, if output then 0xC4000000 else 0x84000000), (tblKey 3 15 1 253, 0x17FFFFFC),
    (tblKey 3 15 1 254, 1), (tblKey 3 15 1 255, 0)]
  { (s.setReg (Reg.MEM_STATUS 15) 0x80000000).setReg Reg.TCK_SEQ_LO seq with qps := [qpair kind] }
/-- A datagram to port 1's own address and the port of RoCEv2. -/
def toRoce : Carried := .udp false 0xFFFFFFFF false 4791
/-- A request to that pair: its number, its length, at the last byte of that ring. -/
def rdma (psn : BitVec 24) (len : Word) : RdmaHead :=
  { qpn := 0xFFFFFF, psn := psn, ack := true, ce := false, rkey := 0xFFFFFFFF, va := 0x1F0BFFFFFFFF, len := len }
/-- What a WRITE, a READ or a pause on port 1 leads to. -/
def wr (op : RdmaOp) (x : RdmaHead) (n : Nat) (s : State) (p : State → Bool) : Bool := leads (.rdmaWrite 1 (head 64) toRoce op x (List.replicate n 7)) s p
def rd (x : RdmaHead) (s : State) (p : State → Bool) : Bool := leads (.rdmaRead 1 (head 64) toRoce x) s p
/-- The frames sent, newest first. -/
def sentOps (t : State) : List (Option RdmaOut) := t.out.map (fun o => match o with
  | .rdma _ _ op _ _ _ => some op
  | _ => none)

/-- RdmaAndFlowControl, WRITE: a packet in its turn at the last byte of the last ring, the slot open or locked; one of several; one ahead, one behind, an opcode and a
length not allowed; another key; a place outside every ring; the end of a carry window. -/
theorem wit_RdmaAndFlowControl_write :
    (let s := ringHost .running 0 false 0
     let lock := (s.setRingStatus 15 63 (setFld (s.ringStatus 15 63) 27 26 1)).setReg Reg.TCK_SEQ_LO 1
     let mid : State := { s with qps := [{ qpair 0 with msg := some (0x1F0BFFFFFFFF, 1, true) }] }
     let bar : State := withTbl s [(tblKey 3 15 0 45, 0x80001000), (tblKey 3 15 0 46, 1)]
     let x := rdma 0 1
     s.pair 1 0xFFFFFF == some (qpair 0) && s.portUp 1 && s.accepts 1 (head 64) && (s.dispatch 1 toRoce == .roce) && !(s.host.paused.get false 1) &&
       ((qpair 0).place 0 == .due) && ((qpair 0).place 0x7FFFFF == .ahead) && ((qpair 0).place 0x800000 == .behind) &&
       (qpair 0).writeSpan .writeOnly x 1 == some (0x1F0BFFFFFFFF, 1) && ((qpair 0).writeSpan .writeOnly x 2 == none) &&
       (qpair 0).writeSpan .writeFirst (rdma 0 0x80000000) 4096 == some (0x1F0BFFFFFFFF, 0x80000000) && ((qpair 0).writeSpan .writeFirst (rdma 0 0x80000001) 4096 == none) &&
       (s.rdmaPlaces (qpair 0) true 0x1F0BFFFFFFFF 1).isSome && (s.ringOf 15 0xBFFFFFFFF 1).any (fun r => r.holds 0xBFFFFFFFF 1 && !r.output && r.slotOf 0xBFFFFFFFF == 1) &&
       (s.inWindow 15 0xBFFFFFFFF 1 == none) && !(s.inCopy1 15 0xBFFFFFFFF 1) && fld (s.reg (Reg.MEM_STATUS 15)) 31 30 == 2 &&
       s.ringState 15 63 == 0 && lock.ringState 15 63 == 1 && (s.stack 15).badLines (linesOf 0xBFFFFFFFF 1) == [] &&
       wr .writeOnly x 1 s (fun t => (t.stack 15).byte 0xBFFFFFFFF == 7 && sentOps t == [some .ack] && t.qps == [{ qpair 0 with psn := 1 }]) &&
       wr .writeOnly x 1 lock (fun t => (t.stack 15).byte 0xBFFFFFFFF == 0 && fld (t.ringStatus 15 63) 15 0 == 1 && fld (t.reg (Reg.HST_RDMA 1)) 15 0 == 1) &&
       wr .writeLast x 1 mid (fun t => fld (t.reg (Reg.HST_RDMA 1)) 15 0 == 1) &&
       wr .unsupported x 1 s (fun t => sentOps t == [some .nakInvalid] && t.qps.all (fun q => q.broken)) && wr .writeOnly x 2 s (fun t => t.qps.all (fun q => q.broken)) &&
       wr .writeOnly (rdma 1 1) 1 s (fun t => sentOps t == [some .nakSequence]) && wr .writeOnly (rdma 0xFFFFFF 1) 1 s (fun t => sentOps t == [some .ack]) &&
       wr .writeOnly { x with rkey := 0 } 1 s (fun t => fld (t.reg (Reg.HST_RDMA 1)) 31 16 == 1 && t.qps.all (fun q => q.broken)) &&
       (bar.inWindow 15 0x8007F 1).isSome && bar.inCopy1 15 0 128 && (bar.rdmaPlaces (qpair 0) true 0x1F0000000000 1 == none) &&
       wr .writeOnly { x with va := 0x1F0000000000 } 1 bar (fun t => t.reg (Reg.MEM_ERR_STATUS 15) == 0x80000008) &&
       (s.rdmaPlaces (qpair 0) true (2 ^ 44 + 15 * 2 ^ 40) 1 == none) && ((ringHost .running 1 false 0).rdmaPlaces (qpair 1) true 0 1 == none) &&
       ((ringHost .running 2 false 0).rdmaPlaces (qpair 2) true (2 ^ 44) 1 == none) &&
       ((ringHost .running 0 true 0).rdmaPlaces (qpair 0) true 0x1F0BFFFFFFFF 1 == none)) = true := by decide +kernel

/-- RdmaAndFlowControl, READ, CNP and PFC: a response of one packet and of two, the open data of an output ring; a length not allowed, another key; a pair in the error
state and one that is not there; a marked packet; a CNP; a pause received on the priority and another, its end; a buffer that fills. -/
theorem wit_RdmaAndFlowControl_read :
    (let s := ringHost .running 0 false 0
     let two : State := { s with qps := [{ qpair 0 with mtu := 128 }] }
     let gone : State := { s with qps := [{ qpair 0 with broken := true }] }
     let pfc := (s.setReg (Reg.HST_CTRL 1) 0xF).setReg (Reg.HST_PFC 1) 0x70080
     let held : State := { pfc with host := { pfc.host with paused := pfc.host.paused.set false 1 true } }
     let out := ringHost .running 0 true 0
     let open_ : State := { out with tick := { TickState.reset with isOpen := true } }
     let x := rdma 0 1
     let ring := { rdma 0 0x90 with va := 0x1F0BFFFFFF00 }
     rd x s (fun t => t.out == [.rdma 1 0xABCDEF .readOnly 0 [0] none] && t.qps == [{ qpair 0 with psn := 1 }]) &&
       (two.ringOf 15 0xBFFFFFF00 0x90).isSome && rd ring two (fun t => sentOps t == [some .readLast, some .readFirst]) && two.readsHeld (qpair 0) == 0 &&
       (open_.openData 15 0xBFFFFFFFF || open_.openData 15 0xBFFFFFEFF) &&
       rd (rdma 0 0x80000001) s (fun t => sentOps t == [some .nakInvalid]) && rd { x with rkey := 0 } s (fun t => sentOps t == [some .nakAccess]) &&
       rd (rdma 1 1) s (fun t => sentOps t == [some .nakSequence]) && wr .writeOnly x 1 gone (fun t => t == gone) && rd { x with qpn := 0 } s (fun t => t == s) &&
       flag (s.reg (Reg.HST_CTRL 1)) 3 && decide ((qpair 0).cnpAt ≤ s.timeNs 36) && rd { x with ce := true } s (fun t => sentOps t == [some .readOnly, some .cnp]) &&
       leads (.cnpReceive 1 (head 64) toRoce 0xFFFFFF) s (fun t => t.qps.all (fun q => q.halfTo == 100000)) &&
       flag (pfc.reg (Reg.HST_CTRL 1)) 2 && fld (pfc.reg (Reg.HST_PFC 1)) 18 16 == 7 && leads (.pfcPause 1 (.received 6 true)) pfc (fun t => t == pfc) &&
       leads (.pfcPause 1 (.received 7 true)) pfc (fun t => t.host.paused.get false 1) &&
       wr .unsupported x 1 held (fun t => t.out == [] && (t.host.roce.get [] 1).length == 1) &&
       leads (.pfcPause 1 (.received 7 false)) held (fun t => !(t.host.paused.get false 1)) &&
       leads (.pfcPause 1 (.buffer 0x8000001)) pfc (fun t => t.out.length == 1 && t.host.pausing.get false 1) &&
       leads (.pfcPause 1 (.buffer 0x8000000)) pfc (fun t => t.out == [])) = true := by decide +kernel

/-- Channel 31 bound: TABLE to the sessions' identity, or STAMP; both queues with one closed message, and an open inbound one of a master. -/
def channel (stamp : Bool) (w : Option Byte) : State :=
  let s := withRegs (hosted .ready (sess 1)) [(Reg.MBX_BIND 31, if stamp then 0xC0000000 else 0x80001F00), (Reg.MBX_VER 31, 0x2590)]
  let q : MbxQueue := { done := [(0x1F431F00, [0x1F431F00, 5])], writer := w, words := if w.isSome then [7] else [] }
  { s with mailbox := [(31, { MbxChan.reset with inQ := q, outQ := { q with writer := if w.isSome then some 0x43 else none }, popped := 0x1F })] }

/-- Mailboxes: the last channel in both modes, empty and open; a writer that is not admitted, one that meets another's message, a full queue; pops, answers, versions. -/
theorem wit_Mailboxes :
    (let t := channel false none
     let p := channel true none
     let o := channel false (some 0x1F)
     let m : Byte := 0x43
     let n : Byte := 0x1F
     let full : State := { t with mailbox := [(31, { MbxChan.reset with inQ := { MbxQueue.reset with done := List.replicate 8 (0, [0]) } })] }
     let none_ : State := { t with mailbox := [] }
     t.boot.input && t.mbxSends n.toNat 31 && p.mbxSends n.toNat 31 && decide ((t.chan 31).inQ.count < 8) && (t.chan 31).inQ.writer == none &&
       (o.chan 31).inQ.writer == some n && t.mbxOn 31 && t.mbxOwns m.toNat 31 && p.mbxStamp 31 && !(t.mbxStamp 31) && t.mbxPeer n.toNat 31 &&
       !(t.mbxSends 0x20 31) && decide ((full.chan 31).inQ.count ≥ 8) && !(flag (t.reg Reg.CAP_EVENTS) 3) && flag (o.reg (Reg.MBX_VER 31)) 7 &&
       ((channel false (some 0x10)).chan 31).inQ.writer == some 0x10 && !(p.mbxOwns n.toNat 31) && p.mbxOn 31 && (o.chan 31).outQ.writer == some m &&
       leads (.mbxInWr n 31 5) p (fun u => (u.chan 31).inQ.words == [0x1F000005]) && leads (.mbxInBell n 31 1) o (fun u => (u.chan 31).inQ.done.length == 2) &&
       leads (.mbxOutBell m 31 1) o (fun u => (u.chan 31).outQ.done.length == 2) && leads (.mbxInBell n 31 1) t (fun u => flag (u.reg (Reg.MBX_STATUS 31)) 8) &&
       leads (.mbxInRd m 31) t (fun u => (u.chan 31).inQ.done == [(0x1F431F00, [5])] && (u.chan 31).popped == 0x1F) &&
       leads (.mbxOutRd n 31) t (fun u => (u.chan 31).outQ.done == [(0x1F431F00, [5])]) && p.mbxSends n.toNat 31 && fld (0x1F431F00 : Word) 23 16 != n.toNat &&
       (none_.chan 31).inQ.done == [] && leads (.mbxAckWrite m 31 false 9) t (fun u => flag (u.reg (Reg.MBX_STATUS 31)) 22) &&
       leads (.mbxAckWrite n 31 true 9) t (fun u => flag (u.reg (Reg.MBX_STATUS 31)) 10) && t.mayReadAck n 31 false && !(t.mayReadAck 0x20 31 false) &&
       !(t.mbxPeer m.toNat 31) && leads (.mbxVerWrite m 31 0x02F00000) t (fun u => fld (u.reg (Reg.MBX_VER 31)) 7 0 == 0x95) &&
       leads (.mbxVerWrite m 31 0x04F00000) t (fun u => fld (u.reg (Reg.MBX_VER 31)) 7 0 == 0) &&
       leads (.mbxVerWrite m 31 0x02F00000) p (fun u => fld (u.reg (Reg.MBX_VER 31)) 7 0 == 0x9F) &&
       leads (.mailboxMessageExpiry 31 true) o (fun u => (u.chan 31).outQ.writer == none && fld (u.reg (Reg.MBX_COUNT 31)) 15 0 == 1)) = true := by decide +kernel

/-- Mailboxes: a STAMP channel whose oldest outbound message names the reader; a doorbell in Banked, and to a compute die's controller whose logic is off. -/
theorem wit_Mailboxes_more :
    (let q : MbxQueue := { done := [(0x401F0000, [5])], writer := none, words := [] }
     let p : State := { channel true none with mailbox := [(31, { MbxChan.reset with outQ := q })] }
     let i : MbxQueue := { done := [], writer := some 0x1F, words := [7] }
     let d := withRegs (hosted .ready (sess 1)) [(Reg.MBX_BIND 15, 0x80001F00), (Reg.MBX_VER 15, 0x90), (Reg.PWR_DOM 2, 0x15555555)]
     let d : State := { d with mailbox := [(15, { MbxChan.reset with inQ := i })] }
     let b : State := { d with mode := .banked }
     p.mbxSends 0x1F 31 && fld (0x401F0000 : Word) 23 16 == 0x1F && leads (.mbxOutRd 0x1F 31) p (fun t => (t.chan 31).outQ.done == []) &&
       d.domain 47 == 0 && !(d.dieFenced 15) && d.mbxSends 0x1F 15 && leads (.mbxInBell 0x1F 15 1) d (fun t => t.domain 47 == 1) &&
       leads (.mbxInBell 0x1F 15 1) b (fun t => t.boot.waking) && (channel false none).mbxOwns 0x43 31 &&
       fld 0x02F00000 31 24 == 2 && fld ((channel false none).reg (Reg.MBX_VER 31)) 19 12 == 2) = true := by decide +kernel

/-- The Bellows: its status word, some registers, its sequences under way. -/
def lit (m : ModState) (st : Word) (rs : List (Nat × Word)) (l : LightState) : State :=
  { withRegs (hosted m (sess 1)) ((Reg.BLW_STATUS, st) :: (Reg.BLW_CTRL, 1) :: rs) with light := l }

/-- Bellows: bank 1 with its spare locking, idle and ticking; a comb that returns; ramps both ways; each command in a state it is legal in; one refused. -/
theorem wit_Bellows :
    (let z := LightState.reset
     let a := lit .ready 0x3000 [] z
     let lock := (a.setSpareState 1 1 4)
     let rt := (lit .ready 0 [(Reg.BLW_COMB 10, 0x20000000)] { z with returning := [(1, 5)] })
     let r1 := (lit .ready 0 [] { z with ramp := [(1, 1)], armed := [(1, true)] }).setSpareState 1 2 4
     let r2 := (lit .ready 0 [] { z with ramp := [(1, 2)] }).setSpareState 1 3 4
     let sv := ((lit .loaded 0 [(Reg.BLW_COMB 10, 0x90000000), (Reg.BLW_COMB 0, 0x6000FFFF)] z).setSpareState 1 3 4)
     let fr := (lit .ready 0 [(Reg.BLW_COMB 10, 0x70000000)] z)
     let lk := (lit .ready 0 [] z).setSpareState 1 2 4
     let tk := (lit .running 0 [] z).setSpareState 1 2 4
     let busy := lit .ready 0 [(Reg.BLW_CMD_STATUS, 0x80000000)] z
     let m : Byte := 2
     lock.spareState 1 == 1 && lock.light.returning.get 0 1 == 0 && flag (lock.reg Reg.BLW_CTRL) 0 && !lock.ticking &&
       leads (.spareLock 1) lock (fun t => t.light.ramp.get 0 1 == 1) && leads (.spareLockTimeout 1) lock (fun t => t.spareState 1 == 4) &&
       rt.comb 10 == 1 && rt.light.returning.get 0 1 == 5 && leads (.spareLock 1) rt (fun t => t.comb 10 == 2) &&
       leads (.spareLockTimeout 1) rt (fun t => t.reg Reg.BLW_CMD_STATUS == 0x20040000) && r1.sparePos 1 == 4 && r1.light.armed.get false 1 &&
       leads (.handoverRampEnd 1) r1 (fun t => t.spareState 1 == 3 && t.comb 10 == 4) && leads (.handoverRampEnd 1) r2 (fun t => t.comb 10 == 3) &&
       m.toNat == sv.stokerId && sv.boot.input && !(flag (sv.reg Reg.BLW_CMD_STATUS) 31) && sv.spareState 1 == 3 && sv.sparePos 1 == 4 && sv.comb 10 == 4 &&
       sv.comb 0 == 3 && sv.comb 5 != 3 && sv.mode == .loaded &&
       leads (.reReference m) (lit .running 0 [] z) (fun t => t.reg Reg.BLW_CMD_STATUS == 0x20020000) &&
       leads (.combReturn m 1 4) sv (fun t => t.comb 10 == 1) && fr.spareState 1 == 0 && fr.comb 10 == 3 &&
       leads (.spareStart m 1 4) fr (fun t => t.spareState 1 == 1) && lk.spareState 1 == 2 && lk.light.ramp.get 0 1 == 0 &&
       leads (.spareHandover m 1 4) lk (fun t => t.light.ramp.get 0 1 == 1) && tk.ticking && leads (.spareHandover m 1 4) tk (fun t => t.light.armed.get false 1) &&
       leads (.spareStart m 1 4) busy (fun t => fld (t.reg Reg.BLW_CMD_STATUS) 23 16 == 1)) = true := by decide +kernel

/-- LanesAndCalibration: the last lattice lane between the last ports moves and returns, idle and ticking; a heater loop at the ends of its runs; requests in
each state; measurements that agree, that do not and that err too often. -/
theorem wit_LanesAndCalibration :
    (let z := LightState.reset
     let s := lit .ready 0 [] z
     let r := lit .running 0 [] z
     let v : Word := 0x078E2000
     let a : Access := ⟨2, BitVec.ofNat 40 Reg.HRT_LANE_SWAP, 4⟩
     let taken : State := { s with hearth := { HearthState.reset with spare := [(36 * 35 + 34, 5)] } }
     let moved : State := { withTbl s [(tblKey 1 34 5 (36 * 7 + 35), 0x20000000), (tblKey 1 34 5 (288 + 35), 0x80000000)] with
       hearth := { HearthState.reset with spare := [(36 * 35 + 34, 1 + 128 * 7)] } }
     let loop := fun (n k : Nat) => lit .ready 0 [(Reg.CAL_CTRL, 1)] { z with lockRun := [(179, n)], lossRun := [(179, k)] }
     let c : Word := 0x01E38800
     let ms : LaneMeas := { heater := -128, levels := 0, thresh := 0, serExp := 255 }
     let meas := fun (m : ModState) (st : Word) (f : Option LaneMeas) => lit m 0 [(Reg.CAL_STATUS, st)] { z with req := some c, first := f }
     let overlap := fun (m : ModState) (again : Bool) => lit m 0 [(Reg.CAL_STATUS, 0xB0000000)]
       { z with req := some c, first := some ms, repeated := again, met := z.met.set false 1 true }
     a.addr.toNat == Reg.HRT_LANE_SWAP && fld v 27 24 == 7 && fld v 23 18 == 35 && fld v 17 12 == 34 && fld v 29 28 == 0 && !(flag (s.reg Reg.HRT_SWAP_STATUS) 31) &&
       !(flag (s.reg Reg.HRT_STATUS) 27) && s.sparePlace 35 34 == 0 && s.laneState 34 287 == 0 &&
       leads (.laneSwapToSpare a v) s (fun t => t.sparePlace 35 34 == 1 + 128 * 7) && leads (.laneSwapToSpare a v) r (fun t => t.hearth.moves.length == 1) &&
       taken.sparePlace 35 34 != 0 && leads (.laneSwapToSpare a v) taken (fun t => t.reg Reg.HRT_SWAP_STATUS == 0x20020000) &&
       moved.laneState 34 287 == 1 && moved.laneState 34 323 == 4 && leads (.laneSwapReturn a v) moved (fun t => t.sparePlace 35 34 == 0) &&
       (loop 2 9).loopRuns 179 && (loop 1 8).loopRuns 179 && fld c 27 26 == 0 && s.calLegal 0 && r.calLegal 0 && fld c 25 22 == 7 && fld c 21 16 == 35 && fld c 15 10 == 34 &&
       leads (.laneCalibration 2 c) s (fun t => t.light.req.isSome && t.reg Reg.CAL_STATUS == 0xA0000000) &&
       leads (.laneCalibration 2 c) r (fun t => t.reg Reg.CAL_STATUS == 0x90000000) && leads (.sumDelayCalibration 2 0) s (fun t => t.light.req.isSome) &&
       leads (.lockThresholdCalibration 2 0) s (fun t => t.light.req.isSome) && leads (.sumDelayCalibration 2 0) r (fun t => t.reg Reg.CAL_STATUS == 0x04090000) &&
       leads (.calibrationMeasurementEnd ms) (meas .ready 0xA0000000 none) (fun t => t.light.first == some ms) &&
       (meas .ready 0xB0000000 (some ms)).measAgree ms ms && !((meas .ready 0xB0000000 (some ms)).measAgree ms { ms with levels := 63 }) &&
       decide (fld (s.reg Reg.CAL_TOL) 7 0 ≤ ms.serExp) && decide (({ ms with serExp := 0 } : LaneMeas).serExp < fld (s.reg Reg.CAL_TOL) 7 0) &&
       leads (.calibrationMeasurementEnd ms) (meas .ready 0xB0000000 (some ms)) (fun t => t.reg Reg.CAL_STATUS == 0x08000000) &&
       leads (.calibrationMeasurementEnd ms) (meas .running 0xB0000000 (some ms)) (fun t => t.light.result.isSome) &&
       leads (.calibrationMeasurementEnd ms) { meas .ready 0xB0000000 (some ms) with hearth := taken.hearth } (fun t => t.reg Reg.CAL_STATUS == 0x08000000) &&
       (overlap .ready false).measFed c 1 && leads (.calibrationMeasurementEnd ms) (overlap .ready false) (fun t => t.light.repeated) &&
       leads (.calibrationMeasurementEnd ms) (overlap .ready true) (fun t => t.reg Reg.CAL_STATUS == 0x04070000) &&
       leads (.calibrationMeasurementEnd ms) (overlap .running true) (fun t => t.light.result == some (7, ms))) = true := by decide +kernel

/-! ### Power, temperature, reset: hypotheses that can be met -/

/-- A housekeeping sample: every sensor at one temperature (1/8 °C). -/
def hk (c : Int) : HkSample :=
  { temps := List.replicate 626 c, inputCv := 4800, inputW := 0, domsW := List.replicate 80 0, railMv := List.replicate 80 0,
    railDa := List.replicate 80 0, fades := List.replicate 12 0 }

/-- No sensor has been read yet. -/
theorem sensors_unread : (List.range 612).all (fun n => (hosted .running (sess 1)).reg (Reg.THM_SENSOR n) == 0) = true := by decide +kernel

/-- HousekeepingRounds: in every state of the module, a sample at any temperature that a sensor can show is a quiet one. -/
theorem wit_HousekeepingRounds (m : ModState) (c : Int) (h : -320 ≤ c ∧ c ≤ 1600) :
    let s := hosted m (sess 1)
    s.boot.input = true ∧ s.thermal.heldReset = false ∧ (∀ f ∈ (hk c).fades, (-10 : Int) * fld (s.reg Reg.BLW_THRESH) 7 0 < f ∧ -300 < f) ∧
      (hk c).temps.length = 626 ∧
      (∀ n < 626, (hk c).temps.getD n 0 = c ∧ -320 ≤ (hk c).temps.getD n 0 ∧ (hk c).temps.getD n 0 ≤ 1600) ∧
      ∀ n < 612, flag (s.reg (Reg.THM_SENSOR n)) 7 = false ∧ s.used n = 0 ∧ s.thermal.suspectRun.get 0 n < 2 := by
  refine ⟨rfl, rfl, ?_, List.length_replicate, fun n k => ?_, fun n k => ?_⟩
  · intro f hf
    rw [List.eq_of_mem_replicate hf, show (hosted m (sess 1)).reg Reg.BLW_THRESH = (hosted .running (sess 1)).reg Reg.BLW_THRESH from rfl]
    decide +kernel
  · have e : (hk c).temps.getD n 0 = c := by
      show (List.replicate 626 c).getD n 0 = c
      rw [List.getD_eq_getElem?_getD, List.getElem?_replicate, if_pos k, Option.getD_some]
    exact ⟨e, by rw [e]; exact h.1, by rw [e]; exact h.2⟩
  · have e : (hosted m (sess 1)).reg (Reg.THM_SENSOR n) = 0 := by
      have a := List.all_eq_true.mp sensors_unread n (List.mem_range.mpr k)
      exact (beq_iff_eq.mp a : (hosted .running (sess 1)).reg (Reg.THM_SENSOR n) = 0)
    refine ⟨by rw [e]; decide, by unfold State.used; rw [e]; decide, ?_⟩
    show SMap.get 0 ([] : SMap Nat) n < 2
    simp [SMap.get]

/-- HousekeepingRounds: the states of its clauses: live or not, sampled or not, the bucket at its limit and empty, no stage held; fades at the start level. -/
theorem wit_HousekeepingRounds_states :
    (let s := hosted .running (sess 1)
     let low : State := { s with thermal := { s.thermal with bucket := 0 } }
     let drain : HkSample := { hk 0 with inputW := 8001, domsW := 1 :: List.replicate 79 0 }
     let fade : HkSample := { hk 0 with fades := (List.replicate 12 0).set 10 (-150) }
     let f : State := { withRegs s [(Reg.BLW_COMB 10, 0x70000000), (Reg.BLW_CTRL, 1)] with light := { LightState.reset with fadeRun := [(10, 1)] } }
     s.mode != .tripped && s.mode != .off && s.mode != .banked && !s.thermal.sampled && (neighbours 0).contains 1 && (neighbours 611).contains 610 &&
       !(flag (s.reg Reg.THM_STATUS) 6) && (List.range 17).all (fun k => s.thermal.rate1.get 0 k == 0 && s.thermal.rate2.get 0 k == 0) &&
       (scopeSensors 15).contains 415 && fld (s.reg Reg.PWR_BUDGET) 13 0 == 8000 && s.thermal.bucket == 4000000 && !s.capped &&
       decide ((0 : Int) < min 4000000 ((s.thermal.bucket : Int) + 8000 - (hk 0).inputW)) && (drain.domsW.take 48).sum == 1 &&
       decide (fld (s.reg Reg.PWR_BUDGET) 13 0 < drain.inputW) &&
       decide (min 4000000 ((low.thermal.bucket : Int) + 8000 - drain.inputW) ≤ 0) && fade.fades.length == 12 && fade.fades.getD 10 0 == -150 && f.comb 10 == 3 &&
       f.light.fadeRun.get 0 10 == 1 && flag (f.reg Reg.BLW_CTRL) 0 && f.spareState 1 == 0 && fld (f.reg Reg.BLW_THRESH) 7 0 == 15 &&
       (List.range 12).all (fun j => j == 10 || decide (-150 < fade.fades.getD j 0))) = true := by decide +kernel

/-- PowerEvents: a stage of the last die; Tripped at 70 °C and below, in Class L and S, at the second before the restart; wear below its cap; entry to Banked. -/
theorem wit_PowerEvents :
    (let st : State := { hosted .ready (sess 1) with thermal := { ThermalState.reset with decided := [(15, 11)] } }
     let tr := fun (temp trip ctrl : Word) => withRegs (hosted .tripped (sess 1)) [(Reg.THM_STATUS, temp), (Reg.THM_TRIP, trip), (Reg.THM_CTRL, ctrl)]
     let b : State := { hosted .loaded (sess 1) with boot := { (hosted .loaded (sess 1)).boot with bankedFrom := some .loaded } }
     st.thermal.decided.get 0 15 == 11 && leads (.damperStageChange 15) st (fun t => fld (t.reg (Reg.THM_DAMP 15)) 31 28 == 11) &&
       (tr 0x22F00000 29 0).tmax == 559 && (tr 0x23000000 29 0).tmax == 560 && (tr 0x22F00000 0xFFFF 1).classL && !(tr 0x22F00000 29 0).classL &&
       leads .coolSecond (tr 0x22F00000 28 0) (fun t => t.mode == .tripped) && leads .coolSecond (tr 0x22F00000 29 0) (fun t => t.mode == .optionLoad) &&
       leads .coolSecond (tr 0x22F00000 0xFFFF 1) (fun t => fld (t.reg Reg.THM_TRIP) 15 0 == 0xFFFF) && !(st.capped) &&
       leads .wearSecond { st.setReg Reg.PWR_WEAR_PEAK 4320 with thermal := { st.thermal with peakRounds := 4000 } }
         (fun t => (t.reg Reg.PWR_WEAR_PEAK).toNat == 4321 && flag (t.reg Reg.PWR_EVENTS) 3 && t.thermal.peakRounds == 0) &&
       leads .wearSecond { st with thermal := { st.thermal with peakRounds := 3999 } } (fun t => t.reg Reg.PWR_WEAR_PEAK == 0 && t.reg Reg.PWR_WEAR_ON == 1) &&
       b.boot.bankedFrom == some b.mode && !(b.dieFenced 0)) = true := by decide +kernel

/-- Resets: each source and scope in a state it is legal in. -/
theorem wit_Resets :
    (let s := fun (m : ModState) (l : List (Nat × Nat)) => ({ hosted m (sess 1) with boot := { (hosted m (sess 1)).boot with asked := l } } : State)
     let b := fun (scope step : Nat) => ({ hosted .boot (sess 1) with boot := { (hosted .boot (sess 1)).boot with active := true, scope := scope, step := step } } : State)
     let r := s .running [(0, 0), (1, 0), (2, 35)]
     let w : State := { r with boot := { r.boot with waiting := [95, 63] } }
     let also : List Firing := [⟨3, true, 0⟩, ⟨1, false, 95⟩, ⟨2, true, 7⟩]
     r.boot.input && r.mode != .off && r.boot.revert == none && r.boot.asked.contains (0, 0) && r.boot.asked.contains (1, 0) && r.boot.asked.contains (2, 35) &&
       !r.boot.active && (b 1 4).boot.active && (b 1 4).boot.scope != 0 && (b 0 1).boot.scope == 0 &&
       leads (.coldReset 6 9 also) r (fun t => t.reg Reg.RST_LAST == 0x20000007 && fld (t.reg (Reg.RST_COUNT 0)) 31 16 == 1 && t.reg Reg.RST_TOTAL == 1) &&
       w.boot.waiting.contains 63 && leads (.dieReset 31 1 63 []) w (fun t => t == w) && leads (.warmReset 1 63 []) w (fun t => t == w) &&
       leads (.dieReset 31 1 62 []) w (fun t => t.boot.units.contains 31) && leads (.warmReset 7 0 []) (b 0 4) (fun t => t.mode == .optionLoad && t.boot.step == 1) &&
       leads (.dieReset 35 4 0 []) { (b 1 8) with boot := { (b 1 8).boot with asked := [(2, 35)] } } (fun t => t.boot.units == [] && t.boot.step == 4) &&
       leads .jobReset (s .faulted [(3, 0)]) (fun t => t.mode == .ready && t.reg Reg.RST_LAST == 0x4C000000) && (s .faulted [(3, 0)]).boot.asked.contains (3, 0) && SMap.sorted (s .faulted [(3, 0)]).regs) = true := by decide +kernel

/-- Release: the steps' ends; step 3 with an empty flash; units under reset; limits, watchdogs and brown-outs. -/
theorem wit_Release :
    (let a := fun (scope step : Nat) => ({ hosted .boot (sess 1) with
       boot := { (hosted .boot (sess 1)).boot with active := true, scope := scope, step := step, loaded := true, checked := true } } : State)
     let u : State := { hosted .ready (sess 1) with boot := { (hosted .ready (sess 1)).boot with units := [31, 16] } }
     let off := hosted .running (sess 1)
     let d := (hosted .draining (sess 1))
     let b := (hosted .ready (sess 1)).setReg Reg.TCK_STOKER 0xA0000000
     let c := fun (m : ModState) => (hosted m (sess 1))
     (a 0 3).boot.active && !((a 0 3).eligible false) && !((a 0 3).eligible true) && (a 1 4).boot.checked && !(a 0 8).boot.held && decide ((a 0 1).boot.scope ≤ 1) &&
       (a 0 8).setInUse == some false && !u.boot.active && u.boot.units == [31, 16] && decide (4 ≤ (a 0 8).boot.step) && (a 0 8).mode == .boot && (a 0 8).boot.revert == none &&
       (c .ready).stokerRuns && !(flag ((c .ready).reg Reg.TCK_STOKER) 31) && (c .ready).domain 79 == 1 && b.stokerRuns && flag (b.reg Reg.TCK_STOKER) 31 &&
       (c .ready).domain 63 == 1 && !(c .ready).ticking && d.domain 63 == 1 && off.ticking && off.domain 77 == 1 && (c .ready).domain 77 == 1 && (c .ready).domain 78 == 1 &&
       leads (.brownOut 63) (c .ready) (fun t => t.boot.units.contains 31) && leads (.brownOut 63) d (fun t => t.domain 63 == 3) &&
       leads (.bootLimitExpiry [⟨6, true, 0⟩]) (a 0 4) (fun t => t.reg Reg.RST_LAST == 0x30000000) &&
       leads (.brownOut 77) off (fun t => t.mode == .faulted)) = true := by decide +kernel

/-- Release, steps 3 and 4: both regions hold a set that may be chosen, with and without a pin. -/
theorem wit_Release_sets (pin : Bool) (four : Bool) (r : Bool) :
    let s : State := { hosted .boot (sess 1) with boot := { bootSets 1 2 with active := true, step := if four then 4 else 3, loaded := four } }
    let s := s.setReg Reg.CFG_SELECT (if pin then 0xC0000000 else 0)
    s.boot.active = true ∧ s.boot.scope = 0 ∧ s.boot.step = (if four then 4 else 3) ∧ s.boot.checked = false ∧ s.eligible r = true ∧
      flag (s.reg Reg.CFG_SELECT) 31 = pin ∧ flag (s.reg Reg.CFG_SELECT) 30 = pin ∧ (four = true → s.setInUse = some false) := by
  refine ⟨rfl, rfl, rfl, rfl, ?_, ?_, ?_, ?_⟩
  · unfold State.eligible
    rw [sets_valid _ rfl rfl]
    cases pin <;> cases four <;> cases r <;> decide +kernel
  · cases pin <;> cases four <;> decide +kernel
  · cases pin <;> cases four <;> decide +kernel
  · rintro rfl
    cases pin <;> decide +kernel

/-- Release, step 4: a set verifies under the vendor root where its signature does, and under no root after a self-test failure (R433, R438). -/
theorem wit_Release_roots (r : Bool) :
    (let s := (hosted .boot (sess 1)).setReg Reg.GLV_STATUS 0x40000000
     s.setRoot r = none) ∧
    (let s := hosted .boot (sess 1)
     (∀ w < 8, s.reg (Reg.GLV_MEAS w) = 0) ∧ (Config.slhVerify Config.vendorRoot (s.boot.signed r) (s.boot.signature r) = true → s.setRoot r = some 0)) := by
  refine ⟨by cases r <;> decide +kernel, by decide +kernel, fun h => ?_⟩
  unfold State.setRoot
  rw [show flag ((hosted .boot (sess 1)).reg Reg.GLV_STATUS) 30 = false by decide +kernel]
  simp only [Bool.false_eq_true, if_false, h, if_true]

/-! ### Flash, the Glovebox, the slot and the control space: hypotheses that can be met -/

/-- The module Ready with writes to region B enabled and selected. -/
def flashing : State :=
  let s := withRegs (hosted .ready (sess 1)) [(Reg.CFG_CTRL, 1), (Reg.CFG_FLASH_ADDR, 0x81FFFFFC)]
  { s with boot := { s.boot with loaded := true } }

/-- ConfigurationFlash: region B may be changed while A is in use, up to its last word; a command in progress; region A in use is refused; checks end. -/
theorem wit_ConfigurationFlash :
    (let s := flashing
     let a := s.setReg Reg.CFG_FLASH_ADDR 0
     let cmd := fun (n : Nat) => ({ s with boot := { s.boot with cmd := some (n, true) } } : State)
     (2 : Byte).toNat == s.stokerId && s.boot.input && flag (s.reg Reg.CFG_CTRL) 0 && flag (s.reg Reg.CFG_FLASH_ADDR) 31 && s.setInUse == some false &&
       s.boot.cmd == none && !(flag (s.reg Reg.CFG_CMD_STATUS) 31) && leads (.eraseRegion 2) s (fun t => t.reg Reg.CFG_CMD_STATUS == 0x80000000) &&
       leads (.checkRegion 2) (cmd 0) (fun t => t.boot.cmd == some (0, true)) && !(flag (a.reg Reg.CFG_FLASH_ADDR) 31) && a.setInUse == some false &&
       leads (.cfgFlashDataWrite 2 0x11223344) s (fun t => t.boot.byte 0x3FFFFFF == 0x11 && fld (t.reg Reg.CFG_FLASH_ADDR) 24 0 == 0) &&
       leads (.cfgCmdEnd true) (cmd 0) (fun t => t.reg Reg.CFG_CMD_STATUS == 0x40000000) && !((cmd 1).boot.headerOk true) &&
       leads (.cfgCmdEnd true) (cmd 1) (fun t => t.reg Reg.CFG_CMD_STATUS == 0x10040000)) = true := by decide +kernel

/-- ConfigurationFlash: a header without its option block. -/
theorem wit_ConfigurationFlash_header :
    (let x : BootState := { BootState.reset with flash := run_ 0x2000000 (setByte 1) 128 }
     x.headerOk true && !(x.blockOk true)) = true := by decide +kernel

/-- ConfigurationFlash: regions that hold a set, and its verification under the vendor root, or not after a self-test failure. -/
theorem wit_ConfigurationFlash_sets (fail : Bool) :
    let s : State := { hosted .ready (sess 1) with boot := { bootSets 1 2 with cmd := some (1, true) } }
    let s := s.setReg Reg.GLV_STATUS (if fail then 0x40000000 else 0)
    s.boot.valid true = true ∧ s.boot.cmd = some (1, true) ∧ (fail = true → s.setRoot true = none) ∧
      (fail = false → Config.slhVerify Config.vendorRoot (s.boot.signed true) (s.boot.signature true) = true → s.setRoot true ≠ none) := by
  refine ⟨sets_valid _ rfl rfl true, rfl, ?_, ?_⟩
  · rintro rfl
    rfl
  · rintro rfl h
    unfold State.setRoot
    simp only [h]
    decide

/-- Byte `i` of an owner-root record for the last slot: an install, or with `revoke`, a revocation, whose key is `key`. -/
def recByte (revoke : Bool) (bad : Bool) (id : List Byte) (i : Nat) : Byte :=
  if i < 8 then ([0x45, 0x4D, 0x4F, 0x52, 0x10, if revoke then 1 else 0, 3, if bad then 1 else 0] : List Byte).getD i 0
  else if i < 40 then id.getD (i - 8) 0 else if i < 72 then (if revoke then 0 else 0xFF) else 0

/-- The module Ready before a record is written. -/
def unrecorded (roots : Word) : State := (hosted .ready (sess 1)).setReg Reg.GLV_ROOTS roots
/-- A stack that holds a record at the start of its staging range. -/
def recStack (bad : Bool) (id : List Byte) : MemStack := { MemStack.reset with dram := run_ 0xB00000000 (recByte false bad id) 80 }
/-- The module with a record of its own identity in the staging range, the action in progress. -/
def recorded (bad : Bool) (roots : Word) : State :=
  { unrecorded roots with glove := { GloveState.reset with cmd := some 1 }, stackMem := [(0, recStack bad (unrecorded roots).identityBytes)] }

/-- A byte of the record. -/
theorem recStack_byte (bad : Bool) (id : List Byte) (i : Nat) (k : i < 80) : (recStack bad id).byte (0xB00000000 + i) = recByte false bad id i := by
  have g := get_run 0 0xB00000000 (recByte false bad id) 80 i k []
  rw [List.append_nil] at g
  exact g

/-- The stack that holds the record. -/
theorem recorded_stack (bad : Bool) (roots : Word) : (recorded bad roots).stack 0 = recStack bad (unrecorded roots).identityBytes := by
  unfold State.stack recorded
  rw [SMap.get_cons, if_pos rfl]

/-- The record's bytes. -/
theorem recorded_stage (bad : Bool) (roots : Word) :
    (recorded bad roots).stage 0 80 = (List.range 80).map (recByte false bad (unrecorded roots).identityBytes) := by
  unfold State.stage
  refine List.map_congr_left (fun i hi => ?_)
  have k := List.mem_range.mp hi
  unfold State.stageByte
  rw [Nat.zero_add, Nat.div_eq_of_lt (by omega), Nat.mod_eq_of_lt (by omega), recorded_stack, recStack_byte bad _ i k]

/-- The identity that the record names is the module's. -/
theorem recorded_identity (bad : Bool) (roots : Word) : (recorded bad roots).identityBytes = (unrecorded roots).identityBytes := by
  unfold State.identityBytes State.identity State.reg recorded
  rfl

/-- Little-endian bytes are as many as asked for. -/
theorem leBytes_length (n v : Nat) : (leBytes n v).length = n := by
  induction n generalizing v with
  | zero => rfl
  | succ n ih => rw [leBytes, List.length_cons, ih]

/-- Glovebox: an install record for the last slot, good where its signature verifies; one with a reserved byte set; a slot already programmed. -/
theorem wit_Glovebox_record :
    recordOk ((recorded false 0).stage 0 80) = true ∧ recordOk ((recorded true 0).stage 0 80) = false ∧
      (((recorded false 0).stage 0 80).drop 8).take 32 = (recorded false 0).identityBytes ∧
      ((recorded false 0).stage 0 80).getD 5 0 = 0 ∧ ((recorded false 0).stage 0 80).getD 6 0 = 3 ∧
      flag ((recorded false 0).reg Reg.GLV_ROOTS) 31 = false ∧ flag ((recorded false 0x80000000).reg Reg.GLV_ROOTS) 31 = true ∧
      (∀ g, Config.slhVerify Config.vendorRoot ((recorded false 0).stage 0 80) g = true →
        (recorded false 0).recordVerifies ((recorded false 0).stage 0 80) g = true) ∧
      (∀ g, ((recorded false 0).setReg Reg.GLV_STATUS 0x40000000).recordVerifies ((recorded false 0).stage 0 80) g = false) := by
  rw [recorded_stage, recorded_stage, recorded_identity]
  refine ⟨by decide +kernel, by decide +kernel, ?_, by decide +kernel, by decide +kernel, by decide +kernel, by decide +kernel, fun g h => ?_, fun g => ?_⟩
  · rw [← List.map_drop, ← List.map_take]
    generalize e : (unrecorded 0).identityBytes = id
    have l : id.length = 32 := by rw [← e]; exact leBytes_length _ _
    rw [show ((List.range 80).drop 8).take 32 = (List.range 32).map (fun i => i + 8) by decide, List.map_map]
    refine List.ext_getElem (by simp [l]) (fun i a b => ?_)
    have k : i < 32 := by rw [← l]; exact b
    simp only [List.getElem_map, List.getElem_range, Function.comp, recByte]
    rw [if_neg (by omega), if_pos (by omega), Nat.add_sub_cancel, List.getD_eq_getElem?_getD, List.getElem?_eq_getElem b, Option.getD_some]
  · unfold State.recordVerifies
    rw [show flag ((recorded false 0).reg Reg.GLV_STATUS) 30 = false by decide +kernel, show (recorded false 0).activeRoot = none by decide +kernel, h]
    exact (by decide +kernel : (((List.range 80).map (recByte false false (unrecorded 0).identityBytes)).getD 5 0 == 0 && true) = true)
  · rfl

/-- Glovebox: the actions in the states that take them, their ends, tampering with and without the input, quotes with and without a key. -/
theorem wit_Glovebox :
    (let s := fun (m : ModState) => hosted m (sess 1)
     let c := fun (n : Nat) => ({ s .ready with glove := { GloveState.reset with cmd := some n } } : State)
     let q : State := { s .ready with glove := { GloveState.reset with quotes := List.replicate 8 (req, 0) } }
     let dark : State := { s .off with boot := { BootState.reset with vbak := true } }
     (2 : Byte).toNat == (s .ready).stokerId && (s .ready).boot.input && (s .ready).glove.cmd == none && (s .faulted).served &&
       leads (.selfTests 2) (s .faulted) (fun t => t.glove.cmd == some 0) && leads (.ownerRootRecord 2) (s .ready) (fun t => t.glove.cmd == some 1) &&
       leads (.ownerRootRecord 2) (s .running) (fun t => t.reg Reg.GLV_CMD_STATUS == 0x20020000) && leads (.extendM3 2) (s .ready) (fun t => t.glove.cmd == some 3) &&
       leads (.glvExtDataWrite 2 7 5) (s .ready) (fun t => t.reg (Reg.GLV_EXT_DATA 7) == 5) &&
       leads (.glvExtDataWrite 4 7 5) (s .ready) (fun t => t.reg (Reg.GLV_EXT_DATA 7) == 0) && leads (.glvCmdEnd false) (c 0) (fun t => flag (t.reg Reg.GLV_STATUS) 30) &&
       (c 3).glove.cmd == some 3 && (s .ready).mode != .off && (s .ready).boot.revert == none && !dark.boot.input && dark.boot.vbak &&
       leads (.tamper 5) dark (fun t => flag (t.reg Reg.GLV_TAMPER) 27) && leads .entropyHealthFail (s .running) (fun t => flag (t.reg Reg.GLV_STATUS) 30) &&
       q.glove.quotes.length == 8 && (q.sessionOf req).isSome && fld (q.reg Reg.GLV_STATUS) 30 29 == 0 &&
       leads .quoteSigned (q.setReg Reg.GLV_STATUS 0x40000000) (fun t => t.glove.quotes.length == 7 && flag (t.reg Reg.GLV_EVENTS) 0)) = true := by decide +kernel

/-- SlotEvents: Off with and without VBAK, the input present, a hot Class L trip and a Class S one, a cage, a port down, up and refused. -/
theorem wit_SlotEvents :
    (let s := hosted .running (sess 1)
     let off := fun (v seen : Bool) => ({ s with mode := .off, boot := { BootState.reset with vbak := v, vbakSeen := seen } } : State)
     let hot := withRegs (hosted .tripped (sess 1)) [(Reg.THM_CTRL, 1), (Reg.THM_SENSOR 611, 0x23000000)]
     let cold := hosted .tripped (sess 1)
     leads .inputQualified (off true true) (fun t => t.mode == .optionLoad) && leads .inputQualified (off false false) (fun t => t.boot.input && t.mode == .off) &&
       s.boot.input && leads .inputLost s (fun t => t.mode == .off) && leads .vbakApplied (off false false) (fun t => t.boot.vbak) && (off false true).boot.vbakSeen &&
       s.mode != .off && s.mode != .tripped && hot.classL && !cold.classL && hot.mode == .tripped && hot.used 611 == 560 &&
       leads (.modResetN true) hot (fun t => t.thermal.heldReset) && (s.boot.vbak || s.boot.input) && leads (.i2cRead 2) s (fun t => t.out.length == 2) &&
       leads (.i2cOffsetWrite 0xFF) s (fun t => t.host.i2c == 63) && s.caged 1 && leads (.opticOverpower 1) s (fun t => t.host.opticOff.get false 1) &&
       fld (s.reg (Reg.HST_LINK 1)) 31 30 != 0 && leads (.hostLinkDown 1) s (fun t => fld (t.reg (Reg.HST_LINK 1)) 31 30 == 0) &&
       flag (s.reg (Reg.HST_CTRL 1)) 0 && leads (.hostLinkUp 1) s (fun t => flag (t.reg (Reg.HST_LINK 1)) 29)) = true := by decide +kernel

/-! ### The control space and the commands with rules of their own: hypotheses that can be met -/

/-- An access of the Stoker in control. -/
def acc (a : Nat) : Access := ⟨2, BitVec.ofNat 40 a, 4⟩
/-- Whether an access names a listed register whose block takes it (the premises of ControlSpace), with a fact about its row. -/
def listed (s : State) (a : Access) (w : Word) (high : Bool) (p : Block → Nat → RegRow → Bool) : Bool :=
  match blockOf a.addr.toNat with
  | some (b, off) =>
    a.size == 4 && a.addr.toNat % 4 == 0 && mbxAt b off == none && s.boot.input && s.mayWrite a.master.toNat b off w && s.unitUp b && !(notThere b off) &&
      (match findRow (blockRows b) off with
      | some (r, _, hi) => hi == high && p b off r
      | none => false) && (match tblRegs b with
      | some q => a.addr.toNat != q.2 && a.addr.toNat != q.2 + 4
      | none => true)
  | none => false

/-- ControlSpace: registers of each access code at the last stack, locked and not; both halves of a critical pair with each outcome; each bus error; the table
words of the Hearth; the times; a pending value, a sweep and an access without an answer. -/
theorem wit_ControlSpace :
    (let s := hosted .ready (sess 1)
     let ctrl := acc (Reg.MEM_CTRL 15)
     let lock := s.setReg (Reg.MEM_CTRL 15) 0x80000014
     let tol := acc Reg.TCK_EPOCH
     let high := acc (Reg.TCK_EPOCH + 4)
     let p : RwcPending := ⟨Reg.TCK_EPOCH, 7, 2⟩
     let pend : State := { s with rwc := [p] }
     let other : State := { s with rwc := [{ p with master := 3 }] }
     let tb : State := { s.setReg Reg.HRT_TBL_ADDR 0xA3500003 with tblMaster := [(Reg.HRT_TBL_ADDR, 2)] }
     listed s ctrl 0x114 false (fun b off r => r.rwc == 0 && r.rwl != 0 && !(s.locked b) && !(s.ownRule b off 0x114 (r.next (s.reg (Reg.MEM_CTRL 15)) 0x114)) &&
         b == .mem 15 && lockReg b == some (Reg.MEM_CTRL 15)) &&
       leads (.registerWrite ctrl 0x114) s (fun t => t.reg (Reg.MEM_CTRL 15) == 0x114) &&
       listed s ctrl 0x80000114 false (fun b off r => r.rwc == 0 && !(s.ownRule b off 0x80000114 (r.next (s.reg (Reg.MEM_CTRL 15)) 0x80000114))) &&
       leads (.lockWrite ctrl 0x80000114) s (fun t => t.locked (.mem 15)) && listed lock ctrl 0x114 false (fun b _ r => r.rwl != 0 && r.rwc == 0 && lock.locked b) &&
       leads (.registerWrite ctrl 0x114) lock (fun t => t.reg Reg.CAP_ERR_INFO == 0x02058000) && flag (lock.reg (Reg.MEM_CTRL 15)) 31 &&
       listed s tol 7 false (fun _ _ r => r.rwc != 0) && leads (.rwcLowWrite tol 7) s (fun t => t.rwc == [p]) &&
       listed pend high 0xFFFFFFF8 true (fun b off r => r.rwc != 0 && !(shadowedReg b (off - 4))) && Reg.TCK_EPOCH != Reg.HRT_BAY_MAP_1 &&
       leads (.rwcHighWrite high 0xFFFFFFF8) pend (fun t => t.reg Reg.TCK_EPOCH == 7 && t.rwc == []) &&
       leads (.rwcHighWrite high 0) pend (fun t => t.reg Reg.CAP_ERR_INFO == 0x02068000) &&
       leads (.rwcHighWrite high 0) other (fun t => t.reg Reg.CAP_ERR_INFO == 0x02078000) &&
       leads (.rwcPendingExpiry (BitVec.ofNat 40 Reg.TCK_EPOCH)) pend (fun t => t.rwc == [] && flag (t.reg Reg.CAP_EVENTS) 1) &&
       (acc 2).addr.toNat % 4 != 0 && (blockOf 0xFFFFFFFFFC == none) && (mbxAt (.mem 15) 0 == none) && !(s.mayWrite 0x33 (.emb) 0 0) &&
       !((s.setReg (Reg.PWR_DOM 3) 0).unitUp (.mem 15)) && s.mayWrite 2 (.mem 15) 0 0 && s.unitUp (tblBlock .hearth) &&
       (tblRegs (tblBlock .hearth) == some (Reg.HRT_TBL_ADDR, Reg.HRT_TBL_DATA)) &&
       leads (.tblAddrWrite 2 .hearth 0xA3500003) s (fun t => t.tblMaster.get 0 Reg.HRT_TBL_ADDR == 2) && (tb.tblMaster.get 0 Reg.HRT_TBL_ADDR == 2) &&
       (match tblPlace (tblBlock .hearth) (tb.reg Reg.HRT_TBL_ADDR) with
       | some q => tb.portPowered q
       | none => false) && leads (.tblDataRead 2 .hearth false) tb (fun t => t.reg Reg.HRT_TBL_ADDR == 0xA3500004) &&
       s.tblMaster.get 0 Reg.HRT_TBL_ADDR != 2 && (acc (Reg.TCK_DIE_TIME_LO 36)).addr.toNat == Reg.TCK_DIE_TIME_LO 36 &&
       leads (.timeLoRead (acc (Reg.TCK_DIE_TIME_LO 36))) s (fun t => t.out.length == 1) && (s.ctlWrite 2 (Reg.MEM_CTRL 15) 4 0x114).1 &&
       leads (.controlAccessTimeout ctrl (some 0x114) true) s (fun t => t.reg (Reg.MEM_CTRL 15) == 0x114 && flag (t.reg Reg.CAP_EVENTS) 0) && !s.boot.active &&
       s.pairAt Reg.TCK_CTRL Reg.TCK_EPOCH) = true := by decide +kernel

/-- ControlSpace: a register written by W1C bits, of a quiet block, and one of the identity that no master but the Stoker may write. -/
theorem wit_ControlSpace_w1c :
    (let s := (hosted .ready (sess 1)).setReg Reg.THM_EVENTS 0xFF
     listed s (acc Reg.THM_EVENTS) 1 false (fun b off r => r.rwc == 0 && r.rwl == 0 && r.w1c != 0 && !(s.ownRule b off 1 (r.next (s.reg Reg.THM_EVENTS) 1)) && b == .thm) &&
       leads (.registerWrite (acc Reg.THM_EVENTS) 1) s (fun t => t.reg Reg.THM_EVENTS == 0xFE)) = true := by decide +kernel

/-- CommandRegisters: each register with a rule of its own, idle and ticking, at the limits of its value. -/
theorem wit_CommandRegisters :
    (let s := hosted .ready (sess 1)
     let r := hosted .running (sess 1)
     let off := s.setReg (Reg.FAB_COORD 3) 1
     (2 : Byte).toNat == s.stokerId && s.boot.input && !s.ticking && r.ticking && (acc Reg.TCK_TIME_STEP_HI).addr.toNat == Reg.TCK_TIME_STEP_HI &&
       leads (.timeStep (acc Reg.TCK_TIME_STEP_HI) 0xFFFFFFFF) (s.setReg Reg.TCK_TIME_STEP_LO 0xFFFFFFFF) (fun t => t.clock.get 0 36 == 2 ^ 80 - 65536) &&
       leads (.timeStep (acc Reg.TCK_TIME_STEP_HI) 0) r (fun t => t.out.length == 1) && s.resetLegal 2 && !(s.resetLegal 3) &&
       leads (.rstReqWrite (acc Reg.RST_REQ) 0x8A300000) s (fun t => t.boot.asked == [(2, 35)]) &&
       leads (.rstReqWrite (acc Reg.RST_REQ) 0x8C000000) s (fun t => t.boot.asked == []) && !(s.locked .tck) &&
       leads (.tckSrcWrite 2 0x2000A) s (fun t => t.source == 2) && leads (.tckSrcWrite 2 0x2000A) r (fun t => t.source == 0) &&
       leads (.tckPeriodWrite 2 500) s (fun t => t.reg Reg.TCK_BUDGET == 768000) && leads (.tckPeriodWrite 2 1000000) s (fun t => t.reg Reg.TCK_PERIOD == 1000000) &&
       leads (.tckPeriodWrite 2 499) s (fun t => t.reg Reg.TCK_PERIOD == 0) && !(s.budgetRefused 2000) && !(s.budgetRefused 8000) &&
       leads (.pwrBudgetWrite 2 2000) s (fun t => t.reg Reg.PWR_BUDGET == 2000) && leads (.pwrBudgetWrite 2 1999) s (fun t => t.reg Reg.PWR_BUDGET == 8000) &&
       s.unitUp (.io 3) && s.unitUp (.io 2) && s.fabricAgrees && !off.fabricAgrees && off.unitUp (.io 3) && leads (.fabLockWrite 2 1 0x80000001) s (fun t => flag (t.reg (Reg.FAB_CTRL 3)) 31) &&
       s.unitUp (.io (fabIo 5)) && leads (.portRetrain 2 5 0) s (fun t => fld (t.reg (portStatus 5)) 31 29 == 0) && (linked 2 FabPort.reset).linkUp 5 &&
       flag ((linked 2 FabPort.reset).reg (Reg.FAB_CTRL 3)) 31 && fld ((linked 0 FabPort.reset).reg (portStatus 5)) 31 29 == 0 && s.unitUp (.die 15) && r.unitUp (.die 15) &&
       leads (.mshShadowReady 2 15 1) r (fun t => flag (t.reg (Reg.MSH_SHADOW 15)) 0) && bayMapOk s.shadow && bayMapOk r.shadow &&
       !(bayMapOk (s.setShadow Reg.HRT_BAY_MAP_0 0).shadow) && leads (.hrtShadowReady 2 1) r (fun t => flag (t.reg Reg.HRT_SHADOW) 0)) = true := by decide +kernel

/-- Words at keys in a row. -/
def runWords (key : Nat → Nat) (f : Nat → Word) (n : Nat) : SMap Word := (List.range n).map (fun i => (key i, f i))

/-- A lookup within a row of words whose keys differ. -/
theorem get_runWords (d : Word) (key : Nat → Nat) (inj : ∀ i j, key i = key j → i = j) (f : Nat → Word) (n k : Nat) (h : k < n) (r : SMap Word) :
    SMap.get d (runWords key f n ++ r) (key k) = f k := by
  induction n generalizing r with
  | zero => exact absurd h (Nat.not_lt_zero _)
  | succ n ih =>
    have e : runWords key f (n + 1) ++ r = runWords key f n ++ ((key n, f n) :: r) := by simp [runWords, List.range_succ]
    rw [e]
    by_cases c : k = n
    · subst c
      clear e
      have past : ∀ (l : SMap Word), (∀ x ∈ l, x.1 ≠ key k) → SMap.get d (l ++ ((key k, f k) :: r)) (key k) = f k := by
        intro l
        induction l with
        | nil => intro _; rw [List.nil_append, SMap.get_cons, if_pos rfl]
        | cons x l q =>
          intro hx
          rw [List.cons_append, SMap.get_cons, if_neg (hx x (List.mem_cons_self ..))]
          exact q (fun y hy => hx y (List.mem_cons_of_mem _ hy))
      refine past _ (fun y hy => ?_)
      simp only [runWords, List.mem_map, List.mem_range] at hy
      obtain ⟨i, hi, rfl⟩ := hy
      intro w
      have := inj _ _ w
      omega
    · exact ih (by omega) _

/-- The module with its last die's shadow row maps at R127's values after reset: columns 0 to 23 and 25 to 48, and no fence. -/
def mapped : State :=
  let w : Nat → Word := fun i => BitVec.ofNat 32 (((List.range 4).map (fun j => (if i % 16 < 6 then 4 * (i % 16) + j else 4 * (i % 16) + j + 1) * 2 ^ (8 * j))).sum)
  { hosted .ready (sess 1) with
    shadowRegs := runWords (fun i => Reg.MSH_ROW_MAP 15 0 0 + 8 * i) w 1024 ++ runWords (fun i => Reg.TIL_FENCE 15 i) (fun _ => 0) 64 }

/-- CommandRegisters: shadow row maps that may be adopted. -/
theorem wit_CommandRegisters_maps : mapped.shadowMapsOk 15 = true := by
  have m : ∀ r w, r < 64 → w < 12 → mapped.shadow (Reg.MSH_ROW_MAP 15 r w) =
      BitVec.ofNat 32 (((List.range 4).map (fun j => (if w < 6 then 4 * w + j else 4 * w + j + 1) * 2 ^ (8 * j))).sum) := by
    intro r w hr hw
    have k : Reg.MSH_ROW_MAP 15 r w = Reg.MSH_ROW_MAP 15 0 0 + 8 * (16 * r + w) := by simp only [Reg.MSH_ROW_MAP]; omega
    unfold State.shadow
    rw [k]
    show SMap.get _ (runWords _ _ 1024 ++ _) ((fun i => Reg.MSH_ROW_MAP 15 0 0 + 8 * i) (16 * r + w)) = _
    rw [get_runWords _ _ (by intro i j h; omega) _ _ _ (by omega)]
    rw [show (16 * r + w) % 16 = w by omega]
  have z : ∀ r, r < 64 → mapped.shadow (Reg.TIL_FENCE 15 r) = 0 := by
    intro r hr
    unfold State.shadow
    show SMap.get _ (runWords _ _ 1024 ++ runWords (fun i => Reg.TIL_FENCE 15 i) (fun _ => 0) 64) (Reg.TIL_FENCE 15 r) = 0
    have past : ∀ (l q : SMap Word) (d : Word) (x : Nat), (∀ y ∈ l, y.1 ≠ x) → SMap.get d (l ++ q) x = SMap.get d q x := by
      intro l q d x
      induction l with
      | nil => intro _; rfl
      | cons y l ih =>
        intro hy
        rw [List.cons_append, SMap.get_cons, if_neg (hy y (List.mem_cons_self ..))]
        exact ih (fun u hu => hy u (List.mem_cons_of_mem _ hu))
    rw [past]
    · have e := get_runWords (regReset (Reg.TIL_FENCE 15 r)) (fun i => Reg.TIL_FENCE 15 i) (by intro i j h; simp only [Reg.TIL_FENCE] at h; omega)
        (fun _ => 0) 64 r hr []
      rw [List.append_nil] at e
      exact e
    · intro y hy
      simp only [runWords, List.mem_map, List.mem_range] at hy
      obtain ⟨i, hi, rfl⟩ := hy
      simp only [Reg.TIL_FENCE, Reg.MSH_ROW_MAP]
      omega
  unfold State.shadowMapsOk
  rw [List.all_eq_true]
  intro r hr
  have k := List.mem_range.mp hr
  have c : (List.range 48).map (rowMapIn mapped.shadow 15 r) = (List.range 48).map (fun l => if l < 24 then l else l + 1) := by
    refine List.map_congr_left (fun l hl => ?_)
    have b := List.mem_range.mp hl
    unfold rowMapIn
    rw [m r (l / 4) k (by omega)]
    revert l
    decide +kernel
  unfold rowMapValid
  simp only [c, z r k]
  decide +kernel

/-! ### The queue, and a step -/

/-- StepRunsCommand, QueueFirstInFirstOut, MemoriesStayCanonical: a queue of two commands of a store and a scrub; an empty queue with every clock counting. -/
theorem wit_StepRunsCommand :
    (let s := { run 0 [(4, 0x10000), (5, 7)] with pending := [.patrolScrub 0 0, .stb (iss 0) (ops 0 4 5 0)] }
     let e := hosted .ready (sess 1)
     s.memoriesWf && ((next? (step s)).map (fun t => t.pending == [.stb (iss 0) (ops 0 4 5 0)] && t.memoriesWf)).getD false &&
       (match next? (step e) with
       | some t => e.counts 36 && t.pending == [] && t.clock.get 0 36 == e.clock.get 0 36 + 40960 && e.slewRest.get 0 36 == 0 && e.slew.get 0 36 == 0
       | none => false)) = true := by decide +kernel

/-! ### Words of chapter 03's table of encoded words, and of the worked examples, one or more for each class -/

/-- ADDI s4, s4, 256; a word of zeros is ADD s0, s0, s0. -/
theorem word_scalar :
    decodeTileWord (iss 0) 0x0404100000000100 = some (.addi (iss 0) (ops 4 4 0 256)) ∧ decodeTileWord (iss 0) 0 = some (.add (iss 0) (ops 0 0 0 0)) := by decide

/-- MOP.MXF8 a1, (v0,v1), (v6,v7), v12 quarters 0, 3. -/
theorem word_matrix : decodeTileWord (iss 0) 0x40C10060000000CC = some (.mopMxf8 (iss 0) (ops 1 0 6 0xCC)) := by decide

/-- AT 4,018,512 and TICKEND. -/
theorem word_tick :
    decodeTileWord (iss 0) 0x80000000003D5150 = some (.stampAt (iss 0) (ops 0 0 0 4018512)) ∧
      decodeTileWord (iss 0) 0x8080000000000000 = some (.tickend (iss 0) (ops 0 0 0 0)) := by decide

/-- MSEND s9, s7, s8, unicast row 20 col 32 ctr 2; MWAIT of counter 2 and n = 1. -/
theorem word_mesh :
    decodeTileWord (iss 0) 0x50091C8014800002 = some (.msend (iss 0) (ops 9 7 8 0x14800002)) ∧
      decodeTileWord (iss 0) 0x5200000000010002 = some (.mwait (iss 0) (ops 0 0 0 0x10002)) := by decide

/-- (!p2) BR 0x0A0. -/
theorem word_control : decodeTileWord (iss 0) 0x2000000A000000A0 = some (.br (iss 0) { ops 0 0 0 0xA0 with pneg := true, pidx := 2 }) := by decide

/-- ESEND with stream 0x21 and group 2 (chapter 07). -/
theorem word_hearth : decodeTileWord (iss 0) 0x620A2CC000002102 = some (.esend (iss 0) (ops 10 11 12 0x2102)) := by decide

/-- By the bits of R58: STD of s3 at 8 bytes from s2 (class 0x1), VADD v1, v2, v3 (0x3), XCAS (0x7) and SRD (0xF); then codes that R59 leaves undefined. -/
theorem word_others :
    decodeTileWord (iss 0) (0x1#4 ++ 0x0B#6 ++ 0#6 ++ 2#6 ++ 3#6 ++ 0#1 ++ 0#3 ++ 8#32) = some (.std (iss 0) (ops 0 2 3 8)) ∧
      decodeTileWord (iss 0) (0x3#4 ++ 0x00#6 ++ 1#6 ++ 2#6 ++ 3#6 ++ 0#1 ++ 0#3 ++ 0#32) = some (.vadd (iss 0) (ops 1 2 3 0)) ∧
      decodeTileWord (iss 1) (0x7#4 ++ 0x0B#6 ++ 1#6 ++ 2#6 ++ 3#6 ++ 0#1 ++ 0#3 ++ 0#32) = some (.xcas (iss 1) (ops 1 2 3 0)) ∧
      decodeTileWord (iss 0) (0xF#4 ++ 0x00#6 ++ 1#6 ++ 0#6 ++ 0#6 ++ 0#1 ++ 0#3 ++ 3#32) = some (.srd (iss 0) (ops 1 0 0 3)) ∧
      definedCode 0xF 0x3F = false ∧ decodeTileWord (iss 0) 0xFFFFFFFFFFFFFFFF = none ∧ definedCode 9 0 = false ∧ decodeTileWord (iss 0) 0x9000000000000000 = none := by
  decide

/-! ### Ill-formed commands, one for each check -/

/-- A flit, a bit of one, a lane and a noise byte that do not exist. -/
theorem malformed_links :
    (Instr.meshPacketArrival tid 0 (.link [(17, 0)])).malformed = some .flit ∧ (Instr.meshPacketArrival tid 0 (.link [(0, 296)])).malformed = some .flit ∧
      (Instr.hearthBlockReceive 0 0 516 []).malformed = some .lane ∧
      (Instr.hearthBlockReceive 0 0 0 [(144, 1)]).malformed = some .noise ∧ (Instr.laneFail 0 516).malformed = some .lane := by decide

/-- An access to another register, another action, the wrong half of a pair, a lock write without the lock bit. -/
theorem malformed_accesses :
    (Instr.timeStep (acc 0) 0).malformed = some .register ∧ (Instr.laneSwapToSpare (acc Reg.HRT_LANE_SWAP) 0).malformed = some .action ∧
      (Instr.rwcHighWrite (acc Reg.TCK_EPOCH) 0).malformed = some .pair ∧ (Instr.lockWrite (acc (Reg.MEM_CTRL 15)) 0).malformed = some .lock := by decide +kernel

/-- A line beyond a stack, a reason, a cause, a sample and a heater offset that do not exist. -/
theorem malformed_values :
    (Instr.patrolScrub 0 0x30000000).malformed = some .line ∧ (Instr.linkDown 0 2).malformed = some .reason ∧ (Instr.tamper 6).malformed = some .cause ∧
      (Instr.housekeepingRound { hk 0 with fades := [] }).malformed = some .sample ∧
      (Instr.calibrationMeasurementEnd { heater := 128, levels := 0, thresh := 0, serExp := 0 }).malformed = some .heater := by decide +kernel

/-- Well-formed commands at the same bounds. -/
theorem well_formed :
    (Instr.meshPacketArrival tid 0 (.link [(16, 295)])).wellFormed = true ∧ (Instr.laneFail 0 515).wellFormed = true ∧
      (Instr.rwcHighWrite (acc (Reg.TCK_EPOCH + 4)) 0).wellFormed = true ∧ (Instr.lockWrite (acc (Reg.MEM_CTRL 15)) 0x80000000).wellFormed = true ∧
      (Instr.housekeepingRound (hk 0)).wellFormed = true ∧ (Instr.tamper 5).wellFormed = true := by decide +kernel

end Sys2Proof.Tests
end

namespace Sys2Proof.Machine

/-! ## The block at reset -/

/-- Settles O60: stores with nothing listed read as their unlisted values, registers as their rows' reset values. -/
theorem resetState : Obligations.ResetState := by
  have registers : State.reset.reg Reg.PWR_BUDGET = 8000 ∧ State.reset.reg Reg.TCK_SRC = 5 ∧ fld (State.reset.reg Reg.BLW_THRESH) 7 0 = 15 ∧
      State.reset.reg (Reg.HST_MHP_PORT 0) = 0xB798 ∧ State.reset.seq = 0 ∧ State.reset.reg Reg.RST_LAST = 0 := by decide
  exact ⟨rfl, rfl, memoriesWf_reset, rfl, rfl, fun _ _ => ⟨Thread.rs_zero _, Thread.rp_zero _⟩, fun _ _ => rfl, fun _ _ => rfl, fun _ => rfl, registers⟩

/-! ## Bus errors (R450) -/

theorem flag_or (w v : Word) (i : Nat) : flag (w ||| v) i = (flag w i || flag v i) := BitVec.getLsbD_or

@[simp] theorem State.reg_faultEvent (s : State) (src inst code : Nat) (c : Bool) (x : Nat) : (s.faultEvent src inst code c).reg x = s.reg x := by
  simp only [State.reg, State.faultEvent_regs]

/-- A FAULT event writes messages and the sessions' counts. -/
theorem State.faultEvent_writes (s : State) (src inst code : Nat) (c : Bool) :
    ∃ o ss, s.faultEvent src inst code c = { s with out := o, sessions := ss } := ⟨_, _, rfl⟩

theorem State.setReg_rest {s u : State} (h : { u with regs := s.regs } = s) (a : Nat) (w : Word) : { u.setReg a w with regs := s.regs } = s := h

/-- A FAULT event leaves a state that differs from `s` in registers alone so, but for messages and the sessions' counts. -/
theorem State.faultEvent_rest {s u : State} (h : { u with regs := s.regs } = s) (src inst code : Nat) (c : Bool) :
    { u.faultEvent src inst code c with regs := s.regs, out := s.out, sessions := s.sessions } = s := by
  obtain ⟨o, ss, e⟩ := State.faultEvent_writes u src inst code c
  rw [e]
  exact congrArg (fun x : State => { x with out := s.out, sessions := s.sessions }) h

/-- A bus error touches the error record, and sends its event to the sessions. -/
theorem State.busError_eq (s : State) (m : Byte) (a : Nat) (w : Bool) (r : Nat) :
    { s.busError m a w r with regs := s.regs, out := s.out, sessions := s.sessions } = s := by
  refine State.faultEvent_rest ?_ ..
  split
  · exact State.setReg_eq ..
  · exact State.setReg_rest (State.setReg_setReg_eq ..) ..

/-- A bus error after a recorded one sets CAP_EVENTS.more alone. -/
theorem State.busError_reg_of_recorded {s : State} (h : flag (s.reg Reg.CAP_EVENTS) 3 = true) (m : Byte) (a : Nat) (w : Bool) (r x : Nat) :
    (s.busError m a w r).reg x = if x = Reg.CAP_EVENTS then s.reg Reg.CAP_EVENTS ||| 4 else s.reg x := by
  simp [State.busError, h, State.orReg_eq]

/-- The first bus error is recorded with its address, master, reason and direction. -/
theorem State.busError_reg_of_first {s : State} (h : flag (s.reg Reg.CAP_EVENTS) 3 = false) (m : Byte) (a : Nat) (w : Bool) (r x : Nat) :
    (s.busError m a w r).reg x =
      if x = Reg.CAP_ERR_INFO then BitVec.ofNat 32 (m.toNat * 2 ^ 24 + r * 2 ^ 16 + (if w then 2 ^ 15 else 0) + a / 2 ^ 32)
      else if x = Reg.CAP_ERR_ADDR_LO then BitVec.ofNat 32 a
      else if x = Reg.CAP_EVENTS then s.reg Reg.CAP_EVENTS ||| 8 else s.reg x := by
  simp [State.busError, h, State.orReg_eq]

theorem State.busError_reg_of_ne (s : State) (m : Byte) (a : Nat) (w : Bool) (r : Nat) {x : Nat} (h1 : x ≠ Reg.CAP_EVENTS) (h2 : x ≠ Reg.CAP_ERR_ADDR_LO)
    (h3 : x ≠ Reg.CAP_ERR_INFO) : (s.busError m a w r).reg x = s.reg x := by
  cases h : flag (s.reg Reg.CAP_EVENTS) 3
  · rw [State.busError_reg_of_first h, if_neg h3, if_neg h2, if_neg h1]
  · rw [State.busError_reg_of_recorded h, if_neg h1]

/-- Both ways set bits of CAP_EVENTS and clear none. -/
theorem State.flag_busError_events (s : State) (m : Byte) (a : Nat) (w : Bool) (r i : Nat) :
    flag ((s.busError m a w r).reg Reg.CAP_EVENTS) i =
      (flag (s.reg Reg.CAP_EVENTS) i || flag (if flag (s.reg Reg.CAP_EVENTS) 3 then 4 else 8) i) := by
  cases h : flag (s.reg Reg.CAP_EVENTS) 3
  · rw [State.busError_reg_of_first h, if_neg (by decide), if_neg (by decide), if_pos rfl, flag_or]
    rfl
  · rw [State.busError_reg_of_recorded h, if_pos rfl, flag_or]
    rfl

/-- What the master of an access is told last. -/
def Told (t : State) (a : Access) (x : Option Word) : Prop := t.out.head? = some (.bus a.master.toNat a.addr.toNat x)

/-- An access answered with a bus error: the error is recorded, and nothing else changes. -/
def Refused (s t : State) (a : Access) (write : Bool) (reason : Nat) : Prop := Told t a none ∧
  { t with regs := s.regs, out := s.out, sessions := s.sessions } = s ∧ flag (t.reg Reg.CAP_EVENTS) 3 = true ∧
  (flag (s.reg Reg.CAP_EVENTS) 3 = true → flag (t.reg Reg.CAP_EVENTS) 2 = true ∧ t.reg Reg.CAP_ERR_INFO = s.reg Reg.CAP_ERR_INFO) ∧
  (flag (s.reg Reg.CAP_EVENTS) 3 = false → t.reg Reg.CAP_ERR_ADDR_LO = BitVec.ofNat 32 a.addr.toNat ∧
    t.reg Reg.CAP_ERR_INFO = BitVec.ofNat 32 (a.master.toNat * 2 ^ 24 + reason * 2 ^ 16 + (if write then 2 ^ 15 else 0) + a.addr.toNat / 2 ^ 32)) ∧
  ∀ x, x ≠ Reg.CAP_EVENTS → x ≠ Reg.CAP_ERR_ADDR_LO → x ≠ Reg.CAP_ERR_INFO → t.reg x = s.reg x

theorem refused_of_busError (s : State) (a : Access) (write : Bool) (r : Nat) :
    Refused s ((s.busError a.master a.addr.toNat write r).send (.bus a.master.toNat a.addr.toNat none)) a write r := by
  refine ⟨rfl, State.busError_eq s .., ?_, fun h => ⟨?_, ?_⟩, fun h => ⟨?_, ?_⟩, fun x h1 h2 h3 => ?_⟩ <;> rw [State.reg_send]
  · rw [State.flag_busError_events]
    cases h : flag (s.reg Reg.CAP_EVENTS) 3 <;> rfl
  · rw [State.flag_busError_events, h]
    exact Bool.or_true _
  · rw [State.busError_reg_of_recorded h, if_neg (by decide)]
  · rw [State.busError_reg_of_first h, if_neg (by decide), if_pos rfl]
  · rw [State.busError_reg_of_first h, if_pos rfl]
  · exact State.busError_reg_of_ne s _ _ _ _ h1 h2 h3

/-! ## Where the registers stand (R442, R449, R452) -/

/-- The first address of a block. -/
def Block.base : Block → Nat
  | .ident => 0 | .rst => 0x10000 | .clk => 0x14000 | .pwr => 0x18000 | .thm => 0x20000 | .mbx => 0x30000 | .glv => 0x40000 | .tck => 0x50000
  | .cfg => 0x60000 | .hrt => 0x100000 | .emb => 0x180000 | .blw => 0x200000 | .cal => 0x210000 | .die d => 0x1000000 + 0x100000 * d
  | .mem m => 0x2000000 + 0x10000 * m | .io i => 0x3000000 + 0x100000 * i

/-- Whether a place found for an address is its own: the offset counts from the block's base. -/
def PlacedAt (a : Nat) (x : Option (Block × Nat)) : Prop := ∀ b off, x = some (b, off) → a = b.base + off

/-- An address lies its offset above its block's base. -/
theorem eq_base_add_of_blockOf {a off : Nat} {b : Block} (h : blockOf a = some (b, off)) : a = b.base + off := by
  suffices PlacedAt a (blockOf a) from this b off h
  unfold blockOf
  repeat' refine iteInduction (fun _ => ?_) (fun _ => ?_)
  all_goals
    intro b off e
    cases e <;> simp only [Block.base] <;> omega

/-- The offset of a block's control register, in the blocks that have a lock. -/
def lockOffset : Block → Nat
  | .clk => 0
  | _ => 4

theorem lockReg_eq_base_add {b : Block} {a : Nat} (h : lockReg b = some a) : a = b.base + lockOffset b := by
  cases b <;> simp only [lockReg, Option.some.injEq, reduceCtorEq] at h <;> subst h <;> rfl

theorem eq_lockOffset {b : Block} {a off : Nat} (hl : lockReg b = some a) (hb : blockOf a = some (b, off)) : off = lockOffset b := by
  have h1 := lockReg_eq_base_add hl
  have h2 := eq_base_add_of_blockOf hb
  omega

/-- The row of a register with a lock bit: bit 31 is set by writing 1 and cleared by no write. -/
abbrev RegRow.HasLock (r : RegRow) : Prop :=
  r.w1s.getLsbD 31 = true ∧ r.w1c.getLsbD 31 = false ∧ (r.rw ||| r.rwl ||| r.wo).getLsbD 31 = false

/-- The row at the offset of a block's control register has the lock bit. -/
theorem hasLock_of_findRow {b : Block} {a k : Nat} {r : RegRow} {hi : Bool} (hl : lockReg b = some a)
    (hr : findRow (blockRows b) (lockOffset b) = some (r, k, hi)) : r.HasLock := by
  cases b with
  | ident | mbx => simp [lockReg] at hl
  | io i =>
    change findRow (if i < 2 then rows_hio else rows_fio) 4 = _ at hr
    split at hr <;> cases hr <;> decide
  | clk => cases hr; decide
  | _ => change findRow _ 4 = _ at hr; cases hr; decide

/-- The offset of a block's indirect address register; the data register stands 8 above, its high half 12 above. -/
def tblOffset (b : Block) : Nat :=
  match b with
  | .emb => 0x10 | .mem _ => 0x10 | _ => 0x20

/-- The bits of a block's indirect address register. -/
def tblAddrMask (b : Block) : Word :=
  match b with
  | .die _ => 0xBFFFFFFF | .hrt => 0xBFF00FFF | .emb => 0xBFC00FFF | .mem _ => 0x800003FF | .cal => 0xBFF07FFF | _ => 0x8FC00FFF

/-- The row of a block's indirect address register: plain, unlocked bits. -/
def tblAddrRow (b : Block) : RegRow := ⟨tblOffset b, 1, 4, tblAddrMask b, 0, 0, 0, 0, 0, 0⟩

/-- The row of a block's indirect data register: a critical pair. -/
def tblDataRow (b : Block) : RegRow := ⟨tblOffset b + 8, 1, 4, 0, 0, 0, 0, 0, 0xFFFFFFFF, 0⟩

theorem tblRegs_eq (b : TblBlock) :
    tblRegs (tblBlock b) = some ((tblBlock b).base + tblOffset (tblBlock b), (tblBlock b).base + tblOffset (tblBlock b) + 8) := by
  cases b with
  | fab i => revert i; decide
  | _ => rfl

/-- The registers of an indirect pair, and nothing else, at its offsets. -/
theorem tblRows (b : TblBlock) :
    findRow (blockRows (tblBlock b)) (tblOffset (tblBlock b)) = some (tblAddrRow (tblBlock b), 0, false) ∧
      findRow (blockRows (tblBlock b)) (tblOffset (tblBlock b) + 8) = some (tblDataRow (tblBlock b), 0, false) ∧
      findRow (blockRows (tblBlock b)) (tblOffset (tblBlock b) + 12) = some (tblDataRow (tblBlock b), 0, true) := by
  cases b with
  | mesh d => revert d; decide
  | mem d => revert d; decide
  | fab d => revert d; decide
  | _ => exact ⟨rfl, rfl, rfl⟩

theorem blockOf_tbl (b : TblBlock) {n : Nat} (h : n = 0 ∨ n = 8 ∨ n = 12) :
    blockOf ((tblBlock b).base + tblOffset (tblBlock b) + n) = some (tblBlock b, tblOffset (tblBlock b) + n) := by
  rcases h with rfl | rfl | rfl <;>
  · cases b with
    | mesh d => revert d; decide
    | mem d => revert d; decide
    | fab d => revert d; decide
    | _ => rfl

/-! ## The answer to an access -/

theorem State.ctlWrite_ok {s t : State} {m : Byte} {a off : Nat} {b : Block} {w x : Word} (ha : a % 4 = 0) (hb : blockOf a = some (b, off))
    (hi : s.boot.input = true) (h : s.blockWrite m a b off w = .ok x t) : s.ctlWrite m a 4 w = (true, t) := by
  simp [State.ctlWrite, ha, hb, hi, h]

theorem State.ctlWrite_err {s : State} {m : Byte} {a off r : Nat} {b : Block} {w : Word} (ha : a % 4 = 0) (hb : blockOf a = some (b, off))
    (hi : s.boot.input = true) (h : s.blockWrite m a b off w = .err r) :
    s.ctlWrite m a 4 w = (false, ((s.showRefusal a w r).countRefusal b off).busError m a true r) := by
  simp [State.ctlWrite, ha, hb, hi, h]

theorem State.ctlRead_ok {s t : State} {m : Byte} {a off : Nat} {b : Block} {x : Word} (ha : a % 4 = 0) (hb : blockOf a = some (b, off))
    (hi : s.boot.input = true) (h : s.blockRead m a b off = .ok x t) : s.ctlRead m a 4 = (some x, t) := by
  simp [State.ctlRead, ha, hb, hi, h]

theorem State.ctlRead_err {s : State} {m : Byte} {a off r : Nat} {b : Block} (ha : a % 4 = 0) (hb : blockOf a = some (b, off))
    (hi : s.boot.input = true) (h : s.blockRead m a b off = .err r) : s.ctlRead m a 4 = (none, (s.countRefusal b off).busError m a false r) := by
  simp [State.ctlRead, ha, hb, hi, h]

theorem State.access_of_ctlWrite {s t : State} {m : Byte} {a n : Nat} {w : Word} {ok : Bool} (h : s.ctlWrite m a n w = (ok, t)) :
    s.access m a n w = t.send (.bus m.toNat a (if ok then some 0 else none)) := by
  simp [State.access, h]

theorem State.accessRead_of_ctlRead {s t : State} {m : Byte} {a n : Nat} {x : Option Word} (h : s.ctlRead m a n = (x, t)) :
    s.accessRead m a n = t.send (.bus m.toNat a x) := by
  simp [State.accessRead, h]

theorem State.showRefusal_of_ne {s : State} {a : Nat} {w : Word} {r : Nat} (h : a ≠ Reg.CFG_CMD ∨ r ≠ 9) : s.showRefusal a w r = s := by
  unfold State.showRefusal
  exact if_neg (fun c => h.elim (fun ha => ha c.1) (fun hr => hr c.2.1))

theorem State.countRefusal_of_none {s : State} {b : Block} {off : Nat} (h : mbxAt b off = none) : s.countRefusal b off = s := by
  simp [State.countRefusal, h]

/-! ## Writes of a listed register -/

/-- An access names a listed register of a block that is up and lets its master write the word, other than the block's indirect data register. -/
def Takes (s : State) (a : Access) (w : Word) (b : Block) (off : Nat) (r : RegRow) (k : Nat) (hi : Bool) : Prop :=
  a.size = 4 ∧ a.addr.toNat % 4 = 0 ∧ blockOf a.addr.toNat = some (b, off) ∧ mbxAt b off = none ∧ s.boot.input = true ∧
    s.mayWrite a.master.toNat b off w = true ∧ s.unitUp b = true ∧ notThere b off = false ∧ findRow (blockRows b) off = some (r, k, hi) ∧
    (∀ p, tblRegs b = some p → a.addr.toNat ≠ p.2 ∧ a.addr.toNat ≠ p.2 + 4)

theorem tblRegs_data_pos {b : Block} {p : Nat × Nat} (h : tblRegs b = some p) : 0 < p.2 := by
  cases b with
  | io i =>
    simp only [tblRegs] at h
    split at h <;> cases h
    exact Nat.succ_pos _
  | _ => cases h <;> exact Nat.succ_pos _

section
variable {s t : State} {a : Access} {v : Word} {b : Block} {off : Nat} {r : RegRow} {k : Nat} {hi : Bool}

theorem Takes.blockWrite (h : Takes s a v b off r k hi) :
    s.blockWrite a.master a.addr.toNat b off v = s.writeRow a.master a.addr.toNat b off r k hi v := by
  obtain ⟨-, -, -, hmbx, -, hmay, hup, hthere, hrow, -⟩ := h
  simp [State.blockWrite, hmbx, hmay, hup, hthere, hrow]

theorem Takes.access_ok {x : Word} (h : Takes s a v b off r k hi) (ok : s.writeRow a.master a.addr.toNat b off r k hi v = .ok x t) :
    s.access a.master a.addr.toNat a.size v = t.send (.bus a.master.toNat a.addr.toNat (some 0)) := by
  have hw := h.blockWrite.trans ok
  obtain ⟨hsize, halign, hblock, -, hin, -⟩ := h
  rw [hsize]
  exact State.access_of_ctlWrite (State.ctlWrite_ok halign hblock hin hw)

theorem Takes.access_err {e : Nat} (h : Takes s a v b off r k hi) (err : s.writeRow a.master a.addr.toNat b off r k hi v = .err e) :
    s.access a.master a.addr.toNat a.size v =
      ((s.showRefusal a.addr.toNat v e).busError a.master a.addr.toNat true e).send (.bus a.master.toNat a.addr.toNat none) := by
  have hw := h.blockWrite.trans err
  obtain ⟨hsize, halign, hblock, hmbx, hin, -⟩ := h
  rw [hsize, State.access_of_ctlWrite (State.ctlWrite_err halign hblock hin hw), State.countRefusal_of_none hmbx]
  rfl

/-- An error with another reason than 0x09 is a bus error and no more. -/
theorem Takes.refused {e : Nat} (h : Takes s a v b off r k hi) (err : s.writeRow a.master a.addr.toNat b off r k hi v = .err e) (he : e ≠ 9) :
    Refused s (s.access a.master a.addr.toNat a.size v) a true e := by
  rw [h.access_err err, State.showRefusal_of_ne (.inr he)]
  exact refused_of_busError ..

/-- Whether the address of the register written, or of its low half, is the block's indirect data register. -/
def isTblData (b : Block) (low : Nat) : Bool :=
  match tblRegs b with
  | some (_, data) => low == data
  | none => false

/-- The half written is no half of the block's indirect data register. -/
theorem Takes.not_tblData (h : Takes s a v b off r k hi) : isTblData b (if hi then a.addr.toNat - 4 else a.addr.toNat) = false := by
  obtain ⟨-, -, -, -, -, -, -, -, -, hdata⟩ := h
  unfold isTblData
  split
  next p data hp =>
    have hne := hdata _ hp
    have hpos := tblRegs_data_pos hp
    cases hi <;> simp <;> omega
  next => rfl

/-- A write of a register other than an indirect data register: a half of a pair, refused for a lock or by the register's own rule, or stored. -/
theorem State.writeRow_of_not_tblData (s : State) (m : Byte) {x : Nat} (h : isTblData b (if hi then x - 4 else x) = false) (v : Word) :
    s.writeRow m x b off r k hi v =
      if r.rwc ≠ 0 then s.writeHalf m (if hi then x - 4 else x) hi v (State.storeCritical b (if hi then x - 4 else x) (off - (if hi then 4 else 0)) r.rwc)
      else if r.rwl ≠ 0 && s.locked b then .err 5
      else if s.ownRule b off v (r.next (s.reg x) v) then .err 9
      else .ok 0 ((s.setReg x (r.next (s.reg x) v)).afterWrite m x b off k v) := by
  unfold State.writeRow
  exact if_neg (Bool.eq_false_iff.mp h)

theorem Takes.writeRow_locked (h : Takes s a v b off r k hi) (hc : r.rwc = 0) (hl : r.rwl ≠ 0) (hlock : s.locked b = true) :
    s.writeRow a.master a.addr.toNat b off r k hi v = .err 5 := by
  rw [State.writeRow_of_not_tblData s _ h.not_tblData, if_neg (by simpa using hc), if_pos (by simpa [hlock] using hl)]

theorem Takes.writeRow_open (h : Takes s a v b off r k hi) (hc : r.rwc = 0) (hl : r.rwl ≠ 0 → s.locked b = false) :
    s.writeRow a.master a.addr.toNat b off r k hi v =
      if s.ownRule b off v (r.next (s.reg a.addr.toNat) v) then .err 9
      else .ok 0 ((s.setReg a.addr.toNat (r.next (s.reg a.addr.toNat) v)).afterWrite a.master a.addr.toNat b off k v) := by
  rw [State.writeRow_of_not_tblData s _ h.not_tblData, if_neg (by simpa using hc), if_neg (by simpa using hl)]

theorem Takes.writeRow_critical (h : Takes s a v b off r k hi) (hc : r.rwc ≠ 0) :
    s.writeRow a.master a.addr.toNat b off r k hi v =
      s.writeHalf a.master (if hi then a.addr.toNat - 4 else a.addr.toNat) hi v
        (State.storeCritical b (if hi then a.addr.toNat - 4 else a.addr.toNat) (off - (if hi then 4 else 0)) r.rwc) := by
  rw [State.writeRow_of_not_tblData s _ h.not_tblData, if_pos hc]

/-- A write of a plain register that neither a lock nor the register's own rule refuses: the word by its access codes, and what follows. -/
theorem Takes.access_stored (h : Takes s a v b off r k hi) (hc : r.rwc = 0) (hl : r.rwl ≠ 0 → s.locked b = false)
    (ho : s.ownRule b off v (r.next (s.reg a.addr.toNat) v) = false) :
    s.access a.master a.addr.toNat a.size v =
      ((s.setReg a.addr.toNat (r.next (s.reg a.addr.toNat) v)).afterWrite a.master a.addr.toNat b off k v).send
        (.bus a.master.toNat a.addr.toNat (some 0)) := by
  refine h.access_ok (x := 0) ?_
  rw [h.writeRow_open hc hl, ho]
  rfl

end

/-! ## The access codes (R11) -/

/-- A bit by its access code: cleared by writing 1, stored, set by writing 1, or kept. -/
theorem RegRow.getLsbD_next (r : RegRow) (old w : Word) (j : Nat) :
    (r.next old w).getLsbD j =
      (((old.getLsbD j && !((r.rw ||| r.rwl ||| r.wo).getLsbD j)) || (w.getLsbD j && (r.rw ||| r.rwl ||| r.wo).getLsbD j) ||
        (w.getLsbD j && r.w1s.getLsbD j)) && !(w.getLsbD j && r.w1c.getLsbD j)) := by
  by_cases hj : j < 32
  · simp [RegRow.next, hj]
  · simp [BitVec.getLsbD_of_ge _ _ (Nat.le_of_not_lt hj)]

theorem RegRow.next_accessCodes (r : RegRow) (old w : Word) (j : Nat) : let n := (r.next old w).getLsbD j
    (r.w1c.getLsbD j = true → w.getLsbD j = true → n = false) ∧
    (r.w1c.getLsbD j = false → (r.rw ||| r.rwl ||| r.wo).getLsbD j = true → r.w1s.getLsbD j = false → n = w.getLsbD j) ∧
    (r.w1c.getLsbD j = false → (r.rw ||| r.rwl ||| r.wo).getLsbD j = false → r.w1s.getLsbD j = true → n = (old.getLsbD j || w.getLsbD j)) ∧
    ((r.rw ||| r.rwl ||| r.wo ||| r.w1s ||| r.w1c).getLsbD j = false → n = old.getLsbD j) := by
  intro n
  have hn : n = _ := RegRow.getLsbD_next r old w j
  refine ⟨fun hc hw => ?_, fun hc hs h1 => ?_, fun hc hs h1 => ?_, fun h => ?_⟩
  · simp [hn, hc, hw]
  · simp [hn, hc, hs, h1]
  · simp [hn, hc, hs, h1]
  · rw [BitVec.getLsbD_or, BitVec.getLsbD_or, Bool.or_eq_false_iff, Bool.or_eq_false_iff] at h
    obtain ⟨⟨hs, h1⟩, hc⟩ := h
    simp [hn, hc, hs, h1]

/-- The lock bit stays once set, and is set by writing 1. -/
theorem RegRow.HasLock.flag_next {r : RegRow} (h : r.HasLock) (old w : Word) : flag (r.next old w) 31 = (flag old 31 || flag w 31) := by
  obtain ⟨hset, hclear, hplain⟩ := h
  obtain ⟨-, -, hs, -⟩ := r.next_accessCodes old w 31
  exact hs hclear hplain hset

/-! ## What follows a stored write -/

/-- The master that wrote a block's indirect address register, and the pending half of its data register dropped (R452). -/
def State.noteTbl (s : State) (m : Byte) (a : Nat) (b : Block) : State :=
  match tblRegs b with
  | some (addr, data) => if a = addr then { s with tblMaster := s.tblMaster.set 0 addr m, rwc := s.rwc.filter (fun p => p.addr != data) } else s
  | none => s

@[simp] theorem State.regs_noteTbl (s : State) (m : Byte) (a : Nat) (b : Block) : (s.noteTbl m a b).regs = s.regs := by
  unfold State.noteTbl
  split
  · split <;> rfl
  · rfl

@[simp] theorem State.reg_noteTbl (s : State) (m : Byte) (a : Nat) (b : Block) (x : Nat) : (s.noteTbl m a b).reg x = s.reg x := by
  simp only [State.reg, State.regs_noteTbl]

theorem State.reg_noteTbl_setReg (s : State) (m : Byte) (x : Nat) (w : Word) (b : Block) : ((s.setReg x w).noteTbl m x b).reg x = w := by
  rw [State.reg_noteTbl, State.reg_setReg, if_pos rfl]

/-- A write of the indirect address register itself. -/
theorem State.noteTbl_of_tblRegs {b : Block} {addr data : Nat} (h : tblRegs b = some (addr, data)) (s : State) (m : Byte) :
    s.noteTbl m addr b = { s with tblMaster := s.tblMaster.set 0 addr m, rwc := s.rwc.filter (fun p => p.addr != data) } := by
  simp [State.noteTbl, h]

theorem State.noteTbl_eq (s : State) (m : Byte) (a : Nat) (b : Block) :
    { s.noteTbl m a b with tblMaster := s.tblMaster, rwc := s.rwc } = s := by
  unfold State.noteTbl
  split
  · split <;> rfl
  · rfl

/-- The offsets of a block whose write starts nothing else. -/
def Inert (b : Block) (off : Nat) : Prop :=
  match b with
  | .ident => off ≠ 0x028
  | .rst => off ≠ 0x024
  | .clk => off ≠ 0x000
  | .tck => off ≠ 0x008 ∧ off ≠ 0x00C ∧ off ≠ 0x064
  | .cfg => off ≠ 0x024 ∧ off ≠ 0x028
  | .glv => off ≠ 0x018
  | .hrt => off ≠ 0x004 ∧ off ≠ 0x010 ∧ off ≠ 0x050
  | .blw => off ≠ 0x014
  | .cal => off ≠ 0x008
  | .die _ => off ≠ 0x010
  | .io _ => off ≠ 0x004 ∧ off ≠ 0x034 ∧ (off < 0x100 ∨ 0x130 ≤ off)
  | _ => True

theorem State.afterWrite_inert {b : Block} {off : Nat} (h : Inert b off) (s : State) (m : Byte) (a k : Nat) (w : Word) :
    s.afterWrite m a b off k w = s.noteTbl m a b := by
  cases b with
  | rst => exact if_neg h
  | ident | clk | glv | blw | cal | die => exact if_neg (fun c => h c.1)
  | tck | hrt =>
    obtain ⟨h1, h2, h3⟩ := h
    simp only [State.afterWrite]
    rfl
  | cfg =>
    obtain ⟨h1, h2⟩ := h
    simp only [State.afterWrite]
    rfl
  | io i =>
    obtain ⟨h1, h2, h3⟩ := h
    have h4 : ¬(0x100 ≤ off ∧ off % 16 = 0 ∧ off < 0x130) := by omega
    simp only [State.afterWrite, h1, h2, h4, false_and, if_false, ite_self]
    rfl
  | _ => rfl

/-! ## Registers that sending and training leave alone -/

@[simp] theorem State.emitBlock_regs (s : State) (p g : Nat) (b : HBlock) : (s.emitBlock p g b).regs = s.regs := rfl

@[simp] theorem State.emitBlocks_regs (s : State) (p g : Nat) (bs : List HBlock) : (s.emitBlocks p g bs).regs = s.regs := by
  induction bs generalizing s with
  | nil => rfl
  | cons b bs ih => rw [State.emitBlocks, ih, State.emitBlock_regs]

@[simp] theorem State.release_regs (s : State) (p g : Nat) (q : TxGroup) (out rest : List HBlock) : (s.release p g q out rest).regs = s.regs := by
  rw [State.release, State.emitBlocks_regs, State.setPort_regs]

@[simp] theorem State.pump_regs (s : State) (p g : Nat) : (s.pump p g).regs = s.regs := by
  unfold State.pump
  simp only
  split
  · rfl
  · split
    · split
      · exact State.release_regs ..
      · rfl
    · exact State.release_regs ..

@[simp] theorem State.pumpGroups_regs (s : State) (l : List (Nat × Nat)) : (s.pumpGroups l).regs = s.regs := by
  induction l generalizing s with
  | nil => rfl
  | cons x l ih => rw [State.pumpGroups, ih, State.pump_regs]

@[simp] theorem State.pumpAll_regs (s : State) : s.pumpAll.regs = s.regs := State.pumpGroups_regs ..

theorem State.takeReference_reg (s : State) {x : Nat} (h1 : x ≠ Reg.CLK_STATUS) (h2 : x ≠ Reg.CLK_EVENTS) : s.takeReference.reg x = s.reg x := by
  unfold State.takeReference
  split
  · simp [State.orReg_eq, State.setRegFld_eq, h1, h2]
  · rfl

@[simp] theorem State.checkBuffer_regs (s : State) (i : Nat) : (s.checkBuffer i).regs = s.regs := by
  unfold State.checkBuffer
  simp only
  split
  · rfl
  · split <;> rfl

theorem State.hostLinkLost_reg (s : State) (i : Nat) {x : Nat} (h : x ≠ Reg.HST_LINK i) : (s.hostLinkLost i).reg x = s.reg x := by
  unfold State.hostLinkLost
  simp only
  split
  · rfl
  · simp [State.bumpReg_eq, h]

theorem State.portsTrain_reg (s : State) (fs : List Nat) {x : Nat} (h : ∀ f ∈ fs, x ≠ portStatus f) : (s.portsTrain fs).reg x = s.reg x := by
  induction fs generalizing s with
  | nil => rfl
  | cons f fs ih =>
    rw [State.portsTrain, ih _ (fun g hg => h g (List.mem_cons_of_mem _ hg))]
    split
    · rw [State.train, State.reg_send, State.reg_setReg, if_neg (h f List.mem_cons_self)]
    · rfl

/-- A control register is no port's status register. -/
theorem ctrl_ne_portStatus (i : Nat) {f : Nat} (h : f < 6) : Reg.HST_CTRL i ≠ portStatus f := by
  simp only [Reg.HST_CTRL, portStatus, Reg.FAB_PORT_STATUS, fabIo]
  omega

/-! ## Locks (R13, R449) -/

/-- CLK_CTRL written: the reference may come back (R222). -/
theorem State.afterWrite_clkCtrl (s : State) (m : Byte) (a k : Nat) (w : Word) :
    s.afterWrite m a .clk 0x000 k w = if s.ticking then s else s.takeReference := by
  cases h : s.ticking <;> simp [State.afterWrite, tblRegs, h]

/-- HRT_CTRL written: what the groups hold may go (R171). -/
theorem State.afterWrite_hrtCtrl (s : State) (m : Byte) (a k : Nat) (w : Word) :
    s.afterWrite m a .hrt 0x004 k w = (s.noteTbl m a .hrt).pumpAll := rfl

/-- HST_CTRL written: a pause may be over, and a port disabled loses its link (R289, R309, R314). -/
theorem State.afterWrite_hostCtrl (s : State) (m : Byte) (a k : Nat) (w : Word) {i : Nat} (h : i < 2) :
    s.afterWrite m a (.io i) 0x004 k w =
      if flag w 0 then (if flag w 2 then s else s.sendHeld i).checkBuffer i
      else ((if flag w 2 then s else s.sendHeld i).checkBuffer i).hostLinkLost i := by
  simp only [State.afterWrite, tblRegs, h, if_true]

/-- FAB_CTRL written: its lock mirrors the tables and has ports train (R258, R272). -/
theorem State.afterWrite_fabCtrl (s : State) (m : Byte) (a k : Nat) (w : Word) {i : Nat} (h : ¬i < 2) :
    s.afterWrite m a (.io i) 0x004 k w =
      let u := s.noteTbl m a (.io i)
      if flag w 31 then
        ({ u with fabric := { u.fabric with mirror := (u.lockTables i).map (fun x => (if x.1 < 2 ^ 16 then x.1 else x.1 - 2 ^ 16 + 256, x.2)) } } :
          State).portsTrain (if i = 2 then [0, 2, 4] else [1, 3, 5])
      else u := by
  simp only [State.afterWrite, h, true_and, if_false, Nat.reduceLeDiff, false_and]
  rfl

/-- What follows a write of a control register leaves it alone. -/
theorem State.afterWrite_lockReg {b : Block} {a : Nat} (h : lockReg b = some a) (s : State) (m : Byte) (k : Nat) (w : Word) :
    (s.afterWrite m a b (lockOffset b) k w).reg a = s.reg a := by
  have inert : Inert b (lockOffset b) → (s.afterWrite m a b (lockOffset b) k w).reg a = s.reg a := fun hi => by
    rw [State.afterWrite_inert hi, State.reg_noteTbl]
  cases b with
  | ident | mbx => cases h
  | clk =>
    cases h
    rw [lockOffset, State.afterWrite_clkCtrl]
    split
    · rfl
    · exact State.takeReference_reg s (by decide) (by decide)
  | hrt =>
    change ((s.noteTbl m a .hrt).pumpAll).reg a = _
    rw [State.reg, State.pumpAll_regs, State.regs_noteTbl, State.reg]
  | io i =>
    cases h
    change (s.afterWrite m _ (.io i) 0x004 k w).reg _ = _
    by_cases hi : i < 2
    · rw [State.afterWrite_hostCtrl _ _ _ _ _ hi]
      have held : ((if flag w 2 then s else s.sendHeld i).checkBuffer i).regs = s.regs := by
        rw [State.checkBuffer_regs]
        split <;> rfl
      split
      · rw [State.reg, held, State.reg]
      · rw [State.hostLinkLost_reg _ _ (by simp [Reg.HST_CTRL, Reg.HST_LINK]), State.reg, held, State.reg]
    · rw [State.afterWrite_fabCtrl _ _ _ _ _ hi]
      simp only
      split
      · rw [State.portsTrain_reg _ _ ?_]
        · exact State.reg_noteTbl ..
        · intro f hf
          exact ctrl_ne_portStatus i (by split at hf <;> simp at hf <;> omega)
      · exact State.reg_noteTbl ..
  | rst | pwr | thm | glv | tck | cfg | emb | blw | cal | die | mem => exact inert (by simp [Inert, lockOffset])

/-! ## What a master is told, and what becomes of the register -/

/-- The blocks and offsets of ControlSpace whose write starts nothing. -/
def Quiet (b : Block) (off : Nat) : Prop :=
  b = .thm ∨ b = .pwr ∨ b = .emb ∨ (b = .rst ∧ off ≠ 0x024) ∨ (b = .hrt ∧ off ≠ 0x004 ∧ off ≠ 0x010 ∧ off ≠ 0x050) ∨
    (∃ m, b = .mem m) ∨ (∃ d, b = .die d ∧ off ≠ 0x010) ∨ (∃ i, b = .io i ∧ off ≠ 0x004 ∧ off ≠ 0x034 ∧ (off < 0x100 ∨ 0x130 ≤ off))

theorem Quiet.inert {b : Block} {off : Nat} (h : Quiet b off) : Inert b off := by
  rcases h with rfl | rfl | rfl | ⟨rfl, h⟩ | ⟨rfl, h⟩ | ⟨m, rfl⟩ | ⟨d, rfl, h⟩ | ⟨i, rfl, h⟩
  · trivial
  · trivial
  · trivial
  · exact h
  · exact h
  · trivial
  · exact h
  · exact h

section
variable {s : State} {a : Access} {v : Word} {b : Block} {off : Nat} {r : RegRow} {k : Nat}

/-- A write that starts nothing else: the register by its access codes, every other one as it was, and nothing else but the answer. -/
theorem Takes.registerWrite_inert (h : Takes s a v b off r k false) (hc : r.rwc = 0) (hl : r.rwl ≠ 0 → s.locked b = false)
    (ho : s.ownRule b off v (r.next (s.reg a.addr.toNat) v) = false) (hq : Inert b off) :
    ∃ t : State, exec (.registerWrite a v) s = .next t ∧ Told t a (some 0) ∧ t.reg a.addr.toNat = r.next (s.reg a.addr.toNat) v ∧
      (∀ x, x ≠ a.addr.toNat → t.reg x = s.reg x) ∧ { t with regs := s.regs, out := s.out, tblMaster := s.tblMaster, rwc := s.rwc } = s := by
  refine ⟨_, rfl, ?_⟩
  rw [h.access_stored hc hl ho, State.afterWrite_inert hq]
  refine ⟨rfl, ?_, fun x hx => ?_, ?_⟩
  · rw [State.reg_send, State.reg_noteTbl_setReg]
  · rw [State.reg_send, State.reg_noteTbl, State.reg_setReg, if_neg hx]
  · exact congrArg (fun u : State => { u with regs := s.regs, out := s.out }) (State.noteTbl_eq (s.setReg _ _) ..)

/-- A control register holds its lock bit from then on, whatever follows its write. -/
theorem Takes.flag_lockReg_stored {hi : Bool} (h : Takes s a v b off r k hi) (hlr : lockReg b = some a.addr.toNat) (t : State) (w old : Word) :
    flag (((t.setReg a.addr.toNat (r.next old w)).afterWrite a.master a.addr.toNat b off k v).reg a.addr.toNat) 31 = (flag old 31 || flag w 31) := by
  obtain ⟨-, -, hblock, -, -, -, -, -, hrow, -⟩ := h
  have hoff := eq_lockOffset hlr hblock
  subst hoff
  rw [State.afterWrite_lockReg hlr, State.reg_setReg, if_pos rfl, (hasLock_of_findRow hlr hrow).flag_next]

theorem Takes.lockWrite_locks (h : Takes s a v b off r k false) (hc : r.rwc = 0) (hl : r.rwl ≠ 0 → s.locked b = false)
    (ho : s.ownRule b off v (r.next (s.reg a.addr.toNat) v) = false) (hlr : lockReg b = some a.addr.toNat) (hv : flag v 31 = true) :
    ∃ t : State, exec (.lockWrite a v) s = .next t ∧ Told t a (some 0) ∧ flag (t.reg a.addr.toNat) 31 = true ∧ t.locked b = true := by
  refine ⟨_, rfl, ?_⟩
  rw [h.access_stored hc hl ho]
  have lock := h.flag_lockReg_stored hlr s v (s.reg a.addr.toNat)
  rw [hv, Bool.or_true] at lock
  exact ⟨rfl, lock, by simp [State.locked, hlr, lock]⟩

/-- A locked register is refused. -/
theorem Takes.registerWrite_locked (h : Takes s a v b off r k false) (hc : r.rwc = 0) (hl : r.rwl ≠ 0) (hlock : s.locked b = true) :
    ∃ t : State, exec (.registerWrite a v) s = .next t ∧ Refused s t a true 5 :=
  ⟨_, rfl, h.refused (h.writeRow_locked hc hl hlock) (by decide)⟩

theorem lockReg_ne_capRegs {x : Nat} (h : lockReg b = some x) :
    x ≠ Reg.CAP_EVENTS ∧ x ≠ Reg.CAP_ERR_ADDR_LO ∧ x ≠ Reg.CAP_ERR_INFO ∧ x ≠ Reg.CFG_CMD := by
  have e := lockReg_eq_base_add h
  cases b with
  | ident | mbx => cases h
  | _ =>
    simp only [Block.base, lockOffset] at e
    simp only [Reg.CAP_EVENTS, Reg.CAP_ERR_ADDR_LO, Reg.CAP_ERR_INFO, Reg.CFG_CMD]
    omega

/-- A lock that is set stays set through every write of its register (R13). -/
theorem Takes.lockWrite_keeps (h : Takes s a v b off r k false) (hc : r.rwc = 0) (hlr : lockReg b = some a.addr.toNat)
    (hset : flag (s.reg a.addr.toNat) 31 = true) : ∃ t : State, exec (.lockWrite a v) s = .next t ∧ flag (t.reg a.addr.toNat) 31 = true := by
  obtain ⟨h1, h2, h3, h4⟩ := lockReg_ne_capRegs hlr
  have err : ∀ {e : Nat}, s.writeRow a.master a.addr.toNat b off r k false v = .err e →
      flag ((s.access a.master a.addr.toNat a.size v).reg a.addr.toNat) 31 = true := fun he => by
    rw [h.access_err he, State.showRefusal_of_ne (.inl h4), State.reg_send, State.busError_reg_of_ne _ _ _ _ _ h1 h2 h3, hset]
  refine ⟨_, rfl, ?_⟩
  by_cases hl : r.rwl ≠ 0 ∧ s.locked b = true
  · exact err (h.writeRow_locked hc hl.1 hl.2)
  have hopen : r.rwl ≠ 0 → s.locked b = false := by simpa using hl
  cases ho : s.ownRule b off v (r.next (s.reg a.addr.toNat) v) with
  | true => exact err (e := 9) (by rw [h.writeRow_open hc hopen, ho]; rfl)
  | false =>
    rw [h.access_stored hc hopen ho, State.reg_send, h.flag_lockReg_stored hlr, hset]
    rfl

end

/-! ## Accesses that reach no register (R10, R443 to R447, R450) -/

section
variable {s : State} {a : Access} {v : Word}

theorem registerWrite_misaligned (h : a.size ≠ 4 ∨ a.addr.toNat % 4 ≠ 0) :
    ∃ t : State, exec (.registerWrite a v) s = .next t ∧ Refused s t a true 2 := by
  refine ⟨_, rfl, ?_⟩
  rw [State.access_of_ctlWrite (show s.ctlWrite a.master a.addr.toNat a.size v = (false, _) from if_pos h)]
  exact refused_of_busError ..

theorem registerWrite_unlisted (hs : a.size = 4) (ha : a.addr.toNat % 4 = 0) (hb : blockOf a.addr.toNat = none) :
    ∃ t : State, exec (.registerWrite a v) s = .next t ∧ Refused s t a true 1 := by
  have hw : s.ctlWrite a.master a.addr.toNat a.size v = (false, s.busError a.master a.addr.toNat true 1) := by simp [State.ctlWrite, hs, ha, hb]
  refine ⟨_, rfl, ?_⟩
  rw [State.access_of_ctlWrite hw]
  exact refused_of_busError ..

theorem State.blockWrite_forbidden {m : Byte} {x off : Nat} {b : Block} (hm : mbxAt b off = none) (h : s.mayWrite m.toNat b off v = false) :
    s.blockWrite m x b off v = .err 3 := by
  simp [State.blockWrite, hm, h]

theorem State.blockWrite_down {m : Byte} {x off : Nat} {b : Block} (hm : mbxAt b off = none) (hmay : s.mayWrite m.toNat b off v = true)
    (h : s.unitUp b = false) : s.blockWrite m x b off v = .err 4 := by
  simp [State.blockWrite, hm, hmay, h]

/-- A block that answers an error with another reason than 0x09. -/
theorem registerWrite_blockError {b : Block} {off e : Nat} (hs : a.size = 4) (ha : a.addr.toNat % 4 = 0) (hb : blockOf a.addr.toNat = some (b, off))
    (hm : mbxAt b off = none) (hi : s.boot.input = true) (he : e ≠ 9) (h : s.blockWrite a.master a.addr.toNat b off v = .err e) :
    ∃ t : State, exec (.registerWrite a v) s = .next t ∧ Refused s t a true e := by
  refine ⟨_, rfl, ?_⟩
  rw [hs, State.access_of_ctlWrite (State.ctlWrite_err ha hb hi h), State.showRefusal_of_ne (.inr he), State.countRefusal_of_none hm]
  exact refused_of_busError ..

end

/-! ## Critical pairs (R12, R451) -/

section
variable {s : State} {a : Access} {v : Word} {b : Block} {off : Nat} {r : RegRow} {k : Nat} {p : RwcPending}

/-- The low half held pending, unless another master's is. -/
theorem State.writeHalf_low {m : Byte} {low : Nat} (h : ∀ q ∈ s.rwc, q.addr = low → q.master = m) (w : Word) (store : State → Word → Except Nat State) :
    ∃ l, s.writeHalf m low false w store = .ok 0 { s with rwc := l ++ [⟨low, w, m⟩] } := by
  unfold State.writeHalf
  split
  next => exact ⟨_, rfl⟩
  next q hq =>
    have hm := h q (List.mem_of_find?_eq_some hq) (by simpa using List.find?_some hq)
    exact ⟨_, by simp only [hm, ne_eq, not_true_eq_false, if_false, Bool.not_false, if_true]; rfl⟩

theorem Takes.rwcLowWrite (h : Takes s a v b off r k false) (hc : r.rwc ≠ 0) (hp : ∀ q ∈ s.rwc, q.addr = a.addr.toNat → q.master = a.master) :
    ∃ t : State, exec (.rwcLowWrite a v) s = .next t ∧ Told t a (some 0) ∧ { t with out := s.out, rwc := s.rwc } = s ∧
      ⟨a.addr.toNat, v, a.master⟩ ∈ t.rwc := by
  obtain ⟨l, hl⟩ := State.writeHalf_low hp v (State.storeCritical b a.addr.toNat off r.rwc)
  refine ⟨_, rfl, ?_⟩
  rw [h.access_ok ((h.writeRow_critical hc).trans hl)]
  exact ⟨rfl, rfl, List.mem_append_right _ List.mem_cons_self⟩

/-- The high half against the pending low half: another master's, no complement, or stored. -/
theorem State.writeHalf_other_master {m : Byte} {low : Nat} (h : s.rwc.find? (fun q => q.addr == low) = some p) (hm : p.master ≠ m) (w : Word)
    (store : State → Word → Except Nat State) : s.writeHalf m low true w store = .err 7 := by
  simp [State.writeHalf, h, hm]

theorem State.writeHalf_not_complement {m : Byte} {low : Nat} (h : s.rwc.find? (fun q => q.addr == low) = some p) (hm : p.master = m) {w : Word}
    (hw : w ≠ ~~~p.value) (store : State → Word → Except Nat State) : s.writeHalf m low true w store = .err 6 := by
  simp [State.writeHalf, h, hm, hw]

theorem State.writeHalf_complement {t : State} {m : Byte} {low : Nat} (h : s.rwc.find? (fun q => q.addr == low) = some p) (hm : p.master = m)
    {w : Word} (hw : w = ~~~p.value) {store : State → Word → Except Nat State}
    (hs : store { s with rwc := s.rwc.filter (fun q => q.addr != low) } p.value = .ok t) : s.writeHalf m low true w store = .ok 0 t := by
  simp [State.writeHalf, h, hm, hw, hs]

theorem Takes.rwcHighWrite_refused (h : Takes s a v b off r k true) (hc : r.rwc ≠ 0)
    (hp : s.rwc.find? (fun q => q.addr == a.addr.toNat - 4) = some p) :
    (p.master = a.master → v ≠ ~~~p.value → ∃ t : State, exec (.rwcHighWrite a v) s = .next t ∧ Refused s t a true 6) ∧
      (p.master ≠ a.master → ∃ t : State, exec (.rwcHighWrite a v) s = .next t ∧ Refused s t a true 7) := by
  have half := h.writeRow_critical hc
  exact ⟨fun hm hv => ⟨_, rfl, h.refused (half.trans (State.writeHalf_not_complement hp hm hv _)) (by decide)⟩,
    fun hm => ⟨_, rfl, h.refused (half.trans (State.writeHalf_other_master hp hm v _)) (by decide)⟩⟩

/-- The complement of the pending value stores the pair. -/
theorem Takes.rwcHighWrite_stores (h : Takes s a v b off r k true) (hc : r.rwc ≠ 0)
    (hp : s.rwc.find? (fun q => q.addr == a.addr.toNat - 4) = some p) (hm : p.master = a.master) (hv : v = ~~~p.value)
    (hs : shadowedReg b (off - 4) = false) (hb : a.addr.toNat - 4 ≠ Reg.HRT_BAY_MAP_1) :
    ∃ t : State, exec (.rwcHighWrite a v) s = .next t ∧ Told t a (some 0) ∧ t.reg (a.addr.toNat - 4) = p.value &&& r.rwc ∧
      (∀ q ∈ t.rwc, q.addr ≠ a.addr.toNat - 4) ∧ ∀ x, x ≠ a.addr.toNat - 4 → t.reg x = s.reg x := by
  have hw : s.writeRow a.master a.addr.toNat b off r k true v = .ok 0
      (({ s with rwc := s.rwc.filter (fun q => q.addr != a.addr.toNat - 4) } : State).setReg (a.addr.toNat - 4) (p.value &&& r.rwc)) :=
    (h.writeRow_critical hc).trans (State.writeHalf_complement hp hm hv (by simp [State.storeCritical, State.storePair, hb, hs]))
  refine ⟨_, rfl, ?_⟩
  rw [h.access_ok hw]
  refine ⟨rfl, ?_, fun q hq => ?_, fun x hx => ?_⟩
  · rw [State.reg_send, State.reg_setReg, if_pos rfl]
  · simpa using (List.mem_filter.mp hq).2
  · rw [State.reg_send, State.reg_setReg, if_neg hx]
    rfl

end

theorem rwcPendingExpiry_drops {x : BitVec 40} {s : State} (h : ∃ p ∈ s.rwc, p.addr = x.toNat) :
    ∃ t : State, exec (.rwcPendingExpiry x) s = .next t ∧ t.rwc = s.rwc.filter (fun p => p.addr != x.toNat) ∧
      flag (t.reg Reg.CAP_EVENTS) 1 = true ∧ { t with rwc := s.rwc, regs := s.regs } = s := by
  have found : s.rwc.any (fun p => p.addr == x.toNat) = true := by simpa using h
  refine ⟨_, if_pos found, rfl, ?_, rfl⟩
  rw [State.orReg_eq, State.reg_setReg, if_pos rfl, flag_or]
  exact Bool.or_true _

/-! ## Fields that two words share -/

/-- A field whose bits lie in `m` is that of every word with the same bits there. -/
theorem fld_congr {m v w : Word} (h : ∀ j, m.getLsbD j = true → v.getLsbD j = w.getLsbD j) (hi lo : Nat)
    (hm : lo ≤ hi ∧ ∀ j, lo ≤ j → j ≤ hi → m.getLsbD j = true) : fld v hi lo = fld w hi lo := by
  refine Nat.eq_of_testBit_eq fun i => ?_
  simp only [fld, Nat.testBit_mod_two_pow, Nat.testBit_div_two_pow]
  by_cases hi' : i < hi - lo + 1
  · have bit := h (i + lo) (hm.2 _ (Nat.le_add_left ..) (by omega))
    rw [BitVec.getLsbD, BitVec.getLsbD] at bit
    rw [bit]
  · simp [hi']

/-! ## Indirect tables (R444, R452) -/

/-- The place that an address word selects rests on the bits of its register alone. -/
theorem tblPlace_congr (b : TblBlock) {v w : Word} (h : ∀ j, (tblAddrMask (tblBlock b)).getLsbD j = true → v.getLsbD j = w.getLsbD j) :
    tblPlace (tblBlock b) v = tblPlace (tblBlock b) w := by
  have index : ∀ (n : Nat) (x : Word), x.toNat % 2 ^ (n + 1) = fld x n 0 := fun n x => by simp [fld]
  unfold tblPlace
  cases b with
  | mesh d =>
    have field := fld_congr (m := 0xBFFFFFFF) h
    simp only [tblBlock, indexBits, index 13, field 13 0 (by decide), field 17 14 (by decide), field 23 18 (by decide), field 29 24 (by decide)]
  | hearth =>
    have field := fld_congr (m := 0xBFF00FFF) h
    simp only [tblBlock, indexBits, index 11, field 11 0 (by decide), field 23 20 (by decide), field 29 24 (by decide)]
  | ember =>
    have field := fld_congr (m := 0xBFC00FFF) h
    simp only [tblBlock, indexBits, index 11, field 11 0 (by decide), field 25 22 (by decide), field 29 26 (by decide)]
  | mem m =>
    have field := fld_congr (m := 0x800003FF) h
    simp only [tblBlock, indexBits, index 7, field 7 0 (by decide), field 9 8 (by decide)]
  | cal =>
    have field := fld_congr (m := 0xBFF07FFF) h
    simp only [tblBlock, indexBits, index 14, field 14 0 (by decide), field 23 20 (by decide), field 29 24 (by decide)]
  | fab i =>
    have field := fld_congr (m := 0x8FC00FFF) h
    simp only [tblBlock, indexBits, index 11]
    rw [field 11 0 (by decide), field 25 22 (by decide), field 27 26 (by decide)]
    rfl

theorem tblAddrMask_bit31 (b : Block) : (tblAddrMask b).getLsbD 31 = true := by
  unfold tblAddrMask
  split <;> decide

/-- The bits of an address register hold what was written. -/
theorem getLsbD_next_tblAddrRow (b : Block) (old v : Word) {j : Nat} (h : (tblAddrMask b).getLsbD j = true) :
    ((tblAddrRow b).next old v).getLsbD j = v.getLsbD j := by
  rw [RegRow.getLsbD_next]
  simp [tblAddrRow, h]

theorem State.mayWrite_stoker {s : State} {m : Nat} (h : m = s.stokerId) (b : Block) (off : Nat) (w : Word) : s.mayWrite m b off w = true := by
  simp [State.mayWrite, h]

theorem State.mayRead_stoker {s : State} {m : Nat} (h : m = s.stokerId) (b : Block) (off : Nat) : s.mayRead m b off = true := by
  simp [State.mayRead, h]

/-- The Stoker's identities are not 0. -/
theorem State.stokerId_ne_zero (s : State) : s.stokerId ≠ 0 := by
  unfold State.stokerId
  split <;> decide

theorem mbxAt_tblBlock (b : TblBlock) (off : Nat) : mbxAt (tblBlock b) off = none := by
  cases b <;> rfl

theorem notThere_tbl (b : TblBlock) {n : Nat} (h : n = 0 ∨ n = 8 ∨ n = 12) : notThere (tblBlock b) (tblOffset (tblBlock b) + n) = false := by
  rcases h with rfl | rfl | rfl <;>
  · cases b with
    | fab i => revert i; decide
    | _ => rfl

/-- The registers of an indirect pair stand at multiples of 4 bytes, in the 40 bits of an address. -/
theorem tbl_bounds (b : TblBlock) :
    (tblBlock b).base + tblOffset (tblBlock b) < 2 ^ 40 ∧ ((tblBlock b).base + tblOffset (tblBlock b)) % 4 = 0 := by
  cases b with
  | mesh d | mem d | fab d =>
    have := d.isLt
    simp only [tblBlock, Block.base, tblOffset]
    omega
  | _ => decide

/-- The address register of an indirect pair takes a write of the Stoker in control. -/
theorem takes_tblAddr {s : State} {m : Byte} (b : TblBlock) (v : Word) (hm : m.toNat = s.stokerId) (hi : s.boot.input = true)
    (hu : s.unitUp (tblBlock b) = true) :
    ∃ a : Access, a.master = m ∧ a.size = 4 ∧ a.addr.toNat = (tblBlock b).base + tblOffset (tblBlock b) ∧
      Takes s a v (tblBlock b) (tblOffset (tblBlock b)) (tblAddrRow (tblBlock b)) 0 false := by
  have small := tbl_bounds b
  refine ⟨⟨m, BitVec.ofNat 40 ((tblBlock b).base + tblOffset (tblBlock b)), 4⟩, rfl, rfl, Nat.mod_eq_of_lt small.1, rfl, ?_⟩
  simp only [BitVec.toNat_ofNat, Nat.mod_eq_of_lt small.1]
  refine ⟨small.2, blockOf_tbl b (.inl rfl), mbxAt_tblBlock b _, hi, State.mayWrite_stoker hm .., hu, notThere_tbl b (.inl rfl), (tblRows b).1, ?_⟩
  rw [tblRegs_eq]
  rintro _ ⟨⟩
  constructor <;> simp only <;> omega

theorem inert_tblAddr (b : TblBlock) : Inert (tblBlock b) (tblOffset (tblBlock b)) := by
  cases b <;> simp [tblBlock, tblOffset, Inert]

theorem State.ownRule_tblAddr (s : State) (b : TblBlock) (w v : Word) : s.ownRule (tblBlock b) (tblOffset (tblBlock b)) w v = false := by
  cases b with
  | fab i =>
    have : ¬2 + i.val < 2 := by omega
    simp [tblBlock, tblOffset, State.ownRule, this]
  | _ => simp [tblBlock, tblOffset, State.ownRule]

/-- A write of an indirect address register notes its master, drops the data register's pending half and selects the place written. -/
theorem tblAddrWrite_selects {s : State} {m : Byte} {b : TblBlock} {addr data : Nat} (v : Word) (hm : m.toNat = s.stokerId) (hi : s.boot.input = true)
    (hu : s.unitUp (tblBlock b) = true) (hregs : tblRegs (tblBlock b) = some (addr, data)) :
    ∃ t : State, exec (.tblAddrWrite m b v) s = .next t ∧ t.out.head? = some (.bus m.toNat addr (some 0)) ∧ t.tblMaster.get 0 addr = m ∧
      (∀ p ∈ t.rwc, p.addr ≠ data) ∧ tblPlace (tblBlock b) (t.reg addr) = tblPlace (tblBlock b) v ∧ flag (t.reg addr) 31 = flag v 31 := by
  obtain ⟨a, rfl, hsize, ha, htakes⟩ := takes_tblAddr b v hm hi hu
  obtain rfl : a.addr.toNat = addr := by
    rw [tblRegs_eq] at hregs
    cases hregs
    exact ha
  have hacc := htakes.access_stored rfl (fun h => absurd rfl h) (s.ownRule_tblAddr b _ _)
  rw [State.afterWrite_inert (inert_tblAddr b), hsize] at hacc
  have hexec : exec (.tblAddrWrite a.master b v) s = .next (s.access a.master a.addr.toNat 4 v) := by
    change Host.Outcome.next (s.access a.master ((tblRegs (tblBlock b)).getD (0, 0)).1 4 v) = _
    rw [hregs]
    rfl
  have bits : ∀ j, (tblAddrMask (tblBlock b)).getLsbD j = true →
      ((tblAddrRow (tblBlock b)).next (s.reg a.addr.toNat) v).getLsbD j = v.getLsbD j := fun j => getLsbD_next_tblAddrRow _ _ v
  refine ⟨_, hexec, ?_⟩
  rw [hacc]
  refine ⟨rfl, ?_, fun p hp => ?_, ?_, ?_⟩
  · rw [State.noteTbl_of_tblRegs hregs]
    exact SMap.get_set_same ..
  · rw [State.noteTbl_of_tblRegs hregs] at hp
    simpa using (List.mem_filter.mp hp).2
  · rw [State.reg_send, State.reg_noteTbl_setReg]
    exact tblPlace_congr b bits
  · rw [State.reg_send, State.reg_noteTbl_setReg]
    exact bits 31 (tblAddrMask_bit31 _)

/-- A read of a listed register by a master that may. -/
theorem State.blockRead_row {s : State} {m : Byte} {a off k : Nat} {b : Block} {r : RegRow} {hi : Bool} (hmbx : mbxAt b off = none)
    (hmay : s.mayRead m.toNat b off = true) (hup : s.unitUp b = true) (hthere : notThere b off = false)
    (hrow : findRow (blockRows b) off = some (r, k, hi)) : s.blockRead m a b off = s.readRow m a b off r k hi := by
  simp [State.blockRead, hmbx, hmay, hup, hthere, hrow]

/-- A read of either half of an indirect data register is a read of the table. -/
theorem State.readRow_tblData (s : State) (m : Byte) {b : Block} {addr data : Nat} (hregs : tblRegs b = some (addr, data)) (off : Nat) (r : RegRow)
    (k : Nat) (hi : Bool) : s.readRow m (data + if hi then 4 else 0) b off r k hi = s.tblRead m b addr hi := by
  simp only [State.readRow, hregs]
  cases hi <;> simp

/-- Where the two halves of an indirect data register stand. -/
theorem blockOf_tblData {b : TblBlock} {addr data : Nat} (hregs : tblRegs (tblBlock b) = some (addr, data)) (high : Bool) :
    blockOf (data + if high then 4 else 0) = some (tblBlock b, tblOffset (tblBlock b) + if high then 12 else 8) ∧
      (data + if high then 4 else 0) % 4 = 0 := by
  rw [tblRegs_eq] at hregs
  cases hregs
  have halign := (tbl_bounds b).2
  cases high
  · exact ⟨blockOf_tbl b (.inr (.inl rfl)), by simp; omega⟩
  · exact ⟨blockOf_tbl b (.inr (.inr rfl)), by simp; omega⟩

section
variable {s : State} {m : Byte} {b : TblBlock} {addr data : Nat}

/-- The Stoker in control reads a half of an indirect data register in its table. -/
theorem State.blockRead_tblData (hm : m.toNat = s.stokerId) (hu : s.unitUp (tblBlock b) = true)
    (hregs : tblRegs (tblBlock b) = some (addr, data)) (high : Bool) :
    s.blockRead m (data + if high then 4 else 0) (tblBlock b) (tblOffset (tblBlock b) + if high then 12 else 8) = s.tblRead m (tblBlock b) addr high := by
  obtain ⟨-, hlow, hhigh⟩ := tblRows b
  rw [← s.readRow_tblData m hregs (tblOffset (tblBlock b) + if high then 12 else 8) (tblDataRow (tblBlock b)) 0 high]
  cases high
  · exact State.blockRead_row (mbxAt_tblBlock b _) (State.mayRead_stoker hm _ _) hu (notThere_tbl b (.inr (.inl rfl))) hlow
  · exact State.blockRead_row (mbxAt_tblBlock b _) (State.mayRead_stoker hm _ _) hu (notThere_tbl b (.inr (.inr rfl))) hhigh

theorem exec_tblDataRead (hregs : tblRegs (tblBlock b) = some (addr, data)) (high : Bool) :
    exec (.tblDataRead m b high) s = .next (s.accessRead m (data + if high then 4 else 0) 4) := by
  change Host.Outcome.next (s.accessRead m (((tblRegs (tblBlock b)).getD (0, 0)).2 + if high then 4 else 0) 4) = _
  rw [hregs]
  rfl

theorem State.accessRead_tblData_ok {w : Word} {t : State} {high : Bool} (hm : m.toNat = s.stokerId) (hi : s.boot.input = true)
    (hu : s.unitUp (tblBlock b) = true) (hregs : tblRegs (tblBlock b) = some (addr, data)) (h : s.tblRead m (tblBlock b) addr high = .ok w t) :
    s.accessRead m (data + if high then 4 else 0) 4 = t.send (.bus m.toNat (data + if high then 4 else 0) (some w)) := by
  obtain ⟨hblock, halign⟩ := blockOf_tblData hregs high
  exact State.accessRead_of_ctlRead (State.ctlRead_ok halign hblock hi ((State.blockRead_tblData hm hu hregs high).trans h))

theorem State.accessRead_tblData_err {e : Nat} {high : Bool} (hm : m.toNat = s.stokerId) (hi : s.boot.input = true)
    (hu : s.unitUp (tblBlock b) = true) (hregs : tblRegs (tblBlock b) = some (addr, data)) (h : s.tblRead m (tblBlock b) addr high = .err e) :
    s.accessRead m (data + if high then 4 else 0) 4 =
      (s.busError m (data + if high then 4 else 0) false e).send (.bus m.toNat (data + if high then 4 else 0) none) := by
  obtain ⟨hblock, halign⟩ := blockOf_tblData hregs high
  rw [State.accessRead_of_ctlRead (State.ctlRead_err halign hblock hi ((State.blockRead_tblData hm hu hregs high).trans h)),
    State.countRefusal_of_none (mbxAt_tblBlock b _)]

end

/-- Reading a table word uses free values at most. -/
theorem State.tblValue_draws (s : State) (p : TblPlace) : ∃ n, (s.tblValue p).2 = { s with draws := n } := by
  unfold State.tblValue
  split
  case h_1 =>
    simp only
    split
    · exact ⟨_, rfl⟩
    · exact ⟨_, rfl⟩
  all_goals exact ⟨_, rfl⟩

theorem State.tblRead_of_place {s : State} {m : Byte} {b : Block} {addr : Nat} {p : TblPlace} (hm : m ≠ 0) (hmaster : s.tblMaster.get 0 addr = m)
    (hplace : tblPlace b (s.reg addr) = some p) (hpow : s.portPowered p = true) :
    s.tblRead m b addr false = .ok (s.tblValue p).1 ((s.tblValue p).2.setReg addr (bumpIndex b ((s.tblValue p).2.reg addr))) ∧
      s.tblRead m b addr true = .ok (~~~(s.tblValue p).1) (s.tblValue p).2 := by
  have hok : s.tblAccess m b addr = .ok p := by
    rw [State.tblAccess, if_neg (not_or.mpr ⟨not_not.mpr hmaster, hm⟩), hplace]
    exact if_pos hpow
  simp [State.tblRead, hok]

theorem State.tblRead_other_master {s : State} {m : Byte} {b : Block} {addr : Nat} (h : s.tblMaster.get 0 addr ≠ m) (hi : Bool) :
    s.tblRead m b addr hi = .err 0x0A := by
  have herr : s.tblAccess m b addr = .error 0x0A := if_pos (.inl h)
  simp [State.tblRead, herr]

section
variable {s : State} {m : Byte} {b : TblBlock} {addr data : Nat}

/-- The low half of a data register reads the word selected and advances the index; the high half reads its complement (R452). -/
theorem tblDataRead_reads {p : TblPlace} (hm : m.toNat = s.stokerId) (hi : s.boot.input = true) (hu : s.unitUp (tblBlock b) = true)
    (hregs : tblRegs (tblBlock b) = some (addr, data)) (hmaster : s.tblMaster.get 0 addr = m) (hplace : tblPlace (tblBlock b) (s.reg addr) = some p)
    (hpow : s.portPowered p = true) :
    (∃ t : State, exec (.tblDataRead m b false) s = .next t ∧ t.out.head? = some (.bus m.toNat data (some (s.tblValue p).1)) ∧
      t.reg addr = bumpIndex (tblBlock b) (s.reg addr) ∧ t.tbl = s.tbl) ∧
    ∃ t : State, exec (.tblDataRead m b true) s = .next t ∧ t.out.head? = some (.bus m.toNat (data + 4) (some (~~~(s.tblValue p).1))) ∧
      t.regs = s.regs := by
  have hm0 : m ≠ 0 := fun h => s.stokerId_ne_zero (by rw [← hm, h]; rfl)
  obtain ⟨hlow, hhigh⟩ := State.tblRead_of_place hm0 hmaster hplace hpow
  obtain ⟨n, hn⟩ := s.tblValue_draws p
  constructor
  · refine ⟨_, exec_tblDataRead hregs false, ?_⟩
    rw [State.accessRead_tblData_ok hm hi hu hregs hlow, hn]
    refine ⟨rfl, ?_, rfl⟩
    rw [State.reg_send, State.reg_setReg, if_pos rfl]
    rfl
  · refine ⟨_, exec_tblDataRead hregs true, ?_⟩
    rw [State.accessRead_tblData_ok hm hi hu hregs hhigh, hn]
    exact ⟨rfl, rfl⟩

/-- No register of an indirect pair is one of the bus errors'. -/
theorem tblRegs_ne_capRegs (h : tblRegs (tblBlock b) = some (addr, data)) :
    addr ≠ Reg.CAP_EVENTS ∧ addr ≠ Reg.CAP_ERR_ADDR_LO ∧ addr ≠ Reg.CAP_ERR_INFO := by
  rw [tblRegs_eq] at h
  cases h
  simp only [Reg.CAP_EVENTS, Reg.CAP_ERR_ADDR_LO, Reg.CAP_ERR_INFO]
  cases b <;> simp only [tblBlock, Block.base, tblOffset] <;> omega

theorem tblDataRead_other_master (hm : m.toNat = s.stokerId) (hi : s.boot.input = true) (hu : s.unitUp (tblBlock b) = true)
    (hregs : tblRegs (tblBlock b) = some (addr, data)) (hmaster : s.tblMaster.get 0 addr ≠ m) :
    ∃ t : State, exec (.tblDataRead m b false) s = .next t ∧ t.out.head? = some (.bus m.toNat data none) ∧ t.reg addr = s.reg addr := by
  obtain ⟨h1, h2, h3⟩ := tblRegs_ne_capRegs hregs
  refine ⟨_, exec_tblDataRead hregs false, ?_⟩
  rw [State.accessRead_tblData_err hm hi hu hregs (State.tblRead_other_master hmaster false)]
  exact ⟨rfl, (State.reg_send ..).trans (State.busError_reg_of_ne _ _ _ _ _ h1 h2 h3)⟩

end

/-! ## Times (R234) -/

theorem blockOf_tck {off : Nat} (h : off < 0x10000) : blockOf (0x50000 + off) = some (.tck, off) := by
  unfold blockOf
  iterate 7 rw [if_neg (by omega)]
  rw [if_pos (by omega), Nat.add_sub_cancel_left]

/-- An offset of the tick block where a plain register stands. -/
def PlainTck (off : Nat) : Prop := off % 4 = 0 ∧ off < 0x10000 ∧ ∃ r k, findRow rows_tck off = some (r, k, false) ∧ r.rwc = 0

/-- A read of a time register by the Stoker in control. -/
theorem State.ctlRead_time {s t : State} {m : Byte} {off : Nat} {w : Word} (hm : m.toNat = s.stokerId) (hi : s.boot.input = true) (h : PlainTck off)
    (hread : s.readTime off = some (w, t)) : s.ctlRead m (0x50000 + off) 4 = (some w, t) := by
  obtain ⟨halign, hlt, r, k, hrow, hc⟩ := h
  have hup : s.unitUp .tck = true := by simp [State.unitUp, hi]
  refine State.ctlRead_ok (by omega) (blockOf_tck hlt) hi ?_
  rw [State.blockRead_row rfl (State.mayRead_stoker hm _ _) hup rfl hrow]
  simp [State.readRow, tblRegs, hc, hread]

/-- The state with the high half of a time latched for the high register at `hi`. -/
def State.latched (s : State) (hi v : Nat) : State :=
  { s with hiLatch := (s.hiLatch.put (2 * hi) 1).put (2 * hi + 1) (BitVec.ofNat 32 (v / 2 ^ 32)) }

theorem State.readTime_low {s : State} {off v hi : Nat} (h : s.timePair off = some (v, hi)) :
    s.readTime off = some (BitVec.ofNat 32 v, s.latched hi v) := by
  simp [State.readTime, State.latched, h]

/-- The high half as it was latched, whatever the time is now. -/
theorem State.readTime_latched {s : State} {off v v' hi : Nat} (hn : (s.latched hi v).timePair (off + 4) = none)
    (h : (s.latched hi v).timePair off = some (v', hi)) :
    ∃ t, (s.latched hi v).readTime (off + 4) = some (BitVec.ofNat 32 (v / 2 ^ 32), t) := by
  have h1 : (s.latched hi v).hiLatch.get 0 (2 * hi) = 1 := by simp [State.latched, SMap.get_put]
  have h2 : (s.latched hi v).hiLatch.get 0 (2 * hi + 1) = BitVec.ofNat 32 (v / 2 ^ 32) := by simp [State.latched, SMap.get_put]
  have h4 : ¬off + 4 < 4 := by omega
  simp only [State.readTime, hn, if_neg h4, Nat.add_sub_cancel, h, h1, h2, if_true]
  exact ⟨_, rfl⟩

/-- A low half of a time read latches its high half, which the next read of the high register gives. -/
theorem timeLoRead_latches {a : Access} {s : State} {off v : Nat} (hm : a.master.toNat = s.stokerId) (hi : s.boot.input = true) (hs : a.size = 4)
    (ha : a.addr.toNat = 0x50000 + off) (hlow : PlainTck off) (hhigh : PlainTck (off + 4)) (hp : s.timePair off = some (v, 0x50000 + (off + 4)))
    (hn : ∀ u : State, u.timePair (off + 4) = none) :
    ∃ t : State, exec (.timeLoRead a) s = .next t ∧ Told t a (some (BitVec.ofNat 32 v)) ∧
      (t.ctlRead a.master (0x50000 + (off + 4)) 4).1 = some (BitVec.ofNat 32 (v / 2 ^ 32)) ∧ { t with out := s.out, hiLatch := s.hiLatch } = s := by
  refine ⟨_, rfl, ?_⟩
  rw [hs, ha, State.accessRead_of_ctlRead (State.ctlRead_time hm hi hlow (State.readTime_low hp))]
  refine ⟨?_, ?_, rfl⟩
  · rw [Told, ha]
    rfl
  · obtain ⟨t, ht⟩ := State.readTime_latched (s := s.send (.bus a.master.toNat (0x50000 + off) (some (BitVec.ofNat 32 v)))) (v := v) (hn _) hp
    exact congrArg Prod.fst (State.ctlRead_time (t := t) (by exact hm) (by exact hi) hhigh ht)

/-- The rows of the 37 die times (R234). -/
theorem findRow_dieTime : ∀ i < 37, findRow rows_tck (0x400 + 16 * i) = some (⟨0x400, 37, 16, 0, 0, 0, 0, 0, 0, 0⟩, i, false) ∧
    findRow rows_tck (0x400 + 16 * i + 4) = some (⟨0x404, 37, 16, 0, 0, 0, 0, 0, 0, 0⟩, i, false) := by
  decide

theorem State.timePair_dieTime (s : State) {i : Nat} (h : i < 37) :
    s.timePair (0x400 + 16 * i) = some (s.timeNs i, Reg.TCK_DIE_TIME_HI i) ∧ s.timePair (0x400 + 16 * i + 4) = none := by
  have index : (0x400 + 16 * i - 0x400) / 16 = i := by omega
  unfold State.timePair
  constructor
  · rw [if_neg (by omega), if_neg (by omega), if_pos (by omega), index]
  · rw [if_neg (by omega), if_neg (by omega), if_neg (by omega)]

theorem timeLoRead_of_time {a : Access} {s : State} {lo hi v : Nat} (hm : a.master.toNat = s.stokerId) (hin : s.boot.input = true) (hs : a.size = 4)
    (ha : a.addr.toNat = lo)
    (h : (lo, hi, v) = (Reg.TCK_TIME_LO, Reg.TCK_TIME_HI, s.timeNs 36) ∨
      (lo, hi, v) = (Reg.TCK_BEACON_LO, Reg.TCK_BEACON_HI, s.reg64 Reg.TCK_BEACON_LO Reg.TCK_BEACON_HI) ∨
      ∃ i < 37, (lo, hi, v) = (Reg.TCK_DIE_TIME_LO i, Reg.TCK_DIE_TIME_HI i, s.timeNs i)) :
    ∃ t : State, exec (.timeLoRead a) s = .next t ∧ Told t a (some (BitVec.ofNat 32 v)) ∧
      (t.ctlRead a.master hi 4).1 = some (BitVec.ofNat 32 (v / 2 ^ 32)) ∧ { t with out := s.out, hiLatch := s.hiLatch } = s := by
  rcases h with h | h | ⟨i, hi37, h⟩
  · cases h
    exact timeLoRead_latches (off := 0x050) hm hin hs ha ⟨rfl, by decide, _, _, rfl, rfl⟩ ⟨rfl, by decide, _, _, rfl, rfl⟩ rfl (fun _ => rfl)
  · cases h
    exact timeLoRead_latches (off := 0x058) hm hin hs ha ⟨rfl, by decide, _, _, rfl, rfl⟩ ⟨rfl, by decide, _, _, rfl, rfl⟩ rfl (fun _ => rfl)
  · cases h
    obtain ⟨hrow, hrow'⟩ := findRow_dieTime i hi37
    have hlow : PlainTck (0x400 + 16 * i) := ⟨by omega, by omega, _, _, hrow, rfl⟩
    have hhigh : PlainTck (0x400 + 16 * i + 4) := ⟨by omega, by omega, _, _, hrow', rfl⟩
    have hhi : Reg.TCK_DIE_TIME_HI i = 0x50000 + (0x400 + 16 * i + 4) := by
      simp only [Reg.TCK_DIE_TIME_HI]
      omega
    have hlo : Reg.TCK_DIE_TIME_LO i = 0x50000 + (0x400 + 16 * i) := by
      simp only [Reg.TCK_DIE_TIME_LO]
      omega
    have hpair := (s.timePair_dieTime hi37).1
    rw [hhi] at hpair ⊢
    exact timeLoRead_latches hm hin hs (ha.trans hlo) hlow hhigh hpair (fun u => (u.timePair_dieTime hi37).2)

/-! ## An access without an answer (R448) -/

theorem controlAccessTimeout_error {a : Access} {w : Word} {s u : State} (took : Bool) (h : s.ctlWrite a.master a.addr.toNat a.size w = (true, u)) :
    ∃ t : State, exec (.controlAccessTimeout a (some w) took) s = .next t ∧ Told t a none ∧ flag (t.reg Reg.CAP_EVENTS) 0 = true ∧
      { t with out := s.out, regs := s.regs, sessions := s.sessions } =
        { (if took then u else s) with out := s.out, regs := s.regs, sessions := s.sessions } ∧
      ∀ x, x ≠ Reg.CAP_EVENTS → x ≠ Reg.CAP_ERR_ADDR_LO → x ≠ Reg.CAP_ERR_INFO → t.reg x = (if took then u else s).reg x := by
  have hexec : exec (.controlAccessTimeout a (some w) took) s = .next ((if took then u else s).timeout a true) := by
    change execControlAccessTimeout a (some w) took s = _
    rw [execControlAccessTimeout, h]
    rfl
  refine ⟨_, hexec, rfl, ?_, ?_, fun x h1 h2 h3 => ?_⟩
  · rw [State.timeout, State.reg_send, State.flag_busError_events, State.orReg_eq, State.reg_setReg, if_pos rfl, flag_or]
    simp [flag]
  · exact congrArg (fun y : State => { y with out := s.out, regs := s.regs, sessions := s.sessions })
      (State.busError_eq ((if took then u else s).orReg Reg.CAP_EVENTS 1) ..)
  · rw [State.timeout, State.reg_send, State.busError_reg_of_ne _ _ _ _ _ h1 h2 h3, State.orReg_eq, State.reg_setReg, if_neg h1]

/-! ## A pair whose halves disagree (R411, R413, R414, R453) -/

theorem State.setDomains_reg (s : State) (v : Nat) (ks : List Nat) {x : Nat} (h : ∀ i, x ≠ Reg.PWR_DOM i) : (s.setDomains v ks).reg x = s.reg x := by
  induction ks generalizing s with
  | nil => rfl
  | cons k ks ih => rw [State.setDomains, ih, State.setDomain, State.setRegFld_eq, State.reg_setReg, if_neg (h _)]

theorem State.powerUp_reg (s : State) {x : Nat} (h : ∀ i, x ≠ Reg.PWR_DOM i) : s.powerUp.reg x = s.reg x := by
  rw [State.powerUp, State.setDomain, State.setRegFld_eq, State.reg_setReg, if_neg (h _), State.setDomains_reg _ _ _ h]

theorem State.clearMeasures_reg (s : State) (ws : List Nat) {x : Nat} (h : ∀ w, x ≠ Reg.GLV_MEAS w) : (s.clearMeasures ws).reg x = s.reg x := by
  induction ws generalizing s with
  | nil => rfl
  | cons w ws ih => rw [State.clearMeasures, ih, State.reg_setReg, if_neg (h _)]

theorem State.optionWords_reg (s : State) (ws : List Nat) {x : Nat} (h : ∀ w, x ≠ Reg.CFG_OPTION w) : (s.optionWords ws).reg x = s.reg x := by
  induction ws generalizing s with
  | nil => rfl
  | cons w ws ih => rw [State.optionWords, ih, State.reg_setReg, if_neg (h _)]

theorem State.bindWords_reg (s : State) (cs : List Nat) {x : Nat} (h : ∀ c, x ≠ Reg.MBX_BIND c) : (s.bindWords cs).reg x = s.reg x := by
  induction cs generalizing s with
  | nil => rfl
  | cons c cs ih => rw [State.bindWords, ih, State.reg_setReg, if_neg (h _)]

theorem State.optionRegs_reg (s : State) {x : Nat} (h1 : ∀ w, x ≠ Reg.CFG_OPTION w) (h2 : ∀ c, x ≠ Reg.MBX_BIND c) (h3 : x ≠ Reg.THM_CTRL) :
    s.optionRegs.reg x = s.reg x := by
  rw [State.optionRegs, State.setRegFld_eq, State.reg_setReg, if_neg h3, State.bindWords_reg _ _ h2, State.optionWords_reg _ _ h1]

/-- A Warm reset keeps the record of the last reset. -/
theorem State.cleared_warm_rstLast (s : State) : (s.cleared true).reg Reg.RST_LAST = s.reg Reg.RST_LAST := by
  have dom : ∀ i, Reg.RST_LAST ≠ Reg.PWR_DOM i := fun i => by simp only [Reg.RST_LAST, Reg.PWR_DOM]; omega
  have meas : ∀ i, Reg.RST_LAST ≠ Reg.GLV_MEAS i := fun i => by simp only [Reg.RST_LAST, Reg.GLV_MEAS]; omega
  have opt : ∀ i, Reg.RST_LAST ≠ Reg.CFG_OPTION i := fun i => by simp only [Reg.RST_LAST, Reg.CFG_OPTION]; omega
  have bind : ∀ i, Reg.RST_LAST ≠ Reg.MBX_BIND i := fun i => by simp only [Reg.RST_LAST, Reg.MBX_BIND]; omega
  have kept : inRanges keptWarm Reg.RST_LAST = true := by decide
  have written : ∀ (c : Prop) [Decidable c] (u : State) (a : Nat) (w : Word), Reg.RST_LAST ≠ a →
      (if c then u.setReg a w else u).reg Reg.RST_LAST = u.reg Reg.RST_LAST := fun c _ u a w h => by
    split
    · rw [State.reg_setReg, if_neg h]
    · rfl
  unfold State.cleared
  simp only [if_true]
  rw [State.powerUp_reg _ dom, State.setRegFld_eq, State.reg_setReg, if_neg (by decide), State.setRegFld_eq, State.reg_setReg, if_neg (by decide),
    written _ _ _ _ (by decide), State.reg_setReg, if_neg (by decide), State.optionRegs_reg _ opt bind (by decide), State.clearMeasures_reg _ _ meas]
  exact (SMap.get_keep ..).trans (if_pos kept)

theorem State.warmReset_mode (s : State) (source detail : Nat) : (s.warmReset source detail).mode = .boot := rfl

theorem State.reg_enterMode (s : State) (m : ModState) (x : Nat) : ({ s with mode := m } : State).reg x = s.reg x := rfl

theorem State.warmReset_reg (s : State) (source detail x : Nat) :
    (s.warmReset source detail).reg x = ((s.recordReset source 1 0 detail).cleared true).reg x := State.reg_enterMode _ _ x

/-- RST_LAST after a reset: source, scope, unit of a Die reset, detail. -/
theorem State.recordReset_rstLast (s : State) (source scope unit detail : Nat) : (s.recordReset source scope unit detail).reg Reg.RST_LAST =
    BitVec.ofNat 32 (source * 2 ^ 28 + scope * 2 ^ 26 + (if scope = 2 then unit else 0) * 2 ^ 20 + detail % 2 ^ 16) := by
  rw [State.recordReset, State.reg_setReg, if_pos rfl]

theorem criticalPairSweep_none (base : BitVec 40) (s : State) : exec (.criticalPairSweep base none) s = .next s := rfl

/-- Outside a release, halves that disagree fire a Warm reset of source 7, and the pair's address is on record. -/
theorem criticalPairSweep_resets {base bad : BitVec 40} {s : State} (hmode : s.mode ≠ .off) (hact : s.boot.active = false)
    (hpair : s.pairAt base.toNat bad.toNat = true) :
    ∃ t : State, exec (.criticalPairSweep base (some bad)) s = .next t ∧ t.mode = .boot ∧ fld (t.reg Reg.RST_LAST) 31 26 = 7 * 4 + 1 ∧
      t.reg Reg.CAP_ERR_ADDR_LO = BitVec.ofNat 32 bad.toNat := by
  have hreset : s.criticalError 0 = s.warmReset 7 0 := by simp [State.criticalError, hmode, hact]
  have hexec : exec (.criticalPairSweep base (some bad)) s = .next (((s.warmReset 7 0).setReg Reg.CAP_ERR_ADDR_LO (BitVec.ofNat 32 bad.toNat)).setReg
      Reg.CAP_ERR_INFO (BitVec.ofNat 32 (bad.toNat / 2 ^ 32))) := by
    rw [← hreset]
    exact if_neg (by simp [hmode, hpair])
  refine ⟨_, hexec, ?_, ?_, ?_⟩
  · rw [State.setReg_mode, State.setReg_mode, State.warmReset_mode]
  · rw [State.reg_setReg, if_neg (by decide), State.reg_setReg, if_neg (by decide), State.warmReset_reg, State.cleared_warm_rstLast,
      State.recordReset_rstLast]
    decide
  · rw [State.reg_setReg, if_neg (by decide), State.reg_setReg, if_pos rfl]

/-- Settles O53: the rule of each access, in the order of the statement. -/
theorem controlSpace : Obligations.ControlSpace := by
  refine ⟨fun r old w j => r.next_accessCodes old w j, fun a v s b off r k h hc hl ho => ⟨fun hq => ?_, fun hlr hv => ?_⟩,
    fun a v s b off r k h hc hl hlock => ?_, fun a v s b off r k h hc hlr hset => ?_, fun a v s => ⟨fun h => ?_, fun hs ha hb => ?_, ?_⟩,
    fun a v s b off r k h hc hp => ?_, fun a v s b off r k p h hc hp => ⟨fun hm hv hs hb => ?_, ?_⟩, fun x s h => ?_,
    fun m b v s addr data hm hi hu hregs => ⟨?_, fun p hmaster hplace hpow => ?_, fun hmaster => ?_⟩, fun a s lo hi v hm hin hs ha h => ?_,
    fun a w took s u h => ?_, fun base s => ⟨criticalPairSweep_none base s, fun bad hmode hact hpair => ?_⟩⟩
  · exact Takes.registerWrite_inert h hc hl ho (Quiet.inert hq)
  · exact Takes.lockWrite_locks h hc hl ho hlr hv
  · exact Takes.registerWrite_locked h hc hl hlock
  · exact Takes.lockWrite_keeps h hc hlr hset
  · exact registerWrite_misaligned h
  · exact registerWrite_unlisted hs ha hb
  · intro b off hs ha hb hm hi
    refine ⟨fun hmay => ?_, fun hmay hup => ?_⟩
    · exact registerWrite_blockError hs ha hb hm hi (by decide) (State.blockWrite_forbidden hm hmay)
    · exact registerWrite_blockError hs ha hb hm hi (by decide) (State.blockWrite_down hm hmay hup)
  · exact Takes.rwcLowWrite h hc hp
  · exact Takes.rwcHighWrite_stores h hc hp hm hv hs hb
  · exact Takes.rwcHighWrite_refused h hc hp
  · exact rwcPendingExpiry_drops h
  · exact tblAddrWrite_selects v hm hi hu hregs
  · exact tblDataRead_reads hm hi hu hregs hmaster hplace hpow
  · exact tblDataRead_other_master hm hi hu hregs hmaster
  · exact timeLoRead_of_time hm hin hs ha h
  · exact controlAccessTimeout_error took h
  · exact criticalPairSweep_resets hmode hact hpair

end Sys2Proof.Machine

namespace Sys2Proof.Machine

/-! ## Fields of a word, read and written -/

/-- A field bit by bit. -/
theorem testBit_fld (w : Word) (hi lo i : Nat) : (fld w hi lo).testBit i = (decide (i < hi - lo + 1) && w.getLsbD (i + lo)) := by
  rw [fld, Nat.testBit_mod_two_pow, Nat.testBit_div_two_pow, BitVec.getLsbD]

theorem fld_lt (w : Word) (hi lo : Nat) : fld w hi lo < 2 ^ (hi - lo + 1) := Nat.mod_lt _ (Nat.two_pow_pos _)

/-- A word is what stands above a field, the field, and what stands below it. -/
theorem toNat_eq_fld (w : Word) {hi lo : Nat} (h : lo ≤ hi) :
    w.toNat = 2 ^ (hi + 1) * (w.toNat / 2 ^ (hi + 1)) + 2 ^ lo * fld w hi lo + w.toNat % 2 ^ lo := by
  have hsplit : 2 ^ (hi + 1) = 2 ^ lo * 2 ^ (hi - lo + 1) := by rw [← pow_add]; congr 1; omega
  have hlow := Nat.div_add_mod w.toNat (2 ^ lo)
  have hmid := Nat.div_add_mod (w.toNat / 2 ^ lo) (2 ^ (hi - lo + 1))
  rw [Nat.div_div_eq_div_mul, ← hsplit] at hmid
  calc w.toNat = 2 ^ lo * (w.toNat / 2 ^ lo) + w.toNat % 2 ^ lo := hlow.symm
    _ = 2 ^ lo * (2 ^ (hi - lo + 1) * (w.toNat / 2 ^ (hi + 1)) + fld w hi lo) + w.toNat % 2 ^ lo := by rw [fld, hmid]
    _ = _ := by rw [Nat.mul_add, ← Nat.mul_assoc, ← hsplit]

/-- Bits of a word after a field is replaced. -/
theorem getLsbD_setFld (w : Word) {hi lo : Nat} (v j : Nat) (h : lo ≤ hi) (h32 : hi < 32) :
    (setFld w hi lo v).getLsbD j = if lo ≤ j ∧ j ≤ hi then v.testBit (j - lo) else w.getLsbD j := by
  have hw := toNat_eq_fld w h
  have hbelow : w.toNat % 2 ^ lo < 2 ^ lo := Nat.mod_lt _ (Nat.two_pow_pos _)
  have hsplit : 2 ^ (hi + 1) = 2 ^ lo * 2 ^ (hi - lo + 1) := by rw [← pow_add]; congr 1; omega
  have hnew : w.toNat - fld w hi lo * 2 ^ lo + v % 2 ^ (hi - lo + 1) * 2 ^ lo =
      2 ^ lo * (2 ^ (hi - lo + 1) * (w.toNat / 2 ^ (hi + 1)) + v % 2 ^ (hi - lo + 1)) + w.toNat % 2 ^ lo := by
    rw [Nat.mul_add, ← Nat.mul_assoc, ← hsplit, Nat.mul_comm (fld w hi lo), Nat.mul_comm (v % _)]
    omega
  rw [setFld, hnew, BitVec.getLsbD_ofNat, Nat.testBit_two_pow_mul_add _ hbelow, Nat.testBit_two_pow_mul_add _ (Nat.mod_lt _ (Nat.two_pow_pos _)),
    Nat.testBit_mod_two_pow, Nat.testBit_mod_two_pow, Nat.testBit_div_two_pow, BitVec.getLsbD]
  by_cases hj : j < lo
  · have : j < 32 := by omega
    simp [hj, this]
  · by_cases hj2 : j ≤ hi
    · have h1 : j - lo < hi - lo + 1 := by omega
      have h2 : j < 32 := by omega
      simp [hj, hj2, h1, h2, Nat.le_of_not_lt hj]
    · have h1 : ¬(j - lo < hi - lo + 1) := by omega
      have h2 : j - lo - (hi - lo + 1) + (hi + 1) = j := by omega
      have h3 : w.toNat.testBit j = (decide (j < 32) && w.toNat.testBit j) := by
        by_cases h4 : j < 32
        · simp [h4]
        · simpa [h4] using BitVec.testBit_toNat w ▸ BitVec.getLsbD_of_ge w j (Nat.le_of_not_lt h4)
      simp [hj, hj2, h1, h2, ← h3]

theorem fld_setFld_same (w : Word) {hi lo : Nat} (v : Nat) (h : lo ≤ hi) (h32 : hi < 32) : fld (setFld w hi lo v) hi lo = v % 2 ^ (hi - lo + 1) := by
  refine Nat.eq_of_testBit_eq fun i => ?_
  rw [testBit_fld, getLsbD_setFld _ _ _ h h32, Nat.testBit_mod_two_pow]
  by_cases hi' : i < hi - lo + 1
  · rw [if_pos (by omega), Nat.add_sub_cancel]
  · simp [hi']

theorem fld_setFld_other (w : Word) {hi lo hi' lo' : Nat} (v : Nat) (h : lo ≤ hi) (h32 : hi < 32) (hd : lo' ≤ hi' ∧ (hi' < lo ∨ hi < lo')) :
    fld (setFld w hi lo v) hi' lo' = fld w hi' lo' := by
  refine Nat.eq_of_testBit_eq fun i => ?_
  rw [testBit_fld, testBit_fld, getLsbD_setFld _ _ _ h h32]
  by_cases hi' : i < hi' - lo' + 1
  · rw [if_neg (by omega)]
  · simp [hi']

/-- A part of a field that was replaced rests on the new value alone. -/
theorem fld_setFld_within (w w' : Word) {hi lo hi' lo' : Nat} (v : Nat) (h : lo ≤ lo' ∧ lo' ≤ hi' ∧ hi' ≤ hi) (h32 : hi < 32) :
    fld (setFld w hi lo v) hi' lo' = fld (setFld w' hi lo v) hi' lo' := by
  refine Nat.eq_of_testBit_eq fun i => ?_
  rw [testBit_fld, testBit_fld, getLsbD_setFld _ _ _ (by omega) h32, getLsbD_setFld _ _ _ (by omega) h32]
  by_cases hi' : i < hi' - lo' + 1
  · rw [if_pos (by omega), if_pos (by omega)]
  · simp [hi']

theorem flag_setFld_other (w : Word) {hi lo i : Nat} (v : Nat) (h : lo ≤ hi) (h32 : hi < 32) (hi' : i < lo ∨ hi < i) :
    flag (setFld w hi lo v) i = flag w i := by
  rw [flag, getLsbD_setFld _ _ _ h h32, if_neg (by omega), flag]

theorem flag_setFld_bit (w : Word) {i : Nat} (v : Nat) (h32 : i < 32) : flag (setFld w i i v) i = v.testBit 0 := by
  rw [flag, getLsbD_setFld _ _ _ (Nat.le_refl _) h32, if_pos ⟨Nat.le_refl _, Nat.le_refl _⟩, Nat.sub_self]

theorem flag_setFlag_same (w : Word) {i : Nat} (b : Bool) (h32 : i < 32) : flag (setFlag w i b) i = b := by
  rw [setFlag, flag_setFld_bit _ _ h32]
  cases b <;> rfl

theorem flag_setFlag_other (w : Word) {i j : Nat} (b : Bool) (h32 : i < 32) (h : j ≠ i) : flag (setFlag w i b) j = flag w j :=
  flag_setFld_other _ _ (Nat.le_refl _) h32 (by omega)

/-- A field counted up stops at its largest value. -/
theorem fld_bumpFld_same (w : Word) {hi lo : Nat} (k : Nat) (h : lo ≤ hi) (h32 : hi < 32) :
    fld (bumpFld w hi lo k) hi lo = min (fld w hi lo + k) (2 ^ (hi - lo + 1) - 1) := by
  rw [bumpFld, fld_setFld_same _ _ h h32, satAdd]
  exact Nat.mod_eq_of_lt (by have := Nat.two_pow_pos (hi - lo + 1); omega)

theorem fld_bumpFld_other (w : Word) {hi lo hi' lo' : Nat} (k : Nat) (h : lo ≤ hi) (h32 : hi < 32) (hd : lo' ≤ hi' ∧ (hi' < lo ∨ hi < lo')) :
    fld (bumpFld w hi lo k) hi' lo' = fld w hi' lo' := fld_setFld_other _ _ h h32 hd

theorem fld_word (w : Word) : fld w 31 0 = w.toNat := by
  simpa [fld] using Nat.mod_eq_of_lt w.isLt

/-- A whole register counted up. -/
theorem toNat_bumpFld_word (w : Word) (k : Nat) : (bumpFld w 31 0 k).toNat = min (w.toNat + k) 0xFFFFFFFF := by
  rw [← fld_word, fld_bumpFld_same w k (by decide) (by decide), fld_word]
  rfl

end Sys2Proof.Machine

namespace Sys2Proof.Machine

/-! ## What is on record of a reset (R413) -/

/-- The count of a reset source: RST_COUNT holds two of them a word. -/
def State.sourceCount (s : State) (n : Nat) : Nat :=
  if n % 2 = 1 then fld (s.reg (Reg.RST_COUNT (n / 2))) 31 16 else fld (s.reg (Reg.RST_COUNT (n / 2))) 15 0

/-- A reset source counted. -/
def State.countSource (s : State) (n : Nat) : State :=
  if n % 2 = 1 then s.bumpReg (Reg.RST_COUNT (n / 2)) 31 16 else s.bumpReg (Reg.RST_COUNT (n / 2)) 15 0

theorem State.countSources_cons (s : State) (n : Nat) (ns : List Nat) : s.countSources (n :: ns) = (s.countSource n).countSources ns := rfl

theorem State.recordReset_eq (s : State) (source scope unit detail : Nat) : s.recordReset source scope unit detail =
    ((s.countSource source).bumpReg Reg.RST_TOTAL 31 0).setReg Reg.RST_LAST
      (BitVec.ofNat 32 (source * 2 ^ 28 + scope * 2 ^ 26 + (if scope = 2 then unit else 0) * 2 ^ 20 + detail % 2 ^ 16)) := rfl

theorem rstCount_inj {m n : Nat} (h : Reg.RST_COUNT m = Reg.RST_COUNT n) : m = n := by
  simp only [Reg.RST_COUNT] at h
  omega

theorem State.sourceCount_le (s : State) (n : Nat) : s.sourceCount n ≤ 65535 := by
  unfold State.sourceCount
  split <;> exact Nat.le_of_lt_succ (fld_lt ..)

/-- A source counted raises its own count and no other. -/
theorem State.sourceCount_countSource (s : State) (n m : Nat) :
    (s.countSource n).sourceCount m = min (s.sourceCount m + if n = m then 1 else 0) 65535 := by
  have hle := s.sourceCount_le m
  by_cases hhalf : m / 2 = n / 2
  · by_cases hodd : m % 2 = n % 2
    · obtain rfl : n = m := by omega
      rcases Nat.mod_two_eq_zero_or_one n with h | h <;>
        simp [State.sourceCount, State.countSource, State.bumpReg_eq, h, fld_bumpFld_same]
    · have hne : n ≠ m := fun h => hodd (h ▸ rfl)
      rw [if_neg hne, Nat.add_zero, Nat.min_eq_left hle]
      rcases Nat.mod_two_eq_zero_or_one n with h | h
      · have hm : m % 2 = 1 := by omega
        simp [State.sourceCount, State.countSource, State.bumpReg_eq, h, hm, hhalf, fld_bumpFld_other]
      · have hm : m % 2 = 0 := by omega
        simp [State.sourceCount, State.countSource, State.bumpReg_eq, h, hm, hhalf, fld_bumpFld_other]
  · have hne : n ≠ m := fun h => hhalf (h ▸ rfl)
    have hreg : (s.countSource n).reg (Reg.RST_COUNT (m / 2)) = s.reg (Reg.RST_COUNT (m / 2)) := by
      unfold State.countSource
      split <;> rw [State.bumpReg_eq, State.reg_setReg, if_neg (fun h => hhalf (rstCount_inj h))]
    rw [if_neg hne, Nat.add_zero, Nat.min_eq_left hle, State.sourceCount, State.sourceCount, hreg]

theorem State.sourceCount_countSources (s : State) (ns : List Nat) (m : Nat) :
    (s.countSources ns).sourceCount m = min (s.sourceCount m + ns.count m) 65535 := by
  induction ns generalizing s with
  | nil => exact (Nat.min_eq_left (s.sourceCount_le m)).symm
  | cons n ns ih =>
    rw [State.countSources_cons, ih, State.sourceCount_countSource, List.count_cons]
    simp only [beq_iff_eq]
    omega

/-- Registers other than the sources' counts. -/
theorem State.reg_countSource (s : State) (n : Nat) {a : Nat} (h : ∀ k, a ≠ Reg.RST_COUNT k) : (s.countSource n).reg a = s.reg a := by
  unfold State.countSource
  split <;> rw [State.bumpReg_eq, State.reg_setReg, if_neg (h _)]

theorem State.reg_countSources (s : State) (ns : List Nat) {a : Nat} (h : ∀ k, a ≠ Reg.RST_COUNT k) : (s.countSources ns).reg a = s.reg a := by
  induction ns generalizing s with
  | nil => rfl
  | cons n ns ih => rw [State.countSources_cons, ih, s.reg_countSource n h]

/-- The sources that fire together for a scope, each with its detail. -/
def firedSources (source : Fin 8) (detail : BitVec 16) (also : List Firing) : List (Nat × Nat) :=
  (source.val, detail.toNat) :: (also.filter (fun f => f.same)).map (fun f => (f.source.val, f.detail.toNat))

/-- The lowest code wins: the fold keeps a pair it has met, and none it has met has a lower code. -/
theorem foldl_lead (l : List Firing) (p : Nat × Nat) :
    let r := l.foldl (fun l f => if f.source.val < l.1 then (f.source.val, f.detail.toNat) else l) p
    r ∈ p :: l.map (fun f => (f.source.val, f.detail.toNat)) ∧ ∀ c ∈ p :: l.map (fun f => (f.source.val, f.detail.toNat)), r.1 ≤ c.1 := by
  induction l generalizing p with
  | nil => simp
  | cons f l ih =>
    rw [List.foldl_cons, List.map_cons]
    by_cases hlt : f.source.val < p.1
    · rw [if_pos hlt]
      obtain ⟨hmem, hle⟩ := ih (f.source.val, f.detail.toNat)
      exact ⟨List.mem_cons_of_mem _ hmem, List.forall_mem_cons.mpr ⟨Nat.le_trans (hle _ List.mem_cons_self) (Nat.le_of_lt hlt), hle⟩⟩
    · rw [if_neg hlt]
      obtain ⟨hmem, hle⟩ := ih p
      obtain ⟨hp, hl⟩ := List.forall_mem_cons.mp hle
      exact ⟨List.mem_cons.mpr ((List.mem_cons.mp hmem).imp_right (List.mem_cons_of_mem _)),
        List.forall_mem_cons.mpr ⟨hp, List.forall_mem_cons.mpr ⟨Nat.le_trans hp (Nat.le_of_not_lt hlt), hl⟩⟩⟩

theorem leadSource_mem (source : Fin 8) (detail : BitVec 16) (also : List Firing) :
    leadSource source detail.toNat also ∈ firedSources source detail also := (foldl_lead _ _).1

theorem leadSource_le {source : Fin 8} {detail : BitVec 16} {also : List Firing} {c : Nat × Nat} (h : c ∈ firedSources source detail also) :
    (leadSource source detail.toNat also).1 ≤ c.1 := (foldl_lead _ _).2 c h

/-- The source recorded and the rest are all the sources that fire. -/
theorem count_lead_add_rest (source : Fin 8) (detail : BitVec 16) (also : List Firing) (n : Nat) :
    (restSources source detail.toNat also).count n + (if (leadSource source detail.toNat also).1 = n then 1 else 0) =
      (source.val :: also.map (fun f => f.source.val)).count n := by
  have hmem : (leadSource source detail.toNat also).1 ∈ source.val :: also.map (fun f => f.source.val) := by
    have := leadSource_mem source detail also
    simp only [firedSources, List.mem_cons, List.mem_map, List.mem_filter] at this ⊢
    rcases this with h | ⟨f, ⟨hf, -⟩, h⟩
    · exact .inl (congrArg Prod.fst h)
    · exact .inr ⟨f, hf, congrArg Prod.fst h⟩
  rw [(List.perm_cons_erase hmem).count_eq n, List.count_cons]
  simp [restSources]

/-- A reset on record: of the sources that ask for its scope the lowest-coded with its detail, scope and unit, one reset more, and every source that
fired counted once more. -/
def Recorded (s t : State) (source : Fin 8) (detail : BitVec 16) (also : List Firing) (scope unit : Nat) : Prop :=
  (∃ m d, (m, d) ∈ firedSources source detail also ∧ (∀ c ∈ firedSources source detail also, m ≤ c.1) ∧
    t.reg Reg.RST_LAST = BitVec.ofNat 32 (m * 2 ^ 28 + scope * 2 ^ 26 + unit * 2 ^ 20 + d)) ∧
    (t.reg Reg.RST_TOTAL).toNat = min ((s.reg Reg.RST_TOTAL).toNat + 1) 0xFFFFFFFF ∧
    ∀ n < 8, t.sourceCount n = min (s.sourceCount n + (source.val :: also.map (fun f => f.source.val)).count n) 65535

/-- The registers of the record. -/
abbrev recordRegs (a : Nat) : Prop := Reg.RST_LAST ≤ a ∧ a < Reg.RST_STATUS

/-- A state with the registers of a record that was made after the rest of the sources were counted. -/
theorem recorded_of_recordReset {s t : State} {source : Fin 8} {detail : BitVec 16} {also : List Firing} {scope unit : Nat} (hunit : scope ≠ 2 → unit = 0)
    (h : ∀ a, recordRegs a → t.reg a = ((s.countSources (restSources source detail.toNat also)).recordReset
      (leadSource source detail.toNat also).1 scope unit (leadSource source detail.toNat also).2).reg a) :
    Recorded s t source detail also scope unit := by
  have hlead := leadSource_mem source detail also
  have hdetail : (leadSource source detail.toNat also).2 % 2 ^ 16 = (leadSource source detail.toNat also).2 := by
    refine Nat.mod_eq_of_lt ?_
    simp only [firedSources, List.mem_cons, List.mem_map] at hlead
    rcases hlead with e | ⟨f, -, e⟩
    · rw [e]; exact detail.isLt
    · rw [← e]; exact f.detail.isLt
  have hname : (if scope = 2 then unit else 0) = unit := by
    split
    · rfl
    · exact (hunit ‹_›).symm
  refine ⟨⟨(leadSource source detail.toNat also).1, (leadSource source detail.toNat also).2, hlead, fun c hc => leadSource_le hc, ?_⟩, ?_, fun n hn => ?_⟩
  · rw [h _ (by decide), State.recordReset_rstLast, hname, hdetail]
  · have hcount : ∀ k, Reg.RST_TOTAL ≠ Reg.RST_COUNT k := fun k => by simp only [Reg.RST_TOTAL, Reg.RST_COUNT]; omega
    rw [h _ (by decide), State.recordReset_eq, State.reg_setReg, if_neg (by decide), State.bumpReg_eq, State.reg_setReg, if_pos rfl, toNat_bumpFld_word,
      State.reg_countSource _ _ hcount, State.reg_countSources _ _ hcount]
  · have hreg : t.reg (Reg.RST_COUNT (n / 2)) =
        ((s.countSources (restSources source detail.toNat also)).countSource (leadSource source detail.toNat also).1).reg (Reg.RST_COUNT (n / 2)) := by
      rw [h _ (by simp only [recordRegs, Reg.RST_LAST, Reg.RST_STATUS, Reg.RST_COUNT]; omega), State.recordReset_eq, State.reg_setReg,
        if_neg (by simp only [Reg.RST_LAST, Reg.RST_COUNT]; omega), State.bumpReg_eq, State.reg_setReg,
        if_neg (by simp only [Reg.RST_TOTAL, Reg.RST_COUNT]; omega)]
    have hsame : t.sourceCount n =
        ((s.countSources (restSources source detail.toNat also)).countSource (leadSource source detail.toNat also).1).sourceCount n := by
      simp only [State.sourceCount, hreg]
    rw [hsame, State.sourceCount_countSource, State.sourceCount_countSources, ← count_lead_add_rest source detail also]
    omega

end Sys2Proof.Machine

namespace Sys2Proof.Machine

/-! ## What a Cold and a Warm reset leave (R414, R417) -/

/-- Two states that differ in their registers alone. -/
def RegsOnly (s t : State) : Prop := ∃ r, t = { s with regs := r }

section
variable {s t u : State}

theorem RegsOnly.refl (s : State) : RegsOnly s s := ⟨s.regs, rfl⟩

theorem RegsOnly.trans (h : RegsOnly s t) (h' : RegsOnly t u) : RegsOnly s u := by
  obtain ⟨r, rfl⟩ := h
  obtain ⟨r', rfl⟩ := h'
  exact ⟨r', rfl⟩

theorem State.setReg_regsOnly (s : State) (a : Nat) (w : Word) : RegsOnly s (s.setReg a w) := ⟨_, rfl⟩

theorem RegsOnly.setReg (h : RegsOnly s t) (a : Nat) (w : Word) : RegsOnly s (t.setReg a w) := h.trans (t.setReg_regsOnly a w)

theorem RegsOnly.restore (h : RegsOnly s t) : { t with regs := s.regs } = s := by
  obtain ⟨r, rfl⟩ := h
  rfl

theorem RegsOnly.ite {c : Prop} [Decidable c] (h : RegsOnly s t) (h' : RegsOnly s u) : RegsOnly s (if c then t else u) :=
  iteInduction (fun _ => h) (fun _ => h')

end

theorem State.countSources_regsOnly (s : State) (ns : List Nat) : RegsOnly s (s.countSources ns) := by
  induction ns generalizing s with
  | nil => exact .refl s
  | cons n ns ih => exact (RegsOnly.ite (s.setReg_regsOnly ..) (s.setReg_regsOnly ..)).trans (ih _)

theorem State.recordReset_regsOnly (s : State) (source scope unit detail : Nat) : RegsOnly s (s.recordReset source scope unit detail) :=
  ((RegsOnly.ite (s.setReg_regsOnly ..) (s.setReg_regsOnly ..)).setReg ..).setReg ..

theorem State.setDomains_regsOnly (s : State) (v : Nat) (ks : List Nat) : RegsOnly s (s.setDomains v ks) := by
  induction ks generalizing s with
  | nil => exact .refl s
  | cons k ks ih => exact (s.setReg_regsOnly ..).trans (ih _)

theorem State.clearMeasures_regsOnly (s : State) (ws : List Nat) : RegsOnly s (s.clearMeasures ws) := by
  induction ws generalizing s with
  | nil => exact .refl s
  | cons w ws ih => exact (s.setReg_regsOnly ..).trans (ih _)

theorem State.optionWords_regsOnly (s : State) (ws : List Nat) : RegsOnly s (s.optionWords ws) := by
  induction ws generalizing s with
  | nil => exact .refl s
  | cons w ws ih => exact (s.setReg_regsOnly ..).trans (ih _)

theorem State.bindWords_regsOnly (s : State) (cs : List Nat) : RegsOnly s (s.bindWords cs) := by
  induction cs generalizing s with
  | nil => exact .refl s
  | cons c cs ih => exact (s.setReg_regsOnly ..).trans (ih _)

theorem State.optionRegs_regsOnly (s : State) : RegsOnly s s.optionRegs :=
  ((s.optionWords_regsOnly _).trans (State.bindWords_regsOnly ..)).setReg ..

theorem State.powerUp_regsOnly (s : State) : RegsOnly s s.powerUp := (s.setDomains_regsOnly ..).setReg ..

theorem State.reg_setDomains (s : State) (v : Nat) (ks : List Nat) {a : Nat} (h : ∀ k ∈ ks, a ≠ Reg.PWR_DOM (k / 16)) :
    (s.setDomains v ks).reg a = s.reg a := by
  induction ks generalizing s with
  | nil => rfl
  | cons k ks ih =>
    obtain ⟨hk, hks⟩ := List.forall_mem_cons.mp h
    rw [State.setDomains, ih _ hks, State.setDomain, State.setRegFld_eq, State.reg_setReg, if_neg hk]

theorem State.reg_clearMeasures (s : State) (ws : List Nat) (a : Nat) :
    (s.clearMeasures ws).reg a = if a ∈ ws.map Reg.GLV_MEAS then 0 else s.reg a := by
  induction ws generalizing s with
  | nil => rfl
  | cons w ws ih =>
    rw [State.clearMeasures, ih, State.reg_setReg, List.map_cons]
    by_cases ha : a ∈ ws.map Reg.GLV_MEAS
    · rw [if_pos ha, if_pos (List.mem_cons_of_mem _ ha)]
    · simp only [List.mem_cons, ha, or_false, if_false]

theorem State.reg_optionWords (s : State) (ws : List Nat) {a : Nat} (h : a ∉ ws.map Reg.CFG_OPTION) : (s.optionWords ws).reg a = s.reg a := by
  induction ws generalizing s with
  | nil => rfl
  | cons w ws ih =>
    rw [List.map_cons, List.mem_cons, not_or] at h
    rw [State.optionWords, ih _ h.2, State.reg_setReg, if_neg h.1]

theorem State.reg_bindWords (s : State) (cs : List Nat) {a : Nat} (h : a ∉ cs.map Reg.MBX_BIND) : (s.bindWords cs).reg a = s.reg a := by
  induction cs generalizing s with
  | nil => rfl
  | cons c cs ih =>
    rw [List.map_cons, List.mem_cons, not_or] at h
    rw [State.bindWords, ih _ h.2, State.reg_setReg, if_neg h.1]

/-- The state of a Cold or Warm reset before its registers are written: everything at its reset value but what R414 keeps. -/
def State.emptied (s : State) (warm : Bool) : State :=
  { State.reset with
    pending := s.pending, out := s.out, draws := s.draws, mode := s.mode
    regs := s.regs.keep (fun a => inRanges (if warm then keptWarm else keptAlways) a)
    tbl := if warm then s.tbl.keep isCalibration else []
    clock := if warm then s.clock.keep (fun u => u == 36) else []
    thermal := s.thermal.through warm
    light := if warm then { LightState.reset with thresh := s.light.thresh, heaters := s.light.heaters } else LightState.reset
    glove := if warm then { s.glove with quotes := [], image := GloveState.reset.image, degraded := GloveState.reset.degraded } else GloveState.reset
    host := { HostState.reset with i2c := s.host.i2c }
    boot := s.boot.restart warm }

/-- The registers of the set in use as a Cold or Warm reset leaves them. -/
def State.emptiedRegs (s : State) (warm : Bool) : State :=
  if warm then ((s.emptied true).clearMeasures (List.range 32)).optionRegs.setReg Reg.GLV_STATUS ((s.emptied true).reg Reg.GLV_STATUS &&& 0xE0000000)
  else (s.emptied false).setReg Reg.GLV_STATUS ((s.emptied false).reg Reg.GLV_STATUS &&& 0x20000000)

theorem State.cleared_eq (s : State) (warm : Bool) : s.cleared warm =
    (((if s.boot.cmd.isSome then (s.emptiedRegs warm).setReg Reg.CFG_CMD_STATUS 0x10070000 else s.emptiedRegs warm).setRegFld
      Reg.THM_STATUS 6 6 0).setRegFld Reg.PWR_GOV 23 0 0).powerUp := by
  cases warm
  · unfold State.cleared State.emptiedRegs State.emptied
    simp only [Bool.false_eq_true, if_false]
  · unfold State.cleared State.emptiedRegs State.emptied
    simp only [if_true]

theorem State.emptiedRegs_regsOnly (s : State) (warm : Bool) : RegsOnly (s.emptied warm) (s.emptiedRegs warm) := by
  cases warm with
  | false => exact State.setReg_regsOnly ..
  | true => exact ((State.clearMeasures_regsOnly ..).trans (State.optionRegs_regsOnly _)).setReg ..

/-- Beside its registers, the module after a Cold or Warm reset. -/
theorem State.cleared_regsOnly (s : State) (warm : Bool) : RegsOnly (s.emptied warm) (s.cleared warm) := by
  have h := s.emptiedRegs_regsOnly warm
  rw [State.cleared_eq]
  exact (((RegsOnly.ite (h.setReg ..) h).setReg ..).setReg ..).trans (State.powerUp_regsOnly _)

/-- The registers that a Cold or Warm reset writes. -/
def resetWrites (warm : Bool) : List Nat :=
  [Reg.CFG_CMD_STATUS, Reg.GLV_STATUS, Reg.THM_STATUS, Reg.PWR_GOV] ++ (List.range 5).map Reg.PWR_DOM ++
    if warm then Reg.THM_CTRL :: ((List.range 32).map Reg.CFG_OPTION ++ (List.range 32).map Reg.MBX_BIND) else []

theorem State.reg_emptied (s : State) (warm : Bool) (a : Nat) :
    (s.emptied warm).reg a = if inRanges (if warm then keptWarm else keptAlways) a then s.reg a else regReset a := SMap.get_keep ..

theorem not_mem_range_pwrDom {a k : Nat} (h : a ∉ (List.range 5).map Reg.PWR_DOM) (hk : k < 80) : a ≠ Reg.PWR_DOM (k / 16) :=
  fun e => h (List.mem_map.mpr ⟨k / 16, List.mem_range.mpr (by omega), e.symm⟩)

theorem State.reg_powerUp (s : State) {a : Nat} (h : a ∉ (List.range 5).map Reg.PWR_DOM) : s.powerUp.reg a = s.reg a := by
  rw [State.powerUp, State.setDomain, State.setRegFld_eq, State.reg_setReg, if_neg (not_mem_range_pwrDom h (by decide)),
    State.reg_setDomains _ _ _ fun k hk => not_mem_range_pwrDom h (List.mem_range.mp (List.mem_filter.mp hk).1)]

theorem State.reg_optionRegs (s : State) {a : Nat} (h : a ∉ Reg.THM_CTRL :: ((List.range 32).map Reg.CFG_OPTION ++ (List.range 32).map Reg.MBX_BIND)) :
    s.optionRegs.reg a = s.reg a := by
  simp only [List.mem_cons, List.mem_append, not_or] at h
  obtain ⟨hthm, hopt, hbind⟩ := h
  rw [State.optionRegs, State.setRegFld_eq, State.reg_setReg, if_neg hthm, State.reg_bindWords _ _ hbind, State.reg_optionWords _ _ hopt]

/-- A register that a Cold or Warm reset does not write itself is kept or comes to its reset value; the measurements of a Warm reset are zero (R436). -/
theorem State.reg_cleared (s : State) {warm : Bool} {a : Nat} (h : a ∉ resetWrites warm) :
    (s.cleared warm).reg a = if warm = true ∧ a ∈ (List.range 32).map Reg.GLV_MEAS then 0
      else if inRanges (if warm then keptWarm else keptAlways) a then s.reg a else regReset a := by
  simp only [resetWrites, List.mem_append, List.mem_cons, List.not_mem_nil, not_or, or_false] at h
  obtain ⟨⟨⟨hcmd, hglv, hthm, hgov⟩, hdom⟩, hopt⟩ := h
  have hif : ∀ (c : Prop) [Decidable c] (u : State) (w : Word), (if c then u.setReg Reg.CFG_CMD_STATUS w else u).reg a = u.reg a := fun c _ u w => by
    split
    · rw [State.reg_setReg, if_neg hcmd]
    · rfl
  rw [State.cleared_eq, State.reg_powerUp _ hdom, State.setRegFld_eq, State.reg_setReg, if_neg hgov, State.setRegFld_eq, State.reg_setReg, if_neg hthm,
    hif]
  cases warm with
  | false =>
    rw [if_neg (by simp), ← State.reg_emptied]
    exact (State.reg_setReg ..).trans (if_neg hglv)
  | true =>
    rw [← State.reg_emptied]
    simp only [true_and]
    refine ((State.reg_setReg ..).trans (if_neg hglv)).trans ?_
    rw [State.reg_optionRegs _ hopt, State.reg_clearMeasures]

end Sys2Proof.Machine

namespace Sys2Proof.Machine

/-! ## A Cold reset -/

theorem State.applyRevert_boot (s : State) : s.applyRevert.boot = { s.boot with revert := none } := by
  unfold State.applyRevert
  split
  next h => rw [← h]
  next => rfl

/-- Beside CFG_SELECT and the pin asked for, CONFIG_REVERT's pin changes nothing. -/
theorem State.applyRevert_writes (s : State) : ∃ r b, s.applyRevert = { s with regs := r, boot := b } := by
  unfold State.applyRevert
  split
  · exact ⟨_, _, rfl⟩
  · exact ⟨_, _, rfl⟩

theorem State.reg_applyRevert (s : State) {a : Nat} (h : a ≠ Reg.CFG_SELECT) : s.applyRevert.reg a = s.reg a := by
  unfold State.applyRevert
  split
  · rfl
  · exact (State.reg_setReg ..).trans (if_neg h)

theorem recordRegs_kept {a : Nat} (h : recordRegs a) (warm : Bool) : inRanges (if warm then keptWarm else keptAlways) a = true := by
  have hmem : (Reg.RST_LAST, Reg.RST_STATUS) ∈ (if warm then keptWarm else keptAlways) := by cases warm <;> simp [keptWarm, keptAlways]
  exact List.any_eq_true.mpr ⟨_, hmem, decide_eq_true h⟩

theorem recordRegs_not_written {a : Nat} (h : recordRegs a) (warm : Bool) : a ∉ resetWrites warm ∧ a ∉ (List.range 32).map Reg.GLV_MEAS := by
  have hwrites : ∀ x ∈ resetWrites warm, Reg.RST_STATUS ≤ x := by cases warm <;> decide
  have hmeas : ∀ x ∈ (List.range 32).map Reg.GLV_MEAS, Reg.RST_STATUS ≤ x := by decide
  exact ⟨fun m => absurd (hwrites a m) (Nat.not_le_of_lt h.2), fun m => absurd (hmeas a m) (Nat.not_le_of_lt h.2)⟩

/-- The record of resets outlives a Cold and a Warm reset. -/
theorem State.reg_cleared_record (s : State) (warm : Bool) {a : Nat} (h : recordRegs a) : (s.cleared warm).reg a = s.reg a := by
  obtain ⟨hwrites, hmeas⟩ := recordRegs_not_written h warm
  rw [s.reg_cleared hwrites, if_neg (fun c => hmeas c.2), if_pos (recordRegs_kept h warm)]

theorem State.coldReset_reg (s : State) (source detail x : Nat) :
    (s.coldReset source detail).reg x = (((s.recordReset source 0 0 detail).applyRevert).cleared false).reg x := State.reg_enterMode _ _ x

theorem State.reg_coldReset_record (s : State) (source detail : Nat) {a : Nat} (h : recordRegs a) :
    (s.coldReset source detail).reg a = (s.recordReset source 0 0 detail).reg a := by
  have hsel : a ≠ Reg.CFG_SELECT := by
    have := h.2
    simp only [Reg.RST_STATUS, Reg.CFG_SELECT] at this ⊢
    omega
  rw [State.coldReset_reg, State.reg_cleared_record _ false h, State.reg_applyRevert _ hsel]

theorem State.reg_coldReset (s : State) (source detail : Nat) {a : Nat} (h : a ∉ resetWrites false) :
    (s.coldReset source detail).reg a =
      if inRanges keptAlways a then ((s.recordReset source 0 0 detail).applyRevert).reg a else regReset a := by
  rw [State.coldReset_reg, State.reg_cleared _ h, if_neg (by simp)]
  simp only [Bool.false_eq_true, if_false]

/-- Beside its registers, the module after a Cold reset: empty, its release at step 1. -/
theorem State.coldReset_writes (s : State) (source detail : Nat) : ∃ r, s.coldReset source detail =
    { State.reset with pending := s.pending, out := s.out, draws := s.draws, mode := .optionLoad, regs := r, thermal := s.thermal.through false,
                       host := { HostState.reset with i2c := s.host.i2c }, boot := { s.boot with revert := none }.restart false } := by
  obtain ⟨r1, h1⟩ := s.recordReset_regsOnly source 0 0 detail
  obtain ⟨r2, b, h2⟩ := (s.recordReset source 0 0 detail).applyRevert_writes
  obtain ⟨r3, h3⟩ := ((s.recordReset source 0 0 detail).applyRevert).cleared_regsOnly false
  have hb := (s.recordReset source 0 0 detail).applyRevert_boot
  rw [State.coldReset, h3]
  clear h3
  refine ⟨r3, ?_⟩
  generalize (s.recordReset source 0 0 detail).applyRevert = u at *
  generalize s.recordReset source 0 0 detail = v at *
  subst h1 h2
  simp only at hb
  subst hb
  rfl

theorem BootState.restart_interrupt (b : BootState) : b.interrupt.flash = b.flash ∧ b.interrupt.input = b.input ∧ b.interrupt.held = b.held ∧
    b.interrupt.vbak = b.vbak ∧ b.interrupt.vbakSeen = b.vbakSeen ∧ b.interrupt.revert = b.revert := by
  unfold BootState.interrupt
  split <;> exact ⟨rfl, rfl, rfl, rfl, rfl, rfl⟩

theorem BootState.restart_keeps (b : BootState) (warm : Bool) : (b.restart warm).input = b.input ∧ (b.restart warm).held = b.held ∧
    (b.restart warm).flash = b.flash ∧ (b.restart warm).revert = b.revert := by
  obtain ⟨hflash, hinput, hheld, -, -, hrevert⟩ := b.restart_interrupt
  exact ⟨hinput, hheld, hflash, hrevert⟩

end Sys2Proof.Machine

namespace Sys2Proof.Machine

/-! ## Power of the slot (R20, R21, R411, R464 to R466) -/

/-- What a Cold reset of a state with this boot leaves of the release. -/
theorem State.coldReset_boot (s : State) (source detail : Nat) : (s.coldReset source detail).mode = .optionLoad ∧
    (s.coldReset source detail).boot = { s.boot with revert := none }.restart false := by
  obtain ⟨r, h⟩ := s.coldReset_writes source detail
  rw [h]
  exact ⟨rfl, rfl⟩

/-- RST_LAST after a Cold reset, whatever its source's detail: source and scope. -/
theorem State.coldReset_rstLast (s : State) (source detail : Nat) : (s.coldReset source detail).reg Reg.RST_LAST =
    BitVec.ofNat 32 (source * 2 ^ 28 + 0 * 2 ^ 26 + 0 * 2 ^ 20 + detail % 2 ^ 16) := by
  rw [State.reg_coldReset_record _ _ _ (by decide), State.recordReset_rstLast]
  rfl

/-- The input comes while VBAK is there: the power-on reset. -/
theorem inputQualified_powersOn {s : State} (hin : s.boot.input = false) (hoff : s.mode = .off) (hv : s.boot.vbak = true) :
    ∃ t : State, exec .inputQualified s = .next t ∧ t.mode = .optionLoad ∧ t.boot.input = true ∧ t.boot.active = true ∧ t.boot.step = 1 ∧
      fld (t.reg Reg.RST_LAST) 31 26 = 0 := by
  have hexec : exec .inputQualified s = .next (({ s with boot := { s.boot with input := true } } : State).coldReset 0 0) := by
    refine (if_neg (by simp [hin])).trans (congrArg _ ?_)
    exact if_pos ⟨hoff, rfl, hv⟩
  obtain ⟨hmode, hboot⟩ := ({ s with boot := { s.boot with input := true } } : State).coldReset_boot 0 0
  refine ⟨_, hexec, hmode, ?_, ?_, ?_, ?_⟩
  · rw [hboot, (BootState.restart_keeps _ _).1]
  · rw [hboot]; rfl
  · rw [hboot]; rfl
  · rw [State.coldReset_rstLast]; decide

theorem inputQualified_waits {s : State} (hin : s.boot.input = false) (hv : s.boot.vbak = false) :
    exec .inputQualified s = .next { s with boot := { s.boot with input := true } } := by
  refine (if_neg (by simp [hin])).trans (congrArg _ ?_)
  exact if_neg (fun h => by simp [hv] at h)

theorem inputQualified_again {s : State} (hin : s.boot.input = true) : exec .inputQualified s = .next s := if_pos hin

/-- The registers Off keeps, and GLV_STATUS, which it writes, are all that does not come to its reset value. -/
theorem State.reg_powerOff (s : State) {a : Nat} (h : a ≠ Reg.GLV_STATUS) :
    s.powerOff.reg a = if inRanges keptOff a then s.reg a else regReset a := by
  rw [State.powerOff, State.reg_setReg, if_neg h]
  exact SMap.get_keep ..

/-- The backup domain fades only where neither VBAK nor the input is there. -/
theorem State.backupFade_writes (s : State) : ∃ b, s.backupFade = { s with boot := { s.boot with vbakSeen := b } } := by
  unfold State.backupFade
  split
  · exact ⟨s.boot.vbakSeen, rfl⟩
  · exact ⟨_, rfl⟩

theorem State.backupFade_seen {s : State} (h : s.backupFade.boot.vbakSeen = true) : (s.boot.vbak || s.boot.input) = true := by
  unfold State.backupFade at h
  split at h
  · assumption
  · cases h

/-- Loss of the input leaves the backup domain, flash and roots. -/
theorem inputLost_off {s : State} (hin : s.boot.input = true) :
    ∃ t : State, exec .inputLost s = .next t ∧ t.mode = .off ∧ t.boot.input = false ∧ t.boot.flash = s.boot.flash ∧ t.tiles = [] ∧ t.stackMem = [] ∧
      t.sessions = [] ∧ (∀ a, inRanges keptOff a = true → t.reg a = s.reg a) ∧
      (∀ a, inRanges keptOff a = false → a ≠ Reg.GLV_STATUS → t.reg a = regReset a) ∧ (t.boot.vbakSeen = true → s.boot.vbak = true) := by
  obtain ⟨hflash, -, -, hvbak, -⟩ := s.boot.restart_interrupt
  refine ⟨s.powerOff.backupFade, if_pos hin, ?_⟩
  have hseen : s.powerOff.backupFade.boot.vbakSeen = true → s.boot.vbak = true := fun h => by
    have hpow := State.backupFade_seen h
    rw [← hvbak]
    exact (Bool.or_false _).symm.trans hpow
  obtain ⟨b, hb⟩ := s.powerOff.backupFade_writes
  rw [hb] at hseen ⊢
  refine ⟨rfl, rfl, hflash, rfl, rfl, rfl, fun a ha => ?_, fun a ha hne => ?_, hseen⟩
  · have hne : a ≠ Reg.GLV_STATUS := fun h => by rw [h] at ha; exact absurd ha (by decide)
    exact (s.reg_powerOff hne).trans (if_pos ha)
  · exact (s.reg_powerOff hne).trans (if_neg (by rw [ha]; decide))

theorem State.reg_clearBackup (s : State) (a : Nat) : s.clearBackup.reg a = if inRanges backupRanges a then regReset a else s.reg a := by
  rw [State.reg, State.clearBackup, SMap.get_keep]
  cases inRanges backupRanges a <;> rfl

/-- VBAK comes without the input: the module stays Off, the backup domain cleared where it had lost its contents. -/
theorem vbakApplied_next {s : State} (hv : s.boot.vbak = false) (hin : s.boot.input = false) : exec .vbakApplied s =
    .next { (if s.boot.vbakSeen then s else s.clearBackup) with
      boot := { (if s.boot.vbakSeen then s else s.clearBackup).boot with vbak := true, vbakSeen := true } } := by
  have hboot : (if s.boot.vbakSeen then s else s.clearBackup).boot = s.boot := by
    split <;> rfl
  refine (if_neg (by simp [hv])).trans (congrArg _ (if_neg ?_))
  rintro ⟨-, hinput, -⟩
  exact absurd ((congrArg BootState.input hboot).symm.trans hinput) (by simp [hin])

theorem vbakApplied_backup {s : State} (hv : s.boot.vbak = false) (hin : s.boot.input = false) :
    ∃ t : State, exec .vbakApplied s = .next t ∧ t.mode = s.mode ∧ t.boot.vbak = true ∧ t.boot.vbakSeen = true ∧
      ∀ a, inRanges backupRanges a = true → t.reg a = if s.boot.vbakSeen then s.reg a else regReset a := by
  refine ⟨_, vbakApplied_next hv hin, ?_⟩
  cases s.boot.vbakSeen with
  | true => exact ⟨rfl, rfl, rfl, fun a _ => rfl⟩
  | false => exact ⟨rfl, rfl, rfl, fun a ha => (s.reg_clearBackup a).trans (if_pos ha)⟩

theorem vbakLost_next (s : State) :
    exec .vbakLost s = .next { s with boot := { s.boot with vbak := false, vbakSeen := s.boot.vbakSeen && s.boot.input } } := by
  change execVbakLost s = _
  rw [execVbakLost, State.backupFade]
  cases hin : s.boot.input <;> simp [hin]

/-! ## MOD_RESET_N (R401, R411, R417) -/

theorem modResetN_high (s : State) : exec (.modResetN false) s = .next { s with boot := { s.boot with held := false } } := rfl

/-- A junction at 70 °C or more, in eighths of a degree. -/
theorem any_used_iff (s : State) : (List.range 612).any (fun n => decide (560 ≤ s.used n)) = true ↔ ∃ n < 612, 560 ≤ s.used n := by
  simp

/-- MOD_RESET_N low, unless a hot Class L trip holds it back. -/
theorem modResetN_resets {s : State} (hmode : s.mode ≠ .off) (h : s.mode ≠ .tripped ∨ s.classL = false ∨ ∀ n < 612, s.used n < 560) :
    ∃ t : State, exec (.modResetN true) s = .next t ∧ t.mode = .optionLoad ∧ t.boot.held = true ∧ fld (t.reg Reg.RST_LAST) 31 28 = 2 := by
  have hfree : ¬((s.mode == .tripped && s.classL && (List.range 612).any (fun n => decide (560 ≤ s.used n))) = true) := fun c => by
    simp only [Bool.and_eq_true, beq_iff_eq, any_used_iff] at c
    obtain ⟨⟨htrip, hclass⟩, n, hn, hhot⟩ := c
    rcases h with h | h | h
    · exact h htrip
    · rw [h] at hclass; cases hclass
    · exact absurd (h n hn) (by omega)
  have hexec : exec (.modResetN true) s = .next (({ s with boot := { s.boot with held := true } } : State).coldReset 2 0) := by
    change execModResetN true s = _
    rw [execModResetN, if_neg (by simpa using hmode)]
    exact if_neg hfree
  obtain ⟨hmode', hboot⟩ := ({ s with boot := { s.boot with held := true } } : State).coldReset_boot 2 0
  refine ⟨_, hexec, hmode', ?_, ?_⟩
  · rw [hboot, (BootState.restart_keeps _ _).2.1]
  · rw [State.coldReset_rstLast]; decide

theorem modResetN_held {s : State} (htrip : s.mode = .tripped) (hclass : s.classL = true) (hhot : ∃ n < 612, 560 ≤ s.used n) :
    ∃ t : State, exec (.modResetN true) s = .next t ∧ t.mode = .tripped ∧ t.thermal.heldReset = true ∧ t.reg Reg.RST_LAST = s.reg Reg.RST_LAST := by
  have hheld : (s.mode == .tripped && s.classL && (List.range 612).any (fun n => decide (560 ≤ s.used n))) = true := by
    simp only [Bool.and_eq_true, beq_iff_eq, any_used_iff]
    exact ⟨⟨htrip, hclass⟩, hhot⟩
  refine ⟨{ s with boot := { s.boot with held := true }, thermal := { s.thermal with heldReset := true } }, ?_, htrip, rfl, rfl⟩
  change execModResetN true s = _
  rw [execModResetN, if_neg (by simp [htrip])]
  exact if_pos hheld

/-! ## The identity map (R469) -/

theorem State.sendBytes_eq (s : State) (bs : List Byte) : s.sendBytes bs = { s with out := (bs.map OutMsg.i2c).reverse ++ s.out } := by
  induction bs generalizing s with
  | nil => rfl
  | cons b bs ih => simp [State.sendBytes, ih, State.send]

theorem i2cRead_next {s : State} (n : Nat) (h : (s.boot.vbak || s.boot.input) = true) :
    ∃ t : State, exec (.i2cRead n) s = .next t ∧ { t with out := s.out } = s ∧
      t.out = ((List.range n).map (fun i => OutMsg.i2c (s.slotByte ((s.host.i2c + i) % 64)))).reverse ++ s.out := by
  refine ⟨_, if_pos h, ?_, ?_⟩
  · rw [State.sendBytes_eq]
  · rw [State.sendBytes_eq, List.map_map]
    rfl

theorem i2cOffsetWrite_next {s : State} (off : Byte) (h : (s.boot.vbak || s.boot.input) = true) :
    exec (.i2cOffsetWrite off) s = .next { s with host := { s.host with i2c := off.toNat % 64 } } := if_pos h

theorem slotByte_signature (s : State) : s.slotByte 0 = 0x45 ∧ s.slotByte 1 = 0x4D ∧ s.slotByte 2 = 0x59 ∧
    (s.boot.input = true → s.slotByte 36 = BitVec.ofNat 8 s.mode.code) ∧ (s.boot.input = false → s.slotByte 36 = 0xFF) :=
  ⟨rfl, rfl, rfl, fun h => if_pos h, fun h => by simp [State.slotByte, h]⟩

/-! ## Cages and host links (R314, R474) -/

/-- HST_LINK after a link is lost: down, without FEC lock, and counted where it was up. -/
theorem State.hostLinkLost_up {s : State} {i : Nat} (h : fld (s.reg (Reg.HST_LINK i)) 31 30 ≠ 0) : RegsOnly s (s.hostLinkLost i) ∧
    (s.hostLinkLost i).reg (Reg.HST_LINK i) = bumpFld (setFld (s.reg (Reg.HST_LINK i)) 31 29 0) 15 0 1 := by
  rw [State.hostLinkLost, if_neg h]
  exact ⟨(s.setReg_regsOnly ..).setReg .., by simp [State.bumpReg_eq]⟩

theorem State.hostLinkLost_regsOnly (s : State) (i : Nat) : RegsOnly s (s.hostLinkLost i) := by
  by_cases h : fld (s.reg (Reg.HST_LINK i)) 31 30 = 0
  · rw [State.hostLinkLost, if_pos h]
    exact .refl s
  · exact (State.hostLinkLost_up h).1

theorem fld_lostLink (w : Word) : fld (bumpFld (setFld w 31 29 0) 15 0 1) 31 29 = 0 ∧ fld (bumpFld (setFld w 31 29 0) 15 0 1) 31 30 = 0 ∧
    fld (bumpFld (setFld w 31 29 0) 15 0 1) 15 0 = min (fld w 15 0 + 1) 65535 := by
  refine ⟨?_, ?_, ?_⟩
  · rw [fld_bumpFld_other _ _ (by decide) (by decide) (by decide), fld_setFld_same _ _ (by decide) (by decide), Nat.zero_mod]
  · rw [fld_bumpFld_other _ _ (by decide) (by decide) (by decide), fld_setFld_within _ 0 _ (by decide) (by decide)]
    decide
  · rw [fld_bumpFld_same _ _ (by decide) (by decide), fld_setFld_other _ _ (by decide) (by decide) (by decide)]
    rfl

theorem State.hostLinkLost_down (s : State) (i : Nat) : fld ((s.hostLinkLost i).reg (Reg.HST_LINK i)) 31 30 = 0 := by
  by_cases h : fld (s.reg (Reg.HST_LINK i)) 31 30 = 0
  · rw [State.hostLinkLost, if_pos h, h]
  · rw [(State.hostLinkLost_up h).2, (fld_lostLink _).2.1]

/-- An optic beyond its power is off, and its link down. -/
theorem opticOverpower_off {s : State} {p : Fin 2} (h : s.caged p = true) :
    ∃ t : State, exec (.opticOverpower p) s = .next t ∧ t.host.opticOff.get false p = true ∧ t.caged p = false ∧
      fld (t.reg (Reg.HST_LINK p)) 31 30 = 0 := by
  refine ⟨_, if_pos h, ?_⟩
  have hdown := ({ s with host := { s.host with opticOff := s.host.opticOff.set false p true } } : State).hostLinkLost_down p
  obtain ⟨r, hr⟩ := ({ s with host := { s.host with opticOff := s.host.opticOff.set false p true } } : State).hostLinkLost_regsOnly p
  have hoff : (s.host.opticOff.set false p true).get false p = true := SMap.get_set_same ..
  rw [hr] at hdown ⊢
  exact ⟨hoff, by simp [State.caged, hoff], hdown⟩

theorem hostLinkDown_down {s : State} {p : Fin 2} (h : fld (s.reg (Reg.HST_LINK p)) 31 30 ≠ 0) :
    ∃ t : State, exec (.hostLinkDown p) s = .next t ∧ { t with regs := s.regs } = s ∧ fld (t.reg (Reg.HST_LINK p)) 31 29 = 0 ∧
      fld (t.reg (Reg.HST_LINK p)) 15 0 = min (fld (s.reg (Reg.HST_LINK p)) 15 0 + 1) 65535 := by
  obtain ⟨⟨r, hr⟩, hw⟩ := State.hostLinkLost_up h
  refine ⟨_, rfl, RegsOnly.restore ⟨r, hr⟩, ?_, ?_⟩
  · rw [hw, (fld_lostLink _).1]
  · rw [hw, (fld_lostLink _).2.2]

theorem hostLinkUp_up {s : State} {p : Fin 2} (hmode : s.mode ≠ .tripped) (hcage : s.caged p = true) (hctrl : flag (s.reg (Reg.HST_CTRL p)) 0 = true) :
    ∃ t : State, exec (.hostLinkUp p) s = .next t ∧ { t with regs := s.regs } = s ∧ fld (t.reg (Reg.HST_LINK p)) 31 30 = 2 ∧
      flag (t.reg (Reg.HST_LINK p)) 29 = true := by
  refine ⟨s.setRegFld (Reg.HST_LINK p) 31 29 5, if_pos (by simp [hmode, hcage, hctrl]), (s.setReg_regsOnly ..).restore, ?_, ?_⟩
  · rw [State.setRegFld_eq, State.reg_setReg, if_pos rfl, fld_setFld_within _ 0 _ (by decide) (by decide)]
    decide
  · rw [State.setRegFld_eq, State.reg_setReg, if_pos rfl, flag, getLsbD_setFld _ _ _ (by decide) (by decide), if_pos (by decide)]
    decide

/-- Settles O52: the slot's events one by one. -/
theorem slotEvents : Obligations.SlotEvents := by
  refine ⟨fun s hin hoff => ⟨inputQualified_powersOn hin hoff, inputQualified_waits hin⟩, fun s hin => ⟨inputQualified_again hin, inputLost_off hin⟩,
    fun s hv hin => vbakApplied_backup hv hin, vbakLost_next,
    fun s => ⟨modResetN_high s, modResetN_resets, modResetN_held⟩, fun n off s h => ⟨i2cRead_next n h, i2cOffsetWrite_next off h⟩, slotByte_signature,
    fun p s => ⟨opticOverpower_off, hostLinkDown_down, hostLinkUp_up⟩⟩

end Sys2Proof.Machine

namespace Sys2Proof.Machine

/-! ## The sources of a reset -/

/-- A source may ask for a reset: with the input there, the module not Off, and, for source 4, the reset asked for (R411). -/
def Asked (s : State) (source scope unit : Nat) : Prop := s.boot.input = true ∧ s.mode ≠ .off ∧ (source = 4 → (scope, unit) ∈ s.boot.asked)

/-- A brown-out's reset that waits for the state of the module (R412). -/
def Early (s : State) (source : Fin 8) (detail : BitVec 16) : Prop := source = 1 ∧ detail.toNat ∈ s.boot.waiting

section
variable {s : State} {source : Fin 8} {detail : BitVec 16} {also : List Firing}

theorem Asked.mayFire {scope unit source : Nat} (h : Asked s source scope unit) : s.mayFire scope unit source = true := by
  obtain ⟨hin, -, hasked⟩ := h
  rw [State.mayFire, hin, Bool.true_and, Bool.or_eq_true]
  by_cases h4 : source = 4
  · exact .inr (List.any_eq_true.mpr ⟨_, hasked h4, by simp⟩)
  · exact .inl (by simpa using h4)

theorem early_iff : (source.val = 1 && s.boot.waiting.contains detail.toNat) = true ↔ Early s source detail := by
  simp [Early, Fin.ext_iff]

/-- The module as the acting reset meets it: what was asked for taken off the list, and the other sources counted. -/
def State.atFire (s : State) (scope unit : Nat) (source : Fin 8) (detail : BitVec 16) (also : List Firing) : State :=
  (s.unask scope unit).countSources (restSources source detail.toNat also)

theorem State.atFire_regsOnly (scope unit : Nat) : RegsOnly (s.unask scope unit) (s.atFire scope unit source detail also) :=
  (s.unask scope unit).countSources_regsOnly _

theorem State.fireAll_eq (scope unit : Nat) (act : State → Nat → Nat → State) (h : s.mode ≠ .off) :
    (s.unask scope unit).fireAll source detail also act = act (s.atFire scope unit source detail also) (leadSource source detail.toNat also).1
      (leadSource source detail.toNat also).2 := if_neg (by simpa [State.unask] using h)

theorem coldReset_fires (h : Asked s source 0 0) : exec (.coldReset source detail also) s =
    .next ((s.atFire 0 0 source detail also).coldReset (leadSource source detail.toNat also).1 (leadSource source detail.toNat also).2) := by
  refine (if_pos h.mayFire).trans (congrArg _ ?_)
  rw [State.fireAll_eq _ _ _ h.2.1]
  obtain ⟨r, hr⟩ := s.atFire_regsOnly (source := source) (detail := detail) (also := also) 0 0
  exact if_neg (by simpa [hr, State.unask] using h.2.1)

theorem warmReset_fires (h : Asked s source 1 0) (hnow : ¬Early s source detail ∨ s.mode = .faulted) : exec (.warmReset source detail also) s =
    .next ((s.atFire 1 0 source detail also).fireWarm (leadSource source detail.toNat also).1 (leadSource source detail.toNat also).2) := by
  refine (if_neg (by simp [h.mayFire])).trans ((if_neg fun c => ?_).trans (congrArg _ (State.fireAll_eq _ _ _ h.2.1)))
  obtain ⟨hearly, hmode⟩ := Bool.and_eq_true_iff.mp c
  exact hnow.elim (· (early_iff.mp hearly)) (by simpa using hmode)

theorem warmReset_waits (h : Asked s source 1 0) (hearly : Early s source detail) (hmode : s.mode ≠ .faulted) :
    exec (.warmReset source detail also) s = .next s := by
  refine (if_neg (by simp [h.mayFire])).trans (if_pos ?_)
  exact Bool.and_eq_true_iff.mpr ⟨early_iff.mpr hearly, by simpa using hmode⟩

theorem dieReset_fires {u : Fin 36} (h : Asked s source 2 u) (hnow : ¬Early s source detail ∨ s.mode = .ready ∨ s.mode = .faulted) :
    exec (.dieReset u source detail also) s = .next ((s.atFire 2 u source detail also).fireDie u (leadSource source detail.toNat also).1
      (leadSource source detail.toNat also).2) := by
  refine (if_neg (by simp [h.mayFire])).trans ((if_neg fun c => ?_).trans (congrArg _ (State.fireAll_eq _ _ _ h.2.1)))
  obtain ⟨hearly, hmode⟩ := Bool.and_eq_true_iff.mp c
  exact hnow.elim (· (early_iff.mp hearly)) (fun hm => by rcases hm with hm | hm <;> simp [hm] at hmode)

theorem dieReset_waits {u : Fin 36} (h : Asked s source 2 u) (hearly : Early s source detail) (hready : s.mode ≠ .ready) (hfaulted : s.mode ≠ .faulted) :
    exec (.dieReset u source detail also) s = .next s := by
  refine (if_neg (by simp [h.mayFire])).trans (if_pos ?_)
  exact Bool.and_eq_true_iff.mpr ⟨early_iff.mpr hearly, by simp [hready, hfaulted]⟩

/-! ## The record in the registers alone -/

theorem State.reg_countSource_other {n a : Nat} (hn : n < 8) (h : ¬recordRegs a) : (s.countSource n).reg a = s.reg a := by
  have hne : a ≠ Reg.RST_COUNT (n / 2) := fun e => h (by simp only [e, recordRegs, Reg.RST_LAST, Reg.RST_STATUS, Reg.RST_COUNT]; omega)
  unfold State.countSource
  split <;> rw [State.bumpReg_eq, State.reg_setReg, if_neg hne]

theorem State.reg_countSources_other {ns : List Nat} {a : Nat} (hn : ∀ n ∈ ns, n < 8) (h : ¬recordRegs a) : (s.countSources ns).reg a = s.reg a := by
  induction ns generalizing s with
  | nil => rfl
  | cons n ns ih =>
    obtain ⟨hn, hns⟩ := List.forall_mem_cons.mp hn
    rw [State.countSources_cons, ih hns, State.reg_countSource_other hn h]

theorem State.reg_recordReset_other {n scope unit d a : Nat} (hn : n < 8) (h : ¬recordRegs a) : (s.recordReset n scope unit d).reg a = s.reg a := by
  have hlast : a ≠ Reg.RST_LAST := fun e => h (by rw [e]; decide)
  have htotal : a ≠ Reg.RST_TOTAL := fun e => h (by rw [e]; decide)
  rw [State.recordReset_eq, State.reg_setReg, if_neg hlast, State.bumpReg_eq, State.reg_setReg, if_neg htotal, State.reg_countSource_other hn h]

theorem restSources_lt {n : Nat} (h : n ∈ restSources source detail.toNat also) : n < 8 := by
  have hmem := List.mem_of_mem_erase h
  simp only [List.mem_cons, List.mem_map] at hmem
  rcases hmem with e | ⟨f, -, e⟩
  · exact e ▸ source.isLt
  · exact e ▸ f.source.isLt

theorem leadSource_lt (source : Fin 8) (detail : BitVec 16) (also : List Firing) : (leadSource source detail.toNat also).1 < 8 := by
  have hmem := leadSource_mem source detail also
  simp only [firedSources, List.mem_cons, List.mem_map] at hmem
  rcases hmem with e | ⟨f, -, e⟩
  · exact (congrArg Prod.fst e) ▸ source.isLt
  · exact (congrArg Prod.fst e) ▸ f.source.isLt

theorem State.reg_atFire_other (scope unit : Nat) {a : Nat} (h : ¬recordRegs a) : (s.atFire scope unit source detail also).reg a = s.reg a :=
  State.reg_countSources_other (s := s.unask scope unit) (fun _ => restSources_lt) h

/-! ## Cold -/

/-- Nothing left in tiles, memory, mailboxes, sessions, queue pairs, routers and ports. -/
def Emptied (t : State) : Prop :=
  t.tiles = [] ∧ t.stackMem = [] ∧ t.mailbox = [] ∧ t.sessions = [] ∧ t.qps = [] ∧ t.routers = [] ∧ t.flights = [] ∧ t.ports = [] ∧ t.hearth.light = []

/-- A Cold reset leaves the record of its sources. -/
theorem State.coldReset_recorded (source : Fin 8) (detail : BitVec 16) (also : List Firing) : Recorded s
    ((s.countSources (restSources source detail.toNat also)).coldReset (leadSource source detail.toNat also).1 (leadSource source detail.toNat also).2)
    source detail also 0 0 :=
  recorded_of_recordReset (fun _ => rfl) fun _ ha => State.reg_coldReset_record _ _ _ ha

/-- Every register a Cold reset writes is a kept one, beside CFG_CMD_STATUS. -/
theorem not_resetWrites_of_not_kept {a : Nat} (h : inRanges keptAlways a = false) (hcmd : a ≠ Reg.CFG_CMD_STATUS) : a ∉ resetWrites false := by
  have hkept : ∀ x ∈ resetWrites false, x = Reg.CFG_CMD_STATUS ∨ inRanges keptAlways x = true := by decide
  intro hmem
  rcases hkept a hmem with e | e
  · exact hcmd e
  · simp [h] at e

/-- The words of CFG_SELECT that CONFIG_REVERT's pin leaves. -/
def revertWord (w : Word) (b : Bool) : Word :=
  if b then setFld (setFlag (setFlag w 31 true) 30 b) 25 24 0 else setFld (setFlag (setFlag w 31 true) 30 b) 27 26 0

theorem State.reg_applyRevert_none (h : s.boot.revert = none) (a : Nat) : s.applyRevert.reg a = s.reg a := by
  simp only [State.applyRevert, h]

theorem State.reg_applyRevert_some {b : Bool} (h : s.boot.revert = some b) : s.applyRevert.reg Reg.CFG_SELECT = revertWord (s.reg Reg.CFG_SELECT) b := by
  simp only [State.applyRevert, h]
  exact (State.reg_setReg ..).trans (if_pos rfl)

/-- The pin, and the fail count of the pinned set at 0 (R426). -/
theorem revertWord_fields (w : Word) (b : Bool) : flag (revertWord w b) 31 = true ∧ flag (revertWord w b) 30 = b ∧
    (if b then fld (revertWord w b) 25 24 else fld (revertWord w b) 27 26) = 0 := by
  have hpin : ∀ hi lo, lo ≤ hi → hi < 30 → flag (setFld (setFlag (setFlag w 31 true) 30 b) hi lo 0) 31 = true ∧
      flag (setFld (setFlag (setFlag w 31 true) 30 b) hi lo 0) 30 = b := fun hi lo h h' => by
    constructor
    · rw [flag_setFld_other _ _ h (by omega) (by omega), flag_setFlag_other _ _ (by decide) (by decide), flag_setFlag_same _ _ (by decide)]
    · rw [flag_setFld_other _ _ h (by omega) (by omega), flag_setFlag_same _ _ (by decide)]
  cases b with
  | true =>
    rw [revertWord, if_pos rfl, if_pos rfl]
    exact ⟨(hpin 25 24 (by decide) (by decide)).1, (hpin 25 24 (by decide) (by decide)).2, fld_setFld_same _ 0 (by decide) (by decide)⟩
  | false =>
    rw [revertWord, if_neg (by decide), if_neg (by decide)]
    exact ⟨(hpin 27 26 (by decide) (by decide)).1, (hpin 27 26 (by decide) (by decide)).2, fld_setFld_same _ 0 (by decide) (by decide)⟩

/-- Beside its registers, what a Cold reset leaves. -/
theorem State.coldReset_empty (s : State) (n d : Nat) : (s.coldReset n d).mode = .optionLoad ∧ Emptied (s.coldReset n d) ∧ (s.coldReset n d).tbl = [] ∧
    (s.coldReset n d).boot = { s.boot with revert := none }.restart false ∧ (s.coldReset n d).pending = s.pending := by
  obtain ⟨r, h⟩ := s.coldReset_writes n d
  rw [h]
  exact ⟨rfl, ⟨rfl, rfl, rfl, rfl, rfl, rfl, rfl, rfl, rfl⟩, rfl, rfl, rfl⟩

/-- A register that is kept and not on record keeps its value through a Cold reset, but for the pin that CONFIG_REVERT asked for. -/
theorem State.reg_coldReset_kept {n d a : Nat} (hn : n < 8) (hkept : inRanges keptAlways a = true) (hwrites : a ∉ resetWrites false)
    (hrec : ¬recordRegs a) : (s.coldReset n d).reg a = if a = Reg.CFG_SELECT then (s.recordReset n 0 0 d).applyRevert.reg a else s.reg a := by
  rw [State.reg_coldReset _ _ _ hwrites, if_pos hkept]
  split
  · rfl
  · rw [State.reg_applyRevert _ ‹_›, State.reg_recordReset_other hn hrec]

/-- The pins of CFG_SELECT after a Cold reset. -/
theorem State.coldReset_select {n d : Nat} (hn : n < 8) :
    (s.boot.revert = none → (s.coldReset n d).reg Reg.CFG_SELECT = s.reg Reg.CFG_SELECT) ∧
    ∀ b, s.boot.revert = some b → (s.coldReset n d).reg Reg.CFG_SELECT = revertWord (s.reg Reg.CFG_SELECT) b := by
  obtain ⟨r, hr⟩ := s.recordReset_regsOnly n 0 0 d
  have hboot : (s.recordReset n 0 0 d).boot = s.boot := by rw [hr]
  have hreg : (s.recordReset n 0 0 d).reg Reg.CFG_SELECT = s.reg Reg.CFG_SELECT := State.reg_recordReset_other hn (by decide)
  have hcold := State.reg_coldReset_kept (s := s) (d := d) hn (a := Reg.CFG_SELECT) (by decide) (by decide) (by decide)
  rw [if_pos rfl] at hcold
  refine ⟨fun h => ?_, fun b h => ?_⟩
  · rw [hcold, State.reg_applyRevert_none (hboot ▸ h), hreg]
  · rw [hcold, State.reg_applyRevert_some (hboot ▸ h), hreg]

theorem coldReset_clears (h : Asked s source 0 0) :
    ∃ t : State, exec (.coldReset source detail also) s = .next t ∧ t.mode = .optionLoad ∧ Recorded s t source detail also 0 0 ∧ Emptied t ∧ t.tbl = [] ∧
      t.boot.active = true ∧ t.boot.scope = 0 ∧ t.boot.step = 1 ∧ t.boot.flash = s.boot.flash ∧ t.pending = s.pending ∧
      (∀ a, inRanges keptAlways a = false → a ≠ Reg.CFG_CMD_STATUS → t.reg a = regReset a) ∧
      (∀ a ∈ [Reg.PWR_WEAR_ON, Reg.PWR_WEAR_PEAK, Reg.GLV_TAMPER, Reg.GLV_ROOTS], t.reg a = s.reg a) ∧
      (s.boot.revert = none → t.reg Reg.CFG_SELECT = s.reg Reg.CFG_SELECT) ∧
      ∀ b, s.boot.revert = some b → flag (t.reg Reg.CFG_SELECT) 31 = true ∧ flag (t.reg Reg.CFG_SELECT) 30 = b ∧ t.fails b = 0 ∧ t.boot.revert = none := by
  have hlead := leadSource_lt source detail also
  have hrecord := State.coldReset_recorded (s := s.unask 0 0) source detail also
  have hother : ∀ a, ¬recordRegs a → (s.atFire 0 0 source detail also).reg a = s.reg a := fun a => State.reg_atFire_other 0 0
  have hfire : (s.atFire 0 0 source detail also).boot = (s.unask 0 0).boot ∧ (s.atFire 0 0 source detail also).pending = s.pending := by
    obtain ⟨r, hr⟩ := s.atFire_regsOnly (source := source) (detail := detail) (also := also) 0 0
    rw [hr]
    exact ⟨rfl, rfl⟩
  refine ⟨_, coldReset_fires h, ?_⟩
  change Recorded s ((s.atFire 0 0 source detail also).coldReset _ _) source detail also 0 0 at hrecord
  generalize (leadSource source detail.toNat also).1 = n at *
  generalize (leadSource source detail.toNat also).2 = d at *
  generalize s.atFire 0 0 source detail also = u at *
  obtain ⟨hboot, hpending⟩ := hfire
  obtain ⟨hmode, hempty, htbl, hboot', hpending'⟩ := u.coldReset_empty n d
  obtain ⟨-, -, hflash, hrevert⟩ := BootState.restart_keeps { u.boot with revert := none } false
  obtain ⟨hnone, hsome⟩ := u.coldReset_select (d := d) hlead
  rw [hother _ (by decide), hboot] at hnone hsome
  refine ⟨hmode, hrecord, hempty, htbl, ?_, ?_, ?_, ?_, hpending'.trans hpending, fun a ha hcmd => ?_, fun a ha => ?_, hnone, fun b hb => ?_⟩
  · rw [hboot']; rfl
  · rw [hboot']; rfl
  · rw [hboot']; rfl
  · rw [hboot', hflash, hboot]; rfl
  · rw [State.reg_coldReset _ _ _ (not_resetWrites_of_not_kept ha hcmd), if_neg (by simp [ha])]
  · have hkeeps : ∀ x ∈ [Reg.PWR_WEAR_ON, Reg.PWR_WEAR_PEAK, Reg.GLV_TAMPER, Reg.GLV_ROOTS],
        inRanges keptAlways x = true ∧ x ∉ resetWrites false ∧ ¬recordRegs x ∧ x ≠ Reg.CFG_SELECT := by decide
    obtain ⟨hkept, hwrites, hrec, hsel⟩ := hkeeps a ha
    rw [State.reg_coldReset_kept hlead hkept hwrites hrec, if_neg hsel, hother a hrec]
  · obtain ⟨h31, h30, hfails⟩ := revertWord_fields (s.reg Reg.CFG_SELECT) b
    rw [State.fails, hsome b hb, hboot', hrevert]
    exact ⟨h31, h30, hfails, rfl⟩

end

end Sys2Proof.Machine

namespace Sys2Proof.Machine

/-! ## Warm, and resets within a release (R414, R418) -/

section
variable {s : State} {source : Fin 8} {detail : BitVec 16} {also : List Firing}

/-- Beside its registers, what a Warm reset leaves: working calibration, options and the Glovebox's counter. -/
theorem State.warmReset_empty (s : State) (n d : Nat) : (s.warmReset n d).mode = .boot ∧ Emptied (s.warmReset n d) ∧
    (s.warmReset n d).tbl = s.tbl.keep isCalibration ∧ (s.warmReset n d).clock = s.clock.keep (fun u => u == 36) ∧
    (s.warmReset n d).boot = s.boot.restart true := by
  obtain ⟨r, h⟩ := (s.recordReset n 1 0 d).cleared_regsOnly true
  obtain ⟨r', h'⟩ := s.recordReset_regsOnly n 1 0 d
  rw [State.warmReset, h]
  clear h
  generalize s.recordReset n 1 0 d = v at *
  subst h'
  exact ⟨rfl, ⟨rfl, rfl, rfl, rfl, rfl, rfl, rfl, rfl, rfl⟩, rfl, rfl, rfl⟩

theorem State.reg_warmReset_record (s : State) (n d : Nat) {a : Nat} (h : recordRegs a) : (s.warmReset n d).reg a = (s.recordReset n 1 0 d).reg a := by
  rw [State.warmReset_reg, State.reg_cleared_record _ true h]

theorem State.warmReset_recorded (source : Fin 8) (detail : BitVec 16) (also : List Firing) : Recorded s
    ((s.countSources (restSources source detail.toNat also)).warmReset (leadSource source detail.toNat also).1 (leadSource source detail.toNat also).2)
    source detail also 1 0 :=
  recorded_of_recordReset (fun _ => rfl) fun _ ha => State.reg_warmReset_record _ _ _ ha

theorem State.reg_warmReset_meas (s : State) (n d : Nat) {w : Nat} (h : w < 32) : (s.warmReset n d).reg (Reg.GLV_MEAS w) = 0 := by
  have hout : ∀ a ∈ (List.range 32).map Reg.GLV_MEAS, a ∉ resetWrites true := by decide
  have hmem : Reg.GLV_MEAS w ∈ (List.range 32).map Reg.GLV_MEAS := List.mem_map_of_mem (List.mem_range.mpr h)
  rw [State.warmReset_reg, State.reg_cleared _ (hout _ hmem), if_pos ⟨rfl, hmem⟩]

/-- Registers that a Warm reset keeps and does not write. -/
theorem State.reg_warmReset_kept {n d a : Nat} (hn : n < 8) (hkept : inRanges keptWarm a = true) (hwrites : a ∉ resetWrites true)
    (hmeas : a ∉ (List.range 32).map Reg.GLV_MEAS) (hrec : ¬recordRegs a) : (s.warmReset n d).reg a = s.reg a := by
  rw [State.warmReset_reg, State.reg_cleared _ hwrites, if_neg (fun h => hmeas h.2), if_pos (by simpa using hkept), State.reg_recordReset_other hn hrec]

/-- A state whose release is not Cold takes a Warm reset. -/
theorem State.fireWarm_eq (hmode : s.mode ≠ .off) (h : s.boot.active = false ∨ s.boot.scope ≠ 0) (n d : Nat) : s.fireWarm n d = s.warmReset n d := by
  refine (if_neg (by simpa using hmode)).trans (if_neg ?_)
  rcases h with h | h <;> simp [h]

/-- Within a Cold release it is that release that starts again. -/
theorem State.fireWarm_restart (hmode : s.mode ≠ .off) (hactive : s.boot.active = true) (hscope : s.boot.scope = 0) (n d : Nat) :
    s.fireWarm n d = s.coldReset n d :=
  (if_neg (by simpa using hmode)).trans (if_pos (by simp [hactive, hscope]))

theorem warmReset_clears (h : Asked s source 1 0) (hrelease : s.boot.active = false ∨ s.boot.scope ≠ 0)
    (hnow : ¬Early s source detail ∨ s.mode = .faulted) :
    ∃ t : State, exec (.warmReset source detail also) s = .next t ∧ t.mode = .boot ∧ Recorded s t source detail also 1 0 ∧ Emptied t ∧
      t.boot.active = true ∧ t.boot.scope = 1 ∧ t.boot.step = 4 ∧ t.boot.options = s.boot.options ∧ t.boot.flash = s.boot.flash ∧
      (∀ k, isCalibration k = true → t.tblWord k = s.tblWord k) ∧ (∀ w < 32, t.reg (Reg.GLV_MEAS w) = 0) ∧ t.clock.get 0 36 = s.clock.get 0 36 ∧
      ∀ a ∈ [Reg.PWR_WEAR_ON, Reg.PWR_WEAR_PEAK, Reg.CFG_SELECT, Reg.GLV_TAMPER, Reg.GLV_ROOTS, Reg.CFG_STATUS], t.reg a = s.reg a := by
  have hlead := leadSource_lt source detail also
  have hrecord : Recorded s ((s.atFire 1 0 source detail also).warmReset _ _) source detail also 1 0 :=
    State.warmReset_recorded (s := s.unask 1 0) source detail also
  have hother : ∀ a, ¬recordRegs a → (s.atFire 1 0 source detail also).reg a = s.reg a := fun a => State.reg_atFire_other 1 0
  obtain ⟨r, hr⟩ := s.atFire_regsOnly (source := source) (detail := detail) (also := also) 1 0
  have hfire : s.atFire 1 0 source detail also = { (s.unask 1 0) with regs := (s.atFire 1 0 source detail also).regs } := by rw [hr]
  clear hr
  have hgo := warmReset_fires (also := also) h hnow
  rw [State.fireWarm_eq (by rw [hfire]; exact h.2.1) (by rw [hfire]; exact hrelease)] at hgo
  refine ⟨_, hgo, ?_⟩
  clear hgo
  generalize (leadSource source detail.toNat also).1 = n at *
  generalize (leadSource source detail.toNat also).2 = d at *
  generalize s.atFire 1 0 source detail also = u at *
  obtain ⟨hmode, hempty, htbl, hclock, hboot⟩ := u.warmReset_empty n d
  have hub : u.boot = (s.unask 1 0).boot := by rw [hfire]
  have hut : u.tbl = s.tbl := by rw [hfire]; rfl
  have huc : u.clock = s.clock := by rw [hfire]; rfl
  refine ⟨hmode, hrecord, hempty, ?_, ?_, ?_, ?_, ?_, fun k hk => ?_, fun w hw => u.reg_warmReset_meas n d hw, ?_, fun a ha => ?_⟩
  · rw [hboot]; rfl
  · rw [hboot]; rfl
  · rw [hboot]; rfl
  · rw [hboot, hub]; rfl
  · rw [hboot, (BootState.restart_keeps _ _).2.2.1, hub]; rfl
  · rw [State.tblWord, htbl, SMap.get_keep, if_pos hk, hut]; rfl
  · rw [hclock, SMap.get_keep, if_pos (by decide), huc]
  · have hkeeps : ∀ x ∈ [Reg.PWR_WEAR_ON, Reg.PWR_WEAR_PEAK, Reg.CFG_SELECT, Reg.GLV_TAMPER, Reg.GLV_ROOTS, Reg.CFG_STATUS],
        inRanges keptWarm x = true ∧ x ∉ resetWrites true ∧ x ∉ (List.range 32).map Reg.GLV_MEAS ∧ ¬recordRegs x := by decide
    obtain ⟨hkept, hwrites, hmeas, hrec⟩ := hkeeps a ha
    rw [State.reg_warmReset_kept hlead hkept hwrites hmeas hrec, hother a hrec]

theorem warmReset_restarts (hactive : s.boot.active = true) (hscope : s.boot.scope = 0) (h : Asked s source 1 0) (hnow : ¬Early s source detail) :
    ∃ t : State, exec (.warmReset source detail also) s = .next t ∧ t.mode = .optionLoad ∧ t.boot.step = 1 ∧ Recorded s t source detail also 0 0 := by
  have hgo := warmReset_fires (also := also) h (.inl hnow)
  obtain ⟨r, hr⟩ := s.atFire_regsOnly (source := source) (detail := detail) (also := also) 1 0
  rw [State.fireWarm_restart (by rw [hr]; exact h.2.1) (by rw [hr]; exact hactive) (by rw [hr]; exact hscope)] at hgo
  obtain ⟨hmode, -, -, hboot, -⟩ := (s.atFire 1 0 source detail also).coldReset_empty (leadSource source detail.toNat also).1
    (leadSource source detail.toNat also).2
  refine ⟨_, hgo, hmode, ?_, State.coldReset_recorded (s := s.unask 1 0) source detail also⟩
  rw [hboot]; rfl

theorem dieReset_restarts {u : Fin 36} (hactive : s.boot.active = true) (h : Asked s source 2 u) (hnow : ¬Early s source detail) :
    ∃ t : State, exec (.dieReset u source detail also) s = .next t ∧ t.boot.units = [] ∧
      if s.boot.scope = 0 then t.mode = .optionLoad ∧ t.boot.step = 1 else t.mode = .boot ∧ t.boot.step = 4 := by
  have hgo := dieReset_fires (also := also) h (.inl hnow)
  obtain ⟨r, hr⟩ := s.atFire_regsOnly (source := source) (detail := detail) (also := also) 2 u
  have hfire : ∀ n d, (s.atFire 2 u source detail also).fireDie u n d =
      if s.boot.scope = 0 then (s.atFire 2 u source detail also).coldReset n d else (s.atFire 2 u source detail also).warmReset n d := fun n d => by
    rw [hr]
    exact (if_neg (by simpa [State.unask] using h.2.1)).trans (if_pos hactive)
  rw [hfire] at hgo
  refine ⟨_, hgo, ?_⟩
  by_cases hscope : s.boot.scope = 0
  · obtain ⟨hmode, -, -, hboot, -⟩ := (s.atFire 2 u source detail also).coldReset_empty (leadSource source detail.toNat also).1
      (leadSource source detail.toNat also).2
    rw [if_pos hscope, if_pos hscope, hboot]
    exact ⟨rfl, hmode, rfl⟩
  · obtain ⟨hmode, -, -, -, hboot⟩ := (s.atFire 2 u source detail also).warmReset_empty (leadSource source detail.toNat also).1
      (leadSource source detail.toNat also).2
    rw [if_neg hscope, if_neg hscope, hboot]
    exact ⟨rfl, hmode, rfl⟩

end

end Sys2Proof.Machine

namespace Sys2Proof.Machine

/-! ## Upkeep of the light beside the rest of the module -/

/-- Nothing of the module's state, tiles, memory, mailboxes, sessions or the record of resets has changed. -/
structure Spares (s t : State) : Prop where
  mode : t.mode = s.mode
  tiles : t.tiles = s.tiles
  stackMem : t.stackMem = s.stackMem
  mailbox : t.mailbox = s.mailbox
  sessions : t.sessions = s.sessions
  record : ∀ a, recordRegs a → t.reg a = s.reg a

section
variable {s t u : State}

theorem Spares.refl (s : State) : Spares s s := ⟨rfl, rfl, rfl, rfl, rfl, fun _ _ => rfl⟩

theorem Spares.trans (h : Spares s t) (h' : Spares t u) : Spares s u :=
  ⟨h'.mode.trans h.mode, h'.tiles.trans h.tiles, h'.stackMem.trans h.stackMem, h'.mailbox.trans h.mailbox, h'.sessions.trans h.sessions,
    fun a ha => (h'.record a ha).trans (h.record a ha)⟩

theorem Spares.ite {c : Prop} [Decidable c] (h : Spares s t) (h' : Spares s u) : Spares s (if c then t else u) :=
  iteInduction (fun _ => h) (fun _ => h')

theorem Spares.setReg (h : Spares s t) {a : Nat} (w : Word) (ha : ¬recordRegs a) : Spares s (t.setReg a w) :=
  h.trans ⟨rfl, rfl, rfl, rfl, rfl, fun b hb => (State.reg_setReg ..).trans (if_neg (fun e : b = a => ha (e ▸ hb)))⟩

theorem Spares.setRegFld (h : Spares s t) {a : Nat} (hi lo v : Nat) (ha : ¬recordRegs a) : Spares s (t.setRegFld a hi lo v) := h.setReg _ ha

theorem Spares.clearReg (h : Spares s t) {a : Nat} (m : Word) (ha : ¬recordRegs a) : Spares s (t.clearReg a m) := h.setReg _ ha

theorem Spares.setTbl (h : Spares s t) (k : Nat) (w : Word) : Spares s (t.setTbl k w) := h.trans ⟨rfl, rfl, rfl, rfl, rfl, fun _ _ => rfl⟩

theorem Spares.setPort (h : Spares s t) (p : Nat) (x : HPort) : Spares s (t.setPort p x) := h.trans ⟨rfl, rfl, rfl, rfl, rfl, fun _ _ => rfl⟩

theorem Spares.hearth (h : Spares s t) (x : HearthState) : Spares s { t with hearth := x } := h.trans ⟨rfl, rfl, rfl, rfl, rfl, fun _ _ => rfl⟩

theorem Spares.lights (h : Spares s t) (x : LightState) (y : HearthState) : Spares s { t with light := x, hearth := y } := h.trans ⟨rfl, rfl, rfl, rfl, rfl, fun _ _ => rfl⟩

theorem Spares.sendFrame (h : Spares s t) (type dst src value : Nat) : Spares s (t.sendFrame type dst src value) :=
  h.trans ⟨rfl, rfl, rfl, rfl, rfl, fun _ _ => rfl⟩

end

theorem State.setLanes_spares (s : State) (st : Nat) (ls : List (Nat × Nat)) : Spares s (s.setLanes st ls) := by
  induction ls generalizing s with
  | nil => exact .refl s
  | cons l ls ih => exact ((Spares.refl s).setTbl _ _).trans (ih _)

theorem State.restartTurns_spares (s : State) (l : List (Nat × Nat)) : Spares s (s.restartTurns l) := by
  induction l generalizing s with
  | nil => exact .refl s
  | cons g l ih => exact (Spares.ite (.refl s) ((Spares.refl s).setPort _ _)).trans (ih _)

theorem State.setSpare_spares (s : State) (code : Nat) (ps : List (Nat × Nat)) : Spares s (s.setSpare code ps) := by
  induction ps generalizing s with
  | nil => exact .refl s
  | cons p ps ih =>
    obtain ⟨c, d⟩ := p
    exact (((Spares.refl s).hearth _).setTbl _ _).trans (ih _)

theorem State.announce_spares (s : State) (m : LaneMove) (st : Nat) : Spares s (s.announce m st) :=
  Spares.ite (((Spares.refl s).sendFrame ..).sendFrame ..) ((Spares.refl s).sendFrame ..)

theorem State.laneChange_spares (s : State) (m : LaneMove) (st : Nat) : Spares s (s.laneChange m st) :=
  ((s.setLanes_spares ..).trans (State.announce_spares ..)).trans (State.restartTurns_spares ..)

theorem State.applyMove_spares (s : State) (m : LaneMove) : Spares s (s.applyMove m) := by
  unfold State.applyMove
  extract_lets mine spared counted flue
  have hcounted : Spares s counted := ((s.laneChange_spares ..).trans (State.setSpare_spares ..)).setRegFld 23 12 _ (by decide)
  have hflue : Spares s flue := Spares.ite ((hcounted.setRegFld 27 27 _ (by decide)).setRegFld 26 24 _ (by decide)) hcounted
  exact Spares.ite ((hflue.setReg _ (by decide)).clearReg _ (by decide)) hflue

theorem State.trimRecords_spares (s : State) {reason : Nat} (r : LaneMeas) (ls : List (Nat × Nat)) : Spares s (s.trimRecords reason r ls) := by
  induction ls generalizing s with
  | nil => exact .refl s
  | cons l ls ih =>
    exact (Spares.ite (((((Spares.refl s).setTbl ..).setTbl ..).setTbl ..).setTbl ..) ((Spares.refl s).setTbl ..)).trans (ih _)

/-- A calibration aborted: the lane returns, and the outcome is recorded. -/
theorem State.calAbort_spares (s : State) (reason : Nat) (h : reason ≠ 0) : Spares s (s.calAbort reason) := by
  unfold State.calAbort State.calEnd
  cases s.light.req with
  | none => exact .refl s
  | some v =>
    simp only [if_neg h]
    refine Spares.lights (Spares.clearReg (Spares.setReg (Spares.setReg ?_ _ (by decide)) _ (by decide)) _ (by decide)) _ _
    exact Spares.ite ((Spares.ite (s.applyMove_spares _) (.refl s)).trans (State.trimRecords_spares ..)) (.refl s)

end Sys2Proof.Machine

namespace Sys2Proof.Machine

/-! ## A Die reset (R415) -/

theorem State.domain_setDomain (s : State) (k v j : Nat) : (s.setDomain k v).domain j = if j = k then v % 4 else s.domain j := by
  rw [State.domain, State.setDomain, State.setRegFld_eq, State.reg_setReg]
  have hreg : Reg.PWR_DOM (j / 16) = Reg.PWR_DOM (k / 16) ↔ j / 16 = k / 16 := by simp only [Reg.PWR_DOM]; omega
  have hbit : j % 16 < 16 ∧ k % 16 < 16 := ⟨Nat.mod_lt _ (by decide), Nat.mod_lt _ (by decide)⟩
  by_cases hj : j / 16 = k / 16
  · rw [if_pos (hreg.mpr hj)]
    by_cases hm : j % 16 = k % 16
    · have hjk : j = k := by omega
      subst hjk
      have hwidth : 2 * (j % 16) + 1 - 2 * (j % 16) + 1 = 2 := by omega
      rw [if_pos rfl, fld_setFld_same _ _ (by omega) (by omega), hwidth]
      rfl
    · rw [if_neg (by omega), fld_setFld_other _ _ (by omega) (by omega) (by omega), State.domain, hj]
  · rw [if_neg (by simpa only [hreg] using hj), if_neg (fun e => hj (congrArg (· / 16) e)), State.domain]

theorem State.domain_setDomains (s : State) (v : Nat) (ks : List Nat) (j : Nat) : (s.setDomains v ks).domain j = if j ∈ ks then v % 4 else s.domain j := by
  induction ks generalizing s with
  | nil => rfl
  | cons k ks ih =>
    rw [State.setDomains, ih, State.domain_setDomain]
    by_cases hj : j ∈ ks
    · rw [if_pos hj, if_pos (List.mem_cons_of_mem _ hj)]
    · simp only [List.mem_cons, hj, or_false, if_false]

theorem State.endErase_spares (s : State) : Spares s s.endErase ∧ s.endErase.ports = s.ports ∧ s.endErase.light = s.light := by
  unfold State.endErase
  split
  · have hboot : Spares s { s with boot := s.boot.interrupt } := ⟨rfl, rfl, rfl, rfl, rfl, fun _ _ => rfl⟩
    exact ⟨(hboot.setReg (a := Reg.CFG_CMD_STATUS) _ (by decide)).clearReg (a := Reg.CFG_CMD) _ (by decide), rfl, rfl⟩
  · exact ⟨.refl s, rfl, rfl⟩

/-- The registers of a unit lie above those of the power domains. -/
theorem unitRange_ge (u : Nat) : 0x1000000 ≤ (unitRange u).1 := by
  unfold unitRange
  split
  · exact Nat.le_add_right ..
  · split <;> dsimp only <;> omega

theorem unitDomains_lt {u k : Nat} (hu : u < 36) (hk : k ∈ unitDomains u) : k < 72 := by
  unfold unitDomains at hk
  split at hk
  · simp only [List.mem_cons, List.not_mem_nil, or_false] at hk; omega
  · split at hk <;> simp only [List.mem_cons, List.not_mem_nil, or_false] at hk <;> omega

theorem State.reg_setDomains_low (s : State) (v : Nat) {ks : List Nat} {a : Nat} (hks : ∀ k ∈ ks, k < 80) (h : a < Reg.PWR_DOM 0 ∨ Reg.PWR_DOM 5 ≤ a) :
    (s.setDomains v ks).reg a = s.reg a := by
  refine s.reg_setDomains v ks fun k hk e => ?_
  have := hks k hk
  simp only [Reg.PWR_DOM] at h e
  omega

section
variable {u : Nat}

theorem State.reg_resetBlock (s : State) (hu : u < 36) {a : Nat} (h : a < Reg.PWR_DOM 0 ∨ Reg.PWR_DOM 5 ≤ a) :
    (s.resetBlock u).reg a = if (unitRange u).1 ≤ a ∧ a < (unitRange u).2 then regReset a else s.reg a := by
  rw [State.resetBlock, State.reg_setDomains_low _ _ (fun k hk => Nat.lt_of_lt_of_le (unitDomains_lt hu hk) (by decide)) h]
  rw [State.reg, SMap.get_keep]
  by_cases hin : (unitRange u).1 ≤ a ∧ a < (unitRange u).2
  · rw [if_neg (by simp [hin]), if_pos hin]
  · rw [if_pos (by simpa only [Bool.not_eq_true', decide_eq_false_iff_not] using hin), if_neg hin]
    rfl

theorem State.resetBlock_writes (s : State) (u : Nat) : Spares { s with regs := (s.resetBlock u).regs } (s.resetBlock u) ∧
    (s.resetBlock u).ports = s.ports := by
  unfold State.resetBlock
  extract_lets r out key
  obtain ⟨r, hr⟩ := State.setDomains_regsOnly _ 1 (unitDomains u)
  rw [hr]
  exact ⟨⟨rfl, rfl, rfl, rfl, rfl, fun _ _ => rfl⟩, rfl⟩

theorem State.resetBlock_spares (s : State) (hu : u < 36) : Spares s (s.resetBlock u) := by
  have hrec : ∀ a, recordRegs a → (s.resetBlock u).reg a = s.reg a := fun a ha => by
    have hge := unitRange_ge u
    obtain ⟨hlo, hhi⟩ := ha
    simp only [Reg.RST_LAST, Reg.RST_STATUS] at hlo hhi
    rw [s.reg_resetBlock hu (by simp only [Reg.PWR_DOM]; omega), if_neg (by omega)]
  obtain ⟨⟨hmode, htiles, hstack, hmail, hsess, -⟩, -⟩ := s.resetBlock_writes u
  exact ⟨hmode, htiles, hstack, hmail, hsess, hrec⟩

theorem State.domain_resetBlock (s : State) {k : Nat} (h : k ∈ unitDomains u) : (s.resetBlock u).domain k = 1 := by
  rw [State.resetBlock, State.domain_setDomains, if_pos h]

/-! ### What each kind of unit loses -/

/-- A Die reset may only bring a mailbox channel's registers to their reset values. -/
theorem State.reg_clearChannel (s : State) (d a : Nat) : (s.clearChannel d).reg a = s.reg a ∨ (0x30000 ≤ a ∧ (s.clearChannel d).reg a = regReset a) := by
  rw [State.reg, State.clearChannel, SMap.get_keep]
  by_cases ha : 0x30000 + 0x40 * d ≤ a ∧ a < 0x30000 + 0x40 * d + 0x30
  · split
    · exact .inl rfl
    · exact .inr ⟨by omega, rfl⟩
  · rw [if_pos (by rw [decide_eq_false ha]; rfl)]
    exact .inl rfl

/-- What a unit's Die reset takes from tiles, memory, mailboxes and sessions. -/
def State.clearUnit (s : State) (u : Nat) : State :=
  if u < 16 then s.clearDie u else if u < 32 then s.clearStack (u - 16) else s.clearIo (u - 32)

/-- Registers through the loss of a unit's contents. -/
theorem State.reg_clearUnit (s : State) (u a : Nat) : (s.clearUnit u).reg a = s.reg a ∨ (0x30000 ≤ a ∧ (s.clearUnit u).reg a = regReset a) := by
  unfold State.clearUnit
  split
  · exact State.reg_clearChannel _ u a
  · split
    · exact .inl rfl
    · unfold State.clearIo
      split <;> exact .inl rfl

theorem State.clearUnit_keeps (s : State) (u : Nat) : (s.clearUnit u).mode = s.mode ∧ (s.clearUnit u).ports = s.ports := by
  unfold State.clearUnit
  split
  · exact ⟨rfl, rfl⟩
  · split
    · exact ⟨rfl, rfl⟩
    · unfold State.clearIo
      split <;> exact ⟨rfl, rfl⟩

theorem State.tile_clearUnit (s : State) (u k : Nat) : (s.clearUnit u).tile k = if u < 16 ∧ keyDie k = u then Tile.reset else s.tile k := by
  unfold State.clearUnit
  by_cases hu : u < 16
  · rw [if_pos hu, State.tile, State.clearDie, State.clearChannel, SMap.get_keep]
    by_cases hk : keyDie k = u
    · rw [if_neg (by simp [hk]), if_pos ⟨hu, hk⟩]
    · rw [if_pos (by simp [hk]), if_neg (fun h => hk h.2)]
      rfl
  · rw [if_neg hu, if_neg (fun h : u < 16 ∧ keyDie k = u => hu h.1)]
    split
    · rfl
    · unfold State.clearIo
      split <;> rfl

theorem State.byte_clearUnit (s : State) (u m x : Nat) : ((s.clearUnit u).stack m).byte x =
    if u = 16 + m ∧ m < 16 ∧ x < 0xB00000000 then 0 else (s.stack m).byte x := by
  unfold State.clearUnit
  by_cases hu : u < 16
  · rw [if_pos hu, if_neg (by omega)]
    rfl
  · rw [if_neg hu]
    by_cases hu2 : u < 32
    · rw [if_pos hu2, State.clearStack, State.stack_setStack]
      by_cases hm : m = u - 16
      · subst hm
        rw [if_pos rfl, MemStack.byte, SMap.get_keep]
        by_cases hx : 0xB00000000 ≤ x
        · rw [if_pos (by simpa using hx), if_neg (by omega)]
          rfl
        · rw [if_neg (by simpa using hx), if_pos (by omega)]
      · rw [if_neg hm, if_neg (by omega)]
    · rw [if_neg hu2, if_neg (by omega)]
      unfold State.clearIo
      split <;> rfl

theorem State.chan_clearUnit (s : State) (u c : Nat) : (s.clearUnit u).chan c = if u < 16 ∧ c = u then MbxChan.reset else s.chan c := by
  unfold State.clearUnit
  by_cases hu : u < 16
  · rw [if_pos hu, State.chan, State.clearDie, State.clearChannel, SMap.get_set]
    by_cases hc : c = u
    · rw [if_pos hc, if_pos ⟨hu, hc⟩]
    · rw [if_neg hc, if_neg (fun h => hc h.2)]
      rfl
  · rw [if_neg hu, if_neg (fun h : u < 16 ∧ c = u => hu h.1)]
    split
    · rfl
    · unfold State.clearIo
      split <;> rfl

theorem State.sessions_clearUnit (s : State) (u : Nat) : (s.clearUnit u).sessions =
    if 32 ≤ u ∧ u < 34 then s.sessions.filter (fun x => x.port != u - 32) else s.sessions := by
  unfold State.clearUnit
  by_cases hu : u < 32
  · rw [if_neg (show ¬(32 ≤ u ∧ u < 34) by omega), if_pos hu]
    split <;> rfl
  · rw [if_neg (by omega), if_neg hu, State.clearIo]
    by_cases hio : u - 32 < 2
    · rw [if_pos hio, if_pos (by omega)]
    · rw [if_neg hio, if_neg (by omega)]

end

/-! ### The reset of a unit -/

/-- The module as a Die reset has recorded it, and ended an erase and a calibration of its lanes. -/
def State.dieCalmed (s : State) (u n d : Nat) : State :=
  let b := (s.recordReset n 2 u d).endErase
  if b.calTouches u then b.calAbort 8 else b

/-- Its unit's block at its reset values, and the contents of the unit gone. -/
def State.dieCleared (s : State) (u n d : Nat) : State := ((s.dieCalmed u n d).resetBlock u).clearUnit u

section
variable (s : State) {u : Nat} (n d : Nat)

theorem State.dieReset_writes : s.dieReset u n d = { s.dieCleared u n d with
    ports := (s.dieCleared u n d).ports.set HPort.reset u HPort.reset
    boot := { (s.dieCleared u n d).boot with units := (s.dieCleared u n d).boot.units.filter (fun x => x != u) ++ [u],
                                             waiting := (s.dieCleared u n d).boot.waiting.filter (fun k => !((unitDomains u).contains k)) } } := rfl

theorem State.dieCalmed_spares : Spares (s.recordReset n 2 u d) (s.dieCalmed u n d) :=
  (State.endErase_spares _).1.trans (Spares.ite (State.calAbort_spares _ 8 (by decide)) (.refl _))

theorem State.dieCalmed_ports (h : s.calTouches u = false) : (s.dieCalmed u n d).ports = s.ports := by
  obtain ⟨r, hr⟩ := s.recordReset_regsOnly n 2 u d
  obtain ⟨-, hports, hlight⟩ := (s.recordReset n 2 u d).endErase_spares
  have htouch : (s.recordReset n 2 u d).endErase.calTouches u = false := by
    rw [State.calTouches, hlight, hr]
    exact h
  rw [State.dieCalmed, if_neg (by rw [htouch]; decide), hports, hr]

variable (hu : u < 36)
include hu

theorem State.dieBlock_spares : Spares (s.recordReset n 2 u d) ((s.dieCalmed u n d).resetBlock u) :=
  (s.dieCalmed_spares n d).trans (State.resetBlock_spares _ hu)

/-- Registers through a Die reset: the record stays as made. -/
theorem State.reg_dieReset_record {a : Nat} (ha : recordRegs a) : (s.dieReset u n d).reg a = (s.recordReset n 2 u d).reg a := by
  have hlow : ¬0x30000 ≤ a := by
    have := ha.2
    simp only [Reg.RST_STATUS] at this
    omega
  exact ((State.reg_clearUnit _ u a).resolve_right fun h => hlow h.1).trans ((s.dieBlock_spares n d hu).record a ha)

theorem State.reg_dieReset_unit {a : Nat} (hlo : (unitRange u).1 ≤ a) (hhi : a < (unitRange u).2) : (s.dieReset u n d).reg a = regReset a := by
  have hge := unitRange_ge u
  have hblock : ((s.dieCalmed u n d).resetBlock u).reg a = regReset a := by
    rw [State.reg_resetBlock _ hu (by simp only [Reg.PWR_DOM]; omega), if_pos ⟨hlo, hhi⟩]
  exact (State.reg_clearUnit _ u a).elim (·.trans hblock) (·.2)

theorem State.domain_dieReset {k : Nat} (hk : k ∈ unitDomains u) : (s.dieReset u n d).domain k = 1 := by
  have hlow : ¬0x30000 ≤ Reg.PWR_DOM (k / 16) := by
    have := unitDomains_lt hu hk
    simp only [Reg.PWR_DOM]
    omega
  have hreg : (s.dieReset u n d).reg (Reg.PWR_DOM (k / 16)) = ((s.dieCalmed u n d).resetBlock u).reg (Reg.PWR_DOM (k / 16)) :=
    (State.reg_clearUnit _ u _).resolve_right fun h => hlow h.1
  rw [State.domain, hreg]
  exact State.domain_resetBlock _ hk

end

/-- A unit loses its own tiles, memory below the kept offsets, port, channel and sessions; the others keep theirs. -/
theorem State.dieReset_clears (s : State) {u : Nat} (n d : Nat) (hu : u < 36) :
    (s.dieReset u n d).mode = s.mode ∧ u ∈ (s.dieReset u n d).boot.units ∧
    (∀ k, (s.dieReset u n d).tile k = if u < 16 ∧ keyDie k = u then Tile.reset else s.tile k) ∧
    (∀ m x, ((s.dieReset u n d).stack m).byte x = if u = 16 + m ∧ m < 16 ∧ x < 0xB00000000 then 0 else (s.stack m).byte x) ∧
    (s.dieReset u n d).port u = HPort.reset ∧ (s.calTouches u = false → ∀ p, p ≠ u → (s.dieReset u n d).port p = s.port p) ∧
    (∀ c, (s.dieReset u n d).chan c = if u < 16 ∧ c = u then MbxChan.reset else s.chan c) ∧
    (s.dieReset u n d).sessions = if 32 ≤ u ∧ u < 34 then s.sessions.filter (fun x => x.port != u - 32) else s.sessions := by
  obtain ⟨hmode, htiles, hstack, hmail, hsess, -⟩ := s.dieBlock_spares n d hu
  obtain ⟨r, hr⟩ := s.recordReset_regsOnly n 2 u d
  rw [hr] at hmode htiles hstack hmail hsess
  refine ⟨?_, ?_, fun k => ?_, fun m x => ?_, ?_, fun htouch p hp => ?_, fun c => ?_, ?_⟩
  · exact (State.clearUnit_keeps _ u).1.trans hmode
  · exact List.mem_append_right _ (List.mem_singleton.mpr rfl)
  · refine (State.tile_clearUnit ((s.dieCalmed u n d).resetBlock u) u k).trans ?_
    rw [State.tile, htiles]
    rfl
  · refine (State.byte_clearUnit ((s.dieCalmed u n d).resetBlock u) u m x).trans ?_
    rw [State.stack, hstack]
    rfl
  · rw [s.dieReset_writes n d, State.port, SMap.get_set_same]
  · rw [s.dieReset_writes n d, State.port, SMap.get_set_other _ _ _ hp, State.dieCleared, (State.clearUnit_keeps _ u).2, (State.resetBlock_writes _ u).2,
      s.dieCalmed_ports n d htouch]
    rfl
  · refine (State.chan_clearUnit ((s.dieCalmed u n d).resetBlock u) u c).trans ?_
    rw [State.chan, hmail]
    rfl
  · refine (State.sessions_clearUnit ((s.dieCalmed u n d).resetBlock u) u).trans ?_
    rw [hsess]

theorem dieReset_clears {s : State} {source : Fin 8} {detail : BitVec 16} {also : List Firing} {u : Fin 36} (h : Asked s source 2 u)
    (hactive : s.boot.active = false) (hnow : ¬Early s source detail ∨ s.mode = .ready ∨ s.mode = .faulted) :
    ∃ t : State, exec (.dieReset u source detail also) s = .next t ∧ t.mode = s.mode ∧ Recorded s t source detail also 2 u ∧ u.val ∈ t.boot.units ∧
      (∀ a, (unitRange u).1 ≤ a → a < (unitRange u).2 → t.reg a = regReset a) ∧ (∀ k ∈ unitDomains u, t.domain k = 1) ∧
      (∀ k, t.tile k = if u.val < 16 ∧ keyDie k = u then Tile.reset else s.tile k) ∧
      (∀ m x, (t.stack m).byte x = if u.val = 16 + m ∧ m < 16 ∧ x < 0xB00000000 then 0 else (s.stack m).byte x) ∧
      t.port u = HPort.reset ∧ (s.calTouches u = false → ∀ p, p ≠ u.val → t.port p = s.port p) ∧
      (∀ c, t.chan c = if u.val < 16 ∧ c = u.val then MbxChan.reset else s.chan c) ∧
      t.sessions = (if 32 ≤ u.val ∧ u.val < 34 then s.sessions.filter (fun x => x.port != u.val - 32) else s.sessions) := by
  have hrecord : Recorded s ((s.atFire 2 u source detail also).dieReset u (leadSource source detail.toNat also).1 (leadSource source detail.toNat also).2)
      source detail also 2 u :=
    recorded_of_recordReset (s := s.unask 2 u) (fun h => absurd rfl h) fun a ha => State.reg_dieReset_record _ _ _ u.isLt ha
  obtain ⟨r, hr⟩ := s.atFire_regsOnly (source := source) (detail := detail) (also := also) 2 u
  have hfire : ∀ n d, (s.atFire 2 u source detail also).fireDie u n d = (s.atFire 2 u source detail also).dieReset u n d := fun n d => by
    refine (if_neg ?_).trans (if_neg ?_)
    · rw [hr]
      simpa [State.unask] using h.2.1
    · rw [hr]
      simp [State.unask, hactive]
  have hgo := dieReset_fires (also := also) h hnow
  rw [hfire] at hgo
  obtain ⟨hmode, hunits, hrest⟩ := (s.atFire 2 u source detail also).dieReset_clears (leadSource source detail.toNat also).1
    (leadSource source detail.toNat also).2 u.isLt
  refine ⟨_, hgo, hmode.trans (by rw [hr]; rfl), hrecord, hunits, fun a => State.reg_dieReset_unit _ _ _ u.isLt,
    fun k => State.domain_dieReset _ _ _ u.isLt, ?_⟩
  clear hgo hfire hrecord hmode hunits
  generalize (s.atFire 2 u source detail also).dieReset u (leadSource source detail.toNat also).1 (leadSource source detail.toNat also).2 = t at *
  rw [hr] at hrest
  exact hrest

end Sys2Proof.Machine

namespace Sys2Proof.Machine

/-! ## A Job reset (R414, R416) -/

theorem SMap.get_absent {α : Type} (d : α) {m : SMap α} {k : Nat} (h : ∀ e ∈ m, e.1 ≠ k) : SMap.get d m k = d := by
  induction m with
  | nil => rfl
  | cons e m ih =>
    obtain ⟨he, hm⟩ := List.forall_mem_cons.mp h
    rw [SMap.get_cons, if_neg he, ih hm]

/-- A read where every value of a map is rewritten and some keys, and the values that have become those of unlisted keys, are dropped. -/
theorem SMap.get_rewrite {α : Type} [DecidableEq α] (d : Nat → α) (f : Nat → α → α) (stay : Nat → Bool) {m : SMap α} (hm : SMap.sorted m = true) (k : Nat)
    (hf : f k (d k) = d k) :
    SMap.get (d k) ((m.map (fun e => (e.1, f e.1 e.2))).filter (fun e => decide (e.2 ≠ d e.1) && stay e.1)) k =
      if stay k then f k (SMap.get (d k) m k) else d k := by
  induction m with
  | nil => simp [hf]
  | cons e m ih =>
    obtain ⟨j, w⟩ := e
    obtain ⟨hlt, hrest⟩ := (SMap.sorted_cons j w m).mp hm
    have ih := ih hrest
    rw [List.map_cons, List.filter_cons, SMap.get_cons]
    by_cases hj : j = k
    · subst hj
      rw [SMap.get_absent (m := m) (d j) (fun e he => Nat.ne_of_gt (hlt e he)), hf] at ih
      rw [if_pos rfl]
      cases hstay : stay j with
      | false => simpa [hstay] using ih
      | true =>
        by_cases hw : f j w = d j
        · simpa [hw, hstay] using ih
        · simp [hw]
    · rw [if_neg hj]
      split
      · rw [SMap.get_cons, if_neg hj, ih]
      · exact ih

/-- The bits of a register that TCK_CTRL.lock holds through a Job reset. -/
def State.jobKept (s : State) (a : Nat) : Word :=
  if flag (s.reg Reg.TCK_CTRL) 31 then
    match blockOf a with
    | some (b, off) => match findRow (blockRows b) off with
      | some (r, _, _) => r.rwl
      | none => 0
    | none => 0
  else 0

/-- A register's value after a Job reset. -/
def State.jobWord (s : State) (a : Nat) (w : Word) : Word :=
  if jobReg a then (w &&& s.jobKept a) ||| (regReset a &&& ~~~s.jobKept a) else w

theorem State.jobWord_reset (s : State) (a : Nat) : s.jobWord a (regReset a) = regReset a := by
  unfold State.jobWord
  split
  · ext i hi
    cases h : (s.jobKept a)[i] <;> simp [h]
  · rfl

theorem and_zero_or_and_not_zero (w r : Word) : (w &&& 0) ||| (r &&& ~~~0) = r := by
  change (w &&& 0#32) ||| (r &&& BitVec.allOnes 32) = r
  rw [BitVec.and_zero, BitVec.zero_or, BitVec.and_allOnes]

/-- Registers a Job reset does not drop. -/
def jobStays (a : Nat) : Bool := !(isCarryReg a) && a != Reg.HRT_BAY_MAP_0 && a != Reg.HRT_BAY_MAP_1

theorem State.jobRegs_eq (s : State) : s.jobRegs =
    (s.regs.map (fun e => (e.1, s.jobWord e.1 e.2))).filter (fun e => decide (e.2 ≠ regReset e.1) && jobStays e.1) := by
  unfold State.jobRegs
  refine congrArg (fun l => List.filter _ l) (List.map_congr_left fun e _ => ?_)
  dsimp only [State.jobWord, State.jobKept]
  split <;> rfl

theorem State.get_jobRegs {s : State} (h : SMap.sorted s.regs = true) (a : Nat) : SMap.get (regReset a) s.jobRegs a =
    if jobStays a then s.jobWord a (s.reg a) else regReset a := by
  rw [State.jobRegs_eq]
  exact SMap.get_rewrite regReset s.jobWord jobStays h a (s.jobWord_reset a)

/-! ### What is written after the clearing -/

theorem State.setWords_regsOnly (s : State) (a : Nat) (bs : List Byte) (n : Nat) : RegsOnly s (s.setWords a bs n) := by
  induction n generalizing s with
  | zero => exact .refl s
  | succ n ih => exact (s.setReg_regsOnly ..).trans (ih _)

theorem State.reg_setWords (s : State) {a x : Nat} (bs : List Byte) (n : Nat) (h : x < a ∨ a + 4 * n ≤ x) : (s.setWords a bs n).reg x = s.reg x := by
  induction n generalizing s with
  | zero => rfl
  | succ n ih => rw [State.setWords, ih _ (by omega), State.reg_setReg, if_neg (by omega)]

theorem State.wakeBays_regsOnly (s : State) (ds : List Nat) : RegsOnly s (s.wakeBays ds) := by
  induction ds generalizing s with
  | nil => exact .refl s
  | cons d ds ih => exact (RegsOnly.ite (.refl s) (s.setDomains_regsOnly ..)).trans (ih _)

theorem State.reg_wakeBays (s : State) {ds : List Nat} {a : Nat} (hds : ∀ d ∈ ds, d < 16) (h : a < Reg.PWR_DOM 0 ∨ Reg.PWR_DOM 5 ≤ a) :
    (s.wakeBays ds).reg a = s.reg a := by
  induction ds generalizing s with
  | nil => rfl
  | cons d ds ih =>
    obtain ⟨hd, hds⟩ := List.forall_mem_cons.mp hds
    rw [State.wakeBays, ih _ hds]
    split
    · rfl
    · exact State.reg_setDomains_low _ _ (by simp only [List.mem_cons, List.not_mem_nil, or_false]; omega) h

/-- Registers a Job reset writes after it has cleared job state, beside TCK_IMAGE_STATUS and TCK_PERIOD, which it brings to 0. -/
def jobWrites (a : Nat) : Prop :=
  a ∈ [Reg.TCK_STOKER, Reg.TCK_STATUS, Reg.TCK_IMAGE_ENERGY, Reg.GLV_STATUS, Reg.TCK_GUARD, Reg.TCK_BUDGET, Reg.TCK_GUARD_OFF, Reg.TCK_RCV_STATUS] ∨
    (Reg.GLV_MEAS 16 ≤ a ∧ a < Reg.GLV_MEAS 32) ∨ (Reg.PWR_DOM 0 ≤ a ∧ a < Reg.PWR_DOM 5)

/-- Job state as a Job reset clears it, before the status words are written. -/
def State.jobCleared (s : State) : State :=
  { s with
    regs := s.jobRegs
    shadowRegs := s.regs.keep (fun a => (List.range 16).any (fun d => a == Reg.TIL_DIE_FENCE d || (decide (Reg.MSH_ROW_MAP d 0 0 ≤ a ∧ a < Reg.TIL_FENCE d 64))))
    tbl := s.tbl.keep (fun k => !(jobTable k)), tblShadow := [], tiles := [], routers := [], flights := [], ports := []
    hearth := { s.hearth with light := [], rounds := [], setBad := false }
    job := JobState.reset, recovery := RecoveryState.reset, tick := TickState.reset
    glove := { s.glove with image := GloveState.reset.image, degraded := GloveState.reset.degraded }
    fabric := { s.fabric with mirror := s.fabric.mirror } }

/-- The status words of an empty module. -/
def State.jobStatus (s : State) (stoker fences : Nat) : State :=
  let s := (s.setReg Reg.TCK_IMAGE_STATUS 0).setRegFld Reg.TCK_STOKER 31 29 stoker
  let s := (s.setRegFld Reg.TCK_STATUS 24 24 0).setReg Reg.TCK_IMAGE_ENERGY 0
  let s := (s.setWords (Reg.GLV_MEAS 16) [] 16).setRegFld Reg.GLV_STATUS 27 26 0
  ((s.setPeriod 0).wakeBays (List.range 16)).setRegFld Reg.TCK_RCV_STATUS 23 16 fences

theorem State.clearJob_eq (s : State) : s.clearJob = s.jobCleared.jobStatus (fld (s.reg Reg.TCK_STOKER) 31 29) (min 255 s.coreFences) := rfl

theorem State.jobStatus_regsOnly (s : State) (stoker fences : Nat) : RegsOnly s (s.jobStatus stoker fences) :=
  ((((((((((((s.setReg_regsOnly ..).setReg ..).setReg ..).setReg ..).trans (State.setWords_regsOnly ..)).setReg ..).setReg ..).setReg ..).setReg ..).setReg
    ..).trans (State.wakeBays_regsOnly ..)).setReg ..)

theorem State.reg_jobStatus (s : State) (stoker fences : Nat) {a : Nat} (h : ¬jobWrites a) : (s.jobStatus stoker fences).reg a =
    if a = Reg.TCK_IMAGE_STATUS ∨ a = Reg.TCK_PERIOD then 0 else s.reg a := by
  simp only [jobWrites, List.mem_cons, List.not_mem_nil, or_false, not_or] at h
  obtain ⟨⟨hstoker, hstatus, henergy, hglv, hguard, hbudget, hoff, hrcv⟩, hmeas, hdom⟩ := h
  unfold State.jobStatus
  simp only [State.setRegFld_eq, State.setPeriod]
  rw [State.reg_setReg, if_neg hrcv, State.reg_wakeBays _ (fun d hd => List.mem_range.mp hd) (by omega), State.reg_setReg, if_neg hoff, State.reg_setReg,
    if_neg hbudget, State.reg_setReg, if_neg hguard, State.reg_setReg]
  by_cases hper : a = Reg.TCK_PERIOD
  · rw [if_pos hper, if_pos (.inr hper)]
    rfl
  · rw [if_neg hper, State.reg_setReg, if_neg hglv, State.reg_setWords _ _ _ (by simp only [Reg.GLV_MEAS] at hmeas ⊢; omega), State.reg_setReg, if_neg henergy,
      State.reg_setReg, if_neg hstatus, State.reg_setReg, if_neg hstoker, State.reg_setReg]
    simp only [hper, or_false]

/-- A register through a Job reset: rewritten or dropped with the job state, then 0 where it describes the image or the tick period. -/
theorem State.reg_clearJob {s : State} (hs : SMap.sorted s.regs = true) {a : Nat} (h : ¬jobWrites a) : s.clearJob.reg a =
    if a = Reg.TCK_IMAGE_STATUS ∨ a = Reg.TCK_PERIOD then 0 else if jobStays a then s.jobWord a (s.reg a) else regReset a := by
  rw [State.clearJob_eq, State.reg_jobStatus _ _ _ h]
  split
  · rfl
  · exact State.get_jobRegs hs a

/-- Registers that a Job reset leaves as they are. -/
def jobSpares (a : Nat) : Prop := ¬jobWrites a ∧ a ≠ Reg.TCK_IMAGE_STATUS ∧ a ≠ Reg.TCK_PERIOD ∧ jobStays a = true ∧ jobReg a = false

theorem State.reg_clearJob_spared {s : State} (hs : SMap.sorted s.regs = true) {a : Nat} (h : jobSpares a) : s.clearJob.reg a = s.reg a := by
  obtain ⟨hwrites, himage, hperiod, hstays, hjob⟩ := h
  rw [State.reg_clearJob hs hwrites, if_neg (by simp [himage, hperiod]), if_pos hstays, State.jobWord, if_neg (by simp [hjob])]

theorem jobStays_of {a : Nat} (h : ∀ d < 16, ¬(Reg.TIL_CARRY d 0 0 ≤ a ∧ a ≤ Reg.TIL_CARRY d 7 3)) (h0 : a ≠ Reg.HRT_BAY_MAP_0) (h1 : a ≠ Reg.HRT_BAY_MAP_1) :
    jobStays a = true := by
  have hcarry : isCarryReg a = false := by
    rw [isCarryReg, List.any_eq_false]
    exact fun d hd => by simpa using h d (List.mem_range.mp hd)
  simp [jobStays, hcarry, h0, h1]

theorem jobReg_of {a : Nat} (h0 : a < 0x50000 ∨ 0x50300 ≤ a) : jobReg a = false := by
  simp only [jobReg, Reg.TCK_EPOCH, Reg.TCK_SEQ_LO, Reg.TCK_SEQ_HI, Bool.or_eq_false_iff, Bool.and_eq_false_iff, beq_eq_false_iff_ne, decide_eq_false_iff_not]
  omega

/-- Registers below the power domains, and those of the units but for carry windows. -/
theorem jobSpares_of {a : Nat} (h : a < Reg.PWR_DOM 0 ∨ 0x1000000 ≤ a) (hcarry : ∀ d < 16, ¬(Reg.TIL_CARRY d 0 0 ≤ a ∧ a ≤ Reg.TIL_CARRY d 7 3)) :
    jobSpares a := by
  simp only [Reg.PWR_DOM] at h
  refine ⟨?_, ?_, ?_, jobStays_of hcarry ?_ ?_, jobReg_of (by omega)⟩
  · simp only [jobWrites, Reg.TCK_STOKER, Reg.TCK_STATUS, Reg.TCK_IMAGE_ENERGY, Reg.GLV_STATUS, Reg.TCK_GUARD, Reg.TCK_BUDGET, Reg.TCK_GUARD_OFF,
      Reg.TCK_RCV_STATUS, Reg.GLV_MEAS, Reg.PWR_DOM, List.mem_cons, List.not_mem_nil, or_false]
    omega
  · simp only [Reg.TCK_IMAGE_STATUS]; omega
  · simp only [Reg.TCK_PERIOD]; omega
  · simp only [Reg.HRT_BAY_MAP_0]; omega
  · simp only [Reg.HRT_BAY_MAP_1]; omega

theorem jobSpares_record {a : Nat} (h : recordRegs a) : jobSpares a := by
  obtain ⟨hlo, hhi⟩ := h
  simp only [Reg.RST_LAST, Reg.RST_STATUS] at hlo hhi
  exact jobSpares_of (.inl (by simp only [Reg.PWR_DOM]; omega)) fun d _ => by simp only [Reg.TIL_CARRY]; omega

theorem jobSpares_dieFence (d : Nat) : jobSpares (Reg.TIL_DIE_FENCE d) := by
  refine jobSpares_of (.inr ?_) fun e _ => ?_
  · simp only [Reg.TIL_DIE_FENCE]; omega
  · simp only [Reg.TIL_DIE_FENCE, Reg.TIL_CARRY]; omega

theorem jobSpares_fence (d : Nat) {r : Nat} (hr : r < 64) : jobSpares (Reg.TIL_FENCE d r) := by
  refine jobSpares_of (.inr ?_) fun e _ => ?_
  · simp only [Reg.TIL_FENCE]; omega
  · simp only [Reg.TIL_FENCE, Reg.TIL_CARRY]; omega

/-- A register that holds job state and that TCK_CTRL.lock does not hold comes to its reset value. -/
theorem State.reg_clearJob_job {s : State} (hs : SMap.sorted s.regs = true) (hlock : flag (s.reg Reg.TCK_CTRL) 31 = false) {a : Nat} (hwrites : ¬jobWrites a)
    (hname : a ≠ Reg.TCK_IMAGE_STATUS ∧ a ≠ Reg.TCK_PERIOD) (hjob : jobReg a = true) : s.clearJob.reg a = regReset a := by
  have hkept : s.jobKept a = 0 := if_neg (by simp [hlock])
  rw [State.reg_clearJob hs hwrites, if_neg (by simp [hname])]
  split
  · rw [State.jobWord, if_pos hjob, hkept]
    exact and_zero_or_and_not_zero _ _
  · rfl

/-! ### The reset of a job -/

theorem SMap.sorted_set {α : Type} [DecidableEq α] (d : α) {m : SMap α} (k : Nat) (v : α) (h : SMap.sorted m = true) :
    SMap.sorted (SMap.set d m k v) = true := by
  unfold SMap.set
  split
  · exact SMap.sorted_erase k h
  · exact SMap.sorted_put k v h

theorem State.sorted_setReg {s : State} (a : Nat) (w : Word) (h : SMap.sorted s.regs = true) : SMap.sorted (s.setReg a w).regs = true :=
  SMap.sorted_set _ a w h

theorem State.sorted_countSource {s : State} (n : Nat) (h : SMap.sorted s.regs = true) : SMap.sorted (s.countSource n).regs = true := by
  unfold State.countSource
  split <;> exact State.sorted_setReg _ _ h

theorem State.sorted_recordReset {s : State} (n scope unit d : Nat) (h : SMap.sorted s.regs = true) : SMap.sorted (s.recordReset n scope unit d).regs = true :=
  State.sorted_setReg _ _ (State.sorted_setReg _ _ (State.sorted_countSource n h))

theorem State.sorted_endErase {s : State} (h : SMap.sorted s.regs = true) : SMap.sorted s.endErase.regs = true := by
  unfold State.endErase
  split
  · exact State.sorted_setReg _ _ (State.sorted_setReg _ _ h)
  · exact h

theorem State.reg_endErase (s : State) {a : Nat} (hstatus : a ≠ Reg.CFG_CMD_STATUS) (hcmd : a ≠ Reg.CFG_CMD) : s.endErase.reg a = s.reg a := by
  unfold State.endErase
  split
  · rw [State.clearReg_eq, State.reg_setReg, if_neg hcmd, State.reg_setReg, if_neg hstatus]
    rfl
  · rfl

/-- The module with its Job reset on record. -/
def State.jobRecorded (s : State) : State := ((s.unask 3 0).recordReset 4 3 0 0).endErase

section
variable {s : State}

theorem State.reg_jobRecorded {a : Nat} (hrec : ¬recordRegs a) (hcmd : a ≠ Reg.CFG_CMD_STATUS ∧ a ≠ Reg.CFG_CMD) : s.jobRecorded.reg a = s.reg a := by
  rw [State.jobRecorded, State.reg_endErase _ hcmd.1 hcmd.2]
  exact State.reg_recordReset_other (by decide) hrec

/-- What a Job reset leaves, beside the registers, of the state it clears. -/
theorem State.clearJob_keeps (s : State) : s.clearJob.mode = s.mode ∧ s.clearJob.tiles = [] ∧ s.clearJob.routers = [] ∧ s.clearJob.flights = [] ∧
    s.clearJob.ports = [] ∧ s.clearJob.stackMem = s.stackMem ∧ s.clearJob.mailbox = s.mailbox ∧ s.clearJob.tbl = s.tbl.keep (fun k => !(jobTable k)) := by
  obtain ⟨r, hr⟩ := s.jobCleared.jobStatus_regsOnly (fld (s.reg Reg.TCK_STOKER) 31 29) (min 255 s.coreFences)
  rw [State.clearJob_eq, hr]
  exact ⟨rfl, rfl, rfl, rfl, rfl, rfl, rfl, rfl⟩

/-- The fault that a reset ends. -/
def State.unfault (s : State) : State := { s with boot := { s.boot with faulted := false } }

theorem jobReset_next (hmode : s.mode = .faulted) (hin : s.boot.input = true) (hasked : (3, 0) ∈ s.boot.asked) : exec .jobReset s =
    .next (s.jobRecorded.clearJob.unfault.go .ready 3) := by
  have hmay : s.mayFire 3 0 4 = true := Asked.mayFire ⟨hin, by simp [hmode], fun _ => hasked⟩
  exact if_neg (by simp [hmode, hmay])

end

/-- Tiles, mesh, ports, memory, mailboxes and tables are the same. -/
structure KeepsStores (s t : State) : Prop where
  tiles : t.tiles = s.tiles
  routers : t.routers = s.routers
  flights : t.flights = s.flights
  ports : t.ports = s.ports
  stackMem : t.stackMem = s.stackMem
  mailbox : t.mailbox = s.mailbox
  tbl : t.tbl = s.tbl

theorem KeepsStores.trans {s t u : State} (h : KeepsStores s t) (h' : KeepsStores t u) : KeepsStores s u :=
  ⟨h'.tiles.trans h.tiles, h'.routers.trans h.routers, h'.flights.trans h.flights, h'.ports.trans h.ports, h'.stackMem.trans h.stackMem,
    h'.mailbox.trans h.mailbox, h'.tbl.trans h.tbl⟩

section
variable (s : State)

/-- The queue pairs a change of state leaves open. -/
def State.closePairs (m : ModState) : State := { s with qps := s.qps.filter (keepQp s.mode m) }

theorem State.closePairs_stores (m : ModState) : KeepsStores s (s.closePairs m) ∧ (s.closePairs m).regs = s.regs :=
  ⟨⟨rfl, rfl, rfl, rfl, rfl, rfl, rfl⟩, rfl⟩

theorem State.setRegFld_stores (a hi lo v : Nat) : KeepsStores s (s.setRegFld a hi lo v) := ⟨rfl, rfl, rfl, rfl, rfl, rfl, rfl⟩

theorem State.enter_stores (m : ModState) (cause : Nat) : KeepsStores s (s.enter m cause) ∧ (s.enter m cause).mode = m ∧ (s.enter m cause).regs = s.regs :=
  ⟨⟨rfl, rfl, rfl, rfl, rfl, rfl, rfl⟩, rfl, rfl⟩

theorem State.unfault_stores : KeepsStores s s.unfault ∧ s.unfault.mode = s.mode ∧ s.unfault.regs = s.regs :=
  ⟨⟨rfl, rfl, rfl, rfl, rfl, rfl, rfl⟩, rfl, rfl⟩

theorem State.reg_congr {t u : State} (h : t.regs = u.regs) (a : Nat) : t.reg a = u.reg a := by
  rw [State.reg, h, State.reg]

theorem State.go_idle {m : ModState} (hm : (m == .running || m == .draining) = false) (ht : s.ticking = false) (cause : Nat) :
    s.go m cause = ((s.closePairs m).setRegFld Reg.TCK_STATUS 27 27 0).enter m cause := by
  have ht' : ({ s with qps := s.qps.filter (keepQp s.mode m) } : State).ticking = false := ht
  unfold State.go
  rw [hm, if_neg (by decide)]
  dsimp only
  rw [ht', if_neg (by decide)]
  rfl

/-- A change of module state where no tick runs leaves all but queue pairs, events and TCK_STATUS. -/
theorem State.go_idle_stores {m : ModState} (hm : (m == .running || m == .draining) = false) (ht : s.ticking = false) (cause : Nat) :
    KeepsStores s (s.go m cause) ∧ (s.go m cause).mode = m ∧ ∀ a, a ≠ Reg.TCK_STATUS → (s.go m cause).reg a = s.reg a := by
  obtain ⟨henter, hmode, hregs⟩ := ((s.closePairs m).setRegFld Reg.TCK_STATUS 27 27 0).enter_stores m cause
  obtain ⟨hclose, hsame⟩ := s.closePairs_stores m
  rw [s.go_idle hm ht cause]
  refine ⟨(hclose.trans (State.setRegFld_stores ..)).trans henter, hmode, fun a ha => ?_⟩
  rw [State.reg_congr hregs, State.setRegFld_eq, State.reg_setReg, if_neg ha, State.reg_congr hsame]

end

section
variable {s : State}

/-- The registers of the tick sequence number hold job state. -/
theorem jobReg_seq : ∀ a ∈ [Reg.TCK_SEQ_LO, Reg.TCK_SEQ_HI],
    ¬jobWrites a ∧ (a ≠ Reg.TCK_IMAGE_STATUS ∧ a ≠ Reg.TCK_PERIOD) ∧ jobReg a = true ∧ regReset a = 0 := by
  unfold jobWrites
  decide

theorem State.reg_clearJob_seq (hs : SMap.sorted s.regs = true) (hlock : flag (s.reg Reg.TCK_CTRL) 31 = false) {a : Nat}
    (ha : a ∈ [Reg.TCK_SEQ_LO, Reg.TCK_SEQ_HI]) : s.clearJob.reg a = 0 := by
  obtain ⟨hwrites, hname, hjob, hreset⟩ := jobReg_seq a ha
  rw [State.reg_clearJob_job hs hlock hwrites hname hjob, hreset]

theorem jobReset_clears (hmode : s.mode = .faulted) (hin : s.boot.input = true) (hasked : (3, 0) ∈ s.boot.asked) (hs : SMap.sorted s.regs = true) :
    ∃ t : State, exec .jobReset s = .next t ∧ t.mode = .ready ∧ Recorded s t 4 0 [] 3 0 ∧ t.tiles = [] ∧ t.routers = [] ∧ t.flights = [] ∧ t.ports = [] ∧
      t.stackMem = s.stackMem ∧ t.mailbox = s.mailbox ∧
      t.reg Reg.TCK_IMAGE_STATUS = 0 ∧ t.reg Reg.TCK_PERIOD = 0 ∧ (flag (s.reg Reg.TCK_CTRL) 31 = false → t.seq = 0) ∧
      (∀ d < 16, t.reg (Reg.TIL_DIE_FENCE d) = s.reg (Reg.TIL_DIE_FENCE d) ∧ ∀ r < 64, t.reg (Reg.TIL_FENCE d r) = s.reg (Reg.TIL_FENCE d r)) ∧
      ∀ k, jobTable k = true → t.tblWord k = tblReset k := by
  have hsorted : SMap.sorted s.jobRecorded.regs = true := State.sorted_endErase (State.sorted_recordReset _ _ _ _ hs)
  obtain ⟨hspares, -, -⟩ := ((s.unask 3 0).recordReset 4 3 0 0).endErase_spares
  obtain ⟨hmode', htiles, hrouters, hflights, hports, hstack, hmail, htbl⟩ := s.jobRecorded.clearJob_keeps
  have hjob : s.jobRecorded.mode = s.mode ∧ s.jobRecorded.stackMem = s.stackMem ∧ s.jobRecorded.mailbox = s.mailbox := by
    obtain ⟨r, hr⟩ := (s.unask 3 0).recordReset_regsOnly 4 3 0 0
    exact ⟨hspares.mode.trans (by rw [hr]; rfl), hspares.stackMem.trans (by rw [hr]; rfl), hspares.mailbox.trans (by rw [hr]; rfl)⟩
  obtain ⟨hunfault, hfault, hregs⟩ := s.jobRecorded.clearJob.unfault_stores
  have hnext := jobReset_next hmode hin hasked
  generalize s.jobRecorded.clearJob.unfault = w at *
  have hidle : w.ticking = false := by
    rw [State.ticking, hfault, hmode', hjob.1, hmode]
    rfl
  obtain ⟨hgo, hready, hother⟩ := w.go_idle_stores (m := .ready) rfl hidle 3
  have hstores := hunfault.trans hgo
  have hreg : ∀ a, a ≠ Reg.TCK_STATUS → (w.go .ready 3).reg a = s.jobRecorded.clearJob.reg a := fun a ha =>
    (hother a ha).trans (State.reg_congr hregs a)
  have hspared : ∀ a, jobSpares a → a ≠ Reg.TCK_STATUS → (w.go .ready 3).reg a = s.jobRecorded.reg a := fun a ha hne =>
    (hreg a hne).trans (State.reg_clearJob_spared hsorted ha)
  have hfence : ∀ a, jobSpares a → 0x1000000 ≤ a → (w.go .ready 3).reg a = s.reg a := fun a ha hle => by
    have hne : a ≠ Reg.TCK_STATUS ∧ ¬recordRegs a ∧ a ≠ Reg.CFG_CMD_STATUS ∧ a ≠ Reg.CFG_CMD := by
      simp only [recordRegs, Reg.TCK_STATUS, Reg.RST_LAST, Reg.RST_STATUS, Reg.CFG_CMD_STATUS, Reg.CFG_CMD]
      omega
    rw [hspared a ha hne.1, State.reg_jobRecorded hne.2.1 hne.2.2]
  refine ⟨_, hnext, hready, ?_, hstores.tiles.trans htiles, hstores.routers.trans hrouters, hstores.flights.trans hflights, hstores.ports.trans hports,
    hstores.stackMem.trans (hstack.trans hjob.2.1), hstores.mailbox.trans (hmail.trans hjob.2.2), ?_, ?_, fun hlock => ?_,
    fun d _ => ⟨hfence _ (jobSpares_dieFence d) ?_, fun r hr => hfence _ (jobSpares_fence d hr) ?_⟩, fun k hk => ?_⟩
  · refine recorded_of_recordReset (s := s.unask 3 0) (fun _ => rfl) fun a ha => ?_
    rw [hspared a (jobSpares_record ha) (fun e => by rw [e] at ha; exact absurd ha (by decide))]
    exact hspares.record a ha
  · rw [hreg _ (by decide), State.reg_clearJob hsorted (by unfold jobWrites; decide), if_pos (.inl rfl)]
  · rw [hreg _ (by decide), State.reg_clearJob hsorted (by unfold jobWrites; decide), if_pos (.inr rfl)]
  · rw [← State.reg_jobRecorded (a := Reg.TCK_CTRL) (by decide) (by decide)] at hlock
    rw [State.seq, State.reg64, hreg _ (by decide), hreg _ (by decide), State.reg_clearJob_seq hsorted hlock (by simp),
      State.reg_clearJob_seq hsorted hlock (by simp)]
    rfl
  · simp only [Reg.TIL_DIE_FENCE]; omega
  · simp only [Reg.TIL_FENCE]; omega
  · rw [State.tblWord, hstores.tbl, htbl, SMap.get_keep, if_neg (by simp [hk])]

end

/-- Settles O48: each scope's reset, what waits, and what restarts a release. -/
theorem resets : Obligations.Resets := by
  refine ⟨fun source detail also s h => coldReset_clears h, fun source detail also s h hrelease =>
    ⟨fun hearly hmode => warmReset_waits h hearly hmode, fun hnow => warmReset_clears h hrelease hnow⟩, fun u source detail also s h hactive =>
    ⟨fun hearly hready hfaulted => dieReset_waits h hearly hready hfaulted, fun hnow => dieReset_clears h hactive hnow⟩,
    fun source detail also s hactive hscope h hnow => warmReset_restarts hactive hscope h hnow,
    fun u source detail also s hactive h hnow => dieReset_restarts hactive h hnow,
    fun s hmode hin hasked hs => jobReset_clears hmode hin hasked hs⟩

end Sys2Proof.Machine

namespace Sys2Proof.Machine

/-! ## Every command goes on to a next state -/

/-- The outcome is a next state, no fault and no refusal. -/
def Goes (o : Host.Outcome State Fault Refusal) : Prop := ∃ t, o = .next t

theorem goes_next (t : State) : Goes (.next t) := ⟨t, rfl⟩

theorem goes_ite {c : Prop} [Decidable c] {a b : Host.Outcome State Fault Refusal} (ha : Goes a) (hb : Goes b) : Goes (if c then a else b) :=
  iteInduction (fun _ => ha) (fun _ => hb)

/-- A management cell is taken, or there is none (R279). -/
theorem goes_onMgmt (s : State) (f type : Nat) (from_ : Bool) (act : State → Nat → State) : Goes (s.onMgmt f type from_ act) := by
  unfold State.onMgmt
  split
  · exact goes_next _
  · exact goes_next _

/-- The commands named first look at the state before they act: each of their branches ends in a next state. All others act whatever the state is. -/
theorem goes_exec (i : Instr) (s : State) : Goes (exec i s) := by
  cases i with
  | inputDeadline | patrolScrub | fabricAtomic | sendInject | meshSlotWindowOpen | meshPacketArrival | reducePacketCombine | forkSlip | crossingSlip |
    syncToken | syncRelease | syncFence | sumPacketQueue | sumRoundSend | sumRoundReceive | sumResultDelivery | toneWindow | tickBeacon | idleBeacon |
    flywheelBeacon | tickInEdge | guardStart | referenceLost | referenceReturned | droopStretch | voteClose | localVerdictFinal | voteSend |
    voteWaitExpiry | commitDecision | decisionLost | trainingCell | linkUp | linkDown | linkDelayMeasure | replayRequest | fabricCellReceive |
    scheduledWindowStart | scheduledCellReceive | remoteRequest | combinerFlush | beaconFrame | vote | decision | echoRequest | echoReply | loss |
    spareLock | spareLockTimeout | handoverRampEnd | heaterLoopWindow | calibrationMeasurementEnd | coreFencePrepare | dieFailure | takeoverEnd |
    checkpointSnapshotEnd | peerCheckpointTransfer | healthReport | yield | stokerSnapshot | stokerFailover | stokerReturn | drainEnd |
    housekeepingRound | damperStageChange | coolSecond | wearSecond | bankEntryEnd | coldReset | warmReset | dieReset | jobReset | optionLoad |
    setSignatureVerify | releaseStepEnd | bootLimitExpiry | stokerWatchdogExpiry | brownOut | stampReached | coreCheck | sramWriteBack | cfgCmdEnd |
    rwcPendingExpiry | criticalPairSweep | controlAccessTimeout | glvCmdEnd | tamper | entropyHealthFail | quoteSigned | hearthWindowOpen |
    hearthBlockReceive | broadcastBlockLanding | readRequest | memoryWrite | readResponseLanding | reserveOff | reserveOn | pilotFrameLost |
    pilotComplementMismatch | loadJobEnd | wakeComplete | arpRequest | mopArrayDone | syncIntervalMissed | pfcPause | remoteResponse | remoteTimeout |
    inputQualified | inputLost | vbakApplied | modResetN | i2cRead | i2cOffsetWrite | opticOverpower | hostLinkUp =>
    simp -zeta only [exec, execInputDeadline, execPatrolScrub, execFabricAtomic, execSendInject, execMeshSlotWindowOpen, execMeshPacketArrival,
      execReducePacketCombine, execForkSlip, execCrossingSlip, execSyncToken, execSyncRelease, execSyncFence, execSumPacketQueue, execSumRoundSend,
      execSumRoundReceive, execSumResultDelivery, execToneWindow, execTickBeacon, execIdleBeacon, execFlywheelBeacon, execTickInEdge, execGuardStart,
      execReferenceLost, execReferenceReturned, execDroopStretch, execVoteClose, execLocalVerdictFinal, execVoteSend, execVoteWaitExpiry,
      execCommitDecision, execDecisionLost, execTrainingCell, execLinkUp, execLinkDown, execLinkDelayMeasure, execReplayRequest,
      execFabricCellReceive, execScheduledWindowStart, execScheduledCellReceive, execRemoteRequest, execCombinerFlush, execBeaconFrame, execVote,
      execDecision, execEchoRequest, execEchoReply, execLoss, execSpareLock, execSpareLockTimeout, execHandoverRampEnd, execHeaterLoopWindow,
      execCalibrationMeasurementEnd, execCoreFencePrepare, execDieFailure, execTakeoverEnd, execCheckpointSnapshotEnd, execPeerCheckpointTransfer,
      execHealthReport, execYield, execStokerSnapshot, execStokerFailover, execStokerReturn, execDrainEnd, execHousekeepingRound,
      execDamperStageChange, execCoolSecond, execWearSecond, execBankEntryEnd, execColdReset, execWarmReset, execDieReset, execJobReset,
      execOptionLoad, execSetSignatureVerify, execReleaseStepEnd, execBootLimitExpiry, execStokerWatchdogExpiry, execBrownOut, execStampReached,
      execCoreCheck, execSramWriteBack, execCfgCmdEnd, execRwcPendingExpiry, execCriticalPairSweep, execControlAccessTimeout, execGlvCmdEnd,
      execTamper, execEntropyHealthFail, execQuoteSigned, execHearthWindowOpen, execHearthBlockReceive, execBroadcastBlockLanding, execReadRequest,
      execMemoryWrite, execReadResponseLanding, execReserveOff, execReserveOn, execPilotFrameLost, execPilotComplementMismatch, execLoadJobEnd,
      execWakeComplete, execArpRequest, execMopArrayDone, execSyncIntervalMissed, execPfcPause, execRemoteResponse, execRemoteTimeout,
      execInputQualified, execInputLost, execVbakApplied, execModResetN, execI2cRead, execI2cOffsetWrite, execOpticOverpower, execHostLinkUp]
    repeat' first
      | with_reducible exact goes_next _
      | with_reducible exact goes_onMgmt ..
      | with_reducible refine goes_ite ?_ ?_
      | split
      | extract_lets
  | _ => exact goes_next _

/-- Settles O56: branch by branch, every command answers a next state. -/
theorem noStop : Obligations.NoStop := goes_exec

end Sys2Proof.Machine

namespace Sys2Proof.Machine

/-! ## What the units' work at a beacon leaves alone -/

/-- The table words of failed paths: ember-sum table 2 of the compute ports (R205). -/
def pathKey (k : Nat) : Prop := ∃ p < 16, ∃ i < 576, k = tblKey 2 p 2 i

/-- No path is marked failed. -/
def PathsWhole (m : SMap Word) : Prop := ∀ kw ∈ m, pathKey kw.1 → flag kw.2 30 = false

/-- The registers of the tick generator that only a beacon itself writes. -/
def beaconRegs : List Nat := [Reg.TCK_SEQ_LO, Reg.TCK_SEQ_HI, Reg.TCK_EPOCH, Reg.TCK_STATUS, Reg.TCK_EVENTS]

/-- A tick goes on: its course is the same, and what was charged stays charged. -/
structure Onward (x y : TickState) : Prop where
  isOpen : y.isOpen = x.isOpen
  guard : y.guard = x.guard
  resolved : y.resolved = x.resolved
  abandonBeacon : y.abandonBeacon = x.abandonBeacon
  parity : y.parity = x.parity
  misses : y.misses = x.misses
  charged : x.charged = true → y.charged = true
  chargeNext : x.chargeNext = true → y.chargeNext = true

/-- Module state, job, tick, tick generator and the marks of failed paths are untouched. -/
structure Beside (s t : State) : Prop where
  mode : t.mode = s.mode
  job : t.job = s.job
  reg : ∀ a ∈ beaconRegs, t.reg a = s.reg a
  tick : Onward s.tick t.tick
  paths : PathsWhole s.tbl → PathsWhole t.tbl

/-- The registers of module time: the time of the last beacon, and each die's error at it. -/
def timeRegs : List Nat := [Reg.TCK_BEACON_LO, Reg.TCK_BEACON_HI] ++ (List.range 36).map Reg.TCK_DIE_ERR

/-- The tiles and module time are untouched besides. -/
structure Apart (s t : State) : Prop extends Beside s t where
  tiles : t.tiles = s.tiles
  clock : t.clock = s.clock
  slew : t.slew = s.slew
  time : ∀ a ∈ timeRegs, t.reg a = s.reg a

theorem Onward.refl (x : TickState) : Onward x x := ⟨rfl, rfl, rfl, rfl, rfl, rfl, id, id⟩

theorem Onward.trans {x y z : TickState} (h : Onward x y) (h' : Onward y z) : Onward x z :=
  ⟨h'.isOpen.trans h.isOpen, h'.guard.trans h.guard, h'.resolved.trans h.resolved, h'.abandonBeacon.trans h.abandonBeacon, h'.parity.trans h.parity,
    h'.misses.trans h.misses, h'.charged ∘ h.charged, h'.chargeNext ∘ h.chargeNext⟩

section
variable {s t u : State}

theorem Beside.refl (s : State) : Beside s s := ⟨rfl, rfl, fun _ _ => rfl, .refl _, id⟩

theorem Beside.trans (h : Beside s t) (h' : Beside t u) : Beside s u :=
  ⟨h'.mode.trans h.mode, h'.job.trans h.job, fun a ha => (h'.reg a ha).trans (h.reg a ha), h.tick.trans h'.tick, h'.paths ∘ h.paths⟩

theorem Beside.ite {c : Prop} [Decidable c] (h : Beside s t) (h' : Beside s u) : Beside s (if c then t else u) :=
  iteInduction (fun _ => h) (fun _ => h')

theorem Apart.refl (s : State) : Apart s s := ⟨.refl s, rfl, rfl, rfl, fun _ _ => rfl⟩

theorem Apart.trans (h : Apart s t) (h' : Apart t u) : Apart s u :=
  ⟨h.toBeside.trans h'.toBeside, h'.tiles.trans h.tiles, h'.clock.trans h.clock, h'.slew.trans h.slew, fun a ha => (h'.time a ha).trans (h.time a ha)⟩

theorem Apart.ite {c : Prop} [Decidable c] (h : Apart s t) (h' : Apart s u) : Apart s (if c then t else u) :=
  iteInduction (fun _ => h) (fun _ => h')

/-- An update of other fields. -/
theorem Beside.of_fields (hmode : t.mode = s.mode) (hjob : t.job = s.job) (hregs : t.regs = s.regs) (htick : t.tick = s.tick) (htbl : t.tbl = s.tbl) :
    Beside s t :=
  ⟨hmode, hjob, fun a _ => by rw [State.reg, hregs, State.reg], htick ▸ .refl _, fun h => htbl ▸ h⟩

theorem Apart.of_fields (hmode : t.mode = s.mode) (hjob : t.job = s.job) (hregs : t.regs = s.regs) (htick : t.tick = s.tick) (htbl : t.tbl = s.tbl)
    (htiles : t.tiles = s.tiles) (hclock : t.clock = s.clock) (hslew : t.slew = s.slew) : Apart s t :=
  ⟨.of_fields hmode hjob hregs htick htbl, htiles, hclock, hslew, fun a _ => by rw [State.reg, hregs, State.reg]⟩

/-- No register of the tick generator or of module time. -/
abbrev NoTickReg (a : Nat) : Prop := a ∉ beaconRegs ∧ a ∉ timeRegs

/-- Those registers lie in the tick block. -/
theorem noTickReg {a : Nat} (h : a < 0x50020 ∨ 0x50800 ≤ a) : NoTickReg a := by
  have hrange : (∀ x ∈ beaconRegs, 0x50020 ≤ x ∧ x < 0x50800) ∧ ∀ x ∈ timeRegs, 0x50020 ≤ x ∧ x < 0x50800 := by decide
  refine ⟨fun hmem => ?_, fun hmem => ?_⟩
  · have := hrange.1 a hmem
    omega
  · have := hrange.2 a hmem
    omega

end

section
variable (s : State)

theorem State.setReg_beside {a : Nat} (w : Word) (ha : a ∉ beaconRegs) : Beside s (s.setReg a w) :=
  ⟨rfl, rfl, fun _ hb => (State.reg_setReg ..).trans (if_neg (fun e : _ = a => ha (e ▸ hb))), .refl _, id⟩

theorem State.setReg_apart {a : Nat} (w : Word) (ha : NoTickReg a) : Apart s (s.setReg a w) :=
  ⟨s.setReg_beside w ha.1, rfl, rfl, rfl, fun _ hb => (State.reg_setReg ..).trans (if_neg (fun e : _ = a => ha.2 (e ▸ hb)))⟩

theorem PathsWhole.set {m : SMap Word} (h : PathsWhole m) {k : Nat} (hk : ¬pathKey k) (d w : Word) : PathsWhole (SMap.set d m k w) := fun kw hmem hkey => by
  rcases mem_set hmem with e | hm
  · exact absurd hkey (by rw [e]; exact hk)
  · exact h kw hm hkey

theorem State.setTbl_apart {k : Nat} (w : Word) (hk : ¬pathKey k) : Apart s (s.setTbl k w) :=
  ⟨⟨rfl, rfl, fun _ _ => rfl, .refl _, fun h => h.set hk _ w⟩, rfl, rfl, rfl, fun _ _ => rfl⟩

end

end Sys2Proof.Machine

namespace Sys2Proof.Machine

/-! ## Reports, ports, memory stacks and cells beside the tick -/

section
variable (s : State)

theorem State.event_apart (bit code : Nat) (payload : List Byte) : Apart s (s.event bit code payload) := .of_fields rfl rfl rfl rfl rfl rfl rfl rfl

theorem State.faultEvent_apart (src inst code : Nat) (charged : Bool) : Apart s (s.faultEvent src inst code charged) := s.event_apart ..

theorem State.send_apart (m : OutMsg) : Apart s (s.send m) := .of_fields rfl rfl rfl rfl rfl rfl rfl rfl

theorem State.setPort_apart (p : Nat) (x : HPort) : Apart s (s.setPort p x) := .of_fields rfl rfl rfl rfl rfl rfl rfl rfl

theorem State.setFport_apart (f : Nat) (x : FabPort) : Apart s (s.setFport f x) := .of_fields rfl rfl rfl rfl rfl rfl rfl rfl

theorem State.setStack_apart (m : Nat) (x : MemStack) : Apart s (s.setStack m x) := .of_fields rfl rfl rfl rfl rfl rfl rfl rfl

theorem State.setRouter_apart (k : Nat) (r : Router) : Apart s (s.setRouter k r) := .of_fields rfl rfl rfl rfl rfl rfl rfl rfl

theorem State.drawn_apart (n : Nat) : Apart s (s.drawn n) := .of_fields rfl rfl rfl rfl rfl rfl rfl rfl

theorem State.hearth_apart (x : HearthState) : Apart s { s with hearth := x } := .of_fields rfl rfl rfl rfl rfl rfl rfl rfl

theorem State.recovery_apart (x : RecoveryState) : Apart s { s with recovery := x } := .of_fields rfl rfl rfl rfl rfl rfl rfl rfl

theorem State.sendFrame_apart (type dst src value : Nat) : Apart s (s.sendFrame type dst src value) := .of_fields rfl rfl rfl rfl rfl rfl rfl rfl

theorem State.reportError_apart (p code : Nat) (info : Word) : Apart s (s.reportError p code info) := .of_fields rfl rfl rfl rfl rfl rfl rfl rfl

/-- A charge only adds to what the tick or the next is charged with. -/
theorem State.charge_apart : Apart s s.charge := by
  unfold State.charge
  split
  · split
    · exact ⟨⟨rfl, rfl, fun _ _ => rfl, ⟨rfl, rfl, rfl, rfl, rfl, rfl, id, fun _ => rfl⟩, id⟩, rfl, rfl, rfl, fun _ _ => rfl⟩
    · exact ⟨⟨rfl, rfl, fun _ _ => rfl, ⟨rfl, rfl, rfl, rfl, rfl, rfl, fun _ => rfl, id⟩, id⟩, rfl, rfl, rfl, fun _ _ => rfl⟩
  · exact .refl s

theorem State.recordFirst_apart {status info : Nat} (code : Nat) (w : Word) (hs : NoTickReg status) (hi : NoTickReg info) :
    Apart s (s.recordFirst status info code w) :=
  Apart.ite (s.setReg_apart _ hs) ((s.setReg_apart _ hs).trans (State.setReg_apart _ _ hi))

/-! ### Ports -/

theorem State.emitBlocks_apart (p g : Nat) (bs : List HBlock) : Apart s (s.emitBlocks p g bs) := by
  induction bs generalizing s with
  | nil => exact .refl s
  | cons b bs ih => exact ((s.setPort_apart ..).trans (State.hearth_apart ..)).trans (ih (s.emitBlock p g b))

theorem State.release_apart (p g : Nat) (q : TxGroup) (out rest : List HBlock) : Apart s (s.release p g q out rest) :=
  (s.setPort_apart ..).trans (State.emitBlocks_apart ..)

theorem State.pump_apart (p g : Nat) : Apart s (s.pump p g) := by
  unfold State.pump
  extract_lets q w all
  refine Apart.ite (.refl s) (Apart.ite (Apart.ite (s.release_apart ..) (.refl s)) ?_)
  exact s.release_apart ..

theorem State.pumpGroups_apart (l : List (Nat × Nat)) : Apart s (s.pumpGroups l) := by
  induction l generalizing s with
  | nil => exact .refl s
  | cons g l ih => exact (s.pump_apart ..).trans (ih _)

theorem State.pumpAll_apart : Apart s s.pumpAll := s.pumpGroups_apart _

theorem State.queueBlock_apart (p g : Nat) (b : HBlock) : Apart s (s.queueBlock p g b) := (s.setPort_apart ..).trans (State.pump_apart ..)

theorem State.queueUnit_apart (p : Nat) (b : HBlock) : Apart s (s.queueUnit p b) :=
  Apart.ite (s.queueBlock_apart ..) ((s.setPort_apart ..).trans (State.pump_apart ..))

/-! ### Memory stacks -/

theorem memRegs_noTickReg (m : Nat) : NoTickReg (Reg.MEM_ERR_STATUS m) ∧ NoTickReg (Reg.MEM_ERR_INFO m) ∧ NoTickReg (Reg.MEM_ERR_ADDR m) ∧
    NoTickReg (Reg.MEM_ECC_COUNT m) := by
  refine ⟨noTickReg ?_, noTickReg ?_, noTickReg ?_, noTickReg ?_⟩ <;>
    simp only [Reg.MEM_ERR_STATUS, Reg.MEM_ERR_INFO, Reg.MEM_ERR_ADDR, Reg.MEM_ECC_COUNT] <;> omega

theorem State.memError_apart (m port code off : Nat) (abandons : Bool) : Apart s (s.memError m port code off abandons) := by
  obtain ⟨hstatus, hinfo, haddr, -⟩ := memRegs_noTickReg m
  have hfirst := (s.recordFirst_apart code (BitVec.ofNat 32 (port * 2 ^ 26 + s.chargedSeq % 256)) hstatus hinfo).trans
    (State.faultEvent_apart _ 6 m code abandons)
  unfold State.memError
  extract_lets first recorded addressed
  have haddressed : Apart s addressed := Apart.ite (hfirst.trans (State.setReg_apart _ _ haddr)) hfirst
  exact Apart.ite (haddressed.trans (State.charge_apart _)) haddressed

theorem State.countLines_apart (m : Nat) (ls : List Nat) : Apart s (s.countLines m ls) :=
  Apart.ite (.refl s) ((s.setStack_apart ..).trans (State.setReg_apart _ _ (memRegs_noTickReg m).2.2.2))

theorem State.badLines_apart (m n port code off : Nat) (abandons : Bool) :
    Apart s ((s.bumpReg (Reg.MEM_ECC_COUNT m) 31 16 n).memError m port code off abandons) :=
  (s.setReg_apart _ (memRegs_noTickReg m).2.2.2).trans (State.memError_apart ..)

theorem State.memGet_apart (m off n : Nat) (who : Who) : Apart s (s.memGet m off n who).2 := by
  unfold State.memGet
  split
  · exact s.memError_apart m who.port 0x02 off (!who.outside)
  split
  · exact s.memError_apart m who.port 0x08 off false
  split
  · exact s.memError_apart m who.port 0x03 off true
  · extract_lets at0 s1 bad data s2
    have hcount : Apart s s1 := s.countLines_apart ..
    split
    · exact hcount
    · exact (hcount.trans (Apart.ite (State.recovery_apart ..) (.refl _))).trans (State.badLines_apart ..)

theorem State.memStore_apart (m off : Nat) (bs : List Byte) (who : Who) : Apart s (s.memStore m off bs who).2 := by
  unfold State.memStore
  extract_lets s1 bad
  have hcount : Apart s s1 := s.countLines_apart ..
  split
  · exact hcount.trans (State.setStack_apart ..)
  · exact hcount.trans (State.badLines_apart ..)

/-- Table words of other blocks than ember-sum's are no marks of failed paths. -/
theorem not_pathKey {k : Nat} (h : k < tblKey 2 0 2 0 ∨ tblKey 3 0 0 0 ≤ k) : ¬pathKey k := by
  rintro ⟨p, hp, i, hi, rfl⟩
  simp only [tblKey] at h
  omega

theorem State.setRingStatus_apart (m i : Nat) (w : Word) : Apart s (s.setRingStatus m i w) :=
  s.setTbl_apart w (not_pathKey (.inr (by simp only [tblKey]; omega)))

theorem State.memPut_apart (m off : Nat) (bs : List Byte) (who : Who) : Apart s (s.memPut m off bs who).2 := by
  unfold State.memPut
  extract_lets n inCopies
  split
  · exact s.memError_apart m who.port 0x02 off (!who.outside)
  split
  · exact s.memError_apart m who.port 0x08 off false
  split
  · exact s.memError_apart m who.port 0x04 off true
  split
  · exact s.memError_apart m who.port 0x03 off true
  split
  · exact (s.setStack_apart ..).trans (State.memStore_apart ..)
  split
  · split
    · split
      · exact s.memError_apart m who.port 0x09 off true
      split
      · exact s.memError_apart m who.port 0x06 off true
      · exact s.memStore_apart ..
    split
    · exact s.setRingStatus_apart ..
    · exact s.memStore_apart ..
  · exact s.memStore_apart ..

theorem State.answerRemote_apart (m io : Nat) (d : RemoteDesc) (status : Nat) (value : DWord) (data : VReg) :
    Apart s (s.answerRemote m io d status value data) := s.queueUnit_apart ..

theorem State.refuseRemote_apart (m off code : Nat) : Apart s (s.refuseRemote m off code) := Apart.ite (.refl s) (s.memError_apart ..)

theorem State.performAtomic_apart (m io : Nat) (d : RemoteDesc) : Apart s (s.performAtomic m io d) := by
  have hget := s.memGet_apart m d.off 8 fabricWho
  unfold State.performAtomic
  split
  · exact (s.refuseRemote_apart ..).trans (State.answerRemote_apart ..)
  · split
    · rename_i heq
      rw [heq] at hget
      exact hget.trans (State.answerRemote_apart ..)
    · rename_i heq
      rw [heq] at hget
      exact hget.trans (Apart.ite (State.answerRemote_apart ..) ((State.memPut_apart ..).trans (State.answerRemote_apart ..)))

theorem State.performAtomics_apart (m : Nat) (as : List (Nat × RemoteDesc)) : Apart s (s.performAtomics m as) := by
  induction as generalizing s with
  | nil => exact .refl s
  | cons a as ih => exact (s.performAtomic_apart ..).trans (ih _)

theorem State.beforeAccess_apart (m off n : Nat) : Apart s (s.beforeAccess m off n) :=
  Apart.ite ((s.setStack_apart ..).trans (State.performAtomics_apart ..)) (.refl s)

theorem State.memRead_apart (m off n : Nat) (who : Who) : Apart s (s.memRead m off n who).2 :=
  (s.beforeAccess_apart ..).trans (State.memGet_apart ..)

theorem State.memHeader_apart (m off : Nat) (bs : List Byte) : Apart s (s.memHeader m off bs) :=
  (s.beforeAccess_apart ..).trans (State.memStore_apart ..)

/-! ### Cells -/

theorem State.emitIdle_apart (f n : Nat) : Apart s (s.emitIdle f n) := Apart.ite (.refl s) (s.send_apart _)

theorem State.emit_apart (f : Nat) (c : Cell) : Apart s (s.emit f c) := (s.setFport_apart ..).trans (State.send_apart ..)

theorem State.emitNew_apart (f : Nat) (c : Cell) : Apart s (s.emitNew f c) := (s.setFport_apart ..).trans (State.emit_apart ..)

theorem State.runPort_apart (f fuel n : Nat) : Apart s (State.runPort f fuel n s) := by
  induction fuel generalizing s n with
  | zero => exact s.emitIdle_apart ..
  | succ fuel ih =>
    unfold State.runPort
    extract_lets x
    split
    · exact (((s.emitIdle_apart ..).trans (State.setFport_apart ..)).trans (State.emit_apart ..)).trans (ih ..)
    · exact ((s.emitIdle_apart ..).trans (State.emitNew_apart ..)).trans (ih ..)
    · exact (s.setFport_apart ..).trans (ih ..)
    · exact s.emitIdle_apart ..

theorem State.pumpPort_apart (f : Nat) : Apart s (s.pumpPort f) := Apart.ite (s.runPort_apart ..) (.refl s)

theorem State.sendMgmtAll_apart (payload : Nat) (fs : List Nat) : Apart s (s.sendMgmtAll payload fs) := by
  induction fs generalizing s with
  | nil => exact .refl s
  | cons f fs ih => exact ((s.setFport_apart ..).trans (State.pumpPort_apart ..)).trans (ih (s.sendMgmt f payload))

end

end Sys2Proof.Machine

namespace Sys2Proof.Machine

/-! ## The end of the tick before -/

section
variable (s : State)

theorem State.setTile_beside (k : Nat) (t : Tile) : Beside s (s.setTile k t) := .of_fields rfl rfl rfl rfl rfl

theorem State.traffic_apart (k vc level : Nat) : Apart s (s.traffic k vc level) := Apart.ite (s.setRouter_apart ..) (.refl s)

theorem State.launch_apart (f : Flight) : Apart s (s.launch f) := by
  unfold State.launch
  have hput : Apart s { s with flights := s.flights ++ [f] } := .of_fields rfl rfl rfl rfl rfl rfl rfl rfl
  exact hput.trans (State.traffic_apart ..)

theorem State.reportHardware_apart (k : Nat) : Apart s (s.reportHardware k) :=
  Apart.ite (.refl s) (Apart.ite ((s.recovery_apart _).trans (State.setReg_apart _ _ (by decide))) (s.recovery_apart _))

theorem State.raise_beside (k : Nat) (t : Tile) (thread pc code addr : Nat) : Beside s (s.raise k t thread pc code addr) := by
  unfold State.raise
  extract_lets t1 t2 t3 s1
  have hcharged : Beside s s1 := ((s.setTile_beside k t3).trans (State.faultEvent_apart ..).toBeside).trans (State.charge_apart _).toBeside
  exact Beside.ite (hcharged.trans (State.reportHardware_apart ..).toBeside) hcharged

theorem State.wake_beside (k n : Nat) : Beside s (s.wake k n) := Beside.ite (s.raise_beside ..) (s.setTile_beside ..)

theorem State.serveSends_beside (k : Nat) (ns : List Nat) : Beside s (s.serveSends k ns) := by
  induction ns generalizing s with
  | nil => exact .refl s
  | cons n ns ih =>
    unfold State.serveSends
    extract_lets t
    split
    · exact Beside.ite ((s.wake_beside ..).trans (ih _)) ((s.setTile_beside ..).trans (ih _))
    · exact Beside.ite (ih s) ((s.wake_beside ..).trans (ih _))
    · exact (s.wake_beside ..).trans (ih _)
    · exact Beside.ite ((s.wake_beside ..).trans (ih _)) (ih s)
    · exact ih s

theorem State.injectHead_beside (k : Nat) (loose : Bool) (n : Nat) : Beside s (s.injectHead k loose n) := by
  unfold State.injectHead
  extract_lets m
  split
  · exact .refl s
  next d _ =>
    extract_lets i a b done
    split
    next d' t bad draws _ =>
    extract_lets d'' keep s1 s2 s3
    have h1 : Beside s s1 := .of_fields rfl rfl rfl rfl rfl
    have h2 : Beside s s2 := by
      cases bad with
      | none => exact h1
      | some w => exact h1.trans (State.raise_beside ..)
    have h3 : Beside s s3 := Beside.ite (h2.trans (State.launch_apart ..).toBeside) h2
    exact Beside.ite h3 (h3.trans (State.serveSends_beside ..))

theorem State.flushQueue_beside (k : Nat) (loose : Bool) : Beside s (s.flushQueue k loose) := by
  unfold State.flushQueue
  extract_lets n s1
  have h1 : Beside s s1 := by
    dsimp only [s1]
    split
    · exact .refl s
    · exact Beside.ite (.refl s) (s.injectHead_beside ..)
  exact h1.trans (State.setTile_beside ..)

theorem State.flushQueues_beside (ks : List Nat) : Beside s (s.flushQueues ks) := by
  induction ks generalizing s with
  | nil => exact .refl s
  | cons k ks ih => exact ((s.flushQueue_beside ..).trans (State.flushQueue_beside ..)).trans (ih _)

theorem State.endWait_beside (k : Nat) : Beside s (s.endWait k) :=
  Beside.ite (.refl s) ((s.setTile_beside ..).trans (State.drawn_apart ..).toBeside)

theorem State.endWaits_beside (ks : List Nat) : Beside s (s.endWaits ks) := by
  induction ks generalizing s with
  | nil => exact .refl s
  | cons k ks ih => exact (s.endWait_beside ..).trans (ih _)

end

end Sys2Proof.Machine

namespace Sys2Proof.Machine

/-! ## Maps, latches and the close of a tick -/

section
variable (s : State)

/-- Registers of the units' blocks. -/
theorem unitRegs_noTickReg {a : Nat} (h : 0x100000 ≤ a) : NoTickReg a := noTickReg (by omega)

theorem State.storeMap_apart (owner : Nat) {tickReg : Nat} (on : Bool) (units : SMap (SMap Nat)) (h : NoTickReg tickReg) :
    Apart s (s.storeMap owner tickReg on units) := by
  unfold State.storeMap
  refine Apart.ite (.refl s) ?_
  extract_lets c src stored
  have hstored : Apart s stored := .of_fields rfl rfl rfl rfl rfl rfl rfl rfl
  exact hstored.trans (State.setReg_apart _ _ h)

theorem State.storeMeshMaps_apart (ds : List Nat) : Apart s (s.storeMeshMaps ds) := by
  induction ds generalizing s with
  | nil => exact .refl s
  | cons d ds ih => exact (s.storeMap_apart d _ _ (unitRegs_noTickReg (by simp only [Reg.MSH_MAP_TICK]; omega))).trans (ih _)

theorem State.storeFabMaps_apart (is : List Nat) : Apart s (s.storeFabMaps is) := by
  induction is generalizing s with
  | nil => exact .refl s
  | cons i is ih => exact (s.storeMap_apart (15 + i) _ _ (unitRegs_noTickReg (by simp only [Reg.FAB_MAP_TICK]; omega))).trans (ih _)

theorem State.countHolds_apart (l : List (Nat × Nat)) : Apart s (s.countHolds l) := by
  induction l generalizing s with
  | nil => exact .refl s
  | cons g l ih => exact (Apart.ite ((s.setPort_apart ..).trans (State.drawn_apart ..)) (.refl s)).trans (ih _)

theorem State.storeMaps_apart : Apart s s.storeMaps :=
  (((s.storeMeshMaps_apart _).trans (State.countHolds_apart ..)).trans (State.storeMap_apart _ _ _ _ (by decide))).trans (State.storeFabMaps_apart ..)

theorem State.latchRegions_apart {ks : List Nat} (h : ∀ k ∈ ks, k < 256) : Apart s (s.latchRegions ks) := by
  induction ks generalizing s with
  | nil => exact .refl s
  | cons k ks ih =>
    obtain ⟨hk, hks⟩ := List.forall_mem_cons.mp h
    have hlast : NoTickReg (Reg.CLK_RGN_LAST_COUNT k) ∧ NoTickReg (Reg.CLK_RGN_LAST_TIME k) :=
      ⟨noTickReg (by simp only [Reg.CLK_RGN_LAST_COUNT]; omega), noTickReg (by simp only [Reg.CLK_RGN_LAST_TIME]; omega)⟩
    have hcur : NoTickReg (Reg.CLK_RGN_CUR_COUNT k) ∧ NoTickReg (Reg.CLK_RGN_CUR_TIME k) :=
      ⟨noTickReg (by simp only [Reg.CLK_RGN_CUR_COUNT]; omega), noTickReg (by simp only [Reg.CLK_RGN_CUR_TIME]; omega)⟩
    exact ((((s.setReg_apart _ hlast.1).trans (State.setReg_apart _ _ hlast.2)).trans (State.setReg_apart _ _ hcur.1)).trans
      (State.setReg_apart _ _ hcur.2)).trans (ih _ hks)

theorem State.latchDamper_apart {ds : List Nat} (h : ∀ d ∈ ds, d < 16) : Apart s (s.latchDamper ds) := by
  induction ds generalizing s with
  | nil => exact .refl s
  | cons d ds ih =>
    obtain ⟨hd, hds⟩ := List.forall_mem_cons.mp h
    have hskip : NoTickReg (Reg.THM_DAMP_SKIP d) := noTickReg (by simp only [Reg.THM_DAMP_SKIP]; omega)
    have hhalf : NoTickReg (Reg.THM_DAMP_HALF d) := noTickReg (by simp only [Reg.THM_DAMP_HALF]; omega)
    unfold State.latchDamper
    extract_lets a s1 s2
    have h1 : Apart s s1 := (s.setReg_apart _ hskip).trans (State.drawn_apart ..)
    have h2 : Apart s2 { s2 with thermal := { s2.thermal with acted := s2.thermal.acted.set 0 d (s2.damping d) } } := .of_fields rfl rfl rfl rfl rfl rfl rfl rfl
    exact ((h1.trans ((State.setReg_apart _ _ hhalf).trans (State.drawn_apart ..))).trans h2).trans (ih _ hds)

/-- A word of another ember-sum table. -/
theorem statusKey_not_path (p : Nat) {r : Nat} (hr : r < 2 ^ 16) : ¬pathKey (tblKey 2 p 4 r) := by
  rintro ⟨q, hq, i, hi, h⟩
  simp only [tblKey] at h
  omega

theorem State.latchStatusOf_apart (p : Nat) {rs : List Nat} (h : ∀ r ∈ rs, r < 2 ^ 16) :
    Apart s (rs.foldl (fun s r => s.setTbl (tblKey 2 p 4 r) ((s.port p).status.get 0 r)) s) := by
  induction rs generalizing s with
  | nil => exact .refl s
  | cons r rs ih =>
    obtain ⟨hr, hrs⟩ := List.forall_mem_cons.mp h
    exact (s.setTbl_apart _ (statusKey_not_path p hr)).trans (ih _ hrs)

theorem State.latchStatus_apart (ps : List Nat) : Apart s (s.latchStatus ps) := by
  induction ps generalizing s with
  | nil => exact .refl s
  | cons p ps ih =>
    have hrows : ∀ r ∈ List.range 36, r < 2 ^ 16 := fun r hr => by
      have := List.mem_range.mp hr
      omega
    unfold State.latchStatus
    exact (s.latchStatusOf_apart p hrows).trans (ih _)

theorem regionList_lt {k : Nat} (h : k ∈ regionList) : k < 256 := by
  simp only [regionList, List.mem_flatten, List.mem_map, List.mem_range] at h
  obtain ⟨_, ⟨d, hd, rfl⟩, hk⟩ := h
  obtain ⟨r, hr, rfl⟩ := List.mem_map.mp hk
  have := List.mem_range.mp hr
  omega

/-- With no die failure reported, the close of a tick leaves the generator and the module alone. -/
theorem State.closeTick_beside (h : s.recovery.dieReports = []) : Beside s s.closeTick := by
  have hfails : s.dieFails s.recovery.dieReports = s := by rw [h]; rfl
  unfold State.closeTick
  rw [hfails]
  exact (((((s.flushQueues_beside _).trans (State.endWaits_beside ..)).trans (State.storeMaps_apart _).toBeside).trans
    (State.latchRegions_apart _ fun _ => regionList_lt).toBeside).trans (State.latchDamper_apart _ fun _ => List.mem_range.mp).toBeside).trans
    (State.latchStatus_apart ..).toBeside

/-! ## Time, snapshots and fences -/

theorem State.correctUnit_beside (p : Nat) (idle : Bool) (u : Nat) : Beside s (s.correctUnit p idle u) := by
  have hreg : Reg.TCK_DIE_ERR u ∉ beaconRegs := by
    simp only [beaconRegs, Reg.TCK_DIE_ERR, Reg.TCK_SEQ_LO, Reg.TCK_SEQ_HI, Reg.TCK_EPOCH, Reg.TCK_STATUS, Reg.TCK_EVENTS, List.mem_cons,
      List.not_mem_nil, or_false]
    omega
  unfold State.correctUnit
  refine Beside.ite (.refl s) ?_
  extract_lets m e s1
  have h1 : Beside s s1 := s.setReg_beside _ hreg
  exact Beside.ite (h1.trans (.of_fields rfl rfl rfl rfl rfl)) (h1.trans (.of_fields rfl rfl rfl rfl rfl))

theorem State.correctUnits_beside (p : Nat) (idle : Bool) (us : List Nat) : Beside s (s.correctUnits p idle us) := by
  induction us generalizing s with
  | nil => exact .refl s
  | cons u us ih => exact (s.correctUnit_beside ..).trans (ih _)

theorem State.correctTime_beside (idle : Bool) : Beside s (s.correctTime idle) :=
  ((((s.correctUnits_beside ..).trans (State.setReg_beside _ _ (by decide))).trans (State.setReg_beside _ _ (by decide))).trans
    (State.sendFrame_apart ..).toBeside).trans (State.sendFrame_apart ..).toBeside

theorem State.dropSnapshot_apart : Apart s s.dropSnapshot := by
  unfold State.dropSnapshot
  split
  · have hstatus : Apart s (s.setReg Reg.TCK_CKPT_STATUS (setFlag (setFld (s.reg Reg.TCK_CKPT_STATUS) 31 30 0) 28 true)) :=
      s.setReg_apart _ (by decide)
    exact hstatus.trans (State.recovery_apart _ _)
  · exact .refl s

theorem State.snapshotLimit_apart : Apart s s.snapshotLimit := Apart.ite s.dropSnapshot_apart (.refl s)

theorem State.setDomains_apart (v : Nat) {ks : List Nat} (h : ∀ k ∈ ks, k < 80) : Apart s (s.setDomains v ks) := by
  induction ks generalizing s with
  | nil => exact .refl s
  | cons k ks ih =>
    obtain ⟨hk, hks⟩ := List.forall_mem_cons.mp h
    have hreg : NoTickReg (Reg.PWR_DOM (k / 16)) := noTickReg (by simp only [Reg.PWR_DOM]; omega)
    exact (s.setReg_apart _ hreg).trans (ih _ hks)

theorem State.fenceDie_apart {d : Nat} (hd : d < 16) : Apart s (s.fenceDie d) := by
  have hreg : NoTickReg (Reg.TIL_DIE_FENCE d) := unitRegs_noTickReg (by simp only [Reg.TIL_DIE_FENCE]; omega)
  have hdom : ∀ k ∈ [3 * d, 3 * d + 1, 3 * d + 2], k < 80 := by
    simp only [List.mem_cons, List.not_mem_nil, or_false]
    omega
  exact Apart.ite ((s.setReg_apart _ hreg).trans (State.setDomains_apart _ 0 hdom)) (.refl s)

theorem State.fenceDies_apart {ds : List Nat} (h : ∀ d ∈ ds, d < 16) : Apart s (s.fenceDies ds) := by
  induction ds generalizing s with
  | nil => exact .refl s
  | cons d ds ih =>
    obtain ⟨hd, hds⟩ := List.forall_mem_cons.mp h
    exact (s.fenceDie_apart hd).trans (ih _ hds)

end

end Sys2Proof.Machine

namespace Sys2Proof.Machine

/-! ## Adoption at a beacon -/

theorem SMap.get_append_absent {α : Type} (d : α) {l r : SMap α} {k : Nat} (h : ∀ e ∈ r, e.1 ≠ k) : SMap.get d (l ++ r) k = SMap.get d l k := by
  induction l with
  | nil =>
    induction r with
    | nil => rfl
    | cons e r ih =>
      obtain ⟨he, hr⟩ := List.forall_mem_cons.mp h
      exact (if_neg he).trans (ih hr)
  | cons e l ih =>
    obtain ⟨j, w⟩ := e
    rw [List.cons_append, SMap.get_cons, SMap.get_cons, ih]

theorem SMap.mem_keep {α : Type} {p : Nat → Bool} {m : SMap α} {e : Nat × α} (h : e ∈ SMap.keep p m) : e ∈ m ∧ p e.1 = true := List.mem_filter.mp h

/-- Keys below a spliced range keep their values. -/
theorem SMap.get_splice_below {α : Type} (d : α) {lo hi : Nat} (src dst : SMap α) {k : Nat} (h : k < lo) (hr : lo ≤ hi) :
    SMap.get d (SMap.splice lo hi src dst) k = SMap.get d dst k := by
  unfold SMap.splice
  rw [SMap.get_append_absent, SMap.get_append_absent, SMap.get_keep, if_pos (by simpa using h)]
  · intro e he
    have := of_decide_eq_true (SMap.mem_keep he).2
    omega
  · intro e he
    have := of_decide_eq_true (SMap.mem_keep he).2
    omega

theorem SMap.mem_splice {α : Type} {lo hi : Nat} {src dst : SMap α} {e : Nat × α} (h : e ∈ SMap.splice lo hi src dst) : e ∈ dst ∨ (lo ≤ e.1 ∧ e.1 < hi) := by
  unfold SMap.splice at h
  rcases List.mem_append.mp h with h | h
  · rcases List.mem_append.mp h with h | h
    · exact .inl (SMap.mem_keep h).1
    · exact .inr (of_decide_eq_true (SMap.mem_keep h).2)
  · exact .inl (SMap.mem_keep h).1

theorem PathsWhole.splice {dst : SMap Word} (h : PathsWhole dst) {lo hi : Nat} (src : SMap Word) (hr : ∀ k, lo ≤ k → k < hi → ¬pathKey k) :
    PathsWhole (SMap.splice lo hi src dst) := fun kw hmem hkey => by
  rcases SMap.mem_splice hmem with hdst | ⟨hlo, hhi⟩
  · exact h kw hdst hkey
  · exact absurd hkey (hr _ hlo hhi)

theorem PathsWhole.spliceAll {dst : SMap Word} (h : PathsWhole dst) (src : SMap Word) {rs : List (Nat × Nat)}
    (hr : ∀ r ∈ rs, ∀ k, r.1 ≤ k → k < r.2 → ¬pathKey k) : PathsWhole (spliceAll src rs dst) := by
  induction rs generalizing dst with
  | nil => exact h
  | cons r rs ih =>
    obtain ⟨hfirst, hrest⟩ := List.forall_mem_cons.mp hr
    exact ih (h.splice src hfirst) hrest

/-- The shadowed port tables hold no marks of failed paths. -/
theorem hearthRanges_not_path : ∀ r ∈ hearthRanges, ∀ k, r.1 ≤ k → k < r.2 → ¬pathKey k := by
  intro r hr k hlo hhi
  rintro ⟨p, hp, i, hi, rfl⟩
  simp only [hearthRanges, List.mem_append, List.mem_map, List.mem_range] at hr
  rcases hr with ⟨q, hq, rfl⟩ | ⟨q, hq, rfl⟩
  · simp only [tblKey] at hlo hhi
    omega
  · simp only [tblKey] at hlo hhi
    omega

section
variable (s : State)

/-- Registers and tables taken from shadow above the generator's registers. -/
theorem State.splice_apart {r : SMap Word} {m : SMap Word} (hr : ∀ a, a < 0x100000 → SMap.get (regReset a) r a = s.reg a)
    (hm : PathsWhole s.tbl → PathsWhole m) : Apart s { s with regs := r, tbl := m } := by
  have hlow : (∀ a ∈ beaconRegs, a < 0x100000) ∧ ∀ a ∈ timeRegs, a < 0x100000 := by decide
  exact ⟨⟨rfl, rfl, fun a ha => hr a (hlow.1 a ha), .refl _, hm⟩, rfl, rfl, rfl, fun a ha => hr a (hlow.2 a ha)⟩

theorem meshKeys_not_path {die k : Nat} (hd : die < 16) (h : k < tblKey 0 (posKey (die + 1) 0 0) 0 0) : ¬pathKey k := by
  refine not_pathKey (.inl (Nat.lt_of_lt_of_le h ?_))
  simp only [tblKey, posKey]
  omega

theorem State.takeMesh_apart {die : Nat} (hd : die < 16) : Apart s (s.takeMesh die) := by
  unfold State.takeMesh
  extract_lets taken
  have htaken : Apart s taken := s.splice_apart
    (fun a ha => by
      rw [SMap.get_splice_below _ _ _ (by simp only [Reg.TIL_DIE_FENCE]; omega) (by omega),
        SMap.get_splice_below _ _ _ (by simp only [Reg.MSH_ROW_MAP]; omega) (by simp only [Reg.MSH_ROW_MAP, Reg.TIL_FENCE]; omega)]
      rfl)
    (fun h => h.splice _ fun _ _ hhi => meshKeys_not_path hd hhi)
  exact htaken.trans (State.setReg_apart _ _ (unitRegs_noTickReg (by simp only [Reg.MSH_SHADOW]; omega)))

theorem State.meshError_apart (k port vc code tag : Nat) : Apart s (s.meshError k port vc code tag) := by
  have hstatus : NoTickReg (Reg.MSH_ERR_STATUS (keyDie k)) := unitRegs_noTickReg (by simp only [Reg.MSH_ERR_STATUS]; omega)
  have hinfo : NoTickReg (Reg.MSH_ERR_INFO (keyDie k)) := unitRegs_noTickReg (by simp only [Reg.MSH_ERR_INFO]; omega)
  unfold State.meshError
  exact ((s.recordFirst_apart code _ hstatus hinfo).trans (State.faultEvent_apart ..)).trans (State.charge_apart _)

theorem State.adoptMesh_apart {die : Nat} (hd : die < 16) : Apart s (s.adoptMesh die) :=
  Apart.ite (Apart.ite (s.takeMesh_apart hd) (s.meshError_apart ..)) (.refl s)

theorem State.adoptDies_apart {ds : List Nat} (h : ∀ d ∈ ds, d < 16) : Apart s (s.adoptDies ds) := by
  induction ds generalizing s with
  | nil => exact .refl s
  | cons d ds ih =>
    obtain ⟨hd, hds⟩ := List.forall_mem_cons.mp h
    exact (s.adoptMesh_apart hd).trans (ih _ hds)

theorem State.takeHearth_apart : Apart s s.takeHearth := by
  unfold State.takeHearth
  extract_lets taken
  have htaken : Apart s taken := s.splice_apart
    (fun a ha => by
      rw [SMap.get_splice_below _ _ _ (by simp only [Reg.HRT_BAY_MAP_0]; omega) (by decide)]
      rfl)
    (fun h => h.spliceAll _ hearthRanges_not_path)
  exact htaken.trans (State.setReg_apart _ _ (by decide))

theorem State.emberError_apart (p entry det contributor code : Nat) : Apart s (s.emberError p entry det contributor code) := by
  unfold State.emberError
  extract_lets info reported counted
  have hreported : Apart s reported := ((s.recordFirst_apart code info (by decide) (by decide)).trans (State.faultEvent_apart ..)).trans
    (State.reportError_apart ..)
  have hcounted : Apart s counted := hreported.trans (Apart.ite (State.setReg_apart _ _ (by decide)) (State.setReg_apart _ _ (by decide)))
  exact Apart.ite (hcounted.trans (State.charge_apart _)) hcounted

theorem State.emberSetFails_apart : Apart s s.emberSetFails := (s.emberError_apart ..).trans (State.hearth_apart ..)

theorem State.emberSetPasses_apart : Apart s s.emberSetPasses := s.hearth_apart _

theorem State.adoptHearth_apart (first : Bool) : Apart s (s.adoptHearth first) :=
  Apart.ite (Apart.ite ((s.takeHearth_apart.trans (State.emberSetPasses_apart _)).trans (State.pumpAll_apart _)) s.emberSetFails_apart)
    (Apart.ite (Apart.ite s.emberSetPasses_apart s.emberSetFails_apart) (Apart.ite s.charge_apart (.refl s)))

theorem State.adoptAll_apart (first : Bool) : Apart s (s.adoptAll first) :=
  (s.adoptDies_apart fun _ => List.mem_range.mp).trans (State.adoptHearth_apart ..)

/-! ## Image words and fences -/

theorem State.setTblShadow_apart (k : Nat) (w : Word) : Apart s (s.setTblShadow k w) := .of_fields rfl rfl rfl rfl rfl rfl rfl rfl

theorem State.putWords_apart (both : Bool) {ws : List (Nat × Word)} (h : ∀ kw ∈ ws, ¬pathKey kw.1) : Apart s (s.putWords both ws) := by
  induction ws generalizing s with
  | nil => exact .refl s
  | cons kw ws ih =>
    obtain ⟨hk, hws⟩ := List.forall_mem_cons.mp h
    exact (Apart.ite ((s.setTbl_apart _ hk).trans (State.setTblShadow_apart ..)) (s.setTblShadow_apart ..)).trans (ih _ hws)

/-- The scheduled lane's words of an image are the fabric's. -/
theorem State.laneWords_not_path (g : Image) : ∀ kw ∈ s.imgTables g [11], ¬pathKey kw.1 := by
  intro kw hkw
  simp only [State.imgTables, List.map_cons, List.map_nil, List.flatten_cons, List.flatten_nil, List.append_nil] at hkw
  split at hkw
  · obtain ⟨e, he, rfl⟩ := List.mem_map.mp hkw
    have hblk : e.1 / 2 ^ 37 = 5 := by
      have := (List.mem_filter.mp he).2
      simp only [sectionHolds, Bool.and_eq_true, beq_iff_eq] at this
      exact this.1
    refine not_pathKey (.inr ?_)
    simp only [State.physicalKey, hblk, tblKey]
    omega
  · simp at hkw

theorem State.startLoading_beside (fs : List (Nat × Nat)) : Beside s (s.startLoading fs) := by
  induction fs generalizing s with
  | nil => exact .refl s
  | cons f fs ih =>
    obtain ⟨x, e⟩ := f
    exact (((s.setTile_beside ..).trans (State.recovery_apart ..).toBeside).trans (State.setReg_apart _ _ (by decide)).toBeside).trans (ih _)

theorem State.adoptFences_beside : Beside s s.adoptFences := (s.recovery_apart _).toBeside.trans (State.startLoading_beside ..)

/-! ## What starts with the beacon -/

theorem State.markTraffic_apart (fs : List Flight) : Apart s (s.markTraffic fs) := by
  induction fs generalizing s with
  | nil => exact .refl s
  | cons f fs ih => exact (s.traffic_apart ..).trans (ih _)

theorem State.openRings_apart (m n : Nat) (rs : List RingInfo) : Apart s (s.openRings m n rs) := by
  induction rs generalizing s with
  | nil => exact .refl s
  | cons r rs ih =>
    exact ((Apart.ite (s.memHeader_apart ..) (Apart.ite (.refl s) (s.memHeader_apart ..))).trans (State.setRingStatus_apart ..)).trans (ih _)

theorem State.openStacks_apart (n : Nat) (ms : List Nat) : Apart s (s.openStacks n ms) := by
  induction ms generalizing s with
  | nil => exact .refl s
  | cons m ms ih => exact ((s.openRings_apart ..).trans (State.setStack_apart ..)).trans (ih _)

theorem State.late_apart : Apart s { s with tick := { s.tick with late := true } } :=
  ⟨⟨rfl, rfl, fun _ _ => rfl, ⟨rfl, rfl, rfl, rfl, rfl, rfl, id, id⟩, id⟩, rfl, rfl, rfl, fun _ _ => rfl⟩

theorem State.lockRing_apart (m : Nat) (r : RingInfo) : Apart s (s.lockRing m r) := by
  have hread := s.memRead_apart m (r.slotAt (s.currentSlot r)) 16 ⟨16 + m, false⟩
  unfold State.lockRing
  extract_lets a
  split
  next ans s1 heq =>
    rw [heq] at hread
    extract_lets ok s2
    have h2 : Apart s s2 := hread.trans (State.setRingStatus_apart ..)
    exact Apart.ite h2 (Apart.ite (h2.trans (State.late_apart _)) (h2.trans (State.memHeader_apart ..)))

theorem State.lockRings_apart (m : Nat) (due : RingInfo → Bool) (rs : List RingInfo) : Apart s (s.lockRings m due rs) := by
  induction rs generalizing s with
  | nil => exact .refl s
  | cons r rs ih => exact (Apart.ite (s.lockRing_apart ..) (.refl s)).trans (ih _)

theorem State.lockAll_apart (due : RingInfo → Bool) (ms : List Nat) : Apart s (s.lockAll due ms) := by
  induction ms generalizing s with
  | nil => exact .refl s
  | cons m ms ih => exact (s.lockRings_apart ..).trans (ih _)

theorem State.markSlots_apart (slot : Nat) (v : Byte) (ms : List Nat) : Apart s (s.markSlots slot v ms) := by
  induction ms generalizing s with
  | nil => exact .refl s
  | cons m ms ih => exact (s.memHeader_apart ..).trans (ih _)

theorem State.snapshotStart_apart : Apart s s.snapshotStart := by
  unfold State.snapshotStart
  split
  · exact ((s.recovery_apart _).trans (State.markSlots_apart ..)).trans (State.setReg_apart _ _ (by decide))
  · exact .refl s

theorem State.originFrame_apart (tick : Bool) (n : Nat) : Apart s (s.originFrame tick n) := Apart.ite (s.sendMgmtAll_apart ..) (.refl s)

theorem State.showStage_apart : Apart s s.showStage := s.setReg_apart _ (by decide)

theorem State.latchQuote_apart : Apart s s.latchQuote := .of_fields rfl rfl rfl rfl rfl rfl rfl rfl

/-- With no path marked failed, no entry names one. -/
theorem State.failedPathUsed_of_whole (h : PathsWhole s.tbl) : s.failedPathUsed = false := by
  simp only [State.failedPathUsed, List.any_eq_false, List.mem_range, Bool.not_eq_true]
  intro p hp kw hmem
  refine Bool.eq_false_iff.mpr fun hall => ?_
  simp only [Bool.and_eq_true, decide_eq_true_eq] at hall
  obtain ⟨⟨⟨hle, hlt⟩, hflag⟩, -⟩ := hall
  have := h kw hmem ⟨p, hp, kw.1 - tblKey 2 p 2 0, hlt, by simp only [tblKey] at hle ⊢; omega⟩
  rw [hflag] at this
  cases this

end

end Sys2Proof.Machine

namespace Sys2Proof.Machine

/-! ## The tick that a beacon opens -/

/-- The tick that opens, and what it starts from. -/
structure Opened (s t : State) (n : Nat) (abandon : Bool) : Prop where
  seq : t.seq = n
  mode : t.mode = .running
  isOpen : t.tick.isOpen = true
  guard : t.tick.guard = false
  resolved : t.tick.resolved = false
  abandonBeacon : t.tick.abandonBeacon = abandon
  parity : t.tick.parity = flag (s.reg Reg.TCK_EPOCH) 0
  charged : s.tick.chargeNext = true → t.tick.charged = true
  misses : t.tick.misses = s.tick.misses
  start : t.job.start = none
  events : t.reg Reg.TCK_EVENTS = s.reg Reg.TCK_EVENTS
  status : t.reg Reg.TCK_STATUS = if s.mode = .running then s.reg Reg.TCK_STATUS else setFld (s.reg Reg.TCK_STATUS) 27 27 1
  paths : PathsWhole t.tbl

section
variable {s t u : State} {n : Nat} {abandon : Bool}

theorem Beside.seq (h : Beside s t) : t.seq = s.seq := by
  rw [State.seq, State.reg64, h.reg _ (by decide), h.reg _ (by decide), State.seq, State.reg64]

theorem Opened.beside (h : Opened s t n abandon) (h' : Beside t u) : Opened s u n abandon where
  seq := h'.seq.trans h.seq
  mode := h'.mode.trans h.mode
  isOpen := h'.tick.isOpen.trans h.isOpen
  guard := h'.tick.guard.trans h.guard
  resolved := h'.tick.resolved.trans h.resolved
  abandonBeacon := h'.tick.abandonBeacon.trans h.abandonBeacon
  parity := h'.tick.parity.trans h.parity
  charged := h'.tick.charged ∘ h.charged
  misses := h'.tick.misses.trans h.misses
  start := (congrArg JobState.start h'.job).trans h.start
  events := (h'.reg _ (by decide)).trans h.events
  status := (h'.reg _ (by decide)).trans h.status
  paths := h'.paths h.paths

theorem State.seq_setSeq (s : State) {n : Nat} (h : n < 2 ^ 64) : (s.setSeq n).seq = n := by
  rw [State.seq, State.reg64, State.setSeq, State.setReg64, State.reg_setReg, if_neg (by decide), State.reg_setReg, if_pos rfl, State.reg_setReg, if_pos rfl,
    BitVec.toNat_ofNat, BitVec.toNat_ofNat]
  omega

/-! ### Tiles at cycle 0 -/

/-- Registers and accumulators clear, and the core not done. -/
def Tile.Fresh (t : Tile) : Prop := t.done = false ∧ t.acc = [] ∧ ∀ n < 4, ∀ r, (t.thread n).rs r = 0 ∧ (t.thread n).rv r = 0

/-- No register of a thread written. -/
def Thread.Blank (x : Thread) : Prop := x.s = [] ∧ x.v = []

theorem Thread.Blank.reads {x : Thread} (h : x.Blank) (r : Nat) : x.rs r = 0 ∧ x.rv r = 0 := by
  obtain ⟨hs, hv⟩ := h
  simp [Thread.rs, Thread.rv, hs, hv]

theorem Tile.startThread_blank (t : Tile) (idle : Bool) (n : Nat) : (t.startThread idle n).Blank := by
  have hfresh : (t.freshThread n).Blank := by
    unfold Tile.freshThread
    split
    · exact ⟨rfl, rfl⟩
    · split <;> exact ⟨rfl, rfl⟩
  have hstart : (if idle then Thread.reset else t.freshThread n).Blank := by
    split
    · exact ⟨rfl, rfl⟩
    · exact hfresh
  unfold Tile.startThread
  dsimp only
  generalize (if idle then Thread.reset else t.freshThread n) = start at *
  cases (t.thread n).remote with
  | none => exact hstart
  | some r =>
    dsimp only
    split
    · exact ⟨rfl, rfl⟩
    · exact hstart

theorem Tile.atBeacon_thread (t : Tile) (hold load rebuild : Bool) {n : Nat} (h : n < 4) :
    (t.atBeacon hold load rebuild).thread n = t.startThread ((hold || t.hwFault) || load || !t.placed) n := by
  have hcases : n = 0 ∨ n = 1 ∨ n = 2 ∨ n = 3 := by omega
  rcases hcases with rfl | rfl | rfl | rfl <;> simp [Tile.atBeacon, Tile.thread, SMap.get_set]

theorem Tile.atBeacon_fresh (t : Tile) (hold load rebuild : Bool) : (t.atBeacon hold load rebuild).Fresh := by
  refine ⟨rfl, rfl, fun n hn => ?_⟩
  rw [t.atBeacon_thread hold load rebuild hn]
  exact (t.startThread_blank _ n).reads

theorem Tile.reset_fresh : Tile.reset.Fresh := ⟨rfl, rfl, fun _ _ r => Thread.Blank.reads (x := Thread.reset) ⟨rfl, rfl⟩ r⟩

theorem SMap.get_of_all {α : Type} {P : α → Prop} {d : α} {m : SMap α} (hd : P d) (hm : ∀ e ∈ m, P e.2) (k : Nat) : P (SMap.get d m k) := by
  induction m with
  | nil => exact hd
  | cons e m ih =>
    obtain ⟨he, hrest⟩ := List.forall_mem_cons.mp hm
    rw [SMap.get_cons]
    split
    · exact he
    · exact ih hrest

theorem SMap.get_mapSet_of_all {α : Type} [DecidableEq α] {P : α → Prop} {d : α} {g : Nat → α → α} (hd : P d) (hg : ∀ k x, P (g k x)) (m : SMap α) (k : Nat) :
    P (SMap.get d (SMap.mapSet d g m) k) := by
  refine SMap.get_of_all hd (fun e he => ?_) k
  obtain ⟨x, -, rfl⟩ := List.mem_map.mp (List.mem_filter.mp he).1
  exact hg ..

/-! ### From beacon to beacon -/

/-- A module ready for tick `n`: everything but the tick's own bookkeeping. -/
structure Poised (s t : State) (n : Nat) : Prop where
  seq : t.seq = n
  mode : t.mode = .running
  epoch : t.reg Reg.TCK_EPOCH = s.reg Reg.TCK_EPOCH
  chargeNext : s.tick.chargeNext = true → t.tick.chargeNext = true
  misses : t.tick.misses = s.tick.misses
  start : t.job.start = none
  events : t.reg Reg.TCK_EVENTS = s.reg Reg.TCK_EVENTS
  status : t.reg Reg.TCK_STATUS = if s.mode = .running then s.reg Reg.TCK_STATUS else setFld (s.reg Reg.TCK_STATUS) 27 27 1
  paths : PathsWhole t.tbl

theorem Poised.beside (h : Poised s t n) (h' : Beside t u) : Poised s u n where
  seq := h'.seq.trans h.seq
  mode := h'.mode.trans h.mode
  epoch := (h'.reg _ (by decide)).trans h.epoch
  chargeNext := h'.tick.chargeNext ∘ h.chargeNext
  misses := h'.tick.misses.trans h.misses
  start := (congrArg JobState.start h'.job).trans h.start
  events := (h'.reg _ (by decide)).trans h.events
  status := (h'.reg _ (by decide)).trans h.status
  paths := h'.paths h.paths

/-- The bookkeeping of a fresh tick over a module that is ready for it. -/
theorem Poised.opens (h : Poised s t n) (recovery rebuild : Bool) :
    Opened s { t with tick := t.tick.open_ (flag (t.reg Reg.TCK_EPOCH) 0) recovery rebuild abandon } n abandon :=
  ⟨h.seq, h.mode, rfl, rfl, rfl, rfl, congrArg (flag · 0) h.epoch, h.chargeNext, h.misses, h.start, h.events, h.status, h.paths⟩

theorem State.go_running (s : State) (cause : Nat) : s.go .running cause = (s.closePairs .running).enter .running cause := rfl

theorem State.go_running_fields (s : State) (cause : Nat) : (s.go .running cause).mode = .running ∧ (s.go .running cause).regs = s.regs ∧
    (s.go .running cause).job = s.job ∧ (s.go .running cause).tick = s.tick ∧ (s.go .running cause).tbl = s.tbl := by
  rw [State.go_running]
  exact ⟨rfl, rfl, rfl, rfl, rfl⟩

theorem State.reg_setSeq_other (s : State) (n : Nat) {a : Nat} (hlo : a ≠ Reg.TCK_SEQ_LO) (hhi : a ≠ Reg.TCK_SEQ_HI) : (s.setSeq n).reg a = s.reg a := by
  rw [State.setSeq, State.setReg64, State.reg_setReg, if_neg hhi, State.reg_setReg, if_neg hlo]

/-- The module enters the tick's number, and Running where it was not. -/
theorem poised_of_beside (h : Beside s t) (hpaths : PathsWhole s.tbl) (hn : n < 2 ^ 64) {w : State} (hmode : w.mode = t.mode) (hregs : w.regs = (t.setSeq n).regs)
    (htick : w.tick = t.tick) (htbl : w.tbl = t.tbl) (hstart : w.job.start = none) :
    Poised s (if (w.mode == .running) = true then w else (w.setRegFld Reg.TCK_STATUS 27 27 1).go .running 0) n := by
  have hseq : w.seq = n := (congrArg₂ (fun a b : Word => a.toNat + 2 ^ 32 * b.toNat) (State.reg_congr hregs _) (State.reg_congr hregs _)).trans
    (t.seq_setSeq hn)
  have hreg : ∀ a ∈ [Reg.TCK_EPOCH, Reg.TCK_EVENTS, Reg.TCK_STATUS], w.reg a = s.reg a := fun a ha => by
    have hne : ∀ x ∈ [Reg.TCK_EPOCH, Reg.TCK_EVENTS, Reg.TCK_STATUS], x ≠ Reg.TCK_SEQ_LO ∧ x ≠ Reg.TCK_SEQ_HI ∧ x ∈ beaconRegs := by decide
    obtain ⟨hlo, hhi, hmem⟩ := hne a ha
    rw [State.reg_congr hregs, t.reg_setSeq_other n hlo hhi, h.reg a hmem]
  by_cases hrun : s.mode = .running
  · have hw : w.mode = .running := (hmode.trans h.mode).trans hrun
    rw [if_pos (by simp [hw])]
    exact ⟨hseq, hw, hreg _ (by simp), by rw [htick]; exact h.tick.chargeNext, by rw [htick, h.tick.misses], hstart, hreg _ (by simp),
      by rw [if_pos hrun, hreg _ (by simp)], htbl ▸ h.paths hpaths⟩
  · have hw : ¬(w.mode == .running) = true := by
      rw [hmode, h.mode]
      simpa using hrun
    obtain ⟨hrunning, hregs', hjob', htick', htbl'⟩ := (w.setRegFld Reg.TCK_STATUS 27 27 1).go_running_fields 0
    have hset : ∀ a, a ≠ Reg.TCK_STATUS → ((w.setRegFld Reg.TCK_STATUS 27 27 1).go .running 0).reg a = w.reg a := fun a ha => by
      rw [State.reg_congr hregs', State.setRegFld_eq, State.reg_setReg, if_neg ha]
    rw [if_neg hw]
    refine ⟨?_, hrunning, ?_, ?_, ?_, ?_, ?_, ?_, ?_⟩
    · rw [State.seq, State.reg64, hset _ (by decide), hset _ (by decide)]
      exact hseq
    · rw [hset _ (by decide), hreg _ (by simp)]
    · rw [htick', State.setRegFld_tick, htick]
      exact h.tick.chargeNext
    · rw [htick', State.setRegFld_tick, htick, h.tick.misses]
    · rw [hjob', State.setRegFld_job, hstart]
    · rw [hset _ (by decide), hreg _ (by simp)]
    · rw [if_neg hrun, State.reg_congr hregs', State.setRegFld_eq, State.reg_setReg, if_pos rfl, hreg _ (by simp)]
    · rw [htbl', State.setRegFld_tbl, htbl]
      exact h.paths hpaths

theorem State.openTick_opens (s : State) {n : Nat} (abandon : Bool) (hn : n < 2 ^ 64) (hdies : s.recovery.dieReports = []) (hpaths : PathsWhole s.tbl) :
    Opened s (s.openTick n abandon) n abandon ∧ ∀ k, ((s.openTick n abandon).tile k).Fresh := by
  have hclose := s.closeTick_beside hdies
  unfold State.openTick
  extract_lets was closed first rebuild timed limited numbered job unstarted running framed opened degradedFirst adopted degraded fenced loading fab tick
    fresh begun locked done
  have hfencedDies : Beside s (limited.fenceDies (List.range 16)) :=
    hclose.trans ((State.correctTime_beside ..).trans ((State.snapshotLimit_apart _).trans (State.fenceDies_apart _ fun _ => List.mem_range.mp)).toBeside)
  have hrunning : Poised s running n := poised_of_beside hfencedDies hpaths hn rfl rfl rfl rfl rfl
  have hopened : Opened s opened n abandon := (hrunning.beside (State.sendFrame_apart ..).toBeside).opens false rebuild
  have hfenced : Beside opened fenced := by
    have hadopted : Beside opened adopted := (State.adoptAll_apart ..).toBeside
    have hdegraded : Beside opened degraded := Beside.ite (hadopted.trans (State.putWords_apart _ true (State.laneWords_not_path _ _)).toBeside) hadopted
    exact hdegraded.trans (State.adoptFences_beside _)
  have hfresh : Beside fenced fresh := ⟨rfl, rfl, fun _ _ => rfl, ⟨rfl, rfl, rfl, rfl, rfl, rfl, id, id⟩, id⟩
  have hdone : Apart fresh done := by
    have hbegun : Apart fresh begun := (State.markTraffic_apart ..).trans (State.openStacks_apart ..)
    have hlocked : Apart fresh locked := hbegun.trans (State.lockAll_apart ..)
    exact (((hlocked.trans (State.snapshotStart_apart _)).trans (State.originFrame_apart ..)).trans (State.showStage_apart _)).trans (State.latchQuote_apart _)
  have hend : Opened s done n abandon := ((hopened.beside hfenced).beside hfresh).beside hdone.toBeside
  have hmode : ¬(was && !closed.ticking) = true := by
    have : closed.ticking = was := by
      simp only [State.ticking, closed, was, hclose.mode]
    rw [this]
    cases was <;> decide
  rw [if_neg hmode, if_neg (by rw [State.failedPathUsed_of_whole _ hend.paths]; decide)]
  refine ⟨hend, fun k => ?_⟩
  rw [State.tile, hdone.tiles]
  exact SMap.get_mapSet_of_all (P := Tile.Fresh) Tile.reset_fresh (fun k t => t.atBeacon_fresh ..) _ k

end

end Sys2Proof.Machine

namespace Sys2Proof.Machine

/-! ## Tick beacons (R211 to R216) -/

/-- A state that differs in what the source has shown and counted alone. -/
structure Sourced (s u : State) : Prop where
  mode : u.mode = s.mode
  job : u.job = s.job
  tbl : u.tbl = s.tbl
  recovery : u.recovery = s.recovery
  chargeNext : u.tick.chargeNext = s.tick.chargeNext
  seq : u.seq = s.seq
  epoch : u.reg Reg.TCK_EPOCH = s.reg Reg.TCK_EPOCH
  source : u.source = s.source

/-- A tick open in a module, its tiles at cycle 0. -/
def TickOpen (s t : State) (n : Nat) (abandon : Bool) : Prop :=
  t.seq = n ∧ t.mode = .running ∧ t.tick.isOpen = true ∧ t.tick.guard = false ∧ t.tick.resolved = false ∧ t.tick.abandonBeacon = abandon ∧
    t.tick.parity = flag (s.reg Reg.TCK_EPOCH) 0 ∧ (s.tick.chargeNext = true → t.tick.charged = true) ∧
    ∀ k, (t.tile k).done = false ∧ (t.tile k).acc = [] ∧ ∀ n < 4, ∀ r, ((t.tile k).thread n).rs r = 0 ∧ ((t.tile k).thread n).rv r = 0

/-- The registers a beacon needs of its source. -/
def sourceRegs : List Nat := [Reg.TCK_SEQ_LO, Reg.TCK_SEQ_HI, Reg.TCK_EPOCH, Reg.TCK_SRC]

section
variable {s u v t : State} {n : Nat} {abandon : Bool}

theorem Sourced.refl (s : State) : Sourced s s := ⟨rfl, rfl, rfl, rfl, rfl, rfl, rfl, rfl⟩

theorem Sourced.trans (h : Sourced s u) (h' : Sourced u v) : Sourced s v :=
  ⟨h'.mode.trans h.mode, h'.job.trans h.job, h'.tbl.trans h.tbl, h'.recovery.trans h.recovery, h'.chargeNext.trans h.chargeNext, h'.seq.trans h.seq,
    h'.epoch.trans h.epoch, h'.source.trans h.source⟩

theorem State.setReg_sourced (s : State) {a : Nat} (w : Word) (ha : a ∉ sourceRegs) : Sourced s (s.setReg a w) := by
  have hreg : ∀ x ∈ sourceRegs, (s.setReg a w).reg x = s.reg x := fun x hx => (State.reg_setReg ..).trans (if_neg (fun e : x = a => ha (e ▸ hx)))
  refine ⟨rfl, rfl, rfl, rfl, rfl, ?_, hreg _ (by decide), ?_⟩
  · rw [State.seq, State.reg64, hreg _ (by decide), hreg _ (by decide), State.seq, State.reg64]
  · rw [State.source, hreg _ (by decide), State.source]

theorem State.showSource_sourced (s : State) (st : Nat) : Sourced s (s.showSource st) :=
  (s.setReg_sourced _ (by decide)).trans (State.setReg_sourced _ _ (by decide))

theorem State.showSource_tick (s : State) (st : Nat) : (s.showSource st).tick = s.tick := by
  rw [State.showSource, State.setRegFld_tick, State.setRegFld_tick]

theorem State.reg_showSource_other (s : State) (st : Nat) {a : Nat} (ha : a ≠ Reg.TCK_STATUS) : (s.showSource st).reg a = s.reg a := by
  rw [State.showSource, State.setRegFld_eq, State.reg_setReg, if_neg ha, State.setRegFld_eq, State.reg_setReg, if_neg ha]

theorem State.fld_showSource (s : State) (st : Nat) : fld ((s.showSource st).reg Reg.TCK_STATUS) 31 30 = st % 4 := by
  rw [State.showSource, State.setRegFld_eq, State.reg_setReg, if_pos rfl, fld_setFld_other _ _ (by decide) (by decide) (by decide), State.setRegFld_eq,
    State.reg_setReg, if_pos rfl, fld_setFld_same _ _ (by decide) (by decide)]
  rfl

theorem pathsWhole_of {s : State} (h : ∀ p < 16, ∀ i < 576, ∀ kw ∈ s.tbl, kw.1 = tblKey 2 p 2 i → flag kw.2 30 = false) : PathsWhole s.tbl := by
  rintro kw hmem ⟨p, hp, i, hi, hk⟩
  exact h p hp i hi kw hmem hk

/-- The tick that opens after the source was shown is the tick of the state before. -/
theorem Sourced.tickOpen (h : Sourced s u) (hn : n < 2 ^ 64) (hdies : s.recovery.dieReports = []) (hpaths : PathsWhole s.tbl) :
    TickOpen s (u.openTick n abandon) n abandon ∧ Opened u (u.openTick n abandon) n abandon := by
  obtain ⟨hopened, hfresh⟩ := u.openTick_opens abandon hn (by rw [h.recovery, hdies]) (h.tbl ▸ hpaths)
  exact ⟨⟨hopened.seq, hopened.mode, hopened.isOpen, hopened.guard, hopened.resolved, hopened.abandonBeacon, hopened.parity.trans (by rw [h.epoch]),
    fun hc => hopened.charged (by rw [h.chargeNext, hc]), hfresh⟩, hopened⟩

theorem tickBeacon_internal (hdue : s.tickDue = true) (hsource : s.source = 0) : exec .tickBeacon s = .next ((s.showSource 0).openTick s.nextSeq false) := by
  change execTickBeacon s = _
  rw [execTickBeacon, if_neg (by simp [hdue]), hsource]
  rfl

theorem tickBeacon_running (hmode : s.mode = .running) (hres : s.tick.resolved = true) (hdies : s.recovery.dieReports = []) (hpaths : PathsWhole s.tbl)
    (hsource : s.source = 0) : ∃ t : State, exec .tickBeacon s = .next t ∧ TickOpen s t ((s.seq + 1) % 2 ^ 64) false := by
  have hseq : s.nextSeq = (s.seq + 1) % 2 ^ 64 := if_neg (by simp [hmode])
  refine ⟨_, tickBeacon_internal (by simp [State.tickDue, hmode, hres]) hsource, ?_⟩
  rw [hseq]
  exact ((s.showSource_sourced 0).tickOpen (Nat.mod_lt _ (by decide)) hdies hpaths).1

/-- The first tick of a run, of the number that START_JOB gave. -/
theorem tickBeacon_first {m : DWord} (hmode : s.mode = .loaded) (hstart : s.job.start = some m) (hrole : flag (s.reg Reg.TCK_ROLE) 31 = false)
    (hdies : s.recovery.dieReports = []) (hpaths : PathsWhole s.tbl) (hsource : s.source = 0) :
    ∃ t : State, exec .tickBeacon s = .next t ∧ TickOpen s t m.toNat false ∧ t.job.start = none ∧ flag (t.reg Reg.TCK_STATUS) 27 = true := by
  have hseq : s.nextSeq = m.toNat := by rw [State.nextSeq, if_pos (by simp [hmode]), hstart]; rfl
  have hsourced := s.showSource_sourced 0
  obtain ⟨htick, hopened⟩ := hsourced.tickOpen (abandon := false) m.isLt hdies hpaths
  refine ⟨_, tickBeacon_internal (by simp [State.tickDue, State.startDue, hmode, hstart, hrole]) hsource, ?_⟩
  rw [hseq]
  refine ⟨htick, hopened.start, ?_⟩
  rw [hopened.status, if_neg (by rw [hsourced.mode, hmode]; decide), flag_setFld_bit _ _ (by decide)]
  decide

theorem tickBeacon_standby (hmode : s.mode = .loaded) (hrole : flag (s.reg Reg.TCK_ROLE) 31 = true) : exec .tickBeacon s = .next s :=
  if_pos (by simp [State.tickDue, State.startDue, hmode, hrole])

/-! ## Flywheel beacons (R214, R215) -/

/-- The miss counted, TCK_EVENTS told. -/
theorem State.miss_sourced (s : State) : Sourced s s.miss := by
  unfold State.miss
  refine iteInduction (fun _ => .refl s) fun _ => ?_
  extract_lets k counted tick missed
  have hmissed : Sourced s missed := (s.setReg_sourced (a := Reg.TCK_SRC_COUNT) _ (by decide)).trans ⟨rfl, rfl, rfl, rfl, rfl, rfl, rfl, rfl⟩
  refine iteInduction (fun _ => ?_) fun _ => hmissed
  have hlost : Sourced missed (missed.orReg Reg.TCK_EVENTS 8) := missed.setReg_sourced _ (by decide)
  exact hmissed.trans (hlost.trans ⟨rfl, rfl, rfl, rfl, rfl, rfl, rfl, rfl⟩)

theorem State.flywheel_sourced (s : State) (st : Nat) : Sourced s ((s.miss.orReg Reg.TCK_EVENTS 0x10).showSource st) :=
  (s.miss_sourced.trans (State.setReg_sourced _ _ (by decide))).trans (State.showSource_sourced ..)

theorem flywheelBeacon_running (hmode : s.mode = .running) (hres : s.tick.resolved = true)
    (hmissing : (s.source = 1 ∧ s.tick.edge = 0) ∨ (s.source = 2 ∧ s.tick.frame = none)) : exec .flywheelBeacon s =
    .next (((s.miss.orReg Reg.TCK_EVENTS 0x10).showSource (if (s.miss.orReg Reg.TCK_EVENTS 0x10).tick.srcLost then 2 else 1)).openTick
      ((s.seq + 1) % 2 ^ 64) (s.source == 2)) := by
  have hsourced := s.flywheel_sourced (if (s.miss.orReg Reg.TCK_EVENTS 0x10).tick.srcLost then 2 else 1)
  have hseq : ((s.miss.orReg Reg.TCK_EVENTS 0x10).showSource (if (s.miss.orReg Reg.TCK_EVENTS 0x10).tick.srcLost then 2 else 1)).nextSeq =
      (s.seq + 1) % 2 ^ 64 := (if_neg (by rw [hsourced.mode]; simp [hmode])).trans (by rw [hsourced.seq])
  change execFlywheelBeacon s = _
  unfold execFlywheelBeacon
  extract_lets missing idle counted shown
  have hmissed : missing = true := by
    rcases hmissing with ⟨hs, he⟩ | ⟨hs, hf⟩
    · simp [missing, hs, he]
    · simp [missing, hs, hf]
  have hidle : idle = false := by simp [idle, hmode]
  have hshown : shown = (s.miss.orReg Reg.TCK_EVENTS 0x10).showSource (if (s.miss.orReg Reg.TCK_EVENTS 0x10).tick.srcLost then 2 else 1) := rfl
  rw [if_neg (by simp [hmissed, State.tickDue, hmode, hres]), hidle, if_neg (by decide), hshown, hseq, hsourced.source]

theorem flywheelBeacon_opens (hmode : s.mode = .running) (hres : s.tick.resolved = true) (hdies : s.recovery.dieReports = [])
    (hpaths : PathsWhole s.tbl) (hmissing : (s.source = 1 ∧ s.tick.edge = 0) ∨ (s.source = 2 ∧ s.tick.frame = none)) :
    ∃ u t : State, u = (s.miss.orReg Reg.TCK_EVENTS 0x10).showSource (if s.miss.tick.srcLost then 2 else 1) ∧ exec .flywheelBeacon s = .next t ∧
      TickOpen s t ((s.seq + 1) % 2 ^ 64) (s.source == 2) ∧ Opened u t ((s.seq + 1) % 2 ^ 64) (s.source == 2) := by
  obtain ⟨htick, hopened⟩ := (s.flywheel_sourced (if s.miss.tick.srcLost then 2 else 1)).tickOpen (abandon := s.source == 2)
    (Nat.mod_lt (s.seq + 1) (by decide)) hdies hpaths
  exact ⟨_, _, rfl, flywheelBeacon_running hmode hres hmissing, htick, hopened⟩

/-- A first or second miss of TICK_IN: the source is not lost yet. -/
theorem State.miss_first (hedge : s.tick.edge = 0) (hlost : s.tick.srcLost = false) (hmisses : s.tick.misses < 2) :
    s.miss.tick.srcLost = false ∧ s.miss.tick.misses = s.tick.misses + 1 := by
  have hthree : min 3 (s.tick.misses + 1) = s.tick.misses + 1 := by omega
  have hne : ∀ b, ¬(decide (s.tick.misses + 1 = 3) && b) = true := fun b => by
    rw [decide_eq_false (by omega), Bool.false_and]
    decide
  unfold State.miss
  rw [if_neg (by omega)]
  dsimp only
  rw [hthree, if_neg (hne _)]
  exact ⟨hlost, rfl⟩

theorem flywheelBeacon_tickIn (hmode : s.mode = .running) (hres : s.tick.resolved = true) (hdies : s.recovery.dieReports = [])
    (hpaths : PathsWhole s.tbl) (hsource : s.source = 1) (hedge : s.tick.edge = 0) (hlost : s.tick.srcLost = false) (hmisses : s.tick.misses < 2) :
    ∃ t : State, exec .flywheelBeacon s = .next t ∧ TickOpen s t ((s.seq + 1) % 2 ^ 64) false ∧ flag (t.reg Reg.TCK_EVENTS) 4 = true ∧
      fld (t.reg Reg.TCK_STATUS) 31 30 = 1 ∧ t.tick.misses = s.tick.misses + 1 := by
  obtain ⟨u, t, rfl, hexec, htick, hopened⟩ := flywheelBeacon_opens hmode hres hdies hpaths (.inl ⟨hsource, hedge⟩)
  obtain ⟨hlost', hmisses'⟩ := State.miss_first hedge hlost hmisses
  have hmode' := (s.flywheel_sourced (if s.miss.tick.srcLost then 2 else 1)).mode
  have habandon : (s.source == 2) = false := by rw [hsource]; rfl
  rw [habandon] at htick
  refine ⟨t, hexec, htick, ?_, ?_, ?_⟩
  · rw [hopened.events, State.reg_showSource_other _ _ (by decide), State.orReg_eq, State.reg_setReg, if_pos rfl, flag, BitVec.getLsbD_or,
      show (0x10 : Word).getLsbD 4 = true from rfl, Bool.or_true]
  · rw [hopened.status, if_pos (hmode'.trans hmode), hlost', State.fld_showSource]
    rfl
  · rw [hopened.misses, State.showSource_tick, State.orReg_eq, State.setReg_tick, hmisses']

theorem flywheelBeacon_huaren (hmode : s.mode = .running) (hres : s.tick.resolved = true) (hdies : s.recovery.dieReports = [])
    (hpaths : PathsWhole s.tbl) (hsource : s.source = 2) (hframe : s.tick.frame = none) :
    ∃ t : State, exec .flywheelBeacon s = .next t ∧ TickOpen s t ((s.seq + 1) % 2 ^ 64) true := by
  obtain ⟨u, t, -, hexec, htick, -⟩ := flywheelBeacon_opens hmode hres hdies hpaths (.inr ⟨hsource, hframe⟩)
  have habandon : (s.source == 2) = true := by rw [hsource]; rfl
  rw [habandon] at htick
  exact ⟨t, hexec, htick⟩

/-! ## Edges of TICK_IN (R214) -/

theorem tickInEdge_inside {x : Int} (hmode : s.mode = .running) (hsource : s.source = 1) (hlost : s.tick.srcLost = false) (hedge : s.tick.edge ≠ 1)
    (hlo : -(1000 * (fld (s.reg Reg.TCK_SRC) 7 0 : Nat) : Int) ≤ x) (hhi : x ≤ 1000 * (fld (s.reg Reg.TCK_SRC) 7 0 : Nat)) :
    ∃ t : State, exec (.tickInEdge x) s = .next t ∧ t.tick = { s.tick with edge := 1, misses := 0 } ∧ { t with tick := s.tick, regs := s.regs } = s ∧
      fld (t.reg Reg.TCK_SRC_COUNT) 23 16 = if 0 < x then min (fld (s.reg Reg.TCK_SRC_COUNT) 23 16 + 1) 255 else fld (s.reg Reg.TCK_SRC_COUNT) 23 16 := by
  have hexec : exec (.tickInEdge x) s = .next { (if x > 0 then s.bumpReg Reg.TCK_SRC_COUNT 23 16 else s) with
      tick := { (if x > 0 then s.bumpReg Reg.TCK_SRC_COUNT 23 16 else s).tick with edge := 1, misses := 0 } } := by
    change execTickInEdge x s = _
    unfold execTickInEdge
    extract_lets w inside counted tick
    have hin : inside = true := decide_eq_true ⟨hlo, hhi⟩
    rw [if_neg (by simp [hsource, hmode, State.ticking]), if_neg (by simp [hlost]), if_neg (by simp [hedge, hin])]
  refine ⟨_, hexec, ?_⟩
  by_cases hx : 0 < x
  · rw [if_pos hx, if_pos hx]
    exact ⟨rfl, rfl, (congrArg (fld · 23 16) (State.reg_setReg s _ _ _)).trans (fld_bumpFld_same _ _ (by decide) (by decide))⟩
  · rw [if_neg hx, if_neg hx]
    exact ⟨rfl, rfl, rfl⟩

theorem tickInEdge_early {x : Int} (hmode : s.mode = .running) (hsource : s.source = 1) (hlost : s.tick.srcLost = false)
    (hlo : x < -(1000 * (fld (s.reg Reg.TCK_SRC) 7 0 : Nat) : Int)) : exec (.tickInEdge x) s = .next (s.bumpReg Reg.TCK_SRC_COUNT 31 24) := by
  change execTickInEdge x s = _
  unfold execTickInEdge
  extract_lets w inside counted tick
  have hout : inside = false := decide_eq_false fun h => absurd h.1 (by omega)
  rw [if_neg (by simp [hsource, hmode, State.ticking]), if_neg (by simp [hlost]), if_pos (by simp [hout])]

end

end Sys2Proof.Machine

namespace Sys2Proof.Machine

/-! ## Idle beacons (R213, R225, R226) -/

/-- The error of a unit's counter against the master's, in ns. -/
def State.timeError (s : State) (u : Nat) : Int := ((s.clock.get 0 36 / 65536 : Nat) : Int) - ((s.clock.get 0 u / 65536 : Nat) : Int)

/-- A unit's time as an idle beacon leaves it: the error shown, a step beyond 1 µs, a slew within. -/
def Corrected (s t : State) (u : Nat) : Prop :=
  t.reg (Reg.TCK_DIE_ERR u) = intWord (clampInt (-2147483648) 2147483647 (s.timeError u)) ∧
    (1000 < (s.timeError u).natAbs → t.clock.get 0 u = s.clock.get 0 36) ∧
    ((s.timeError u).natAbs ≤ 1000 → t.clock.get 0 u = s.clock.get 0 u ∧ t.slew.get 0 u = clampInt (-50000) 50000 (s.timeError u * 1000))

/-- What a unit's correction rests on and leaves of the others: power domains and releases, the master's clock, their own time. -/
structure TimeApart (s t : State) (v : Nat) : Prop where
  boot : t.boot = s.boot
  domain : ∀ k < 80, t.domain k = s.domain k
  master : t.clock.get 0 36 = s.clock.get 0 36
  clock : t.clock.get 0 v = s.clock.get 0 v
  slew : t.slew.get 0 v = s.slew.get 0 v
  error : t.reg (Reg.TCK_DIE_ERR v) = s.reg (Reg.TCK_DIE_ERR v)

section
variable {s t w : State} {u v : Nat}

theorem TimeApart.refl (s : State) (v : Nat) : TimeApart s s v := ⟨rfl, fun _ _ => rfl, rfl, rfl, rfl, rfl⟩

theorem TimeApart.trans (h : TimeApart s t v) (h' : TimeApart t w v) : TimeApart s w v :=
  ⟨h'.boot.trans h.boot, fun k hk => (h'.domain k hk).trans (h.domain k hk), h'.master.trans h.master, h'.clock.trans h.clock, h'.slew.trans h.slew,
    h'.error.trans h.error⟩

theorem TimeApart.unitOn (h : TimeApart s t v) (hv : v < 36) : t.unitOn v = s.unitOn v := by
  have hlogic : (if v < 16 then 3 * v + 2 else if v < 32 then 32 + v else 65 + 2 * (v - 32)) < 80 := by
    split
    · omega
    · split <;> omega
  rw [State.unitOn, h.domain _ hlogic, h.domain _ (by omega), State.released, h.boot, State.unitOn, State.released]

theorem TimeApart.timeError (h : TimeApart s t v) : t.timeError v = s.timeError v := by
  rw [State.timeError, h.master, h.clock, State.timeError]

theorem Corrected.of_apart (h : TimeApart s t v) (h' : Corrected t w v) : Corrected s w v := by
  unfold Corrected at h' ⊢
  rwa [h.timeError, h.master, h.clock] at h'

theorem Corrected.apart (h : Corrected s t v) (h' : TimeApart t w v) : Corrected s w v := by
  obtain ⟨herror, hstep, hslew⟩ := h
  refine ⟨h'.error.trans herror, fun he => h'.clock.trans (hstep he), fun he => ?_⟩
  obtain ⟨hclock, hslew⟩ := hslew he
  exact ⟨h'.clock.trans hclock, h'.slew.trans hslew⟩

/-- The state with a unit's error shown. -/
def State.showError (s : State) (u : Nat) : State :=
  s.setReg (Reg.TCK_DIE_ERR u) (intWord (clampInt (-2147483648) 2147483647 (s.timeError u)))

/-- A unit stepped to the master's time. -/
def State.stepUnit (s : State) (u : Nat) : State :=
  { s with clock := s.clock.set 0 u (s.clock.get 0 36), slew := s.slew.set 0 u 0, slewRest := s.slewRest.set 0 u 0 }

/-- A unit that slews. -/
def State.slewUnit (s : State) (u : Nat) (r : Int) : State := { s with slew := s.slew.set 0 u r }

theorem State.correctUnit_idle (s : State) (u : Nat) (hon : s.unitOn u = true) : s.correctUnit 1000 true u =
    if 1000 < (s.timeError u).natAbs then (s.showError u).stepUnit u else (s.showError u).slewUnit u (clampInt (-50000) 50000 (s.timeError u * 1000)) := by
  have hrate : s.timeError u * 1000000 / ((max 1 1000 : Nat) : Int) = s.timeError u * 1000 := by
    rw [show ((max 1 1000 : Nat) : Int) = 1000 from rfl]
    omega
  unfold State.correctUnit
  rw [if_neg (by rw [hon]; decide)]
  by_cases he : 1000 < (s.timeError u).natAbs
  · rw [if_pos he]
    exact if_pos (decide_eq_true he)
  · rw [if_neg he, ← hrate]
    exact if_neg fun c => he (of_decide_eq_true c)

theorem State.correctUnit_corrects (s : State) (u : Nat) (hon : s.unitOn u = true) : Corrected s (s.correctUnit 1000 true u) u := by
  rw [s.correctUnit_idle u hon]
  have hshown : (s.showError u).reg (Reg.TCK_DIE_ERR u) = intWord (clampInt (-2147483648) 2147483647 (s.timeError u)) :=
    (State.reg_setReg ..).trans (if_pos rfl)
  by_cases he : 1000 < (s.timeError u).natAbs
  · rw [if_pos he]
    exact ⟨hshown, fun _ => SMap.get_set_same .., fun h => absurd he (Nat.not_lt.mpr h)⟩
  · rw [if_neg he]
    exact ⟨hshown, fun h => absurd h he, fun _ => ⟨rfl, SMap.get_set_same ..⟩⟩

theorem State.setReg_timeApart (s : State) {a : Nat} (w : Word) (hdomain : ∀ k < 5, Reg.PWR_DOM k ≠ a) (herror : Reg.TCK_DIE_ERR v ≠ a) :
    TimeApart s (s.setReg a w) v := by
  refine ⟨rfl, fun k hk => ?_, rfl, rfl, rfl, (State.reg_setReg ..).trans (if_neg herror)⟩
  rw [State.domain, State.reg_setReg, if_neg (hdomain _ (by omega)), State.domain]

theorem State.showError_apart (s : State) (hv : v ≠ u) : TimeApart s (s.showError u) v :=
  s.setReg_timeApart _ (fun k hk => by simp only [Reg.PWR_DOM, Reg.TCK_DIE_ERR]; omega) (by simp only [Reg.TCK_DIE_ERR]; omega)

theorem State.stepUnit_apart (s : State) (hv : v ≠ u) (hu : u ≠ 36) : TimeApart s (s.stepUnit u) v :=
  ⟨rfl, fun _ _ => rfl, SMap.get_set_other 0 s.clock _ hu.symm, SMap.get_set_other 0 s.clock _ hv, SMap.get_set_other (0 : Int) s.slew 0 hv, rfl⟩

theorem State.slewUnit_apart (s : State) (r : Int) (hv : v ≠ u) : TimeApart s (s.slewUnit u r) v :=
  ⟨rfl, fun _ _ => rfl, rfl, rfl, SMap.get_set_other (0 : Int) s.slew r hv, rfl⟩

theorem State.correctUnit_timeApart (s : State) (hv : v ≠ u) (hu : u ≠ 36) : TimeApart s (s.correctUnit 1000 true u) v := by
  by_cases hon : s.unitOn u = true
  · rw [s.correctUnit_idle u hon]
    split
    · exact (s.showError_apart hv).trans (State.stepUnit_apart _ hv hu)
    · exact (s.showError_apart hv).trans (State.slewUnit_apart _ _ hv)
  · have hsame : s.correctUnit 1000 true u = s := if_pos (by simpa using hon)
    rw [hsame]
    exact .refl s v

theorem State.correctUnits_timeApart (s : State) {us : List Nat} (hus : ∀ u ∈ us, u < 36) (hv : v ∉ us) : TimeApart s (s.correctUnits 1000 true us) v := by
  induction us generalizing s with
  | nil => exact .refl s v
  | cons u us ih =>
    obtain ⟨hu, hrest⟩ := List.forall_mem_cons.mp hus
    rw [List.mem_cons, not_or] at hv
    exact (s.correctUnit_timeApart hv.1 (by omega)).trans (ih _ hrest hv.2)

theorem State.correctUnits_corrects (s : State) {us : List Nat} (hus : ∀ u ∈ us, u < 36) (hnodup : us.Nodup) (hv : v ∈ us) (hon : s.unitOn v = true) :
    Corrected s (s.correctUnits 1000 true us) v := by
  induction us generalizing s with
  | nil => exact absurd hv List.not_mem_nil
  | cons u us ih =>
    obtain ⟨hu, hrest⟩ := List.forall_mem_cons.mp hus
    obtain ⟨hnot, hnodup⟩ := List.nodup_cons.mp hnodup
    by_cases hvu : v = u
    · subst hvu
      exact (s.correctUnit_corrects v hon).apart (State.correctUnits_timeApart _ hrest hnot)
    · have hmem : v ∈ us := (List.mem_cons.mp hv).resolve_left hvu
      have happart := s.correctUnit_timeApart hvu (by omega : u ≠ 36)
      exact (ih _ hrest hnodup hmem (by rw [happart.unitOn (hrest v hmem), hon])).of_apart happart

/-! ### The whole beacon -/

/-- No fence waits for the beacon. -/
theorem State.fenceDies_none (s : State) {ds : List Nat}
    (h : ∀ d ∈ ds, flag (s.shadow (Reg.TIL_DIE_FENCE d)) 31 = true → flag (s.reg (Reg.TIL_DIE_FENCE d)) 31 = true) : s.fenceDies ds = s := by
  induction ds with
  | nil => rfl
  | cons d ds ih =>
    obtain ⟨hd, hds⟩ := List.forall_mem_cons.mp h
    have hone : s.fenceDie d = s := if_neg fun c => by
      obtain ⟨hshadow, hreg⟩ := Bool.and_eq_true_iff.mp c
      rw [hd hshadow] at hreg
      cases hreg
    rw [State.fenceDies, hone, ih hds]

/-- What an idle beacon leaves: number, state, tick and tiles as they were, module time corrected. -/
structure Idled (s t : State) : Prop where
  seq : t.seq = s.seq
  mode : t.mode = s.mode
  isOpen : t.tick.isOpen = s.tick.isOpen
  tiles : t.tiles = s.tiles
  beacon : t.reg64 Reg.TCK_BEACON_LO Reg.TCK_BEACON_HI = s.clock.get 0 36 / 65536 % 2 ^ 64
  master : t.clock.get 0 36 = s.clock.get 0 36
  units : ∀ u < 36, s.unitOn u = true → Corrected s t u

theorem Idled.apart (h : Idled s t) (h' : Apart t w) : Idled s w where
  seq := h'.toBeside.seq.trans h.seq
  mode := h'.mode.trans h.mode
  isOpen := h'.tick.isOpen.trans h.isOpen
  tiles := h'.tiles.trans h.tiles
  beacon := by
    rw [← h.beacon, State.reg64, State.reg64, h'.time _ (by decide), h'.time _ (by decide)]
  master := by rw [h'.clock, h.master]
  units := fun u hu hon => by
    have herror : Reg.TCK_DIE_ERR u ∈ timeRegs := List.mem_append_right _ (List.mem_map_of_mem (List.mem_range.mpr hu))
    obtain ⟨hshown, hstep, hslew⟩ := h.units u hu hon
    exact ⟨(h'.time _ herror).trans hshown, by rw [h'.clock]; exact hstep, by rw [h'.clock, h'.slew]; exact hslew⟩

theorem State.correctUnits_tiles (s : State) (p : Nat) (idle : Bool) (us : List Nat) : (s.correctUnits p idle us).tiles = s.tiles := by
  induction us generalizing s with
  | nil => rfl
  | cons u us ih =>
    refine (ih _).trans ?_
    unfold State.correctUnit
    split
    · rfl
    · extract_lets m e shown
      split <;> rfl

/-- The time of the beacon latched. -/
def State.latchTime (s : State) (n : Nat) : State := s.setReg64 Reg.TCK_BEACON_LO Reg.TCK_BEACON_HI n

theorem State.reg64_latchTime (s : State) {n : Nat} (h : n < 2 ^ 64) : (s.latchTime n).reg64 Reg.TCK_BEACON_LO Reg.TCK_BEACON_HI = n := by
  rw [State.reg64, State.latchTime, State.setReg64, State.reg_setReg, if_neg (by decide), State.reg_setReg, if_pos rfl, State.reg_setReg, if_pos rfl,
    BitVec.toNat_ofNat, BitVec.toNat_ofNat]
  omega

theorem State.latchTime_timeApart (s : State) (n : Nat) (hv : v < 36) : TimeApart s (s.latchTime n) v := by
  have hdomain : ∀ k < 5, Reg.PWR_DOM k ≠ Reg.TCK_BEACON_LO ∧ Reg.PWR_DOM k ≠ Reg.TCK_BEACON_HI := by decide
  have herror : ∀ v < 36, Reg.TCK_DIE_ERR v ≠ Reg.TCK_BEACON_LO ∧ Reg.TCK_DIE_ERR v ≠ Reg.TCK_BEACON_HI := by decide
  exact (s.setReg_timeApart _ (fun k hk => (hdomain k hk).1) (herror v hv).1).trans
    (State.setReg_timeApart _ _ (fun k hk => (hdomain k hk).2) (herror v hv).2)

theorem State.latchTime_beside (s : State) (n : Nat) : Beside s (s.latchTime n) :=
  (s.setReg_beside _ (by decide)).trans (State.setReg_beside _ _ (by decide))

/-- The correction of an idle beacon before its frames. -/
theorem State.correctUnits_idled (s : State) :
    Idled s ((s.correctUnits 1000 true (List.range 36)).latchTime (s.clock.get 0 36 / 65536 % 2 ^ 64)) := by
  have hbeside := (s.correctUnits_beside 1000 true (List.range 36)).trans (State.latchTime_beside _ (s.clock.get 0 36 / 65536 % 2 ^ 64))
  have hrange : ∀ u ∈ List.range 36, u < 36 := fun u hu => List.mem_range.mp hu
  refine ⟨hbeside.seq, hbeside.mode, hbeside.tick.isOpen, s.correctUnits_tiles .., State.reg64_latchTime _ (Nat.mod_lt _ (by decide)), ?_, fun u hu hon => ?_⟩
  · exact (s.correctUnits_timeApart (v := 36) hrange (by simp)).master
  · exact (s.correctUnits_corrects hrange List.nodup_range (List.mem_range.mpr hu) hon).apart (State.latchTime_timeApart _ _ hu)

theorem State.correctTime_idled (s : State) : Idled s (s.correctTime true) :=
  (s.correctUnits_idled.apart (State.sendFrame_apart ..)).apart (State.sendFrame_apart ..)

/-- The state with other bookkeeping of the tick. -/
def State.withTick (s : State) (x : TickState) : State := { s with tick := x }

theorem Idled.withTick (h : Idled s t) {x : TickState} (hx : x.isOpen = t.tick.isOpen) : Idled s (t.withTick x) :=
  ⟨h.seq, h.mode, hx.trans h.isOpen, h.tiles, h.beacon, h.master, h.units⟩

/-- The register of the source's state says nothing of module time. -/
theorem Idled.setStatus (h : Idled s t) (w : Word) : Idled s (t.setReg Reg.TCK_STATUS w) := by
  have hreg : ∀ a, a ≠ Reg.TCK_STATUS → (t.setReg Reg.TCK_STATUS w).reg a = t.reg a := fun a ha => (State.reg_setReg ..).trans (if_neg ha)
  have herror : ∀ u < 36, Reg.TCK_DIE_ERR u ≠ Reg.TCK_STATUS := by decide
  refine ⟨?_, h.mode, h.isOpen, h.tiles, ?_, h.master, fun u hu hon => ?_⟩
  · rw [← h.seq, State.seq, State.reg64, hreg _ (by decide), hreg _ (by decide), State.seq, State.reg64]
  · rw [← h.beacon, State.reg64, hreg _ (by decide), hreg _ (by decide), State.reg64]
  · obtain ⟨hshown, htime⟩ := h.units u hu hon
    exact ⟨(hreg _ (herror u hu)).trans hshown, htime⟩

theorem Idled.showSource (h : Idled s t) (st : Nat) : Idled s (t.showSource st) := by
  rw [State.showSource, State.setRegFld_eq, State.setRegFld_eq]
  exact (h.setStatus _).setStatus _

/-- An idle beacon's end: outside Running and Draining the tick's parity is the epoch's, and a snapshot may start. -/
def State.endIdle (s : State) : State :=
  if s.ticking then s else (s.withTick { s.tick with parity := flag (s.reg Reg.TCK_EPOCH) 0 }).snapshotStart

theorem Idled.endIdle (h : Idled s t) : Idled s t.endIdle := by
  unfold State.endIdle
  split
  · exact h
  · have hmarked : Idled s (t.withTick { t.tick with parity := flag (t.reg Reg.TCK_EPOCH) 0 }) := h.withTick rfl
    exact hmarked.apart (State.snapshotStart_apart _)

theorem State.idle_eq (s : State) :
    s.idle = ((((s.fenceDies (List.range 16)).correctTime true).latchQuote).originFrame false (s.seq + 1)).endIdle := rfl

theorem State.idle_idled (s : State) (hfences : s.fenceDies (List.range 16) = s) : Idled s s.idle := by
  rw [State.idle_eq, hfences]
  exact ((s.correctTime_idled.apart (State.latchQuote_apart _)).apart (State.originFrame_apart ..)).endIdle

theorem Idled.useSource (h : Idled s t) : Idled s t.useSource := h.withTick rfl

theorem idleBeacon_idles (hdue : s.idleDue = true)
    (hfences : ∀ d < 16, flag (s.shadow (Reg.TIL_DIE_FENCE d)) 31 = true → flag (s.reg (Reg.TIL_DIE_FENCE d)) 31 = true) :
    ∃ t : State, exec .idleBeacon s = .next t ∧ Idled s t := by
  have hidled := s.idle_idled (s.fenceDies_none fun d hd => hfences d (List.mem_range.mp hd))
  refine ⟨s.idle.useSource.showSource 0, ?_, hidled.useSource.showSource 0⟩
  change execIdleBeacon s = _
  exact if_pos hdue

end

/-- Settles O29: a tick beacon from what the tick's opening leaves (`State.openTick_opens`), an idle one from what the correction of time leaves (`Idled`). -/
theorem beacons : Obligations.Beacons := by
  refine ⟨fun s hmode hres hdies hpaths hsource => tickBeacon_running hmode hres hdies (pathsWhole_of hpaths) hsource,
    fun s n hmode hstart hrole hdies hpaths hsource => tickBeacon_first hmode hstart hrole hdies (pathsWhole_of hpaths) hsource,
    fun s hmode _ hrole => tickBeacon_standby hmode hrole,
    fun s hmode hres hdies hpaths hsource hedge hlost hmisses =>
      flywheelBeacon_tickIn hmode hres hdies (pathsWhole_of hpaths) hsource hedge hlost hmisses,
    fun s hmode hres hdies hpaths hsource hframe _ => flywheelBeacon_huaren hmode hres hdies (pathsWhole_of hpaths) hsource hframe,
    fun s hdue hfences => ?_,
    fun s x hmode hsource hlost => ⟨fun hedge hlo hhi => tickInEdge_inside hmode hsource hlost hedge hlo hhi, tickInEdge_early hmode hsource hlost⟩⟩
  obtain ⟨t, hexec, h⟩ := idleBeacon_idles hdue hfences
  exact ⟨t, hexec, h.seq, h.mode, h.isOpen, h.tiles, h.beacon, h.master, h.units⟩

end Sys2Proof.Machine

namespace Sys2Proof.Machine

/-! ## What an issue comes to -/

/-- A core after the bookkeeping of an issue: slots, port, and the counts of waits and corrected errors apart, the core as it was. -/
structure Booked (a b : Tile) : Prop where
  rest : { b with threads := a.threads, cycle := a.cycle, lastLoose := a.lastLoose, portFree := a.portFree, til := a.til } = a
  threads : b.threads = a.threads
  sys : ∀ i, i ≠ 11 → i ≠ 12 → b.sys i = a.sys i

/-- The thread that a body of an instruction starts from: released from whatever it waited for. -/
def Thread.atIssue (x : Thread) : Thread := { x with waitFrom := none, wait := .none, came := false }

/-- The core booked for an issue of `u` that holds its port for `port` cycles. -/
def State.booked (s : State) (u : Issue) (port : Nat) : Tile :=
  ((s.tile u.tile.key).fetchCount (s.at_ u).pc).issued u.thread (s.cycleOf u) ((s.at_ u).release u.cycle) port (s.at_ u)

/-- The cycles for which a word of a class and function holds the core port. -/
def opPort (cls fn : Nat) (f : Fields) : Nat :=
  match opSpec cls fn f with
  | some sp => sp.port
  | none => 0

/-- What the body of an instruction acts on when `u` issues it. -/
def State.ctxOf (s : State) (u : Issue) (f : Fields) (cls fn : Nat) : Ctx :=
  { s := s, k := u.tile.key, t := s.booked u (opPort cls fn f), n := u.thread, x := (s.at_ u).atIssue, c := s.cycleOf u, f := f }

/-- What an effect leaves of the module. -/
def State.outcome (s : State) (u : Issue) : Effect → State
  | .fault code addr => s.raise u.tile.key (s.booked u 0) u.thread (s.at_ u).pc code addr
  | .crash s' t code addr => s'.raise u.tile.key t u.thread (s.at_ u).pc code addr
  | .done s' t y target => s'.finish u.tile.key t u.thread (y.advance (s.cycleOf u) target)
  | .hold w => s.setTile u.tile.key (((s.tile u.tile.key).fetchCount (s.at_ u).pc).setThread u.thread
      { s.at_ u with state := .data, wait := w, waitFrom := some ((s.at_ u).waitFrom.getD (s.cycleOf u)) })

section
variable {s t : State} {u : Issue} {f : Fields} {cls fn : Nat}

theorem State.booked_books (s : State) (u : Issue) (port : Nat) : Booked (s.tile u.tile.key) (s.booked u port) := by
  obtain ⟨hrest, hthreads, -, hsys⟩ := Machine.booked (s.tile u.tile.key) (s.at_ u).pc u.thread (s.cycleOf u) ((s.at_ u).release u.cycle) port (s.at_ u)
  exact ⟨hrest, hthreads, hsys⟩

theorem Tile.fetchCount_books (t : Tile) (pc : Nat) : Booked t (t.fetchCount pc) := by
  unfold Tile.fetchCount
  split
  · exact ⟨rfl, rfl, fun i _ h => by rw [Tile.sys_setSys, if_neg h]⟩
  · exact ⟨rfl, rfl, fun _ _ _ => rfl⟩

theorem Booked.thread {a b : Tile} (h : Booked a b) (n : Nat) : b.thread n = a.thread n := by rw [Tile.thread, h.threads, Tile.thread]

/-- The fields that a booking leaves alone, one by one. -/
theorem Booked.fields {a b : Tile} (h : Booked a b) : b.sram = a.sram ∧ b.acc = a.acc ∧ b.sendB = a.sendB ∧ b.sendL = a.sendL ∧ b.ctr = a.ctr ∧
    b.done = a.done ∧ b.held = a.held ∧ b.loading = a.loading ∧ b.stored = a.stored := by
  rw [← h.rest]
  exact ⟨rfl, rfl, rfl, rfl, rfl, rfl, rfl, rfl, rfl⟩

/-- A legal instruction is issued: its body runs on the booked core (R33, R34, R39, R482). -/
theorem issue_runs (h : s.legal u f cls fn = true) (body : Ctx → Effect) :
    s.issue u f cls fn body = s.outcome u (body (s.ctxOf u f cls fn)) := by
  simp only [State.legal, Bool.and_eq_true] at h
  obtain ⟨⟨⟨hfetched, hholds⟩, hclass⟩, hspec⟩ := h
  rw [issue_fetched hfetched]
  obtain ⟨-, -, hword, hpc, hstore, hpred, hloops, herased⟩ := fetched_parts hfetched
  obtain ⟨hcls, hfn, hf⟩ := wordIs_parts hword
  cases hsp : opSpec cls fn f with
  | none => simp [hsp] at hspec
  | some sp =>
    simp only [hsp, Bool.and_eq_true, Bool.not_eq_true'] at hspec
    obtain ⟨hlegal, hreads⟩ := hspec
    have hcounted : (sp.reads f).any (regBad ((s.tile u.tile.key).fetchCount (s.at_ u).pc) (s.at_ u)) = false := by
      rwa [show regBad ((s.tile u.tile.key).fetchCount (s.at_ u).pc) (s.at_ u) = regBad (s.tile u.tile.key) (s.at_ u) from funext (fetchCount_bad _ _ _)]
    simp only [State.holds, State.at_] at *
    simp only [State.issueNow, fetchFault, fetchCount_word, fetchCount_ecc, fetchCount_bad, hcls, hfn, hf, hpc, hstore, hpred, hloops, herased, hholds,
      hsp, hlegal, hcounted, hclass, Bool.false_or, Bool.true_and, Bool.false_eq_true, if_false, Bool.not_true, State.outcome, State.ctxOf, opPort,
      State.cycleOf, State.booked, Thread.atIssue, State.at_] <;> rfl

theorem issue_of_body {body : Ctx → Effect} {e : Effect} (h : s.legal u f cls fn = true) (hbody : body (s.ctxOf u f cls fn) = e) :
    s.issue u f cls fn body = s.outcome u e := by rw [issue_runs h, hbody]

/-- A thread that may issue belongs to a module that ticks, and runs. -/
theorem State.mayIssue_parts {k n : Nat} (h : s.mayIssue k n = true) : s.ticking = true ∧ ((s.tile k).thread n).state = .running := by
  simp only [State.mayIssue, Bool.and_eq_true, beq_iff_eq] at h
  obtain ⟨⟨⟨⟨⟨⟨⟨hticking, -⟩, -⟩, -⟩, -⟩, -⟩, hstate⟩, -⟩ := h
  exact ⟨hticking, hstate⟩

theorem State.legal_fetched (h : s.legal u f cls fn = true) : s.fetched u f cls fn = true := by
  simp only [State.legal, Bool.and_eq_true] at h
  exact h.1.1.1

theorem State.legal_holds (h : s.legal u f cls fn = true) : s.holds u f = true := by
  simp only [State.legal, Bool.and_eq_true] at h
  exact h.1.1.2

theorem State.clear_legal (h : s.clear u f cls fn = true) : s.legal u f cls fn = true ∧ (loopEnd (s.at_ u).loops (s.at_ u).pc).2 ≤ 4095 := by
  simpa only [State.clear, Bool.and_eq_true, decide_eq_true_eq] using h

theorem State.fetched_running (h : s.fetched u f cls fn = true) : s.ticking = true ∧ (s.at_ u).state = .running :=
  State.mayIssue_parts (fetched_parts h).1

/-! ### The end of an instruction -/

/-- A thread that does not run, or whose index is in the store, ends its instruction without a fault. -/
theorem State.finish_eq {k n : Nat} {b : Tile} {y : Thread} (h : y.state = .running → y.pc ≤ 4095) : s.finish k b n y = s.setTile k (b.setThread n y) := by
  refine if_neg fun hfault => ?_
  have := h hfault.1
  have := hfault.2
  omega

/-- What every end of an instruction leaves alone that puts in place the booked core with thread `y`, but for registers of the core in `sys`. -/
theorem onlyThread_setThread {b : Tile} {sys : List Nat} {y : Thread} (htiles : t.tiles = (s.setTile u.tile.key (b.setThread u.thread y)).tiles)
    (hrest : { b with threads := (s.tile u.tile.key).threads, cycle := (s.tile u.tile.key).cycle, lastLoose := (s.tile u.tile.key).lastLoose,
                      portFree := (s.tile u.tile.key).portFree, til := (s.tile u.tile.key).til } = s.tile u.tile.key)
    (hthreads : b.threads = (s.tile u.tile.key).threads) (hsys : ∀ i, i ≠ 11 → i ≠ 12 → i ∉ sys → b.sys i = (s.tile u.tile.key).sys i) :
    onlyThread s t u sys ∧ t.at_ u = y := by
  have htile : ∀ j, t.tile j = if j = u.tile.key then b.setThread u.thread y else s.tile j := fun j => by
    rw [State.tile, htiles]; exact State.tile_setTile ..
  refine ⟨⟨fun j hj => by rw [htile, if_neg hj], fun m hm => ?_, fun i h11 h12 hi => ?_, ?_⟩, ?_⟩
  · rw [htile, if_pos rfl, Tile.thread_setThread, if_neg hm, Tile.thread, hthreads, Tile.thread]
  · rw [htile, if_pos rfl, Tile.sys_setThread, hsys i h11 h12 hi]
  · rw [htile, if_pos rfl]; exact hrest
  · rw [State.at_, htile, if_pos rfl, Tile.thread_setThread, if_pos rfl]

/-- The same for the booked core itself. -/
theorem Booked.onlyThread {b : Tile} {y : Thread} (h : Booked (s.tile u.tile.key) b)
    (htiles : t.tiles = (s.setTile u.tile.key (b.setThread u.thread y)).tiles) : onlyThread s t u [] ∧ t.at_ u = y :=
  onlyThread_setThread htiles h.rest h.threads fun i h11 h12 _ => h.sys i h11 h12

/-- A clear instruction that goes on to the next: its core with the thread moved on. -/
theorem outcome_done {s' : State} {b : Tile} {y : Thread} (hend : (loopEnd y.loops y.pc).2 ≤ 4095) :
    s.outcome u (.done s' b y none) = s'.setTile u.tile.key (b.setThread u.thread (y.advance (s.cycleOf u) none)) := finish_on hend

/-- A thread that stops or waits as it moves on. -/
theorem outcome_stops {s' : State} {b : Tile} {y : Thread} {st : ThreadState} (hy : y.state = st) (hst : st ≠ .running) (target : Option Nat) :
    s.outcome u (.done s' b y target) = s'.setTile u.tile.key (b.setThread u.thread (y.advance (s.cycleOf u) target)) := by
  refine State.finish_eq fun h => absurd (hy.symm.trans ?_) hst
  cases target <;> exact h

/-- A thread that has written a scalar register moves on as `scalarDone` says. -/
theorem scalarDone_of_body {body : Ctx → Effect} {d : Nat} {v : DWord} {lat : Nat} (h : s.clear u f cls fn = true)
    (hbody : body (s.ctxOf u f cls fn) =
      .done s (s.ctxOf u f cls fn).t ((s.ctxOf u f cls fn).x.ws d v (s.cycleOf u + lat)) none) :
    scalarDone s (s.issue u f cls fn body) u d v lat := by
  obtain ⟨hlegal, hend⟩ := State.clear_legal h
  have hws : ∀ x : Thread, (x.ws d v (s.cycleOf u + lat)).loops = x.loops ∧ (x.ws d v (s.cycleOf u + lat)).pc = x.pc ∧
      (x.ws d v (s.cycleOf u + lat)).state = x.state := fun x => by unfold Thread.ws; split <;> exact ⟨rfl, rfl, rfl⟩
  obtain ⟨hloops, hpc, hstate⟩ := hws (s.at_ u).atIssue
  rw [issue_runs hlegal, hbody, outcome_done (by rw [show (s.ctxOf u f cls fn).x = (s.at_ u).atIssue from rfl, hloops, hpc]; exact hend)]
  obtain ⟨honly, hat⟩ := (s.booked_books u (opPort cls fn f)).onlyThread (t := s.setTile u.tile.key ((s.ctxOf u f cls fn).t.setThread u.thread
    (((s.ctxOf u f cls fn).x.ws d v (s.cycleOf u + lat)).advance (s.cycleOf u) none))) rfl
  refine ⟨rfl, honly, ?_, ?_, ?_⟩
  · rw [hat]
    exact ⟨fun m => Thread.rs_ws (s.at_ u).atIssue .., fun m => Thread.rv_ws (s.at_ u).atIssue .., fun m => Thread.rp_ws (s.at_ u).atIssue ..⟩
  · rw [hat]
    refine ⟨?_, ?_, hstate⟩
    · exact congrArg₂ (fun l p => (loopEnd l p).2) hloops hpc
    · exact congrArg₂ (fun l p => (loopEnd l p).1) hloops hpc
  · intro hd
    rw [hat]
    simp [Thread.advance, Thread.readyAt, hd, Thread.ws]

end

end Sys2Proof.Machine

namespace Sys2Proof.Machine

/-! ## Faults of a core (R50 to R55) -/

/-- The core that a fault leaves: the fault recorded, its thread or all of them stopped, a hardware fault marked (R51, R55). -/
def Tile.raised (t : Tile) (thread pc code addr : Nat) : Tile :=
  let t := t.recordFault thread pc code addr
  let t := if thread = 7 then t.stopAll else t.setThread thread (t.thread thread).stop
  if code ≥ 0x10 then { t with hwFault := true } else t

section
variable {s : State} {u : Issue}

/-- The record of a fault is in the core's system registers alone. -/
theorem Tile.recordFault_eq (t : Tile) (thread pc code addr : Nat) : ∃ m, t.recordFault thread pc code addr = { t with til := m } := by
  unfold Tile.recordFault
  split
  · exact ⟨_, rfl⟩
  · exact ⟨_, rfl⟩

theorem Tile.recordFault_threads (t : Tile) (thread pc code addr : Nat) : (t.recordFault thread pc code addr).threads = t.threads := by
  obtain ⟨m, h⟩ := t.recordFault_eq thread pc code addr
  rw [h]

/-- The first record stays, a later fault sets `more`; where none stood, the fault is recorded (R55). -/
theorem Tile.sys_recordFault (t : Tile) (thread pc code addr i : Nat) : (t.recordFault thread pc code addr).sys i =
    if flag (t.sys 7) 31 then (if i = 7 then setFlag (t.sys 7) 30 true else t.sys i)
    else if i = 9 then BitVec.ofNat 32 (addr % 2 ^ 20) else if i = 8 then BitVec.ofNat 32 (thread * 2 ^ 16 + pc % 4096)
    else if i = 7 then BitVec.ofNat 32 (0x80000000 + code) else t.sys i := by
  unfold Tile.recordFault
  split <;> simp only [Tile.sys_setSys]

/-- A fault leaves of the core all but its record, its threads and the mark of a hardware fault. -/
theorem Tile.raised_eq (t : Tile) (thread pc code addr : Nat) :
    ∃ xs m h, t.raised thread pc code addr = { t with threads := xs, til := m, hwFault := h } := by
  obtain ⟨m, h⟩ := t.recordFault_eq thread pc code addr
  unfold Tile.raised
  rw [h]
  split <;> split <;> exact ⟨_, m, _, rfl⟩

@[simp] theorem Tile.sys_raised (t : Tile) (thread pc code addr i : Nat) :
    (t.raised thread pc code addr).sys i = (t.recordFault thread pc code addr).sys i := by
  unfold Tile.raised
  split <;> split <;> rfl

@[simp] theorem Tile.sram_raised (t : Tile) (thread pc code addr : Nat) : (t.raised thread pc code addr).sram = t.sram := by
  obtain ⟨_, _, _, h⟩ := t.raised_eq thread pc code addr; rw [h]

/-- The faulting thread stops, the others go on. -/
theorem Tile.thread_raised (t : Tile) {n : Nat} (hn : n ≠ 7) (pc code addr m : Nat) :
    (t.raised n pc code addr).thread m = if m = n then (t.thread n).stop else t.thread m := by
  have hthread : ∀ j, (t.recordFault n pc code addr).thread j = t.thread j := fun j => by rw [Tile.thread, Tile.recordFault_threads, Tile.thread]
  have hset := Tile.thread_setThread (t.recordFault n pc code addr) n (t.thread n).stop m
  rw [hthread] at hset
  unfold Tile.raised
  simp only [if_neg hn, hthread]
  split <;> exact hset

/-- A fault with no issuing thread stops all of the core's. -/
theorem Tile.thread_raised_all (t : Tile) (pc code addr : Nat) {m : Nat} (hm : m < 4) : ((t.raised 7 pc code addr).thread m).state = .faulted := by
  unfold Tile.raised
  simp only [if_pos]
  interval_cases m <;> split <;> rfl

theorem Tile.hwFault_raised (t : Tile) (thread pc addr : Nat) {code : Nat} (h : 0x10 ≤ code) : (t.raised thread pc code addr).hwFault = true := by
  unfold Tile.raised
  simp only [if_pos h]

theorem State.raise_tiles (s : State) (k : Nat) (t : Tile) (thread pc code addr : Nat) :
    (s.raise k t thread pc code addr).tiles = (s.setTile k (t.raised thread pc code addr)).tiles := by
  change (if code ≥ 0x10 then (((s.setTile k (t.raised thread pc code addr)).faultEvent 1 (keyDie k) code).charge).reportHardware k
    else ((s.setTile k (t.raised thread pc code addr)).faultEvent 1 (keyDie k) code).charge).tiles = _
  split <;> simp only [State.reportHardware_tiles, State.charge_tiles, State.faultEvent_tiles]

@[simp] theorem State.tile_raise (s : State) (k : Nat) (t : Tile) (thread pc code addr j : Nat) :
    (s.raise k t thread pc code addr).tile j = if j = k then t.raised thread pc code addr else s.tile j := by
  rw [State.tile, State.raise_tiles]
  exact State.tile_setTile ..

/-- A fault is charged as R54 says. -/
theorem State.raise_tick (s : State) (k : Nat) (t : Tile) (thread pc code addr : Nat) : (s.raise k t thread pc code addr).tick = s.charge.tick := by
  have hcharge : ∀ x : State, x.tick = s.tick → x.mode = s.mode → x.charge.tick = s.charge.tick := fun x htick hmode => by
    unfold State.charge State.ticking
    rw [htick, hmode]
    split
    · split <;> rfl
    · exact htick
  have hset := hcharge ((s.setTile k (t.raised thread pc code addr)).faultEvent 1 (keyDie k) code) (State.faultEvent_tick ..) (State.faultEvent_mode ..)
  change (if code ≥ 0x10 then (((s.setTile k (t.raised thread pc code addr)).faultEvent 1 (keyDie k) code).charge).reportHardware k
    else ((s.setTile k (t.raised thread pc code addr)).faultEvent 1 (keyDie k) code).charge).tick = _
  split <;> simp only [State.reportHardware_tick, hset]

theorem State.charge_tick_of_ticking (h : s.ticking = true) : if s.tick.closed then s.charge.tick.chargeNext = true ∧ s.charge.tick.charged = s.tick.charged
    else s.charge.tick.charged = true ∧ s.charge.tick.chargeNext = s.tick.chargeNext := by
  unfold State.charge
  rw [if_pos h]
  split <;> exact ⟨rfl, rfl⟩

/-- A fault that an issuing thread raises on its booked core is what `faultDone` says. -/
theorem faultDone_of_raise {t : State} {b : Tile} {code addr : Nat} (hbooked : Booked (s.tile u.tile.key) b) (hticking : s.ticking = true)
    (ht : t = s.raise u.tile.key b u.thread (s.at_ u).pc code addr) : faultDone s t u code addr := by
  subst ht
  have hseven : u.thread.val ≠ 7 := by omega
  obtain ⟨hsram, hacc, hsendB, hsendL, hctr, -⟩ := hbooked.fields
  obtain ⟨xs, m, hw, hraised⟩ := b.raised_eq u.thread (s.at_ u).pc code addr
  have hat : (s.raise u.tile.key b u.thread (s.at_ u).pc code addr).at_ u = (s.at_ u).stop := by
    rw [State.at_, State.tile_raise, if_pos rfl, Tile.thread_raised _ hseven, if_pos rfl, hbooked.thread]
    rfl
  refine ⟨by rw [hat]; rfl, by rw [hat]; exact ⟨rfl, rfl, rfl⟩, by rw [hat]; rfl, fun m hm => ?_, fun j hj => ?_, ?_, ?_, ?_, ?_, ?_, ?_, ?_⟩
  · rw [State.tile_raise, if_pos rfl, Tile.thread_raised _ hseven, if_neg hm, hbooked.thread]
  · rw [State.tile_raise, if_neg hj]
  · rw [State.tile_raise, if_pos rfl, Tile.sram_raised, hsram]
  · rw [State.tile_raise, if_pos rfl, hraised, ← hacc]
  · rw [State.tile_raise, if_pos rfl, hraised, ← hsendB]
  · rw [State.tile_raise, if_pos rfl, hraised, ← hsendL]
  · rw [State.tile_raise, if_pos rfl, hraised, ← hctr]
  · rw [State.tile_raise, if_pos rfl]
    simp only [Tile.sys_raised, Tile.sys_recordFault, hbooked.sys 7 (by decide) (by decide), hbooked.sys 8 (by decide) (by decide),
      hbooked.sys 9 (by decide) (by decide)]
    split <;> exact ⟨rfl, rfl, rfl⟩
  · rw [State.raise_tick]
    exact State.charge_tick_of_ticking hticking

/-- A legal instruction whose body faults. -/
theorem faultDone_of_body {f : Fields} {cls fn code addr : Nat} {body : Ctx → Effect} (h : s.legal u f cls fn = true)
    (hbody : body (s.ctxOf u f cls fn) = .fault code addr) : faultDone s (s.issue u f cls fn body) u code addr :=
  faultDone_of_raise (s.booked_books u 0) (State.fetched_running (State.legal_fetched h)).1 (by rw [issue_runs h, hbody]; rfl)

/-- An instruction with good operands and a true predicate, of a class that its thread may not issue (R39). -/
theorem faultDone_of_class {f : Fields} {cls fn : Nat} (h : s.fetched u f cls fn = true) (hholds : s.holds u f = true)
    (hreads : ∀ sp, opSpec cls fn f = some sp → ∀ o ∈ sp.reads f, regBad (s.tile u.tile.key) (s.at_ u) o = false)
    (hclass : classAllowed cls fn u.thread = false) (body : Ctx → Effect) : faultDone s (s.issue u f cls fn body) u 0x02 0 := by
  refine faultDone_of_raise (s.booked_books u 0) (State.fetched_running h).1 ?_
  rw [issue_fetched h]
  obtain ⟨-, -, hword, hpc, hstore, hpred, hloops, herased⟩ := fetched_parts h
  obtain ⟨hcls, hfn, hf⟩ := wordIs_parts hword
  have hfault : fetchFault ((s.tile u.tile.key).fetchCount (s.at_ u).pc) (s.at_ u) u.thread = some 0x02 := by
    have hgood : ∀ sp, opSpec cls fn f = some sp → (sp.reads f).any (regBad ((s.tile u.tile.key).fetchCount (s.at_ u).pc) (s.at_ u)) = false := fun sp hsp =>
      List.any_eq_false.2 fun o ho => by rw [fetchCount_bad, hreads sp hsp o ho]; exact Bool.false_ne_true
    simp only [State.holds] at hholds
    cases hsp : opSpec cls fn f with
    | none =>
      simp only [fetchFault, fetchCount_word, fetchCount_ecc, fetchCount_bad, hcls, hfn, hf, hpc, hstore, hpred, hloops, herased, hholds, hsp, hclass,
        List.any_nil, Bool.or_self, Bool.and_false, Bool.not_true, Bool.not_false, Bool.false_eq_true, if_false, if_true]
    | some sp =>
      simp only [fetchFault, fetchCount_word, fetchCount_ecc, fetchCount_bad, hcls, hfn, hf, hpc, hstore, hpred, hloops, herased, hholds, hsp, hclass,
        hgood sp hsp, Bool.or_self, Bool.and_false, Bool.not_true, Bool.not_false, Bool.false_eq_true, if_false, if_true]
  simp only [State.at_] at hfault
  simp only [State.issueNow, hfault] <;> rfl

end

end Sys2Proof.Machine

namespace Sys2Proof.Machine

/-! ## The system class (R57, R97) -/

section
variable {s : State} {u : Issue} {f : Fields}

theorem TileId.key_lt (k : TileId) : k.key < 51200 := by
  have := k.die.isLt
  have := k.row.isLt
  have := k.pcol.isLt
  unfold TileId.key
  omega

theorem findCol_lt {g : Nat → Nat} {c n m : Nat} (h : findCol g c n = some m) : m < n := by
  induction n with
  | zero => cases h
  | succ n ih =>
    unfold findCol at h
    split at h
    · cases h; exact Nat.lt_succ_self _
    · exact Nat.lt_succ_of_lt (ih h)

theorem State.logCol_lt (s : State) (k : Nat) : s.logCol k < 64 := by
  unfold State.logCol
  split
  · decide
  · cases h : findCol (s.physCol (keyDie k) (keyRow k)) (keyCol k) 48 with
    | none => decide
    | some m => exact Nat.lt_of_lt_of_le (findCol_lt h) (by decide)

theorem State.coreId_lt (s : State) {k : Nat} (hk : k < 51200) : s.coreId k < 2 ^ 32 := by
  have := s.logCol_lt k
  unfold State.coreId keyDie keyRow keyCol
  omega

theorem State.threadStates_lt (s : State) (k : Nat) : s.threadStates k < 2 ^ 32 := by
  unfold State.threadStates
  split
  · decide
  · simp only [packNat, List.range, List.range.loop, List.map]
    omega

/-- What TIL_THREAD_STATE reads does not rest on the bookkeeping of an issue. -/
theorem State.threadStates_booked (s : State) {k : Nat} {b : Tile} (h : Booked (s.tile k) b) : (s.setTile k b).threadStates k = s.threadStates k := by
  have hheld : (s.setTile k b).coreHeld k = s.coreHeld k := by
    obtain ⟨-, -, -, -, -, -, hheld, hloading, -⟩ := h.fields
    unfold State.coreHeld
    rw [State.tile_setTile, if_pos rfl, hheld, hloading]
    rfl
  unfold State.threadStates
  rw [hheld]
  simp only [State.tile_setTile, if_pos, h.thread]

theorem setWidth_ofNat {n : Nat} (h : n < 2 ^ 32) : (BitVec.ofNat 32 n).setWidth 64 = BitVec.ofNat 64 n := by
  apply BitVec.eq_of_toNat_eq
  simp only [BitVec.toNat_setWidth, BitVec.toNat_ofNat]
  omega

/-- SRD reads a defined system register of its core (R97). -/
theorem srd_reads (h : s.clear u f 15 0x00 = true) (haligned : f.imm.toNat % 4 = 0) (hlast : f.imm.toNat ≤ 0x34) :
    ∃ t v, exec (.srd u f) s = .next t ∧ scalarDone s t u f.dest.toNat v 2 ∧
      (f.imm.toNat = 0 → v = BitVec.ofNat 64 (s.coreId u.tile.key)) ∧ (f.imm.toNat = 4 → v = BitVec.ofNat 64 (s.threadStates u.tile.key)) ∧
      (f.imm.toNat = 8 → v = BitVec.ofNat 64 (s.cycleOf u % 2 ^ 32)) ∧
      (12 ≤ f.imm.toNat → f.imm.toNat ≠ 0x2C → f.imm.toNat ≠ 0x30 → v = ((s.tile u.tile.key).sys (f.imm.toNat / 4)).setWidth 64) := by
  have hbooked := s.booked_books u (opPort 15 0x00 f)
  refine ⟨_, ((s.setTile u.tile.key (s.booked u (opPort 15 0x00 f))).sysReg u.tile.key (f.imm.toNat / 4) (s.cycleOf u)).setWidth 64, rfl,
    scalarDone_of_body h (if_neg ?_), fun h0 => ?_, fun h4 => ?_, fun h8 => ?_, fun h12 hwait hecc => ?_⟩
  · change ¬(f.imm.toNat % 4 ≠ 0 ∨ f.imm.toNat > 0x34)
    omega
  · rw [h0]
    exact setWidth_ofNat (s.coreId_lt (TileId.key_lt _))
  · rw [h4]
    exact (setWidth_ofNat (State.threadStates_lt ..)).trans (congrArg _ (s.threadStates_booked hbooked))
  · rw [h8, show State.sysReg _ _ (8 / 4) _ = BitVec.ofNat 32 (s.cycleOf u) from rfl]
    apply BitVec.eq_of_toNat_eq
    simp only [BitVec.toNat_setWidth, BitVec.toNat_ofNat]
  · obtain ⟨i, hi⟩ : ∃ i, f.imm.toNat / 4 = i + 3 := ⟨f.imm.toNat / 4 - 3, by omega⟩
    rw [hi]
    change (((s.setTile u.tile.key (s.booked u (opPort 15 0x00 f))).tile u.tile.key).sys (i + 3)).setWidth 64 = _
    rw [State.tile_setTile, if_pos rfl, hbooked.sys _ (by omega) (by omega)]

/-- SWR clears the flags of its thread that its operand names (R57). -/
theorem Tile.flag_clearFlags (t : Tile) {i : Nat} (hi : i < 32) (n : Nat) (w : DWord) :
    flag ((t.clearFlags n (w.toNat / 2 ^ (4 * n))).sys 13) i = (flag (t.sys 13) i && !(decide (i / 4 = n) && w.getLsbD i)) := by
  have hbit : (BitVec.ofNat 32 (w.toNat / 2 ^ (4 * n) % 16 * 2 ^ (4 * n))).getLsbD i = (decide (i / 4 = n) && w.getLsbD i) := by
    rw [BitVec.getLsbD_ofNat, Nat.testBit_mul_two_pow, show (16 : Nat) = 2 ^ 4 from rfl, Nat.testBit_mod_two_pow, Nat.testBit_div_two_pow]
    by_cases hin : i / 4 = n
    · have hle : 4 * n ≤ i := by omega
      have hlt : i - 4 * n < 4 := by omega
      simp [hi, hin, hle, hlt, Nat.sub_add_cancel hle, BitVec.getLsbD]
    · by_cases hle : 4 * n ≤ i
      · have hlt : ¬(i - 4 * n < 4) := by omega
        simp [hin, hlt]
      · simp [hin, hle]
  simp only [Tile.clearFlags, Tile.sys_setSys, if_pos, flag, BitVec.getLsbD_and, BitVec.getLsbD_not, hbit, hi, decide_true, Bool.true_and]

theorem swr_clears (h : s.clear u f 15 0x01 = true) (hoff : f.imm.toNat = 0x34) :
    ∃ t, exec (.swr u f) s = .next t ∧ sameBesideTiles s t ∧ onlyThread s t u [13] ∧ sameRegisters (s.at_ u) (t.at_ u) ∧ goesOn (s.at_ u) (t.at_ u) ∧
      ∀ i < 32, flag ((t.tile u.tile.key).sys 13) i =
        (flag ((s.tile u.tile.key).sys 13) i && !(decide (i / 4 = u.thread.val) && ((s.at_ u).rs f.srca.toNat).getLsbD i)) := by
  obtain ⟨hlegal, hend⟩ := State.clear_legal h
  have hbooked := s.booked_books u (opPort 15 0x01 f)
  let b := (s.booked u (opPort 15 0x01 f)).clearFlags u.thread (((s.at_ u).rs f.srca.toNat).toNat / 2 ^ (4 * u.thread.val))
  let t := s.setTile u.tile.key (b.setThread u.thread ((s.at_ u).atIssue.advance (s.cycleOf u) none))
  obtain ⟨honly, hat⟩ := onlyThread_setThread (s := s) (t := t) (u := u) (b := b) (sys := [13]) rfl hbooked.rest hbooked.threads fun i h11 h12 h13 => by
    exact (Tile.sys_setSys ..).trans ((if_neg (by simpa using h13)).trans (hbooked.sys i h11 h12))
  refine ⟨t, ?_, rfl, honly, ?_, ?_, fun i hi => ?_⟩
  · exact congrArg Host.Outcome.next ((issue_of_body hlegal (if_neg fun hne => hne hoff)).trans (outcome_done hend))
  · rw [hat]; exact ⟨rfl, rfl, rfl⟩
  · rw [hat]; exact ⟨rfl, rfl, rfl⟩
  · rw [State.tile_setTile, if_pos rfl, Tile.sys_setThread, Tile.flag_clearFlags _ hi, hbooked.sys 13 (by decide) (by decide)]

theorem State.seq_eq (s : State) : BitVec.ofNat 64 s.seq = s.reg Reg.TCK_SEQ_HI ++ s.reg Reg.TCK_SEQ_LO := by
  apply BitVec.eq_of_toNat_eq
  have := (s.reg Reg.TCK_SEQ_LO).isLt
  have := (s.reg Reg.TCK_SEQ_HI).isLt
  rw [BitVec.toNat_append, ← Nat.shiftLeft_add_eq_or_of_lt (s.reg Reg.TCK_SEQ_LO).isLt, Nat.shiftLeft_eq, BitVec.toNat_ofNat]
  unfold State.seq State.reg64
  omega

theorem TileId.keyDie_key (k : TileId) : keyDie k.key = k.die.val := by
  have := k.row.isLt
  have := k.pcol.isLt
  unfold keyDie TileId.key
  omega

end

/-- Settles O20: each instruction's register write by `scalarDone_of_body`, its fault by `faultDone_of_body`. -/
theorem systemClass : Obligations.SystemClass := by
  intro u f s
  refine ⟨fun h hoff => srd_reads h hoff.1 hoff.2, fun h hoff => ⟨_, rfl, faultDone_of_body h (if_pos hoff)⟩, swr_clears,
    fun h hoff => ⟨_, rfl, faultDone_of_body h (if_pos hoff)⟩, fun h => ⟨_, rfl, ?_⟩, fun h => ⟨_, rfl, ?_⟩⟩
  · rw [← TileId.keyDie_key]
    exact scalarDone_of_body h rfl
  · rw [← State.seq_eq]
    exact scalarDone_of_body h rfl

end Sys2Proof.Machine

namespace Sys2Proof.Machine

/-! ## Steps of the core that no thread issues (R30, R50, R51) -/

section
variable {s : State} {k : TileId}

theorem State.tile_raise_same (s : State) (k : Nat) (t : Tile) (thread pc code addr : Nat) :
    (s.raise k t thread pc code addr).tile k = t.raised thread pc code addr := by rw [State.tile_raise, if_pos rfl]

/-- A hardware fault with no issuing thread: every thread stops, the core is held, and the first fault is recorded of thread 7 (R50, R51). -/
theorem raise_stopsCore (s : State) (k : Nat) {code : Nat} (addr : Nat) (h : 0x10 ≤ code) :
    let t := s.raise k (s.tile k) 7 0 code addr
    (t.tile k).hwFault = true ∧ (∀ n < 4, ((t.tile k).thread n).state = .faulted) ∧ (t.tile k).sram = (s.tile k).sram ∧
      (flag ((s.tile k).sys 7) 31 = false → (t.tile k).sys 7 = BitVec.ofNat 32 (0x80000000 + code) ∧ (t.tile k).sys 8 = 0x70000 ∧
        (t.tile k).sys 9 = BitVec.ofNat 32 (addr % 2 ^ 20)) := by
  have hnone : flag ((s.tile k).sys 7) 31 = false → ∀ i, ((s.tile k).raised 7 0 code addr).sys i = if i = 9 then BitVec.ofNat 32 (addr % 2 ^ 20)
      else if i = 8 then 0x70000 else if i = 7 then BitVec.ofNat 32 (0x80000000 + code) else (s.tile k).sys i := fun hfirst i => by
    rw [Tile.sys_raised, Tile.sys_recordFault, if_neg (by rw [hfirst]; exact Bool.false_ne_true)]
    rfl
  intro t
  rw [show t.tile k = (s.tile k).raised 7 0 code addr from State.tile_raise_same ..]
  exact ⟨Tile.hwFault_raised _ _ _ _ h, fun n hn => Tile.thread_raised_all _ _ _ _ hn, Tile.sram_raised ..,
    fun hfirst => ⟨hnone hfirst 7, hnone hfirst 8, hnone hfirst 9⟩⟩

/-- A hardware fault awaits its fence (R53). -/
theorem mem_reportHardware (s : State) {k : Nat} (h : s.fenced k = false) : k ∈ (s.reportHardware k).recovery.pendingFences := by
  unfold State.reportHardware
  split
  next hwaits => exact hwaits.resolve_right (by rw [h]; exact Bool.false_ne_true)
  next =>
    have hmem : k ∈ s.recovery.pendingFences ++ [k] := List.mem_append_right _ (List.mem_singleton_self k)
    dsimp only
    split
    · exact hmem
    · exact hmem

theorem raise_awaitsFence (s : State) {k code : Nat} (t : Tile) (thread pc addr : Nat) (h : 0x10 ≤ code) (hfence : s.fenced k = false) :
    k ∈ (s.raise k t thread pc code addr).recovery.pendingFences := by
  unfold State.raise
  simp only [if_pos h]
  refine mem_reportHardware _ (Eq.trans ?_ hfence)
  unfold State.fenced State.reg
  rw [State.charge_regs, State.faultEvent_regs]
  rfl

end

/-- Settles O22: a failed check and an uncorrectable word stop the core (`raise_stopsCore`), a corrected word is put back. -/
theorem coreSteps : Obligations.CoreSteps := by
  intro k s hpower
  refine ⟨⟨_, if_pos hpower, ?_⟩, fun w hsingle => ?_, fun w hdouble => ?_⟩
  · obtain ⟨hhw, hstop, hsram, hrecord⟩ := raise_stopsCore s k.key 0 (code := 0x13) (by decide)
    exact ⟨hhw, hstop, hsram, fun hfirst => ⟨(hrecord hfirst).1, (hrecord hfirst).2.1⟩, raise_awaitsFence s _ _ _ _ (by decide)⟩
  · refine ⟨s.setTile k.key { s.tile k.key with sramEcc := (s.tile k.key).sramEcc.set .good w.toNat .good }, ?_, rfl, ?_, ?_, fun j hj => ?_⟩
    · change execSramWriteBack k w s = _
      simp only [execSramWriteBack, hpower, hsingle, Bool.not_true, Bool.false_eq_true, if_false]
    · rw [State.tile_setTile, if_pos rfl]
      exact SMap.get_set_same EccMark.good (s.tile k.key).sramEcc w.toNat EccMark.good
    · rw [State.tile_setTile, if_pos rfl]
    · rw [State.tile_setTile, if_neg hj]
  · obtain ⟨hhw, hstop, -, hrecord⟩ := raise_stopsCore s k.key (8 * w.toNat) (code := 0x10) (by decide)
    refine ⟨_, ?_, hhw, hstop, fun hfirst => ⟨(hrecord hfirst).1, (hrecord hfirst).2.2.trans ?_⟩⟩
    · change execSramWriteBack k w s = _
      simp only [execSramWriteBack, hpower, hdouble, Bool.not_true, Bool.false_eq_true, if_false]
    · have := w.isLt
      rw [Nat.mod_eq_of_lt (by omega)]

end Sys2Proof.Machine

namespace Sys2Proof.Machine

/-! ## Tick and sync (R46 to R48, R93 to R96) -/

section
variable {s : State} {u : Issue} {f : Fields} {cls fn : Nat}

/-- The core of an issue with thread `y` put in place, in a module `s'` whose tiles are as they were. -/
def State.placed (s s' : State) (u : Issue) (port : Nat) (y : Thread) : State := s'.setTile u.tile.key ((s.booked u port).setThread u.thread y)

theorem State.placed_only {s' : State} (h : s'.tiles = s.tiles) (port : Nat) (y : Thread) :
    onlyThread s (s.placed s' u port y) u [] ∧ (s.placed s' u port y).at_ u = y :=
  (s.booked_books u port).onlyThread (by unfold State.placed State.setTile; rw [h])

theorem State.tile_placed_same (s s' : State) (u : Issue) (port : Nat) (y : Thread) :
    (s.placed s' u port y).tile u.tile.key = (s.booked u port).setThread u.thread y := by
  unfold State.placed; rw [State.tile_setTile, if_pos rfl]

/-! ### AT -/

/-- The thread that AT leaves where its stamp lies ahead. -/
def Thread.awaitStamp (x : Thread) (now c : Nat) : Thread :=
  if now + 1 < c then { x with state := .stamp, wait := .stamp c, next := c } else { x with next := c }

theorem Thread.awaitStamp_fields (x : Thread) (now c : Nat) : (x.awaitStamp now c).loops = x.loops ∧ (x.awaitStamp now c).pc = x.pc ∧
    (x.awaitStamp now c).next = c ∧ sameRegisters x (x.awaitStamp now c) := by
  unfold Thread.awaitStamp
  split <;> exact ⟨rfl, rfl, rfl, rfl, rfl, rfl⟩

/-- AT before its stamp: the thread goes on in the stamp's cycle at the earliest (R47, R94). -/
theorem stampAt_waits (h : s.clear u f 8 0x00 = true) (hbudget : f.imm.toNat < ((s.tile u.tile.key).sys 3).toNat) (hearly : s.cycleOf u < f.imm.toNat) :
    ∃ t, exec (.stampAt u f) s = .next t ∧ sameBesideTiles s t ∧ onlyThread s t u [] ∧ sameRegisters (s.at_ u) (t.at_ u) ∧
      f.imm.toNat ≤ (t.at_ u).next ∧ (t.tile u.tile.key).sys 10 = (s.tile u.tile.key).sys 10 ∧
      (s.cycleOf u + 1 < f.imm.toNat → (t.at_ u).state = .stamp ∧ (t.at_ u).wait = .stamp f.imm.toNat) := by
  obtain ⟨hlegal, hend⟩ := State.clear_legal h
  have hbooked := s.booked_books u (opPort 8 0x00 f)
  obtain ⟨hloops, hpc, hnext, hregs⟩ := (s.at_ u).atIssue.awaitStamp_fields (s.cycleOf u) f.imm.toNat
  obtain ⟨honly, hat⟩ := State.placed_only (s := s) (u := u) (s' := s) rfl (opPort 8 0x00 f)
    (((s.at_ u).atIssue.awaitStamp (s.cycleOf u) f.imm.toNat).advance (s.cycleOf u) none)
  refine ⟨_, congrArg Host.Outcome.next ((issue_of_body hlegal ((if_neg ?_).trans (if_pos hearly))).trans (outcome_done ?_)), rfl, honly, ?_, ?_, ?_,
    fun hwait => ?_⟩
  · change ¬(f.imm.toNat ≥ ((s.booked u (opPort 8 0x00 f)).sys 3).toNat)
    rw [hbooked.sys 3 (by decide) (by decide)]
    omega
  · exact Eq.trans_le (congrArg₂ (fun l p => (loopEnd l p).2) hloops hpc) hend
  · rw [← State.placed, hat]; exact hregs
  · rw [← State.placed, hat]; exact Nat.le_trans (Nat.le_of_eq hnext.symm) (Nat.le_max_left _ _)
  · rw [← State.placed, State.tile_placed_same, Tile.sys_setThread, hbooked.sys 10 (by decide) (by decide)]
  · rw [← State.placed, hat]
    simp only [Thread.awaitStamp, if_pos hwait, Thread.advance, and_self]

/-- The count and the largest lateness after a late stamp (R47). -/
theorem Tile.sys_lateStamp (t : Tile) (late : Nat) :
    fld ((t.lateStamp late).sys 10) 15 0 = min (fld (t.sys 10) 15 0 + 1) 0xFFFF ∧
      fld ((t.lateStamp late).sys 10) 31 16 = max (fld (t.sys 10) 31 16) (min late 0xFFFF) ∧ ∀ i, i ≠ 10 → (t.lateStamp late).sys i = t.sys i := by
  have hcount : fld (bumpFld (t.sys 10) 15 0 1) 15 0 = min (fld (t.sys 10) 15 0 + 1) 0xFFFF := fld_bumpFld_same _ _ (by decide) (by decide)
  have hlate : fld (bumpFld (t.sys 10) 15 0 1) 31 16 = fld (t.sys 10) 31 16 := fld_bumpFld_other _ _ (by decide) (by decide) (by decide)
  have hlt := fld_lt (t.sys 10) 31 16
  unfold Tile.lateStamp
  simp only [Tile.sys_setSys, if_pos, hlate]
  refine ⟨?_, ?_, fun i hi => if_neg hi⟩
  · split
    · rw [fld_setFld_other _ _ (by decide) (by decide) (by decide), hcount]
    · exact hcount
  · split
    · rw [fld_setFld_same _ _ (by decide) (by decide)]
      omega
    · rw [hlate]
      omega

/-- AT at or after its stamp: a late stamp, and the thread goes on (R47). -/
theorem stampAt_late (h : s.clear u f 8 0x00 = true) (hbudget : f.imm.toNat < ((s.tile u.tile.key).sys 3).toNat) (hlate : f.imm.toNat ≤ s.cycleOf u) :
    ∃ t, exec (.stampAt u f) s = .next t ∧ sameBesideTiles s t ∧ onlyThread s t u [10] ∧ sameRegisters (s.at_ u) (t.at_ u) ∧ (t.at_ u).state = .running ∧
      fld ((t.tile u.tile.key).sys 10) 15 0 = min (fld ((s.tile u.tile.key).sys 10) 15 0 + 1) 0xFFFF ∧
      fld ((t.tile u.tile.key).sys 10) 31 16 = max (fld ((s.tile u.tile.key).sys 10) 31 16) (min (s.cycleOf u - f.imm.toNat) 0xFFFF) := by
  obtain ⟨hlegal, hend⟩ := State.clear_legal h
  have hbooked := s.booked_books u (opPort 8 0x00 f)
  obtain ⟨hcount, hmost, hothers⟩ := (s.booked u (opPort 8 0x00 f)).sys_lateStamp (s.cycleOf u - f.imm.toNat)
  let b := (s.booked u (opPort 8 0x00 f)).lateStamp (s.cycleOf u - f.imm.toNat)
  let t := s.setTile u.tile.key (b.setThread u.thread ((s.at_ u).atIssue.advance (s.cycleOf u) none))
  obtain ⟨honly, hat⟩ := onlyThread_setThread (s := s) (t := t) (u := u) (b := b) (sys := [10]) rfl hbooked.rest hbooked.threads fun i h11 h12 h10 =>
    (hothers i (by simpa using h10)).trans (hbooked.sys i h11 h12)
  have hsys : (t.tile u.tile.key).sys 10 = b.sys 10 := by rw [State.tile_setTile, if_pos rfl, Tile.sys_setThread]
  refine ⟨t, ?_, rfl, honly, ?_, ?_, ?_, ?_⟩
  · refine congrArg Host.Outcome.next ((issue_of_body hlegal ((if_neg ?_).trans (if_neg (Nat.not_lt.2 hlate)))).trans (outcome_done hend))
    change ¬(f.imm.toNat ≥ ((s.booked u (opPort 8 0x00 f)).sys 3).toNat)
    rw [hbooked.sys 3 (by decide) (by decide)]
    omega
  · rw [hat]; exact ⟨rfl, rfl, rfl⟩
  · rw [hat]; exact (State.fetched_running (State.legal_fetched hlegal)).2
  · rw [hsys, hcount, hbooked.sys 10 (by decide) (by decide)]
  · rw [hsys, hmost, hbooked.sys 10 (by decide) (by decide)]

theorem onlyThread.mono {t : State} {sys sys' : List Nat} (h : onlyThread s t u sys) (hsub : ∀ i ∈ sys, i ∈ sys') : onlyThread s t u sys' := by
  obtain ⟨htiles, hthreads, hsys, hrest⟩ := h
  exact ⟨htiles, hthreads, fun i h11 h12 hi => hsys i h11 h12 fun hmem => hi (hsub i hmem), hrest⟩

/-- AT within the budget, before its stamp or late. -/
theorem stampAt_next (h : s.clear u f 8 0x00 = true) (hbudget : f.imm.toNat < ((s.tile u.tile.key).sys 3).toNat) :
    ∃ t, exec (.stampAt u f) s = .next t ∧ sameBesideTiles s t ∧ onlyThread s t u [10] ∧ sameRegisters (s.at_ u) (t.at_ u) ∧
      (s.cycleOf u < f.imm.toNat → f.imm.toNat ≤ (t.at_ u).next ∧ (t.tile u.tile.key).sys 10 = (s.tile u.tile.key).sys 10 ∧
        (s.cycleOf u + 1 < f.imm.toNat → (t.at_ u).state = .stamp ∧ (t.at_ u).wait = .stamp f.imm.toNat)) ∧
      (f.imm.toNat ≤ s.cycleOf u → (t.at_ u).state = .running ∧
        fld ((t.tile u.tile.key).sys 10) 15 0 = min (fld ((s.tile u.tile.key).sys 10) 15 0 + 1) 0xFFFF ∧
        fld ((t.tile u.tile.key).sys 10) 31 16 = max (fld ((s.tile u.tile.key).sys 10) 31 16) (min (s.cycleOf u - f.imm.toNat) 0xFFFF)) := by
  rcases Nat.lt_or_ge (s.cycleOf u) f.imm.toNat with hearly | hlate
  · obtain ⟨t, hexec, hbeside, honly, hregs, hwaits⟩ := stampAt_waits h hbudget hearly
    exact ⟨t, hexec, hbeside, honly.mono (fun i hi => absurd hi List.not_mem_nil), hregs, fun _ => hwaits, fun hle => absurd hearly (Nat.not_lt.2 hle)⟩
  · obtain ⟨t, hexec, hbeside, honly, hregs, hcounts⟩ := stampAt_late h hbudget hlate
    exact ⟨t, hexec, hbeside, honly, hregs, fun hlt => absurd hlt (Nat.not_lt.2 hlate), fun _ => hcounts⟩

/-- AT at or beyond the cycle budget (R47). -/
theorem stampAt_faults (h : s.legal u f 8 0x00 = true) (hbudget : ((s.tile u.tile.key).sys 3).toNat ≤ f.imm.toNat) :
    ∃ t, exec (.stampAt u f) s = .next t ∧ faultDone s t u 0x06 0 := by
  refine ⟨_, rfl, faultDone_of_body h (if_pos ?_)⟩
  change f.imm.toNat ≥ ((s.booked u (opPort 8 0x00 f)).sys 3).toNat
  rw [(s.booked_books u _).sys 3 (by decide) (by decide)]
  exact hbudget

/-- The stamp reached: the bound thread runs again (R94). -/
theorem stampReached_runs (hthread : u.thread = 0) (hstate : (s.at_ u).state = .stamp) (hpc : (s.at_ u).pc ≤ 4095) :
    ∃ t, exec (.stampReached u.tile) s = .next t ∧ (t.at_ u).state = .running ∧ (t.at_ u).wait = .none ∧ sameRegisters (s.at_ u) (t.at_ u) ∧
      sameBesideTiles s t ∧ ∀ j, j ≠ u.tile.key → t.tile j = s.tile j := by
  have hat : s.at_ u = (s.tile u.tile.key).thread 0 := by rw [State.at_, hthread]; rfl
  rw [hat] at hstate hpc
  let y : Thread := { (s.tile u.tile.key).thread 0 with state := .running, wait := .none }
  let t := s.setTile u.tile.key ((s.tile u.tile.key).setThread 0 y)
  have hy : t.at_ u = y := by
    rw [State.at_, hthread, State.tile_setTile, if_pos rfl]
    exact (Tile.thread_setThread ..).trans (if_pos rfl)
  refine ⟨t, ?_, by rw [hy], by rw [hy], by rw [hy, hat]; exact ⟨rfl, rfl, rfl⟩, rfl, fun j hj => by rw [State.tile_setTile, if_neg hj]⟩
  exact (if_pos hstate).trans (congrArg Host.Outcome.next (State.finish_eq fun _ => hpc))

/-! ### SYNC -/

/-- A word without bits outside a mask. -/
theorem and_mask_of_rest_zero {w m : Word} (h : w &&& ~~~m = 0) : w &&& m = w := by
  refine BitVec.eq_of_getLsbD_eq fun i hi => ?_
  have hbit := congrArg (fun x => x.getLsbD i) h
  simp only [BitVec.getLsbD_and, BitVec.getLsbD_not, hi, decide_true, Bool.true_and] at hbit
  rw [BitVec.getLsbD_and]
  cases hw : w.getLsbD i with
  | false => rfl
  | true => simpa [hw] using hbit

/-- SYNC: the tile's token stands at its router, and the thread waits for the release (R95, R145). -/
theorem sync_leavesToken (h : s.clear u f 8 0x01 = true) :
    ∃ t, exec (.sync u f) s = .next t ∧ sameBesideTiles { s with routers := t.routers } t ∧ onlyThread s t u [] ∧ sameRegisters (s.at_ u) (t.at_ u) ∧
      (t.at_ u).state = .data ∧ (t.router u.tile.key).tokens.get 0 f.imm.toNat = (s.router u.tile.key).tokens.get 0 f.imm.toNat ||| 1 ∧
      (∀ g, g ≠ f.imm.toNat → (t.router u.tile.key).tokens.get 0 g = (s.router u.tile.key).tokens.get 0 g) ∧
      ∀ j, j ≠ u.tile.key → t.router j = s.router j := by
  obtain ⟨hlegal, -⟩ := State.clear_legal h
  have hgroup : f.imm.toNat % 16 = f.imm.toNat := by
    simp only [State.legal, Bool.and_eq_true] at hlegal
    obtain ⟨-, hspec⟩ := hlegal
    simp only [opSpec, specTick, OpSpec.illegal, Bool.and_eq_true, Bool.not_eq_true', Bool.not_not, beq_iff_eq] at hspec
    have himm := congrArg BitVec.toNat (and_mask_of_rest_zero hspec.1.2)
    rwa [BitVec.toNat_and, show (0xF : Word).toNat = 2 ^ 4 - 1 from rfl, Nat.and_two_pow_sub_one_eq_mod] at himm
  let r := s.router u.tile.key
  let r' : Router := { r with tokens := r.tokens.set 0 (Fields.counter f) (r.tokens.get 0 (Fields.counter f) ||| 1) }
  let y : Thread := { (s.at_ u).atIssue with state := .data, wait := .sync (Fields.counter f), waitFrom := some (s.cycleOf u + 1) }
  have hcounter : (Fields.counter f).val = f.imm.toNat := hgroup
  have htokens : ∀ g, r'.tokens.get 0 g = if g = f.imm.toNat then r.tokens.get 0 f.imm.toNat ||| 1 else r.tokens.get 0 g := fun g => by
    rw [← hcounter]; exact SMap.get_set ..
  obtain ⟨honly, hat⟩ := State.placed_only (s := s) (u := u) (s' := s.setRouter u.tile.key r') rfl (opPort 8 0x01 f) (y.advance (s.cycleOf u) none)
  let t := s.placed (s.setRouter u.tile.key r') u (opPort 8 0x01 f) (y.advance (s.cycleOf u) none)
  have hrouter : ∀ j, t.router j = if j = u.tile.key then r' else s.router j := fun j => State.router_setRouter ..
  refine ⟨t, congrArg Host.Outcome.next ((issue_of_body hlegal rfl).trans (outcome_stops (y := y) (st := .data) rfl (by decide) none)), rfl, honly, ?_, ?_, ?_,
    fun g hg => ?_, fun j hj => ?_⟩
  · rw [hat]; exact ⟨rfl, rfl, rfl⟩
  · rw [hat]; rfl
  · rw [hrouter, if_pos rfl, htokens, if_pos rfl]
  · rw [hrouter, if_pos rfl, htokens, if_neg hg]
  · rw [hrouter, if_neg hj]

/-! ### TICKEND -/

/-- TICKEND on a loose thread: the thread stops (R96). -/
theorem tickend_loose (hthread : u.thread ≠ 0) (h : s.legal u f 8 0x02 = true) :
    ∃ t, exec (.tickend u f) s = .next t ∧ sameBesideTiles s t ∧ onlyThread s t u [] ∧ sameRegisters (s.at_ u) (t.at_ u) ∧ (t.at_ u).state = .ended := by
  let y : Thread := { (s.at_ u).atIssue with state := .ended }
  obtain ⟨honly, hat⟩ := State.placed_only (s := s) (u := u) (s' := s) rfl (opPort 8 0x02 f) (y.advance (s.cycleOf u) none)
  have hn : (s.ctxOf u f 8 0x02).n ≠ 0 := fun h0 => hthread (Fin.ext h0)
  refine ⟨s.placed s u (opPort 8 0x02 f) (y.advance (s.cycleOf u) none),
    congrArg Host.Outcome.next ((issue_of_body h (if_pos hn)).trans (outcome_stops (y := y) (st := .ended) rfl (by decide) none)), rfl, honly, ?_, ?_⟩
  · rw [hat]; exact ⟨rfl, rfl, rfl⟩
  · rw [hat]; rfl

/-- What a word waits for beyond registers and core port is part of its interlock (R44). -/
theorem opExtra_le_interlock {w : DWord} {sp : OpSpec} (h : opSpec (wordClass w) (wordFunction w) (fieldsOf w) = some sp) (t : Tile) (x : Thread) (n : Nat) :
    opExtra (wordClass w) (wordFunction w) t x n (fieldsOf w) ≤ interlock w t x n := by
  simp only [interlock, h]
  exact le_max_of_le_right (le_max_of_le_right (le_max_right _ _))

theorem interlock_le_issueCycle (t : Tile) (n c : Nat) : interlock (t.word (t.thread n).pc) t (t.thread n) n ≤ t.issueCycle n c :=
  le_max_of_le_right (le_max_right _ _)

/-- A bound thread's TICKEND issues when its stores have written (R48). -/
theorem stored_le_cycleOf (hthread : u.thread = 0) (h : s.legal u f 8 0x02 = true) : (s.tile u.tile.key).stored ≤ s.cycleOf u := by
  obtain ⟨-, -, hword, -⟩ := fetched_parts (State.legal_fetched h)
  obtain ⟨hcls, hfn, hf⟩ := wordIs_parts hword
  have hextra : opExtra 8 0x02 (s.tile u.tile.key) (s.at_ u) u.thread f = (s.tile u.tile.key).stored := by
    unfold opExtra
    rw [if_neg (by decide), if_pos ⟨rfl, rfl, congrArg Fin.val hthread, State.legal_holds h⟩]
  have hle := opExtra_le_interlock (w := (s.tile u.tile.key).word (s.at_ u).pc) (sp := ⟨8, .unused, .unused, .unused, false, false, false, 0, [], 0⟩)
    (by rw [hcls, hfn, hf]; rfl) (s.tile u.tile.key) (s.at_ u) u.thread
  rw [hcls, hfn, hf, hextra] at hle
  exact Nat.le_trans hle (interlock_le_issueCycle ..)

/-- TICKEND of a bound thread whose sends have left: its core is done (R48, R96, R220). -/
theorem tickend_done (hthread : u.thread = 0) (h : s.legal u f 8 0x02 = true) (hsent : (s.tile u.tile.key).sendB = []) :
    ∃ t, exec (.tickend u f) s = .next t ∧ (t.tile u.tile.key).done = true ∧ (t.at_ u).state = .ended ∧ sameRegisters (s.at_ u) (t.at_ u) ∧
      (t.tile u.tile.key).sram = (s.tile u.tile.key).sram ∧ (∀ j, j ≠ u.tile.key → t.tile j = s.tile j) ∧ t.regs = s.regs ∧
      4 * s.cycleOf u ≤ t.tick.lastDone ∧ (s.tile u.tile.key).stored ≤ s.cycleOf u := by
  have hbooked := s.booked_books u (opPort 8 0x02 f)
  obtain ⟨hsram, -, hsendB, -⟩ := hbooked.fields
  let y : Thread := { (s.at_ u).atIssue with state := .ended }
  let b : Tile := { s.booked u (opPort 8 0x02 f) with done := true }
  let t := (s.reportDone u.tile.key (s.cycleOf u)).setTile u.tile.key (b.setThread u.thread (y.advance (s.cycleOf u) none))
  have htile : ∀ j, t.tile j = if j = u.tile.key then b.setThread u.thread (y.advance (s.cycleOf u) none) else s.tile j := fun j => State.tile_setTile ..
  have hat : t.at_ u = y.advance (s.cycleOf u) none := by rw [State.at_, htile, if_pos rfl, Tile.thread_setThread, if_pos rfl]
  have hn : ¬((s.ctxOf u f 8 0x02).n ≠ 0) := fun hne => hne (congrArg Fin.val hthread)
  have hempty : (s.ctxOf u f 8 0x02).t.sendB.isEmpty = true := by
    change (s.booked u (opPort 8 0x02 f)).sendB.isEmpty = true
    rw [hsendB, hsent]
    rfl
  refine ⟨t, congrArg Host.Outcome.next ((issue_of_body h ((if_neg hn).trans (if_pos hempty))).trans (outcome_stops (y := y) (st := .ended) rfl (by decide) none)),
    by rw [htile, if_pos rfl]; rfl, by rw [hat]; rfl, by rw [hat]; exact ⟨rfl, rfl, rfl⟩, by rw [htile, if_pos rfl]; exact hsram,
    fun j hj => by rw [htile, if_neg hj], rfl, ?_, stored_le_cycleOf hthread h⟩
  exact Nat.le_trans (Nat.le_add_right _ _) (Nat.le_max_right _ _)

/-- TICKEND of a bound thread with sends still queued: it is held (R48). -/
theorem tickend_held (hthread : u.thread = 0) (h : s.legal u f 8 0x02 = true) (hqueued : (s.tile u.tile.key).sendB ≠ []) :
    ∃ t, exec (.tickend u f) s = .next t ∧ (t.tile u.tile.key).done = (s.tile u.tile.key).done ∧ (t.at_ u).state = .data ∧ (t.at_ u).wait = .tickend ∧
      (t.at_ u).pc = (s.at_ u).pc ∧ sameBesideTiles s t := by
  obtain ⟨-, -, hsendB, -⟩ := (s.booked_books u (opPort 8 0x02 f)).fields
  obtain ⟨-, -, -, -, -, hdone, -⟩ := ((s.tile u.tile.key).fetchCount_books (s.at_ u).pc).fields
  have hn : ¬((s.ctxOf u f 8 0x02).n ≠ 0) := fun hne => hne (congrArg Fin.val hthread)
  have hfull : ¬(s.ctxOf u f 8 0x02).t.sendB.isEmpty = true := by
    change ¬(s.booked u (opPort 8 0x02 f)).sendB.isEmpty = true
    rw [hsendB]
    simpa using hqueued
  refine ⟨_, congrArg Host.Outcome.next (issue_of_body h ((if_neg hn).trans (if_neg hfull))), ?_, ?_⟩
  · rw [State.outcome, State.tile_setTile, if_pos rfl]
    exact hdone
  · rw [State.outcome, State.at_, State.tile_setTile, if_pos rfl, Tile.thread_setThread, if_pos rfl]
    exact ⟨rfl, rfl, rfl, rfl⟩

end

/-- Settles O19: AT early, late and beyond the budget, SYNC, TICKEND of either kind of thread, and the end of a stamp wait. -/
theorem tickClass : Obligations.TickClass := fun _ _ _ =>
  ⟨stampAt_next, stampAt_faults, sync_leavesToken, tickend_loose, fun hthread h => ⟨tickend_done hthread h, tickend_held hthread h⟩,
    fun hthread hstate hpc => stampReached_runs hthread hstate hpc⟩

end Sys2Proof.Machine

namespace Sys2Proof.Machine

/-! ## Fabric remote operations (R36, R90 to R92, R272) -/

section
variable {s : State} {u : Issue} {f : Fields}

theorem TileId.keyRow_key (k : TileId) : keyRow k.key = k.row.val := by
  have := k.row.isLt
  have := k.pcol.isLt
  unfold keyRow TileId.key
  omega

theorem State.sendRequest_apart (s : State) (die : Nat) (d : RemoteDesc) : Apart s (s.sendRequest die d) := s.queueUnit_apart ..

/-- The thread that parks on a remote operation (R36). -/
def Thread.park (x : Thread) (r : RemoteOut) : Thread := { x with state := .parked, wait := .remote, remote := some r }

/-- The request that leaves for a granted operation on module `c` (R273). -/
def Ctx.request (q : Ctx) (op c : Nat) (value compare : DWord) (data : VReg) : RemoteDesc :=
  { op := BitVec.ofNat 4 op, target := BitVec.ofNat 12 c, mpa := BitVec.ofNat 48 (q.x.rs q.f.srca.toNat).toNat, from_ := BitVec.ofNat 12 q.s.coord,
    die := ⟨keyDie q.k % 16, Nat.mod_lt _ (by decide)⟩, row := ⟨keyRow q.k % 64, Nat.mod_lt _ (by decide)⟩,
    col := BitVec.ofNat 6 (q.s.logCol q.k), thread := ⟨q.n % 4, Nat.mod_lt _ (by decide)⟩, tick := BitVec.ofNat 8 q.s.seq, status := 0,
    value := value, compare := compare, data := data }

/-- The operation as its thread keeps it. -/
def Ctx.outstanding (q : Ctx) (op c : Nat) (vector : Bool) : RemoteOut :=
  { op := op, dest := q.f.dest.toNat, vector := vector, tick := q.s.seq % 256, target := c, timedOut := false }

/-- A request names its issuer. -/
theorem Ctx.request_issuer (s : State) (u : Issue) (f : Fields) (cls fn op c : Nat) (value compare : DWord) (data : VReg) :
    let d := (s.ctxOf u f cls fn).request op c value compare data
    d.die = u.tile.die ∧ d.row = u.tile.row ∧ d.thread = u.thread := by
  refine ⟨Fin.ext ?_, Fin.ext ?_, Fin.ext (Nat.mod_eq_of_lt u.thread.isLt)⟩
  · change keyDie u.tile.key % 16 = _
    rw [TileId.keyDie_key, Nat.mod_eq_of_lt u.tile.die.isLt]
  · change keyRow u.tile.key % 64 = _
    rw [TileId.keyRow_key, Nat.mod_eq_of_lt u.tile.row.isLt]

section
variable {q : Ctx} {op c : Nat} (vector : Bool) (value compare : DWord) (data : VReg)

theorem Ctx.remote_granted (hcoord : q.s.remoteCoord (flag q.f.imm 31) (q.x.rs q.f.srca.toNat).toNat = some c)
    (hgrant : q.s.granted c ((q.x.rs q.f.srca.toNat).toNat % 2 ^ 48) op = true) (hsize : (q.x.rs q.f.srca.toNat).toNat % opBytes op = 0) :
    q.remote op vector value compare data =
      .done (q.s.sendRequest (keyDie q.k) (q.request op c value compare data)) q.t (q.x.park (q.outstanding op c vector)) none := by
  simp only [Ctx.remote, hcoord, hgrant, hsize, Bool.not_true, Bool.false_eq_true, ne_eq, not_true_eq_false, if_false] <;> rfl

theorem Ctx.remote_window (hrefused : q.s.remoteCoord (flag q.f.imm 31) (q.x.rs q.f.srca.toNat).toNat = none ∨
      ∃ c, q.s.remoteCoord (flag q.f.imm 31) (q.x.rs q.f.srca.toNat).toNat = some c ∧
        q.s.granted c ((q.x.rs q.f.srca.toNat).toNat % 2 ^ 48) op = false) :
    q.remote op vector value compare data = .fault 0x08 0 := by
  rcases hrefused with hnone | ⟨c, hcoord, hgrant⟩
  · simp only [Ctx.remote, hnone]
  · simp only [Ctx.remote, hcoord, hgrant, Bool.not_false, if_true]

theorem Ctx.remote_misalign (hcoord : q.s.remoteCoord (flag q.f.imm 31) (q.x.rs q.f.srca.toNat).toNat = some c)
    (hgrant : q.s.granted c ((q.x.rs q.f.srca.toNat).toNat % 2 ^ 48) op = true) (hsize : (q.x.rs q.f.srca.toNat).toNat % opBytes op ≠ 0) :
    q.remote op vector value compare data = .fault 0x03 0 := by
  simp only [Ctx.remote, hcoord, hgrant, Bool.not_true, Bool.false_eq_true, if_false, if_pos hsize]

end

section
variable {op c : Nat} (vector : Bool) {value compare : Ctx → DWord} {data : Ctx → VReg}

/-- A granted operation: its request leaves, and its thread parks. -/
theorem remote_parks (h : s.clear u f 7 op = true)
    (hcoord : s.remoteCoord (flag f.imm 31) ((s.at_ u).rs f.srca.toNat).toNat = some c)
    (hgrant : s.granted c (((s.at_ u).rs f.srca.toNat).toNat % 2 ^ 48) op = true) (hsize : ((s.at_ u).rs f.srca.toNat).toNat % opBytes op = 0) :
    let q := s.ctxOf u f 7 op
    let t := s.issue u f 7 op (fun q => q.remote op vector (value q) (compare q) (data q))
    sameBesideTiles (s.sendRequest u.tile.die (q.request op c (value q) (compare q) (data q))) t ∧ sameRegisters (s.at_ u) (t.at_ u) ∧ onlyThread s t u [] ∧
      (t.at_ u).pc = (loopEnd (s.at_ u).loops (s.at_ u).pc).2 ∧ (t.at_ u).state = .parked ∧ (t.at_ u).wait = .remote ∧
      (t.at_ u).remote = some (q.outstanding op c vector) := by
  intro q t
  have hbody := Ctx.remote_granted (q := q) vector (value q) (compare q) (data q) hcoord hgrant hsize
  let y := (s.at_ u).atIssue.park (q.outstanding op c vector)
  let s' := s.sendRequest (keyDie u.tile.key) (q.request op c (value q) (compare q) (data q))
  have ht : t = s.placed s' u (opPort 7 op f) (y.advance (s.cycleOf u) none) :=
    (issue_of_body (State.clear_legal h).1 hbody).trans (outcome_stops (y := y) (st := .parked) rfl (by decide) none)
  obtain ⟨honly, hat⟩ := State.placed_only (s' := s') (u := u) (s.sendRequest_apart ..).tiles (opPort 7 op f) (y.advance (s.cycleOf u) none)
  rw [ht]
  refine ⟨by rw [← TileId.keyDie_key]; rfl, ?_, honly, ?_⟩
  · rw [hat]; exact ⟨rfl, rfl, rfl⟩
  · rw [hat]; exact ⟨rfl, rfl, rfl, rfl⟩

/-- Ports and the fabric stay as they are where the body of an instruction faults. -/
theorem issue_fault_sendsNothing {cls fn code addr : Nat} {body : Ctx → Effect} (h : s.legal u f cls fn = true)
    (hbody : body (s.ctxOf u f cls fn) = .fault code addr) :
    (s.issue u f cls fn body).fabric = s.fabric ∧ (s.issue u f cls fn body).ports = s.ports := by
  rw [issue_of_body h hbody]
  exact ⟨State.raise_fabric .., State.raise_ports ..⟩

/-- What O17 says of a granted operation, for the instruction of function `op` whose request carries `value`, `compare` and `data`. -/
theorem remote_grantedDone (hop : op < 16) (h : s.clear u f 7 op = true)
    (hcoord : s.remoteCoord (flag f.imm 31) ((s.at_ u).rs f.srca.toNat).toNat = some c)
    (hgrant : s.granted c (((s.at_ u).rs f.srca.toNat).toNat % 2 ^ 48) op = true) (hsize : ((s.at_ u).rs f.srca.toNat).toNat % opBytes op = 0)
    (hvalue : op = 4 ∨ 8 ≤ op → ∀ q, value q = q.x.rs q.f.srcb.toNat) (hdata : op = 5 → ∀ q, data q = q.x.rv q.f.srcb.toNat)
    (hcompare : op = 11 → ∀ q, compare q = q.x.rs q.f.dest.toNat) :
    let a := ((s.at_ u).rs f.srca.toNat).toNat
    ∃ t : State, ∃ d : RemoteDesc,
      (.next (s.issue u f 7 op (fun q => q.remote op vector (value q) (compare q) (data q))) : Answer) = .next t ∧
      sameBesideTiles (s.sendRequest u.tile.die d) t ∧ sameRegisters (s.at_ u) (t.at_ u) ∧ onlyThread s t u [] ∧
        d.op.toNat = op ∧ d.target.toNat = c % 4096 ∧ d.mpa.toNat = a % 2 ^ 48 ∧ d.from_.toNat = s.coord % 4096 ∧ d.die = u.tile.die ∧ d.row = u.tile.row ∧
        d.col = BitVec.ofNat 6 (s.logCol u.tile.key) ∧ d.thread = u.thread ∧ d.tick.toNat = s.seq % 256 ∧ d.status = 0 ∧
        (op = 4 ∨ 8 ≤ op → d.value = (s.at_ u).rs f.srcb.toNat) ∧ (op = 5 → d.data = (s.at_ u).rv f.srcb.toNat) ∧
        (op = 11 → d.compare = (s.at_ u).rs f.dest.toNat) ∧
        (t.at_ u).pc = (loopEnd (s.at_ u).loops (s.at_ u).pc).2 ∧ (t.at_ u).state = .parked ∧ (t.at_ u).wait = .remote ∧
        (t.at_ u).remote = some { op := op, dest := f.dest.toNat, vector := vector, tick := s.seq % 256, target := c, timedOut := false } := by
  intro a
  obtain ⟨hbeside, hregs, honly, hends⟩ := remote_parks (value := value) (compare := compare) (data := data) vector h hcoord hgrant hsize
  let q := s.ctxOf u f 7 op
  obtain ⟨hdie, hrow, hthread⟩ := Ctx.request_issuer s u f 7 op op c (value q) (compare q) (data q)
  exact ⟨_, q.request op c (value q) (compare q) (data q), rfl, hbeside, hregs, honly,
    (BitVec.toNat_ofNat ..).trans (Nat.mod_eq_of_lt hop), BitVec.toNat_ofNat .., BitVec.toNat_ofNat .., BitVec.toNat_ofNat .., hdie, hrow, rfl, hthread,
    BitVec.toNat_ofNat .., rfl, fun ho => hvalue ho q, fun ho => hdata ho q, fun ho => hcompare ho q, hends⟩

/-- What O17 says of a refused operation. -/
theorem remote_faults (h : s.legal u f 7 op = true) :
    let a := ((s.at_ u).rs f.srca.toNat).toNat
    let faults := fun code => ∃ t : State,
      (.next (s.issue u f 7 op (fun q => q.remote op vector (value q) (compare q) (data q))) : Answer) = .next t ∧
      faultDone s t u code 0 ∧ t.fabric = s.fabric ∧ t.ports = s.ports
    ((s.remoteCoord (flag f.imm 31) a = none ∨ ∃ c, s.remoteCoord (flag f.imm 31) a = some c ∧ s.granted c (a % 2 ^ 48) op = false) → faults 0x08) ∧
      (∀ c, s.remoteCoord (flag f.imm 31) a = some c → s.granted c (a % 2 ^ 48) op = true → a % opBytes op ≠ 0 → faults 0x03) :=
  ⟨fun hrefused => have hbody := Ctx.remote_window (q := s.ctxOf u f 7 op) vector _ _ _ hrefused
      ⟨_, rfl, faultDone_of_body h hbody, issue_fault_sendsNothing h hbody⟩,
    fun _ hcoord hgrant hsize => have hbody := Ctx.remote_misalign (q := s.ctxOf u f 7 op) vector _ _ _ hcoord hgrant hsize
      ⟨_, rfl, faultDone_of_body h hbody, issue_fault_sendsNothing h hbody⟩⟩

end

end

/-- Settles O17: each of the eight instructions is one case of `remote_grantedDone` and of `remote_faults`. -/
theorem remoteOperations : Obligations.RemoteOperations := by
  constructor
  · intro r hr u f s c h a hcoord hgrant hsize
    simp only [List.mem_cons, List.not_mem_nil, or_false] at hr
    rcases hr with rfl | rfl | rfl | rfl | rfl | rfl | rfl | rfl <;>
      exact remote_grantedDone _ (by decide) h hcoord hgrant hsize (by simp) (by simp) (by simp)
  · intro r hr u f s h
    simp only [List.mem_cons, List.not_mem_nil, or_false] at hr
    rcases hr with rfl | rfl | rfl | rfl | rfl | rfl | rfl | rfl <;> exact remote_faults _ h

end Sys2Proof.Machine

namespace Sys2Proof.Machine

/-! ## What most of the module's work leaves alone -/

/-- The registers that the guard start judges a tick's margin by, and the tick's number. -/
def marginRegs : List Nat := [Reg.TCK_SEQ_LO, Reg.TCK_SEQ_HI, Reg.TCK_GUARD_OFF, Reg.TCK_MARGIN]

theorem not_marginReg {a : Nat} (h : a < 0x50018 ∨ 0x5004c ≤ a) : a ∉ marginRegs := fun hmem => by
  simp only [marginRegs, Reg.TCK_SEQ_LO, Reg.TCK_SEQ_HI, Reg.TCK_GUARD_OFF, Reg.TCK_MARGIN, List.mem_cons, List.not_mem_nil, or_false] at hmem
  omega

/-- The parts of the state that a frame looks at besides registers and memory stacks. -/
def State.framed (s : State) : SMap Tile × SMap MemStack × List Host.Cell × SMap Word × Bool × Nat × SMap Nat :=
  (s.tiles, s.stackMem, s.boot.flash, s.regs, s.tick.guard, s.tick.lastDone, s.thermal.acted)

/-- A property that no work of the units breaks: that of errors, ports, rings, lanes and reports. It may look at the tiles, at whether every memory stack is
in canonical form, and at the tick and the registers as a guard start judges them. -/
structure Frame (P : State → Prop) : Prop where
  reg {s : State} {a : Nat} {w : Word} : a ∉ marginRegs → P s → P (s.setReg a w)
  stack {s : State} {m : Nat} {x : MemStack} : (Memory.wf 0 (s.stack m).dram = true → Memory.wf 0 x.dram = true) → P s → P (s.setStack m x)
  rest {s t : State} : P s → t.framed = s.framed → (s.tick.overrun = true → t.tick.overrun = true) → P t

/-- A stack without the bytes of a range. -/
theorem MemStack.wf_keep {x : MemStack} (p : Nat → Bool) (h : Memory.wf 0 x.dram = true) :
    Memory.wf 0 { x with dram := SMap.keep (α := Byte) p x.dram }.dram = true := Machine.wf_keep p h

theorem memError_off (m : Nat) : Reg.MEM_ERR_STATUS m ∉ marginRegs ∧ Reg.MEM_ERR_INFO m ∉ marginRegs ∧ Reg.MEM_ERR_ADDR m ∉ marginRegs ∧
    Reg.MEM_ECC_COUNT m ∉ marginRegs := by
  refine ⟨not_marginReg ?_, not_marginReg ?_, not_marginReg ?_, not_marginReg ?_⟩
  · unfold Reg.MEM_ERR_STATUS; omega
  · unfold Reg.MEM_ERR_INFO; omega
  · unfold Reg.MEM_ERR_ADDR; omega
  · unfold Reg.MEM_ECC_COUNT; omega

section
variable {P : State → Prop} {s t : State}

theorem Frame.ite (_ : Frame P) {c : Prop} [Decidable c] (h : P s) (h' : P t) : P (if c then s else t) := iteInduction (fun _ => h) fun _ => h'

theorem Frame.foldl (_ : Frame P) {α : Type} {f : State → α → State} {l : List α} (hf : ∀ s, ∀ a ∈ l, P s → P (f s a)) (h : P s) : P (l.foldl f s) := by
  induction l generalizing s with
  | nil => exact h
  | cons a l ih => exact ih (fun s b hb => hf s b (List.mem_cons_of_mem _ hb)) (hf s a List.mem_cons_self h)

theorem Frame.pair (_ : Frame P) {α : Type} {a : α} (h : P s) : P ((a, s) : α × State).2 := h

/-- An operation that ends early with an answer and a state. -/
theorem Frame.pair_ite (_ : Frame P) {α : Type} {c : Prop} [Decidable c] {a : α} {y : α × State} (h : P s) (h' : P y.2) :
    P (if c then (a, s) else y).2 := iteInduction (motive := fun x : α × State => P x.2) (fun _ => h) fun _ => h'

variable (hP : Frame P)
include hP

theorem Frame.recovery {r : RecoveryState} (h : P s) : P { s with recovery := r } := hP.rest h rfl id

theorem Frame.late (h : P s) : P { s with tick := { s.tick with late := true } } := hP.rest h rfl id

theorem Frame.setRegFld {a hi lo v} (ha : a ∉ marginRegs) (h : P s) : P (s.setRegFld a hi lo v) := hP.reg ha h

theorem Frame.orReg {a m} (ha : a ∉ marginRegs) (h : P s) : P (s.orReg a m) := hP.reg ha h

theorem Frame.clearReg {a m} (ha : a ∉ marginRegs) (h : P s) : P (s.clearReg a m) := hP.reg ha h

theorem Frame.bumpReg {a hi lo k} (ha : a ∉ marginRegs) (h : P s) : P (s.bumpReg a hi lo k) := hP.reg ha h

theorem Frame.setReg64 {lo hi v} (hlo : lo ∉ marginRegs) (hhi : hi ∉ marginRegs) (h : P s) : P (s.setReg64 lo hi v) := hP.reg hhi (hP.reg hlo h)

theorem Frame.recordFirst {status info code infoWord} (hs : status ∉ marginRegs) (hi : info ∉ marginRegs) (h : P s) :
    P (s.recordFirst status info code infoWord) := hP.ite (hP.reg hs h) (hP.reg hi (hP.reg hs h))

theorem Frame.send {m} (h : P s) : P (s.send m) := hP.rest h rfl id

theorem Frame.sendFrame {type dst src value} (h : P s) : P (s.sendFrame type dst src value) := hP.rest h rfl id

theorem Frame.reportError {p code info} (h : P s) : P (s.reportError p code info) := hP.rest h rfl id

theorem Frame.event {bit code payload} (h : P s) : P (s.event bit code payload) := hP.rest h rfl id

theorem Frame.faultEvent {src inst code charged} (h : P s) : P (s.faultEvent src inst code charged) := hP.event h

theorem Frame.charge (h : P s) : P s.charge := hP.ite (hP.ite (hP.rest h rfl id) (hP.rest h rfl id)) h

theorem Frame.hearthError {p group lane pos code} (h : P s) : P (s.hearthError p group lane pos code) := by
  unfold State.hearthError
  extract_lets _ _ s1 s2 s3
  have h1 : P s1 := hP.reportError (hP.faultEvent (hP.recordFirst (by decide) (by decide) h))
  have h2 : P s2 := hP.ite (hP.bumpReg (by decide) h1) h1
  have h3 : P s3 := hP.ite (hP.bumpReg (by decide) h2) h2
  exact hP.ite (hP.reportError (hP.rest h rfl id)) (hP.ite (hP.charge h3) h3)

theorem Frame.checkGroups {x} (h : P s) : P (s.checkGroups x) := by
  induction x generalizing s with
  | nil => exact h
  | cons x xs ih => exact ih (hP.ite (hP.hearthError (hP.rest h rfl fun _ => rfl)) h)

theorem Frame.setPort {p x} (h : P s) : P (s.setPort p x) := hP.rest h rfl id

theorem Frame.markLate {p r} (h : P s) : P (s.markLate p r) := hP.setPort (hP.rest h rfl id)

theorem Frame.emberError {p entry det contributor code} (h : P s) : P (s.emberError p entry det contributor code) := by
  unfold State.emberError
  extract_lets _ s1 s2
  have h1 : P s1 := hP.reportError (hP.faultEvent (hP.recordFirst (by decide) (by decide) h))
  have h2 : P s2 := hP.ite (hP.bumpReg (by decide) h1) (hP.bumpReg (by decide) h1)
  exact hP.ite (hP.charge h2) h2

theorem Frame.markGroup {p r m} (h : P s) : P (s.markGroup p r m) := hP.setPort h

theorem Frame.checkRounds {x} (h : P s) : P (s.checkRounds x) := by
  induction x generalizing s with
  | nil => exact h
  | cons x xs ih =>
    have hmark : P ((s.markLate x.1 x.2).markGroup x.1 x.2 0x10000000) := hP.markGroup (hP.markLate h)
    unfold State.checkRounds
    refine ih (hP.ite (hP.emberError ?_) h)
    exact hP.rest hmark rfl fun _ => rfl

theorem Frame.setFport {f x} (h : P s) : P (s.setFport f x) := hP.rest h rfl id

theorem Frame.fabricError {port coord window code} (h : P s) : P (s.fabricError port coord window code) := by
  have hregs : ∀ i, Reg.FAB_ERR_STATUS i ∉ marginRegs ∧ Reg.FAB_ERR_INFO i ∉ marginRegs := fun i =>
    ⟨not_marginReg (by unfold Reg.FAB_ERR_STATUS; omega), not_marginReg (by unfold Reg.FAB_ERR_INFO; omega)⟩
  unfold State.fabricError
  extract_lets io _ _ s1
  have h1 : P s1 := hP.faultEvent (hP.recordFirst (hregs io).1 (hregs io).2 h)
  exact hP.ite (hP.charge h1) h1

theorem Frame.checkFabric {x} (h : P s) : P (s.checkFabric x) := by
  induction x generalizing s with
  | nil => exact h
  | cons f fs ih =>
    unfold State.checkFabric
    exact ih (hP.setFport (hP.ite (hP.fabricError h) h))

theorem Frame.carryError {k window code} (h : P s) : P (s.carryError k window code) := by
  have hreg : Reg.TIL_CARRY_ERR (keyDie k) ∉ marginRegs := not_marginReg (by unfold Reg.TIL_CARRY_ERR; omega)
  exact hP.charge (hP.faultEvent (hP.ite (hP.reg hreg h) (hP.reg hreg h)))

theorem Frame.checkTile {ws k} (h : P s) : P (s.checkTile ws k) := hP.ite (hP.foldl (fun _ _ _ h' => hP.carryError h') h) h

theorem Frame.checkTileWindows {x} (h : P s) : P (s.checkTileWindows x) := by
  induction x generalizing s with
  | nil => exact h
  | cons d ds ih => exact ih (hP.ite h (hP.foldl (fun _ _ _ h' => hP.checkTile h') h))

theorem Frame.memError {m port code off abandons} (h : P s) : P (s.memError m port code off abandons) := by
  unfold State.memError
  extract_lets _ s1 s2
  have h1 : P s1 := hP.faultEvent (hP.recordFirst (memError_off m).1 (memError_off m).2.1 h)
  have h2 : P s2 := hP.ite (hP.reg (memError_off m).2.2.1 h1) h1
  exact hP.ite (hP.charge h2) h2

theorem Frame.checkStackWindows {x} (h : P s) : P (s.checkStackWindows x) := by
  induction x generalizing s with
  | nil => exact h
  | cons m ms ih => exact ih (hP.foldl (fun _ _ _ h' => hP.memError h') h)

theorem Frame.countLines {m ls} (h : P s) : P (s.countLines m ls) := hP.ite h (hP.bumpReg (memError_off m).2.2.2 (hP.stack id h))

theorem Frame.memGet {m off n who} (h : P s) : P (s.memGet m off n who).2 := by
  unfold State.memGet
  extract_lets at0 s1 bad data _ s2
  have h1 : P s1 := hP.countLines h
  have h2 : P s2 := hP.ite (hP.rest h1 rfl id) h1
  refine hP.pair_ite (hP.memError h) (hP.pair_ite (hP.memError h) (hP.pair_ite (hP.memError h) (hP.pair_ite h1 (hP.pair ?_))))
  exact hP.memError (hP.bumpReg (memError_off m).2.2.2 h2)

theorem Frame.emitBlock {p g b} (h : P s) : P (s.emitBlock p g b) := hP.rest h rfl id

theorem Frame.emitBlocks {p g x} (h : P s) : P (s.emitBlocks p g x) := by
  induction x generalizing s with
  | nil => exact h
  | cons b bs ih => exact ih (hP.emitBlock h)

theorem Frame.release {p g q out rest} (h : P s) : P (s.release p g q out rest) := hP.emitBlocks (hP.setPort h)

theorem Frame.pump {p g} (h : P s) : P (s.pump p g) := hP.ite h (hP.ite (hP.ite (hP.release h) h) (hP.release h))

theorem Frame.queueBlock {p g b} (h : P s) : P (s.queueBlock p g b) := hP.pump (hP.setPort h)

theorem Frame.queueUnit {p b} (h : P s) : P (s.queueUnit p b) := hP.ite (hP.queueBlock h) (hP.pump (hP.setPort h))

theorem Frame.answerRemote {m io d status value data} (h : P s) : P (s.answerRemote m io d status value data) := hP.queueUnit h

theorem Frame.setTbl {k w} (h : P s) : P (s.setTbl k w) := hP.rest h rfl id

theorem Frame.setRingStatus {m i w} (h : P s) : P (s.setRingStatus m i w) := hP.setTbl h

theorem Frame.memStore {m off bs who} (h : P s) : P (s.memStore m off bs who).2 := by
  unfold State.memStore
  extract_lets s1 bad
  have h1 : P s1 := hP.countLines h
  split
  · exact hP.stack (MemStack.wf_write off bs) h1
  · exact hP.memError (hP.bumpReg (memError_off m).2.2.2 h1)

theorem Frame.memPut {m off bs who} (h : P s) : P (s.memPut m off bs who).2 := by
  unfold State.memPut
  extract_lets n inCopies
  refine hP.pair_ite (hP.memError h) (hP.pair_ite (hP.memError h) (hP.pair_ite (hP.memError h) (hP.pair_ite (hP.memError h) ?_)))
  split
  · exact hP.memStore (hP.stack id h)
  · split
    · split
      · exact hP.pair_ite (hP.memError h) (hP.pair_ite (hP.memError h) (hP.memStore h))
      · exact hP.pair_ite (hP.setRingStatus h) (hP.memStore h)
    · exact hP.memStore h

theorem Frame.refuseRemote {m off code} (h : P s) : P (s.refuseRemote m off code) := hP.ite h (hP.memError h)

theorem Frame.performAtomic {m io d} (h : P s) : P (s.performAtomic m io d) := by
  unfold State.performAtomic
  split
  · exact hP.answerRemote (hP.refuseRemote h)
  · have hget : P (s.memGet m d.off 8 fabricWho).2 := hP.memGet h
    split
    next s' heq => exact hP.answerRemote (by rwa [heq] at hget)
    next s' heq =>
      rw [heq] at hget
      exact hP.ite (hP.answerRemote hget) (hP.answerRemote (hP.memPut hget))

theorem Frame.performAtomics {m x} (h : P s) : P (s.performAtomics m x) := by
  induction x generalizing s with
  | nil => exact h
  | cons a as ih => exact ih (hP.performAtomic h)

theorem Frame.beforeAccess {m off n} (h : P s) : P (s.beforeAccess m off n) :=
  hP.ite (hP.performAtomics (hP.stack id h)) h

theorem Frame.memRead {m off n who} (h : P s) : P (s.memRead m off n who).2 := hP.memGet (hP.beforeAccess h)

theorem Frame.memWrite {m off bs who} (h : P s) : P (s.memWrite m off bs who).2 := hP.memPut (hP.beforeAccess h)

theorem Frame.memHeader {m off bs} (h : P s) : P (s.memHeader m off bs) := hP.memStore (hP.beforeAccess h)

theorem Frame.lockRing {m r} (h : P s) : P (s.lockRing m r) := by
  unfold State.lockRing
  extract_lets a
  have hread : P (s.memRead m a 16 ⟨16 + m, false⟩).2 := hP.memRead h
  split
  next ans s1 heq =>
    rw [heq] at hread
    extract_lets ok s2
    have h2 : P s2 := hP.setRingStatus hread
    exact hP.ite h2 (hP.ite (hP.late h2) (hP.memHeader h2))

theorem Frame.lockRings {m due x} (h : P s) : P (s.lockRings m due x) := by
  induction x generalizing s with
  | nil => exact h
  | cons r rs ih => exact ih (hP.ite (hP.lockRing h) h)

theorem Frame.lockAll {due x} (h : P s) : P (s.lockAll due x) := by
  induction x generalizing s with
  | nil => exact h
  | cons m ms ih => exact ih (hP.lockRings h)

theorem Frame.trimRecords {reason r x} (h : P s) : P (s.trimRecords reason r x) := by
  induction x generalizing s with
  | nil => exact h
  | cons x xs ih => exact ih (hP.ite (hP.setTbl (hP.setTbl (hP.setTbl (hP.setTbl h)))) (hP.setTbl h))

theorem Frame.drawn {n} (h : P s) : P (s.drawn n) := hP.rest h rfl id

theorem Frame.delayTrims {x} (h : P s) : P (s.delayTrims x) := by
  induction x generalizing s with
  | nil => exact h
  | cons k ks ih => exact ih (hP.setTbl (hP.drawn h))

theorem Frame.dropTrims {j x} (h : P s) : P (s.dropTrims j x) := by
  induction x generalizing s with
  | nil => exact h
  | cons x xs ih => exact ih (hP.setTbl (hP.drawn h))

theorem Frame.lockThresholds {x} (h : P s) : P (s.lockThresholds x) := by
  induction x generalizing s with
  | nil => exact h
  | cons e es ih => exact ih (hP.rest h rfl id)

theorem Frame.calValues {v r} (h : P s) : P (s.calValues v r) := by
  unfold State.calValues
  extract_lets _ s1
  have h1 : P s1 := hP.setTbl h
  split
  · exact hP.ite (hP.dropTrims h1) h1
  · exact hP.delayTrims h
  · exact hP.lockThresholds h

theorem Frame.setLaneState {p l st} (h : P s) : P (s.setLaneState p l st) := hP.setTbl h

theorem Frame.setSpare {code x} (h : P s) : P (s.setSpare code x) := by
  induction x generalizing s with
  | nil => exact h
  | cons x xs ih => exact ih (hP.setLaneState (hP.rest h rfl id))

theorem Frame.setLanes {st x} (h : P s) : P (s.setLanes st x) := by
  induction x generalizing s with
  | nil => exact h
  | cons x xs ih => exact ih (hP.setLaneState h)

theorem Frame.announce {m st} (h : P s) : P (s.announce m st) := hP.ite (hP.sendFrame (hP.sendFrame h)) (hP.sendFrame h)

theorem Frame.restartTurns {x} (h : P s) : P (s.restartTurns x) := by
  induction x generalizing s with
  | nil => exact h
  | cons x xs ih => exact ih (hP.ite h (hP.setPort h))

theorem Frame.laneChange {m st} (h : P s) : P (s.laneChange m st) := hP.restartTurns (hP.announce (hP.setLanes h))

theorem Frame.applyMove {m} (h : P s) : P (s.applyMove m) := by
  unfold State.applyMove
  extract_lets _ s1 s2 s3
  have h1 : P s1 := hP.setSpare (hP.laneChange h)
  have h2 : P s2 := hP.setRegFld (by decide) h1
  have h3 : P s3 := hP.ite (hP.setRegFld (by decide) (hP.setRegFld (by decide) h2)) h2
  exact hP.ite (hP.clearReg (by decide) (hP.reg (by decide) h3)) h3

theorem Frame.calEnd {reason r} (h : P s) : P (s.calEnd reason r) := by
  unfold State.calEnd
  extract_lets
  split
  · exact h
  · extract_lets _ s1 s2 s3 s4 s5
    have h1 : P s1 := hP.ite (hP.applyMove h) h
    have h2 : P s2 := hP.ite (hP.trimRecords h1) h
    have h3 : P s3 := hP.ite (hP.calValues h2) h2
    have h4 : P s4 := hP.reg (by decide) h3
    have h5 : P s5 := hP.clearReg (by decide) (hP.ite (hP.bumpReg (by decide) h4) (hP.bumpReg (by decide) h4))
    exact hP.rest h5 rfl id

theorem Frame.calAbort {reason} (h : P s) : P (s.calAbort reason) := hP.calEnd h

theorem Frame.takeSpare {m} (h : P s) : P (s.takeSpare m) := by
  unfold State.takeSpare
  extract_lets _ _ s1
  have h1 : P s1 := by
    dsimp only [s1]
    refine hP.ite ?_ ?_
    · exact h
    · split
      · exact hP.ite (hP.calAbort h) (hP.laneChange h)
      · exact hP.laneChange h
  exact hP.applyMove h1

theorem Frame.doMove {m} (h : P s) : P (s.doMove m) := hP.ite (hP.takeSpare h) (hP.applyMove h)

theorem Frame.doMoves {x} (h : P s) : P (s.doMoves x) := by
  induction x generalizing s with
  | nil => exact h
  | cons m ms ih => exact ih (hP.doMove h)

theorem Frame.startRamp {b kind} (h : P s) : P (s.startRamp b kind) := hP.rest h rfl id

theorem Frame.handovers {x} (h : P s) : P (s.handovers x) := by
  induction x generalizing s with
  | nil => exact h
  | cons b bs ih => exact ih (hP.ite (hP.startRamp h) h)

theorem Frame.newMeasure (h : P s) : P s.newMeasure := hP.rest h rfl id

theorem Frame.upkeepNow (h : P s) : P s.upkeepNow := by
  unfold State.upkeepNow
  extract_lets s1 _ _ s2 s3
  have h1 : P s1 := by
    dsimp only [s1]
    refine hP.ite ?_ ?_
    · split
      · exact hP.calEnd h
      · exact h
    · exact h
  have h2 : P s2 := hP.doMoves (hP.rest h1 rfl id)
  have h3 : P s3 := hP.ite (hP.newMeasure (hP.setRegFld (by decide) h2)) h2
  exact hP.handovers h3

theorem Frame.dropOpen {x} (h : P s) : P (s.dropOpen x) := by
  have hreg : ∀ c, Reg.MBX_COUNT c ∉ marginRegs := fun c hmem => by
    simp only [marginRegs, Reg.MBX_COUNT, Reg.TCK_SEQ_LO, Reg.TCK_SEQ_HI, Reg.TCK_GUARD_OFF, Reg.TCK_MARGIN, List.mem_cons, List.not_mem_nil, or_false] at hmem
    omega
  induction x generalizing s with
  | nil => exact h
  | cons c cs ih => exact ih (hP.ite (hP.bumpReg (hreg c) (hP.rest h rfl id)) h)

theorem Frame.giveBack (h : P s) : P s.giveBack := by
  unfold State.giveBack
  exact hP.ite (hP.recovery (hP.dropOpen (hP.setRegFld (by decide) (hP.setRegFld (by decide) (hP.setRegFld (by decide) h))))) h

theorem Frame.mapsDone (h : P s) : P s.mapsDone := by
  refine hP.foldl (fun s a ha h => hP.clearReg ?_ h) h
  refine not_marginReg ?_
  have hall : ∀ a ∈ [Reg.HRT_MAP_TICK, Reg.FAB_MAP_TICK 2, Reg.FAB_MAP_TICK 3] ++ (List.range 16).map Reg.MSH_MAP_TICK, 0x5004c ≤ a := by decide
  exact .inr (hall a ha)

theorem Frame.takeReference (h : P s) : P s.takeReference := hP.ite (hP.orReg (by decide) (hP.setRegFld (by decide) h)) h

theorem Frame.tickEvent {commit} (h : P s) : P (s.tickEvent commit) := hP.event h

theorem Frame.blankSlot {m r k} (h : P s) : P (s.blankSlot m r k) := hP.stack (MemStack.wf_keep _) h

theorem Frame.publishRings {m commit x} (h : P s) : P (s.publishRings m commit x) := by
  induction x generalizing s with
  | nil => exact h
  | cons r rs ih => exact ih (hP.ite h (hP.setRingStatus (hP.memHeader (hP.ite h (hP.blankSlot h)))))

theorem Frame.publish {commit x} (h : P s) : P (s.publish commit x) := by
  induction x generalizing s with
  | nil => exact h
  | cons m ms ih => exact ih (hP.publishRings h)

theorem Frame.enter {m cause} (h : P s) : P (s.enter m cause) := hP.event (hP.rest h rfl id)

theorem Frame.checkpointDue {commit} (h : P s) : P (s.checkpointDue commit) := hP.ite h (hP.ite (hP.ite (hP.enter (hP.rest (hP.rest h rfl id) rfl id)) (hP.rest h rfl id)) (hP.rest h rfl id))

theorem Frame.resolve {commit cause} (h : P s) : P (s.resolve commit cause) := by
  unfold State.resolve
  extract_lets _ s1 s2 s3 s4 s5 s6
  have h1 : P s1 := hP.rest h rfl id
  have h2 : P s2 := hP.ite (hP.setReg64 (by decide) (by decide) (hP.reg (by decide) h1)) h1
  have h3 : P s3 := hP.ite (hP.bumpReg (by decide) h2) h2
  have h4 : P s4 := hP.publish h3
  have h5 : P s5 := hP.ite h4 (hP.setRegFld (by decide) h4)
  have h6 : P s6 := hP.reg (by decide) h5
  exact hP.ite h (hP.checkpointDue (hP.tickEvent h6))

theorem Frame.go {m cause} (h : P s) : P (s.go m cause) := by
  unfold State.go
  extract_lets _ s1 _ s2
  have h1 : P s1 := hP.rest h rfl id
  have h2 : P s2 := hP.enter (hP.setRegFld (by decide) h1)
  exact hP.ite (hP.enter h1) (hP.ite (hP.takeReference (hP.upkeepNow h2)) h2)

theorem Frame.dropSnapshot (h : P s) : P s.dropSnapshot := hP.ite (hP.recovery (hP.reg (by decide) h)) h

end

end Sys2Proof.Machine

namespace Sys2Proof.Machine

/-! ## Memories in canonical form (R28, R236, R419) -/

/-- Every memory of the module is in canonical form. What changes no memory keeps this by definition. -/
def Canonical (s : State) : Prop := s.memoriesWf = true

section
variable {s t : State}

theorem Canonical.ite {c : Prop} [Decidable c] (h : Canonical s) (h' : Canonical t) : Canonical (if c then s else t) :=
  iteInduction (fun _ => h) (fun _ => h')

theorem Canonical.foldl {α : Type} {f : State → α → State} (hf : ∀ s a, Canonical s → Canonical (f s a)) {l : List α} (h : Canonical s) :
    Canonical (l.foldl f s) := by
  induction l generalizing s with
  | nil => exact h
  | cons a l ih => exact ih (hf s a h)

theorem Canonical.congr (h : Canonical s) (htiles : t.tiles = s.tiles) (hstacks : t.stackMem = s.stackMem) (hflash : t.boot.flash = s.boot.flash) :
    Canonical t := memoriesWf_congr h htiles hstacks hflash

theorem Canonical.tile (h : Canonical s) (k) : Memory.wf 0 (s.tile k).sram = true := tile_wf h k

theorem Canonical.stack (h : Canonical s) (m) : Memory.wf 0 (s.stack m).dram = true := stack_wf h m

theorem Canonical.flash (h : Canonical s) : Memory.wf 0xFF s.boot.flash = true := ((memoriesWf_iff s).1 h).2.2

theorem Canonical.setTile {k} {x : Tile} (hx : Memory.wf 0 x.sram = true) (h : Canonical s) : Canonical (s.setTile k x) := memoriesWf_setTile h k hx

theorem Canonical.setStack {m} {x : MemStack} (hx : Memory.wf 0 x.dram = true) (h : Canonical s) : Canonical (s.setStack m x) := memoriesWf_setStack h m hx

/-- Work that leaves tiles and flash, and keeps each stack in canonical form. -/
theorem Canonical.frame : Frame Canonical where
  reg _ h := h.congr rfl rfl rfl
  stack hx h := .setStack (hx (h.stack _)) h
  rest h hframed _ := h.congr (congrArg (fun x => x.1) hframed) (congrArg (fun x => x.2.1) hframed) (congrArg (fun x => x.2.2.1) hframed)

theorem Tile.wf_writeAll {x : Tile} {bs : List Byte} {l} (h : Memory.wf 0 x.sram = true) : Memory.wf 0 (x.writeAll bs l).sram = true := by
  induction l generalizing x with
  | nil => exact h
  | cons a l ih => exact ih (Tile.wf_write _ _ h)

theorem Canonical.loadTile {g die row col k} (h : Canonical s) : Memory.wf 0 (s.loadTile g die row col k).sram = true := by
  have hrecords : ∀ d pos rs (x : Tile), Memory.wf 0 x.sram = true → Memory.wf 0 (s.tileRecords d pos rs x).sram = true := fun d pos rs => by
    induction rs with
    | nil => exact fun _ hx => hx
    | cons r rs ih =>
      intro x hx
      unfold State.tileRecords
      split
      · exact ih _ (Tile.wf_writeAll hx)
      · exact ih _ hx
  exact hrecords _ _ _ _ (h.tile k)

end

variable {s t : State}

theorem Canonical.setReg {a w} (h : Canonical s) : Canonical (s.setReg a w) := .congr h rfl rfl rfl

theorem Canonical.setRegFld {a hi lo v} (h : Canonical s) : Canonical (s.setRegFld a hi lo v) := .setReg h

theorem Canonical.orReg {a m} (h : Canonical s) : Canonical (s.orReg a m) := .setReg h

theorem Canonical.clearReg {a m} (h : Canonical s) : Canonical (s.clearReg a m) := .setReg h

theorem Canonical.bumpReg {a hi lo k} (h : Canonical s) : Canonical (s.bumpReg a hi lo k) := .setReg h

theorem Canonical.setShadow {a w} (h : Canonical s) : Canonical (s.setShadow a w) := .congr h rfl rfl rfl

theorem Canonical.setReg64 {lo hi v} (h : Canonical s) : Canonical (s.setReg64 lo hi v) := .setReg (.setReg h)

theorem Canonical.setTblShadow {k w} (h : Canonical s) : Canonical (s.setTblShadow k w) := .congr h rfl rfl rfl

theorem Canonical.setSeq {n} (h : Canonical s) : Canonical (s.setSeq n) := .setReg64 h

theorem Canonical.recordFirst {status info code infoWord} (h : Canonical s) : Canonical (s.recordFirst status info code infoWord) := .ite (.setReg h) (.setReg (.setReg h))

theorem Canonical.setDomain {k v} (h : Canonical s) : Canonical (s.setDomain k v) := .setRegFld h

theorem Canonical.setDomains {v x} (h : Canonical s) : Canonical (s.setDomains v x) := by
  induction x generalizing s with
  | nil => exact h
  | cons k ks ih => exact ih (.setDomain h)

theorem Canonical.setRouter {k r} (h : Canonical s) : Canonical (s.setRouter k r) := .congr h rfl rfl rfl

theorem Canonical.meshError {k port vc code tag} (h : Canonical s) : Canonical (s.meshError k port vc code tag) := Canonical.frame.charge (Canonical.frame.faultEvent (.recordFirst h))

theorem Canonical.sendHeld {i} (h : Canonical s) : Canonical (s.sendHeld i) := .congr h rfl rfl rfl

theorem Canonical.checkBuffer {i} (h : Canonical s) : Canonical (s.checkBuffer i) := .ite h (.ite (Canonical.frame.send (.congr h rfl rfl rfl)) (.congr h rfl rfl rfl))

theorem Canonical.reportHardware {k} (h : Canonical s) : Canonical (s.reportHardware k) := .ite h (.ite (.setRegFld (.congr h rfl rfl rfl)) (.congr h rfl rfl rfl))

theorem Canonical.raise {k t thread pc code addr} (ht : Memory.wf 0 t.sram = true) (h : Canonical s) : Canonical (s.raise k t thread pc code addr) := by
  have h1 : Canonical (s.setTile k (t.raised thread pc code addr)) := .setTile (by rwa [Tile.sram_raised]) h
  exact .ite (.reportHardware (Canonical.frame.charge (Canonical.frame.faultEvent h1))) (Canonical.frame.charge (Canonical.frame.faultEvent h1))

theorem Canonical.finish {k t n x} (ht : Memory.wf 0 t.sram = true) (h : Canonical s) : Canonical (s.finish k t n x) :=
  .ite (.raise ht h) (.setTile ht h)

theorem Canonical.wake {k n} (h : Canonical s) : Canonical (s.wake k n) := .finish (h.tile k) h

theorem Canonical.serveCounter {k c x} (h : Canonical s) : Canonical (s.serveCounter k c x) := by
  induction x generalizing s with
  | nil => exact h
  | cons n ns ih =>
    unfold State.serveCounter
    extract_lets _
    split
    · exact .ite (ih (.wake (.setTile (h.tile k) h))) (ih h)
    · exact ih h

theorem Canonical.arrive {k c} (h : Canonical s) : Canonical (s.arrive k c) :=
  .ite (.serveCounter (.setRouter h)) (.serveCounter (.setTile (h.tile k) h))

theorem Canonical.serveSends {k x} (h : Canonical s) : Canonical (s.serveSends k x) := by
  induction x generalizing s with
  | nil => exact h
  | cons n ns ih =>
    unfold State.serveSends
    extract_lets _
    split
    · exact .ite (ih (.wake h)) (ih (.setTile (h.tile k) h))
    · exact .ite (ih h) (ih (.wake h))
    · exact ih (.wake h)
    · exact .ite (ih (.wake h)) (ih h)
    · exact ih h

theorem Canonical.sink {k messageEnd} (h : Canonical s) : Canonical (s.sink k messageEnd) := .ite (.setRouter h) h

theorem Canonical.emberErrors {p entry code x} (h : Canonical s) : Canonical (s.emberErrors p entry code x) := by
  induction x generalizing s with
  | zero => exact h
  | succ n ih => exact ih (Canonical.frame.emberError h)

theorem Canonical.pumpGroups {x} (h : Canonical s) : Canonical (s.pumpGroups x) := by
  induction x generalizing s with
  | nil => exact h
  | cons x xs ih => exact ih (Canonical.frame.pump h)

theorem Canonical.pumpAll (h : Canonical s) : Canonical s.pumpAll := .pumpGroups h

theorem Canonical.flushAt {m p} (h : Canonical s) : Canonical (s.flushAt m p) := by
  unfold State.flushAt
  extract_lets off s1
  have h1 : Canonical s1 := Canonical.frame.beforeAccess h
  split
  · exact Canonical.frame.refuseRemote h
  · refine .ite (Canonical.frame.memPut h1) ?_
    have hget : Canonical (s1.memGet m off 64 fabricWho).2 := Canonical.frame.memGet h1
    split
    next heq => rw [heq] at hget; exact Canonical.frame.memPut hget
    next heq => rwa [heq] at hget

theorem Canonical.queueAtomic {m io d} (h : Canonical s) : Canonical (s.queueAtomic m io d) := by
  unfold State.queueAtomic
  extract_lets _ _ s1
  have h1 : Canonical s1 := .setStack (h.stack m) h
  exact .ite (.setRegFld h1) h1

theorem Canonical.serveRemote {m io p} (h : Canonical s) : Canonical (s.serveRemote m io p) := by
  unfold State.serveRemote
  extract_lets d op
  refine .ite (.flushAt h) (.ite (.queueAtomic h) ?_)
  split
  · exact Canonical.frame.answerRemote (Canonical.frame.refuseRemote h)
  · refine .ite (Canonical.frame.answerRemote (Canonical.frame.memWrite h)) ?_
    have hread : Canonical (s.memRead m d.off (opBytes op) fabricWho).2 := Canonical.frame.memRead h
    split
    next heq => exact Canonical.frame.answerRemote (by rwa [heq] at hread)
    next heq => exact Canonical.frame.answerRemote (by rwa [heq] at hread)

theorem Canonical.setBuffer {f b l} (h : Canonical s) : Canonical (s.setBuffer f b l) := Canonical.frame.setFport h

theorem Canonical.emit {f c} (h : Canonical s) : Canonical (s.emit f c) := Canonical.frame.send (Canonical.frame.setFport h)

theorem Canonical.emitIdle {f n} (h : Canonical s) : Canonical (s.emitIdle f n) := .ite h (Canonical.frame.send h)

theorem Canonical.emitNew {f c} (h : Canonical s) : Canonical (s.emitNew f c) := .emit (Canonical.frame.setFport h)

theorem Canonical.runPort {f fuel n} (h : Canonical s) : Canonical (State.runPort f fuel n s) := by
  induction fuel generalizing s n with
  | zero => exact .emitIdle h
  | succ fuel ih =>
    unfold State.runPort
    extract_lets _
    split
    · exact ih (.emit (Canonical.frame.setFport (.emitIdle h)))
    · exact ih (.emitNew (.emitIdle h))
    · exact ih (Canonical.frame.setFport h)
    · exact .emitIdle h

theorem Canonical.pumpPort {f} (h : Canonical s) : Canonical (s.pumpPort f) := .ite (.runPort h) h

theorem Canonical.queueCell {f c} (h : Canonical s) : Canonical (s.queueCell f c) := .pumpPort (Canonical.frame.setFport h)

theorem Canonical.sendMgmt {f payload} (h : Canonical s) : Canonical (s.sendMgmt f payload) := .queueCell h

theorem Canonical.sendMgmtAll {payload x} (h : Canonical s) : Canonical (s.sendMgmtAll payload x) := by
  induction x generalizing s with
  | nil => exact h
  | cons f fs ih => exact ih (.sendMgmt h)

theorem Canonical.sendRequest {die d} (h : Canonical s) : Canonical (s.sendRequest die d) := Canonical.frame.queueUnit h

theorem Canonical.sendResponse {io d arrival} (h : Canonical s) : Canonical (s.sendResponse io d arrival) := by
  unfold State.sendResponse
  split
  · exact .queueCell h
  · exact .ite h (Canonical.frame.queueUnit h)

theorem Canonical.forward {f d arrival} (h : Canonical s) : Canonical (s.forward f d arrival) := .queueCell h

theorem Canonical.setCombiner {p l} (h : Canonical s) : Canonical (s.setCombiner p l) := .congr h rfl rfl rfl

theorem Canonical.flush {path e} (h : Canonical s) : Canonical (s.flush path e) := Canonical.frame.queueUnit (.ite (Canonical.frame.setFport h) h)

theorem Canonical.flushLine {p m line} (h : Canonical s) : Canonical (s.flushLine p m line) := by
  unfold State.flushLine
  split
  · exact .flush (.setCombiner h)
  · exact h

theorem Canonical.combine {p d} (h : Canonical s) : Canonical (s.combine p d) := by
  unfold State.combine
  extract_lets _ _ _ _ l s1 _ s2
  have h1 : Canonical s1 := by
    dsimp only [s1, l]
    split
    · exact .ite (.flush (.setCombiner h)) h
    · exact h
  have h2 : Canonical s2 := .setCombiner h1
  split
  · exact .setCombiner h
  · exact .ite (Canonical.frame.setFport h2) h2

theorem Canonical.serve {p d} (h : Canonical s) : Canonical (s.serve p d) := .ite (.sendResponse h) (.ite (.sendResponse (.combine h)) (Canonical.frame.queueUnit (.foldl (fun _ _ h' => .flushLine h') h)))

theorem Canonical.train {f} (h : Canonical s) : Canonical (s.train f) := Canonical.frame.send h

theorem Canonical.linkLost {f reason} (h : Canonical s) : Canonical (s.linkLost f reason) := Canonical.frame.fabricError (.bumpReg (.train (.setReg (Canonical.frame.setFport h))))

theorem Canonical.loadTiles {g die x} (h : Canonical s) : Canonical (s.loadTiles g die x) := by
  induction x generalizing s with
  | nil => exact h
  | cons x xs ih =>
    unfold State.loadTiles
    exact ih (.setTile h.loadTile h)

theorem Canonical.loadWindows {only x} (h : Canonical s) : Canonical (s.loadWindows only x) := by
  induction x generalizing s with
  | nil => exact h
  | cons x xs ih => exact ih (.ite h (.ite (.setReg (.setReg (.setReg (.setReg h)))) (Canonical.frame.setTbl (Canonical.frame.setTbl (Canonical.frame.setTbl h)))))

theorem Canonical.clearWindows {stackMem} (h : Canonical s) : Canonical (s.clearWindows stackMem) := .congr h rfl rfl rfl

theorem Canonical.loadRings {only x} (h : Canonical s) : Canonical (s.loadRings only x) := by
  induction x generalizing s with
  | nil => exact h
  | cons x xs ih => exact ih (.ite h (Canonical.frame.setRingStatus (Canonical.frame.setTbl (Canonical.frame.setTbl (Canonical.frame.setTbl (Canonical.frame.setTbl h))))))

theorem Canonical.memImage {m bs x} (h : Canonical s) : Canonical (s.memImage m bs x) := by
  induction x generalizing s bs with
  | nil => exact h
  | cons x xs ih => exact ih (Canonical.frame.memStore h)

theorem Canonical.memLoad {m off bs} (h : Canonical s) : Canonical (s.memLoad m off bs) := .memImage h

theorem Canonical.copyRecord {m off bs x} (h : Canonical s) : Canonical (s.copyRecord m off bs x) := by
  induction x generalizing s with
  | nil => exact h
  | cons w ws ih => exact ih (.ite (.memLoad h) h)

theorem Canonical.loadMemory {only x} (h : Canonical s) : Canonical (s.loadMemory only x) := by
  induction x generalizing s with
  | nil => exact h
  | cons r rs ih => exact ih (.ite (.copyRecord (.memLoad h)) h)

theorem Canonical.putWords {both x} (h : Canonical s) : Canonical (s.putWords both x) := by
  induction x generalizing s with
  | nil => exact h
  | cons x xs ih => exact ih (.ite (.setTblShadow (Canonical.frame.setTbl h)) (.setTblShadow h))

theorem Canonical.applyDies {g x} (h : Canonical s) : Canonical (s.applyDies g x) := by
  induction x generalizing s with
  | nil => exact h
  | cons d ds ih =>
    unfold State.applyDies
    exact ih (.loadTiles h)

theorem Canonical.settleBay {d} (h : Canonical s) : Canonical (s.settleBay d) := .ite h (.setDomain (.setDomain h))

theorem Canonical.settleBays {x} (h : Canonical s) : Canonical (s.settleBays x) := by
  induction x generalizing s with
  | nil => exact h
  | cons d ds ih => exact ih (.settleBay h)

theorem Canonical.wakeBays {x} (h : Canonical s) : Canonical (s.wakeBays x) := by
  induction x generalizing s with
  | nil => exact h
  | cons d ds ih => exact ih (.ite h (.setDomains h))

theorem Canonical.setPeriod {p} (h : Canonical s) : Canonical (s.setPeriod p) := .setReg (.setReg (.setReg (.setReg h)))

theorem Canonical.applyImage {g} (h : Canonical s) : Canonical (s.applyImage g) := .setReg (.setPeriod (.settleBays (.putWords (.putWords (.loadMemory (.applyDies (.loadRings (.loadWindows (.clearWindows h)))))))))

theorem Canonical.lanesAhead (h : Canonical s) : Canonical s.lanesAhead := Canonical.frame.doMoves (.congr h rfl rfl rfl)

theorem Canonical.schedule {m} (h : Canonical s) : Canonical (s.schedule m) := .ite (.congr h rfl rfl rfl) (Canonical.frame.doMove h)

theorem Canonical.setSpareState {b st k} (h : Canonical s) : Canonical (s.setSpareState b st k) := .setRegFld (.setRegFld h)

theorem Canonical.setComb {c st pos} (h : Canonical s) : Canonical (s.setComb c st pos) := .setRegFld (.setRegFld h)

theorem Canonical.blwEnd {reason} (h : Canonical s) : Canonical (s.blwEnd reason) := .clearReg (.setReg h)

theorem Canonical.blwEvent {comb bit} (h : Canonical s) : Canonical (s.blwEvent comb bit) := Canonical.frame.faultEvent (.orReg h)

theorem Canonical.startSpare {b k} (h : Canonical s) : Canonical (s.startSpare b k) := .blwEvent (.setComb (.setSpareState h))

theorem Canonical.laneSwap (h : Canonical s) : Canonical s.laneSwap := .ite (.setReg h) (.ite (.clearReg (.setReg h)) (.schedule (.setReg h)))

theorem Canonical.calStart (h : Canonical s) : Canonical s.calStart := .ite (.bumpReg (.setReg h)) (.ite (.clearReg (.bumpReg (.setReg h))) (.ite (.schedule (Canonical.frame.newMeasure (.setReg (.congr h rfl rfl rfl)))) (Canonical.frame.newMeasure (.setReg (.congr h rfl rfl rfl)))))

theorem Canonical.reReferenceAll {x} (h : Canonical s) : Canonical (s.reReferenceAll x) := by
  induction x generalizing s with
  | nil => exact h
  | cons c cs ih => exact ih (.ite (.setRegFld (.setRegFld h)) h)

theorem Canonical.blwStart (h : Canonical s) : Canonical s.blwStart := by
  unfold State.blwStart
  extract_lets _ _ _ _ _ s1 _ s2 _ s3
  have h1 : Canonical s1 := .setRegFld (.setReg h)
  have h2 : Canonical s2 := .setReg h
  have h3 : Canonical s3 := .congr h2 rfl rfl rfl
  exact .ite (.setReg h) (.ite (.blwEnd h) (.ite (.blwEnd (.reReferenceAll h)) (.ite (.congr h1 rfl rfl rfl) (.ite (.blwEnd (.startSpare h)) (.ite h3 (Canonical.frame.startRamp h3))))))

theorem Canonical.takeMesh {die} (h : Canonical s) : Canonical (s.takeMesh die) := .clearReg (.congr h rfl rfl rfl)

theorem Canonical.adoptMesh {die} (h : Canonical s) : Canonical (s.adoptMesh die) := .ite (.ite (.takeMesh h) (.meshError h)) h

theorem Canonical.takeHearth (h : Canonical s) : Canonical s.takeHearth := .clearReg (.congr h rfl rfl rfl)

theorem Canonical.emberSetFails (h : Canonical s) : Canonical s.emberSetFails := .congr (Canonical.frame.emberError h) rfl rfl rfl

theorem Canonical.emberSetPasses (h : Canonical s) : Canonical s.emberSetPasses := .congr h rfl rfl rfl

theorem Canonical.adoptHearth {first} (h : Canonical s) : Canonical (s.adoptHearth first) := .ite (.ite (.pumpAll (.emberSetPasses (.takeHearth h))) (.emberSetFails h)) (.ite (.ite (.emberSetPasses h) (.emberSetFails h)) (.ite (Canonical.frame.charge h) h))

theorem Canonical.adoptDies {x} (h : Canonical s) : Canonical (s.adoptDies x) := by
  induction x generalizing s with
  | nil => exact h
  | cons d ds ih => exact ih (.adoptMesh h)

theorem Canonical.adoptAll {first} (h : Canonical s) : Canonical (s.adoptAll first) := .adoptHearth (.adoptDies h)

end Sys2Proof.Machine

namespace Sys2Proof.Machine

/-! ## What the body of an instruction may do -/

/-- A core after a step: its SRAM in canonical form where it was, the record of its first fault as it was. -/
structure Tile.Sound (a b : Tile) : Prop where
  sram : Memory.wf 0 a.sram = true → Memory.wf 0 b.sram = true
  record : ∀ i, 7 ≤ i → i ≤ 9 → b.sys i = a.sys i

/-- A body leaves the module beside its own core with its tiles and with its memories in canonical form, and its core sound. -/
structure Ctx.Keeps (q : Ctx) (s : State) (t : Tile) : Prop where
  canonical : Canonical q.s → Canonical s
  tiles : s.tiles = q.s.tiles
  core : q.t.Sound t

/-- An effect that keeps so what it hands on: a fault's record is the issue's to write. -/
def Effect.Mild (q : Ctx) : Effect → Prop
  | .done s t _ _ | .crash s t _ _ => q.Keeps s t
  | .fault _ _ | .hold _ => True

/-- A row of the instruction tables whose command is the issue of a mild body. -/
def IssuesMildly (r : CodeRow) : Prop :=
  ∀ u f, ∃ body : Ctx → Effect, (∀ s, exec (r.2.2 u f) s = .next (s.issue u f r.1 r.2.1 body)) ∧ ∀ q, (body q).Mild q

section
variable {a b c : Tile} {q : Ctx} {s s' : State} {t t' : Tile}

theorem Tile.Sound.of_eq (hsram : b.sram = a.sram) (htil : b.til = a.til) : a.Sound b :=
  ⟨fun hw => hsram ▸ hw, fun i _ _ => by rw [Tile.sys, htil, Tile.sys]⟩

theorem Tile.Sound.refl (a : Tile) : a.Sound a := .of_eq rfl rfl

theorem Tile.Sound.trans (h : a.Sound b) (h' : b.Sound c) : a.Sound c :=
  ⟨fun hw => h'.sram (h.sram hw), fun i hl hu => (h'.record i hl hu).trans (h.record i hl hu)⟩

/-- A system register other than the fault record. -/
theorem Tile.Sound.setSys {i : Nat} {w : Word} (hi : i < 7 ∨ 9 < i) : a.Sound (a.setSys i w) :=
  ⟨id, fun j hl hu => by rw [Tile.sys_setSys, if_neg (by omega)]⟩

theorem Tile.Sound.ite {p : Prop} [Decidable p] (h : a.Sound b) (h' : a.Sound c) : a.Sound (if p then b else c) :=
  iteInduction (motive := a.Sound) (fun _ => h) fun _ => h'

theorem Tile.Sound.write (a : Tile) (off : Nat) (bs : List Byte) : a.Sound (a.write off bs) :=
  ⟨Tile.wf_write off bs, fun _ _ _ => rfl⟩

theorem Tile.Sound.countFixes (a : Tile) (ws : List Nat) : a.Sound (a.countFixes ws) := .ite (.refl a) (.setSys (Or.inr (by decide)))

theorem Tile.Sound.loaded {acc : SMap Acc} {bad : SMap Bool} {ready : SMap Nat} (h : a.Sound b) :
    a.Sound { b with acc := acc, accBad := bad, accFrom := ready } := ⟨h.sram, h.record⟩

theorem Tile.Sound.setQueue (a : Tile) (n : Nat) (l : List SendDesc) : a.Sound (a.setQueue n l) :=
  .ite (.of_eq rfl rfl) (.of_eq rfl rfl)

theorem Tile.Sound.lateStamp (a : Tile) (late : Nat) : a.Sound (a.lateStamp late) := .setSys (Or.inr (by decide))

theorem Tile.Sound.clearFlags (a : Tile) (n m : Nat) : a.Sound (a.clearFlags n m) := .setSys (Or.inr (by decide))

theorem Ctx.flagged_sound (q : Ctx) (fl : Nat) : q.t.Sound (q.flagged fl) := .ite (.refl q.t) (.setSys (Or.inr (by decide)))

theorem Ctx.Keeps.refl (q : Ctx) : q.Keeps q.s q.t := ⟨id, rfl, .refl _⟩

theorem Ctx.Keeps.of_core (h : q.t.Sound t) : q.Keeps q.s t := ⟨id, rfl, h⟩

theorem Effect.Mild.write (q : Ctx) (x : Thread) : (q.write x).Mild q := .refl q

theorem Effect.Mild.ite {p : Prop} [Decidable p] {e e' : Effect} (h : e.Mild q) (h' : e'.Mild q) : (if p then e else e').Mild q :=
  iteInduction (motive := Effect.Mild q) (fun _ => h) fun _ => h'

/-! ### The bodies by class -/

theorem State.carryError_tiles (s : State) (k window code : Nat) : (s.carryError k window code).tiles = s.tiles := by
  refine (State.charge_tiles _).trans ((State.faultEvent_tiles ..).trans ?_)
  split
  · exact State.setReg_tiles ..
  · exact State.setReg_tiles ..

theorem openLoop_mild (q : Ctx) (count stop : Nat) : (openLoop q count stop).Mild q :=
  .ite trivial (.ite trivial (.ite (.refl q) (.refl q)))

theorem Ctx.load_sound {ea size align : Nat} {r : Nat × Tile} (h : q.load ea size align = .inr r) : q.t.Sound r.2 := by
  unfold Ctx.load at h
  split at h
  · cases h
  · split at h
    · cases h
    · split at h
      · cases h
      · cases h
        exact .countFixes ..

theorem Ctx.store_keeps {ea align : Nat} {bs : List Byte} {r : State × Tile} (hq : q.Keeps s t) (h : q.store s t ea align bs = .inr r) :
    q.Keeps r.1 r.2 := by
  obtain ⟨hcanonical, htiles, hcore⟩ := hq
  unfold Ctx.store at h
  split at h
  · cases h
  next off _ _ =>
    split at h
    · cases h
    · split at h
      · cases h
        exact ⟨fun hs => Canonical.frame.carryError (hcanonical hs), (State.carryError_tiles ..).trans htiles, hcore⟩
      · split at h
        · cases h
        · cases h
          have hput : t.Sound ((t.countFixes (partWords off bs.length)).write off bs) := (Tile.Sound.countFixes t _).trans (.write _ _ bs)
          exact ⟨hcanonical, htiles, hcore.trans (.ite ⟨hput.sram, hput.record⟩ hput)⟩

theorem Ctx.storeRows_keeps (acc : Acc) (ea : Nat) (rows : List Nat) (hq : q.Keeps s t) :
    q.Keeps (q.storeRows acc ea rows s t).1 (q.storeRows acc ea rows s t).2 := by
  induction rows generalizing s t with
  | nil => exact hq
  | cons r rs ih =>
    unfold Ctx.storeRows
    split
    next => exact ih hq
    next hstore => exact ih (Ctx.store_keeps hq hstore)

theorem Ctx.enqueue_mild (q : Ctx) (d : SendDesc) : (q.enqueue d).Mild q := .ite trivial (.of_core (.setQueue ..))

theorem Ctx.waits_mild (q : Ctx) (st : ThreadState) (w : Wait) : (q.waits st w).Mild q := .refl q

theorem Ctx.remote_mild (q : Ctx) (op : Nat) (vector : Bool) (value compare : DWord) (data : VReg) : (q.remote op vector value compare data).Mild q := by
  unfold Ctx.remote
  extract_lets
  split
  · trivial
  · exact .ite trivial (.ite trivial ⟨.sendRequest, (State.sendRequest_apart ..).tiles, .refl _⟩)

/-- The body of a scalar or vector load. -/
theorem load_mild (q : Ctx) (ea size align : Nat) (y : Nat × Tile → Thread) :
    (match q.load ea size align with
      | .inl e => Effect.fault e.1 e.2
      | .inr r => .done q.s r.2 (y r) none).Mild q := by
  split
  next => trivial
  next hload => exact .of_core (Ctx.load_sound hload)

/-- The body of a scalar or vector store. -/
theorem store_mild (q : Ctx) (ea align : Nat) (bs : List Byte) (y : Thread) :
    (match q.store q.s q.t ea align bs with
      | .inl e => Effect.fault e.1 e.2
      | .inr r => .done r.1 r.2 y none).Mild q := by
  split
  next => trivial
  next hstore => exact Ctx.store_keeps (.refl q) hstore

/-- A conversion that draws. -/
theorem Ctx.draws_mild (q : Ctx) (draws fl : Nat) (y : Thread) : (Effect.done { q.s with draws := draws } (q.flagged fl) y none).Mild q :=
  ⟨fun h => .congr h rfl rfl rfl, rfl, q.flagged_sound fl⟩

/-- The core after an outer product: flags raised, the array and the accumulator taken. -/
theorem Tile.array_sound (t : Tile) (fl a n c : Nat) (acc : SMap Acc) (bad : SMap Bool) :
    t.Sound { (if fl = 0 then t else t.setFlags 0 fl).macPush a n c with acc := acc, accBad := bad } :=
  Tile.Sound.trans (b := if fl = 0 then t else t.setFlags 0 fl) (.ite (.refl t) (.setSys (.inr (by decide)))) (.of_eq rfl rfl)

theorem ast_mild (q : Ctx) (acc : Acc) :
    (match accFault (q.accRows q.ea true) q.ea with
      | some code => Effect.fault code (q.ea % 2 ^ 20)
      | none =>
        let r := q.storeRows acc q.ea (List.range 16) q.s q.t
        .done r.1 { r.2 with stored := q.c + 16 } q.x none).Mild q := by
  split
  · trivial
  · obtain ⟨hcanonical, htiles, hcore⟩ := Ctx.storeRows_keeps acc q.ea (List.range 16) (Ctx.Keeps.refl q)
    exact ⟨hcanonical, htiles, hcore.trans (.of_eq rfl rfl)⟩

end

/-! ### The tables -/

theorem mop_mild (fn : Nat) (fm : MopFormat) (ea eb : Bool → Nat → FV) {i : Issue → Fields → Instr}
    (h : ∀ u f s, exec (i u f) s = .next (mop fn fm ea eb u f s)) : IssuesMildly (4, fn, i) := by
  refine fun u f => ⟨_, h u f, fun q => ?_⟩
  exact .of_core (Tile.array_sound ..)

theorem scalarCodes_mild : ∀ r ∈ scalarCodes, IssuesMildly r := by
  simp only [scalarCodes, List.forall_mem_cons, List.not_mem_nil, false_imp_iff, implies_true, and_true]
  and_intros
  all_goals exact fun u f => ⟨_, fun _ => rfl, fun q => .write q _⟩

theorem scalarMemCodes_mild : ∀ r ∈ scalarMemCodes, IssuesMildly r := by
  simp only [scalarMemCodes, List.forall_mem_cons, List.not_mem_nil, false_imp_iff, implies_true, and_true]
  and_intros
  iterate 7 exact fun u f => ⟨_, fun _ => rfl, fun q => load_mild q _ _ _ _⟩
  iterate 4 exact fun u f => ⟨_, fun _ => rfl, fun q => store_mild q _ _ _ _⟩
  · exact fun u f => ⟨_, fun _ => rfl, fun q => load_mild q _ _ _ _⟩
  · exact fun u f => ⟨_, fun _ => rfl, fun q => store_mild q _ _ _ _⟩

theorem controlCodes_mild : ∀ r ∈ controlCodes, IssuesMildly r := by
  simp only [controlCodes, List.forall_mem_cons, List.not_mem_nil, false_imp_iff, implies_true, and_true]
  and_intros
  · exact fun u f => ⟨_, fun _ => rfl, fun q => .refl q⟩
  · exact fun u f => ⟨_, fun _ => rfl, fun q => .ite trivial (.refl q)⟩
  · exact fun u f => ⟨_, fun _ => rfl, fun q => .refl q⟩
  · exact fun u f => ⟨_, fun _ => rfl, fun q => openLoop_mild q _ _⟩
  · exact fun u f => ⟨_, fun _ => rfl, fun q => .ite trivial (openLoop_mild q _ _)⟩
  · exact fun u f => ⟨_, fun _ => rfl, fun q => .refl q⟩

theorem vectorCodes_mild : ∀ r ∈ vectorCodes, IssuesMildly r := by
  simp only [vectorCodes, List.forall_mem_cons, List.not_mem_nil, false_imp_iff, implies_true, and_true]
  and_intros
  iterate 4 exact fun u f => ⟨_, fun _ => rfl, fun q => .of_core (q.flagged_sound _)⟩
  iterate 2 exact fun u f => ⟨_, fun _ => rfl, fun q => .write q _⟩
  iterate 2 exact fun u f => ⟨_, fun _ => rfl, fun q => .of_core (q.flagged_sound _)⟩
  iterate 14 exact fun u f => ⟨_, fun _ => rfl, fun q => .write q _⟩
  iterate 2 exact fun u f => ⟨_, fun _ => rfl, fun q => q.draws_mild _ _ _⟩
  iterate 2 exact fun u f => ⟨_, fun _ => rfl, fun q => .write q _⟩
  iterate 4 exact fun u f => ⟨_, fun _ => rfl, fun q => .ite trivial (q.draws_mild _ _ _)⟩
  iterate 4 exact fun u f => ⟨_, fun _ => rfl, fun q => .ite trivial (.of_core (q.flagged_sound _))⟩
  iterate 5 exact fun u f => ⟨_, fun _ => rfl, fun q => .of_core (q.flagged_sound _)⟩
  exact fun u f => ⟨_, fun _ => rfl, fun q => .write q _⟩

theorem matrixCodes_mild : ∀ r ∈ matrixCodes, IssuesMildly r := by
  simp only [matrixCodes, List.forall_mem_cons, List.not_mem_nil, false_imp_iff, implies_true, and_true]
  and_intros
  iterate 6 exact mop_mild _ _ _ _ fun _ _ _ => rfl
  · exact fun u f => ⟨_, fun _ => rfl, fun q => ast_mild q _⟩
  · refine fun u f => ⟨_, fun _ => rfl, fun q => ?_⟩
    dsimp only
    split
    · trivial
    · split
      · exact ⟨Canonical.frame.drawn, rfl, .of_eq rfl rfl⟩
      · exact .of_core (Tile.Sound.countFixes q.t _).loaded
  · exact fun u f => ⟨_, fun _ => rfl, fun q => .of_core (.of_eq rfl rfl)⟩
  · exact fun u f => ⟨_, fun _ => rfl, fun q => .write q _⟩

theorem meshCodes_mild : ∀ r ∈ meshCodes, IssuesMildly r := by
  simp only [meshCodes, List.forall_mem_cons, List.not_mem_nil, false_imp_iff, implies_true, and_true]
  and_intros
  · refine fun u f => ⟨_, fun _ => rfl, fun q => .ite trivial ?_⟩
    split
    · trivial
    · exact .ite trivial (.ite trivial (.ite trivial (q.enqueue_mild _)))
  · exact fun u f => ⟨_, fun _ => rfl, fun q => .ite (.of_core (.of_eq rfl rfl)) (q.waits_mild _ _)⟩
  · exact fun u f => ⟨_, fun _ => rfl, fun q => .write q _⟩
  · exact fun u f => ⟨_, fun _ => rfl, fun q => .write q _⟩
  · exact fun u f => ⟨_, fun _ => rfl, fun q => .ite (.refl q) (q.waits_mild _ _)⟩

theorem hearthCodes_mild : ∀ r ∈ hearthCodes, IssuesMildly r := by
  simp only [hearthCodes, List.forall_mem_cons, List.not_mem_nil, false_imp_iff, implies_true, and_true]
  and_intros
  · refine fun u f => ⟨_, fun _ => rfl, fun q => .ite trivial ?_⟩
    split
    · trivial
    · exact .ite trivial (.ite trivial (.ite trivial (q.enqueue_mild _)))
  · refine fun u f => ⟨_, fun _ => rfl, fun q => .ite trivial ?_⟩
    split
    · trivial
    · exact .ite trivial (q.enqueue_mild _)
  · refine fun u f => ⟨_, fun _ => rfl, fun q => .ite trivial ?_⟩
    split
    · trivial
    · exact .ite trivial (.ite trivial (.ite trivial (q.enqueue_mild _)))
  · refine fun u f => ⟨_, fun _ => rfl, fun q => .ite trivial ?_⟩
    split
    · trivial
    · exact .ite trivial (q.enqueue_mild _)
  · exact fun u f => ⟨_, fun _ => rfl, fun q => .ite (q.waits_mild _ _) (.refl q)⟩

theorem remoteCodes_mild : ∀ r ∈ remoteCodes, IssuesMildly r := by
  simp only [remoteCodes, List.forall_mem_cons, List.not_mem_nil, false_imp_iff, implies_true, and_true]
  and_intros
  all_goals exact fun u f => ⟨_, fun _ => rfl, fun q => q.remote_mild ..⟩

theorem tickCodes_mild : ∀ r ∈ tickCodes, IssuesMildly r := by
  simp only [tickCodes, List.forall_mem_cons, List.not_mem_nil, false_imp_iff, implies_true, and_true]
  and_intros
  · exact fun u f => ⟨_, fun _ => rfl, fun q => .ite trivial (.ite (.refl q) (.of_core (.lateStamp ..)))⟩
  · exact fun u f => ⟨_, fun _ => rfl, fun q => ⟨.setRouter, State.setRouter_tiles .., .refl _⟩⟩
  · exact fun u f => ⟨_, fun _ => rfl, fun q => .ite (.refl q) (.ite ⟨fun h => .congr h rfl rfl rfl, rfl, .of_eq rfl rfl⟩ trivial)⟩

theorem systemCodes_mild : ∀ r ∈ systemCodes, IssuesMildly r := by
  simp only [systemCodes, List.forall_mem_cons, List.not_mem_nil, false_imp_iff, implies_true, and_true]
  and_intros
  · exact fun u f => ⟨_, fun _ => rfl, fun q => .ite trivial (.write q _)⟩
  · exact fun u f => ⟨_, fun _ => rfl, fun q => .ite trivial (.of_core (.clearFlags ..))⟩
  · exact fun u f => ⟨_, fun _ => rfl, fun q => .write q _⟩
  · exact fun u f => ⟨_, fun _ => rfl, fun q => .write q _⟩

end Sys2Proof.Machine

namespace Sys2Proof.Machine

/-! ## What an issue comes to, and the record of a core's first fault (R55) -/

theorem tileCodes_mild : ∀ r ∈ tileCodes, IssuesMildly r := by
  simp only [tileCodes, List.forall_mem_append]
  exact ⟨⟨⟨⟨⟨⟨⟨⟨⟨scalarCodes_mild, scalarMemCodes_mild⟩, controlCodes_mild⟩, vectorCodes_mild⟩, matrixCodes_mild⟩, meshCodes_mild⟩, hearthCodes_mild⟩,
    remoteCodes_mild⟩, tickCodes_mild⟩, systemCodes_mild⟩

/-- An issue does nothing, or on a booked core it ends in a fault, in a step over the instruction, or in what its body does. -/
theorem issue_cases (s : State) (u : Issue) (f : Fields) (cls fn : Nat) (body : Ctx → Effect) :
    s.issue u f cls fn body = s ∨ ∃ b, Booked (s.tile u.tile.key) b ∧
      ((∃ pc code, s.issue u f cls fn body = s.raise u.tile.key b u.thread pc code 0) ∨ (∃ y, s.issue u f cls fn body = s.finish u.tile.key b u.thread y) ∨
        ∃ q : Ctx, q.s = s ∧ q.t = b ∧ s.issue u f cls fn body = s.outcome u (body q)) := by
  have hbooked : ∀ port, Booked (s.tile u.tile.key) (s.booked u port) := s.booked_books u
  unfold State.issue
  extract_lets t
  split
  · refine .inr ?_
    unfold State.issueNow
    extract_lets k n x c r t f port x'
    split
    next code _ => exact ⟨_, hbooked 0, .inl ⟨_, code, rfl⟩⟩
    next =>
      split
      · exact ⟨_, hbooked 0, .inr (.inl ⟨_, rfl⟩)⟩
      · exact ⟨_, hbooked port, .inr (.inr ⟨⟨s, k, t.issued n c r port x, n, x', c, f⟩, rfl, rfl, rfl⟩)⟩
  · exact .inl rfl

/-- The record of a first fault stays: of a further fault at most `more` is set (R55). -/
structure Tile.Recorded (a b : Tile) : Prop where
  info : b.sys 8 = a.sys 8
  addr : b.sys 9 = a.sys 9
  status : b.sys 7 = a.sys 7 ∨ b.sys 7 = setFlag (a.sys 7) 30 true

/-- Every core with a fault recorded keeps its record. -/
def Kept (s t : State) : Prop := ∀ k, flag ((s.tile k).sys 7) 31 = true → (s.tile k).Recorded (t.tile k)

section
variable {a b c : Tile} {s t v : State} {u : Issue} {k : Nat}

theorem setFlag_idem (w : Word) {i : Nat} (x : Bool) (hi : i < 32) : setFlag (setFlag w i x) i x = setFlag w i x := by
  refine BitVec.eq_of_getLsbD_eq fun j _ => ?_
  change flag (setFlag (setFlag w i x) i x) j = flag (setFlag w i x) j
  by_cases hj : j = i
  · rw [hj, flag_setFlag_same _ _ hi, flag_setFlag_same _ _ hi]
  · exact flag_setFlag_other _ _ hi hj

theorem Tile.Recorded.of_eq (h : ∀ i, 7 ≤ i → i ≤ 9 → b.sys i = a.sys i) : a.Recorded b :=
  ⟨h 8 (by decide) (by decide), h 9 (by decide) (by decide), .inl (h 7 (by decide) (by decide))⟩

theorem Tile.Recorded.of_booked (h : Booked a b) : a.Recorded b := .of_eq fun i hl hu => h.sys i (by omega) (by omega)

/-- A further fault leaves the record. -/
theorem Tile.Recorded.raised (hrecorded : flag (a.sys 7) 31 = true) (thread pc code addr : Nat) : a.Recorded (a.raised thread pc code addr) := by
  have hsys : ∀ i, (a.raised thread pc code addr).sys i = if i = 7 then setFlag (a.sys 7) 30 true else a.sys i := fun i => by
    rw [Tile.sys_raised, Tile.sys_recordFault, if_pos hrecorded]
  exact ⟨hsys 8, hsys 9, .inr (hsys 7)⟩

theorem Tile.Recorded.flag (h : a.Recorded b) : flag (b.sys 7) 31 = flag (a.sys 7) 31 := by
  rcases h.status with hsame | hmore
  · rw [hsame]
  · rw [hmore, flag_setFlag_other _ _ (by decide) (by decide)]

theorem Tile.Recorded.trans (h : a.Recorded b) (h' : b.Recorded c) : a.Recorded c := by
  refine ⟨h'.info.trans h.info, h'.addr.trans h.addr, ?_⟩
  rcases h'.status with hsame | hmore
  · rw [hsame]
    exact h.status
  · rw [hmore]
    rcases h.status with hsame' | hmore'
    · exact .inr (by rw [hsame'])
    · exact .inr (by rw [hmore', setFlag_idem _ _ (by decide)])

theorem Kept.of_tiles (h : t.tiles = s.tiles) : Kept s t := fun k _ => .of_eq fun i _ _ => by rw [State.tile, h, State.tile]

theorem Kept.refl (s : State) : Kept s s := .of_tiles rfl

theorem Kept.trans (h : Kept s t) (h' : Kept t v) : Kept s v := fun k hk => (h k hk).trans (h' k ((h k hk).flag.trans hk))

theorem Kept.ite {p : Prop} [Decidable p] (h : Kept s t) (h' : Kept s v) : Kept s (if p then t else v) :=
  iteInduction (motive := Kept s) (fun _ => h) fun _ => h'

theorem Kept.setTile (h : (s.tile k).Recorded b) : Kept s (s.setTile k b) := fun j _ => by
  rw [State.tile_setTile]
  split
  next hj => rwa [hj]
  next => exact .of_eq fun _ _ _ => rfl

theorem Kept.raise (h : (s.tile k).Recorded b) (thread pc code addr : Nat) : Kept s (s.raise k b thread pc code addr) := fun j hj => by
  rw [State.tile_raise]
  split
  next hk =>
    subst hk
    exact h.trans (.raised (h.flag.trans hj) thread pc code addr)
  next => exact .of_eq fun _ _ _ => rfl

theorem Kept.finish (h : (s.tile k).Recorded b) (n : Nat) (y : Thread) : Kept s (s.finish k b n y) :=
  have hset : (s.tile k).Recorded (b.setThread n y) := ⟨h.info, h.addr, h.status⟩
  .ite (.raise hset _ _ _ _) (.setTile hset)

/-- What a mild effect leaves. -/
theorem Kept.outcome {q : Ctx} {e : Effect} (hs : q.s = s) (ht : Booked (s.tile u.tile.key) q.t) (h : e.Mild q) : Kept s (s.outcome u e) := by
  have hcore : ∀ {s' t'}, q.Keeps s' t' → Kept s s' ∧ (s'.tile u.tile.key).Recorded t' := fun {s' t'} hkeeps => by
    have htiles := hkeeps.tiles.trans (congrArg State.tiles hs)
    refine ⟨.of_tiles htiles, ?_⟩
    rw [State.tile, htiles]
    exact (Tile.Recorded.of_booked ht).trans (.of_eq hkeeps.core.record)
  cases e with
  | fault code addr => exact .raise (.of_booked (s.booked_books u 0)) _ _ _ _
  | crash s' t' code addr => exact (hcore h).1.trans (.raise (hcore h).2 _ _ _ _)
  | done s' t' y target => exact (hcore h).1.trans (.finish (hcore h).2 _ _)
  | hold w =>
    obtain ⟨hinfo, haddr, hstatus⟩ := Tile.Recorded.of_booked ((s.tile u.tile.key).fetchCount_books (s.at_ u).pc)
    exact .setTile ⟨hinfo, haddr, hstatus⟩

theorem Kept.issue {body : Ctx → Effect} (hbody : ∀ q, (body q).Mild q) (s : State) (u : Issue) (f : Fields) (cls fn : Nat) :
    Kept s (s.issue u f cls fn body) := by
  obtain hsame | ⟨b, hb, ⟨pc, code, hraise⟩ | ⟨y, hfinish⟩ | ⟨q, hs, ht, hdone⟩⟩ := issue_cases s u f cls fn body
  · rw [hsame]
    exact .refl s
  · rw [hraise]
    exact .raise (.of_booked hb) _ _ _ _
  · rw [hfinish]
    exact .finish (.of_booked hb) _ _
  · rw [hdone]
    exact .outcome hs (ht ▸ hb) (hbody q)

/-! ### Injection -/

theorem Kept.wake (s : State) (k n : Nat) : Kept s (s.wake k n) := .finish (.of_eq fun _ _ _ => rfl) _ _

theorem Kept.serveSends (s : State) (k : Nat) (ns : List Nat) : Kept s (s.serveSends k ns) := by
  induction ns generalizing s with
  | nil => exact .refl s
  | cons n ns ih =>
    have hwake : Kept s ((s.wake k n).serveSends k ns) := (Kept.wake s k n).trans (ih _)
    have hset : ∀ y, Kept s ((s.setTile k ((s.tile k).setThread n y)).serveSends k ns) := fun y =>
      (Kept.setTile (b := (s.tile k).setThread n y) (.of_eq fun _ _ _ => rfl)).trans (ih _)
    unfold State.serveSends
    extract_lets x
    split
    · exact .ite hwake (hset _)
    · exact .ite (ih s) hwake
    · exact hwake
    · exact .ite hwake (ih s)
    · exact ih s

theorem Tile.inject_sound (t : Tile) (draws : Nat) (d : SendDesc) (a b : Nat) : t.Sound (t.inject draws d a b).2.1 :=
  (Tile.Sound.countFixes ..).trans (.ite (.refl _) (.setSys (.inr (by decide))))

theorem Kept.injectHead (s : State) (k : Nat) (loose : Bool) (n : Nat) : Kept s (s.injectHead k loose n) := by
  unfold State.injectHead
  extract_lets m
  split
  · exact .refl s
  next d _ =>
    extract_lets i a b done
    split
    next d' t bad draws hinject =>
      extract_lets d'' keep s1 s2 s3
      have hsound : (s.tile k).Sound t := by
        have := (s.tile k).inject_sound s.draws d a b
        rwa [hinject] at this
      have hset : Kept s s1 := (Kept.of_tiles (t := { s with draws := draws }) rfl).trans (.setTile ((Tile.Recorded.of_eq hsound.record).trans (.of_eq (Tile.Sound.setQueue ..).record)))
      have hraise : Kept s s2 := by
        refine hset.trans ?_
        dsimp only [s2]
        split
        · exact .raise (.of_eq fun _ _ _ => rfl) _ _ _ _
        · exact .refl s1
      have hlaunch : Kept s s3 := hraise.trans (.ite (.of_tiles (State.launch_apart ..).tiles) (.refl s2))
      exact .ite hlaunch (hlaunch.trans (.serveSends _ _ _))

theorem Kept.sendInject (p : TileId) (loose : Bool) (h : exec (.sendInject p loose) s = .next t) : Kept s t := by
  have hnext : ∀ {x : State}, Kept s x → (Host.Outcome.next x : Answer) = .next t → Kept s t := fun hx heq => by cases heq; exact hx
  change execSendInject p loose s = .next t at h
  unfold execSendInject at h
  extract_lets k at h
  split at h
  · exact hnext (.refl s) h
  · split at h
    · exact hnext (.refl s) h
    · split at h
      · refine hnext ?_ h
        refine Kept.trans ?_ (.serveSends _ _ _)
        exact (Kept.setTile (.of_eq (Tile.Sound.setQueue ..).record)).trans (.of_tiles (State.emberError_apart ..).tiles)
      · split at h
        · split at h
          · exact hnext (.injectHead _ _ _ _) h
          · exact hnext (.refl s) h
        · extract_lets r at h
          split at h
          · exact hnext ((Kept.of_tiles (State.setRouter_tiles ..)).trans (.injectHead _ _ _ _)) h
          · exact hnext (.refl s) h

/-! ### The failed check and the write-back -/

theorem Kept.coreCheck (p : TileId) (h : exec (.coreCheck p) s = .next t) : Kept s t := by
  change execCoreCheck p s = .next t at h
  unfold execCoreCheck at h
  split at h
  · cases h
    exact .raise (.of_eq fun _ _ _ => rfl) _ _ _ _
  · cases h
    exact .refl s

theorem Kept.sramWriteBack (p : TileId) (w : BitVec 17) (h : exec (.sramWriteBack p w) s = .next t) : Kept s t := by
  change execSramWriteBack p w s = .next t at h
  unfold execSramWriteBack at h
  extract_lets x at h
  split at h
  · cases h
    exact .refl s
  · split at h
    · cases h
      exact .refl s
    · cases h
      exact .setTile (.of_eq fun _ _ _ => rfl)
    · cases h
      exact .raise (.of_eq fun _ _ _ => rfl) _ _ _ _

theorem Kept.tileCode {r : CodeRow} (hr : r ∈ tileCodes) (u : Issue) (f : Fields) (h : exec (r.2.2 u f) s = .next t) : Kept s t := by
  obtain ⟨body, hexec, hmild⟩ := tileCodes_mild r hr u f
  cases (hexec s).symm.trans h
  exact .issue hmild _ _ _ _ _

theorem Kept.parts (h : Kept s t) (k : Nat) (hk : flag ((s.tile k).sys 7) 31 = true) : (t.tile k).sys 8 = (s.tile k).sys 8 ∧
    (t.tile k).sys 9 = (s.tile k).sys 9 ∧ ((t.tile k).sys 7 = (s.tile k).sys 7 ∨ (t.tile k).sys 7 = setFlag ((s.tile k).sys 7) 30 true) :=
  ⟨(h k hk).info, (h k hk).addr, (h k hk).status⟩

end

/-- Settles O23: what raises faults keeps the record (`Kept`), a failed check writes it by `Tile.sys_recordFault`. -/
theorem firstFaultKept : Obligations.FirstFaultKept := by
  refine ⟨fun r hr u f s t h => (Kept.tileCode hr u f h).parts, fun k s t h => (Kept.coreCheck k h).parts, fun k w s t h => (Kept.sramWriteBack k w h).parts,
    fun k loose s t h => (Kept.sendInject k loose h).parts, fun k s hpower => ⟨_, if_pos hpower, ?_⟩⟩
  rw [State.tile_raise_same, Tile.sys_raised, Tile.sys_recordFault]
  rfl

end Sys2Proof.Machine

namespace Sys2Proof.Machine

/-! ## Which thread issues (R33, R34, R39, R45) -/

section
variable {s t : State} {u v : Issue} {f : Fields} {cls fn : Nat} {k : Nat}

/-- A command of the tables is the issue of some body. -/
theorem exec_issues {r : CodeRow} (hr : r ∈ tileCodes) (u : Issue) (f : Fields) :
    ∃ body, ∀ s, exec (r.2.2 u f) s = .next (s.issue u f r.1 r.2.1 body) := by
  obtain ⟨body, hexec, -⟩ := tileCodes_mild r hr u f
  exact ⟨body, hexec⟩

theorem classAllowed_eq_false {n : Fin 4} (h : (cls = 4 ∨ cls = 6 ∨ (cls = 8 ∧ fn ≠ 2)) ∧ n ≠ 0 ∨ cls = 7 ∧ n = 0) : classAllowed cls fn n = false := by
  have hn : n ≠ 0 → ((n : Nat) == 0) = false := fun hne => beq_false_of_ne fun hval => hne (Fin.ext hval)
  rcases h with ⟨rfl | rfl | ⟨rfl, hfn⟩, hloose⟩ | ⟨rfl, rfl⟩
  · exact hn hloose
  · exact hn hloose
  · change ((n : Nat) == 0 || fn == 2) = false
    rw [hn hloose, beq_false_of_ne hfn]
    rfl
  · rfl

/-- An instruction under a false predicate leaves its thread one instruction further (R33). -/
theorem issue_skips (h : s.fetched u f cls fn = true) (hoff : s.holds u f = false) (hend : (loopEnd (s.at_ u).loops (s.at_ u).pc).2 ≤ 4095)
    (body : Ctx → Effect) : let t := s.issue u f cls fn body
    sameBesideTiles s t ∧ onlyThread s t u [] ∧ sameRegisters (s.at_ u) (t.at_ u) ∧ goesOn (s.at_ u) (t.at_ u) := by
  obtain ⟨r, hissue⟩ := issue_off h hoff body
  obtain ⟨hrest, hthreads, -, hsys⟩ := booked (s.tile u.tile.key) (s.at_ u).pc u.thread (s.cycleOf u) r 0 (s.at_ u)
  have hset := hissue.trans (finish_on (y := (s.at_ u).atIssue) hend)
  obtain ⟨honly, hat⟩ := Booked.onlyThread ⟨hrest, hthreads, hsys⟩ (congrArg State.tiles hset)
  refine ⟨?_, honly, ?_, ?_⟩
  · rw [hset]; rfl
  · rw [hat]; exact ⟨rfl, rfl, rfl⟩
  · rw [hat]; exact ⟨rfl, rfl, rfl⟩

/-- A thread that fetches another instruction: nothing happens. -/
theorem issue_other (h : (s.tile u.tile.key).fetches u.thread cls fn f = false) (body : Ctx → Effect) : s.issue u f cls fn body = s := by
  unfold State.issue
  simp only [h, Bool.and_false, Bool.false_and, Bool.false_eq_true, if_false]

/-! ### The core's choice -/

theorem serveOrder_idxOf_zero (last : Nat) : (serveOrder last).idxOf 0 = 0 := rfl

theorem serveOrder_idxOf_pos (last : Nat) {n : Nat} (hn : n ≠ 0) : 0 < (serveOrder last).idxOf n := by
  rw [serveOrder, List.idxOf_cons_ne _ (Ne.symm hn)]
  exact Nat.succ_pos _

theorem lt_of_mem_serveOrder {last m : Nat} (h : m ∈ serveOrder last) : m < 4 := by
  simp only [serveOrder, List.mem_cons, List.not_mem_nil, or_false] at h
  omega

/-- The bound thread goes before a loose one that would issue in its cycle or a later one (R34). -/
theorem bound_ahead {n c : Nat} (hn : n ≠ 0) (hmay : s.mayIssue k 0 = true) (hcame : ((s.tile k).thread 0).came = false)
    (hc : (s.tile k).issueCycle 0 0 ≤ c) : s.chosen k n c = false := by
  have hrank := serveOrder_idxOf_pos (s.tile k).lastLoose hn
  have hahead : s.ahead k ((serveOrder (s.tile k).lastLoose).idxOf n) c 0 = true := by
    simp only [State.ahead, hmay, hcame, serveOrder_idxOf_zero, hrank, Bool.not_false, Bool.and_true, Bool.true_and, decide_true, Bool.or_eq_true, decide_eq_true_eq,
      beq_iff_eq]
    exact Nat.lt_or_eq_of_le hc
  unfold State.chosen
  rw [Bool.not_eq_false', List.any_eq_true]
  exact ⟨0, List.mem_cons_self, by rw [hahead, Bool.and_true, bne_iff_ne]; exact Ne.symm hn⟩

/-- A thread of the core's order: its cycle, and in one cycle its rank. -/
def State.turn (s : State) (k n : Nat) : Nat := 5 * (s.tile k).issueCycle n 0 + (serveOrder (s.tile k).lastLoose).idxOf n

theorem State.turn_lt_of_ahead {n m : Nat} (h : s.ahead k ((serveOrder (s.tile k).lastLoose).idxOf n) ((s.tile k).issueCycle n 0) m = true) :
    s.mayIssue k m = true ∧ s.turn k m < s.turn k n := by
  have hrank : (serveOrder (s.tile k).lastLoose).idxOf m ≤ 4 := List.idxOf_le_length
  simp only [State.ahead, Bool.and_eq_true, Bool.or_eq_true, decide_eq_true_eq, beq_iff_eq] at h
  obtain ⟨⟨hmay, -⟩, hbefore⟩ := h
  refine ⟨hmay, ?_⟩
  unfold State.turn
  omega

/-- Of threads that may issue, the first in the order is chosen (R34). -/
theorem exists_chosen (h : ∃ n < 4, s.mayIssue k n = true) :
    ∃ n < 4, s.mayIssue k n = true ∧ s.chosen k n ((s.tile k).issueCycle n 0) = true := by
  obtain ⟨n₀, hn₀, hmay₀⟩ := h
  obtain ⟨n, hn, hmin⟩ := ((Finset.range 4).filter fun n => s.mayIssue k n = true).exists_min_image (s.turn k)
    ⟨n₀, by simp only [Finset.mem_filter, Finset.mem_range]; exact ⟨hn₀, hmay₀⟩⟩
  simp only [Finset.mem_filter, Finset.mem_range] at hn hmin
  refine ⟨n, hn.1, hn.2, ?_⟩
  unfold State.chosen
  rw [Bool.not_eq_true', List.any_eq_false]
  intro m hm hahead
  rw [Bool.and_eq_true] at hahead
  obtain ⟨hmay, hturn⟩ := State.turn_lt_of_ahead hahead.2
  exact absurd (hmin m ⟨lt_of_mem_serveOrder hm, hmay⟩) (Nat.not_le.2 hturn)

/-! ### A loose thread's issue and the bound thread -/

/-- The bound thread's cycle rests on its own sequence, the core port and the array alone (R34, R44). -/
theorem issueCycle_bound {a b : Tile} (hrest : { b with threads := a.threads, cycle := a.cycle, lastLoose := a.lastLoose, portFree := a.portFree, til := a.til } = a)
    (hport : b.portFree = a.portFree) (hthread : b.thread 0 = a.thread 0) (hcame : (a.thread 0).came = false) (c : Nat) :
    b.issueCycle 0 c = a.issueCycle 0 c := by
  have hpstore : b.pstore = a.pstore := (congrArg Tile.pstore hrest :)
  have hextra : ∀ w, opExtra (wordClass w) (wordFunction w) b (a.thread 0) 0 (fieldsOf w) = opExtra (wordClass w) (wordFunction w) a (a.thread 0) 0 (fieldsOf w) :=
    fun w => (congrArg (fun t => opExtra (wordClass w) (wordFunction w) t (a.thread 0) 0 (fieldsOf w)) hrest :)
  have hlock : ∀ w, interlock w b (a.thread 0) 0 = interlock w a (a.thread 0) 0 := fun w => by
    unfold interlock
    simp only [hport, hextra]
  have hword : ∀ pc, b.word pc = a.word pc := fun pc => by rw [Tile.word, hpstore, Tile.word]
  unfold Tile.issueCycle
  simp only [hthread, hcame, hword, hlock, Bool.not_false, Bool.and_true, decide_true, if_true]

theorem booked_portFree (s : State) (u : Issue) : (s.booked u 0).portFree = (s.tile u.tile.key).portFree := by
  have hwait : ∀ (x : Tile) n, (x.addWait n).portFree = x.portFree := fun x n => by unfold Tile.addWait; split <;> rfl
  have hcount : ((s.tile u.tile.key).fetchCount (s.at_ u).pc).portFree = (s.tile u.tile.key).portFree := by unfold Tile.fetchCount; split <;> rfl
  unfold State.booked Tile.issued
  dsimp only
  split
  · split
    · exact (hwait _ _).trans hcount
    · exact hcount
  · exact hcount

theorem Thread.ws_place (x : Thread) (d : Nat) (v : DWord) (c : Nat) : (x.ws d v c).loops = x.loops ∧ (x.ws d v c).pc = x.pc := by
  unfold Thread.ws
  split
  · exact ⟨rfl, rfl⟩
  · exact ⟨rfl, rfl⟩

theorem add_keeps_bound (h : s.clear u f 0 0x00 = true) (hloose : u.thread ≠ 0) (htile : v.tile = u.tile) (hbound : v.thread = 0)
    (hcame : (s.at_ v).came = false) (hexec : exec (.add u f) s = .next t) : t.cycleOf v = s.cycleOf v := by
  obtain ⟨hlegal, hend⟩ := State.clear_legal h
  have hbooked := s.booked_books u 0
  have hlast : ∀ {d x c}, (loopEnd ((s.at_ u).atIssue.ws d x c).loops ((s.at_ u).atIssue.ws d x c).pc).2 ≤ 4095 := fun {d x c} => by
    obtain ⟨hloops, hpc⟩ := (s.at_ u).atIssue.ws_place d x c
    rw [hloops, hpc]
    exact hend
  cases hexec
  unfold State.cycleOf
  rw [htile, hbound]
  have hne : (0 : Nat) ≠ u.thread.val := fun heq => hloose (Fin.ext heq.symm)
  rw [show scalarRR 0x00 (fun a b => a + b) 1 u f s = s.setTile u.tile.key ((s.booked u 0).setThread u.thread _) from
    (issue_runs hlegal _).trans (outcome_done hlast), State.tile_setTile, if_pos rfl]
  refine issueCycle_bound (b := (s.booked u 0).setThread u.thread _) hbooked.rest (booked_portFree s u) ?_ ?_ _
  · rw [Tile.thread_setThread, if_neg hne, hbooked.thread]
  · rwa [State.at_, htile, hbound] at hcame

end

/-- Settles O21: a class fault by `faultDone_of_class`, a step over a false predicate by `issue_skips`, no issue by the tests of `State.issue`, and the core's
choice by the order of `State.turn`. -/
theorem issueRules : Obligations.IssueRules := by
  refine ⟨fun r hr u f s hclass hfetched hholds hreads => ?_, fun r hr u f s hfetched hoff hend => ?_, fun r hr u f s hnone => ?_,
    fun s k n hn _ hmay hcame c hc => bound_ahead hn hmay hcame hc, fun s k _ hmay => exists_chosen hmay,
    fun s t u v f h hloose htile hbound hcame hexec => add_keeps_bound h hloose htile hbound hcame hexec⟩
  · obtain ⟨body, hexec⟩ := exec_issues hr u f
    exact ⟨_, hexec s, faultDone_of_class hfetched hholds hreads (classAllowed_eq_false hclass) body⟩
  · obtain ⟨body, hexec⟩ := exec_issues hr u f
    exact ⟨_, hexec s, issue_skips hfetched hoff hend body⟩
  · obtain ⟨body, hexec⟩ := exec_issues hr u f
    rw [hexec s]
    rcases hnone with hidle | hwaits | hother
    · rw [issue_idle hidle]
    · rw [issue_waits hwaits]
    · rw [issue_other hother]

end Sys2Proof.Machine

namespace Sys2Proof.Machine

/-! ## The guard start (R49, R220) -/

/-- A state at or after the guard start of `r`'s tick: the guard latched, an overrun never withdrawn, and what the margin is judged by as it was. -/
structure Judged (r s : State) : Prop where
  guard : s.tick.guard = r.tick.guard
  overrun : r.tick.overrun = true → s.tick.overrun = true
  lastDone : s.tick.lastDone = r.tick.lastDone
  acted : s.thermal.acted = r.thermal.acted
  reg : ∀ a ∈ marginRegs, s.reg a = r.reg a

/-- The tick's guard latched and its overrun judged. -/
def State.latchGuard (s : State) : State := { s with tick := { s.tick with guard := true, overrun := s.overran } }

/-- What a guard start checks, up to the record of the margin. -/
def State.checkTick (s : State) : State :=
  let s := s.latchGuard.sendFrame 2 0xFF 0x40 (s.seq % 2 ^ 32)
  let s := ((s.checkGroups groupPlaces).checkRounds roundPlaces).checkFabric (List.range 6)
  let s := (s.checkTileWindows (List.range 16)).checkStackWindows (List.range 16)
  s.lockAll (fun r => decide (s.budget ≤ r.word3)) (List.range 16)

/-- What waits for a guard start. -/
def State.atGuard (s : State) : State := s.upkeepNow.takeReference.giveBack.mapsDone

section
variable {r s t : State}

theorem execGuardStart_eq (hticking : s.ticking = true) (hopen : s.tick.isOpen = true) (hguard : s.tick.guard = false) :
    ∃ t, exec .guardStart s = .next t ∧ (t = s.checkTick.recordMargin.atGuard ∨ t = s.checkTick.recordMargin.atGuard.teardown) := by
  change ∃ t, execGuardStart s = .next t ∧ _
  unfold execGuardStart
  rw [if_neg (by rw [hticking, hopen, hguard]; decide)]
  extract_lets s1 s2 s3 s4 s5 s6
  refine ⟨_, rfl, ?_⟩
  split
  · exact .inr rfl
  · exact .inl rfl

theorem Judged.refl (r : State) : Judged r r := ⟨rfl, id, rfl, rfl, fun _ _ => rfl⟩

/-- An update of other fields. -/
theorem Judged.of_fields (h : Judged r s) (hguard : t.tick.guard = s.tick.guard) (hover : t.tick.overrun = s.tick.overrun)
    (hdone : t.tick.lastDone = s.tick.lastDone) (hacted : t.thermal.acted = s.thermal.acted) (hregs : t.regs = s.regs) : Judged r t :=
  ⟨hguard.trans h.guard, fun ho => hover.trans (h.overrun ho), hdone.trans h.lastDone, hacted.trans h.acted,
    fun a ha => (congrArg (fun m => m.get (regReset a) a) hregs).trans (h.reg a ha)⟩

theorem framed_parts (h : t.framed = s.framed) : t.tiles = s.tiles ∧ t.stackMem = s.stackMem ∧ t.boot.flash = s.boot.flash ∧ t.regs = s.regs ∧
    t.tick.guard = s.tick.guard ∧ t.tick.lastDone = s.tick.lastDone ∧ t.thermal.acted = s.thermal.acted := by
  simpa only [State.framed, Prod.mk.injEq] using h

theorem Judged.frame (r : State) : Frame (Judged r) where
  reg {_ a _} ha h := ⟨h.guard, h.overrun, h.lastDone, h.acted, fun b hb => by
    rw [State.reg_setReg, if_neg (fun heq : b = a => ha (heq ▸ hb))]
    exact h.reg b hb⟩
  stack _ h := h.of_fields rfl rfl rfl rfl rfl
  rest h hframed hover := by
    obtain ⟨-, -, -, hregs, hguard, hdone, hacted⟩ := framed_parts hframed
    exact ⟨hguard.trans h.guard, hover ∘ h.overrun, hdone.trans h.lastDone, hacted.trans h.acted,
      fun a ha => (congrArg (fun m => m.get (regReset a) a) hregs).trans (h.reg a ha)⟩

theorem Judged.teardown (h : Judged r s) : Judged r s.teardown := by
  have hF := Judged.frame r
  unfold State.teardown
  extract_lets _ s0 s1 s2 _ _ s3
  have h0 : Judged r s0 := hF.resolve (hF.rest h rfl id)
  have h1 : Judged r s1 := hF.orReg (by decide) h0
  have h2 : Judged r s2 := hF.dropSnapshot h1
  have h3 : Judged r s3 := h2.of_fields rfl rfl rfl rfl rfl
  exact hF.ite h (hF.go (hF.setRegFld (by decide) h3))

theorem Judged.checkTick (s : State) : Judged s.latchGuard s.checkTick := by
  have hF := Judged.frame s.latchGuard
  exact hF.lockAll (hF.checkStackWindows (hF.checkTileWindows (hF.checkFabric (hF.checkRounds (hF.checkGroups (hF.sendFrame (.refl _)))))))

theorem Judged.atGuard (h : Judged r s) : Judged r s.atGuard :=
  have hF := Judged.frame r
  hF.mapsDone (hF.giveBack (hF.takeReference (hF.upkeepNow h)))

theorem Judged.seq (h : Judged r s) : s.seq = r.seq := by
  unfold State.seq State.reg64
  rw [h.reg _ (by decide), h.reg _ (by decide)]

/-! ### The margin -/

/-- The margin of a tick without an overrun or a damped die, in ns (R220). -/
def State.exactMargin (s : State) : Nat := (32 * (s.reg Reg.TCK_GUARD_OFF).toNat - 5 * s.tick.lastDone) / 32

theorem recordMargin_reg (s : State) : ∃ m, (s.recordMargin).reg Reg.TCK_MARGIN = BitVec.ofNat 32 ((if s.tick.overrun then 2 ^ 31 else 0) + m % 2 ^ 31) ∧
    (s.tick.overrun = true → m = 0) ∧ (s.tick.overrun = false → s.damped = false → m = s.exactMargin) := by
  unfold State.recordMargin
  extract_lets exact m s1 s2
  refine ⟨m, ?_, fun hover => if_pos hover, fun hover hdamped => ?_⟩
  · have hset : s2.reg Reg.TCK_MARGIN = BitVec.ofNat 32 ((if s1.tick.overrun then 2 ^ 31 else 0) + m % 2 ^ 31) := by
      rw [State.reg_setReg, if_pos rfl]
    split
    · rw [State.reg_setReg, if_neg (by decide)]
      exact hset
    · exact hset
  · dsimp only [m, exact]
    rw [hover, hdamped]
    rfl

theorem recordMargin_tick (s : State) : s.recordMargin.tick = s.tick ∧ s.recordMargin.seq = s.seq := by
  have hreg : ∀ a, a ≠ Reg.TCK_MARGIN → a ≠ Reg.TCK_MIN_MARGIN → s.recordMargin.reg a = s.reg a := fun a h1 h2 => by
    unfold State.recordMargin
    extract_lets exact m s1 s2
    split
    · rw [State.reg_setReg, if_neg h2, State.reg_setReg, if_neg h1]; rfl
    · rw [State.reg_setReg, if_neg h1]; rfl
  refine ⟨?_, ?_⟩
  · unfold State.recordMargin
    extract_lets exact m s1 s2
    split
    · rfl
    · rfl
  · unfold State.seq State.reg64
    rw [hreg _ (by decide) (by decide), hreg _ (by decide) (by decide)]

theorem damped_eq_false (h : ∀ d, s.thermal.acted.get 0 d = 0) : s.damped = false := by
  unfold State.damped
  rw [List.any_eq_false]
  intro kt _
  rw [h, Bool.and_eq_true]
  exact fun hb => Bool.false_ne_true hb.2

/-- A guard start latches the guard, keeps an overrun and records the margin (R49, R220). -/
theorem guardStart_judges (hticking : s.ticking = true) (hopen : s.tick.isOpen = true) (hguard : s.tick.guard = false) :
    ∃ t : State, exec .guardStart s = .next t ∧ t.tick.guard = true ∧ t.seq = s.seq ∧
      (s.overran = true → t.tick.overrun = true ∧ t.reg Reg.TCK_MARGIN = 0x80000000) ∧
      (t.tick.overrun = false → (∀ d, s.thermal.acted.get 0 d = 0) →
        (t.reg Reg.TCK_MARGIN).toNat = (32 * (s.reg Reg.TCK_GUARD_OFF).toNat - 5 * s.tick.lastDone) / 32 % 2 ^ 31) := by
  obtain ⟨t, hexec, hend⟩ := execGuardStart_eq hticking hopen hguard
  have hchecked := Judged.checkTick s
  obtain ⟨htick, hseq⟩ := recordMargin_tick s.checkTick
  obtain ⟨m, hmargin, hover, hexact⟩ := recordMargin_reg s.checkTick
  have hafter : Judged s.checkTick.recordMargin t := by
    rcases hend with rfl | rfl
    · exact (Judged.refl _).atGuard
    · exact (Judged.refl _).atGuard.teardown
  have hreg : t.reg Reg.TCK_MARGIN = s.checkTick.recordMargin.reg Reg.TCK_MARGIN := hafter.reg _ (by decide)
  refine ⟨t, hexec, ?_, ?_, fun hran => ?_, fun hnone hacted => ?_⟩
  · rw [hafter.guard, htick, hchecked.guard]
    rfl
  · rw [hafter.seq, hseq, hchecked.seq]
    rfl
  · have hran' : s.checkTick.tick.overrun = true := hchecked.overrun hran
    refine ⟨hafter.overrun (by rw [htick, hran']), ?_⟩
    rw [hreg, hmargin, hran', hover hran']
    rfl
  · have hnone' : s.checkTick.tick.overrun = false := by
      rw [← htick]
      exact Bool.eq_false_iff.2 fun htrue => Bool.false_ne_true (hnone.symm.trans (hafter.overrun htrue))
    have hdamped : s.checkTick.damped = false := damped_eq_false fun d => by rw [hchecked.acted]; exact hacted d
    rw [hreg, hmargin, hnone', hexact hnone' hdamped, State.exactMargin, hchecked.reg _ (by decide), hchecked.lastDone]
    simp only [Bool.false_eq_true, if_false, Nat.zero_add, BitVec.toNat_ofNat]
    exact Nat.mod_eq_of_lt (Nat.lt_trans (Nat.mod_lt _ (by decide)) (by decide))

end

/-! ## The reference (R221, R222) -/

section
variable {s : State}

theorem shown_fields (v : Nat) (hv : v < 4) (edges : Bool) : let w : Word := BitVec.ofNat 32 (v * 2 ^ 30 + (if edges then 2 ^ 29 else 0))
    fld w 31 30 = v ∧ flag w 29 = edges ∧ flag w 28 = false := by
  interval_cases v <;> cases edges <;> decide

theorem toInt_intWord {x : Int} (hlow : -2147483648 ≤ x) (hhigh : x ≤ 2147483647) : (intWord x).toInt = x :=
  BitVec.toInt_ofInt_eq_self (by decide) hlow (by omega)

/-- A loss is taken note of while the module is on and not yet on its oscillator. -/
theorem referenceLost_noted (hmode : s.mode ≠ .off) (hsrc : fld (s.reg Reg.CLK_STATUS) 31 30 ≠ 2) :
    ¬(s.mode == .off || (fld (s.reg Reg.CLK_STATUS) 31 30 == 2 && !(flag (s.reg Reg.CLK_STATUS) 28))) = true := by
  rw [beq_false_of_ne hmode, beq_false_of_ne hsrc]
  exact Bool.false_ne_true

theorem referenceLost_holds (edges : Bool) (hmode : s.mode ≠ .off) (hsrc : fld (s.reg Reg.CLK_STATUS) 31 30 ≠ 2) :
    ∃ t : State, exec (.referenceLost false edges) s = .next t ∧ { t with regs := s.regs } = s ∧ fld (t.reg Reg.CLK_STATUS) 31 30 = 1 ∧
      flag (t.reg Reg.CLK_STATUS) 29 = edges ∧ flag (t.reg Reg.CLK_STATUS) 28 = false := by
  refine ⟨s.setReg Reg.CLK_STATUS (BitVec.ofNat 32 (1 * 2 ^ 30 + (if edges then 2 ^ 29 else 0))), ?_, rfl, ?_⟩
  · change execReferenceLost false edges s = _
    unfold execReferenceLost
    extract_lets src shown
    rw [if_neg (referenceLost_noted hmode hsrc), if_pos (by rfl), if_neg hsrc]
  · rw [State.reg_setReg, if_pos rfl]
    exact shown_fields 1 (by decide) edges

/-- A free offset of the oscillator lies within ±10 ppm. -/
theorem toInt_oscOffset (n : Nat) : -10000 ≤ (intWord ((n % 20001 : Nat) - (10000 : Int))).toInt ∧ (intWord ((n % 20001 : Nat) - (10000 : Int))).toInt ≤ 10000 := by
  have := Nat.mod_lt n (y := 20001) (by decide)
  rw [toInt_intWord (by omega) (by omega)]
  omega

/-- The hub on its oscillator: status, event and count of the loss. -/
def State.onOscillator (s : State) (edges : Bool) : State :=
  ((s.setReg Reg.CLK_STATUS (BitVec.ofNat 32 (2 * 2 ^ 30 + (if edges then 2 ^ 29 else 0)))).orReg Reg.CLK_EVENTS 1).bumpReg Reg.CLK_REF_LOSSES 15 0

theorem onOscillator_regs (s : State) (edges : Bool) : { s.onOscillator edges with regs := s.regs } = s := rfl

theorem onOscillator_status (s : State) (edges : Bool) : fld ((s.onOscillator edges).reg Reg.CLK_STATUS) 31 30 = 2 := by
  rw [State.onOscillator, State.bumpReg_eq, State.reg_setReg, if_neg (by decide), State.orReg_eq, State.reg_setReg, if_neg (by decide),
    State.reg_setReg, if_pos rfl]
  exact (shown_fields 2 (by decide) edges).1

theorem onOscillator_event (s : State) (edges : Bool) : flag ((s.onOscillator edges).reg Reg.CLK_EVENTS) 0 = true := by
  rw [State.onOscillator, State.bumpReg_eq, State.reg_setReg, if_neg (by decide), State.orReg_eq, State.reg_setReg, if_pos rfl, flag_or]
  exact Bool.or_true _

theorem onOscillator_count (s : State) (edges : Bool) :
    fld ((s.onOscillator edges).reg Reg.CLK_REF_LOSSES) 15 0 = min (fld (s.reg Reg.CLK_REF_LOSSES) 15 0 + 1) 65535 := by
  rw [State.onOscillator, State.bumpReg_eq, State.reg_setReg, if_pos rfl, fld_bumpFld_same _ _ (by decide) (by decide), State.orReg_eq,
    State.reg_setReg, if_neg (by decide), State.reg_setReg, if_neg (by decide)]
  rfl

theorem referenceLost_switches (edges : Bool) (hmode : s.mode ≠ .off) (hsrc : fld (s.reg Reg.CLK_STATUS) 31 30 ≠ 2) :
    ∃ t : State, exec (.referenceLost true edges) s = .next t ∧ { t with regs := s.regs, draws := s.draws } = s ∧ fld (t.reg Reg.CLK_STATUS) 31 30 = 2 ∧
      flag (t.reg Reg.CLK_EVENTS) 0 = true ∧ fld (t.reg Reg.CLK_REF_LOSSES) 15 0 = min (fld (s.reg Reg.CLK_REF_LOSSES) 15 0 + 1) 65535 ∧
      -10000 ≤ (t.reg Reg.CLK_OSC_OFFSET).toInt ∧ (t.reg Reg.CLK_OSC_OFFSET).toInt ≤ 10000 := by
  have hreg : ∀ (w : Word) a, (((s.onOscillator edges).setReg Reg.CLK_OSC_OFFSET w).drawn).reg a =
      if a = Reg.CLK_OSC_OFFSET then w else (s.onOscillator edges).reg a := fun w a => State.reg_setReg ..
  refine ⟨((s.onOscillator edges).setReg Reg.CLK_OSC_OFFSET (intWord (((s.onOscillator edges).free % 20001 : Nat) - (10000 : Int)))).drawn,
    ?_, onOscillator_regs s edges, ?_, ?_, ?_, ?_⟩
  · change execReferenceLost true edges s = _
    unfold execReferenceLost
    extract_lets src shown s1
    rw [if_neg (referenceLost_noted hmode hsrc), if_neg (by exact Bool.false_ne_true), if_neg hsrc]
    rfl
  · rw [hreg, if_neg (by decide), onOscillator_status]
  · rw [hreg, if_neg (by decide), onOscillator_event]
  · rw [hreg, if_neg (by decide), onOscillator_count]
  · rw [hreg, if_pos rfl]
    exact toInt_oscOffset _

/-- The source of the clock shown as the reference again. -/
theorem followed_status (s : State) : fld ((s.setRegFld Reg.CLK_STATUS 31 30 0).reg Reg.CLK_STATUS) 31 30 = 0 ∧
    flag ((s.setRegFld Reg.CLK_STATUS 31 30 0).reg Reg.CLK_STATUS) 28 = flag (s.reg Reg.CLK_STATUS) 28 := by
  rw [State.setRegFld_eq, State.reg_setReg, if_pos rfl, fld_setFld_same _ _ (by decide) (by decide), flag_setFld_other _ _ (by decide) (by decide) (by decide)]
  exact ⟨rfl, rfl⟩

theorem regs_setReg {s t : State} (h : { t with regs := s.regs } = s) (a : Nat) (w : Word) : { t.setReg a w with regs := s.regs } = s := h

theorem followed_regs {s t : State} (h : { t with regs := s.regs } = s) : { t.setRegFld Reg.CLK_STATUS 31 30 0 with regs := s.regs } = s :=
  regs_setReg (t := t) h _ _

theorem takeReference_regs {s t : State} (h : { t with regs := s.regs } = s) : { t.takeReference with regs := s.regs } = s := by
  unfold State.takeReference
  split
  · exact regs_setReg (t := t.setRegFld Reg.CLK_STATUS 31 30 0) (followed_regs h) _ _
  · exact h

theorem takeReference_returned (s : State) : flag (s.takeReference.reg Reg.CLK_STATUS) 28 = flag (s.reg Reg.CLK_STATUS) 28 := by
  unfold State.takeReference
  split
  · rw [State.orReg_eq, State.reg_setReg, if_neg (by decide)]
    exact (followed_status s).2
  · rfl

theorem takeReference_takes (hsrc : fld (s.reg Reg.CLK_STATUS) 31 30 = 2) (hback : flag (s.reg Reg.CLK_STATUS) 28 = true)
    (hctrl : flag (s.reg Reg.CLK_CTRL) 0 = true) :
    fld (s.takeReference.reg Reg.CLK_STATUS) 31 30 = 0 ∧ flag (s.takeReference.reg Reg.CLK_EVENTS) 1 = true := by
  unfold State.takeReference
  rw [if_pos (by rw [hback, hctrl, hsrc]; rfl)]
  refine ⟨?_, ?_⟩
  · rw [State.orReg_eq, State.reg_setReg, if_neg (by decide)]
    exact (followed_status s).1
  · rw [State.orReg_eq, State.reg_setReg, if_pos rfl, flag_or]
    exact Bool.or_true _

/-- The reference back in range, edges present. -/
def State.referenceBack (s : State) : State := s.setRegFld Reg.CLK_STATUS 29 28 3

theorem referenceBack_status (s : State) : fld (s.referenceBack.reg Reg.CLK_STATUS) 31 30 = fld (s.reg Reg.CLK_STATUS) 31 30 ∧
    flag (s.referenceBack.reg Reg.CLK_STATUS) 28 = true ∧ s.referenceBack.reg Reg.CLK_CTRL = s.reg Reg.CLK_CTRL := by
  have hstatus : s.referenceBack.reg Reg.CLK_STATUS = setFld (s.reg Reg.CLK_STATUS) 29 28 3 := (State.reg_setReg ..).trans (if_pos rfl)
  refine ⟨?_, ?_, (State.reg_setReg ..).trans (if_neg (by decide))⟩
  · rw [hstatus, fld_setFld_other _ _ (by decide) (by decide) (by decide)]
  · rw [hstatus, flag, getLsbD_setFld _ _ _ (by decide) (by decide)]
    rfl

theorem referenceBack_regs (s : State) : { s.referenceBack with regs := s.regs } = s := regs_setReg (t := s) rfl _ _

theorem execReferenceReturned_eq (hmode : s.mode ≠ .off) :
    exec .referenceReturned s = if fld (s.referenceBack.reg Reg.CLK_STATUS) 31 30 = 1 then .next (s.referenceBack.setRegFld Reg.CLK_STATUS 31 30 0)
      else .next (if s.referenceBack.ticking then s.referenceBack else s.referenceBack.takeReference) := by
  change execReferenceReturned s = _
  unfold execReferenceReturned
  rw [beq_false_of_ne hmode, if_neg Bool.false_ne_true]
  rfl

theorem referenceReturned_takes (hmode : s.mode ≠ .off) :
    ∃ t : State, exec .referenceReturned s = .next t ∧ { t with regs := s.regs } = s ∧ flag (t.reg Reg.CLK_STATUS) 28 = true ∧
    (fld (s.reg Reg.CLK_STATUS) 31 30 = 1 → fld (t.reg Reg.CLK_STATUS) 31 30 = 0) ∧
    (s.ticking = true → fld (s.reg Reg.CLK_STATUS) 31 30 ≠ 1 → fld (t.reg Reg.CLK_STATUS) 31 30 = fld (s.reg Reg.CLK_STATUS) 31 30) ∧
    (s.ticking = false → fld (s.reg Reg.CLK_STATUS) 31 30 = 2 → flag (s.reg Reg.CLK_CTRL) 0 = true →
      fld (t.reg Reg.CLK_STATUS) 31 30 = 0 ∧ flag (t.reg Reg.CLK_EVENTS) 1 = true) := by
  obtain ⟨hsrc, hback, hctrl⟩ := referenceBack_status s
  have hexec := execReferenceReturned_eq hmode
  have hticks : s.referenceBack.ticking = s.ticking := by
    rw [State.ticking, State.referenceBack, State.setRegFld_mode, State.ticking]
  rw [hexec, hsrc, hticks]
  by_cases hone : fld (s.reg Reg.CLK_STATUS) 31 30 = 1
  · rw [if_pos hone]
    obtain ⟨hfollows, hkeeps⟩ := followed_status s.referenceBack
    refine ⟨s.referenceBack.setRegFld Reg.CLK_STATUS 31 30 0, rfl, followed_regs (referenceBack_regs s), ?_, ?_, ?_, ?_⟩
    · exact hkeeps.trans hback
    · exact fun _ => hfollows
    · exact fun _ hne => absurd hone hne
    · exact fun _ htwo => absurd (hone.symm.trans htwo) (by decide)
  · rw [if_neg hone]
    cases hticking : s.ticking with
    | true =>
      rw [if_pos rfl]
      exact ⟨_, rfl, referenceBack_regs s, hback, fun h => absurd h hone, fun _ _ => hsrc, fun h => by cases h⟩
    | false =>
      rw [if_neg Bool.false_ne_true]
      exact ⟨_, rfl, takeReference_regs (referenceBack_regs s), (takeReference_returned _).trans hback, fun h => absurd h hone, fun h => (by cases h),
        fun _ htwo hret => takeReference_takes (hsrc.trans htwo) hback (by rw [hctrl, hret])⟩

/-! ## Stretched periods (R209, R210) -/

theorem droopStretch_counts {d : Fin 16} {r : Fin 8} {q : Fin 3} (hticking : s.ticking = true) (hopen : s.tick.isOpen = true) (hon : s.unitOn d = true) :
    exec (.droopStretch d r q) s = .next ((s.bumpReg (Reg.CLK_RGN_CUR_COUNT (16 * d.val + r.val)) 31 0).bumpReg
      (Reg.CLK_RGN_CUR_TIME (16 * d.val + r.val)) 31 0 (2 ^ q.val)) :=
  if_pos (by rw [hticking, hopen, hon]; rfl)

end

end Sys2Proof.Machine

namespace Sys2Proof.Machine

/-! ## PTP (R226, R227, R313) -/

section
variable {s t : State}

/-- A PTP message of the port and domain in use is taken. -/
theorem ptpMessage_taken {i : Fin 2} {h : FrameHead} {c : Carried} {p : PtpHead} (hup : s.portUp i = true) (haccepts : s.accepts i h = true)
    (hptp : s.dispatch i c = .ptp) (hon : flag (s.reg Reg.TCK_PTP_CTRL) 31 = true) (hport : fld (s.reg Reg.TCK_PTP_CTRL) 30 30 = i)
    (hdomain : p.domain.toNat = fld (s.reg Reg.TCK_PTP_CTRL) 23 16) (m : PtpMsg) : exec (.ptpMessage i h c p m) s = .next (s.ptp i p m) := by
  change Host.Outcome.next (s.onTraffic i h c .ptp _) = _
  rw [State.onTraffic, if_neg (by rw [hup, haccepts]; exact Bool.false_ne_true), if_pos hptp]
  exact congrArg Host.Outcome.next (if_pos (by rw [hon, hport, hdomain]; simp))

/-- A message of the master is the module's. -/
theorem master_mine {x : PtpState} {p : PtpHead} {d : PtpDataset} (h : x.master = some (p.sender, d)) : x.master.any (fun y => y.1 == p.sender) = true := by
  rw [h]
  exact beq_self_eq_true _

theorem ptp_announce {p : PtpHead} (i : Nat) (d : PtpDataset) (hnone : s.host.ptp.master = none) :
    (s.ptp i p (.announce d)).host.ptp = { s.host.ptp with master := some (p.sender, d) } := by
  simp only [State.ptp, hnone, if_true]

theorem ptp_sync {p : PtpHead} {d : PtpDataset} (i : Nat) (hmaster : s.host.ptp.master = some (p.sender, d)) (hlow : -7 ≤ p.interval) (hhigh : p.interval ≤ 1) :
    s.ptp i p (.sync true) = s.takeSync i p :=
  if_pos (by rw [master_mine hmaster]; simp [hlow, hhigh])

theorem ptp_delayResp {p : PtpHead} {d : PtpDataset} {t1 t2 t3 : Nat} (i t4 : Nat) (hmaster : s.host.ptp.master = some (p.sender, d))
    (hasked : s.host.ptp.asked = some (p.seq, t3)) (hpair : s.host.ptp.pair = some (t1, t2)) :
    (s.ptp i p (.delayResp t4)).host.ptp.delay = (((t2 : Int) - t1) + ((t4 : Int) - t3)) / 2 := by
  simp only [State.ptp, hasked, hpair, master_mine hmaster, beq_self_eq_true, Bool.and_self, if_true]

/-- The timestamps of a Sync and its Follow_Up, taken. -/
def State.pairTimes (s : State) (t1 t2 : Nat) : State := { s with host := { s.host with ptp := { s.host.ptp with sync := none, pair := some (t1, t2) } } }

theorem ptp_followUp {p : PtpHead} {d : PtpDataset} {t2 : Nat} (i t1 : Nat) (hmaster : s.host.ptp.master = some (p.sender, d))
    (hsync : s.host.ptp.sync = some (p.seq, t2)) :
    s.ptp i p (.followUp t1) = (s.pairTimes t1 t2).syncEnd ((t2 : Int) - t1 - s.host.ptp.delay) := by
  simp only [State.ptp, hsync, master_mine hmaster, beq_self_eq_true, Bool.and_self, if_true]
  rfl

/-! ### The servo -/

/-- A state with the counter, the mode, the timestamps and the offset shown of another. -/
def State.SameOffset (s t : State) : Prop := t.clock = s.clock ∧ t.mode = s.mode ∧ t.host.ptp.sync = s.host.ptp.sync ∧ t.host.ptp.pair = s.host.ptp.pair ∧
    t.reg Reg.TCK_PTP_OFFSET = s.reg Reg.TCK_PTP_OFFSET

theorem State.SameOffset.setReg (h : s.SameOffset t) {a : Nat} (ha : Reg.TCK_PTP_OFFSET ≠ a) (w : Word) : s.SameOffset (t.setReg a w) := by
  obtain ⟨hclock, hmode, hsync, hpair, hreg⟩ := h
  exact ⟨hclock, hmode, hsync, hpair, ((State.reg_setReg ..).trans (if_neg ha)).trans hreg⟩

theorem judgeLock_keeps (s : State) (n : Nat) : s.SameOffset (s.judgeLock n) := by
  unfold State.judgeLock
  extract_lets p b a _ s1
  have hs1 : s.SameOffset s1 := ⟨rfl, rfl, rfl, rfl, rfl⟩
  split
  · rw [State.setRegFld_eq]
    exact hs1.setReg (by decide) _
  · split
    · rw [State.orReg_eq, State.setRegFld_eq]
      exact (hs1.setReg (by decide) _).setReg (by decide) _
    · exact hs1

theorem judgeLock_locks {n : Nat} (hoffset : n < 500) (hbelow : s.host.ptp.below = 15) : flag ((s.judgeLock n).reg Reg.TCK_PTP_STATUS) 31 = true := by
  unfold State.judgeLock
  extract_lets p b a _ s1
  have hb : b = 16 := by
    dsimp only [b, p]
    rw [if_pos hoffset, hbelow]
    rfl
  rw [if_pos hb, State.setRegFld_eq, State.reg_setReg, if_pos rfl, flag_setFld_bit _ _ (by decide)]
  rfl

/-- The offset shown and the lock judged. -/
def State.showOffset (s : State) (offset : Int) : State :=
  ((s.setReg Reg.TCK_PTP_OFFSET (intWord (clampInt (-2147483648) 2147483647 offset))).setRegFld Reg.TCK_PTP_STATUS 15 0 0).judgeLock offset.natAbs

/-- The rate trimmed by a free value. -/
def State.trimRate (s : State) : State :=
  { s with slew := s.slew.set 0 36 ((s.free % 50001 : Nat) - (25000 : Int)), draws := s.draws + 1,
           regs := s.regs.set (regReset Reg.TCK_PTP_FREQ) Reg.TCK_PTP_FREQ (intWord ((s.free % 50001 : Nat) - (25000 : Int))) }

theorem syncEnd_eq (s : State) (offset : Int) : s.syncEnd offset =
    if decide (offset.natAbs > 1000000) && !(s.showOffset offset).ticking then (s.showOffset offset).stepTime (-offset) else (s.showOffset offset).trimRate := rfl

theorem showOffset_keeps (s : State) (offset : Int) : (s.showOffset offset).clock = s.clock ∧ (s.showOffset offset).ticking = s.ticking ∧
    (s.showOffset offset).host.ptp.sync = s.host.ptp.sync ∧ (s.showOffset offset).host.ptp.pair = s.host.ptp.pair := by
  obtain ⟨hclock, hmode, hsync, hpair, -⟩ :=
    judgeLock_keeps ((s.setReg Reg.TCK_PTP_OFFSET (intWord (clampInt (-2147483648) 2147483647 offset))).setRegFld Reg.TCK_PTP_STATUS 15 0 0) offset.natAbs
  refine ⟨hclock, ?_, hsync, hpair⟩
  rw [State.ticking, State.showOffset, hmode, State.setRegFld_mode, State.setReg_mode, State.ticking]

theorem showOffset_reg (s : State) {offset : Int} (hlow : -2147483648 ≤ offset) (hhigh : offset ≤ 2147483647) :
    ((s.showOffset offset).reg Reg.TCK_PTP_OFFSET).toInt = offset := by
  have hclamp : clampInt (-2147483648) 2147483647 offset = offset := by
    rw [clampInt, max_eq_right hlow, min_eq_right hhigh]
  rw [State.showOffset, (judgeLock_keeps _ _).2.2.2.2, State.setRegFld_eq, State.reg_setReg, if_neg (by decide), State.reg_setReg, if_pos rfl, hclamp]
  exact toInt_intWord hlow hhigh

theorem showOffset_locks {offset : Int} (hoffset : offset.natAbs < 500) (hbelow : s.host.ptp.below = 15) :
    flag ((s.showOffset offset).reg Reg.TCK_PTP_STATUS) 31 = true := judgeLock_locks hoffset hbelow

theorem stepTime_reg (s : State) (x : Int) {a : Nat} (h : a ≠ Reg.TCK_EVENTS) : (s.stepTime x).reg a = s.reg a := by
  unfold State.stepTime
  rw [State.orReg_eq, State.reg_setReg, if_neg h]
  rfl

theorem stepTime_event (s : State) (x : Int) : flag ((s.stepTime x).reg Reg.TCK_EVENTS) 1 = true := by
  unfold State.stepTime
  rw [State.orReg_eq, State.reg_setReg, if_pos rfl, flag_or]
  exact Bool.or_true _

theorem stepTime_clock (s : State) (x : Int) :
    (((s.stepTime x).clock.get 0 36 : Nat) : Int) = (((s.clock.get 0 36 : Nat) : Int) + x * 65536) % 2 ^ 80 := by
  change (((s.clock.set 0 36 ((((s.clock.get 0 36 : Nat) : Int) + x * 65536) % 2 ^ 80).toNat).get 0 36 : Nat) : Int) = _
  rw [SMap.get_set_same]
  exact Int.toNat_of_nonneg (Int.emod_nonneg _ (by decide))

theorem trimRate_reg (s : State) {a : Nat} (h : a ≠ Reg.TCK_PTP_FREQ) : s.trimRate.reg a = s.reg a :=
  (SMap.get_set_key regReset _ _ _ _).trans (if_neg h)

theorem trimRate_slew (s : State) : -25000 ≤ s.trimRate.slew.get 0 36 ∧ s.trimRate.slew.get 0 36 ≤ 25000 := by
  have hfree := Nat.mod_lt s.free (y := 50001) (by decide)
  have hslew : s.trimRate.slew.get 0 36 = (s.free % 50001 : Nat) - (25000 : Int) := SMap.get_set_same ..
  rw [hslew]
  omega

/-- Whether the counter steps: above 1 ms, with no tick running (R226). -/
theorem syncEnd_steps {offset : Int} (hfar : 1000000 < offset.natAbs) (hidle : s.ticking = false) : s.syncEnd offset = (s.showOffset offset).stepTime (-offset) := by
  rw [syncEnd_eq, (showOffset_keeps s offset).2.1, hidle, if_pos (by rw [decide_eq_true hfar]; rfl)]

theorem syncEnd_trims {offset : Int} (h : offset.natAbs ≤ 1000000 ∨ s.ticking = true) : s.syncEnd offset = (s.showOffset offset).trimRate := by
  rw [syncEnd_eq, (showOffset_keeps s offset).2.1, if_neg]
  rcases h with hnear | hticking
  · rw [decide_eq_false (by omega)]
    exact Bool.false_ne_true
  · rw [hticking, Bool.not_true, Bool.and_false]
    exact Bool.false_ne_true

/-- What every Sync interval's end leaves as the offset shown had it. -/
theorem syncEnd_keeps (s : State) (offset : Int) : (s.syncEnd offset).host = (s.showOffset offset).host ∧
    ∀ a, a ≠ Reg.TCK_EVENTS → a ≠ Reg.TCK_PTP_FREQ → (s.syncEnd offset).reg a = (s.showOffset offset).reg a := by
  rw [syncEnd_eq]
  split
  · exact ⟨rfl, fun a hevents _ => stepTime_reg _ _ hevents⟩
  · exact ⟨rfl, fun a _ hfreq => trimRate_reg _ hfreq⟩

/-- The Follow_Up of the Sync taken at `t2` ends its interval with the offset `y` (R226, R227). -/
theorem followUp_ends {p : PtpHead} {d : PtpDataset} {t2 : Nat} (i t1 : Nat) (hmaster : s.host.ptp.master = some (p.sender, d))
    (hsync : s.host.ptp.sync = some (p.seq, t2)) : let y : Int := (t2 : Int) - t1 - s.host.ptp.delay
    let t := s.ptp i p (.followUp t1)
    t.host.ptp.sync = none ∧ t.host.ptp.pair = some (t1, t2) ∧
    (-2147483648 ≤ y → y ≤ 2147483647 → (t.reg Reg.TCK_PTP_OFFSET).toInt = y) ∧
    (1000000 < y.natAbs → s.ticking = false → flag (t.reg Reg.TCK_EVENTS) 1 = true ∧
      ((t.clock.get 0 36 : Nat) : Int) = (((s.clock.get 0 36 : Nat) : Int) - y * 65536) % 2 ^ 80) ∧
    (y.natAbs ≤ 1000000 ∨ s.ticking = true → t.clock = s.clock ∧ -25000 ≤ t.slew.get 0 36 ∧ t.slew.get 0 36 ≤ 25000) ∧
    (y.natAbs < 500 → s.host.ptp.below = 15 → flag (t.reg Reg.TCK_PTP_STATUS) 31 = true) := by
  intro y t
  have ht : t = (s.pairTimes t1 t2).syncEnd y := ptp_followUp i t1 hmaster hsync
  clear_value t y
  subst ht
  obtain ⟨hclock, -, hnone, hpair⟩ := showOffset_keeps (s.pairTimes t1 t2) y
  obtain ⟨hhost, hregs⟩ := syncEnd_keeps (s.pairTimes t1 t2) y
  refine ⟨?_, ?_, fun hlow hhigh => ?_, fun hfar hidle => ?_, fun htrim => ?_, fun hnear hbelow => ?_⟩
  · rw [hhost, hnone]
    rfl
  · rw [hhost, hpair]
    rfl
  · rw [hregs _ (by decide) (by decide)]
    exact showOffset_reg _ hlow hhigh
  · rw [syncEnd_steps (s := s.pairTimes t1 t2) hfar hidle]
    refine ⟨stepTime_event _ _, ?_⟩
    rw [stepTime_clock, hclock, Int.neg_mul, ← Int.sub_eq_add_neg]
    rfl
  · rw [syncEnd_trims (s := s.pairTimes t1 t2) htrim]
    exact ⟨hclock, trimRate_slew _⟩
  · rw [hregs _ (by decide) (by decide)]
    exact showOffset_locks hnear hbelow

/-! ### A missed interval -/

/-- A missed Sync interval counted. -/
def State.missedSync (s : State) : State :=
  let s := s.bumpReg Reg.TCK_PTP_STATUS 15 0
  { s with host := { s.host with ptp := { s.host.ptp with below := 0, above := 0, sync := none } } }

theorem missedSync_status (s : State) : fld (s.missedSync.reg Reg.TCK_PTP_STATUS) 15 0 = min (fld (s.reg Reg.TCK_PTP_STATUS) 15 0 + 1) 65535 ∧
    flag (s.missedSync.reg Reg.TCK_PTP_STATUS) 31 = flag (s.reg Reg.TCK_PTP_STATUS) 31 := by
  have hreg : s.missedSync.reg Reg.TCK_PTP_STATUS = bumpFld (s.reg Reg.TCK_PTP_STATUS) 15 0 1 := (State.reg_setReg ..).trans (if_pos rfl)
  rw [hreg]
  exact ⟨fld_bumpFld_same _ _ (by decide) (by decide), flag_setFld_other _ _ (by decide) (by decide) (by decide)⟩

/-- The lock lost. -/
def State.unlock (s : State) : State := (s.setRegFld Reg.TCK_PTP_STATUS 31 31 0).orReg Reg.TCK_EVENTS 1

theorem unlock_status (s : State) : fld (s.unlock.reg Reg.TCK_PTP_STATUS) 15 0 = fld (s.reg Reg.TCK_PTP_STATUS) 15 0 ∧
    flag (s.unlock.reg Reg.TCK_PTP_STATUS) 31 = false ∧ flag (s.unlock.reg Reg.TCK_EVENTS) 0 = true := by
  have hstatus : s.unlock.reg Reg.TCK_PTP_STATUS = setFld (s.reg Reg.TCK_PTP_STATUS) 31 31 0 := by
    rw [State.unlock, State.orReg_eq, State.reg_setReg, if_neg (by decide), State.setRegFld_eq, State.reg_setReg, if_pos rfl]
  refine ⟨?_, ?_, ?_⟩
  · rw [hstatus, fld_setFld_other _ _ (by decide) (by decide) (by decide)]
  · rw [hstatus, flag_setFld_bit _ _ (by decide)]
    rfl
  · rw [State.unlock, State.orReg_eq, State.reg_setReg, if_pos rfl, flag_or]
    exact Bool.or_true _

theorem syncMissed_counts (hon : flag (s.reg Reg.TCK_PTP_CTRL) 31 = true) :
    ∃ t : State, exec .syncIntervalMissed s = .next t ∧ t.host.ptp.below = 0 ∧
      fld (t.reg Reg.TCK_PTP_STATUS) 15 0 = min (fld (s.reg Reg.TCK_PTP_STATUS) 15 0 + 1) 65535 ∧
      (fld (s.reg Reg.TCK_PTP_STATUS) 15 0 = 15 → flag (s.reg Reg.TCK_PTP_STATUS) 31 = true →
        flag (t.reg Reg.TCK_PTP_STATUS) 31 = false ∧ flag (t.reg Reg.TCK_EVENTS) 0 = true) ∧
      (fld (s.reg Reg.TCK_PTP_STATUS) 15 0 < 15 → flag (t.reg Reg.TCK_PTP_STATUS) 31 = flag (s.reg Reg.TCK_PTP_STATUS) 31) := by
  obtain ⟨hcount, hlock⟩ := missedSync_status s
  have hexec : exec .syncIntervalMissed s = if fld (s.missedSync.reg Reg.TCK_PTP_STATUS) 15 0 ≥ 16 && flag (s.missedSync.reg Reg.TCK_PTP_STATUS) 31 then
      .next s.missedSync.unlock else .next s.missedSync := by
    change execSyncIntervalMissed s = _
    unfold execSyncIntervalMissed
    rw [hon, if_neg (by decide)]
    rfl
  rw [hexec, hcount, hlock]
  by_cases hunlock : (decide (min (fld (s.reg Reg.TCK_PTP_STATUS) 15 0 + 1) 65535 ≥ 16) && flag (s.reg Reg.TCK_PTP_STATUS) 31) = true
  · rw [if_pos hunlock]
    obtain ⟨hcount', hclear, hevent⟩ := unlock_status s.missedSync
    refine ⟨_, rfl, rfl, hcount'.trans hcount, fun _ _ => ⟨hclear, hevent⟩, fun hfew => ?_⟩
    have hmany := of_decide_eq_true (Bool.and_eq_true_iff.1 hunlock).1
    omega
  · rw [if_neg hunlock]
    refine ⟨_, rfl, rfl, hcount, fun hlast hlocked => absurd ?_ hunlock, fun _ => hlock⟩
    rw [hlast, hlocked]
    decide

end

/-- Settles O30: each kind of event through the lemma of its effect. -/
theorem guardAndClocks : Obligations.GuardAndClocks := by
  unfold Obligations.GuardAndClocks
  refine ⟨fun s => guardStart_judges, fun s edges hmode hsrc => ⟨referenceLost_holds edges hmode hsrc, referenceLost_switches edges hmode hsrc⟩,
    fun s => referenceReturned_takes, fun d r q s => droopStretch_counts, fun s i h c p hup haccepts hptp hon hport hdomain => ?_, fun s => syncMissed_counts⟩
  have hexec := ptpMessage_taken hup haccepts hptp hon hport hdomain
  refine ⟨fun d hnone => ⟨_, hexec _, ptp_announce _ d hnone⟩, fun d hmaster => ⟨fun hlow hhigh => ⟨_, hexec _, ?_⟩,
    fun t1 t2 t3 t4 hasked hpair => ⟨_, hexec _, ptp_delayResp _ t4 hmaster hasked hpair⟩, fun t1 t2 hsync => ⟨_, hexec _, followUp_ends _ t1 hmaster hsync⟩⟩⟩
  rw [ptp_sync _ hmaster hlow hhigh]
  exact ⟨rfl, rfl, rfl⟩

end Sys2Proof.Machine

namespace Sys2Proof.Machine

variable {s t : State}

/-! ## What keeps the memories canonical: tiles, mesh, recovery and the beacons

One lemma per function of the model that makes a state: its result has canonical memories where
its argument has. The functions outside memory enter through `Canonical.frame`, those that only
set registers or lists through `Canonical.congr`. -/

/-- Other tiles, each with its SRAM in canonical form. -/
theorem Canonical.tiles (h : Canonical s) (htiles : ∀ e ∈ t.tiles, Memory.wf 0 e.2.sram = true) (hstacks : t.stackMem = s.stackMem)
    (hflash : t.boot.flash = s.boot.flash) : Canonical t := by
  obtain ⟨-, hs, hf⟩ := (memoriesWf_iff s).1 h
  refine (memoriesWf_iff t).2 ⟨htiles, ?_, ?_⟩
  · rwa [hstacks]
  · rwa [hflash]

/-- Every listed tile changed by a function that keeps SRAM canonical. -/
theorem Canonical.mapTiles {g : Nat → Tile → Tile} (h : Canonical s) (hg : ∀ k x, (g k x).sram = x.sram)
    (htiles : t.tiles = s.tiles.mapSet Tile.reset g) (hstacks : t.stackMem = s.stackMem) (hflash : t.boot.flash = s.boot.flash) : Canonical t := by
  refine h.tiles (fun e he => ?_) hstacks hflash
  rw [htiles] at he
  obtain ⟨e', he', rfl⟩ := List.mem_map.1 (List.mem_filter.1 he).1
  rw [hg]
  exact ((memoriesWf_iff s).1 h).1 e' he'

/-- Some tiles back at reset. -/
theorem Canonical.keepTiles {p : Nat → Bool} (h : Canonical s) (htiles : t.tiles = s.tiles.keep p) (hstacks : t.stackMem = s.stackMem)
    (hflash : t.boot.flash = s.boot.flash) : Canonical t := by
  refine h.tiles (fun e he => ?_) hstacks hflash
  rw [htiles] at he
  exact ((memoriesWf_iff s).1 h).1 e (SMap.mem_keep he).1

/-- Flash in canonical form, the other memories as they were. -/
theorem Canonical.setFlash (h : Canonical s) (htiles : t.tiles = s.tiles) (hstacks : t.stackMem = s.stackMem) (hflash : Memory.wf 0xFF t.boot.flash = true) :
    Canonical t := by
  obtain ⟨ht, hs, -⟩ := (memoriesWf_iff s).1 h
  refine (memoriesWf_iff t).2 ⟨?_, ?_, hflash⟩
  · rwa [htiles]
  · rwa [hstacks]

theorem landFlits_sram {ws} {x : Tile} {off hit bs} (hx : Memory.wf 0 x.sram = true) : Memory.wf 0 (landFlits ws x off hit bs).1.sram = true := by
  fun_induction landFlits ws x off hit bs with
  | case1 => exact hx
  | case2 => exact hx
  | case3 => exact Tile.wf_write _ _ hx
  | case4 _ _ _ _ _ _ _ _ ih => exact ih hx
  | case5 _ _ _ _ _ _ _ ih => exact ih (Tile.wf_write _ _ hx)

theorem restoreCopies_sram {e} {x : Tile} {l} (hx : Memory.wf 0 x.sram = true) : Memory.wf 0 (s.restoreCopies e x l).sram = true := by
  induction l generalizing x with
  | nil => exact hx
  | cons a l ih =>
    obtain ⟨k, w, bs⟩ := a
    unfold State.restoreCopies
    refine ih ?_
    split
    · split
      · exact Tile.wf_write _ _ hx
      · exact hx
    · exact hx

theorem setQueue_sram {x : Tile} {n : Nat} {l : List SendDesc} (hx : Memory.wf 0 x.sram = true) : Memory.wf 0 (x.setQueue n l).sram = true := by
  unfold Tile.setQueue
  split
  · exact hx
  · exact hx

theorem inject_sram {x : Tile} {draws d a b} (hx : Memory.wf 0 x.sram = true) : Memory.wf 0 (x.inject draws d a b).2.1.sram = true := by
  have hfix : ∀ ws, Memory.wf 0 (x.countFixes ws).sram = true := fun ws => (Tile.Sound.countFixes x ws).sram hx
  unfold Tile.inject
  dsimp only
  split
  · exact hfix _
  · exact hfix _

theorem Canonical.land {k off data ctr messageEnd} (h : Canonical s) : Canonical (s.land k off data ctr messageEnd) := by
  unfold State.land
  refine .ite (.sink h) ?_
  split
  next x hit done heq =>
  extract_lets s1 s2
  have hx : Memory.wf 0 x.sram = true := by
    have hland := landFlits_sram (ws := s.carryWins (keyDie k)) (off := off) (hit := none) (bs := flitsOf data) (h.tile k)
    rwa [heq] at hland
  have h1 : Canonical s1 := .setTile hx h
  have h2 : Canonical s2 := by
    dsimp only [s2]
    split
    · exact Canonical.frame.carryError h1
    · exact h1
  split
  · exact .ite (.arrive h2) h2
  · exact h2

theorem Canonical.teardown (h : Canonical s) : Canonical s.teardown := by
  have hF := Canonical.frame
  unfold State.teardown
  extract_lets _ s0 s1 s2 _ _ s3
  have h0 : Canonical s0 := hF.resolve (.congr h rfl rfl rfl)
  have h1 : Canonical s1 := .orReg h0
  have h2 : Canonical s2 := hF.dropSnapshot h1
  have h3 : Canonical s3 := h2.mapTiles (g := fun _ x => x.release) (fun _ _ => rfl) rfl rfl rfl
  exact .ite h (hF.go (.setRegFld h3))

theorem Canonical.settle (h : Canonical s) : Canonical s.settle := .ite (.teardown h) h

theorem Canonical.planeLoss (h : Canonical s) : Canonical s.planeLoss := .teardown h

theorem Canonical.routerFault {d} (h : Canonical s) : Canonical (s.routerFault d) := .ite h (.congr h rfl rfl rfl)

theorem Canonical.linkError {k port vc code} (h : Canonical s) : Canonical (s.linkError k port vc code) := by
  unfold State.linkError
  extract_lets _ s1 _ s2
  have h1 : Canonical s1 := .meshError (.bumpReg h)
  have h2 : Canonical s2 := .setRouter h1
  exact .ite (.routerFault (.meshError h2)) h2

theorem Canonical.payloadErrors {k port vc x} (h : Canonical s) : Canonical (s.payloadErrors k port vc x) := by
  induction x generalizing s with
  | nil => exact h
  | cons head js ih => exact ih (.linkError h)

theorem Canonical.linkEvent {f ev} (h : Canonical s) : Canonical (s.linkEvent f ev).1 := by
  have hF := Canonical.frame
  unfold State.linkEvent
  extract_lets k
  split
  · extract_lets r s1
    have h1 : Canonical s1 := .ite h (.bumpReg h)
    split
    · exact .linkError h1
    · exact .payloadErrors h1
  · exact .routerFault (.meshError h)
  · exact hF.drawn (.routerFault (.meshError h))

theorem Canonical.traffic {k vc level} (h : Canonical s) : Canonical (s.traffic k vc level) := .ite (.setRouter h) h

theorem Canonical.sendOn {f x} (h : Canonical s) : Canonical (s.sendOn f x) := by
  induction x generalizing s with
  | nil => exact h
  | cons x xs ih =>
    unfold State.sendOn
    refine .ite ?_ ?_
    · exact ih (.congr h rfl rfl rfl)
    · split
      · exact ih h
      · exact ih (.traffic (.congr h rfl rfl rfl))

theorem Canonical.releaseAt {k f} (h : Canonical s) : Canonical (s.releaseAt k f) := by
  unfold State.releaseAt
  extract_lets
  split
  · exact .ite (.wake h) h
  · exact h

theorem Canonical.eject {f} (h : Canonical s) : Canonical (s.eject f) := .ite (.releaseAt h) (.land h)

theorem Canonical.passOn {f} (h : Canonical s) : Canonical (s.passOn f) := by
  unfold State.passOn
  split
  · exact .meshError h
  · extract_lets s1
    have h1 : Canonical s1 := .sendOn (.traffic h)
    exact .ite (.eject h1) h1

theorem Canonical.launch {f} (h : Canonical s) : Canonical (s.launch f) := .traffic (.congr h rfl rfl rfl)

theorem Canonical.requestHanded {f b} (h : Canonical s) : Canonical (s.requestHanded f b) := .ite (.serveSends (.setTile (h.tile _) h)) h

theorem Canonical.enterGateway {i f ev} (h : Canonical s) : Canonical (s.enterGateway i f ev) := by
  have hlink : Canonical (({ s with flights := s.flights.eraseIdx i } : State).linkEvent f ev).1 := .linkEvent (.congr h rfl rfl rfl)
  unfold State.enterGateway
  extract_lets p
  split
  · refine .ite h ?_
    dsimp only
    split
    · exact hlink
    · exact .requestHanded (Canonical.frame.queueBlock hlink)
  · dsimp only
    split
    · exact hlink
    · exact .requestHanded (Canonical.frame.hearthError hlink)

theorem Canonical.hop {i ev} (h : Canonical s) : Canonical (s.hop i ev) := by
  unfold State.hop
  split
  · exact h
  · rename_i f _
    have hlink : Canonical (({ s with flights := s.flights.eraseIdx i } : State).linkEvent f ev).1 := .linkEvent (.congr h rfl rfl rfl)
    refine .ite h (.ite (.enterGateway h) ?_)
    dsimp only
    split
    · exact hlink
    · exact .passOn hlink

theorem Canonical.travel {base x} (h : Canonical s) : Canonical (s.travel base x) := by
  induction x generalizing s with
  | nil => exact h
  | cons e es ih => exact .ite h (ih (.hop h))

theorem Canonical.toTile {die pair row col offset tick ctr last data poison} (h : Canonical s) : Canonical (s.toTile die pair row col offset tick ctr last data poison) := .launch h

theorem Canonical.toRectangle {die r0 r1 c0 c1 offset tick ctr last data poison} (h : Canonical s) : Canonical (s.toRectangle die r0 r1 c0 c1 offset tick ctr last data poison) := .launch h

theorem Canonical.toGroup {die g offset tick ctr last data poison} (h : Canonical s) : Canonical (s.toGroup die g offset tick ctr last data poison) := .launch h

theorem Canonical.injectHead {k loose n} (h : Canonical s) : Canonical (s.injectHead k loose n) := by
  unfold State.injectHead
  extract_lets m
  split
  · exact h
  next d _ =>
    extract_lets i a b done
    split
    next d' x bad draws heq =>
    extract_lets d'' keep s1 s2 s3
    have hx : Memory.wf 0 x.sram = true := by
      have hinject := inject_sram (draws := s.draws) (d := d) (a := a) (b := b) (h.tile k)
      rwa [heq] at hinject
    have h1 : Canonical s1 := .setTile (setQueue_sram hx) (h.congr rfl rfl rfl)
    have h2 : Canonical s2 := by
      cases bad with
      | none => exact h1
      | some w => exact .raise (h1.tile k) h1
    have h3 : Canonical s3 := .ite (.launch h2) h2
    exact .ite h3 (.serveSends h3)

theorem Canonical.sendCombine {f rest} (h : Canonical s) : Canonical (s.sendCombine f rest) := .passOn (.setRouter h)

theorem Canonical.absorb {f w} (h : Canonical s) : Canonical (s.absorb f w) := by
  unfold State.absorb
  extract_lets
  split
  · exact .ite (.meshError h) (.ite (.sendCombine h) (.setRouter h))
  · exact .ite (.meshError (.setRouter h)) (.ite (.sendCombine h) (.setRouter h))

theorem Canonical.setTokens {k g v} (h : Canonical s) : Canonical (s.setTokens k g v) := .setRouter h

theorem Canonical.takeToken {f} (h : Canonical s) : Canonical (s.takeToken f) := .ite (.setTokens (.traffic h)) (.meshError h)

theorem Canonical.stretch {d region quarters} (h : Canonical s) : Canonical (s.stretch d region quarters) := .bumpReg (.bumpReg h)

theorem Canonical.pauses {d r x} (h : Canonical s) : Canonical (s.pauses d r x) := by
  induction x generalizing s r with
  | nil => exact h
  | cons p ps ih => exact ih (.ite h (.stretch h))

theorem Canonical.showStage (h : Canonical s) : Canonical s.showStage := .setRegFld h

theorem Canonical.startLoading {x} (h : Canonical s) : Canonical (s.startLoading x) := by
  induction x generalizing s with
  | nil => exact h
  | cons x xs ih =>
    unfold State.startLoading
    exact ih (.bumpReg (.congr (.setTile (k := x.2) (x := { Tile.reset with loading := true, placed := true }) rfl h) rfl rfl rfl))

theorem Canonical.adoptFences (h : Canonical s) : Canonical s.adoptFences := .startLoading (.congr h rfl rfl rfl)

theorem Canonical.fenceDie {d} (h : Canonical s) : Canonical (s.fenceDie d) := .ite (.setDomains (.setReg h)) h

theorem Canonical.fenceDies {x} (h : Canonical s) : Canonical (s.fenceDies x) := by
  induction x generalizing s with
  | nil => exact h
  | cons d ds ih => exact ih (.fenceDie h)

theorem Canonical.shadowBays {f} (h : Canonical s) : Canonical (s.shadowBays f) := .setShadow (.setShadow h)

theorem Canonical.startTakeover {f} (h : Canonical s) : Canonical (s.startTakeover f) := by
  unfold State.startTakeover
  extract_lets s1 s2
  have h1 : Canonical s1 := .shadowBays h
  have h2 : Canonical s2 := .putWords h1
  clear_value s2
  exact .showStage (h2.congr rfl rfl rfl)

theorem Canonical.dieFail {d} (h : Canonical s) : Canonical (s.dieFail d) := by
  unfold State.dieFail
  extract_lets _ s1 s2 _ s3 s4
  have h1 : Canonical s1 := .orReg h
  have h2 : Canonical s2 := .setShadow h1
  have h3 : Canonical s3 := .congr h2 rfl rfl rfl
  have h4 : Canonical s4 := Canonical.frame.charge h3
  exact .ite (.fenceDie h3) (.ite (.teardown h4) (.startTakeover h4))

theorem Canonical.dieFails {x} (h : Canonical s) : Canonical (s.dieFails x) := by
  induction x generalizing s with
  | nil => exact h
  | cons d ds ih => exact ih (.dieFail h)

theorem Canonical.shadowFence {k e} (h : Canonical s) : Canonical (s.shadowFence k e) := by
  unfold State.shadowFence
  extract_lets _ _ _ s1
  have h1 : Canonical s1 := .setShadow h
  split
  · exact h1
  · exact .setShadow h1

theorem Canonical.prepare {x} (h : Canonical s) : Canonical (s.prepare x) := by
  induction x generalizing s with
  | nil => exact h
  | cons k ks ih =>
    unfold State.prepare
    refine .ite ?_ ?_
    · exact ih h
    · split
      · exact .dieFail (.orReg h)
      · exact ih (.orReg (.congr (.putWords (.shadowFence h)) rfl rfl rfl))

theorem Canonical.meshReady {d} (h : Canonical s) : Canonical (s.meshReady d) := by
  unfold State.meshReady
  extract_lets s1
  have h1 : Canonical s1 := .orReg h
  exact .ite h1 (.adoptFences (.adoptMesh h1))

theorem Canonical.loadSpares {x} (h : Canonical s) : Canonical (s.loadSpares x) := by
  induction x generalizing s with
  | nil => exact h
  | cons e es ih =>
    unfold State.loadSpares
    extract_lets d x x' s1
    have hx : Memory.wf 0 x.sram = true := h.loadTile
    have h1 : Canonical s1 := .setTile (restoreCopies_sram hx) h
    exact ih (h1.congr rfl rfl rfl)

theorem Canonical.allReady {x} (h : Canonical s) : Canonical (s.allReady x) := by
  induction x generalizing s with
  | nil => exact .orReg h
  | cons d ds ih => exact ih (.orReg h)

theorem Canonical.correctUnit {p idle u} (h : Canonical s) : Canonical (s.correctUnit p idle u) := by
  unfold State.correctUnit
  extract_lets _ _ s1
  have h1 : Canonical s1 := .setReg h
  exact .ite h (.ite (.congr h1 rfl rfl rfl) (.congr h1 rfl rfl rfl))

theorem Canonical.correctUnits {p idle x} (h : Canonical s) : Canonical (s.correctUnits p idle x) := by
  induction x generalizing s with
  | nil => exact h
  | cons u us ih => exact ih (.correctUnit h)

theorem Canonical.correctTime {idle} (h : Canonical s) : Canonical (s.correctTime idle) := Canonical.frame.sendFrame (Canonical.frame.sendFrame (.setReg64 (.correctUnits h)))

theorem Canonical.latchQuote (h : Canonical s) : Canonical s.latchQuote := .congr h rfl rfl rfl

theorem Canonical.storeMap {owner tickReg on units} (h : Canonical s) : Canonical (s.storeMap owner tickReg on units) := by
  unfold State.storeMap
  extract_lets _ s1 s2
  have h1 : Canonical s1 := Canonical.frame.drawn h
  have h2 : Canonical s2 := .congr h1 rfl rfl rfl
  exact .ite h (.setReg h2)

theorem Canonical.storeMeshMaps {x} (h : Canonical s) : Canonical (s.storeMeshMaps x) := by
  induction x generalizing s with
  | nil => exact h
  | cons d ds ih => exact ih (.storeMap h)

theorem Canonical.storeFabMaps {x} (h : Canonical s) : Canonical (s.storeFabMaps x) := by
  induction x generalizing s with
  | nil => exact h
  | cons i is ih => exact ih (.storeMap h)

theorem Canonical.countHolds {x} (h : Canonical s) : Canonical (s.countHolds x) := by
  induction x generalizing s with
  | nil => exact h
  | cons x xs ih => exact ih (.ite (Canonical.frame.drawn (Canonical.frame.setPort h)) h)

theorem Canonical.storeMaps (h : Canonical s) : Canonical s.storeMaps := .storeFabMaps (.storeMap (.countHolds (.storeMeshMaps h)))

theorem Canonical.latchRegions {x} (h : Canonical s) : Canonical (s.latchRegions x) := by
  induction x generalizing s with
  | nil => exact h
  | cons k ks ih => exact ih (.setReg (.setReg (.setReg (.setReg h))))

theorem Canonical.latchDamper {x} (h : Canonical s) : Canonical (s.latchDamper x) := by
  induction x generalizing s with
  | nil => exact h
  | cons d ds ih =>
    unfold State.latchDamper
    extract_lets _ s1 s2
    have h1 : Canonical s1 := Canonical.frame.drawn (.setReg h)
    have h2 : Canonical s2 := Canonical.frame.drawn (.setReg h1)
    exact ih (h2.congr rfl rfl rfl)

theorem Canonical.flushQueue {k loose} (h : Canonical s) : Canonical (s.flushQueue k loose) := by
  unfold State.flushQueue
  extract_lets n s1
  have h1 : Canonical s1 := by
    dsimp only [s1]
    split
    · exact h
    · exact .ite h (.injectHead h)
  exact .setTile (setQueue_sram (h1.tile k)) h1

theorem Canonical.flushQueues {x} (h : Canonical s) : Canonical (s.flushQueues x) := by
  induction x generalizing s with
  | nil => exact h
  | cons k ks ih => exact ih (.flushQueue (.flushQueue h))

theorem Canonical.endWait {k} (h : Canonical s) : Canonical (s.endWait k) := .ite h (Canonical.frame.drawn (.setTile (h.tile k) h))

theorem Canonical.endWaits {x} (h : Canonical s) : Canonical (s.endWaits x) := by
  induction x generalizing s with
  | nil => exact h
  | cons k ks ih => exact ih (.endWait h)

theorem Canonical.latchStatus {x} (h : Canonical s) : Canonical (s.latchStatus x) := by
  induction x generalizing s with
  | nil => exact h
  | cons p ps ih =>
    unfold State.latchStatus
    exact ih (.foldl (fun _ _ h' => Canonical.frame.setTbl h') h)

theorem Canonical.openRings {m n x} (h : Canonical s) : Canonical (s.openRings m n x) := by
  have hF := Canonical.frame
  induction x generalizing s with
  | nil => exact h
  | cons r rs ih =>
    unfold State.openRings
    extract_lets k w s1
    have h1 : Canonical s1 := .ite (hF.memHeader h) (.ite h (hF.memHeader h))
    exact ih (hF.setRingStatus h1)

theorem Canonical.openStacks {n x} (h : Canonical s) : Canonical (s.openStacks n x) := by
  induction x generalizing s with
  | nil => exact h
  | cons m ms ih =>
    unfold State.openStacks
    extract_lets s1
    have h1 : Canonical s1 := .openRings h
    exact ih (.setStack (h1.stack m) h1)

theorem Canonical.closeTick (h : Canonical s) : Canonical s.closeTick := .latchStatus (.latchDamper (.latchRegions (.storeMaps (.endWaits (.flushQueues (.dieFails h))))))

theorem Canonical.markTraffic {x} (h : Canonical s) : Canonical (s.markTraffic x) := by
  induction x generalizing s with
  | nil => exact h
  | cons f fs ih => exact ih (.traffic h)

theorem Canonical.snapshotLimit (h : Canonical s) : Canonical s.snapshotLimit := .ite (Canonical.frame.dropSnapshot h) h

theorem Canonical.markSlots {slot v x} (h : Canonical s) : Canonical (s.markSlots slot v x) := by
  induction x generalizing s with
  | nil => exact h
  | cons m ms ih => exact ih (Canonical.frame.memHeader h)

theorem Canonical.snapshotStart (h : Canonical s) : Canonical s.snapshotStart := .ite (.setRegFld (.markSlots (.congr h rfl rfl rfl))) h

theorem Canonical.originFrame {tick n} (h : Canonical s) : Canonical (s.originFrame tick n) := .ite (.sendMgmtAll h) h

theorem Canonical.idle (h : Canonical s) : Canonical s.idle := by
  unfold State.idle
  extract_lets s1
  have h1 : Canonical s1 := .originFrame (.latchQuote (.correctTime (.fenceDies h)))
  exact .ite h1 (.snapshotStart (.congr h1 rfl rfl rfl))

theorem Canonical.putRound {p r} (h : Canonical s) : Canonical (s.putRound p r) := .ite (Canonical.frame.setPort h) (Canonical.frame.setPort (.congr h rfl rfl rfl))

theorem Canonical.bufferResults {p r late ms} (h : Canonical s) : Canonical (s.bufferResults p r late ms) := .emberErrors (.ite h (Canonical.frame.setPort h))

theorem Canonical.showSource {st} (h : Canonical s) : Canonical (s.showSource st) := .setRegFld (.setRegFld h)

theorem Canonical.miss (h : Canonical s) : Canonical s.miss := by
  unfold State.miss
  extract_lets _ s1 _ s2 s3
  have h1 : Canonical s1 := .bumpReg h
  have h2 : Canonical s2 := .congr h1 rfl rfl rfl
  have h3 : Canonical s3 := .orReg h2
  exact .ite h (.ite (.congr h3 rfl rfl rfl) h2)

theorem Canonical.recordMargin (h : Canonical s) : Canonical s.recordMargin := by
  unfold State.recordMargin
  extract_lets _ _ s1 s2
  have h1 : Canonical s1 := Canonical.frame.drawn h
  have h2 : Canonical s2 := .setReg h1
  exact .ite (.setReg h2) h2

theorem Canonical.stepTime {by_} (h : Canonical s) : Canonical (s.stepTime by_) := .orReg (.congr h rfl rfl rfl)

end Sys2Proof.Machine

namespace Sys2Proof.Machine

variable {s t : State}

/-! ## What keeps the memories canonical: votes, fabric, light, housekeeping, boot and registers -/

/-- The proof generalises the parent in the tree, which the function reads from the registers,
before it takes the body apart: else the kernel evaluates the match's discriminant. `loadSet` and
`acceptImages` below go the same way. -/
theorem Canonical.sendVote {good} (h : Canonical s) : Canonical (s.sendVote good) := by
  suffices hbody : ∀ f, f = State.sendVote → Canonical (f s good) from hbody _ rfl
  intro f hf
  delta State.sendVote at hf
  rw [hf]
  generalize State.treeParent = parent
  revert parent
  refine id fun parent => ?_
  beta_reduce
  extract_lets n _ s1 s2
  have h1 : Canonical s1 := h.congr rfl rfl rfl
  have h2 : Canonical s2 := .setReg h1
  clear_value s2
  split
  · exact .sendMgmt h2
  · exact h2

theorem Canonical.rootDecides {waited} (h : Canonical s) : Canonical (s.rootDecides waited) := Canonical.frame.resolve (.sendMgmtAll (.ite h (Canonical.frame.fabricError h)))

theorem Canonical.replayAfter {f ack} (h : Canonical s) : Canonical (s.replayAfter f ack) := .ite (.linkLost h) (.pumpPort (.bumpReg (Canonical.frame.setFport h)))

theorem Canonical.badCell {f seq} (h : Canonical s) : Canonical (s.badCell f seq) := by
  unfold State.badCell
  extract_lets _ _ s1
  have h1 : Canonical s1 := Canonical.frame.setFport h
  exact .ite (.emit h1) h1

theorem Canonical.takeCell {f c} (h : Canonical s) : Canonical (s.takeCell f c) := by
  unfold State.takeCell
  extract_lets _ s1
  have h1 : Canonical s1 := Canonical.frame.setFport h
  exact .ite (.badCell h) (.ite (.setBuffer h1) h1)

theorem Canonical.fecCounts {f x} (h : Canonical s) : Canonical (s.fecCounts f x) := by
  induction x generalizing s with
  | nil => exact h
  | cons r rs ih => exact ih (Canonical.frame.setTbl (Canonical.frame.setFport h))

theorem Canonical.askStack {f w j} (h : Canonical s) : Canonical (s.askStack f w j) := .ite h (Canonical.frame.queueUnit (Canonical.frame.setFport h))

theorem Canonical.feedWindow {f x} (h : Canonical s) : Canonical (s.feedWindow f x) := by
  induction x generalizing s with
  | zero => exact h
  | succ n ih =>
    unfold State.feedWindow
    extract_lets
    split
    · exact h
    · extract_lets s1
      have h1 : Canonical s1 := Canonical.frame.setFport h
      split
      · exact h
      · exact ih (.queueCell h1)

theorem Canonical.takeRead {p b} (h : Canonical s) : Canonical (s.takeRead p b) := by
  unfold State.takeRead
  extract_lets _ _ s1
  have h1 : Canonical s1 := .ite (Canonical.frame.hearthError h) h
  refine .ite ?_ ?_
  · exact Canonical.frame.hearthError h
  · split
    · exact h
    · exact .feedWindow (.askStack (Canonical.frame.setFport h1))

theorem Canonical.routeRemote {f c} (h : Canonical s) : Canonical (s.routeRemote f c) := by
  unfold State.routeRemote
  extract_lets
  refine .ite ?_ ?_
  · exact .sendResponse h
  · refine .ite ?_ ?_
    · exact .serve h
    · refine .ite ?_ ?_
      · exact .sendResponse (Canonical.frame.fabricError h)
      · split
        · exact .forward h
        · exact h

theorem Canonical.takeRemote {f x} (h : Canonical s) : Canonical (s.takeRemote f x) := by
  induction x generalizing s with
  | nil => exact h
  | cons b bs ih =>
    unfold State.takeRemote
    split
    · exact .ite (.pumpPort (.routeRemote (.setBuffer h))) (ih h)
    · exact ih h

theorem Canonical.bellowsLoss {c} (h : Canonical s) : Canonical (s.bellowsLoss c) := .planeLoss (.ite h (.blwEvent h))

theorem Canonical.fade {c f} (h : Canonical s) : Canonical (s.fade c f) := by
  unfold State.fade
  extract_lets _ s1 _ _ _ _ _ s2 s3 _ _ s4 s5
  have h1 : Canonical s1 := .setRegFld h
  have h2 : Canonical s2 := .congr h1 rfl rfl rfl
  have h3 : Canonical s3 := .ite (.startSpare h2) h2
  have h4 : Canonical s4 := .ite (.blwEvent h3) h3
  have h5 : Canonical s5 := .ite (.ite h4 (.bellowsLoss h4)) h3
  exact .ite h1 (.ite (.ite (.ite (Canonical.frame.startRamp h5) h5) (.setRegFld (.blwEvent h5))) h5)

theorem Canonical.laneFail {p l} (h : Canonical s) : Canonical (s.laneFail p l) := by
  unfold State.laneFail
  extract_lets s1
  have h1 : Canonical s1 := .lanesAhead h
  split
  · exact h
  · extract_lets s2
    have h2 : Canonical s2 := Canonical.frame.hearthError h
    refine .ite ?_ ?_
    · split
      · exact Canonical.frame.setLaneState h2
      · exact .planeLoss h2
      · exact h
    · exact .ite h (.ite (.ite (.planeLoss h2) (.schedule h2)) (.ite (.planeLoss h2) (.schedule h2)))

theorem Canonical.lanesFail {x} (h : Canonical s) : Canonical (s.lanesFail x) := by
  induction x generalizing s with
  | nil => exact h
  | cons x xs ih => exact ih (.laneFail h)

theorem Canonical.sliceLost {k x} (h : Canonical s) : Canonical (s.sliceLost k x) := by
  induction x generalizing s with
  | nil => exact h
  | cons x xs ih =>
    unfold State.sliceLost
    extract_lets a s1 _
    have h1 : Canonical s1 := Canonical.frame.setTbl h
    exact ih (h1.congr rfl rfl rfl)

theorem Canonical.allPathsLost {x} (h : Canonical s) : Canonical (s.allPathsLost x) := by
  induction x generalizing s with
  | nil => exact h
  | cons k ks ih =>
    unfold State.allPathsLost
    exact ih (.sliceLost h)

theorem Canonical.resultHeld {x : Nat × LaneMeas} (h : Canonical s) : Canonical { s with light := { s.light with result := some x } } := h.congr rfl rfl rfl

theorem Canonical.measured {v reason r} (h : Canonical s) : Canonical (s.measured v reason r) := by
  have hlight : ∀ w x, Canonical { s.setReg Reg.CAL_STATUS w with light := x } := fun _ _ => h.congr rfl rfl rfl
  unfold State.measured
  exact .ite (hlight _ _) (Canonical.frame.calEnd h)

theorem Canonical.setSensors {raw used suspect x} (h : Canonical s) : Canonical (s.setSensors raw used suspect x) := by
  induction x generalizing s with
  | nil => exact h
  | cons n ns ih => exact ih (.setReg h)

theorem Canonical.thermalEvent {bit} (h : Canonical s) : Canonical (s.thermalEvent bit) := Canonical.frame.faultEvent (.orReg h)

theorem Canonical.thermalEvents {x} (h : Canonical s) : Canonical (s.thermalEvents x) := by
  induction x generalizing s with
  | nil => exact h
  | cons b bs ih => exact ih (.thermalEvent h)

theorem Canonical.hostLinkLost {i} (h : Canonical s) : Canonical (s.hostLinkLost i) := .ite h (.bumpReg (.setReg h))

theorem Canonical.linksLost {x} (h : Canonical s) : Canonical (s.linksLost x) := by
  induction x generalizing s with
  | nil => exact h
  | cons f fs ih => exact ih (.ite (.linkLost h) h)

theorem Canonical.dropJob (h : Canonical s) : Canonical s.dropJob := .congr (Canonical.frame.dropSnapshot h) rfl rfl rfl

theorem Canonical.orderlyStop (h : Canonical s) : Canonical s.orderlyStop := by
  unfold State.orderlyStop
  extract_lets s1 _ _ s2
  have h1 : Canonical s1 := .thermalEvent (.setRegFld h)
  have h2 : Canonical s2 := .congr h1 rfl rfl rfl
  exact .ite (Canonical.frame.go h2) (.ite (Canonical.frame.enter h2) h2)

theorem Canonical.clearDamper {x} (h : Canonical s) : Canonical (s.clearDamper x) := by
  induction x generalizing s with
  | nil => exact .setRegFld h
  | cons d ds ih => exact ih (.setReg h)

theorem Canonical.trip {cause sensor} (h : Canonical s) : Canonical (s.trip cause sensor) := by
  unfold State.trip
  extract_lets s1 s2 s3 _ _ s4
  have h1 : Canonical s1 := .hostLinkLost (.hostLinkLost (.linksLost (.dropJob h)))
  have h2 : Canonical s2 := .setDomains h1
  have h3 : Canonical s3 := .thermalEvent (.setReg h2)
  have h4 : Canonical s4 := .congr h3 rfl rfl rfl
  exact Canonical.frame.go (.clearDamper h4)

theorem Canonical.govern {p pc} (h : Canonical s) : Canonical (s.govern p pc) := by
  unfold State.govern
  extract_lets _ _ _ _ s1 s2 _ _ _ s3 s4 s5
  have h1 : Canonical s1 := .ite (.orReg h) h
  have h2 : Canonical s2 := .ite (.orReg h1) h1
  have h3 : Canonical s3 := Canonical.frame.drawn h2
  have h4 : Canonical s4 := .congr h3 rfl rfl rfl
  have h5 : Canonical s5 := .setReg h4
  exact .setReg h5

theorem Canonical.applyRings (h : Canonical s) : Canonical s.applyRings := .ite h (.congr h rfl rfl rfl)

theorem Canonical.optionWords {x} (h : Canonical s) : Canonical (s.optionWords x) := by
  induction x generalizing s with
  | nil => exact h
  | cons w ws ih => exact ih (.setReg h)

theorem Canonical.bindWords {x} (h : Canonical s) : Canonical (s.bindWords x) := by
  induction x generalizing s with
  | nil => exact h
  | cons c cs ih => exact ih (.setReg h)

theorem Canonical.optionRegs (h : Canonical s) : Canonical s.optionRegs := .setRegFld (.bindWords (.optionWords h))

theorem Canonical.recordReset {source scope unit detail} (h : Canonical s) : Canonical (s.recordReset source scope unit detail) := .setReg (.bumpReg (.ite (.bumpReg h) (.bumpReg h)))

theorem Canonical.countSources {x} (h : Canonical s) : Canonical (s.countSources x) := by
  induction x generalizing s with
  | nil => exact h
  | cons n ns ih => exact ih (.ite (.bumpReg h) (.bumpReg h))

theorem Canonical.endErase (h : Canonical s) : Canonical s.endErase := by
  unfold State.endErase
  split
  · exact .clearReg (.setReg (h.congr rfl rfl s.boot.restart_interrupt.1))
  · exact h

theorem Canonical.powerUp (h : Canonical s) : Canonical s.powerUp := .setDomain (.setDomains h)

theorem Canonical.clearMeasures {x} (h : Canonical s) : Canonical (s.clearMeasures x) := by
  induction x generalizing s with
  | nil => exact h
  | cons w ws ih => exact ih (.setReg h)

theorem Canonical.applyRevert (h : Canonical s) : Canonical s.applyRevert := by
  unfold State.applyRevert
  extract_lets
  split
  · exact h
  · exact .congr (.setReg h) rfl rfl rfl

/-- Tiles and stacks empty. -/
theorem Canonical.emptied (htiles : t.tiles = []) (hstacks : t.stackMem = []) (hflash : Memory.wf 0xFF t.boot.flash = true) : Canonical t :=
  (memoriesWf_iff t).2 ⟨fun _ he => absurd (htiles ▸ he) List.not_mem_nil, fun _ he => absurd (hstacks ▸ he) List.not_mem_nil, hflash⟩

theorem Canonical.cleared {warm} (h : Canonical s) : Canonical (s.cleared warm) := by
  unfold State.cleared
  extract_lets keep _ _ _ _ s0 s1 s2
  have hflash : Memory.wf 0xFF (s.boot.restart warm).flash = true := (congrArg (Memory.wf 0xFF) s.boot.restart_interrupt.1).trans h.flash
  have h0 : Canonical s0 := .emptied rfl rfl hflash
  clear_value s0
  have h1 : Canonical s1 := .ite (.setReg (.optionRegs (.clearMeasures h0))) (.setReg h0)
  have h2 : Canonical s2 := .ite (.setReg h1) h1
  exact .powerUp (.setRegFld (.setRegFld h2))

theorem Canonical.coldReset {source detail} (h : Canonical s) : Canonical (s.coldReset source detail) := by
  have hcleared : Canonical (((s.recordReset source 0 0 detail).applyRevert).cleared false) := .cleared (.applyRevert (.recordReset h))
  unfold State.coldReset
  generalize ((s.recordReset source 0 0 detail).applyRevert).cleared false = s1 at hcleared ⊢
  exact hcleared.congr rfl rfl rfl

theorem Canonical.warmReset {source detail} (h : Canonical s) : Canonical (s.warmReset source detail) := by
  have hcleared : Canonical ((s.recordReset source 1 0 detail).cleared true) := .cleared (.recordReset h)
  unfold State.warmReset
  generalize (s.recordReset source 1 0 detail).cleared true = s1 at hcleared ⊢
  exact hcleared.congr rfl rfl rfl

theorem Canonical.criticalError {detail} (h : Canonical s) : Canonical (s.criticalError detail) := .ite h (.ite (.coldReset h) (.warmReset h))

theorem Canonical.showRegions (h : Canonical s) : Canonical s.showRegions := .setReg (.setReg (.setReg h))

theorem Canonical.loadSet (h : Canonical s) : Canonical s.loadSet := by
  suffices hbody : ∀ f, f = State.loadSet → Canonical (f s) from hbody _ rfl
  intro f hf
  delta State.loadSet at hf
  have h1 : Canonical s.showRegions := .showRegions h
  rw [hf]
  generalize State.chooseSet = choose
  generalize State.showRegions = regions at h1 ⊢
  revert choose regions
  refine id fun choose regions h1 => ?_
  beta_reduce
  extract_lets s1 _ _ _
  have hset : ∀ v x, x.flash = s1.boot.flash → Canonical { s1.setReg Reg.CFG_STATUS v with boot := x } := fun _ _ hx =>
    Canonical.congr (s := s1) h1 rfl rfl hx
  clear_value s1
  split
  · exact hset _ _ rfl
  · exact hset _ _ rfl

theorem Canonical.baselineRecord {all r} (h : Canonical s) : Canonical (s.baselineRecord all r) := by
  unfold State.baselineRecord
  extract_lets
  refine .ite ?_ ?_
  · exact .ite (.setReg h) h
  · split
    · exact .ite (Canonical.frame.setTbl h) h
    · exact h

theorem Canonical.baselineRecords {all o x} (h : Canonical s) : Canonical (s.baselineRecords all o x) := by
  induction x generalizing s o with
  | zero => exact h
  | succ n ih => exact ih (.baselineRecord h)

theorem Canonical.loadBaseline {r all} (h : Canonical s) : Canonical (s.loadBaseline r all) := .ite h (.baselineRecords h)

theorem Canonical.setFails {r n} (h : Canonical s) : Canonical (s.setFails r n) := .ite (.setRegFld h) (.setRegFld h)

theorem Canonical.bootFailed (h : Canonical s) : Canonical s.bootFailed := by
  unfold State.bootFailed
  split
  · exact h
  · extract_lets _ s1
    have h1 : Canonical s1 := .setFails h
    exact .ite (.setRegFld (.setRegFld h1)) h1

theorem Canonical.setWords {a bs x} (h : Canonical s) : Canonical (s.setWords a bs x) := by
  induction x generalizing s with
  | zero => exact h
  | succ n ih => exact ih (.setReg h)

theorem Canonical.extend {i d} (h : Canonical s) : Canonical (s.extend i d) := .setWords h

theorem Canonical.writeSnapshot {m} (h : Canonical s) : Canonical (s.writeSnapshot m) := by
  unfold State.writeSnapshot
  exact .setStack (MemStack.wf_write _ _ (MemStack.wf_write _ _ (h.stack m))) h

theorem Canonical.snapshotDone (h : Canonical s) : Canonical s.snapshotDone := by
  unfold State.snapshotDone
  extract_lets _ _ s1 s2
  have h1 : Canonical s1 := .setReg h
  have h2 : Canonical s2 := .setReg64 h1
  exact .congr h2 rfl rfl rfl

theorem Canonical.peerWrite {m off bs} (h : Canonical s) : Canonical (s.peerWrite m off bs) := by
  unfold State.peerWrite
  extract_lets
  split
  · exact .forward h
  · exact h

theorem Canonical.peerWrites {m off x} (h : Canonical s) : Canonical (s.peerWrites m off x) := by
  induction x generalizing s off with
  | nil => exact h
  | cons b bs ih => exact ih (.peerWrite h)

theorem Canonical.peerCopies {slot x} (h : Canonical s) : Canonical (s.peerCopies slot x) := by
  induction x generalizing s with
  | nil => exact h
  | cons m ms ih => exact ih (.peerWrites (.peerWrites h))

theorem Canonical.failover {failed} (h : Canonical s) : Canonical (s.failover failed) := Canonical.frame.dropOpen (.setDomain (.setReg h))

theorem Canonical.owedSnapshot (h : Canonical s) : Canonical s.owedSnapshot := .ite h (.ite (.congr h rfl rfl rfl) (.snapshotStart (.congr h rfl rfl rfl)))

theorem Canonical.toLoaded (h : Canonical s) : Canonical s.toLoaded := .owedSnapshot (.adoptFences (.adoptAll (Canonical.frame.go h)))

theorem Canonical.senseRound {raw} (h : Canonical s) : Canonical (s.senseRound raw) := by
  unfold State.senseRound
  extract_lets _ _ _ _ _ _ _ _ s1 s2 _ s3 _ s4
  have h1 : Canonical s1 := .setSensors (Canonical.frame.drawn h)
  clear_value s1
  have h2 : Canonical s2 := .setReg h1
  clear_value s2
  have h3 : Canonical s3 := .setReg h2
  clear_value s3
  have h4 : Canonical s4 := h3.congr rfl rfl rfl
  exact .thermalEvents h4

theorem Canonical.stageRound {rise} (h : Canonical s) : Canonical (s.stageRound rise) := .thermalEvents (.congr h rfl rfl rfl)

theorem Canonical.tripRound {rise} (h : Canonical s) : Canonical (s.tripRound rise) := by
  unfold State.tripRound
  extract_lets
  refine .ite ?_ ?_
  · exact h
  · refine .ite ?_ ?_
    · exact .trip h
    · split
      · exact .trip h
      · exact h

theorem Canonical.stopRound (h : Canonical s) : Canonical s.stopRound := .ite h (.orderlyStop h)

theorem Canonical.coolRound (h : Canonical s) : Canonical s.coolRound := .ite h (.ite (.setRegFld h) (.ite (.coldReset h) h))

theorem Canonical.followDelays (h : Canonical s) : Canonical s.followDelays := .ite (Canonical.frame.delayTrims h) h

theorem Canonical.setStackStates {v x} (h : Canonical s) : Canonical (s.setStackStates v x) := by
  induction x generalizing s with
  | nil => exact h
  | cons m ms ih => exact ih (.setRegFld h)

theorem Canonical.setDies {v w x} (h : Canonical s) : Canonical (s.setDies v w x) := by
  induction x generalizing s with
  | nil => exact h
  | cons d ds ih => exact ih (.ite h (.setDomain (.setDomain (.setDomain h))))

theorem Canonical.setBoth {a w} (h : Canonical s) : Canonical (s.setBoth a w) := .setShadow (.setReg h)

theorem Canonical.setRowMap {d row cols x} (h : Canonical s) : Canonical (s.setRowMap d row cols x) := by
  induction x generalizing s with
  | nil => exact h
  | cons w ws ih => exact ih (.setBoth h)

theorem Canonical.bistRows {d bad rows} (h : Canonical s) : Canonical (s.bistRows d bad rows).2 := by
  induction rows generalizing s with
  | nil => exact h
  | cons row rows ih =>
    unfold State.bistRows
    extract_lets cols
    split
    · exact h
    · exact ih (.setBoth (.setRowMap h))

theorem Canonical.bistDie {d bad} (h : Canonical s) : Canonical (s.bistDie d bad) := by
  have hrows : Canonical (s.bistRows d bad (List.range 64)).2 := .bistRows h
  unfold State.bistDie
  exact .setRegFld (.ite (.setBoth hrows) (.fenceDie (.setShadow h)))

theorem Canonical.bistDies {bad x} (h : Canonical s) : Canonical (s.bistDies bad x) := by
  induction x generalizing s with
  | nil => exact h
  | cons d ds ih => exact ih (.bistDie h)

theorem Canonical.resetBlock {u} (h : Canonical s) : Canonical (s.resetBlock u) := .setDomains (.congr h rfl rfl rfl)

theorem Canonical.clearStack {m} (h : Canonical s) : Canonical (s.clearStack m) := by
  have hx := wf_keep (fun a => decide (0xB00000000 ≤ a)) (h.stack m)
  unfold State.clearStack
  exact .setStack hx h

theorem Canonical.clearIo {i} (h : Canonical s) : Canonical (s.clearIo i) := .ite (.congr h rfl rfl rfl) (.congr h rfl rfl rfl)

theorem Canonical.clearChannel {c} (h : Canonical s) : Canonical (s.clearChannel c) := h.congr rfl rfl rfl

theorem Canonical.clearDie {d} (h : Canonical s) : Canonical (s.clearDie d) := by
  unfold State.clearDie
  extract_lets other
  exact .clearChannel (h.keepTiles (p := other) rfl rfl rfl)

theorem Canonical.dieReset {u source detail} (h : Canonical s) : Canonical (s.dieReset u source detail) := by
  unfold State.dieReset
  extract_lets s1 s2 s3
  have h1 : Canonical s1 := .endErase (.recordReset h)
  have h2 : Canonical s2 := .resetBlock (.ite (Canonical.frame.calAbort h1) h1)
  have h3 : Canonical s3 := .ite (.clearDie h2) (.ite (.clearStack h2) (.clearIo h2))
  exact .congr h3 rfl rfl rfl

theorem Canonical.fireDie {u source detail} (h : Canonical s) : Canonical (s.fireDie u source detail) := .ite h (.ite (.ite (.coldReset h) (.warmReset h)) (.dieReset h))

theorem Canonical.fireWarm {source detail} (h : Canonical s) : Canonical (s.fireWarm source detail) := .ite h (.ite (.coldReset h) (.warmReset h))

theorem Canonical.fireCold {source detail} (h : Canonical s) : Canonical (s.fireCold source detail) := .ite h (.coldReset h)

theorem Canonical.reloadUnit {u} (h : Canonical s) : Canonical (s.reloadUnit u) := .ite h (.ite (.ite h (.settleBay (.putWords (.putWords (.loadTiles (.loadWindows h)))))) (.ite (.loadMemory (.loadRings (.loadWindows h))) h))

theorem Canonical.unitRelease {u bad} (h : Canonical s) : Canonical (s.unitRelease u bad) := .reloadUnit (.ite (.bistDie (.congr h rfl rfl rfl)) (.ite (.setStackStates (.congr h rfl rfl rfl)) (.congr h rfl rfl rfl)))

theorem Canonical.setVerified {r root} (h : Canonical s) : Canonical (s.setVerified r root) := by
  unfold State.setVerified
  extract_lets _ _ s1 s2 s3 s4
  have h1 : Canonical s1 := .setRegFld (.setRegFld h)
  have h2 : Canonical s2 := .extend (.extend h1)
  have h3 : Canonical s3 := .extend h2
  have h4 : Canonical s4 := .loadBaseline h3
  exact .congr h4 rfl rfl rfl

theorem Canonical.lockCombs {x} (h : Canonical s) : Canonical (s.lockCombs x) := by
  induction x generalizing s with
  | nil => exact h
  | cons c cs ih => exact ih (.ite (.setRegFld h) (.setRegFld h))

theorem Canonical.lockLoops {x} (h : Canonical s) : Canonical (s.lockLoops x) := by
  induction x generalizing s with
  | nil => exact h
  | cons e es ih => exact ih (.ite (Canonical.frame.setTbl h) h)

theorem Canonical.stepWork {ok bad} (h : Canonical s) : Canonical (s.stepWork ok bad) := by
  unfold State.stepWork
  extract_lets s1 s2
  have h1 : Canonical s1 := .optionRegs h
  have h2 : Canonical s2 := .setReg h
  clear_value s1 s2
  split
  · exact .ite (.setRegFld h) (.orReg (.setRegFld h))
  · exact h1.congr rfl rfl rfl
  · exact .ite h2 (.setDomain h2)
  · exact .lockLoops (.lockCombs h)
  · exact .setStackStates h
  · exact .setReg (.bistDies h)
  · exact h

theorem Canonical.booted (h : Canonical s) : Canonical s.booted := by
  unfold State.booted
  extract_lets s1
  have h1 : Canonical s1 := by
    dsimp only [s1]
    split
    · exact .setFails h
    · exact h
  exact Canonical.frame.go (.congr h1 rfl rfl rfl)

theorem Canonical.await {k} (h : Canonical s) : Canonical (s.await k) := .congr h rfl rfl rfl

theorem Canonical.ioLost {i} (h : Canonical s) : Canonical (s.ioLost i) := .ite (.hostLinkLost h) (.linksLost h)

theorem Canonical.browned {k} (h : Canonical s) : Canonical (s.browned k) := by
  unfold State.browned
  extract_lets s1
  have h1 : Canonical s1 := .ite (.blwEvent h) h
  exact .ite (.ite (.ite (.dieFail (.await h)) (.await h)) (.fireDie h)) (.ite (.ite (.ite (.teardown (.await h)) (.await h)) (.fireDie h)) (.ite (.fireDie (.ioLost h)) (.ite (.ite (.planeLoss (.await h1)) (.fireWarm h1)) h)))

theorem Canonical.setChan {c x} (h : Canonical s) : Canonical (s.setChan c x) := .congr h rfl rfl rfl

theorem Canonical.ringOwner {c} (h : Canonical s) : Canonical (s.ringOwner c) := by
  unfold State.ringOwner
  extract_lets
  refine .ite ?_ ?_
  · exact .congr h rfl rfl rfl
  · split
    · exact h
    · exact .ite h (.ite (.orReg h) (.setDomain h))

theorem Canonical.signal {c dir} (h : Canonical s) : Canonical (s.signal c dir) := Canonical.frame.send h

theorem Canonical.ackRead {c out} (h : Canonical s) : Canonical (s.ackRead c out) := .clearReg h

theorem Canonical.mbxExpire {c out} (h : Canonical s) : Canonical (s.mbxExpire c out) := .ite h (.bumpReg (.setChan h))

theorem Canonical.storeSys {k i w} (h : Canonical s) : Canonical (s.storeSys k i w) := by
  have hset : ∀ i w, Canonical (s.setTile k ((s.tile k).setSys i w)) := fun _ _ => .setTile (h.tile k) h
  unfold State.storeSys
  extract_lets x old
  split
  · exact hset ..
  · exact hset ..
  · exact hset ..
  · exact hset ..
  · exact hset ..
  · exact hset ..
  · exact hset ..
  · exact hset ..
  · exact hset ..
  · exact h

theorem Canonical.tblStore {t w} (h : Canonical s) : Canonical (s.tblStore t w) := by
  unfold State.tblStore
  extract_lets _ _ _ _ s1
  have h1 : Canonical s1 := Canonical.frame.setTbl (.setTblShadow h)
  exact .ite h (.ite (.storeSys h) (.ite (Canonical.frame.setTbl h) (.ite (.setTblShadow h) (.ite (.pumpAll h1) h1))))

theorem Canonical.busError {m a write reason} (h : Canonical s) : Canonical (s.busError m a write reason) := Canonical.frame.faultEvent (.ite (.orReg h) (.setReg (.setReg (.orReg h))))

theorem Canonical.countRefusal {b off} (h : Canonical s) : Canonical (s.countRefusal b off) := by
  unfold State.countRefusal
  split
  · exact .bumpReg h
  · exact h

theorem Canonical.gloveRefuse {reason} (h : Canonical s) : Canonical (s.gloveRefuse reason) := .clearReg (.setReg h)

theorem Canonical.gloveStart {w} (h : Canonical s) : Canonical (s.gloveStart w) := by
  have hset : ∀ v x, Canonical { s.setReg Reg.GLV_CMD_STATUS v with glove := x } := fun _ _ => h.congr rfl rfl rfl
  unfold State.gloveStart
  exact .ite (.setReg h) (.ite (.gloveRefuse h) (hset _ _))

theorem Canonical.cfgRefuse {reason} (h : Canonical s) : Canonical (s.cfgRefuse reason) := .clearReg (.setReg h)

theorem Canonical.cfgStart {w} (h : Canonical s) : Canonical (s.cfgStart w) := by
  unfold State.cfgStart
  extract_lets _ _ s1 _ s2
  have h1 : Canonical s1 := .setReg h
  have h2 : Canonical s2 := .congr h1 rfl rfl rfl
  exact .ite (.setReg h) (.ite (.cfgRefuse h) (.ite (.showRegions h2) h2))

theorem Canonical.program {w} (h : Canonical s) : Canonical (s.program w) := by
  unfold State.program
  extract_lets v o base put fl
  have hput : ∀ m i, Memory.wf 0xFF m = true → Memory.wf 0xFF (put m i) = true := fun _ _ hm => wf_setByte _ _ hm
  have hfl : Memory.wf 0xFF fl = true := hput _ _ (hput _ _ (hput _ _ (hput _ _ h.flash)))
  exact .setReg (h.setFlash rfl rfl hfl)

theorem Canonical.portsTrain {x} (h : Canonical s) : Canonical (s.portsTrain x) := by
  induction x generalizing s with
  | nil => exact h
  | cons f fs ih => exact ih (.ite (.train (.setReg h)) h)

theorem Canonical.portControl {f w} (h : Canonical s) : Canonical (s.portControl f w) := by
  unfold State.portControl
  extract_lets s1
  have h1 : Canonical s1 := .clearReg h
  exact .ite (.setReg (.ite (.linkLost h1) h1)) (.ite (.ite (.linkLost h1) (.ite (.train (.setReg h1)) h1)) (.portsTrain h1))

theorem Canonical.storeDieFence {d v} (h : Canonical s) : Canonical (s.storeDieFence d v) := by
  unfold State.storeDieFence
  extract_lets s1 s2
  have h1 : Canonical s1 := .setShadow h
  have h2 : Canonical s2 := .setDomains (.setReg h1)
  exact .ite (.fenceDie h1) (.ite (.ite (.settleBay h2) h2) h1)

theorem Canonical.storePair {b low off v} (h : Canonical s) : Canonical (s.storePair b low off v) := by
  unfold State.storePair
  extract_lets s1
  have h1 : Canonical s1 := .setBoth h
  refine .ite ?_ ?_
  · exact .setReg h
  · refine .ite ?_ ?_
    · exact .setShadow h
    · split
      · exact .ite (.storeDieFence h) (.ite (.setRegFld h1) h1)
      · exact .setBoth h

theorem Canonical.afterWrite {m a b off k w} (h : Canonical s) : Canonical (s.afterWrite m a b off k w) := by
  unfold State.afterWrite
  extract_lets s1 s2
  have h1 : Canonical s1 := by
    dsimp only [s1]
    split
    · exact .ite (.congr h rfl rfl rfl) h
    · exact h
  have h2 : Canonical s2 := .setReg h1
  split
  · exact .ite (.clearReg h1) h1
  · exact .ite (.ite (.congr h2 rfl rfl rfl) h2) h1
  · exact .ite (Canonical.frame.takeReference h1) h1
  · split
    · exact .congr h1 rfl rfl rfl
    · exact .setPeriod h1
    · exact .stepTime h1
    · exact h1
  · split
    · exact .program h1
    · exact .ite (.cfgStart h1) h1
    · exact h1
  · exact .ite (.gloveStart h1) h1
  · split
    · exact .pumpAll h1
    · exact .ite (.pumpAll (.takeHearth h1)) h1
    · exact .ite (.laneSwap h1) h1
    · exact h1
  · exact .ite (.blwStart h1) h1
  · exact .ite (.calStart h1) h1
  · exact .ite (.adoptMesh h1) h1
  · extract_lets s3
    have h3 : Canonical s3 := .checkBuffer (.ite h1 (.sendHeld h1))
    exact .ite (.ite (.ite h3 (.hostLinkLost h3)) (.ite (.checkBuffer h1) h1)) (.ite (.portsTrain (.congr h1 rfl rfl rfl)) (.ite (.portControl h1) h1))
  · exact h1

theorem Canonical.showRefusal {a w reason} (h : Canonical s) : Canonical (s.showRefusal a w reason) := .ite (.cfgRefuse h) h

end Sys2Proof.Machine

namespace Sys2Proof.Machine

/-! ## The control space (R11, R12, R322 to R331, R442 to R452) -/

/-- An answer after which the memories are canonical. -/
def BusAnswer.Keeps : BusAnswer → Prop
  | .ok _ t => Canonical t
  | .err _ => True

section
variable {s t : State} {m : Byte} {c : Nat} {out : Bool} {w : Word}

theorem BusAnswer.Keeps.ok {w : Word} (h : Canonical s) : (BusAnswer.ok w s).Keeps := h

theorem BusAnswer.Keeps.err {r : Nat} : (BusAnswer.err r).Keeps := trivial

theorem BusAnswer.Keeps.ite {p : Prop} [Decidable p] {x y : BusAnswer} (hx : x.Keeps) (hy : y.Keeps) : (if p then x else y).Keeps :=
  iteInduction (fun _ => hx) fun _ => hy

/-! ### Mailboxes -/

theorem Canonical.mbxWr (h : Canonical s) : (s.mbxWr m c out w).Keeps := by
  unfold State.mbxWr
  extract_lets x
  refine .ite (.ite .err ?_) (.ite .err ?_)
  · split
    · exact .err
    · exact .ok (.setChan h)
  · split
    · exact .err
    · exact .ok (.setChan h)

theorem Canonical.mbxRd (h : Canonical s) : (s.mbxRd m c out).Keeps := by
  unfold State.mbxRd
  extract_lets x may
  refine .ite (.ite .err ?_) (.ite .err ?_)
  · split
    · exact .err
    · exact .ok (.setChan h)
  · split
    · exact .err
    · exact .ok (.setChan h)

theorem Canonical.mbxBell (h : Canonical s) : (s.mbxBell m c out w).Keeps := by
  unfold State.mbxBell
  extract_lets x q
  refine .ite .err (.ite (.ok h) ?_)
  split
  · exact .ite (.ok (.signal h)) (.ok (.ringOwner (.signal (.orReg h))))
  · exact .ite .err (.ite .err (.ite (.ok (.signal (.setChan h))) (.ok (.ringOwner (.signal (.setChan h))))))

theorem Canonical.mbxAckWr (h : Canonical s) : (s.mbxAckWr m c out w).Keeps := by
  unfold State.mbxAckWr
  extract_lets may new st s1
  have h1 : Canonical s1 := .setReg h
  exact .ite .err (.ok (.setReg h1))

theorem Canonical.mbxAckRd (h : Canonical s) : (s.mbxAckRd m c out).Keeps := .ite (.ok (.ackRead h)) .err

theorem Canonical.mbxVerWr (h : Canonical s) : (s.mbxVerWr m c w).Keeps := by
  unfold State.mbxVerWr
  extract_lets own peer v v1 v2
  exact .ite .err (.ok (.setReg h))

theorem Canonical.mbxReadAt {r : Nat} {table : Bool} (h : Canonical s) : (s.mbxReadAt m c r table).Keeps := by
  unfold State.mbxReadAt
  extract_lets own quiet plain
  have hquiet : ∀ ok, (quiet ok).Keeps := fun _ => .ite (.ok h) .err
  have hplain : ∀ w, (plain w).Keeps := fun _ => .ite (.ok h) .err
  split
  · exact h.mbxRd
  · exact h.mbxRd
  · exact h.mbxAckRd
  · exact h.mbxAckRd
  · exact hquiet _
  · exact hquiet _
  · exact hquiet _
  · exact hquiet _
  · exact hplain _
  · exact hplain _
  · exact hplain _
  · exact hplain _
  · exact .ok h

theorem Canonical.mbxWriteAt {r : Nat} {table : Bool} (h : Canonical s) : (s.mbxWriteAt m c r w table).Keeps := by
  unfold State.mbxWriteAt
  extract_lets own quiet may
  have hquiet : ∀ ok, (quiet ok).Keeps := fun _ => .ite (.ok h) .err
  split
  · exact h.mbxWr
  · exact h.mbxWr
  · exact h.mbxBell
  · exact h.mbxBell
  · exact h.mbxAckWr
  · exact h.mbxAckWr
  · exact h.mbxVerWr
  · exact hquiet _
  · exact hquiet _
  · exact .ite (.ok (.clearReg h)) .err
  · exact hquiet _
  · exact .ite (.ok (.setReg h)) .err
  · exact .ok h

/-! ### Reads -/

theorem Canonical.tblValue {x : TblPlace} (h : Canonical s) : Canonical (s.tblValue x).2 := by
  unfold State.tblValue
  split
  · exact Canonical.frame.pair_ite (Canonical.frame.drawn h) h
  · exact h
  · exact h
  · exact h
  · exact h
  · exact h
  · exact h
  · exact h

theorem Canonical.tblRead {b : Block} {addr : Nat} {hi : Bool} (h : Canonical s) : (s.tblRead m b addr hi).Keeps := by
  unfold State.tblRead
  split
  · exact .err
  · exact .ite (.ok (.tblValue h)) (.ok (.setReg (.tblValue h)))

theorem Canonical.readMapTick {a owner : Nat} (h : Canonical s) : Canonical (s.readMapTick a owner).2 := by
  have hF := Canonical.frame
  unfold State.readMapTick
  extract_lets w
  exact hF.pair_ite h (hF.pair_ite (hF.drawn h) (.clearReg (hF.drawn h)))

theorem Canonical.readTime {off : Nat} {x : Word × State} (h : Canonical s) (hread : s.readTime off = some x) : Canonical x.2 := by
  unfold State.readTime at hread
  split at hread
  · cases hread
    exact h.congr rfl rfl rfl
  · split at hread
    · cases hread
      exact h.congr rfl rfl rfl
    · cases hread

theorem Canonical.readRow {a : Nat} {b : Block} {off : Nat} {r : RegRow} {k : Nat} {hi : Bool} (h : Canonical s) : (s.readRow m a b off r k hi).Keeps := by
  unfold State.readRow
  extract_lets low
  split
  · refine .ite h.tblRead (.ite ?_ (.ok h))
    split
    · exact .ok h.readMapTick
    · exact .ok h
  · refine .ite (.ok h) ?_
    split
    next w t hread =>
      by_cases htck : (b == .tck) = true
      · rw [if_pos htck] at hread
        exact h.readTime hread
      · rw [if_neg htck] at hread
        cases hread
    · exact .ok h

theorem Canonical.blockRead {a : Nat} {b : Block} {off : Nat} (h : Canonical s) : (s.blockRead m a b off).Keeps := by
  unfold State.blockRead
  split
  · exact h.mbxReadAt
  · refine .ite .err (.ite .err (.ite (.ok h) ?_))
    split
    · exact .ok h
    · exact h.readRow

theorem Canonical.ctlRead {a size : Nat} (h : Canonical s) : Canonical (s.ctlRead m a size).2 := by
  unfold State.ctlRead
  refine Canonical.frame.pair_ite (.busError h) ?_
  split
  · exact .busError h
  · refine Canonical.frame.pair_ite (.busError h) ?_
    have hread : ∀ b off, (s.blockRead m a b off).Keeps := fun _ _ => h.blockRead
    split
    next heq => exact (congrArg BusAnswer.Keeps heq).mp (hread _ _)
    · exact .busError (.countRefusal h)

/-! ### Writes -/

theorem Canonical.storeTable {b : Block} {addr : Nat} {x : TblPlace} {v : Word} (h : Canonical s) (hstore : State.storeTable b addr x s v = .ok t) :
    Canonical t := by
  unfold State.storeTable at hstore
  split at hstore
  · cases hstore
  · split at hstore
    · cases hstore
    · cases hstore
      exact .setReg (.tblStore h)

theorem Canonical.storeCritical {b : Block} {low off : Nat} {mask v : Word} (h : Canonical s) (hstore : State.storeCritical b low off mask s v = .ok t) :
    Canonical t := by
  unfold State.storeCritical at hstore
  extract_lets v' at hstore
  split at hstore
  · cases hstore
  · cases hstore
    exact .storePair h

theorem Canonical.writeHalf {low : Nat} {hi : Bool} {store : State → Word → Except Nat State} (h : Canonical s)
    (hstore : ∀ y v z, Canonical y → store y v = .ok z → Canonical z) : (s.writeHalf m low hi w store).Keeps := by
  have hheld : ∀ l, Canonical { s with rwc := l } := fun _ => h.congr rfl rfl rfl
  unfold State.writeHalf
  split
  · exact .ite .err (.ok (hheld _))
  · extract_lets rest
    refine .ite .err (.ite (.ok (hheld _)) (.ite .err ?_))
    split
    · exact .err
    next heq => exact .ok (hstore _ _ _ (hheld _) heq)

theorem Canonical.writeRow {a : Nat} {b : Block} {off : Nat} {r : RegRow} {k : Nat} {hi : Bool} (h : Canonical s) :
    (s.writeRow m a b off r k hi w).Keeps := by
  unfold State.writeRow
  extract_lets low isData v
  refine .ite ?_ (.ite ?_ (.ite .err (.ite .err (.ok (.afterWrite (.setReg h))))))
  · split
    · exact .err
    · split
      · exact .err
      · exact h.writeHalf fun _ _ _ hy hstore => hy.storeTable hstore
  · exact h.writeHalf fun _ _ _ hy hstore => hy.storeCritical hstore

theorem Canonical.blockWrite {a : Nat} {b : Block} {off : Nat} (h : Canonical s) : (s.blockWrite m a b off w).Keeps := by
  unfold State.blockWrite
  split
  · exact h.mbxWriteAt
  · refine .ite .err (.ite .err (.ite (.ok h) ?_))
    split
    · exact .ok h
    · exact h.writeRow

theorem Canonical.ctlWrite {a size : Nat} (h : Canonical s) : Canonical (s.ctlWrite m a size w).2 := by
  unfold State.ctlWrite
  refine Canonical.frame.pair_ite (.busError h) ?_
  split
  · exact .busError h
  · refine Canonical.frame.pair_ite (.busError h) ?_
    have hwrite : ∀ b off, (s.blockWrite m a b off w).Keeps := fun _ _ => h.blockWrite
    split
    next heq => exact (congrArg BusAnswer.Keeps heq).mp (hwrite _ _)
    · exact .busError (.countRefusal (.showRefusal h))

end

end Sys2Proof.Machine

namespace Sys2Proof.Machine

variable {s t : State}

/-! ## Takeover and tick -/

theorem Canonical.mapsOf {v} (h : Canonical v) : Canonical (s.mapsOf v) := by
  unfold State.mapsOf
  exact h.congr rfl rfl rfl

theorem Canonical.withMaps (h : Canonical s) : Canonical s.withMaps := by
  unfold State.withMaps
  exact h.congr rfl rfl rfl

theorem Canonical.takeoverFences {x} (h : Canonical s) : Canonical (s.takeoverFences x).2 := by
  induction x generalizing s with
  | nil => exact h
  | cons k ks ih =>
    unfold State.takeoverFences
    extract_lets d w
    split
    · exact ih h
    split
    · exact h
    split
    · exact h
    · exact ih (.orReg (.shadowFence h))

theorem Canonical.endTakeover (h : Canonical s) : Canonical s.endTakeover := by
  have hfences : ∀ x, Canonical (s.takeoverFences x).2 := fun _ => h.takeoverFences
  unfold State.endTakeover
  extract_lets f
  split
  next ok s1 heq =>
  have h1 : Canonical s1 := (congrArg (fun x => Canonical x.2) heq).mp (hfences _)
  extract_lets g v v1 v2 v3 s2 s3 s4 s5 _ _ s6
  have hv1 : Canonical v1 := .loadWindows (.clearWindows h1.withMaps)
  have hv2 : Canonical v2 := .settleBays (.applyDies hv1)
  have hv3 : Canonical v3 := .putWords hv2
  have h2 : Canonical s2 := .mapsOf hv3
  clear_value s2
  have h3 : Canonical s3 := .setRegFld (.setRegFld h2)
  clear_value s3
  have h4 : Canonical s4 := .setReg (.orReg h3)
  clear_value s4
  have h5 : Canonical s5 := .allReady h4
  clear_value s5
  have h6 : Canonical s6 := h5.congr rfl rfl rfl
  exact .ite (.teardown (.orReg h1)) (.showStage (.ite h6 (.putWords (.adoptAll h6))))

theorem Canonical.openTick {n abandon} (h : Canonical s) : Canonical (s.openTick n abandon) := by
  have hF := Canonical.frame
  unfold State.openTick
  extract_lets was s1 first rebuild s2 s3 s4 _ s5 s6 s7 s8 degradedFirst s9 s10 s11 loading _ _ s12 s13 s14 s15
  have h1 : Canonical s1 := .closeTick h
  have h4 : Canonical s4 := .setSeq (.fenceDies (.snapshotLimit (.correctTime h1)))
  have h5 : Canonical s5 := h4.congr rfl rfl rfl
  have h6 : Canonical s6 := .ite h5 (hF.go (.setRegFld h5))
  have h7 : Canonical s7 := hF.sendFrame h6
  have h8 : Canonical s8 := h7.congr rfl rfl rfl
  have h9 : Canonical s9 := .adoptAll h8
  have h10 : Canonical s10 := .ite (.putWords h9) h9
  have h11 : Canonical s11 := .adoptFences h10
  have h12 : Canonical s12 := h11.mapTiles (g := fun k x => x.atBeacon s11.recovery.takeover (loading.contains k) rebuild) (fun _ _ => rfl) rfl rfl rfl
  have h13 : Canonical s13 := .openStacks (.markTraffic h12)
  have h14 : Canonical s14 := hF.lockAll h13
  have h15 : Canonical s15 := .latchQuote (.showStage (.originFrame (.snapshotStart h14)))
  exact .ite h1 (.ite (.planeLoss h15) h15)

theorem Canonical.askWindow {f x} (h : Canonical s) : Canonical (s.askWindow f x) := by
  induction x generalizing s with
  | nil => exact h
  | cons j js ih =>
    unfold State.askWindow
    refine ih ?_
    split
    · exact .askStack h
    · exact h

theorem Canonical.fadeRound {c x} (h : Canonical s) : Canonical (s.fadeRound c x) := by
  induction x generalizing s c with
  | nil => exact h
  | cons f fs ih =>
    unfold State.fadeRound
    exact ih (.ite (.fade h) h)

theorem Canonical.setRails {n vs as} (h : Canonical s) : Canonical (s.setRails n vs as) := by
  induction vs generalizing s n as with
  | nil => exact h
  | cons v vs ih =>
    cases as with
    | nil => exact h
    | cons a as =>
      unfold State.setRails
      exact ih (.ite (.setReg h) h)

theorem Canonical.feedRound {p stream r n} (h : Canonical s) : Canonical (s.feedRound p stream r n).1 := by
  have hF := Canonical.frame
  induction n generalizing s r with
  | zero => exact h
  | succ n ih =>
    unfold State.feedRound
    split
    · exact h
    split
    next y wrong rest _ =>
    extract_lets _ clean short
    have hclean : Canonical clean := .emberErrors (hF.setPort h)
    have hshort : ∀ x, Canonical x → Canonical (short x).1 := fun _ hx => hF.emberError hx
    split
    · exact hshort _ hclean
    split
    · exact ih hclean
    · exact hshort _ h

theorem Canonical.takeMgmt {f type} {x : Nat × State} (h : Canonical s) (htake : s.takeMgmt f type = some x) : Canonical x.2 := by
  unfold State.takeMgmt at htake
  extract_lets get at htake
  have hget : ∀ b, get b = some x → Canonical x.2 := fun b hb => by
    dsimp only [get] at hb
    split at hb
    · cases hb
    · split at hb
      · cases hb
        exact .pumpPort (.setBuffer h)
      · cases hb
  rcases Option.or_eq_some_iff.1 htake with hthree | ⟨-, hfour⟩
  · exact hget _ hthree
  · exact hget _ hfour

theorem Canonical.landBroadcast {p w0 w1 b} (h : Canonical s) (hland : s.landBroadcast p w0 w1 b = some t) : Canonical t := by
  unfold State.landBroadcast at hland
  extract_lets tick c at hland
  split at hland
  · obtain ⟨off, -, hoff⟩ := Option.bind_eq_some_iff.1 hland
    split at hoff
    · cases hoff
    · cases hoff
      exact .toTile h
  · obtain ⟨off, -, hoff⟩ := Option.bind_eq_some_iff.1 hland
    split at hoff
    · cases hoff
    · cases hoff
      exact .toRectangle h
  · obtain ⟨off, -, rfl⟩ := Option.map_eq_some_iff.1 hland
    exact .toGroup h
  · obtain ⟨x, -, hx⟩ := Option.bind_eq_some_iff.1 hland
    obtain ⟨off, -, rfl⟩ := Option.map_eq_some_iff.1 hx
    exact .toTile h

theorem Canonical.answerRead {m src base ret stream ctr n i} (h : Canonical s) : Canonical (s.answerRead m src base ret stream ctr n i).1 := by
  have hF := Canonical.frame
  induction n generalizing s i with
  | zero => exact h
  | succ n ih =>
    unfold State.answerRead
    extract_lets p
    split
    · exact h
    · exact ih (hF.queueBlock (hF.memRead h))

/-! ## The host -/

theorem Canonical.access {m a size w} (h : Canonical s) : Canonical (s.access m a size w) := Canonical.frame.send (.ctlWrite h)

theorem Canonical.accessRead {m a size} (h : Canonical s) : Canonical (s.accessRead m a size) := Canonical.frame.send (.ctlRead h)

theorem Canonical.cfgEnd {reason} (h : Canonical s) : Canonical (s.cfgEnd reason) := .clearReg (.setReg (.congr h rfl rfl rfl))

theorem Canonical.checkPassed {r} (h : Canonical s) : Canonical (s.checkPassed r) := .showRegions (.setRegFld (.setRegFld (.setFails (.setRegFld (.congr h rfl rfl rfl)))))

theorem Canonical.timeout {a write} (h : Canonical s) : Canonical (s.timeout a write) := Canonical.frame.send (.busError (.orReg h))

theorem Canonical.reply {r cmd status payload} (h : Canonical s) : Canonical (s.reply r cmd status payload) := Canonical.frame.send h

theorem Canonical.onSession {slot f} (h : Canonical s) : Canonical (s.onSession slot f) := .congr h rfl rfl rfl

theorem Canonical.conclude {r slot code status payload} (h : Canonical s) : Canonical (s.conclude r slot code status payload) := .onSession (.reply h)

theorem Canonical.replyLater {r code status payload} (h : Canonical s) : Canonical (s.replyLater r code status payload) := by
  unfold State.replyLater
  split
  · exact .conclude h
  · exact h

theorem MemStack.wf_restore {x : MemStack} {data l} (hx : Memory.wf 0 x.dram = true) : Memory.wf 0 (x.restore data l).dram = true := by
  induction l generalizing x data with
  | nil => exact hx
  | cons w ws ih => exact ih (MemStack.wf_write _ _ (MemStack.wf_write _ _ hx))

theorem Canonical.restoreStacks {m x} (h : Canonical s) : Canonical (s.restoreStacks m x) := by
  induction x generalizing s m with
  | nil => exact h
  | cons x xs ih =>
    unfold State.restoreStacks
    exact ih (.setStack (MemStack.wf_restore (h.stack m)) h)

theorem Canonical.restoreFrom {xs} (h : Canonical s) : Canonical (s.restoreFrom xs) := by
  unfold State.restoreFrom
  extract_lets _ tick s1 s2
  have h1 : Canonical s1 := .setReg h.restoreStacks
  clear_value s1
  have h2 : Canonical s2 := .setReg64 h1
  clear_value s2
  exact h2.congr rfl rfl rfl

theorem Canonical.applyDegraded {f} (h : Canonical s) : Canonical (s.applyDegraded f) := .setRegFld (.setRegFld (.applyImage (.setReg (.setReg (.shadowBays h)))))

theorem Canonical.startJob {first restore peer} (h : Canonical s) : Canonical (s.startJob first restore peer) := by
  unfold State.startJob
  extract_lets s1 s2
  have h1 : Canonical s1 := by
    dsimp only [s1]
    split
    · exact .ite h (.applyDegraded h)
    · exact h
  have h2 : Canonical s2 := by
    dsimp only [s2]
    refine .ite ?_ ?_
    · split
      · exact .setRegFld (.restoreFrom h1)
      · exact h1
    · exact h1
  exact .showStage (.congr h2 rfl rfl rfl)

theorem Canonical.unload (h : Canonical s) : Canonical s.unload := by
  have hF := Canonical.frame
  unfold State.unload
  extract_lets a b s1 s2 s3 s4 _ s5
  have h1 : Canonical s1 := .ite (.setShadow (.setShadow (.setReg (.setReg h)))) h
  clear_value s1
  have h2 : Canonical s2 := .setRegFld (.setRegFld h1)
  clear_value s2
  have h3 : Canonical s3 := .setReg (.setReg h2)
  clear_value s3
  have h4 : Canonical s4 := .setRegFld (.setWords h3)
  clear_value s4
  have h5 : Canonical s5 := h4.mapTiles (g := fun _ x => { x with placed := false }) (fun _ _ => rfl) rfl rfl rfl
  exact hF.go (.wakeBays (.setPeriod h5))

/-! ### Requests -/

theorem Canonical.closeSession {slot} (h : Canonical s) : Canonical (s.closeSession slot) := h.congr rfl rfl rfl

theorem Canonical.hello {r pl} (h : Canonical s) : Canonical (s.hello r pl).2.2 := by
  unfold State.hello
  extract_lets byte role holder s1 _
  have h1 : Canonical s1 := by
    clear_value holder
    cases holder with
    | some x => exact .closeSession h
    | none => exact h
  clear_value s1
  split
  · exact h
  split
  · exact h
  split
  · exact h
  split
  · exact h
  split
  · exact h
  split
  · exact h1
  · exact h1.congr rfl rfl rfl

theorem Canonical.readWords {m a n acc} (h : Canonical s) : Canonical (s.readWords m a n acc).2 := by
  induction n generalizing s a acc with
  | zero => exact h
  | succ n ih =>
    have hread : Canonical (s.ctlRead m a 4).2 := h.ctlRead
    unfold State.readWords
    split
    next heq => exact ih ((congrArg (fun x => Canonical x.2) heq).mp hread)
    next heq => exact (congrArg (fun x => Canonical x.2) heq).mp hread

theorem Canonical.writeWords {m a k x} (h : Canonical s) : Canonical (s.writeWords m a k x).2 := by
  induction x generalizing s a k with
  | nil => exact h
  | cons w ws ih =>
    have hwrite : Canonical (s.ctlWrite m a 4 w).2 := h.ctlWrite
    unfold State.writeWords
    split
    next heq => exact ih ((congrArg (fun x => Canonical x.2) heq).mp hwrite)
    next heq => exact (congrArg (fun x => Canonical x.2) heq).mp hwrite

theorem Canonical.mbxSendAll {m c ws} (h : Canonical s) : Canonical (s.mbxSendAll m c ws).2.2 := by
  unfold State.mbxSendAll
  extract_lets x
  split
  · exact h
  split
  · exact h
  split
  · exact h
  · exact .ringOwner (.signal (.setChan h))

theorem Canonical.mbxRecvAll {m c} (h : Canonical s) : Canonical (s.mbxRecvAll m c).2 := by
  unfold State.mbxRecvAll
  extract_lets mine ack s1 x
  have h1 : Canonical s1 := .ite (.ackRead h) h
  split
  · exact .setChan h1
  · exact h1

theorem Canonical.openPair {x pl} (h : Canonical s) : Canonical (s.openPair x pl).2.2 := by
  unfold State.openPair
  extract_lets n mine
  split
  · exact h
  split
  · exact h
  · exact h.congr rfl rfl rfl

/-- A verdict after which the memories are canonical. -/
def Verdict.Keeps : Verdict → Prop
  | .now _ _ t | .later t => Canonical t

theorem Verdict.Keeps.now {status payload} (h : Canonical s) : (Verdict.now status payload s).Keeps := h

theorem Verdict.Keeps.later (h : Canonical s) : (Verdict.later s).Keeps := h

theorem Verdict.Keeps.ite {p : Prop} [Decidable p] {x y : Verdict} (hx : x.Keeps) (hy : y.Keeps) : (if p then x else y).Keeps :=
  iteInduction (fun _ => hx) fun _ => hy

theorem Canonical.cmdRun {r x code pl peer} (h : Canonical s) : (s.cmdRun r x code pl peer).Keeps := by
  have hboot : ∀ y : BootState, y.flash = s.boot.flash → Canonical { s with boot := y } := fun _ hy => h.congr rfl rfl hy
  unfold State.cmdRun
  extract_lets n m
  split
  · exact .now (.closeSession h)
  · exact .now h
  · exact .now h
  · have hread := h.readWords (m := m) (a := n 0 8) (n := n 8 4) (acc := [])
    split
    next heq => exact .now ((congrArg (fun x => Canonical x.2) heq).mp hread)
    next heq => exact .now ((congrArg (fun x => Canonical x.2) heq).mp hread)
  · have hwrite := h.writeWords (m := m) (a := n 0 8) (k := 0) (x := wordsAt pl 12)
    split
    next heq => exact .now ((congrArg (fun x => Canonical x.2) heq).mp hwrite)
    next heq => exact .now ((congrArg (fun x => Canonical x.2) heq).mp hwrite)
  · exact .ite (.now h) (.later (h.congr rfl rfl rfl))
  · exact .ite (.now h) (.now h.unload)
  · exact .ite (.now h) (.now (.startJob h))
  · exact .now (Canonical.frame.go h)
  · exact .now h.teardown
  · exact .ite (.now h) (.now (hboot _ rfl))
  · exact .now (hboot _ rfl)
  · exact .now (hboot _ rfl)
  · exact .ite (.now h) (.now (hboot _ rfl))
  · exact .now h.mbxSendAll
  · exact .now h.mbxRecvAll
  · exact .now h.openPair
  · exact .now (h.congr rfl rfl rfl)
  · exact .now (.onSession h)
  · exact .ite (.now h) (.later (.setRegFld (h.congr rfl rfl rfl)))
  · exact .now h

theorem Canonical.judge {r x code pl peer} (h : Canonical s) : (s.judge r x code pl peer).Keeps := by
  unfold State.judge
  split
  · exact .now h
  · refine .ite (.now h) (.ite (.now (.ite (.orReg h) h)) (.ite (.now (.bumpReg h)) ?_))
    split
    · exact .now h
    · exact h.cmdRun

theorem Canonical.sessionRequest {r x code pl peer} (h : Canonical s) : Canonical (s.sessionRequest r x code pl peer) := by
  unfold State.sessionRequest
  extract_lets q
  refine .ite (.reply h) (.ite ?_ ?_)
  · split
    · exact .reply h
    · exact .reply h
  · have hjudge := Canonical.judge (r := r) (x := x) (code := code) (pl := pl) (peer := peer) (h.onSession (slot := x.slot) (f := fun y => { y with h := q }))
    split
    next heq => exact .conclude ((congrArg Verdict.Keeps heq).mp hjudge)
    next heq => exact .onSession ((congrArg Verdict.Keeps heq).mp hjudge)

theorem Canonical.mhp {r code pl peer} (h : Canonical s) : Canonical (s.mhp r code pl peer) := by
  unfold State.mhp
  refine .ite ?_ ?_
  · exact h
  · refine .ite ?_ ?_
    · exact .reply (.hello h)
    · split
      · exact .reply h
      · exact .sessionRequest h

theorem Canonical.gloveEnd {status} (h : Canonical s) : Canonical (s.gloveEnd status) := .clearReg (.setReg (.congr h rfl rfl rfl))

theorem Canonical.selftestFailed (h : Canonical s) : Canonical s.selftestFailed := .orReg (.orReg h)

theorem Canonical.showActive (h : Canonical s) : Canonical s.showActive := by
  unfold State.showActive
  extract_lets
  split
  · exact .setReg h
  · exact .setReg h

theorem Canonical.reserveBlock {p key b} (h : Canonical s) : Canonical (s.reserveBlock p key b) := Canonical.frame.setPort h

theorem Canonical.landBlock {p b} (h : Canonical s) : Canonical (s.landBlock p b) := .toTile (.ite (Canonical.frame.hearthError h) (.ite (Canonical.frame.hearthError h) h))

theorem Canonical.blockLost {p src l} (h : Canonical s) : Canonical (s.blockLost p src l) := Canonical.frame.hearthError (Canonical.frame.setPort (Canonical.frame.setTbl h))

theorem Canonical.laneRunCheck {p l before} (h : Canonical s) : Canonical (s.laneRunCheck p l before) := .ite (.laneFail h) h

theorem Canonical.deliverBlock {p l pos b} (h : Canonical s) : Canonical (s.deliverBlock p l pos b) := by
  unfold State.deliverBlock
  extract_lets
  refine .ite ?_ ?_
  · exact Canonical.frame.hearthError h
  · split
    · exact .ite (Canonical.frame.hearthError h) (.ite h (.ite (Canonical.frame.hearthError (Canonical.frame.setPort h)) (.reserveBlock h)))
    · exact .ite (Canonical.frame.hearthError h) (.ite (Canonical.frame.hearthError h) (.reserveBlock h))

theorem Canonical.takeLight {p k} (h : Canonical s) : Canonical (s.takeLight p k) := by
  unfold State.takeLight
  extract_lets
  split
  · exact h
  · exact .congr h rfl rfl rfl

theorem Canonical.cellWritten {b} (h : Canonical s) : Canonical (s.cellWritten b) := .ite h (Canonical.frame.setFport h)

theorem Canonical.pilotGood {p lane second} (h : Canonical s) : Canonical (s.pilotGood p lane second) := .ite (.bumpReg (Canonical.frame.setPort h)) (Canonical.frame.setPort h)

theorem Canonical.pilot {p laneB type x act} (h : Canonical s) (hact : ∀ y f, Canonical y → Canonical (act y f)) : Canonical (s.pilot p laneB type x act) := by
  unfold State.pilot
  split
  · exact hact _ _ (.pilotGood h)
  · exact h

theorem Canonical.acceptImages {g d} (h : Canonical s) : Canonical (s.acceptImages g d) := by
  suffices hbody : ∀ f, f = State.acceptImages → Canonical (f s g d) from hbody _ rfl
  intro f hf
  delta State.acceptImages at hf
  rw [hf]
  generalize State.fencedDies = fenced
  revert fenced
  refine id fun fenced => ?_
  beta_reduce
  extract_lets _ _ _ _ _ s1 s2 s3
  have h1 : Canonical s1 := h.congr rfl rfl rfl
  clear_value s1
  have h2 : Canonical s2 := .setRegFld (.extend (.extend h1))
  clear_value s2
  have h3 : Canonical s3 := .setRegFld h2
  clear_value s3
  split
  · exact .applyDegraded h3
  · exact .applyImage h3

theorem Canonical.judgeLock {offset} (h : Canonical s) : Canonical (s.judgeLock offset) := .ite (.setRegFld (.congr h rfl rfl rfl)) (.ite (.orReg (.setRegFld (.congr h rfl rfl rfl))) (.congr h rfl rfl rfl))

theorem Canonical.syncEnd {offset} (h : Canonical s) : Canonical (s.syncEnd offset) := by
  unfold State.syncEnd
  extract_lets s1 s2 _ s3
  have h1 : Canonical s1 := .setReg h
  have h2 : Canonical s2 := .judgeLock (.setRegFld h1)
  have h3 : Canonical s3 := Canonical.frame.drawn h2
  exact .ite (.stepTime h2) (.setReg (.congr h3 rfl rfl rfl))

theorem Canonical.takeSync {i x} (h : Canonical s) : Canonical (s.takeSync i x) := by
  have hsend : ∀ m y, Canonical { s.send m with host := y } := fun _ _ => h.congr rfl rfl rfl
  unfold State.takeSync
  exact hsend _ _

theorem Canonical.ptp {i x m} (h : Canonical s) : Canonical (s.ptp i x m) := by
  have hmaster : ∀ y, Canonical { s with host := { s.host with ptp := y } } := fun _ => h.congr rfl rfl rfl
  unfold State.ptp
  extract_lets p mine
  split
  · exact .ite (hmaster _) h
  · exact .ite (.takeSync h) h
  · split
    · exact .ite (.syncEnd (hmaster _)) h
    · exact h
  · split
    · exact .ite (hmaster _) h
    · exact h
  · exact h

theorem Canonical.onPair {q f} (h : Canonical s) : Canonical (s.onPair q f) := .congr h rfl rfl rfl

theorem Canonical.sendRoce {q op psn data} (h : Canonical s) : Canonical (s.sendRoce q op psn data) := .ite (.congr h rfl rfl rfl) (Canonical.frame.send h)

theorem Canonical.nak {q op psn} (h : Canonical s) : Canonical (s.nak q op psn) := by
  unfold State.nak
  extract_lets s1
  have h1 : Canonical s1 := .onPair (.sendRoce h)
  exact .ite (.bumpReg h1) h1

theorem Canonical.congestion {q ce} (h : Canonical s) : Canonical (s.congestion q ce) := .ite (.onPair (.sendRoce h)) h

theorem Canonical.respond {q psn n bs first} (h : Canonical s) : Canonical (s.respond q psn n bs first) := by
  induction n generalizing s psn bs first with
  | zero => exact h
  | succ n ih =>
    unfold State.respond
    extract_lets op
    exact ih (.sendRoce h)

theorem Canonical.onTraffic {i head c kind act} (h : Canonical s) (hact : ∀ y, Canonical y → Canonical (act y)) :
    Canonical (s.onTraffic i head c kind act) := .ite h (.ite (hact _ h) (.ite (.bumpReg h) h))

theorem Canonical.onRoce {i head c x act} (h : Canonical s) (hact : ∀ y q, Canonical y → Canonical (act y q)) : Canonical (s.onRoce i head c x act) := by
  unfold State.onRoce
  refine .onTraffic h fun y hy => ?_
  split
  · exact hy
  · exact .ite hy (hact _ _ (.congestion hy))

theorem Canonical.hostWrite {bs ps} (h : Canonical s) : Canonical (s.hostWrite bs ps).2 := by
  induction ps generalizing s bs with
  | nil => exact h
  | cons p ps ih =>
    unfold State.hostWrite
    exact ih (Canonical.frame.memWrite h)

theorem Canonical.hostRead {ps} (h : Canonical s) : Canonical (s.hostRead ps).2.2 := by
  induction ps generalizing s with
  | nil => exact h
  | cons p ps ih =>
    obtain ⟨m, off, n⟩ := p
    have hread : Canonical (s.memRead m off n hostWho).2 := Canonical.frame.memRead h
    unfold State.hostRead
    split
    next heq => exact (congrArg (fun x => Canonical x.2) heq).mp hread
    next heq => exact ih ((congrArg (fun x => Canonical x.2) heq).mp hread)

theorem Canonical.refuseHost {q psn va n} (h : Canonical s) : Canonical (s.refuseHost q psn va n) := .nak (.ite (Canonical.frame.memError h) h)

theorem Canonical.writePacket {q x va left data} (h : Canonical s) : Canonical (s.writePacket q x va left data) := by
  unfold State.writePacket
  extract_lets psn n
  split
  · exact .refuseHost h
  next ps _ =>
    have hwrite : Canonical (s.hostWrite data ps).2 := h.hostWrite
    split
    next cs s1 heq =>
    have h1 : Canonical s1 := (congrArg (fun x => Canonical x.2) heq).mp hwrite
    extract_lets late s2 s3
    have h2 : Canonical s2 := .ite (.bumpReg h1) h1
    have h3 : Canonical s3 := .onPair h2
    exact .ite (.nak h1) (.ite (.sendRoce h3) h3)

theorem Canonical.takeResponse {k d r} (h : Canonical s) : Canonical (s.takeResponse k d r) := by
  unfold State.takeResponse
  extract_lets _ _ _ _ _ s1
  have h1 : Canonical s1 := .finish (h.tile k) h
  exact .ite h1 (Canonical.frame.fabricError h1)

theorem Canonical.remoteAnswered {die addr d} (h : Canonical s) : Canonical (s.remoteAnswered die addr d) := by
  unfold State.remoteAnswered
  extract_lets row k n old s1 _ s2
  have h1 : Canonical s1 := .setTile (h.tile k) h
  have h2 : Canonical s2 := h1.congr rfl rfl rfl
  split
  · exact h2
  · exact .ite h2 (.takeResponse h)

theorem Canonical.timeoutError {target} (h : Canonical s) : Canonical (s.timeoutError target) := .setReg (Canonical.frame.fabricError h)

theorem Canonical.powerOff (h : Canonical s) : Canonical s.powerOff := by
  have hflash : Memory.wf 0xFF s.boot.interrupt.flash = true := (congrArg (Memory.wf 0xFF) s.boot.restart_interrupt.1).trans h.flash
  unfold State.powerOff
  extract_lets b _ _ _ _ s1
  have h1 : Canonical s1 := .emptied rfl rfl hflash
  exact .setReg h1

theorem Canonical.fireAll {source detail also act} (h : Canonical s) (hact : ∀ y a b, Canonical y → Canonical (act y a b)) :
    Canonical (s.fireAll source detail also act) := .ite h (hact _ _ _ (.countSources h))

theorem Canonical.clearJob (h : Canonical s) : Canonical s.clearJob := by
  obtain ⟨-, hstacks, hflash⟩ := (memoriesWf_iff s).1 h
  unfold State.clearJob
  extract_lets fences stoker _ _ _ s1 s2 s3 s4
  have h1 : Canonical s1 := (memoriesWf_iff s1).2 ⟨fun _ he => absurd he List.not_mem_nil, hstacks, hflash⟩
  clear_value s1
  have h2 : Canonical s2 := .setRegFld (.setReg h1)
  clear_value s2
  have h3 : Canonical s3 := .setReg (.setRegFld h2)
  clear_value s3
  have h4 : Canonical s4 := .setRegFld (.setWords h3)
  exact .setRegFld (.wakeBays (.setPeriod h4))

theorem Canonical.eraseFlash {r} (h : Canonical s) : Canonical (s.eraseFlash r) := by
  have hkept := wf_keep (fun a => !(decide (regionBase r ≤ a ∧ a < regionBase r + 0x2000000))) h.flash
  unfold State.eraseFlash
  exact h.setFlash rfl rfl hkept

theorem Canonical.ownerRecord (h : Canonical s) : Canonical s.ownerRecord.2 := by
  unfold State.ownerRecord
  extract_lets o body slot w revoke s1 s2
  have h1 : Canonical s1 := .setReg h
  have h2 : Canonical s2 := .ite h1 (.setWords h1)
  split
  · exact h
  split
  · exact .orReg h
  split
  · exact h
  split
  · exact h
  split
  · exact h
  · exact .orReg (.showActive h2)

theorem Canonical.powerOn (h : Canonical s) : Canonical s.powerOn := .ite (.coldReset h) h

theorem Canonical.backupFade (h : Canonical s) : Canonical s.backupFade := .ite h (.congr h rfl rfl rfl)

theorem Canonical.sendBytes {x} (h : Canonical s) : Canonical (s.sendBytes x) := by
  induction x generalizing s with
  | nil => exact h
  | cons b bs ih => exact ih (Canonical.frame.send h)

theorem Canonical.advanceUnit {u} (h : Canonical s) : Canonical (s.advanceUnit u) := .congr h rfl rfl rfl

theorem Canonical.advanceUnits {x} (h : Canonical s) : Canonical (s.advanceUnits x) := by
  induction x generalizing s with
  | nil => exact h
  | cons u us ih => exact ih (.ite (.advanceUnit h) h)

theorem Canonical.millisecond (h : Canonical s) : Canonical s.millisecond := by
  unfold State.millisecond
  extract_lets s1
  have h1 : Canonical s1 := .ite (.bumpReg h) h
  exact .ite (.bumpReg h1) h1

theorem Canonical.period (h : Canonical s) : Canonical s.period := by
  unfold State.period
  extract_lets s1
  have h1 : Canonical s1 := .advanceUnits h
  exact .ite h1 (.millisecond h1)

end Sys2Proof.Machine

namespace Sys2Proof.Machine

/-! ## Every command keeps the memories canonical -/

/-- Whatever next state the outcome is has its memories in canonical form. -/
def Ends (o : Host.Outcome State Fault Refusal) : Prop := ∀ t, o = .next t → Canonical t

theorem Ends.next {s : State} (h : Canonical s) : Ends (.next s) := fun _ heq => by
  cases heq
  exact h

theorem Ends.ite {c : Prop} [Decidable c] {a b : Host.Outcome State Fault Refusal} (ha : Ends a) (hb : Ends b) : Ends (if c then a else b) :=
  iteInduction (fun _ => ha) fun _ => hb

theorem Ends.onMgmt {s : State} {f type : Nat} {from_ : Bool} {act : State → Nat → State} (h : Canonical s)
    (hact : ∀ y p, Canonical y → Canonical (act y p)) : Ends (s.onMgmt f type from_ act) := by
  unfold State.onMgmt
  split
  · exact .next h
  next htake =>
    have hrest := h.takeMgmt htake
    exact .next (.ite (hact _ _ hrest) hrest)

variable {s : State}

theorem ends_execMopArrayDone {t} (h : Canonical s) : Ends (execMopArrayDone t s) := by
  unfold execMopArrayDone
  split
  · exact .next h
  · exact .next (.setTile (h.tile t.key) h)

theorem ends_execStampReached {t} (h : Canonical s) : Ends (execStampReached t s) := .ite (.next (.finish (h.tile t.key) h)) (.next h)

theorem ends_execCoreCheck {t} (h : Canonical s) : Ends (execCoreCheck t s) := .ite (.next (.raise (h.tile t.key) h)) (.next h)

theorem ends_execSramWriteBack {t word} (h : Canonical s) : Ends (execSramWriteBack t word s) := by
  unfold execSramWriteBack
  extract_lets
  refine .ite (.next h) ?_
  split
  · exact .next h
  · exact .next (.setTile (h.tile t.key) h)
  · exact .next (.raise (h.tile t.key) h)

theorem ends_execRemoteResponse {p io} (h : Canonical s) : Ends (execRemoteResponse p io s) := by
  unfold execRemoteResponse
  extract_lets
  split
  · exact .next h
  · exact .ite (.next h) (.next (.remoteAnswered (Canonical.frame.setPort h)))

theorem ends_execRemoteTimeout {t thread} (h : Canonical s) : Ends (execRemoteTimeout t thread s) := by
  unfold execRemoteTimeout
  extract_lets
  split
  · exact .next (.timeoutError (.setTile (h.tile t.key) h))
  · exact .next h
  · exact .ite (.next h) (.next (.timeoutError (.setTile (h.tile t.key) h)))

theorem ends_execSendInject {t loose} (h : Canonical s) : Ends (execSendInject t loose s) := by
  have hdropped : ∀ l, Canonical (s.setTile t.key ((s.tile t.key).setQueue 0 l)) := fun _ => .setTile (setQueue_sram (h.tile t.key)) h
  unfold execSendInject
  extract_lets
  split
  · exact .next h
  · extract_lets
    exact .ite (.next h) (.ite (.next (.serveSends (Canonical.frame.emberError (hdropped _))))
      (.ite (.ite (.next (.injectHead h)) (.next h)) (.ite (.next (.injectHead (.setRouter h))) (.next h))))

theorem ends_execMeshSlotWindowOpen {t cycle} (h : Canonical s) : Ends (execMeshSlotWindowOpen t cycle s) := by
  unfold execMeshSlotWindowOpen
  extract_lets
  exact .ite (.ite (.next (.setRouter h)) (.next (.setRouter h))) (.next h)

theorem ends_execMeshPacketArrival {t i ev} (h : Canonical s) : Ends (execMeshPacketArrival t i ev s) := by
  unfold execMeshPacketArrival
  split
  · exact .next h
  · exact .ite (.next (.hop h)) (.next h)

theorem ends_execReducePacketCombine {t i ev} (h : Canonical s) : Ends (execReducePacketCombine t i ev s) := by
  unfold execReducePacketCombine
  split
  · exact .next h
  next f _ =>
    have hlink : Canonical (({ s with flights := s.flights.eraseIdx i } : State).linkEvent f ev).1 := .linkEvent (.congr h rfl rfl rfl)
    extract_lets
    refine .ite (.next h) ?_
    split
    next heq => exact .next (.absorb (.traffic ((congrArg (fun x => Canonical x.1) heq).mp hlink)))
    next heq _ => exact .next ((congrArg (fun x => Canonical x.1) heq).mp hlink)

theorem ends_execForkSlip {t} (h : Canonical s) : Ends (execForkSlip t s) := by
  unfold execForkSlip
  extract_lets
  exact .next (.setRouter h)

theorem ends_execSyncToken {t g ev} (h : Canonical s) : Ends (execSyncToken t g ev s) := by
  unfold execSyncToken
  extract_lets k w s1
  have h1 : Canonical s1 := .traffic (.setTokens h)
  clear_value s1
  refine .ite (.next h) (.ite (.ite (.next h) (.next (.meshError (.setTokens h)))) (.ite (.next h) ?_))
  split
  · exact .next h1
  next n _ =>
    have hlink := h1.linkEvent (f := s1.control k n (facing (fld w 13 11)) g 0) (ev := ev)
    split
    next heq => exact .next ((congrArg (fun x => Canonical x.1) heq).mp hlink)
    next heq => exact .next (.takeToken ((congrArg (fun x => Canonical x.1) heq).mp hlink))

theorem ends_execSyncRelease {t g evs} (h : Canonical s) : Ends (execSyncRelease t g evs s) := by
  unfold execSyncRelease
  extract_lets
  exact .ite (.next (.travel (.passOn (.setTokens h)))) (.next h)

theorem ends_execSyncFence {die pauses} (h : Canonical s) : Ends (execSyncFence die pauses s) := .ite (.next (.pauses h)) (.next h)

theorem ends_execCrossingSlip {t cycles} (h : Canonical s) : Ends (execCrossingSlip t cycles s) := by
  unfold execCrossingSlip
  extract_lets
  exact .ite (.next h) (.next (.bumpReg (.setRouter h)))

theorem ends_execTickBeacon (h : Canonical s) : Ends (execTickBeacon s) := by
  unfold execTickBeacon
  refine .ite ?_ ?_
  · exact .next h
  · split
    · exact .next (.openTick (.showSource h))
    · exact .ite (.next (.openTick (.showSource h))) (.next h)
    · split
      · exact .next h
      · extract_lets _ s1
        have h1 : Canonical s1 := .ite (.orReg h) h
        exact .ite (.next h) (.next (.openTick (.showSource h1)))
    · exact .next h

theorem Canonical.useSource (h : Canonical s) : Canonical s.useSource := h.congr rfl rfl rfl

theorem ends_execIdleBeacon (h : Canonical s) : Ends (execIdleBeacon s) := .ite (.next (.showSource (.useSource (.idle h)))) (.next h)

theorem ends_execFlywheelBeacon (h : Canonical s) : Ends (execFlywheelBeacon s) := by
  unfold execFlywheelBeacon
  extract_lets missing idle s1 s2
  have h1 : Canonical s1 := .orReg (.miss h)
  have h2 : Canonical s2 := .showSource h1
  exact .ite (.next h) (.ite (.next (.useSource (.idle h2))) (.next (.openTick h2)))

theorem ends_execTickInEdge {offsetNs} (h : Canonical s) : Ends (execTickInEdge offsetNs s) := by
  unfold execTickInEdge
  extract_lets _ _ _ s1
  have h1 : Canonical s1 := .ite (.bumpReg h) h
  exact .ite (.next h) (.ite (.ite (.next h) (.ite (.next (.congr h rfl rfl rfl)) (.ite (.next (.orReg (.congr h rfl rfl rfl))) (.next (.congr h rfl rfl rfl))))) (.ite (.next (.bumpReg h)) (.next (.congr h1 rfl rfl rfl))))

theorem ends_execGuardStart (h : Canonical s) : Ends (execGuardStart s) := by
  unfold execGuardStart
  extract_lets _ s1 s2 s3 s4 s5 s6
  have h1 : Canonical s1 := Canonical.frame.sendFrame (.congr h rfl rfl rfl)
  have h2 : Canonical s2 := Canonical.frame.checkFabric (Canonical.frame.checkRounds (Canonical.frame.checkGroups h1))
  have h3 : Canonical s3 := Canonical.frame.checkStackWindows (Canonical.frame.checkTileWindows h2)
  have h4 : Canonical s4 := Canonical.frame.lockAll h3
  have h5 : Canonical s5 := .recordMargin h4
  have h6 : Canonical s6 := Canonical.frame.mapsDone (Canonical.frame.giveBack (Canonical.frame.takeReference (Canonical.frame.upkeepNow h5)))
  exact .ite (.next h) (.next (.ite (.teardown h6) h6))

theorem ends_execLocalVerdictFinal (h : Canonical s) : Ends (execLocalVerdictFinal s) := by
  unfold execLocalVerdictFinal
  extract_lets _ _ s1 s2 s3
  have h1 : Canonical s1 := .congr h rfl rfl rfl
  have h2 : Canonical s2 := .setRegFld (.setRegFld h1)
  have h3 : Canonical s3 := .ite (.bumpReg h2) h2
  exact .ite (.next h) (.next (.ite h3 (.bumpReg h3)))

theorem ends_execVoteClose (h : Canonical s) : Ends (execVoteClose s) := .ite (.next (.congr h rfl rfl rfl)) (.next h)

theorem ends_execVoteSend (h : Canonical s) : Ends (execVoteSend s) := .ite (.next (.sendVote h)) (.next h)

theorem ends_execVoteWaitExpiry (h : Canonical s) : Ends (execVoteWaitExpiry s) := by
  have htick : ∀ y : State, Canonical y → ∀ x, Canonical { y with tick := x } := fun _ hy _ => hy.congr rfl rfl rfl
  unfold execVoteWaitExpiry
  exact .ite (.next (htick _ (.sendVote h) _)) (.ite (.next (.rootDecides h)) (.next h))

theorem ends_execCommitDecision (h : Canonical s) : Ends (execCommitDecision s) := by
  unfold execCommitDecision
  refine .ite ?_ ?_
  · exact .next h
  · refine .ite ?_ ?_
    · split
      · exact .next h
      · exact .next (Canonical.frame.resolve h)
    · refine .ite ?_ ?_
      · exact .ite (.next (.rootDecides h)) (.next h)
      · split
        · exact .next h
        · exact .next (Canonical.frame.resolve h)

theorem ends_execDecisionLost (h : Canonical s) : Ends (execDecisionLost s) := .ite (.next (.teardown (.orReg (Canonical.frame.resolve h)))) (.next h)

theorem ends_execCoreFencePrepare {t} (h : Canonical s) : Ends (execCoreFencePrepare t s) := by
  unfold execCoreFencePrepare
  extract_lets _ s1
  have h1 : Canonical s1 := .prepare h
  exact .ite (.next h) (.next (.ite (.showStage (.meshReady h1)) h1))

theorem ends_execSpareLoadingEnd {die} (h : Canonical s) : Ends (execSpareLoadingEnd die s) := .next (.showStage (.loadSpares h))

theorem ends_execDieFailure {die} (h : Canonical s) : Ends (execDieFailure die s) := .ite (.next h) (.next (.dieFail h))

theorem ends_execTakeoverEnd (h : Canonical s) : Ends (execTakeoverEnd s) := .ite (.next (.endTakeover h)) (.next h)

theorem ends_execJobTeardown (h : Canonical s) : Ends (execJobTeardown s) := .next (.teardown h)

theorem ends_execCheckpointSnapshotEnd {stack ok} (h : Canonical s) : Ends (execCheckpointSnapshotEnd stack ok s) := by
  have hdropped : ∀ v x, Canonical { s.setReg Reg.TCK_CKPT_STATUS v with recovery := x } := fun _ _ => h.congr rfl rfl rfl
  unfold execCheckpointSnapshotEnd
  extract_lets r s1 s2 _ _ s3
  have h2 : Canonical s2 := .writeSnapshot h
  have h3 : Canonical s3 := h2.congr rfl rfl rfl
  exact .ite (.next h) (.ite (.ite (.next (.teardown h)) (.next (hdropped _ _))) (.next (.ite (.snapshotDone h3) h3)))

theorem ends_execPeerCheckpointTransfer (h : Canonical s) : Ends (execPeerCheckpointTransfer s) := by
  unfold execPeerCheckpointTransfer
  split
  · exact .next h
  · extract_lets s1
    have h1 : Canonical s1 := .setRegFld (.peerCopies h)
    exact .next (.congr h1 rfl rfl rfl)

theorem ends_execHealthReport {bistPass bistFail lanesBad} (h : Canonical s) : Ends (execHealthReport bistPass bistFail lanesBad s) := by
  unfold execHealthReport
  extract_lets s1 s2 _ s3
  have h1 : Canonical s1 := .ite (.bumpReg h) (.setRegFld h)
  have h2 : Canonical s2 := .ite (.setRegFld h1) h1
  have h3 : Canonical s3 := .congr h2 rfl rfl rfl
  exact .ite (.next h) (.next (Canonical.frame.event h3))

theorem ends_execYield (h : Canonical s) : Ends (execYield s) := by
  unfold execYield
  extract_lets r s1
  have h1 : Canonical s1 := .setRegFld (.setRegFld h)
  clear_value s1
  exact .ite (.next (h1.congr rfl rfl rfl)) (.next h)

theorem ends_execStokerSnapshot (h : Canonical s) : Ends (execStokerSnapshot s) := .ite (.next (.setRegFld h)) (.next h)

theorem ends_execStokerFailover {failed} (h : Canonical s) : Ends (execStokerFailover failed s) := .ite (.next h) (.next (.failover h))

theorem ends_execStokerReturn (h : Canonical s) : Ends (execStokerReturn s) := by
  unfold execStokerReturn
  extract_lets s1 _ s2
  have h1 : Canonical s1 := .setDomain (.setRegFld (.setRegFld h))
  clear_value s1
  have h2 : Canonical s2 := h1.congr rfl rfl rfl
  exact .ite (.next h) (.next (.ite h2 (Canonical.frame.giveBack h2)))

theorem ends_execCriticalPairSweep {base bad} (h : Canonical s) : Ends (execCriticalPairSweep base bad s) := by
  unfold execCriticalPairSweep
  split
  · exact .next h
  · exact .ite (.next h) (.next (.setReg (.setReg (.criticalError h))))

theorem ends_execHearthWindowOpen {p g cycle} (h : Canonical s) : Ends (execHearthWindowOpen p g cycle s) := by
  unfold execHearthWindowOpen
  extract_lets
  exact .ite (.ite (.next (Canonical.frame.pump (Canonical.frame.setPort h))) (.next (Canonical.frame.setPort h))) (.next h)

theorem ends_execHearthBlockReceive {p k lane noise} (h : Canonical s) : Ends (execHearthBlockReceive p k lane noise s) := by
  unfold execHearthBlockReceive
  extract_lets _ _ s1
  have h1 : Canonical s1 := .takeLight h
  split
  · exact .next h
  · refine .ite ?_ ?_
    · exact .next h
    · split
      · exact .next (.laneRunCheck (.blockLost h1))
      · extract_lets s2
        have h2 : Canonical s2 := .ite h1 (Canonical.frame.setPort (Canonical.frame.setTbl h1))
        exact .next (.ite h2 (.deliverBlock h2))

theorem ends_execBroadcastBlockLanding {p pos evs} (h : Canonical s) : Ends (execBroadcastBlockLanding p pos evs s) := by
  have hF := Canonical.frame
  unfold execBroadcastBlockLanding
  extract_lets x
  split
  · exact .next h
  · extract_lets s1 w0 w1 old err off
    have h1 : Canonical s1 := hF.setPort h
    have herr : Canonical (err s1) := .ite (hF.hearthError h1) (.ite (hF.hearthError h1) h1)
    refine .ite (.next h1) (.ite (.ite (.next (hF.hearthError h1)) (.ite (.next herr) (.next (hF.memWrite herr)))) (.ite (.next (hF.hearthError h1)) ?_))
    split
    · exact .next (hF.hearthError h1)
    next hland => exact .next (.travel (herr.landBroadcast hland))

theorem ends_execReadRequest {stack src} (h : Canonical s) : Ends (execReadRequest stack src s) := by
  have hF := Canonical.frame
  unfold execReadRequest
  extract_lets
  split
  · exact .next h
  · extract_lets
    refine .ite (.next h) (.ite (.next (.serveRemote (hF.setPort h))) ?_)
    exact .next (.settle (hF.setPort h.answerRead))

theorem ends_execReadResponseLanding {p src evs} (h : Canonical s) : Ends (execReadResponseLanding p src evs s) := by
  unfold execReadResponseLanding
  extract_lets
  split
  · exact .next h
  · extract_lets s1
    have h1 : Canonical s1 := Canonical.frame.setPort h
    exact .ite (.ite (.next h) (.next (.travel (.landBlock h1)))) (.ite (.next h) (.ite (.next (.sendResponse h1)) (.next (.takeRead h1))))

theorem ends_execMemoryWrite {stack src} (h : Canonical s) : Ends (execMemoryWrite stack src s) := by
  have hF := Canonical.frame
  unfold execMemoryWrite
  extract_lets
  split
  · exact .next h
  next b bs _ =>
    extract_lets s1 s2
    have h1 : Canonical s1 := hF.setPort h
    have h2 : Canonical s2 := .ite (hF.hearthError h1) h1
    have hwrite := hF.memWrite (m := stack) (off := b.addr * 128) (bs := b.data) (who := ⟨b.src, false⟩) h2
    refine .ite (.next h) (.ite (.next (hF.hearthError h1)) ?_)
    split
    next heq => exact .next (.cellWritten ((congrArg (fun x => Canonical x.2) heq).mp hwrite))
    next heq => exact .next ((congrArg (fun x => Canonical x.2) heq).mp hwrite)

theorem ends_execReserveOff {p src} (h : Canonical s) : Ends (execReserveOff p src s) := by
  unfold execReserveOff
  extract_lets
  exact .ite (.next (Canonical.frame.sendFrame (Canonical.frame.setPort h))) (.next h)

theorem ends_execReserveOn {p src} (h : Canonical s) : Ends (execReserveOn p src s) := by
  unfold execReserveOn
  extract_lets
  exact .ite (.next (Canonical.frame.sendFrame (Canonical.frame.setPort h))) (.next h)

theorem ends_execOffFrame {p x cycle} (h : Canonical s) : Ends (execOffFrame p x cycle s) :=
  .next (.pilot h fun _ _ hy => .ite (Canonical.frame.setPort hy) hy)

theorem ends_execOnFrame {p x cycle} (h : Canonical s) : Ends (execOnFrame p x cycle s) :=
  .next (.pilot h fun _ _ hy => .ite (Canonical.frame.pump (Canonical.frame.setPort hy)) hy)

theorem ends_execPilotTickBeacon {p x} (h : Canonical s) : Ends (execPilotTickBeacon p x s) := .next (.pilot h fun _ _ hy => hy)

theorem ends_execPilotGuardStart {p x} (h : Canonical s) : Ends (execPilotGuardStart p x s) := .next (.pilot h fun _ _ hy => hy)

theorem ends_execFirmwareWord {p laneB x} (h : Canonical s) : Ends (execFirmwareWord p laneB x s) := .next (.pilot h fun _ _ hy => hy)

theorem ends_execLaneSet {p x} (h : Canonical s) : Ends (execLaneSet p x s) := .next (.pilot h fun _ _ hy => .ite (Canonical.frame.setLanes hy) hy)

theorem ends_execErrorReport {p x} (h : Canonical s) : Ends (execErrorReport p x s) := .next (.pilot h fun _ _ hy => hy.congr rfl rfl rfl)

theorem ends_execPilotFrameLost {p laneB x} (h : Canonical s) : Ends (execPilotFrameLost p laneB x s) := by
  unfold execPilotFrameLost
  extract_lets _ _ _ s1
  have h1 : Canonical s1 := Canonical.frame.hearthError (.bumpReg (Canonical.frame.setPort h))
  exact .ite (.next h) (.next (.ite (.planeLoss h1) h1))

theorem ends_execPilotComplementMismatch {p laneB x} (h : Canonical s) : Ends (execPilotComplementMismatch p laneB x s) := .ite (.next (.criticalError (Canonical.frame.hearthError h))) (.next h)

theorem ends_execLaneFail {p lane} (h : Canonical s) : Ends (execLaneFail p lane s) := .next (.laneFail h)

theorem ends_execLaneSwapToSpare {a v} (h : Canonical s) : Ends (execLaneSwapToSpare a v s) := .next (.access h)

theorem ends_execLaneSwapReturn {a v} (h : Canonical s) : Ends (execLaneSwapReturn a v s) := .next (.access h)

theorem ends_execSumPacketQueue {p k ev} (h : Canonical s) : Ends (execSumPacketQueue p k ev s) := by
  have hF := Canonical.frame
  unfold execSumPacketQueue
  split
  · exact .next h
  next f _ =>
    have hlink : Canonical (({ s with flights := s.flights.eraseIdx k } : State).linkEvent f ev).1 := .linkEvent (.congr h rfl rfl rfl)
    extract_lets
    refine .ite (.next h) ?_
    split
    next heq => exact .next ((congrArg (fun x => Canonical x.1) heq).mp hlink)
    next heq =>
      have hon := (congrArg (fun x => Canonical x.1) heq).mp hlink
      exact .ite (.next hon) (.ite (.next (hF.emberError hon)) (.next (hF.setPort hon)))

theorem ends_execSumRoundSend {p packets} (h : Canonical s) : Ends (execSumRoundSend p packets s) := by
  have hF := Canonical.frame
  unfold execSumRoundSend
  extract_lets x q go s1
  have hgo : ∀ y r, Canonical y → Canonical (go y r) := fun _ _ hy => .putRound hy.feedRound
  have h1 : Canonical s1 := hF.setPort h
  split
  · exact .next (hgo _ _ h)
  · refine .ite (.next h) ?_
    split
    · exact .next (hF.emberError (hF.setPort h1))
    · exact .next (hgo _ _ h1)

theorem ends_execSumRoundReceive {p entry dev} (h : Canonical s) : Ends (execSumRoundReceive p entry dev s) := by
  unfold execSumRoundReceive
  extract_lets _ _ _ _ _ _ s1 _ _ s2
  have h1 : Canonical s1 := .congr h rfl rfl rfl
  have h2 : Canonical s2 := .bufferResults (Canonical.frame.drawn h1)
  refine .ite ?_ ?_
  · exact .next h
  · refine .ite ?_ ?_
    · exact .next h1
    · split
      · exact .next (Canonical.frame.emberError (Canonical.frame.markGroup h1))
      · exact .next (.ite h2 (Canonical.frame.emberError (Canonical.frame.markGroup h2)))

theorem ends_execSumResultDelivery {p evs} (h : Canonical s) : Ends (execSumResultDelivery p evs s) := by
  unfold execSumResultDelivery
  extract_lets
  split
  · exact .next h
  · extract_lets _ _ _ s1 s2 _ s3
    have h1 : Canonical s1 := Canonical.frame.setPort h
    have h2 : Canonical s2 := Canonical.frame.markGroup h1
    have h3 : Canonical s3 := .ite (Canonical.frame.setPort h2) h2
    exact .ite (.next h3) (.next (.travel (.toTile h3)))

theorem ends_execToneWindow {p det c tone gainErr offsetErr} (h : Canonical s) : Ends (execToneWindow p det c tone gainErr offsetErr s) := by
  have hF := Canonical.frame
  have hlight : ∀ y : State, Canonical y → ∀ x, Canonical { y with light := x } := fun _ hy _ => hy.congr rfl rfl rfl
  exact .ite (.next h) (.ite (.next (.ite (.planeLoss (hF.emberError (hF.setTbl (hF.setPort (hlight _ (hF.setTbl (hF.setTbl h)) _)))))
    (hF.emberError (hF.setTbl (hF.setPort (hlight _ (hF.setTbl (hF.setTbl h)) _)))))) (.next (hF.setPort (hlight _ (hF.setTbl (hF.setTbl h)) _))))

theorem ends_execReferenceLost {detected edges} (h : Canonical s) : Ends (execReferenceLost detected edges s) := by
  unfold execReferenceLost
  extract_lets _ _ s1
  have h1 : Canonical s1 := .bumpReg (.orReg (.setReg h))
  exact .ite (.next h) (.ite (.next (.ite h (.setReg h))) (.next (.ite h1 (Canonical.frame.drawn (.setReg h1)))))

theorem ends_execReferenceReturned (h : Canonical s) : Ends (execReferenceReturned s) := by
  unfold execReferenceReturned
  extract_lets s1
  have h1 : Canonical s1 := .setRegFld h
  exact .ite (.next h) (.ite (.next (.setRegFld h1)) (.next (.ite h1 (Canonical.frame.takeReference h1))))

theorem ends_execTimeStep {a v} (h : Canonical s) : Ends (execTimeStep a v s) := .next (.access h)

theorem ends_execPtpMessage {port x c p m} (h : Canonical s) : Ends (execPtpMessage port x c p m s) :=
  .next (.onTraffic h fun _ hy => .ite (.ptp hy) hy)

theorem ends_execInputDeadline {stack ring} (h : Canonical s) : Ends (execInputDeadline stack ring s) := by
  unfold execInputDeadline
  split
  · exact .next h
  · exact .ite (.next (Canonical.frame.lockRing h)) (.next h)

theorem ends_execPatrolScrub {stack line} (h : Canonical s) : Ends (execPatrolScrub stack line s) := by
  unfold execPatrolScrub
  extract_lets _ _ s1 s2
  have h1 : Canonical s1 := Canonical.frame.countLines h
  have h2 : Canonical s2 := Canonical.frame.memError (.bumpReg h1)
  exact .ite (.next h) (.ite (.next h1) (.next (.ite (.teardown h2) h2)))

theorem ends_execFabricAtomic {stack} (h : Canonical s) : Ends (execFabricAtomic stack s) := by
  unfold execFabricAtomic
  extract_lets x
  split
  · exact .next h
  · exact .next (Canonical.frame.performAtomic (.setStack (h.stack stack) h))

theorem ends_execTrainingCell {port c} (h : Canonical s) : Ends (execTrainingCell port c s) := by
  unfold execTrainingCell
  extract_lets
  exact .ite (.next h) (.ite (.next (Canonical.frame.fabricError (.setReg h))) (.ite (.next (Canonical.frame.fabricError (.setReg h))) (.next (.setReg h))))

theorem ends_execLinkDown {port reason} (h : Canonical s) : Ends (execLinkDown port reason s) := .ite (.next (.linkLost h)) (.next h)

theorem ends_execLinkUp {port} (h : Canonical s) : Ends (execLinkUp port s) := by
  unfold execLinkUp
  extract_lets
  exact .ite (.next (.pumpPort (.setReg h))) (.next h)

theorem ends_execFabricCellReceive {port bits fec} (h : Canonical s) : Ends (execFabricCellReceive port bits fec s) := by
  unfold execFabricCellReceive
  extract_lets _ s1 _ s2 s3
  have h1 : Canonical s1 := .fecCounts h
  have h2 : Canonical s2 := Canonical.frame.setFport h1
  have h3 : Canonical s3 := .ite (.ite (.takeCell h2) (.badCell h2)) (.ite (.replayAfter h2) h2)
  exact .ite (.next h) (.ite (.next (Canonical.frame.fabricError (.badCell h1))) (.ite (.next h1) (.next (.pumpPort h3))))

theorem ends_execReplayRequest {port ack} (h : Canonical s) : Ends (execReplayRequest port ack s) := .ite (.next (.replayAfter h)) (.next h)

theorem ends_execLinkDelayMeasure {port ps stamp} (h : Canonical s) : Ends (execLinkDelayMeasure port ps stamp s) := by
  unfold execLinkDelayMeasure
  extract_lets
  exact .ite (.next (.sendMgmt h)) (.ite (.next (.setReg h)) (.next h))

theorem ends_execScheduledWindowStart {port cycle} (h : Canonical s) : Ends (execScheduledWindowStart port cycle s) := by
  unfold execScheduledWindowStart
  extract_lets
  exact .ite (.next (.askWindow (Canonical.frame.setFport h))) (.next h)

theorem ends_execScheduledCellReceive {port} (h : Canonical s) : Ends (execScheduledCellReceive port s) := by
  unfold execScheduledCellReceive
  extract_lets
  split
  · exact .next h
  · extract_lets _ _ _ s1 _ s2
    have h1 : Canonical s1 := .pumpPort (.setBuffer h)
    have h2 : Canonical s2 := Canonical.frame.setFport h1
    split
    · exact .ite (.next (Canonical.frame.fabricError h1)) (.ite (.next (Canonical.frame.fabricError h2)) (.ite (.next (Canonical.frame.fabricError (Canonical.frame.memError h2))) (.ite (.next h) (.next (Canonical.frame.queueBlock h2)))))

theorem ends_execRemoteRequest {place} (h : Canonical s) : Ends (execRemoteRequest place s) := by
  unfold execRemoteRequest
  split
  · exact .next (.takeRemote h)
  · extract_lets
    split
    · exact .next h
    · extract_lets _ s1
      have h1 : Canonical s1 := Canonical.frame.setPort h
      refine .ite ?_ ?_
      · exact .next h
      · split
        · exact .next (.forward h1)
        · exact .ite (.next (.serve h1)) (.next h)

theorem ends_execCombinerFlush {path} (h : Canonical s) : Ends (execCombinerFlush path s) := by
  unfold execCombinerFlush
  split
  · exact .next h
  · exact .ite (.next (.flush (.setCombiner h))) (.next h)

theorem ends_execBeaconFrame {port residencePs} (h : Canonical s) : Ends (execBeaconFrame port residencePs s) := by
  have hF := Canonical.frame
  unfold execBeaconFrame
  refine .onMgmt h fun y p hy => ?_
  extract_lets acc seq b1 s1 late s2 _ _ s3
  have h1 : Canonical s1 := .sendMgmtAll hy
  clear_value s1
  have h2 : Canonical s2 := .ite (.orReg h1) h1
  clear_value s2
  have h3 : Canonical s3 := h2.congr rfl rfl rfl
  exact .ite h1 (.ite (hF.fabricError h3) h3)

theorem ends_execVote {port} (h : Canonical s) : Ends (execVote port s) := .onMgmt h fun _ _ hy => .ite (hy.congr rfl rfl rfl) hy

theorem ends_execDecision {port} (h : Canonical s) : Ends (execDecision port s) :=
  .onMgmt h fun _ _ hy => .ite (.sendMgmtAll (hy.congr rfl rfl rfl)) hy

theorem ends_execEchoRequest {port residencePs} (h : Canonical s) : Ends (execEchoRequest port residencePs s) := .onMgmt h fun _ _ hy => .sendMgmt hy

theorem ends_execEchoReply {port arrival} (h : Canonical s) : Ends (execEchoReply port arrival s) := .onMgmt h fun _ _ hy => .setReg hy

theorem ends_execLoss (h : Canonical s) : Ends (execLoss s) := by
  unfold execLoss
  extract_lets
  refine .ite ?_ ?_
  · split
    · exact .next (.congr h rfl rfl rfl)
  · exact .next h

theorem ends_execMhpDatagram {port x c addr udp bytes peer} (h : Canonical s) : Ends (execMhpDatagram port x c addr udp bytes peer s) := by
  unfold execMhpDatagram
  refine .next (.onTraffic h fun y hy => ?_)
  split
  · exact .bumpReg hy
  · exact .ite (.mhp hy) hy

theorem ends_execHello {r majors minor1 role take} (h : Canonical s) : Ends (execHello r majors minor1 role take s) := .next (.mhp h)

theorem ends_execBye {r} (h : Canonical s) : Ends (execBye r s) := .next (.mhp h)

theorem ends_execKeepalive {r} (h : Canonical s) : Ends (execKeepalive r s) := .next (.mhp h)

theorem ends_execGetStatus {r} (h : Canonical s) : Ends (execGetStatus r s) := .next (.mhp h)

theorem ends_execRegRead {r addr count} (h : Canonical s) : Ends (execRegRead r addr count s) := .next (.mhp h)

theorem ends_execRegWrite {r addr words} (h : Canonical s) : Ends (execRegWrite r addr words s) := .next (.mhp h)

theorem ends_execLoadJob {r normalLen degOff degLen} (h : Canonical s) : Ends (execLoadJob r normalLen degOff degLen s) := .next (.mhp h)

theorem ends_execUnloadJob {r} (h : Canonical s) : Ends (execUnloadJob r s) := .next (.mhp h)

theorem ends_execStartJob {r first restore peer} (h : Canonical s) : Ends (execStartJob r first restore peer s) := .next (.mhp h)

theorem ends_execStopJob {r} (h : Canonical s) : Ends (execStopJob r s) := .next (.mhp h)

end Sys2Proof.Machine

namespace Sys2Proof.Machine

variable {s : State}

theorem ends_execDrainEnd (h : Canonical s) : Ends (execDrainEnd s) := .ite (.next (.toLoaded h)) (.next h)

theorem ends_execTeardown {r} (h : Canonical s) : Ends (execTeardown r s) := .next (.mhp h)

theorem ends_execBank {r} (h : Canonical s) : Ends (execBank r s) := .next (.mhp h)

theorem ends_execWake {r} (h : Canonical s) : Ends (execWake r s) := .next (.mhp h)

theorem ends_execWakeComplete (h : Canonical s) : Ends (execWakeComplete s) := by
  unfold execWakeComplete
  extract_lets s1
  have h1 : Canonical s1 := .setStackStates (.setDies h)
  split
  · extract_lets s2
    have h2 : Canonical s2 := .ite (.settleBays h1) h1
    exact .next (Canonical.frame.go (.congr h2 rfl rfl rfl))
  · exact .next h

theorem ends_execReset {r scope unit} (h : Canonical s) : Ends (execReset r scope unit s) := .next (.mhp h)

theorem ends_execRstReqWrite {a v} (h : Canonical s) : Ends (execRstReqWrite a v s) := .next (.access h)

theorem ends_execConfigRevert {r} (h : Canonical s) : Ends (execConfigRevert r s) := .next (.mhp h)

theorem ends_execMbxSend {r chan words} (h : Canonical s) : Ends (execMbxSend r chan words s) := .next (.mhp h)

theorem ends_execMbxRecv {r chan} (h : Canonical s) : Ends (execMbxRecv r chan s) := .next (.mhp h)

theorem ends_execOpenQp {r remoteQpn remotePsn mtu gid kind} (h : Canonical s) : Ends (execOpenQp r remoteQpn remotePsn mtu gid kind s) := .next (.mhp h)

theorem ends_execCloseQp {r qpn} (h : Canonical s) : Ends (execCloseQp r qpn s) := .next (.mhp h)

theorem ends_execSubscribe {r mask} (h : Canonical s) : Ends (execSubscribe r mask s) := .next (.mhp h)

theorem ends_execGetQuote {r nonce} (h : Canonical s) : Ends (execGetQuote r nonce s) := .next (.mhp h)

theorem ends_execSessionIdleTimeout {slot} (h : Canonical s) : Ends (execSessionIdleTimeout slot s) := .next (.closeSession h)

theorem ends_execRdmaWrite {port x c op head data} (h : Canonical s) : Ends (execRdmaWrite port x c op head data s) := by
  unfold execRdmaWrite
  refine .next (.onRoce h fun y q hy => ?_)
  extract_lets psn
  split
  · exact .nak hy
  · exact .sendRoce hy
  · exact .sendRoce hy
  · split
    · exact .nak hy
    · exact .ite (.refuseHost hy) (.writePacket hy)

theorem ends_execRdmaRead {port x c head} (h : Canonical s) : Ends (execRdmaRead port x c head s) := by
  unfold execRdmaRead
  refine .next (.onRoce h fun y q hy => ?_)
  extract_lets psn va len
  refine .ite (.sendRoce hy) (.ite (.nak hy) ?_)
  split
  · exact .refuseHost hy
  next ps _ =>
    have hread : Canonical (y.hostRead ps).2.2 := hy.hostRead
    split
    next heq => exact .nak ((congrArg (fun x => Canonical x.2.2) heq).mp hread)
    next heq =>
      have hrest := (congrArg (fun x => Canonical x.2.2) heq).mp hread
      exact .ite (.onPair (.respond hrest)) (.respond hrest)

theorem ends_execCnpReceive {port x c qpn} (h : Canonical s) : Ends (execCnpReceive port x c qpn s) := by
  unfold execCnpReceive
  refine .next (.onTraffic h fun y hy => ?_)
  split
  · exact hy
  · exact .ite (.onPair hy) hy

theorem ends_execPfcPause {port x} (h : Canonical s) : Ends (execPfcPause port x s) := by
  unfold execPfcPause
  extract_lets
  refine .ite ?_ ?_
  · exact .next h
  · split
    · exact .ite (.next h) (.next (.ite (.congr h rfl rfl rfl) (.sendHeld h)))
    · exact .next (.checkBuffer (.congr h rfl rfl rfl))

theorem ends_execArpRequest {port x v6 echo addr body} (h : Canonical s) : Ends (execArpRequest port x v6 echo addr body s) :=
  .ite (.next h) (.ite (.next (Canonical.frame.send h)) (.next (.bumpReg h)))

theorem ends_execFrameDrop {port x c icrcBad} (h : Canonical s) : Ends (execFrameDrop port x c icrcBad s) :=
  .next (.onTraffic h fun _ hy => .ite (.bumpReg hy) hy)

theorem ends_execMbxInWr {m c w} (h : Canonical s) : Ends (execMbxInWr m c w s) := .next (.access h)

theorem ends_execMbxInRd {m c} (h : Canonical s) : Ends (execMbxInRd m c s) := .next (.accessRead h)

theorem ends_execMbxInBell {m c w} (h : Canonical s) : Ends (execMbxInBell m c w s) := .next (.access h)

theorem ends_execMbxOutWr {m c w} (h : Canonical s) : Ends (execMbxOutWr m c w s) := .next (.access h)

theorem ends_execMbxOutRd {m c} (h : Canonical s) : Ends (execMbxOutRd m c s) := .next (.accessRead h)

theorem ends_execMbxOutBell {m c w} (h : Canonical s) : Ends (execMbxOutBell m c w s) := .next (.access h)

theorem ends_execMbxAckWrite {m c out w} (h : Canonical s) : Ends (execMbxAckWrite m c out w s) := .next (.access h)

theorem ends_execMbxAckRead {m c out} (h : Canonical s) : Ends (execMbxAckRead m c out s) := .next (.accessRead h)

theorem ends_execMbxVerWrite {m c w} (h : Canonical s) : Ends (execMbxVerWrite m c w s) := .next (.access h)

theorem ends_execMailboxMessageExpiry {c out} (h : Canonical s) : Ends (execMailboxMessageExpiry c out s) := .next (.mbxExpire h)

theorem ends_execRwcLowWrite {a v} (h : Canonical s) : Ends (execRwcLowWrite a v s) := .next (.access h)

theorem ends_execRwcHighWrite {a v} (h : Canonical s) : Ends (execRwcHighWrite a v s) := .next (.access h)

theorem ends_execRwcPendingExpiry {addr} (h : Canonical s) : Ends (execRwcPendingExpiry addr s) := .ite (.next (.orReg (.congr h rfl rfl rfl))) (.next h)

theorem ends_execLockWrite {a v} (h : Canonical s) : Ends (execLockWrite a v s) := .next (.access h)

theorem ends_execTblAddrWrite {m b v} (h : Canonical s) : Ends (execTblAddrWrite m b v s) := .next (.access h)

theorem ends_execTblDataRead {m b high} (h : Canonical s) : Ends (execTblDataRead m b high s) := .next (.accessRead h)

theorem ends_execMshShadowReady {m die v} (h : Canonical s) : Ends (execMshShadowReady m die v s) := .next (.access h)

theorem ends_execHrtShadowReady {m v} (h : Canonical s) : Ends (execHrtShadowReady m v s) := .next (.access h)

theorem ends_execTimeLoRead {a} (h : Canonical s) : Ends (execTimeLoRead a s) := .next (.accessRead h)

theorem ends_execTckSrcWrite {m v} (h : Canonical s) : Ends (execTckSrcWrite m v s) := .next (.access h)

theorem ends_execTckPeriodWrite {m v} (h : Canonical s) : Ends (execTckPeriodWrite m v s) := .next (.access h)

theorem ends_execPwrBudgetWrite {m v} (h : Canonical s) : Ends (execPwrBudgetWrite m v s) := .next (.access h)

theorem ends_execFabLockWrite {m io v} (h : Canonical s) : Ends (execFabLockWrite m io v s) := .next (.access h)

theorem ends_execPortRetrain {m port v} (h : Canonical s) : Ends (execPortRetrain m port v s) := .next (.access h)

theorem ends_execGlvExtDataWrite {m w v} (h : Canonical s) : Ends (execGlvExtDataWrite m w v s) := .next (.access h)

theorem ends_execCfgFlashDataWrite {m v} (h : Canonical s) : Ends (execCfgFlashDataWrite m v s) := .next (.access h)

theorem ends_execRegisterWrite {a v} (h : Canonical s) : Ends (execRegisterWrite a v s) := .next (.access h)

theorem ends_execControlAccessTimeout {a write took} (h : Canonical s) : Ends (execControlAccessTimeout a write took s) := by
  unfold execControlAccessTimeout
  split
  · exact .ite (.next (Canonical.frame.send h.ctlWrite)) (.next (.timeout (.ite h.ctlWrite h)))
  · exact .ite (.next (Canonical.frame.send h.ctlRead)) (.next (.timeout (.ite h.ctlRead h)))

theorem ends_execReReference {m} (h : Canonical s) : Ends (execReReference m s) := .next (.access h)

theorem ends_execCombReturn {m bank pos} (h : Canonical s) : Ends (execCombReturn m bank pos s) := .next (.access h)

theorem ends_execSpareStart {m bank pos} (h : Canonical s) : Ends (execSpareStart m bank pos s) := .next (.access h)

theorem ends_execSpareHandover {m bank pos} (h : Canonical s) : Ends (execSpareHandover m bank pos s) := .next (.access h)

theorem ends_execSpareLock {bank} (h : Canonical s) : Ends (execSpareLock bank s) := by
  unfold execSpareLock
  extract_lets _ _ s1
  have h1 : Canonical s1 := .setComb (.setSpareState h)
  exact .ite (.next (Canonical.frame.startRamp (.setRegFld h))) (.ite (.next (.ite h1 (.ite (Canonical.frame.startRamp h1) h1))) (.next h))

theorem ends_execSpareLockTimeout {bank} (h : Canonical s) : Ends (execSpareLockTimeout bank s) := by
  have hlight : ∀ y : State, Canonical y → ∀ x, Canonical { y with light := x } := fun _ hy _ => hy.congr rfl rfl rfl
  unfold execSpareLockTimeout
  extract_lets _ _ s1
  have h1 : Canonical s1 := .setRegFld h
  exact .ite (.next (.blwEnd (hlight _ h1 _))) (.ite (.next (.blwEvent (.setComb (.setSpareState h)))) (.next h))

theorem ends_execHandoverRampEnd {bank} (h : Canonical s) : Ends (execHandoverRampEnd bank s) := by
  unfold execHandoverRampEnd
  extract_lets _ _ _ _ _ s1 s2 s3
  have h1 : Canonical s1 := .congr h rfl rfl rfl
  have h2 : Canonical s2 := .bumpReg (.blwEvent (.setSpareState (.setComb (.setComb h1))))
  have h3 : Canonical s3 := .bumpReg (.blwEvent (.blwEvent (.setSpareState (.setComb (.setComb h1)))))
  exact .ite (.next (.ite (.blwEnd h2) h2)) (.ite (.next (.blwEnd h3)) (.next h))

theorem ends_execHeaterLoopWindow {e error move} (h : Canonical s) : Ends (execHeaterLoopWindow e error move s) := by
  unfold execHeaterLoopWindow
  extract_lets _ _ _ _ _ _ _ _ s1 _ s2
  have h1 : Canonical s1 := Canonical.frame.setTbl h
  have h2 : Canonical s2 := .congr h1 rfl rfl rfl
  exact .ite (.next h) (.next (.ite (.ite (.sliceLost h2) (.lanesFail h2)) h2))

theorem ends_execLaneCalibration {m v} (h : Canonical s) : Ends (execLaneCalibration m v s) := .next (.access h)

theorem ends_execSumDelayCalibration {m v} (h : Canonical s) : Ends (execSumDelayCalibration m v s) := .next (.access h)

theorem ends_execLockThresholdCalibration {m v} (h : Canonical s) : Ends (execLockThresholdCalibration m v s) := .next (.access h)

theorem ends_execCalibrationMeasurementEnd {r} (h : Canonical s) : Ends (execCalibrationMeasurementEnd r s) := by
  unfold execCalibrationMeasurementEnd
  extract_lets _ s1 _ s2
  have h1 : Canonical s1 := Canonical.frame.newMeasure h
  have h2 : Canonical s2 := .setRegFld h1
  split
  · exact .next h
  · refine .ite ?_ ?_
    · exact .next h
    · refine .ite ?_ ?_
      · exact .ite (.next (.measured h)) (.next (.congr h1 rfl rfl rfl))
      · split
        · exact .next (.congr h2 rfl rfl rfl)
        · exact .next (.measured h)

theorem ends_execHousekeepingRound {x} (h : Canonical s) : Ends (execHousekeepingRound x s) := by
  unfold execHousekeepingRound
  extract_lets _ s1 _ s2 s3 s4 s5
  have h1 : Canonical s1 := .senseRound h
  have h2 : Canonical s2 := .stageRound (.stopRound (.tripRound h1))
  have h3 : Canonical s3 := .govern h2
  have h4 : Canonical s4 := .setReg h3
  have h5 : Canonical s5 := .fadeRound (.setRails h4)
  exact .ite (.next h) (.next (.coolRound (.followDelays (.applyRings h5))))

theorem ends_execDamperStageChange {die} (h : Canonical s) : Ends (execDamperStageChange die s) := by
  unfold execDamperStageChange
  extract_lets _ _ s1 _ _ _ _ s2
  have h1 : Canonical s1 := .setReg h
  have h2 : Canonical s2 := .congr h1 rfl rfl rfl
  exact .next (.setRegFld h2)

theorem ends_execCoolSecond (h : Canonical s) : Ends (execCoolSecond s) := by
  unfold execCoolSecond
  extract_lets s1
  have h1 : Canonical s1 := .bumpReg h
  exact .ite (.next h) (.ite (.next (.coldReset (.thermalEvent h1))) (.next h1))

theorem ends_execWearSecond (h : Canonical s) : Ends (execWearSecond s) := by
  unfold execWearSecond
  extract_lets _ s1 _ _ s2
  have h1 : Canonical s1 := .bumpReg h
  have h2 : Canonical s2 := .ite (.bumpReg (.congr h1 rfl rfl rfl)) h1
  exact .ite (.next h) (.next (.ite (.orReg h2) h2))

theorem ends_execBrownOut {dom} (h : Canonical s) : Ends (execBrownOut dom s) := by
  unfold execBrownOut
  extract_lets _ s1
  have h1 : Canonical s1 := .orReg (.setDomain h)
  exact .ite (.next h) (.ite (.next (.failover h1)) (.next (.browned h1)))

theorem ends_execBankEntryEnd (h : Canonical s) : Ends (execBankEntryEnd s) := by
  have hthermal : ∀ y : State, Canonical y → ∀ x, Canonical { y with thermal := x } := fun _ hy _ => hy.congr rfl rfl rfl
  unfold execBankEntryEnd
  extract_lets s1 s2 s3 _ s4
  have h1 : Canonical s1 := Canonical.frame.calAbort h
  have h2 : Canonical s2 := .setStackStates (.setDies h1)
  have h3 : Canonical s3 := .clearDamper (.allPathsLost h2)
  have h4 : Canonical s4 := hthermal _ h3 _
  exact .ite (.next h) (.next (Canonical.frame.go h4))

theorem Canonical.unask {scope unit} (h : Canonical s) : Canonical (s.unask scope unit) := h.congr rfl rfl rfl

theorem ends_execColdReset {source detail also} (h : Canonical s) : Ends (execColdReset source detail also s) :=
  .ite (.next (.fireAll (.unask h) fun _ _ _ hy => .fireCold hy)) (.next h)

theorem ends_execWarmReset {source detail also} (h : Canonical s) : Ends (execWarmReset source detail also s) :=
  .ite (.next h) (.ite (.next h) (.next (.fireAll (.unask h) fun _ _ _ hy => .fireWarm hy)))

theorem ends_execDieReset {unit source detail also} (h : Canonical s) : Ends (execDieReset unit source detail also s) :=
  .ite (.next h) (.ite (.next h) (.next (.fireAll (.unask h) fun _ _ _ hy => .fireDie hy)))

theorem ends_execJobReset (h : Canonical s) : Ends (execJobReset s) := by
  have hfaulted : ∀ y : State, Canonical y → Canonical { y with boot := { y.boot with faulted := false } } := fun _ hy => hy.congr rfl rfl rfl
  exact .ite (.next h) (.next (Canonical.frame.go (hfaulted _ (.clearJob (.endErase (.recordReset (.unask h)))))))

theorem ends_execReleaseStepEnd {ok bistFails} (h : Canonical s) : Ends (execReleaseStepEnd ok bistFails s) := by
  unfold execReleaseStepEnd
  extract_lets _ _ s1
  have h1 : Canonical s1 := .setRegFld (.stepWork h)
  refine .ite ?_ ?_
  · exact .next h
  · refine .ite ?_ ?_
    · exact .ite (.next h) (.ite (.next (.booted h1)) (.next (.congr h1 rfl rfl rfl)))
    · split
      · exact .next (.unitRelease h)
      · exact .next h

theorem ends_execOptionLoad (h : Canonical s) : Ends (execOptionLoad s) := .ite (.next (.loadSet h)) (.next h)

theorem ends_execSetSignatureVerify (h : Canonical s) : Ends (execSetSignatureVerify s) := by
  unfold execSetSignatureVerify
  extract_lets _ s1
  have h1 : Canonical s1 := Canonical.frame.go (.congr h rfl rfl rfl)
  refine .ite ?_ ?_
  · exact .next h
  · split
    · exact .next h1
    · extract_lets s2
      have h2 : Canonical s2 := .orReg (.setRegFld h)
      split
      · exact .next (.setVerified h)
      · exact .ite (.next (.optionRegs (.loadSet h2))) (.next (Canonical.frame.go (.congr h2 rfl rfl rfl)))

theorem ends_execBootLimitExpiry {also} (h : Canonical s) : Ends (execBootLimitExpiry also s) :=
  .ite (.next (.fireAll (.bootFailed h) fun _ _ _ hy => .fireCold hy)) (.next h)

theorem ends_execStokerWatchdogExpiry (h : Canonical s) : Ends (execStokerWatchdogExpiry s) := .ite (.next (.coldReset h)) (.ite (.next h) (.ite (.next (.fireWarm h)) (.next (.failover h))))

theorem ends_execEraseRegion {m} (h : Canonical s) : Ends (execEraseRegion m s) := .next (.access h)

theorem ends_execCheckRegion {m} (h : Canonical s) : Ends (execCheckRegion m s) := .next (.access h)

theorem ends_execSelfTests {m} (h : Canonical s) : Ends (execSelfTests m s) := .next (.access h)

theorem ends_execOwnerRootRecord {m} (h : Canonical s) : Ends (execOwnerRootRecord m s) := .next (.access h)

theorem ends_execExtendM3 {m} (h : Canonical s) : Ends (execExtendM3 m s) := .next (.access h)

theorem ends_execTamper {cause} (h : Canonical s) : Ends (execTamper cause s) := by
  unfold execTamper
  extract_lets _ _ s1 s2 _ _ s3 s4
  have h1 : Canonical s1 := .orReg h
  have h2 : Canonical s2 := .bumpReg (.setRegFld (.setRegFld h1))
  have h3 : Canonical s3 := .congr h2 rfl rfl rfl
  have h4 : Canonical s4 := .orReg (.fireCold h3)
  exact .ite (.next h) (.ite (.next h3) (.next (.ite (.setReg h4) h4)))

theorem ends_execEntropyHealthFail (h : Canonical s) : Ends (execEntropyHealthFail s) := .ite (.next h) (.next (.selftestFailed h))

theorem ends_execInputQualified (h : Canonical s) : Ends (execInputQualified s) := .ite (.next h) (.next (.powerOn (.congr h rfl rfl rfl)))

theorem ends_execInputLost (h : Canonical s) : Ends (execInputLost s) := .ite (.next (.backupFade (.powerOff h))) (.next h)

theorem ends_execVbakApplied (h : Canonical s) : Ends (execVbakApplied s) := by
  have hbackup : Canonical s.clearBackup := h.congr rfl rfl rfl
  unfold execVbakApplied
  extract_lets s1
  have h1 : Canonical s1 := .ite h hbackup
  clear_value s1
  exact .ite (.next h) (.next (.powerOn (h1.congr rfl rfl rfl)))

theorem ends_execVbakLost (h : Canonical s) : Ends (execVbakLost s) := .next (.backupFade (.congr h rfl rfl rfl))

theorem ends_execModResetN {low} (h : Canonical s) : Ends (execModResetN low s) := by
  unfold execModResetN
  extract_lets _ s1
  have h1 : Canonical s1 := .congr h rfl rfl rfl
  exact .ite (.next h1) (.ite (.next (.congr h1 rfl rfl rfl)) (.next (.coldReset h1)))

theorem ends_execI2cRead {count} (h : Canonical s) : Ends (execI2cRead count s) := .ite (.next (.sendBytes h)) (.next h)

theorem ends_execI2cOffsetWrite {off} (h : Canonical s) : Ends (execI2cOffsetWrite off s) := .ite (.next (.congr h rfl rfl rfl)) (.next h)

theorem ends_execOpticOverpower {port} (h : Canonical s) : Ends (execOpticOverpower port s) := .ite (.next (.hostLinkLost (.congr h rfl rfl rfl))) (.next h)

theorem ends_execDroopStretch {die region quarters} (h : Canonical s) : Ends (execDroopStretch die region quarters s) := by
  unfold execDroopStretch
  extract_lets
  exact .ite (.next (.bumpReg (.bumpReg h))) (.next h)

theorem ends_execSyncIntervalMissed (h : Canonical s) : Ends (execSyncIntervalMissed s) := by
  unfold execSyncIntervalMissed
  extract_lets s1 _ _ s2
  have h1 : Canonical s1 := .bumpReg h
  have h2 : Canonical s2 := .congr h1 rfl rfl rfl
  exact .ite (.next h) (.ite (.next (.orReg (.setRegFld h2))) (.next h2))

theorem ends_execHostLinkDown {port} (h : Canonical s) : Ends (execHostLinkDown port s) := .next (.hostLinkLost h)

theorem ends_execHostLinkUp {port} (h : Canonical s) : Ends (execHostLinkUp port s) := .ite (.next (.setRegFld h)) (.next h)

theorem ends_execLoadJobEnd (h : Canonical s) : Ends (execLoadJobEnd s) := by
  unfold execLoadJobEnd
  extract_lets _ s1
  have h1 : Canonical s1 := .congr h rfl rfl rfl
  split
  · exact .next h
  · extract_lets
    refine .ite ?_ ?_
    · exact .next h1
    · split
      · extract_lets s2 s3
        have h2 : Canonical s2 := .setReg h1
        have h3 : Canonical s3 := .ite (.orReg h2) h2
        exact .next (.replyLater h3)
      · exact .next (.replyLater (Canonical.frame.go (.acceptImages h1)))

theorem ends_execCfgCmdEnd {flashOk} (h : Canonical s) : Ends (execCfgCmdEnd flashOk s) := by
  unfold execCfgCmdEnd
  split
  · exact .next h
  · exact .ite (.next (.showRegions (.cfgEnd (.eraseFlash h)))) (.next (.cfgEnd h))
  · extract_lets
    exact .ite (.next (.cfgEnd (.checkPassed h))) (.next (.cfgEnd (.ite (.orReg h) h)))

theorem ends_execGlvCmdEnd {testsPass} (h : Canonical s) : Ends (execGlvCmdEnd testsPass s) := by
  have howner : Canonical s.ownerRecord.2 := h.ownerRecord
  unfold execGlvCmdEnd
  split
  · exact .next h
  · exact .ite (.next (.gloveEnd (.orReg h))) (.next (.gloveEnd (.selftestFailed (.clearReg h))))
  · generalize s.ownerRecord = x at howner ⊢
    exact .next (.gloveEnd howner)
  · exact .next (.gloveEnd (.extend h))

theorem ends_execQuoteSigned (h : Canonical s) : Ends (execQuoteSigned s) := by
  unfold execQuoteSigned
  extract_lets
  split
  · exact .next h
  · extract_lets s1
    have h1 : Canonical s1 := .setRegFld (.congr h rfl rfl rfl)
    exact .ite (.next (.replyLater (.orReg h1))) (.next (.replyLater h1))

end Sys2Proof.Machine

namespace Sys2Proof.Machine

/-! ## Every step -/

section
variable {s t : State} {u : Issue}

/-- What a mild effect on a booked core leaves. -/
theorem Canonical.outcome {q : Ctx} {e : Effect} (h : Canonical s) (hs : q.s = s) (ht : Booked (s.tile u.tile.key) q.t) (he : e.Mild q) :
    Canonical (s.outcome u e) := by
  have hbooked : ∀ {b}, Booked (s.tile u.tile.key) b → Memory.wf 0 b.sram = true := fun hb => hb.fields.1 ▸ h.tile _
  have hcore : ∀ {s' t'}, q.Keeps s' t' → Canonical s' ∧ Memory.wf 0 t'.sram = true := fun hkeeps =>
    ⟨hkeeps.canonical (hs ▸ h), hkeeps.core.sram (hbooked ht)⟩
  cases e with
  | fault code addr => exact .raise (hbooked (s.booked_books u 0)) h
  | crash s' t' code addr => exact .raise (hcore he).2 (hcore he).1
  | done s' t' y target => exact .finish (hcore he).2 (hcore he).1
  | hold w =>
    have hcounted : Memory.wf 0 ((s.tile u.tile.key).fetchCount (s.at_ u).pc).sram = true := hbooked ((s.tile u.tile.key).fetchCount_books (s.at_ u).pc)
    exact .setTile hcounted h

theorem Canonical.issue {body : Ctx → Effect} {f : Fields} {cls fn : Nat} (h : Canonical s) (hbody : ∀ q, (body q).Mild q) :
    Canonical (s.issue u f cls fn body) := by
  obtain hsame | ⟨b, hb, hends⟩ := issue_cases s u f cls fn body
  · rwa [hsame]
  · have hsram : Memory.wf 0 b.sram = true := hb.fields.1 ▸ h.tile _
    obtain ⟨pc, code, hraise⟩ | ⟨y, hfinish⟩ | ⟨q, hs, ht, hdone⟩ := hends
    · rw [hraise]
      exact .raise hsram h
    · rw [hfinish]
      exact .finish hsram h
    · rw [hdone]
      exact .outcome h hs (ht ▸ hb) (hbody q)

/-- An instruction of the tables keeps the memories canonical. -/
theorem ends_row (h : Canonical s) (i : Nat) {cls fn : Nat} {op : Issue → Fields → Instr} (hrow : tileCodes[i]? = some (cls, fn, op)) (u : Issue)
    (f : Fields) : Ends (exec (op u f) s) := by
  obtain ⟨body, hexec, hbody⟩ := tileCodes_mild _ (List.mem_of_getElem? hrow) u f
  rw [hexec s]
  exact .next (.issue h hbody)

/-- The end of a Glovebox action, stated of `exec` itself: among the cases of `ends_exec` the
unfolding of its arm would run into Lean's recursion limit. -/
theorem ends_glvCmdEnd {testsPass : Bool} (h : Canonical s) : Ends (exec (.glvCmdEnd testsPass) s) := by
  change Ends (execGlvCmdEnd testsPass s)
  exact ends_execGlvCmdEnd h

/-- Every command of the model keeps the memories canonical. -/
theorem ends_exec (h : Canonical s) (i : Instr) : Ends (exec i s) := by
  cases i with
  | add u f => exact ends_row h 0 rfl u f
  | sub u f => exact ends_row h 1 rfl u f
  | and u f => exact ends_row h 2 rfl u f
  | or u f => exact ends_row h 3 rfl u f
  | xor u f => exact ends_row h 4 rfl u f
  | sll u f => exact ends_row h 5 rfl u f
  | srl u f => exact ends_row h 6 rfl u f
  | sra u f => exact ends_row h 7 rfl u f
  | mul u f => exact ends_row h 8 rfl u f
  | mulhu u f => exact ends_row h 9 rfl u f
  | mulhs u f => exact ends_row h 10 rfl u f
  | min u f => exact ends_row h 11 rfl u f
  | max u f => exact ends_row h 12 rfl u f
  | minu u f => exact ends_row h 13 rfl u f
  | maxu u f => exact ends_row h 14 rfl u f
  | sel u f => exact ends_row h 15 rfl u f
  | addi u f => exact ends_row h 16 rfl u f
  | andi u f => exact ends_row h 17 rfl u f
  | ori u f => exact ends_row h 18 rfl u f
  | xori u f => exact ends_row h 19 rfl u f
  | slli u f => exact ends_row h 20 rfl u f
  | srli u f => exact ends_row h 21 rfl u f
  | srai u f => exact ends_row h 22 rfl u f
  | muli u f => exact ends_row h 23 rfl u f
  | movhi u f => exact ends_row h 24 rfl u f
  | cmpeq u f => exact ends_row h 25 rfl u f
  | cmplt u f => exact ends_row h 26 rfl u f
  | cmpltu u f => exact ends_row h 27 rfl u f
  | cmpeqi u f => exact ends_row h 28 rfl u f
  | cmplti u f => exact ends_row h 29 rfl u f
  | cmpltui u f => exact ends_row h 30 rfl u f
  | pand u f => exact ends_row h 31 rfl u f
  | por u f => exact ends_row h 32 rfl u f
  | pxor u f => exact ends_row h 33 rfl u f
  | pandn u f => exact ends_row h 34 rfl u f
  | ldb u f => exact ends_row h 35 rfl u f
  | ldh u f => exact ends_row h 36 rfl u f
  | ldw u f => exact ends_row h 37 rfl u f
  | ldd u f => exact ends_row h 38 rfl u f
  | ldbs u f => exact ends_row h 39 rfl u f
  | ldhs u f => exact ends_row h 40 rfl u f
  | ldws u f => exact ends_row h 41 rfl u f
  | stb u f => exact ends_row h 42 rfl u f
  | sth u f => exact ends_row h 43 rfl u f
  | stw u f => exact ends_row h 44 rfl u f
  | std u f => exact ends_row h 45 rfl u f
  | vld u f => exact ends_row h 46 rfl u f
  | vst u f => exact ends_row h 47 rfl u f
  | br u f => exact ends_row h 48 rfl u f
  | brr u f => exact ends_row h 49 rfl u f
  | call u f => exact ends_row h 50 rfl u f
  | loop u f => exact ends_row h 51 rfl u f
  | loopr u f => exact ends_row h 52 rfl u f
  | lpop u f => exact ends_row h 53 rfl u f
  | vadd u f => exact ends_row h 54 rfl u f
  | vsub u f => exact ends_row h 55 rfl u f
  | vmul u f => exact ends_row h 56 rfl u f
  | vfma u f => exact ends_row h 57 rfl u f
  | vmin u f => exact ends_row h 58 rfl u f
  | vmax u f => exact ends_row h 59 rfl u f
  | vfcmplt u f => exact ends_row h 60 rfl u f
  | vfcmpeq u f => exact ends_row h 61 rfl u f
  | viadd u f => exact ends_row h 62 rfl u f
  | visub u f => exact ends_row h 63 rfl u f
  | vand u f => exact ends_row h 64 rfl u f
  | vor u f => exact ends_row h 65 rfl u f
  | vxor u f => exact ends_row h 66 rfl u f
  | vshli u f => exact ends_row h 67 rfl u f
  | vshri u f => exact ends_row h 68 rfl u f
  | vblend u f => exact ends_row h 69 rfl u f
  | vperm u f => exact ends_row h 70 rfl u f
  | vbcast u f => exact ends_row h 71 rfl u f
  | vget u f => exact ends_row h 72 rfl u f
  | vset u f => exact ends_row h 73 rfl u f
  | vany u f => exact ends_row h 74 rfl u f
  | vicmplt u f => exact ends_row h 75 rfl u f
  | vcvtBf16 u f => exact ends_row h 76 rfl u f
  | vcvtFp16 u f => exact ends_row h 77 rfl u f
  | vextBf16 u f => exact ends_row h 78 rfl u f
  | vextFp16 u f => exact ends_row h 79 rfl u f
  | vpackMxf8 u f => exact ends_row h 80 rfl u f
  | vpackMxf6 u f => exact ends_row h 81 rfl u f
  | vpackMxf4 u f => exact ends_row h 82 rfl u f
  | vpackMxi8 u f => exact ends_row h 83 rfl u f
  | vunpkMxf8 u f => exact ends_row h 84 rfl u f
  | vunpkMxf6 u f => exact ends_row h 85 rfl u f
  | vunpkMxf4 u f => exact ends_row h 86 rfl u f
  | vunpkMxi8 u f => exact ends_row h 87 rfl u f
  | vrcp u f => exact ends_row h 88 rfl u f
  | vrsq u f => exact ends_row h 89 rfl u f
  | vexp2 u f => exact ends_row h 90 rfl u f
  | vlog2 u f => exact ends_row h 91 rfl u f
  | vsum u f => exact ends_row h 92 rfl u f
  | vrmax u f => exact ends_row h 93 rfl u f
  | mopBf16 u f => exact ends_row h 94 rfl u f
  | mopFp16 u f => exact ends_row h 95 rfl u f
  | mopMxi8 u f => exact ends_row h 96 rfl u f
  | mopMxf8 u f => exact ends_row h 97 rfl u f
  | mopMxf6 u f => exact ends_row h 98 rfl u f
  | mopMxf4 u f => exact ends_row h 99 rfl u f
  | mopArrayDone _ => exact ends_execMopArrayDone h
  | ast u f => exact ends_row h 100 rfl u f
  | ald u f => exact ends_row h 101 rfl u f
  | mzero u f => exact ends_row h 102 rfl u f
  | aget u f => exact ends_row h 103 rfl u f
  | msend u f => exact ends_row h 104 rfl u f
  | mwait u f => exact ends_row h 105 rfl u f
  | mtest u f => exact ends_row h 106 rfl u f
  | mcnt u f => exact ends_row h 107 rfl u f
  | mquiet u f => exact ends_row h 108 rfl u f
  | hsend u f => exact ends_row h 109 rfl u f
  | hbcast u f => exact ends_row h 110 rfl u f
  | hget u f => exact ends_row h 111 rfl u f
  | esend u f => exact ends_row h 112 rfl u f
  | hquiet u f => exact ends_row h 113 rfl u f
  | xldD u f => exact ends_row h 114 rfl u f
  | xldV u f => exact ends_row h 115 rfl u f
  | xstD u f => exact ends_row h 116 rfl u f
  | xstV u f => exact ends_row h 117 rfl u f
  | xadd u f => exact ends_row h 118 rfl u f
  | xfadd u f => exact ends_row h 119 rfl u f
  | xswap u f => exact ends_row h 120 rfl u f
  | xcas u f => exact ends_row h 121 rfl u f
  | stampAt u f => exact ends_row h 122 rfl u f
  | stampReached _ => exact ends_execStampReached h
  | sync u f => exact ends_row h 123 rfl u f
  | tickend u f => exact ends_row h 124 rfl u f
  | srd u f => exact ends_row h 125 rfl u f
  | swr u f => exact ends_row h 126 rfl u f
  | stime u f => exact ends_row h 127 rfl u f
  | stick u f => exact ends_row h 128 rfl u f
  | coreCheck _ => exact ends_execCoreCheck h
  | sramWriteBack _ _ => exact ends_execSramWriteBack h
  | remoteResponse _ _ => exact ends_execRemoteResponse h
  | remoteTimeout _ _ => exact ends_execRemoteTimeout h
  | sendInject _ _ => exact ends_execSendInject h
  | meshSlotWindowOpen _ _ => exact ends_execMeshSlotWindowOpen h
  | meshPacketArrival _ _ _ => exact ends_execMeshPacketArrival h
  | reducePacketCombine _ _ _ => exact ends_execReducePacketCombine h
  | forkSlip _ => exact ends_execForkSlip h
  | syncToken _ _ _ => exact ends_execSyncToken h
  | syncRelease _ _ _ => exact ends_execSyncRelease h
  | syncFence _ _ => exact ends_execSyncFence h
  | crossingSlip _ _ => exact ends_execCrossingSlip h
  | tickBeacon => exact ends_execTickBeacon h
  | idleBeacon => exact ends_execIdleBeacon h
  | flywheelBeacon => exact ends_execFlywheelBeacon h
  | tickInEdge _ => exact ends_execTickInEdge h
  | guardStart => exact ends_execGuardStart h
  | localVerdictFinal => exact ends_execLocalVerdictFinal h
  | voteClose => exact ends_execVoteClose h
  | voteSend => exact ends_execVoteSend h
  | voteWaitExpiry => exact ends_execVoteWaitExpiry h
  | commitDecision => exact ends_execCommitDecision h
  | decisionLost => exact ends_execDecisionLost h
  | coreFencePrepare _ => exact ends_execCoreFencePrepare h
  | spareLoadingEnd _ => exact ends_execSpareLoadingEnd h
  | dieFailure _ => exact ends_execDieFailure h
  | takeoverEnd => exact ends_execTakeoverEnd h
  | jobTeardown => exact ends_execJobTeardown h
  | checkpointSnapshotEnd _ _ => exact ends_execCheckpointSnapshotEnd h
  | peerCheckpointTransfer => exact ends_execPeerCheckpointTransfer h
  | healthReport _ _ _ => exact ends_execHealthReport h
  | yield => exact ends_execYield h
  | stokerSnapshot => exact ends_execStokerSnapshot h
  | stokerFailover _ => exact ends_execStokerFailover h
  | stokerReturn => exact ends_execStokerReturn h
  | criticalPairSweep _ _ => exact ends_execCriticalPairSweep h
  | hearthWindowOpen _ _ _ => exact ends_execHearthWindowOpen h
  | hearthBlockReceive _ _ _ _ => exact ends_execHearthBlockReceive h
  | broadcastBlockLanding _ _ _ => exact ends_execBroadcastBlockLanding h
  | readRequest _ _ => exact ends_execReadRequest h
  | readResponseLanding _ _ _ => exact ends_execReadResponseLanding h
  | memoryWrite _ _ => exact ends_execMemoryWrite h
  | reserveOff _ _ => exact ends_execReserveOff h
  | reserveOn _ _ => exact ends_execReserveOn h
  | offFrame _ _ _ => exact ends_execOffFrame h
  | onFrame _ _ _ => exact ends_execOnFrame h
  | pilotTickBeacon _ _ => exact ends_execPilotTickBeacon h
  | pilotGuardStart _ _ => exact ends_execPilotGuardStart h
  | firmwareWord _ _ _ => exact ends_execFirmwareWord h
  | laneSet _ _ => exact ends_execLaneSet h
  | errorReport _ _ => exact ends_execErrorReport h
  | pilotFrameLost _ _ _ => exact ends_execPilotFrameLost h
  | pilotComplementMismatch _ _ _ => exact ends_execPilotComplementMismatch h
  | laneFail _ _ => exact ends_execLaneFail h
  | laneSwapToSpare _ _ => exact ends_execLaneSwapToSpare h
  | laneSwapReturn _ _ => exact ends_execLaneSwapReturn h
  | sumPacketQueue _ _ _ => exact ends_execSumPacketQueue h
  | sumRoundSend _ _ => exact ends_execSumRoundSend h
  | sumRoundReceive _ _ _ => exact ends_execSumRoundReceive h
  | sumResultDelivery _ _ => exact ends_execSumResultDelivery h
  | toneWindow _ _ _ _ _ _ => exact ends_execToneWindow h
  | referenceLost _ _ => exact ends_execReferenceLost h
  | referenceReturned => exact ends_execReferenceReturned h
  | timeStep _ _ => exact ends_execTimeStep h
  | ptpMessage _ _ _ _ _ => exact ends_execPtpMessage h
  | inputDeadline _ _ => exact ends_execInputDeadline h
  | patrolScrub _ _ => exact ends_execPatrolScrub h
  | fabricAtomic _ => exact ends_execFabricAtomic h
  | trainingCell _ _ => exact ends_execTrainingCell h
  | linkDown _ _ => exact ends_execLinkDown h
  | linkUp _ => exact ends_execLinkUp h
  | fabricCellReceive _ _ _ => exact ends_execFabricCellReceive h
  | replayRequest _ _ => exact ends_execReplayRequest h
  | linkDelayMeasure _ _ _ => exact ends_execLinkDelayMeasure h
  | scheduledWindowStart _ _ => exact ends_execScheduledWindowStart h
  | scheduledCellReceive _ => exact ends_execScheduledCellReceive h
  | remoteRequest _ => exact ends_execRemoteRequest h
  | combinerFlush _ => exact ends_execCombinerFlush h
  | beaconFrame _ _ => exact ends_execBeaconFrame h
  | vote _ => exact ends_execVote h
  | decision _ => exact ends_execDecision h
  | echoRequest _ _ => exact ends_execEchoRequest h
  | echoReply _ _ => exact ends_execEchoReply h
  | loss => exact ends_execLoss h
  | mhpDatagram _ _ _ _ _ _ _ => exact ends_execMhpDatagram h
  | hello _ _ _ _ _ => exact ends_execHello h
  | bye _ => exact ends_execBye h
  | keepalive _ => exact ends_execKeepalive h
  | getStatus _ => exact ends_execGetStatus h
  | regRead _ _ _ => exact ends_execRegRead h
  | regWrite _ _ _ => exact ends_execRegWrite h
  | loadJob _ _ _ _ => exact ends_execLoadJob h
  | unloadJob _ => exact ends_execUnloadJob h
  | startJob _ _ _ _ => exact ends_execStartJob h
  | stopJob _ => exact ends_execStopJob h
  | drainEnd => exact ends_execDrainEnd h
  | teardown _ => exact ends_execTeardown h
  | bank _ => exact ends_execBank h
  | wake _ => exact ends_execWake h
  | wakeComplete => exact ends_execWakeComplete h
  | reset _ _ _ => exact ends_execReset h
  | rstReqWrite _ _ => exact ends_execRstReqWrite h
  | configRevert _ => exact ends_execConfigRevert h
  | mbxSend _ _ _ => exact ends_execMbxSend h
  | mbxRecv _ _ => exact ends_execMbxRecv h
  | openQp _ _ _ _ _ _ => exact ends_execOpenQp h
  | closeQp _ _ => exact ends_execCloseQp h
  | subscribe _ _ => exact ends_execSubscribe h
  | getQuote _ _ => exact ends_execGetQuote h
  | sessionIdleTimeout _ => exact ends_execSessionIdleTimeout h
  | rdmaWrite _ _ _ _ _ _ => exact ends_execRdmaWrite h
  | rdmaRead _ _ _ _ => exact ends_execRdmaRead h
  | cnpReceive _ _ _ _ => exact ends_execCnpReceive h
  | pfcPause _ _ => exact ends_execPfcPause h
  | arpRequest _ _ _ _ _ _ => exact ends_execArpRequest h
  | frameDrop _ _ _ _ => exact ends_execFrameDrop h
  | mbxInWr _ _ _ => exact ends_execMbxInWr h
  | mbxInRd _ _ => exact ends_execMbxInRd h
  | mbxInBell _ _ _ => exact ends_execMbxInBell h
  | mbxOutWr _ _ _ => exact ends_execMbxOutWr h
  | mbxOutRd _ _ => exact ends_execMbxOutRd h
  | mbxOutBell _ _ _ => exact ends_execMbxOutBell h
  | mbxAckWrite _ _ _ _ => exact ends_execMbxAckWrite h
  | mbxAckRead _ _ _ => exact ends_execMbxAckRead h
  | mbxVerWrite _ _ _ => exact ends_execMbxVerWrite h
  | mailboxMessageExpiry _ _ => exact ends_execMailboxMessageExpiry h
  | rwcLowWrite _ _ => exact ends_execRwcLowWrite h
  | rwcHighWrite _ _ => exact ends_execRwcHighWrite h
  | rwcPendingExpiry _ => exact ends_execRwcPendingExpiry h
  | lockWrite _ _ => exact ends_execLockWrite h
  | tblAddrWrite _ _ _ => exact ends_execTblAddrWrite h
  | tblDataRead _ _ _ => exact ends_execTblDataRead h
  | mshShadowReady _ _ _ => exact ends_execMshShadowReady h
  | hrtShadowReady _ _ => exact ends_execHrtShadowReady h
  | timeLoRead _ => exact ends_execTimeLoRead h
  | tckSrcWrite _ _ => exact ends_execTckSrcWrite h
  | tckPeriodWrite _ _ => exact ends_execTckPeriodWrite h
  | pwrBudgetWrite _ _ => exact ends_execPwrBudgetWrite h
  | fabLockWrite _ _ _ => exact ends_execFabLockWrite h
  | portRetrain _ _ _ => exact ends_execPortRetrain h
  | glvExtDataWrite _ _ _ => exact ends_execGlvExtDataWrite h
  | cfgFlashDataWrite _ _ => exact ends_execCfgFlashDataWrite h
  | registerWrite _ _ => exact ends_execRegisterWrite h
  | controlAccessTimeout _ _ _ => exact ends_execControlAccessTimeout h
  | reReference _ => exact ends_execReReference h
  | combReturn _ _ _ => exact ends_execCombReturn h
  | spareStart _ _ _ => exact ends_execSpareStart h
  | spareHandover _ _ _ => exact ends_execSpareHandover h
  | spareLock _ => exact ends_execSpareLock h
  | spareLockTimeout _ => exact ends_execSpareLockTimeout h
  | handoverRampEnd _ => exact ends_execHandoverRampEnd h
  | heaterLoopWindow _ _ _ => exact ends_execHeaterLoopWindow h
  | laneCalibration _ _ => exact ends_execLaneCalibration h
  | sumDelayCalibration _ _ => exact ends_execSumDelayCalibration h
  | lockThresholdCalibration _ _ => exact ends_execLockThresholdCalibration h
  | calibrationMeasurementEnd _ => exact ends_execCalibrationMeasurementEnd h
  | housekeepingRound _ => exact ends_execHousekeepingRound h
  | damperStageChange _ => exact ends_execDamperStageChange h
  | coolSecond => exact ends_execCoolSecond h
  | wearSecond => exact ends_execWearSecond h
  | brownOut _ => exact ends_execBrownOut h
  | bankEntryEnd => exact ends_execBankEntryEnd h
  | coldReset _ _ _ => exact ends_execColdReset h
  | warmReset _ _ _ => exact ends_execWarmReset h
  | dieReset _ _ _ _ => exact ends_execDieReset h
  | jobReset => exact ends_execJobReset h
  | releaseStepEnd _ _ => exact ends_execReleaseStepEnd h
  | optionLoad => exact ends_execOptionLoad h
  | setSignatureVerify => exact ends_execSetSignatureVerify h
  | bootLimitExpiry _ => exact ends_execBootLimitExpiry h
  | stokerWatchdogExpiry => exact ends_execStokerWatchdogExpiry h
  | eraseRegion _ => exact ends_execEraseRegion h
  | checkRegion _ => exact ends_execCheckRegion h
  | selfTests _ => exact ends_execSelfTests h
  | ownerRootRecord _ => exact ends_execOwnerRootRecord h
  | extendM3 _ => exact ends_execExtendM3 h
  | tamper _ => exact ends_execTamper h
  | entropyHealthFail => exact ends_execEntropyHealthFail h
  | inputQualified => exact ends_execInputQualified h
  | inputLost => exact ends_execInputLost h
  | vbakApplied => exact ends_execVbakApplied h
  | vbakLost => exact ends_execVbakLost h
  | modResetN _ => exact ends_execModResetN h
  | i2cRead _ => exact ends_execI2cRead h
  | i2cOffsetWrite _ => exact ends_execI2cOffsetWrite h
  | opticOverpower _ => exact ends_execOpticOverpower h
  | droopStretch _ _ _ => exact ends_execDroopStretch h
  | syncIntervalMissed => exact ends_execSyncIntervalMissed h
  | hostLinkDown _ => exact ends_execHostLinkDown h
  | hostLinkUp _ => exact ends_execHostLinkUp h
  | loadJobEnd => exact ends_execLoadJobEnd h
  | cfgCmdEnd _ => exact ends_execCfgCmdEnd h
  | glvCmdEnd _ => exact ends_glvCmdEnd h
  | quoteSigned => exact ends_execQuoteSigned h

theorem ends_step (h : Canonical s) : Ends (step s) := by
  have hrest : ∀ l, Canonical { s with pending := l } := fun _ => h.congr rfl rfl rfl
  unfold step
  split
  · exact .next (.period h)
  · exact ends_exec (hrest _) _

end

/-- Settles O59: no command leaves a memory out of its canonical form. -/
theorem memoriesStayCanonical : Obligations.MemoriesStayCanonical := fun _ t h hstep => ends_step h t hstep

end Sys2Proof.Machine

namespace Sys2Proof.Machine

/-! ## Instruction words (R58, R59) -/

section
variable (cls fn : Nat) (f : Fields)

theorem toNat_append_eq {n m : Nat} (x : BitVec n) (y : BitVec m) : (x ++ y).toNat = x.toNat * 2 ^ m + y.toNat := by
  rw [BitVec.toNat_append, ← Nat.shiftLeft_add_eq_or_of_lt y.isLt, Nat.shiftLeft_eq]

/-- The layout of R58 as a number, from the class in the four highest bits to the immediate in the lowest. -/
theorem toNat_tileWord : (tileWord cls fn f).toNat =
    ((((((cls % 16 * 64 + fn % 64) * 64 + f.dest.toNat) * 64 + f.srca.toNat) * 64 + f.srcb.toNat) * 2 + f.pneg.toNat) * 8 + f.pidx.toNat) * 2 ^ 32 +
      f.imm.toNat := by
  change (BitVec.ofNat 4 cls ++ BitVec.ofNat 6 fn ++ f.dest ++ f.srca ++ f.srcb ++ BitVec.ofBool f.pneg ++ f.pidx ++ f.imm : BitVec (4+6+6+6+6+1+3+32)).toNat = _
  simp only [toNat_append_eq, BitVec.toNat_ofNat, BitVec.toNat_ofBool]; rfl

/-- The fields of a word are read where `tileWord` puts them (R58). -/
theorem fieldsOf_tileWord : fieldsOf (tileWord cls fn f) = f := by
  obtain ⟨pneg, pidx, dest, srca, srcb, imm⟩ := f
  have hword := toNat_tileWord cls fn ⟨pneg, pidx, dest, srca, srcb, imm⟩
  have hpidx := pidx.isLt
  have hdest := dest.isLt
  have hsrca := srca.isLt
  have hsrcb := srcb.isLt
  have himm := imm.isLt
  have hpneg := pneg.toNat_lt
  generalize tileWord cls fn ⟨pneg, pidx, dest, srca, srcb, imm⟩ = w at hword
  simp only [fieldsOf, Fields.mk.injEq]
  dsimp only at hword
  refine ⟨?_, ?_, ?_, ?_, ?_, ?_⟩
  · rw [BitVec.getLsbD, hword, Nat.testBit_eq_decide_div_mod_eq]
    cases pneg
    · simp; omega
    · simp; omega
  all_goals
    apply BitVec.eq_of_toNat_eq
    rw [BitVec.extractLsb'_toNat, Nat.shiftRight_eq_div_pow, hword]
    omega

/-- Class and function are read above the fields (R58). -/
theorem wordCode_tileWord : wordClass (tileWord cls fn f) = cls % 16 ∧ wordFunction (tileWord cls fn f) = fn % 64 := by
  have hword := toNat_tileWord cls fn f
  have hpidx := f.pidx.isLt
  have hdest := f.dest.isLt
  have hsrca := f.srca.isLt
  have hsrcb := f.srcb.isLt
  have himm := f.imm.isLt
  have hpneg := f.pneg.toNat_lt
  simp only [wordClass, wordFunction, BitVec.extractLsb'_toNat, Nat.shiftRight_eq_div_pow, hword]
  omega

end

/-- The code of a row of the instruction tables: class and function. -/
def CodeRow.code (r : CodeRow) : Nat × Nat := (r.1, r.2.1)

/-- In a list of distinct codes a search for the code of a row finds that row. -/
theorem find?_code {l : List CodeRow} (hl : (l.map CodeRow.code).Nodup) {r : CodeRow} (hr : r ∈ l) :
    l.find? (fun x => x.1 == r.1 && x.2.1 == r.2.1) = some r := by
  induction l with
  | nil => cases hr
  | cons x l ih =>
    rw [List.map_cons, List.nodup_cons] at hl
    obtain ⟨hx, hl⟩ := hl
    rcases List.mem_cons.1 hr with rfl | hr
    · simp only [List.find?_cons, BEq.rfl, Bool.and_self]
    · have hne : ¬(x.1 = r.1 ∧ x.2.1 = r.2.1) := fun heq => hx (List.mem_map.2 ⟨r, hr, Prod.ext heq.1.symm heq.2.symm⟩)
      rw [List.find?_cons_of_neg (by simpa using hne), ih hl hr]

theorem tileCodes_nodup : (tileCodes.map CodeRow.code).Nodup := by decide +kernel

/-- Every code of the tables fits the class and function bits of a word (R58). -/
theorem tileCodes_fit : ∀ c ∈ tileCodes.map CodeRow.code, c.1 < 16 ∧ c.2 < 64 := by decide +kernel

/-- Settles O57: the fields come back by `fieldsOf_tileWord`, the constructor because the codes of the tables are distinct. -/
theorem tileWordsDecode : Obligations.TileWordsDecode := by
  refine ⟨fun r hr u f => ?_, fun u w hnone => ?_⟩
  · obtain ⟨hclass, hfunction⟩ := wordCode_tileWord r.1 r.2.1 f
    obtain ⟨hcls, hfn⟩ : r.1 < 16 ∧ r.2.1 < 64 := tileCodes_fit _ (List.mem_map_of_mem hr)
    rw [decodeTileWord, hclass, hfunction, fieldsOf_tileWord, Nat.mod_eq_of_lt hcls, Nat.mod_eq_of_lt hfn, tileCtor, find?_code tileCodes_nodup hr]
    rfl
  · have hfind : tileCodes.find? (fun r => r.1 == wordClass w && r.2.1 == wordFunction w) = none :=
      List.find?_eq_none.2 (List.any_eq_false.1 hnone)
    rw [decodeTileWord, tileCtor, hfind]
    rfl

end Sys2Proof.Machine

namespace Sys2Proof.Machine

/-! ## What an instruction that goes on leaves (R34, R70) -/

/-- A core that differs from `a` in the bookkeeping of an issue and in the system registers of `sys` alone. -/
structure BookedBut (sys : List Nat) (a b : Tile) : Prop where
  rest : { b with threads := a.threads, cycle := a.cycle, lastLoose := a.lastLoose, portFree := a.portFree, til := a.til } = a
  threads : b.threads = a.threads
  sys : ∀ i, i ≠ 11 → i ≠ 12 → i ∉ sys → b.sys i = a.sys i

/-- A thread that stands where another does: an instruction that only computes leaves its thread so. -/
structure Thread.SamePlace (x y : Thread) : Prop where
  loops : y.loops = x.loops
  pc : y.pc = x.pc
  state : y.state = x.state

theorem Booked.but {a b : Tile} (h : Booked a b) (sys : List Nat) : BookedBut sys a b := ⟨h.rest, h.threads, fun i h11 h12 _ => h.sys i h11 h12⟩

/-- Only a system register written besides. -/
theorem BookedBut.setSys {sys : List Nat} {a b : Tile} (h : BookedBut sys a b) {i : Nat} (hi : i = 11 ∨ i = 12 ∨ i ∈ sys) (w : Word) :
    BookedBut sys a (b.setSys i w) := by
  refine ⟨h.rest, h.threads, fun j h11 h12 hj => ?_⟩
  have hne : j ≠ i := by
    rintro rfl
    rcases hi with rfl | rfl | hi
    · exact h11 rfl
    · exact h12 rfl
    · exact hj hi
  rw [Tile.sys_setSys, if_neg hne, h.sys j h11 h12 hj]

theorem Thread.SamePlace.refl (x : Thread) : x.SamePlace x := ⟨rfl, rfl, rfl⟩

theorem State.ctxOf_samePlace (s : State) (u : Issue) (f : Fields) (cls fn : Nat) : (s.at_ u).SamePlace (s.ctxOf u f cls fn).x := ⟨rfl, rfl, rfl⟩

theorem Thread.SamePlace.ws {x y : Thread} (h : x.SamePlace y) (d : Nat) (v : DWord) (c : Nat) : x.SamePlace (y.ws d v c) := by
  unfold Thread.ws
  split
  · exact h
  · exact ⟨h.loops, h.pc, h.state⟩

theorem Thread.SamePlace.wp {x y : Thread} (h : x.SamePlace y) (d : Nat) (b : Bool) (c : Nat) : x.SamePlace (y.wp d b c) := by
  unfold Thread.wp
  split
  · exact h
  · exact ⟨h.loops, h.pc, h.state⟩

theorem Thread.SamePlace.wv {x y : Thread} (h : x.SamePlace y) (d : Nat) (v : VReg) (c : Nat) : x.SamePlace (y.wv d v c) := ⟨h.loops, h.pc, h.state⟩

section
variable {s : State} {u : Issue} {f : Fields} {cls fn : Nat} {body : Ctx → Effect}

/-- The core of an issue, put in place with its thread moved on behind the instruction. -/
def State.movedOn (s s' : State) (u : Issue) (b : Tile) (y : Thread) : State :=
  s'.setTile u.tile.key (b.setThread u.thread (y.advance (s.cycleOf u) none))

theorem State.tile_movedOn (s s' : State) (u : Issue) (b : Tile) (y : Thread) :
    (s.movedOn s' u b y).tile u.tile.key = b.setThread u.thread (y.advance (s.cycleOf u) none) := by
  rw [State.movedOn, State.tile_setTile, if_pos rfl]

/-- A clear instruction whose body is done moves its thread on. -/
theorem issue_movesOn {s' : State} {b : Tile} {y : Thread} (h : s.clear u f cls fn = true) (hbody : body (s.ctxOf u f cls fn) = .done s' b y none)
    (hplace : (s.at_ u).SamePlace y) : s.issue u f cls fn body = s.movedOn s' u b y := by
  obtain ⟨hlegal, hend⟩ := State.clear_legal h
  rw [issue_runs hlegal, hbody]
  exact outcome_done (by rw [hplace.loops, hplace.pc]; exact hend)

theorem State.at_movedOn (s s' : State) (u : Issue) (b : Tile) (y : Thread) : (s.movedOn s' u b y).at_ u = y.advance (s.cycleOf u) none := by
  rw [State.at_, State.tile_movedOn, Tile.thread_setThread, if_pos rfl]

theorem State.movedOn_goesOn {s' : State} {b : Tile} {y : Thread} (hplace : (s.at_ u).SamePlace y) :
    goesOn (s.at_ u) ((s.movedOn s' u b y).at_ u) := by
  rw [State.at_movedOn]
  exact ⟨congrArg₂ (fun l p => (loopEnd l p).2) hplace.loops hplace.pc, congrArg₂ (fun l p => (loopEnd l p).1) hplace.loops hplace.pc, hplace.state⟩

/-- A thread that moves on keeps its registers. -/
theorem State.movedOn_registers {s' : State} {b : Tile} {y : Thread} (h : sameRegisters (s.at_ u) y) :
    sameRegisters (s.at_ u) ((s.movedOn s' u b y).at_ u) := by
  rw [State.at_movedOn]
  exact h

theorem State.movedOn_others {s' : State} (hs : s'.tiles = s.tiles) (u : Issue) (b : Tile) (y : Thread) :
    ∀ j, j ≠ u.tile.key → (s.movedOn s' u b y).tile j = s.tile j := fun j hj => by
  rw [State.movedOn, State.tile_setTile, if_neg hj, State.tile, hs, State.tile]

theorem State.movedOn_only {s' : State} {b : Tile} {sys : List Nat} (hs : s'.tiles = s.tiles) (hb : BookedBut sys (s.tile u.tile.key) b) (y : Thread) :
    onlyThread s (s.movedOn s' u b y) u sys :=
  (onlyThread_setThread (y := y.advance (s.cycleOf u) none) (by unfold State.movedOn State.setTile; rw [hs]) hb.rest hb.threads hb.sys).1

/-- A clear instruction that writes one scalar register, and of its core at most the counts of its bookkeeping. -/
theorem scalarDone_of_core {b : Tile} {d : Nat} {v : DWord} {lat : Nat} (h : s.clear u f cls fn = true) (hb : BookedBut [] (s.tile u.tile.key) b)
    (hbody : body (s.ctxOf u f cls fn) = .done s b ((s.ctxOf u f cls fn).x.ws d v (s.cycleOf u + lat)) none) :
    scalarDone s (s.issue u f cls fn body) u d v lat := by
  have hplace : (s.at_ u).SamePlace ((s.ctxOf u f cls fn).x.ws d v (s.cycleOf u + lat)) := .ws (s.ctxOf_samePlace u f cls fn) ..
  rw [issue_movesOn h hbody hplace]
  refine ⟨rfl, State.movedOn_only rfl hb _, ?_, State.movedOn_goesOn hplace, fun hd => ?_⟩
  · rw [State.at_movedOn]
    exact ⟨fun m => Thread.rs_ws (s.at_ u).atIssue .., fun m => Thread.rv_ws (s.at_ u).atIssue .., fun m => Thread.rp_ws (s.at_ u).atIssue ..⟩
  · rw [State.at_movedOn]
    simp [Thread.advance, Thread.readyAt, hd, Thread.ws]

/-- A clear instruction that writes one predicate register. -/
theorem predDone_of_body {d : Nat} {v : Bool} {lat : Nat} (h : s.clear u f cls fn = true)
    (hbody : body (s.ctxOf u f cls fn) = .done s (s.ctxOf u f cls fn).t ((s.ctxOf u f cls fn).x.wp d v (s.cycleOf u + lat)) none) :
    predDone s (s.issue u f cls fn body) u d v lat := by
  have hplace : (s.at_ u).SamePlace ((s.ctxOf u f cls fn).x.wp d v (s.cycleOf u + lat)) := .wp (s.ctxOf_samePlace u f cls fn) ..
  rw [issue_movesOn h hbody hplace]
  refine ⟨rfl, State.movedOn_only rfl ((s.booked_books u _).but []) _, ?_, State.movedOn_goesOn hplace, fun hd => ?_⟩
  · rw [State.at_movedOn]
    exact ⟨fun m => Thread.rs_wp (s.at_ u).atIssue .., fun m => Thread.rv_wp (s.at_ u).atIssue .., fun m => Thread.rp_wp (s.at_ u).atIssue ..⟩
  · rw [State.at_movedOn]
    simp [Thread.advance, Thread.readyAt, hd, Thread.wp]

/-- The flags that an instruction of the vector unit raises for its thread (R117). -/
theorem Ctx.flagged_books {a : Tile} {q : Ctx} (h : Booked a q.t) (fl : Nat) :
    BookedBut [13] a (q.flagged fl) ∧ (q.flagged fl).sys 13 = a.sys 13 ||| BitVec.ofNat 32 (fl % 16 * 2 ^ (4 * q.n)) := by
  have hsys := h.sys 13 (by decide) (by decide)
  unfold Ctx.flagged
  split
  next hnone =>
    refine ⟨h.but _, ?_⟩
    rw [hsys, hnone]
    simp
  next =>
    refine ⟨(h.but [13]).setSys (.inr (.inr (by decide))) _, ?_⟩
    rw [Tile.setFlags, Tile.sys_setSys, if_pos rfl, hsys]

/-- A clear instruction that writes one vector register and may raise flags `fl` of its core. -/
theorem vectorStep_of_core {s' : State} {b : Tile} {d : Nat} {v : VReg} {lat fl : Nat} (h : s.clear u f cls fn = true) (hs : s'.tiles = s.tiles)
    (hb : BookedBut [13] (s.tile u.tile.key) b) (hfl : b.sys 13 = (s.tile u.tile.key).sys 13 ||| BitVec.ofNat 32 (fl % 16 * 2 ^ (4 * u.thread.val)))
    (hbody : body (s.ctxOf u f cls fn) = .done s' b ((s.ctxOf u f cls fn).x.wv d v (s.cycleOf u + lat)) none) :
    vectorStep s (s.issue u f cls fn body) u d v lat fl := by
  have hplace : (s.at_ u).SamePlace ((s.ctxOf u f cls fn).x.wv d v (s.cycleOf u + lat)) := .wv (s.ctxOf_samePlace u f cls fn) ..
  rw [issue_movesOn h hbody hplace]
  refine ⟨State.movedOn_only hs hb _, ?_, State.movedOn_goesOn hplace, ?_, ?_⟩
  · rw [State.at_movedOn]
    exact ⟨fun _ => rfl, fun m => Thread.rv_wv (s.at_ u).atIssue d v (s.cycleOf u + lat) m, fun _ => rfl⟩
  · rw [State.at_movedOn]
    simp [Thread.advance, Thread.readyAt, Thread.wv]
  · rw [State.tile_movedOn]
    exact hfl

theorem vectorDone_of_core {b : Tile} {d : Nat} {v : VReg} {lat fl : Nat} (h : s.clear u f cls fn = true) (hb : BookedBut [13] (s.tile u.tile.key) b)
    (hfl : b.sys 13 = (s.tile u.tile.key).sys 13 ||| BitVec.ofNat 32 (fl % 16 * 2 ^ (4 * u.thread.val)))
    (hbody : body (s.ctxOf u f cls fn) = .done s b ((s.ctxOf u f cls fn).x.wv d v (s.cycleOf u + lat)) none) :
    vectorDone s (s.issue u f cls fn body) u d v lat fl := by
  refine ⟨?_, vectorStep_of_core h rfl hb hfl hbody⟩
  rw [issue_movesOn h hbody (.wv (s.ctxOf_samePlace u f cls fn) ..)]
  rfl

/-- An instruction of the vector unit that writes one vector register. -/
theorem vectorDone_of_body {d : Nat} {v : VReg} {lat fl : Nat} (h : s.clear u f cls fn = true)
    (hbody : body (s.ctxOf u f cls fn) =
      .done s ((s.ctxOf u f cls fn).flagged fl) ((s.ctxOf u f cls fn).x.wv d v (s.cycleOf u + lat)) none) :
    vectorDone s (s.issue u f cls fn body) u d v lat fl := by
  obtain ⟨hbooks, hflags⟩ := Ctx.flagged_books (q := s.ctxOf u f cls fn) (s.booked_books u _) fl
  exact vectorDone_of_core h hbooks hflags hbody

end

end Sys2Proof.Machine

namespace Sys2Proof.Machine

/-! ## The scalar ALU (R64, R65) -/

/-! ### Operations on words -/

theorem shiftCount_eq (b : DWord) : (b.extractLsb' 0 6).toNat = b.toNat % 64 := by
  rw [BitVec.extractLsb'_toNat, Nat.shiftRight_zero]

theorem mulHighU_eq (a b : DWord) : mulHighU a b = (a.setWidth 128 * b.setWidth 128).extractLsb' 64 64 := by
  have ha := a.isLt
  have hb := b.isLt
  have hprod : a.toNat * b.toNat < 2 ^ 64 * 2 ^ 64 := Nat.mul_lt_mul'' ha hb
  apply BitVec.eq_of_toNat_eq
  rw [mulHighU, BitVec.toNat_ofNat, BitVec.extractLsb'_toNat, Nat.shiftRight_eq_div_pow, BitVec.toNat_mul, BitVec.toNat_setWidth, BitVec.toNat_setWidth,
    Nat.mod_eq_of_lt (a := a.toNat) (by omega), Nat.mod_eq_of_lt (a := b.toNat) (by omega), Nat.mod_eq_of_lt (a := a.toNat * b.toNat) (by omega)]

theorem mulHighS_eq (a b : DWord) : mulHighS a b = (a.signExtend 128 * b.signExtend 128).extractLsb' 64 64 := by
  apply BitVec.eq_of_toNat_eq
  rw [BitVec.signExtend, BitVec.signExtend, ← BitVec.ofInt_mul, mulHighS, BitVec.toNat_ofInt, BitVec.extractLsb'_toNat, Nat.shiftRight_eq_div_pow,
    BitVec.toNat_ofInt]
  omega

/-- Where equal keys belong to equal values, a choice by `<` is the choice by `≤`. -/
theorem ite_lt_eq_ite_le {α β γ : Type} [LinearOrder β] {g : α → β} (hg : g.Injective) (c : α → α → γ) (a b : α) :
    (if g a < g b then c a b else c b a) = if g a ≤ g b then c a b else c b a := by
  rcases lt_trichotomy (g a) (g b) with h | h | h
  · rw [if_pos h, if_pos h.le]
  · rw [if_neg h.not_lt, if_pos h.le, hg h]
  · rw [if_neg h.not_gt, if_neg h.not_ge]

theorem minS_eq (a b : DWord) : (if a.slt b then a else b) = if a.toInt ≤ b.toInt then a else b := by
  simp only [BitVec.slt_iff_toInt_lt]
  exact ite_lt_eq_ite_le (fun _ _ => BitVec.eq_of_toInt_eq) (fun a _ => a) a b

theorem maxS_eq (a b : DWord) : (if a.slt b then b else a) = if a.toInt ≤ b.toInt then b else a := by
  simp only [BitVec.slt_iff_toInt_lt]
  exact ite_lt_eq_ite_le (fun _ _ => BitVec.eq_of_toInt_eq) (fun _ b => b) a b

theorem minU_eq (a b : DWord) : (if a.ult b then a else b) = if a.toNat ≤ b.toNat then a else b := by
  simp only [BitVec.ult_iff_toNat_lt]
  exact ite_lt_eq_ite_le (fun _ _ => BitVec.eq_of_toNat_eq) (fun a _ => a) a b

theorem maxU_eq (a b : DWord) : (if a.ult b then b else a) = if a.toNat ≤ b.toNat then b else a := by
  simp only [BitVec.ult_iff_toNat_lt]
  exact ite_lt_eq_ite_le (fun _ _ => BitVec.eq_of_toNat_eq) (fun _ b => b) a b

/-- The upper half from the immediate, the lower from the register. -/
theorem movhi_eq (a : DWord) (i : Word) : (i.setWidth 64 <<< 32) ||| (a &&& 0xFFFFFFFF) = (i ++ a.setWidth 32 : BitVec (32 + 32)) := by
  refine BitVec.eq_of_getLsbD_eq fun j hj => ?_
  have hmask : (0xFFFFFFFF : DWord).getLsbD j = decide (j < 32) := by
    rw [BitVec.getLsbD, show (0xFFFFFFFF : DWord).toNat = 2 ^ 32 - 1 from rfl, Nat.testBit_two_pow_sub_one]
  rw [BitVec.getLsbD_or, BitVec.getLsbD_and, hmask, BitVec.getLsbD_shiftLeft, BitVec.getLsbD_setWidth, BitVec.getLsbD_append, BitVec.getLsbD_setWidth]
  by_cases hlow : j < 32
  · simp [hlow]
  · have hhigh : j - 32 < 64 := by omega
    have hj64 : j < 64 := hj
    simp [hlow, hhigh, hj64]

section
variable {s : State} {u : Issue} {f : Fields} {fn lat : Nat}

/-! ### The forms -/

theorem scalarRR_done {op : DWord → DWord → DWord} {v : DWord} (hop : op ((s.at_ u).rs f.srca.toNat) ((s.at_ u).rs f.srcb.toNat) = v)
    (h : s.clear u f 0 fn = true) : ∃ t, (.next (scalarRR fn op lat u f s) : Answer) = .next t ∧ scalarDone s t u f.dest.toNat v lat := by
  subst hop
  exact ⟨_, rfl, scalarDone_of_body h rfl⟩

theorem scalarRI_done {op : DWord → Fields → DWord} {v : DWord} (hop : op ((s.at_ u).rs f.srca.toNat) f = v) (h : s.clear u f 0 fn = true) :
    ∃ t, (.next (scalarRI fn op lat u f s) : Answer) = .next t ∧ scalarDone s t u f.dest.toNat v lat := by
  subst hop
  exact ⟨_, rfl, scalarDone_of_body h rfl⟩

theorem compareRR_done {op : DWord → DWord → Bool} {b : Bool} (hop : op ((s.at_ u).rs f.srca.toNat) ((s.at_ u).rs f.srcb.toNat) = b)
    (h : s.clear u f 0 fn = true) : ∃ t, (.next (compareRR fn op u f s) : Answer) = .next t ∧ predDone s t u f.dest.toNat b 1 := by
  subst hop
  exact ⟨_, rfl, predDone_of_body h rfl⟩

theorem compareRI_done {op : DWord → DWord → Bool} {b : Bool} (hop : op ((s.at_ u).rs f.srca.toNat) (f.imm.signExtend 64) = b)
    (h : s.clear u f 0 fn = true) : ∃ t, (.next (compareRI fn op u f s) : Answer) = .next t ∧ predDone s t u f.dest.toNat b 1 := by
  subst hop
  exact ⟨_, rfl, predDone_of_body h rfl⟩

theorem logicPP_done {op : Bool → Bool → Bool} {b : Bool} (hop : op ((s.at_ u).rp f.srca.toNat) ((s.at_ u).rp f.srcb.toNat) = b)
    (h : s.clear u f 0 fn = true) : ∃ t, (.next (logicPP fn op u f s) : Answer) = .next t ∧ predDone s t u f.dest.toNat b 1 := by
  subst hop
  exact ⟨_, rfl, predDone_of_body h rfl⟩

theorem Fields.bits_zero (f : Fields) (hi : Nat) : f.bits hi 0 = f.imm.toNat % 2 ^ (hi + 1) := by
  rw [Fields.bits, fld, pow_zero, Nat.div_one, Nat.sub_zero]

/-- SEL (R64). -/
theorem sel_done (h : s.clear u f 0 0x0F = true) : ∃ t, exec (.sel u f) s = .next t ∧ scalarDone s t u f.dest.toNat
    (if (s.at_ u).rp (f.imm.toNat % 8) then (s.at_ u).rs f.srca.toNat else (s.at_ u).rs f.srcb.toNat) 1 := by
  rw [show f.imm.toNat % 8 = f.bits 2 0 from (Fields.bits_zero f 2).symm]
  exact ⟨_, rfl, scalarDone_of_body h rfl⟩

/-- A legal word has no immediate bit set that its function gives no meaning (R61). -/
theorem State.legal_imm {cls : Nat} {sp : OpSpec} (h : s.legal u f cls fn = true) (hsp : opSpec cls fn f = some sp) : f.imm &&& ~~~sp.imm = 0 := by
  simp only [State.legal, hsp, OpSpec.illegal, Bool.and_eq_true, Bool.not_eq_true', Bool.not_eq_false', beq_iff_eq] at h
  exact h.2.1.2

/-- A word without bits from bit `n` on. -/
theorem toNat_lt_of_mask {w m : Word} {n : Nat} (h : w &&& ~~~m = 0) (hm : m.toNat = 2 ^ n - 1) : w.toNat < 2 ^ n := by
  have hw := congrArg BitVec.toNat (and_mask_of_rest_zero h)
  rw [BitVec.toNat_and, hm, Nat.and_two_pow_sub_one_eq_mod] at hw
  rw [← hw]
  exact Nat.mod_lt _ (Nat.two_pow_pos n)

/-- The count of a shift by an immediate (R64). -/
theorem shiftImm_lt (h : s.clear u f 0 fn = true) (hfn : 0x13 < fn ∧ fn ≤ 0x16) : f.zext.toNat % 64 = f.imm.toNat := by
  have hsp : opSpec 0 fn f = some (specSSI 0x3F) := by
    change specScalar fn f = _
    unfold specScalar
    rw [if_neg (by omega), if_neg (by omega), if_neg (by omega), if_pos hfn.2]
  have hlt : f.imm.toNat < 64 := toNat_lt_of_mask (n := 6) (State.legal_imm (State.clear_legal h).1 hsp) rfl
  unfold Fields.zext
  rw [BitVec.toNat_setWidth]
  omega

end

/-- Settles O1: each function is one of the shared forms, with its operation spelled as the statement does. -/
theorem scalarAlu : Obligations.ScalarAlu := by
  unfold Obligations.ScalarAlu
  simp only [List.forall_mem_cons, List.not_mem_nil, false_imp_iff, implies_true, and_true]
  refine ⟨⟨⟨?_, ?_, ?_, ?_, ?_, ?_, ?_, ?_, ?_, ?_, ?_, ?_, ?_, ?_, ?_⟩, ?_⟩, ⟨⟨?_, ?_, ?_, ?_, ?_, ?_⟩, ?_, ?_, ?_⟩, ⟨?_, ?_, ?_⟩, ⟨?_, ?_, ?_⟩, ?_, ?_, ?_, ?_⟩
  iterate 5 exact fun u f s h => scalarRR_done rfl h
  iterate 3 exact fun u f s h => scalarRR_done (by rw [shiftCount_eq]; rfl) h
  · exact fun u f s h => scalarRR_done rfl h
  · exact fun u f s h => scalarRR_done (mulHighU_eq _ _) h
  · exact fun u f s h => scalarRR_done (mulHighS_eq _ _) h
  · exact fun u f s h => scalarRR_done (minS_eq _ _) h
  · exact fun u f s h => scalarRR_done (maxS_eq _ _) h
  · exact fun u f s h => scalarRR_done (minU_eq _ _) h
  · exact fun u f s h => scalarRR_done (maxU_eq _ _) h
  · exact fun u f s => sel_done
  iterate 5 exact fun u f s h => scalarRI_done rfl h
  · exact fun u f s h => scalarRI_done (movhi_eq _ _) h
  iterate 3 exact fun u f s h => scalarRI_done (by rw [← shiftImm_lt h (by decide)]; rfl) h
  iterate 3 exact fun u f s h => compareRR_done rfl h
  iterate 3 exact fun u f s h => compareRI_done rfl h
  iterate 4 exact fun u f s h => logicPP_done rfl h

end Sys2Proof.Machine

namespace Sys2Proof.Machine

/-! ## Loads and stores of the tile's own SRAM (R66 to R68, R247, R481, R482) -/

/-- The body of a load: the fault, or the thread `y` makes of the offset. -/
def Ctx.loadEffect (q : Ctx) (size : Nat) (y : Nat × Tile → Thread) : Effect :=
  match q.load q.ea size size with
  | .inl e => .fault e.1 e.2
  | .inr r => .done q.s r.2 (y r) none

/-- The body of a store of `bs`, `align` bytes aligned. -/
def Ctx.storeEffect (q : Ctx) (align : Nat) (bs : List Byte) : Effect :=
  match q.store q.s q.t q.ea align bs with
  | .inl e => .fault e.1 e.2
  | .inr r => .done r.1 r.2 q.x none

/-! ### Bytes of a tile -/

theorem Tile.byte_congr {a b : Tile} (h : b.sram = a.sram) (x : Nat) : b.byte x = a.byte x := by rw [Tile.byte, h, Tile.byte]

theorem Tile.bytes_congr {a b : Tile} (h : b.sram = a.sram) (off n : Nat) : b.bytes off n = a.bytes off n := by
  induction n generalizing off with
  | zero => rfl
  | succ n ih => rw [Tile.bytes, ih, Tile.byte_congr h, Tile.bytes]

@[simp] theorem length_leBytes (n v : Nat) : (leBytes n v).length = n := by
  induction n generalizing v with
  | zero => rfl
  | succ n ih => rw [leBytes, List.length_cons, ih]

theorem BookedBut.sram {sys : List Nat} {a b : Tile} (h : BookedBut sys a b) : b.sram = a.sram := (congrArg Tile.sram h.rest :)
theorem Booked.sramEcc {a b : Tile} (h : Booked a b) : b.sramEcc = a.sramEcc := (congrArg Tile.sramEcc h.rest :)

theorem Booked.badWord {a b : Tile} (h : Booked a b) (ws : List Nat) : b.badWord ws = a.badWord ws := by
  rw [Tile.badWord, h.sramEcc, Tile.badWord]

/-- The count of corrected words is in TIL_ECC_COUNT (R481). -/
theorem BookedBut.countFixes {sys : List Nat} {a b : Tile} (h : BookedBut sys a b) (ws : List Nat) : BookedBut sys a (b.countFixes ws) := by
  unfold Tile.countFixes
  split
  · exact h
  · exact h.setSys (.inr (.inl rfl)) _

theorem Tile.countFixes_sys13 (t : Tile) (ws : List Nat) : (t.countFixes ws).sys 13 = t.sys 13 := by
  unfold Tile.countFixes
  split
  · rfl
  · rw [Tile.sys_setSys, if_neg (by decide)]

/-! ### What a load or a store comes to -/

section
variable {q : Ctx} {size off : Nat} {w : Bool} {y : Nat × Tile → Thread} {bs : List Byte}

theorem Ctx.load_bad {code : Nat} (h : q.s.localAt q.k q.ea false = .bad code) : q.loadEffect size y = .fault code (q.ea % 2 ^ 20) := by
  simp only [Ctx.loadEffect, Ctx.load, h]

theorem Ctx.load_misaligned (h : q.s.localAt q.k q.ea false = .at_ off w) (ha : q.ea % size ≠ 0) : q.loadEffect size y = .fault 0x03 (q.ea % 2 ^ 20) := by
  simp only [Ctx.loadEffect, Ctx.load, h, if_pos ha]

theorem Ctx.load_uncorrectable {x : Nat} (h : q.s.localAt q.k q.ea false = .at_ off w) (ha : q.ea % size = 0)
    (hbad : q.t.badWord (wordsOf off size) = some x) : q.loadEffect size y = .fault 0x10 (8 * x) := by
  simp only [Ctx.loadEffect, Ctx.load, h, ha, ne_eq, not_true_eq_false, if_false, hbad]

theorem Ctx.load_good (h : q.s.localAt q.k q.ea false = .at_ off w) (ha : q.ea % size = 0) (hbad : q.t.badWord (wordsOf off size) = none) :
    q.loadEffect size y = .done q.s (q.t.countFixes (wordsOf off size)) (y (off, q.t.countFixes (wordsOf off size))) none := by
  simp only [Ctx.loadEffect, Ctx.load, h, ha, ne_eq, not_true_eq_false, if_false, hbad]

theorem Ctx.store_bad {code : Nat} (h : q.s.localAt q.k q.ea true = .bad code) : q.storeEffect size bs = .fault code (q.ea % 2 ^ 20) := by
  simp only [Ctx.storeEffect, Ctx.store, h]

theorem Ctx.store_misaligned (h : q.s.localAt q.k q.ea true = .at_ off w) (ha : q.ea % size ≠ 0) :
    q.storeEffect size bs = .fault 0x03 (q.ea % 2 ^ 20) := by
  simp only [Ctx.storeEffect, Ctx.store, h, if_pos ha]

theorem Ctx.store_uncorrectable {x : Nat} (h : q.s.localAt q.k q.ea true = .at_ off w) (ha : q.ea % size = 0) (hg : (w && q.s.tick.guard) = false)
    (hbad : q.t.badWord (partWords off bs.length) = some x) : q.storeEffect size bs = .fault 0x10 (8 * x) := by
  simp only [Ctx.storeEffect, Ctx.store, h, ha, ne_eq, not_true_eq_false, if_false, hg, Bool.false_eq_true, hbad]

/-- A store after the guard start through the write range is discarded (R247). -/
theorem Ctx.store_guarded (h : q.s.localAt q.k q.ea true = .at_ off w) (ha : q.ea % size = 0) (hg : (w && q.s.tick.guard) = true) :
    q.storeEffect size bs =
      .done (q.s.carryError q.k (((copyWin (q.s.carryWins (keyDie q.k)) off).map (fun w => w.1)).getD 0) 0x04) q.t q.x none := by
  simp only [Ctx.storeEffect, Ctx.store, h, ha, ne_eq, not_true_eq_false, if_false, hg, if_true]

/-- The core after a store of `bs` at offset `off`, through the write range or not. -/
def Tile.stores (t : Tile) (off : Nat) (bs : List Byte) (w : Bool) : Tile :=
  let t' := (t.countFixes (partWords off bs.length)).write off bs
  if w then { t' with granules := markGranules t'.granules off bs.length 64 } else t'

theorem Ctx.store_good (h : q.s.localAt q.k q.ea true = .at_ off w) (ha : q.ea % size = 0) (hg : (w && q.s.tick.guard) = false)
    (hbad : q.t.badWord (partWords off bs.length) = none) : q.storeEffect size bs = .done q.s (q.t.stores off bs w) q.x none := by
  simp only [Ctx.storeEffect, Ctx.store, h, ha, ne_eq, not_true_eq_false, if_false, hg, Bool.false_eq_true, hbad, Tile.stores]

theorem Tile.stores_byte (t : Tile) (off : Nat) (bs : List Byte) (w : Bool) (x : Nat) :
    (t.stores off bs w).byte x = if off ≤ x ∧ x < off + bs.length then bs.getD (x - off) 0 else t.byte x := by
  have hcount : ∀ ws, (t.countFixes ws).byte x = t.byte x := fun ws => by unfold Tile.countFixes; split <;> rfl
  have hwrite := Tile.byte_write (t.countFixes (partWords off bs.length)) off bs x
  rw [hcount] at hwrite
  unfold Tile.stores
  cases w
  · exact hwrite
  · exact hwrite

/-- A store leaves of a core all but its SRAM with check bits, its written granules and its counts. -/
theorem Tile.stores_rest {a b : Tile} (h : Booked a b) (off : Nat) (bs : List Byte) (w : Bool) :
    { b.stores off bs w with
      threads := a.threads, cycle := a.cycle, lastLoose := a.lastLoose, portFree := a.portFree, til := a.til, sram := a.sram, sramEcc := a.sramEcc,
      granules := a.granules } = a ∧ (b.stores off bs w).threads = a.threads ∧ ∀ i, i ≠ 11 → i ≠ 12 → (b.stores off bs w).sys i = a.sys i := by
  obtain ⟨hrest, hthreads, hsys⟩ := (h.but []).countFixes (partWords off bs.length)
  unfold Tile.stores
  generalize b.countFixes (partWords off bs.length) = c at hrest hthreads hsys
  have hput : { c with
      threads := a.threads, cycle := a.cycle, lastLoose := a.lastLoose, portFree := a.portFree, til := a.til, sram := a.sram, sramEcc := a.sramEcc,
      granules := a.granules } = a := (congrArg (fun t : Tile => { t with sram := a.sram, sramEcc := a.sramEcc, granules := a.granules }) hrest :)
  cases w
  · exact ⟨hput, hthreads, fun i h11 h12 => hsys i h11 h12 List.not_mem_nil⟩
  · exact ⟨hput, hthreads, fun i h11 h12 => hsys i h11 h12 List.not_mem_nil⟩

end

/-! ### A carry error (R242, R246, R247) -/

theorem State.carryWins_lt (s : State) (d : Nat) {w : Nat × Nat × Nat × Nat × Nat} (h : w ∈ s.carryWins d) : w.1 < 8 := by
  obtain ⟨i, hi, hw⟩ := List.mem_filterMap.1 h
  obtain ⟨x, -, rfl⟩ := Option.map_eq_some_iff.1 hw
  exact List.mem_range.1 hi

/-- The window that a carry error records is one of eight. -/
theorem State.copyWin_lt (s : State) (d off : Nat) : ((copyWin (s.carryWins d) off).map (fun w => w.1)).getD 0 < 8 := by
  cases h : copyWin (s.carryWins d) off with
  | none => decide
  | some w => exact s.carryWins_lt d (List.mem_of_find?_eq_some h)

theorem State.carryError_reg (s : State) (k window code : Nat) : (s.carryError k window code).reg (Reg.TIL_CARRY_ERR (keyDie k)) =
    if flag (s.reg (Reg.TIL_CARRY_ERR (keyDie k))) 31 then setFlag (s.reg (Reg.TIL_CARRY_ERR (keyDie k))) 30 true
    else BitVec.ofNat 32 (0x80000000 + keyRow k * 2 ^ 24 + keyCol k * 2 ^ 18 + window * 2 ^ 15 + code) := by
  unfold State.carryError
  extract_lets d a s1
  rw [State.reg, State.charge_regs, State.faultEvent_regs]
  change s1.reg a = _
  simp only [s1]
  split
  · exact (State.reg_setReg ..).trans (if_pos rfl)
  · exact (State.reg_setReg ..).trans (if_pos rfl)

/-- A carry error stands in TIL_CARRY_ERR; where none stood, its low byte is its code. -/
theorem State.carryError_shown (s : State) (k : Nat) {window code : Nat} (hwin : window < 8) (hcode : code < 256) :
    flag ((s.carryError k window code).reg (Reg.TIL_CARRY_ERR (keyDie k))) 31 = true ∧
      (flag (s.reg (Reg.TIL_CARRY_ERR (keyDie k))) 31 = false →
        ((s.carryError k window code).reg (Reg.TIL_CARRY_ERR (keyDie k))).toNat % 256 = code) := by
  have hrow : keyRow k < 64 := Nat.mod_lt _ (by decide)
  have hcol : keyCol k < 50 := Nat.mod_lt _ (by decide)
  rw [State.carryError_reg]
  split
  next hstands => exact ⟨(flag_setFlag_other _ _ (by decide) (by decide)).trans hstands, fun hnone => absurd hstands (by simp [hnone])⟩
  next =>
    refine ⟨?_, fun _ => ?_⟩
    · rw [flag, BitVec.getLsbD_ofNat, Nat.testBit_eq_decide_div_mod_eq, decide_eq_true (by decide : 31 < 32), Bool.true_and, decide_eq_true_eq]
      omega
    · rw [BitVec.toNat_ofNat]
      omega

/-- A carry error is charged as R54 says. -/
theorem State.carryError_charged {s : State} (h : s.ticking = true) (k window code : Nat) :
    (if s.tick.closed then (s.carryError k window code).tick.chargeNext else (s.carryError k window code).tick.charged) = true := by
  unfold State.carryError
  have hset : ∀ x : State, x.tick = s.tick → x.mode = s.mode →
      (if s.tick.closed then (x.faultEvent 2 (keyDie k) code).charge.tick.chargeNext else (x.faultEvent 2 (keyDie k) code).charge.tick.charged) = true := by
    intro x htick hmode
    have hx : (x.faultEvent 2 (keyDie k) code).ticking = true := by
      unfold State.ticking
      rwa [State.faultEvent_mode, hmode]
    have hcharge := State.charge_tick_of_ticking hx
    rw [State.faultEvent_tick, htick] at hcharge
    split at hcharge
    · next hclosed => rw [if_pos hclosed]; exact hcharge.1
    · next hopen => rw [if_neg hopen]; exact hcharge.1
  extract_lets d a s1
  refine hset s1 ?_ ?_
  · simp only [s1]
    split <;> exact State.setReg_tick ..
  · simp only [s1]
    split <;> exact State.setReg_mode ..

/-! ### The instructions -/

section
variable {s : State} {u : Issue} {f : Fields} {fn size off : Nat} {w : Bool}

/-- The effective address of R66, of the registers as the thread holds them. -/
def State.ea (s : State) (u : Issue) (f : Fields) : Nat := ((s.at_ u).rs f.srca.toNat + f.imm.signExtend 64).toNat

/-- A local load: what its body needs of the state. -/
theorem load_runs {y : Ctx → Nat × Tile → Thread} (hat : s.localAt u.tile.key (s.ea u f) false = .at_ off w) (ha : s.ea u f % size = 0)
    (hbad : (s.tile u.tile.key).badWord (wordsOf off size) = none) :
    let q := s.ctxOf u f 1 fn
    q.loadEffect size (y q) = .done s (q.t.countFixes (wordsOf off size)) (y q (off, q.t.countFixes (wordsOf off size))) none :=
  Ctx.load_good (q := s.ctxOf u f 1 fn) hat ha (((s.booked_books u _).badWord _).trans hbad)

theorem State.load_books (s : State) (u : Issue) (f : Fields) (sys : List Nat) (fn : Nat) (ws : List Nat) :
    BookedBut sys (s.tile u.tile.key) ((s.ctxOf u f 1 fn).t.countFixes ws) := ((s.booked_books u _).but sys).countFixes ws

/-- The bytes that a load's body takes are the tile's. -/
theorem State.ctxOf_bytes (s : State) (u : Issue) (f : Fields) (cls fn off n : Nat) :
    (s.ctxOf u f cls fn).t.bytes off n = (s.tile u.tile.key).bytes off n := Tile.bytes_congr (s.booked_books u _).fields.1 off n

/-- LDB to LDWS (R67). -/
theorem loadS_done {conv : Nat → DWord} (h : s.clear u f 1 fn = true) (hat : s.localAt u.tile.key (s.ea u f) false = .at_ off w)
    (ha : s.ea u f % size = 0) (hbad : (s.tile u.tile.key).badWord (wordsOf off size) = none) :
    ∃ t, (.next (loadS fn size conv u f s) : Answer) = .next t ∧
      scalarDone s t u f.dest.toNat (conv (leNat ((s.tile u.tile.key).bytes off size))) (if off < 0x40000 then 2 else 6) := by
  rw [← s.ctxOf_bytes u f 1 fn off size]
  exact ⟨_, rfl, scalarDone_of_core h (s.load_books u f [] fn _) (load_runs (y := fun q r =>
    q.x.ws q.f.dest.toNat (conv (leNat (q.t.bytes r.1 size))) (q.c + loadLatency r.1)) hat ha hbad)⟩

/-- VLD (R67). -/
theorem vld_done (h : s.clear u f 1 0x10 = true) (hat : s.localAt u.tile.key (s.ea u f) false = .at_ off w) (ha : s.ea u f % 64 = 0)
    (hbad : (s.tile u.tile.key).badWord (wordsOf off 64) = none) :
    ∃ t, exec (.vld u f) s = .next t ∧
      vectorDone s t u f.dest.toNat (ofBytes ((s.tile u.tile.key).bytes off 64)) (if off < 0x40000 then 2 else 6) 0 := by
  rw [← s.ctxOf_bytes u f 1 0x10 off 64]
  refine ⟨_, rfl, vectorDone_of_core h (s.load_books u f [13] 0x10 _) ?_ (load_runs (y := fun q r =>
    q.x.wv q.f.dest.toNat (ofBytes (q.t.bytes r.1 64)) (q.c + loadLatency r.1)) hat ha hbad)⟩
  rw [Tile.countFixes_sys13]
  exact ((s.booked_books u _).sys 13 (by decide) (by decide)).trans (by simp)

/-- STB to VST of `bs` where the store may be made: those bytes stand at their offset (R67, R481). -/
theorem store_done {body : Ctx → Effect} {bs : List Byte} (h : s.clear u f 1 fn = true) (hat : s.localAt u.tile.key (s.ea u f) true = .at_ off w)
    (ha : s.ea u f % size = 0) (hg : (w && s.tick.guard) = false) (hbad : (s.tile u.tile.key).badWord (partWords off bs.length) = none)
    (hbody : body (s.ctxOf u f 1 fn) = (s.ctxOf u f 1 fn).storeEffect size bs) : storeDone s (s.issue u f 1 fn body) u off bs := by
  have hbooked := s.booked_books u (opPort 1 fn f)
  have hgood := hbody.trans (Ctx.store_good hat ha hg ((hbooked.badWord _).trans hbad))
  have hplace := s.ctxOf_samePlace u f 1 fn
  obtain ⟨hrest, hthreads, hsys⟩ := Tile.stores_rest hbooked off bs w
  rw [issue_movesOn h hgood hplace]
  refine ⟨rfl, State.movedOn_others rfl _ _ _, fun m hm => ?_, fun i h11 h12 => ?_, ?_, fun x => ?_, State.movedOn_registers ⟨rfl, rfl, rfl⟩,
    State.movedOn_goesOn hplace⟩
  · rw [State.tile_movedOn, Tile.thread_setThread, if_neg hm, Tile.thread, Tile.thread]
    exact congrArg (fun l => SMap.get _ l m) hthreads
  · rw [State.tile_movedOn]
    exact hsys i h11 h12
  · rw [State.tile_movedOn]
    exact hrest
  · rw [State.tile_movedOn, Tile.byte_setThread, ← Tile.byte_congr hbooked.fields.1]
    exact Tile.stores_byte ..

/-- A store after the guard start through the write range: nothing is stored, and the carry error 0x04 stands (R247). -/
theorem store_discarded {body : Ctx → Effect} {bs : List Byte} (h : s.clear u f 1 fn = true) (hat : s.localAt u.tile.key (s.ea u f) true = .at_ off w)
    (ha : s.ea u f % size = 0) (hg : (w && s.tick.guard) = true) (hbody : body (s.ctxOf u f 1 fn) = (s.ctxOf u f 1 fn).storeEffect size bs) :
    let t := s.issue u f 1 fn body
    let a := Reg.TIL_CARRY_ERR (keyDie u.tile.key)
    (∀ k x, (t.tile k).byte x = (s.tile k).byte x) ∧ sameRegisters (s.at_ u) (t.at_ u) ∧ goesOn (s.at_ u) (t.at_ u) ∧ flag (t.reg a) 31 = true ∧
      (flag (s.reg a) 31 = false → (t.reg a).toNat % 256 = 4) ∧ (if s.tick.closed then t.tick.chargeNext else t.tick.charged) = true := by
  have hplace := s.ctxOf_samePlace u f 1 fn
  have hticking := (State.fetched_running (State.legal_fetched (State.clear_legal h).1)).1
  obtain ⟨hstands, hcode⟩ := s.carryError_shown u.tile.key (s.copyWin_lt (keyDie u.tile.key) off) (show 0x04 < 256 by decide)
  dsimp only
  rw [issue_movesOn h (hbody.trans (Ctx.store_guarded hat ha hg)) hplace]
  refine ⟨fun k x => ?_, State.movedOn_registers ⟨rfl, rfl, rfl⟩, State.movedOn_goesOn hplace, hstands, hcode, State.carryError_charged hticking ..⟩
  by_cases hk : k = u.tile.key
  · rw [hk, State.tile_movedOn, Tile.byte_setThread]
    exact Tile.byte_congr (s.booked_books u _).fields.1 x
  · exact congrArg (Tile.byte · x) (State.movedOn_others (State.carryError_tiles ..) _ _ _ k hk)

/-- What O3 says of the store of `bytes` of its register. -/
theorem store_outcomes {bytes : Thread → Nat → List Byte} (hlength : ∀ x n, (bytes x n).length = size) {i : Issue → Fields → Instr}
    (hexec : ∀ s, exec (i u f) s = .next (s.issue u f 1 fn (fun q => q.storeEffect size (bytes q.x q.f.srcb.toNat))))
    (hbytes : bytes (s.at_ u).atIssue = bytes (s.at_ u)) (h : s.clear u f 1 fn = true)
    (hat : s.localAt u.tile.key (s.ea u f) true = .at_ off w) (ha : s.ea u f % size = 0) :
    ((w && s.tick.guard) = false → (s.tile u.tile.key).badWord (partWords off size) = none →
      ∃ t, exec (i u f) s = .next t ∧ storeDone s t u off (bytes (s.at_ u) f.srcb.toNat)) ∧
    ((w && s.tick.guard) = true →
      ∃ t, exec (i u f) s = .next t ∧ (∀ k x, (t.tile k).byte x = (s.tile k).byte x) ∧ sameRegisters (s.at_ u) (t.at_ u) ∧
        goesOn (s.at_ u) (t.at_ u) ∧ flag (t.reg (Reg.TIL_CARRY_ERR (keyDie u.tile.key))) 31 = true ∧
        (flag (s.reg (Reg.TIL_CARRY_ERR (keyDie u.tile.key))) 31 = false → (t.reg (Reg.TIL_CARRY_ERR (keyDie u.tile.key))).toNat % 256 = 4) ∧
        (if s.tick.closed then t.tick.chargeNext else t.tick.charged) = true) := by
  refine ⟨fun hg hbad => ⟨_, hexec s, ?_⟩, fun hg => ⟨_, hexec s, store_discarded h hat ha hg rfl⟩⟩
  rw [← hbytes]
  exact store_done h hat ha hg (by rw [hlength]; exact hbad) rfl

/-! ### Faults of local accesses (R482) -/

/-- The address of a fault is recorded by its offset in the tile. -/
theorem faultDone_offset {t : State} {code addr : Nat} (h : faultDone s t u code (addr % 2 ^ 20)) : faultDone s t u code addr := by
  unfold faultDone at h ⊢
  rwa [Nat.mod_mod] at h

/-- What O4 says of a load. -/
theorem load_faults {i : Issue → Fields → Instr} {y : Ctx → Nat × Tile → Thread}
    (hexec : ∀ s, exec (i u f) s = .next (s.issue u f 1 fn (fun q => q.loadEffect size (y q)))) (h : s.legal u f 1 fn = true) :
    (∀ code, s.localAt u.tile.key (s.ea u f) false = .bad code → ∃ t, exec (i u f) s = .next t ∧ faultDone s t u code (s.ea u f)) ∧
    (∀ off w, s.localAt u.tile.key (s.ea u f) false = .at_ off w → s.ea u f % size ≠ 0 →
      ∃ t, exec (i u f) s = .next t ∧ faultDone s t u 0x03 (s.ea u f)) ∧
    (∀ off w x, s.localAt u.tile.key (s.ea u f) false = .at_ off w → s.ea u f % size = 0 →
      (s.tile u.tile.key).badWord (wordsOf off size) = some x → ∃ t, exec (i u f) s = .next t ∧ faultDone s t u 0x10 (8 * x)) :=
  ⟨fun _ hbad => ⟨_, hexec s, faultDone_offset (faultDone_of_body h (Ctx.load_bad (q := s.ctxOf u f 1 fn) hbad))⟩,
    fun _ _ hat ha => ⟨_, hexec s, faultDone_offset (faultDone_of_body h (Ctx.load_misaligned (q := s.ctxOf u f 1 fn) hat ha))⟩,
    fun _ _ _ hat ha hbad => ⟨_, hexec s, faultDone_of_body h
      (Ctx.load_uncorrectable (q := s.ctxOf u f 1 fn) hat ha (((s.booked_books u _).badWord _).trans hbad))⟩⟩

/-- What O4 says of a store. -/
theorem store_faults {i : Issue → Fields → Instr} {bytes : Ctx → List Byte} (hlength : ∀ q, (bytes q).length = size)
    (hexec : ∀ s, exec (i u f) s = .next (s.issue u f 1 fn (fun q => q.storeEffect size (bytes q)))) (h : s.legal u f 1 fn = true) :
    (∀ code, s.localAt u.tile.key (s.ea u f) true = .bad code → ∃ t, exec (i u f) s = .next t ∧ faultDone s t u code (s.ea u f)) ∧
    (∀ off w, s.localAt u.tile.key (s.ea u f) true = .at_ off w → s.ea u f % size ≠ 0 →
      ∃ t, exec (i u f) s = .next t ∧ faultDone s t u 0x03 (s.ea u f)) ∧
    (∀ off w x, s.localAt u.tile.key (s.ea u f) true = .at_ off w → s.ea u f % size = 0 → (w && s.tick.guard) = false →
      (s.tile u.tile.key).badWord (partWords off size) = some x → ∃ t, exec (i u f) s = .next t ∧ faultDone s t u 0x10 (8 * x)) := by
  refine ⟨fun _ hbad => ⟨_, hexec s, faultDone_offset (faultDone_of_body h (Ctx.store_bad (q := s.ctxOf u f 1 fn) hbad))⟩,
    fun _ _ hat ha => ⟨_, hexec s, faultDone_offset (faultDone_of_body h (Ctx.store_misaligned (q := s.ctxOf u f 1 fn) hat ha))⟩,
    fun off _ x hat ha hg hbad => ⟨_, hexec s, faultDone_of_body h (Ctx.store_uncorrectable (q := s.ctxOf u f 1 fn) hat ha hg ?_)⟩⟩
  rw [hlength]
  exact ((s.booked_books u _).badWord _).trans hbad

end

/-- Settles O2: `loadS_done` for each width and sign, `vld_done`. -/
theorem localLoads : Obligations.LocalLoads := by
  unfold Obligations.LocalLoads
  simp only [List.forall_mem_cons, List.not_mem_nil, false_imp_iff, implies_true, and_true]
  refine ⟨⟨?_, ?_, ?_, ?_, ?_, ?_, ?_⟩, fun u f s off w => vld_done⟩
  all_goals exact fun u f s off w => loadS_done

/-- Settles O3: `store_outcomes` for each width. -/
theorem localStores : Obligations.LocalStores := by
  unfold Obligations.LocalStores
  simp only [List.forall_mem_cons, List.not_mem_nil, false_imp_iff, implies_true, and_true]
  refine ⟨?_, ?_, ?_, ?_, ?_⟩
  · exact fun u f s off w => store_outcomes (bytes := fun x n => leBytes 1 (x.rs n).toNat) (fun _ _ => length_leBytes ..) (fun _ => rfl) rfl
  · exact fun u f s off w => store_outcomes (bytes := fun x n => leBytes 2 (x.rs n).toNat) (fun _ _ => length_leBytes ..) (fun _ => rfl) rfl
  · exact fun u f s off w => store_outcomes (bytes := fun x n => leBytes 4 (x.rs n).toNat) (fun _ _ => length_leBytes ..) (fun _ => rfl) rfl
  · exact fun u f s off w => store_outcomes (bytes := fun x n => leBytes 8 (x.rs n).toNat) (fun _ _ => length_leBytes ..) (fun _ => rfl) rfl
  · exact fun u f s off w => store_outcomes (bytes := fun x n => leBytes 64 (x.rv n).toNat) (fun _ _ => length_leBytes ..) (fun _ => rfl) rfl

/-- Settles O4: `load_faults` for the eight loads, `store_faults` for the five stores. -/
theorem localFaults : Obligations.LocalFaults := by
  unfold Obligations.LocalFaults
  simp only [List.forall_mem_cons, List.not_mem_nil, false_imp_iff, implies_true, and_true, Bool.false_and, Bool.true_and, Bool.false_eq_true, if_false,
    if_true, forall_const]
  refine ⟨?_, ?_, ?_, ?_, ?_, ?_, ?_, ?_, ?_, ?_, ?_, ?_, ?_⟩
  iterate 8 exact fun u f s => load_faults fun _ => rfl
  iterate 5 exact fun u f s => store_faults (fun _ => length_leBytes ..) fun _ => rfl

end Sys2Proof.Machine

namespace Sys2Proof.Machine

/-! ## Branches, calls and hardware loops (R69, R70) -/

section
variable {s : State} {u : Issue} {f : Fields} {fn : Nat} {body : Ctx → Effect}

/-- Bits [31:lo] of an immediate. -/
theorem Fields.bits_top (f : Fields) {lo : Nat} (h : lo ≤ 31) : f.bits 31 lo = f.imm.toNat / 2 ^ lo := by
  rw [Fields.bits, fld]
  refine Nat.mod_eq_of_lt (Nat.div_lt_of_lt_mul ?_)
  rw [← pow_add, show lo + (31 - lo + 1) = 32 by omega]
  exact f.imm.isLt

theorem Fields.bits_target (f : Fields) : f.bits 11 0 = f.imm.toNat % 4096 := Fields.bits_zero f 11

/-- A thread does not issue before its own next cycle. -/
theorem State.next_le_cycleOf (s : State) (u : Issue) : (s.at_ u).next ≤ s.cycleOf u := by
  refine Nat.le_trans ?_ (Nat.le_max_left _ _)
  unfold Thread.release
  split
  · exact Nat.le_max_left _ _
  · exact Nat.le_refl _

/-- A control instruction does not stand at the end of a loop level that is open (R70). -/
theorem State.control_notAtEnd (h : s.legal u f 2 fn = true) {l : LoopLevel} (hl : l ∈ (s.at_ u).loops) : l.stop ≠ (s.at_ u).pc := by
  obtain ⟨-, -, -, -, -, -, -, hend⟩ := fetched_parts (State.legal_fetched h)
  intro heq
  have hany : (s.at_ u).loops.any (fun l => l.stop == (s.at_ u).pc) = true := List.any_eq_true.2 ⟨l, hl, beq_iff_eq.2 heq⟩
  simp [hany] at hend

theorem loopEnd_of_ne {ls : List LoopLevel} {i : Nat} (h : ∀ l ∈ ls, l.stop ≠ i) : loopEnd ls i = (ls, i + 1) := by
  cases ls with
  | nil => rfl
  | cons l ls => exact if_neg (h l List.mem_cons_self).symm

/-- A legal instruction whose body leaves thread `y`, which then stands within the program store, with target `target`. -/
theorem issue_places {cls : Nat} {y : Thread} {target : Option Nat} (h : s.legal u f cls fn = true)
    (hbody : body (s.ctxOf u f cls fn) = .done s (s.ctxOf u f cls fn).t y target) (hpc : (y.advance (s.cycleOf u) target).pc ≤ 4095) :
    let t := s.issue u f cls fn body
    sameBesideTiles s t ∧ onlyThread s t u [] ∧ t.at_ u = y.advance (s.cycleOf u) target := by
  have hissue : s.issue u f cls fn body = s.placed s u (opPort cls fn f) (y.advance (s.cycleOf u) target) :=
    (issue_of_body h hbody).trans (State.finish_eq fun _ => hpc)
  dsimp only
  rw [hissue]
  exact ⟨rfl, State.placed_only rfl _ _⟩

/-- BR, BRR and CALL: a taken branch, with the link register where one is written. -/
theorem branch_done {d tgt : Nat} {v : DWord} (h : s.legal u f 2 fn = true) (htgt : tgt < 4096)
    (hbody : body (s.ctxOf u f 2 fn) = .done s (s.ctxOf u f 2 fn).t ((s.ctxOf u f 2 fn).x.ws d v (s.cycleOf u + 1)) (some tgt)) :
    let t := s.issue u f 2 fn body
    sameBesideTiles s t ∧ onlyThread s t u [] ∧ wroteScalar (s.at_ u) (t.at_ u) d v ∧ (t.at_ u).pc = tgt ∧ (t.at_ u).loops = (s.at_ u).loops ∧
      (t.at_ u).state = (s.at_ u).state ∧ (t.at_ u).next = s.cycleOf u + 2 ∧ (fn = 0x02 → d ≠ 0 → (t.at_ u).readyAt (.s d) = s.cycleOf u + 1) := by
  have hplace : (s.at_ u).SamePlace ((s.ctxOf u f 2 fn).x.ws d v (s.cycleOf u + 1)) := .ws (s.ctxOf_samePlace u f 2 fn) ..
  have hnext : ((s.ctxOf u f 2 fn).x.ws d v (s.cycleOf u + 1)).next = (s.at_ u).next := by unfold Thread.ws; split <;> rfl
  obtain ⟨hbeside, honly, hat⟩ := issue_places h hbody (Nat.le_of_lt_succ htgt)
  have hle := s.next_le_cycleOf u
  refine ⟨hbeside, honly, ?_⟩
  rw [hat]
  refine ⟨⟨fun m => Thread.rs_ws (s.at_ u).atIssue .., fun m => Thread.rv_ws (s.at_ u).atIssue .., fun m => Thread.rp_ws (s.at_ u).atIssue ..⟩, rfl,
    hplace.loops, hplace.state, ?_, fun _ hd => ?_⟩
  · simp only [Thread.advance, hnext]
    omega
  · simp [Thread.advance, Thread.readyAt, hd, Thread.ws]

/-! ### Loops -/

/-- The thread that a loop instruction leaves with one more level open. -/
def Thread.openLevel (x : Thread) (count stop : Nat) : Thread := { x with loops := { count := count, start := x.pc + 1, stop := stop } :: x.loops }

section
variable {q : Ctx} {count stop : Nat}

theorem openLoop_opens (hlevels : q.x.loops.length < 2) (hstop : q.x.pc + 1 ≤ stop) (hcount : count ≠ 0) :
    openLoop q count stop = .done q.s q.t (q.x.openLevel count stop) none := by
  unfold openLoop
  rw [if_neg (by omega), if_neg (by omega), if_neg hcount]
  rfl

theorem openLoop_skips (hlevels : q.x.loops.length < 2) (hstop : q.x.pc + 1 ≤ stop) : openLoop q 0 stop = .done q.s q.t q.x (some (stop + 1)) := by
  unfold openLoop
  rw [if_neg (by omega), if_neg (by omega), if_pos rfl]

theorem openLoop_faults (h : 2 ≤ q.x.loops.length ∨ stop < q.x.pc + 1) : openLoop q count stop = .fault 0x01 0 := by
  unfold openLoop
  by_cases hlevels : 2 ≤ q.x.loops.length
  · rw [if_pos hlevels]
  · rw [if_neg hlevels, if_pos (h.resolve_left hlevels)]

end

/-- LOOP and LOOPR with a level to open, by their body `openLoop`. -/
theorem loop_done {count : Nat} {i : Issue → Fields → Instr} (hexec : exec (i u f) s = .next (s.issue u f 2 fn body))
    (hbody : body (s.ctxOf u f 2 fn) = openLoop (s.ctxOf u f 2 fn) count (f.imm.toNat % 4096)) (h : s.legal u f 2 fn = true)
    (hlevels : (s.at_ u).loops.length < 2) (hstop : (s.at_ u).pc + 1 ≤ f.imm.toNat % 4096) :
    (count ≠ 0 → ∃ t, exec (i u f) s = .next t ∧ sameBesideTiles s t ∧ onlyThread s t u [] ∧ sameRegisters (s.at_ u) (t.at_ u) ∧
      (t.at_ u).pc = (s.at_ u).pc + 1 ∧
      (t.at_ u).loops = { count := count, start := (s.at_ u).pc + 1, stop := f.imm.toNat % 4096 } :: (s.at_ u).loops) ∧
    (count = 0 → f.imm.toNat % 4096 < 4095 → ∃ t, exec (i u f) s = .next t ∧ sameBesideTiles s t ∧ onlyThread s t u [] ∧
      sameRegisters (s.at_ u) (t.at_ u) ∧ (t.at_ u).pc = f.imm.toNat % 4096 + 1 ∧ (t.at_ u).loops = (s.at_ u).loops) := by
  refine ⟨fun hcount => ⟨_, hexec, ?_⟩, fun hcount hlast => ⟨_, hexec, ?_⟩⟩
  · have hadvance : loopEnd ((s.at_ u).openLevel count (f.imm.toNat % 4096)).loops (s.at_ u).pc =
        (((s.at_ u).openLevel count (f.imm.toNat % 4096)).loops, (s.at_ u).pc + 1) := if_neg (by dsimp only; omega)
    obtain ⟨hbeside, honly, hat⟩ := issue_places h (hbody.trans (openLoop_opens (q := s.ctxOf u f 2 fn) hlevels hstop hcount))
      (Eq.trans_le (congrArg Prod.snd hadvance) (by omega))
    refine ⟨hbeside, honly, ?_⟩
    rw [hat]
    exact ⟨⟨rfl, rfl, rfl⟩, congrArg Prod.snd hadvance, congrArg Prod.fst hadvance⟩
  · subst hcount
    obtain ⟨hbeside, honly, hat⟩ := issue_places h (hbody.trans (openLoop_skips (q := s.ctxOf u f 2 fn) hlevels hstop)) (Nat.succ_le_of_lt hlast)
    refine ⟨hbeside, honly, ?_⟩
    rw [hat]
    exact ⟨⟨rfl, rfl, rfl⟩, rfl, rfl⟩

/-- LPOP closes the innermost level; the instruction is at the end of none (R69). -/
theorem lpop_done (h : s.legal u f 2 0x0A = true) (hpc : (s.at_ u).pc < 4095) :
    ∃ t, exec (.lpop u f) s = .next t ∧ sameBesideTiles s t ∧ onlyThread s t u [] ∧ sameRegisters (s.at_ u) (t.at_ u) ∧
      (t.at_ u).pc = (s.at_ u).pc + 1 ∧ (t.at_ u).loops = (s.at_ u).loops.tail := by
  have hadvance : loopEnd (s.at_ u).loops.tail (s.at_ u).pc = ((s.at_ u).loops.tail, (s.at_ u).pc + 1) :=
    loopEnd_of_ne fun l hl => State.control_notAtEnd h (List.mem_of_mem_tail hl)
  obtain ⟨hbeside, honly, hat⟩ := issue_places (y := { (s.at_ u).atIssue with loops := (s.at_ u).loops.tail }) (target := none)
    (body := fun q => .done q.s q.t { q.x with loops := q.x.loops.tail } none) h rfl (Eq.trans_le (congrArg Prod.snd hadvance) hpc)
  refine ⟨_, rfl, hbeside, honly, ?_⟩
  rw [hat]
  exact ⟨⟨rfl, rfl, rfl⟩, congrArg Prod.snd hadvance, congrArg Prod.fst hadvance⟩

/-- The end tests of R70, level by level. -/
theorem loopEnd_cases (l : LoopLevel) (ls : List LoopLevel) (i : Nat) :
    (i ≠ l.stop → loopEnd (l :: ls) i = (l :: ls, i + 1)) ∧
    (i = l.stop → 2 ≤ l.count → loopEnd (l :: ls) i = ({ l with count := l.count - 1 } :: ls, l.start)) ∧
    (i = l.stop → l.count = 1 → loopEnd (l :: ls) i = loopEnd ls i) ∧ loopEnd [] i = ([], i + 1) := by
  refine ⟨fun hne => if_neg hne, fun heq hcount => ?_, fun heq hcount => ?_, rfl⟩
  · rw [loopEnd, if_pos heq, if_pos (by omega)]
  · rw [loopEnd, if_pos heq, if_neg (by omega)]

end

/-- Settles O5: branches by `branch_done`, loops by `loop_done`, each ILLEGAL by the body's first test that fails. -/
theorem controlFlow : Obligations.ControlFlow := by
  refine ⟨fun u f s => ⟨fun i fn d v tgt hi h => ?_, fun i fn count hi h hlevels hstop => ?_, lpop_done, fun i fn hi h => ?_⟩, loopEnd_cases⟩
  · rcases hi with ⟨rfl, rfl, rfl, rfl, rfl⟩ | ⟨rfl, rfl, rfl, rfl, rfl, htgt⟩ | ⟨rfl, rfl, rfl, rfl, rfl⟩
    · refine ⟨_, rfl, branch_done (d := 0) (v := 0) h (Nat.mod_lt _ (by decide)) ?_⟩
      rw [← Fields.bits_target f]
      rfl
    · exact ⟨_, rfl, branch_done (d := 0) (v := 0) h htgt (if_neg (Nat.not_le.2 htgt))⟩
    · refine ⟨_, rfl, branch_done h (Nat.mod_lt _ (by decide)) ?_⟩
      rw [← Fields.bits_target f]
      rfl
  · rcases hi with ⟨rfl, rfl, rfl⟩ | ⟨rfl, rfl, rfl, hcount⟩
    · refine loop_done rfl ?_ h hlevels hstop
      rw [← Fields.bits_target f, show f.imm.toNat / 4096 = f.bits 31 12 from (Fields.bits_top f (lo := 12) (by decide)).symm]
      rfl
    · refine loop_done rfl ((if_neg (Nat.not_le.2 hcount)).trans ?_) h hlevels hstop
      rw [← Fields.bits_target f]
      rfl
  · rcases hi with ⟨rfl, rfl, hfar⟩ | ⟨rfl, rfl, hcount⟩ | ⟨⟨rfl, rfl⟩ | ⟨rfl, rfl⟩, hbad⟩
    · exact ⟨_, rfl, faultDone_of_body h (if_pos hfar)⟩
    · exact ⟨_, rfl, faultDone_of_body h (if_pos hcount)⟩
    · rw [← Fields.bits_target f] at hbad
      exact ⟨_, rfl, faultDone_of_body h (openLoop_faults hbad)⟩
    · rw [← Fields.bits_target f] at hbad
      by_cases hcount : 2 ^ 20 ≤ ((s.at_ u).rs f.srca.toNat).toNat
      · exact ⟨_, rfl, faultDone_of_body h (if_pos hcount)⟩
      · exact ⟨_, rfl, faultDone_of_body h ((if_neg hcount).trans (openLoop_faults hbad))⟩

end Sys2Proof.Machine

namespace Sys2Proof.Machine

/-! ## Parts of a wide register (R63) -/

/-- A part of a number that lies below a cut is not touched by the cut. -/
theorem mod_div_mod_of_le {n a b c : Nat} (h : b + c ≤ a) : n % 2 ^ a / 2 ^ b % 2 ^ c = n / 2 ^ b % 2 ^ c := by
  refine Nat.eq_of_testBit_eq fun i => ?_
  simp only [Nat.testBit_mod_two_pow, Nat.testBit_div_two_pow]
  by_cases hi : i < c
  · rw [decide_eq_true (show i + b < a by omega), Bool.true_and]
  · simp [hi]

/-- What stands at place `i` of packed parts. -/
theorem packNat_part (w : Nat) (xs : List Nat) (i : Nat) : packNat w xs / 2 ^ (w * i) % 2 ^ w = xs.getD i 0 % 2 ^ w := by
  induction xs generalizing i with
  | nil => simp [packNat]
  | cons x xs ih =>
    cases i with
    | zero => simp [packNat]
    | succ i =>
      have hlow : (x % 2 ^ w + 2 ^ w * packNat w xs) / 2 ^ w = packNat w xs := by
        rw [Nat.add_mul_div_left _ _ (Nat.two_pow_pos w), Nat.div_eq_of_lt (Nat.mod_lt _ (Nat.two_pow_pos w)), Nat.zero_add]
      rw [packNat, Nat.mul_succ, Nat.add_comm (w * i) w, pow_add, ← Nat.div_div_eq_div_mul, hlow, ih, List.getD_cons_succ]

/-- What stands at place `i` of a register packed from parts. -/
theorem part_ofNat_packNat {n w : Nat} (xs : List Nat) {i : Nat} (h : w * i + w ≤ n) :
    (BitVec.ofNat n (packNat w xs)).toNat / 2 ^ (w * i) % 2 ^ w = xs.getD i 0 % 2 ^ w := by
  rw [BitVec.toNat_ofNat, mod_div_mod_of_le h, packNat_part]

theorem lane_eq_extract (v : VReg) (i : Nat) : lane v i = v.extractLsb' (32 * i) 32 := by
  rw [lane, BitVec.extractLsb', Nat.shiftRight_eq_div_pow]

theorem toNat_lane (v : VReg) (i : Nat) : (lane v i).toNat = v.toNat / 2 ^ (32 * i) % 2 ^ 32 := BitVec.toNat_ofNat ..

theorem lane_ofLanes (ws : List Word) {i : Nat} (h : i < 16) : lane (ofLanes ws) i = ws.getD i 0 := by
  have hdefault : (ws.map BitVec.toNat).getD i 0 = (ws.getD i 0).toNat := by
    rw [List.getD_eq_getElem?_getD, List.getD_eq_getElem?_getD, List.getElem?_map]
    cases ws[i]? <;> rfl
  apply BitVec.eq_of_toNat_eq
  rw [toNat_lane, ofLanes, part_ofNat_packNat _ (by omega), hdefault]
  exact Nat.mod_eq_of_lt (ws.getD i 0).isLt

/-- A register given by its lanes. -/
def ofLaneFn (g : Nat → Word) : VReg := ofLanes ((List.range 16).map g)

theorem lane_ofLaneFn (g : Nat → Word) {i : Nat} (h : i < 16) : lane (ofLaneFn g) i = g i := by
  rw [ofLaneFn, lane_ofLanes _ h, List.getD_eq_getElem?_getD, List.getElem?_map, List.getElem?_range h]
  rfl

theorem map_lanes {α : Type} (g : Word → α) (a : VReg) : (lanes a).map g = (List.range 16).map (fun i => g (lane a i)) := by
  rw [lanes, List.map_map]
  rfl

theorem zipWith_lanes {α : Type} (op : Word → Word → α) (a b : VReg) :
    List.zipWith op (lanes a) (lanes b) = (List.range 16).map (fun i => op (lane a i) (lane b i)) := by
  rw [lanes, lanes, List.zipWith_map, List.zipWith_self]

theorem allFlags_eq (rs : List (Word × Nat)) : allFlags rs = (rs.map (fun r => r.2)).foldr (fun a b => a ||| b) 0 := by
  induction rs with
  | nil => rfl
  | cons r rs ih => rw [allFlags, ih]; rfl

theorem allFlags_range (g : Nat → Word × Nat) : allFlags ((List.range 16).map g) = laneFlags (fun i => (g i).2) := by
  rw [allFlags_eq, List.map_map]
  rfl

/-! ## Lane by lane (R71) -/

section
variable {s : State} {u : Issue} {f : Fields} {fn lat : Nat}

theorem State.legal_imm_lt {cls : Nat} {sp : OpSpec} {n : Nat} (h : s.legal u f cls fn = true) (hsp : opSpec cls fn f = some sp)
    (hmask : sp.imm.toNat = 2 ^ n - 1) : f.imm.toNat < 2 ^ n := toNat_lt_of_mask (State.legal_imm h hsp) hmask

/-- The lanes that an instruction without flags leaves in its register. -/
theorem lanes_done {g : Nat → Word} {v : VReg} {body : Ctx → Effect} (h : s.clear u f 3 fn = true)
    (hbody : body (s.ctxOf u f 3 fn) = (s.ctxOf u f 3 fn).write ((s.ctxOf u f 3 fn).x.wv f.dest.toNat v (s.cycleOf u + lat)))
    (hv : ∀ i < 16, lane v i = g i) :
    ∃ t v, (.next (s.issue u f 3 fn body) : Answer) = .next t ∧ vectorDone s t u f.dest.toNat v lat 0 ∧ ∀ i < 16, lane v i = g i :=
  ⟨_, v, rfl, vectorDone_of_body (fl := 0) h hbody, hv⟩

theorem vecRR_done {op op' : Word → Word → Word} (hop : ∀ a b, op a b = op' a b) (h : s.clear u f 3 fn = true) :
    ∃ t v, (.next (vecRR fn op lat u f s) : Answer) = .next t ∧ vectorDone s t u f.dest.toNat v lat 0 ∧
      ∀ i < 16, lane v i = op' (lane ((s.at_ u).rv f.srca.toNat) i) (lane ((s.at_ u).rv f.srcb.toNat) i) := by
  refine lanes_done h rfl fun i hi => ?_
  rw [zipWith_lanes, ← hop]
  exact lane_ofLaneFn _ hi

theorem vecBits_done {op : VReg → VReg → VReg} {op' : Word → Word → Word} (hop : ∀ a b i, lane (op a b) i = op' (lane a i) (lane b i))
    (h : s.clear u f 3 fn = true) :
    ∃ t v, (.next (vecBits fn op u f s) : Answer) = .next t ∧ vectorDone s t u f.dest.toNat v 2 0 ∧
      ∀ i < 16, lane v i = op' (lane ((s.at_ u).rv f.srca.toNat) i) (lane ((s.at_ u).rv f.srcb.toNat) i) :=
  lanes_done h rfl fun i _ => hop _ _ i

theorem vecShift_done {op : Word → Nat → Word} (h : s.clear u f 3 fn = true) (hfn : 0x0C < fn ∧ fn ≤ 0x0E) :
    ∃ t v, (.next (vecShift fn op u f s) : Answer) = .next t ∧ vectorDone s t u f.dest.toNat v 2 0 ∧
      ∀ i < 16, lane v i = op (lane ((s.at_ u).rv f.srca.toNat) i) f.imm.toNat := by
  have hsp : opSpec 3 fn f = some (specVec .V .V .unused false 0x1F) := by
    change specVector fn = _
    unfold specVector
    rw [if_neg (by omega), if_neg (by omega), if_pos hfn.2]
  have himm : f.bits 4 0 = f.imm.toNat := (Fields.bits_zero f 4).trans (Nat.mod_eq_of_lt (State.legal_imm_lt (n := 5) (State.clear_legal h).1 hsp rfl))
  refine lanes_done h rfl fun i hi => ?_
  rw [map_lanes, ← himm]
  exact lane_ofLaneFn _ hi

theorem vblend_done (h : s.clear u f 3 0x0F = true) : ∃ t v, exec (.vblend u f) s = .next t ∧ vectorDone s t u f.dest.toNat v 2 0 ∧
    ∀ i, v.getLsbD i = if ((s.at_ u).rv f.dest.toNat).getLsbD i then ((s.at_ u).rv f.srca.toNat).getLsbD i
      else ((s.at_ u).rv f.srcb.toNat).getLsbD i := by
  refine ⟨_, _, rfl, vectorDone_of_body (fl := 0) h rfl, fun i => ?_⟩
  have hbit : ∀ d a b : VReg, (d &&& a ||| ~~~d &&& b).getLsbD i = if d.getLsbD i then a.getLsbD i else b.getLsbD i := fun d a b => by
    rw [BitVec.getLsbD_or, BitVec.getLsbD_and, BitVec.getLsbD_and, BitVec.getLsbD_not]
    by_cases hi : i < 512
    · cases d.getLsbD i <;> simp [hi]
    · simp [hi, BitVec.getLsbD_of_ge _ _ (Nat.le_of_not_lt hi)]
  exact hbit _ _ _

theorem vperm_done (h : s.clear u f 3 0x10 = true) : ∃ t v, exec (.vperm u f) s = .next t ∧ vectorDone s t u f.dest.toNat v 2 0 ∧
    ∀ i < 16, lane v i = lane ((s.at_ u).rv f.srca.toNat) ((lane ((s.at_ u).rv f.srcb.toNat) i).toNat % 16) := by
  refine lanes_done h rfl fun i hi => ?_
  rw [map_lanes]
  exact lane_ofLaneFn _ hi

theorem vbcast_done (h : s.clear u f 3 0x11 = true) : ∃ t v, exec (.vbcast u f) s = .next t ∧ vectorDone s t u f.dest.toNat v 2 0 ∧
    ∀ i < 16, lane v i = ((s.at_ u).rs f.srca.toNat).setWidth 32 :=
  lanes_done h rfl fun _ hi => lane_ofLaneFn (fun _ => ((s.at_ u).rs f.srca.toNat).setWidth 32) hi

/-- The lane that VGET and VSET name. -/
theorem laneImm_eq {sp : OpSpec} (h : s.clear u f 3 fn = true) (hsp : opSpec 3 fn f = some sp) (hmask : sp.imm = 0xF) : f.bits 3 0 = f.imm.toNat :=
  (Fields.bits_zero f 3).trans (Nat.mod_eq_of_lt (State.legal_imm_lt (n := 4) (State.clear_legal h).1 hsp (by rw [hmask]; rfl)))

theorem vset_done (h : s.clear u f 3 0x13 = true) : ∃ t v, exec (.vset u f) s = .next t ∧ vectorDone s t u f.dest.toNat v 2 0 ∧
    ∀ i < 16, lane v i = if i = f.imm.toNat then ((s.at_ u).rs f.srca.toNat).setWidth 32 else lane ((s.at_ u).rv f.dest.toNat) i := by
  refine lanes_done h rfl fun i hi => ?_
  rw [lane_ofLanes _ hi, ← laneImm_eq h rfl rfl, List.getD_eq_getElem?_getD, List.getElem?_mapIdx, lanes, List.getElem?_map, List.getElem?_range hi]
  rfl

theorem vget_done (h : s.clear u f 3 0x12 = true) : ∃ t, exec (.vget u f) s = .next t ∧
    scalarDone s t u f.dest.toNat ((lane ((s.at_ u).rv f.srca.toNat) f.imm.toNat).setWidth 64) 2 := by
  rw [← laneImm_eq h rfl rfl]
  exact ⟨_, rfl, scalarDone_of_body h rfl⟩

theorem vany_done (h : s.clear u f 3 0x14 = true) : ∃ t, exec (.vany u f) s = .next t ∧
    predDone s t u f.dest.toNat (decide ((s.at_ u).rv f.srca.toNat ≠ 0)) 2 := by
  have hne : ∀ v : VReg, decide (v ≠ 0) = (v != 0) := fun v => by rw [Bool.eq_iff_iff, decide_eq_true_iff, bne_iff_ne]
  rw [hne]
  exact ⟨_, rfl, predDone_of_body h rfl⟩

/-! ## Floating-point lanes (R111 to R113, R117) -/

/-- Lanes with flags: the results in the register, the flags of all lanes set for the thread. -/
theorem flaggedLanes_done {g : Nat → Word × Nat} {rs : List (Word × Nat)} {body : Ctx → Effect} (h : s.clear u f 3 fn = true)
    (hrs : rs = (List.range 16).map g)
    (hbody : body (s.ctxOf u f 3 fn) = .done s ((s.ctxOf u f 3 fn).flagged (allFlags rs))
      ((s.ctxOf u f 3 fn).x.wv f.dest.toNat (ofLanes (rs.map (fun r => r.1))) (s.cycleOf u + lat)) none) :
    ∃ t v, (.next (s.issue u f 3 fn body) : Answer) = .next t ∧ vectorDone s t u f.dest.toNat v lat (laneFlags (fun i => (g i).2)) ∧
      ∀ i < 16, lane v i = (g i).1 := by
  subst hrs
  refine ⟨_, _, rfl, allFlags_range g ▸ vectorDone_of_body h hbody, fun i hi => ?_⟩
  rw [List.map_map]
  exact lane_ofLaneFn (fun i => (g i).1) hi

theorem vecFR_done {op : Word → Word → Word × Nat} (h : s.clear u f 3 fn = true) :
    let g := fun i => op (lane ((s.at_ u).rv f.srca.toNat) i) (lane ((s.at_ u).rv f.srcb.toNat) i)
    ∃ t v, (.next (vecFR fn op u f s) : Answer) = .next t ∧ vectorDone s t u f.dest.toNat v 4 (laneFlags (fun i => (g i).2)) ∧
      ∀ i < 16, lane v i = (g i).1 := flaggedLanes_done h (zipWith_lanes op _ _) rfl

theorem vecEst_done {op : Word → Word × Nat} (h : s.clear u f 3 fn = true) :
    let g := fun i => op (lane ((s.at_ u).rv f.srca.toNat) i)
    ∃ t v, (.next (vecEst fn op u f s) : Answer) = .next t ∧ vectorDone s t u f.dest.toNat v 6 (laneFlags (fun i => (g i).2)) ∧
      ∀ i < 16, lane v i = (g i).1 := flaggedLanes_done h (map_lanes op _) rfl

theorem zip_lanes (a b : VReg) : List.zip (lanes a) (lanes b) = (List.range 16).map (fun i => (lane a i, lane b i)) := zipWith_lanes Prod.mk a b

theorem vfma_done (h : s.clear u f 3 0x03 = true) :
    let g := fun i => f32Fma (lane ((s.at_ u).rv f.srca.toNat) i) (lane ((s.at_ u).rv f.srcb.toNat) i) (lane ((s.at_ u).rv f.dest.toNat) i)
    ∃ t v, exec (.vfma u f) s = .next t ∧ vectorDone s t u f.dest.toNat v 4 (laneFlags (fun i => (g i).2)) ∧ ∀ i < 16, lane v i = (g i).1 := by
  refine flaggedLanes_done h ?_ rfl
  rw [zip_lanes, lanes, List.zipWith_map, List.zipWith_self]
  rfl

end

theorem lane_and (a b : VReg) (i : Nat) : lane (a &&& b) i = lane a i &&& lane b i := by
  simp only [lane_eq_extract, BitVec.extractLsb'_and]
theorem lane_or (a b : VReg) (i : Nat) : lane (a ||| b) i = lane a i ||| lane b i := by
  simp only [lane_eq_extract, BitVec.extractLsb'_or]
theorem lane_xor (a b : VReg) (i : Nat) : lane (a ^^^ b) i = lane a i ^^^ lane b i := by
  simp only [lane_eq_extract, BitVec.extractLsb'_xor]

/-- Settles O6: each instruction by the lanes it leaves. -/
theorem vectorLanes : Obligations.VectorLanes := by
  unfold Obligations.VectorLanes
  simp only [List.forall_mem_cons, List.not_mem_nil, false_imp_iff, implies_true, and_true]
  refine ⟨⟨⟨?_, ?_, ?_, ?_, ?_, ?_, ?_, ?_⟩, ⟨?_, ?_⟩, fun _ _ _ => vblend_done, fun _ _ _ => vperm_done, fun _ _ _ => vbcast_done, fun _ _ _ => vset_done⟩,
    fun _ _ _ => vget_done, fun _ _ _ => vany_done⟩
  · exact fun u f s => vecRR_done (op' := fun a b => a + b) fun _ _ => rfl
  · exact fun u f s => vecRR_done (op' := fun a b => a - b) fun _ _ => rfl
  · exact fun u f s => vecRR_done (op' := fun a b => if a.toInt < b.toInt then 0xFFFFFFFF else 0) fun a b => by simp only [BitVec.slt_iff_toInt_lt]
  · exact fun u f s => vecRR_done (op' := f32Min) fun _ _ => rfl
  · exact fun u f s => vecRR_done (op' := f32Max) fun _ _ => rfl
  · exact fun u f s => vecBits_done (op' := fun a b => a &&& b) lane_and
  · exact fun u f s => vecBits_done (op' := fun a b => a ||| b) lane_or
  · exact fun u f s => vecBits_done (op' := fun a b => a ^^^ b) lane_xor
  · exact fun u f s h => vecShift_done (op := fun a n => a <<< n) h (by decide)
  · exact fun u f s h => vecShift_done (op := fun a n => a >>> n) h (by decide)

/-- Settles O7: `vecFR_done` for two operands, `vfma_done`, `vecEst_done` for the estimates. -/
theorem vectorFloat : Obligations.VectorFloat := by
  unfold Obligations.VectorFloat
  simp only [List.forall_mem_cons, List.not_mem_nil, false_imp_iff, implies_true, and_true]
  refine ⟨⟨?_, ?_, ?_, ?_, ?_⟩, fun _ _ _ => vfma_done, ?_, ?_, ?_, ?_⟩
  iterate 5 exact fun u f s => vecFR_done
  iterate 4 exact fun u f s => vecEst_done

end Sys2Proof.Machine

namespace Sys2Proof.Machine

/-! ## Waits and tests of counters and queues (R83, R86) -/

theorem Fields.bits_count (f : Fields) : f.bits 31 16 = f.imm.toNat / 65536 := Fields.bits_top f (lo := 16) (by decide)
theorem Fields.bits_counter (f : Fields) : f.bits 3 0 = f.imm.toNat % 16 := Fields.bits_zero f 3

theorem Booked.queue {a b : Tile} (h : Booked a b) (n : Nat) : b.queue n = a.queue n := by
  obtain ⟨-, -, hB, hL, -⟩ := h.fields
  rw [Tile.queue, hB, hL, Tile.queue]

section
variable {s : State} {u : Issue} {f : Fields} {cls fn : Nat} {body : Ctx → Effect}

/-- A body that leaves its thread waiting (R45). -/
theorem waits_done {w : Wait} (h : s.clear u f cls fn = true) (hbody : body (s.ctxOf u f cls fn) = (s.ctxOf u f cls fn).waits .data w) :
    ∃ t, (.next (s.issue u f cls fn body) : Answer) = .next t ∧ sameBesideTiles s t ∧ onlyThread s t u [] ∧ sameRegisters (s.at_ u) (t.at_ u) ∧
      (t.at_ u).state = .data ∧ (t.at_ u).wait = w ∧ (t.at_ u).waitFrom = some (s.cycleOf u + 1) := by
  let y : Thread := { (s.at_ u).atIssue with state := .data, wait := w, waitFrom := some (s.cycleOf u + 1) }
  have hissue : s.issue u f cls fn body = s.placed s u (opPort cls fn f) (y.advance (s.cycleOf u) none) :=
    (issue_of_body (State.clear_legal h).1 hbody).trans (outcome_stops (y := y) (st := .data) rfl (by decide) none)
  obtain ⟨honly, hat⟩ := State.placed_only (s := s) (u := u) (s' := s) rfl (opPort cls fn f) (y.advance (s.cycleOf u) none)
  refine ⟨_, rfl, ?_⟩
  rw [hissue]
  refine ⟨rfl, honly, ?_⟩
  rw [hat]
  exact ⟨⟨rfl, rfl, rfl⟩, rfl, rfl, rfl⟩

/-- A body that leaves everything as it was: its thread goes on. -/
theorem goesOn_done (h : s.clear u f cls fn = true)
    (hbody : body (s.ctxOf u f cls fn) = .done s (s.ctxOf u f cls fn).t (s.ctxOf u f cls fn).x none) :
    ∃ t, (.next (s.issue u f cls fn body) : Answer) = .next t ∧ sameBesideTiles s t ∧ onlyThread s t u [] ∧ sameRegisters (s.at_ u) (t.at_ u) ∧
      goesOn (s.at_ u) (t.at_ u) := by
  have hplace := s.ctxOf_samePlace u f cls fn
  refine ⟨_, rfl, ?_⟩
  rw [issue_movesOn h hbody hplace]
  exact ⟨rfl, State.movedOn_only rfl ((s.booked_books u _).but []) _, State.movedOn_registers ⟨rfl, rfl, rfl⟩, State.movedOn_goesOn hplace⟩

theorem State.ctxOf_ctr (s : State) (u : Issue) (f : Fields) (cls fn : Nat) : (s.ctxOf u f cls fn).t.ctr = (s.tile u.tile.key).ctr := by
  obtain ⟨-, -, -, -, hctr, -⟩ := (s.booked_books u (opPort cls fn f)).fields
  exact hctr

theorem State.ctxOf_queue (s : State) (u : Issue) (f : Fields) (cls fn n : Nat) : (s.ctxOf u f cls fn).t.queue n = (s.tile u.tile.key).queue n :=
  (s.booked_books u _).queue n

/-- MWAIT (R83). -/
theorem mwait_takes (h : s.clear u f 5 0x08 = true) (hn : f.imm.toNat / 65536 ≤ (s.tile u.tile.key).ctr.get 0 (f.imm.toNat % 16)) :
    ∃ t, exec (.mwait u f) s = .next t ∧ sameBesideTiles s t ∧ sameRegisters (s.at_ u) (t.at_ u) ∧ goesOn (s.at_ u) (t.at_ u) ∧
      (∀ j, j ≠ u.tile.key → t.tile j = s.tile j) ∧ (t.tile u.tile.key).sram = (s.tile u.tile.key).sram ∧
      ∀ j, (t.tile u.tile.key).ctr.get 0 j = if j = f.imm.toNat % 16 then (s.tile u.tile.key).ctr.get 0 (f.imm.toNat % 16) - f.imm.toNat / 65536
        else (s.tile u.tile.key).ctr.get 0 j := by
  have hplace := s.ctxOf_samePlace u f 5 0x08
  have hctr := s.ctxOf_ctr u f 5 0x08
  rw [← Fields.bits_count f] at *
  refine ⟨_, rfl, ?_⟩
  rw [issue_movesOn h (if_pos (by rw [hctr]; exact hn)) hplace]
  refine ⟨rfl, State.movedOn_registers ⟨rfl, rfl, rfl⟩, State.movedOn_goesOn hplace, State.movedOn_others rfl _ _ _, ?_, fun j => ?_⟩
  · rw [State.tile_movedOn]
    exact (s.booked_books u _).fields.1
  · rw [State.tile_movedOn, ← hctr]
    exact SMap.get_set ..

theorem mwait_waits (h : s.clear u f 5 0x08 = true) (hn : (s.tile u.tile.key).ctr.get 0 (f.imm.toNat % 16) < f.imm.toNat / 65536) :
    ∃ t, exec (.mwait u f) s = .next t ∧ sameBesideTiles s t ∧ onlyThread s t u [] ∧ sameRegisters (s.at_ u) (t.at_ u) ∧
      (t.at_ u).state = .data ∧ (t.at_ u).wait = .counter ⟨f.imm.toNat % 16, Nat.mod_lt _ (by decide)⟩ (f.imm.toNat / 65536) ∧
      (t.at_ u).waitFrom = some (s.cycleOf u + 1) := by
  rw [← Fields.bits_count f] at *
  exact waits_done h (if_neg (by rw [s.ctxOf_ctr u f 5 0x08]; exact Nat.not_le.2 hn))

/-- MTEST and MCNT read the counter that they name (R83). -/
theorem mtest_done (h : s.clear u f 5 0x09 = true) : ∃ t, exec (.mtest u f) s = .next t ∧
    predDone s t u f.dest.toNat (decide (f.imm.toNat / 65536 ≤ (s.tile u.tile.key).ctr.get 0 (f.imm.toNat % 16))) 1 := by
  rw [← Fields.bits_count f, ← s.ctxOf_ctr u f 5 0x09,
    ← Fields.bits_counter f]
  exact ⟨_, rfl, predDone_of_body h rfl⟩

theorem mcnt_done (h : s.clear u f 5 0x0A = true) : ∃ t, exec (.mcnt u f) s = .next t ∧
    scalarDone s t u f.dest.toNat (BitVec.ofNat 64 ((s.tile u.tile.key).ctr.get 0 (f.imm.toNat % 16))) 1 := by
  rw [← s.ctxOf_ctr u f 5 0x0A, ← Fields.bits_counter f]
  exact ⟨_, rfl, scalarDone_of_body h rfl⟩

end

/-- Settles O16: the counters by `mwait_takes`, `mwait_waits`, `mtest_done` and `mcnt_done`, the queues by `goesOn_done` and `waits_done`. -/
theorem meshWaits : Obligations.MeshWaits := by
  intro u f s
  refine ⟨fun h => ⟨mwait_takes h, mwait_waits h⟩, mtest_done, mcnt_done, fun h => ⟨fun hempty => goesOn_done h (if_pos ?_), fun hsends => ?_⟩,
    fun h => ⟨fun hnone => goesOn_done h (if_neg ?_), fun hsome => waits_done h (if_pos ?_)⟩⟩
  · rw [State.ctxOf_queue, List.isEmpty_iff]
    exact hempty
  · rw [← s.ctxOf_queue u f 5 0x0B] at *
    exact waits_done h (if_neg (by rw [List.isEmpty_iff]; exact hsends))
  · rw [State.ctxOf_queue, List.any_eq_true]
    rintro ⟨d, hd, hhearth⟩
    exact absurd hhearth (by rw [hnone d hd]; decide)
  · rw [State.ctxOf_queue, List.any_eq_true]
    exact hsome

end Sys2Proof.Machine

namespace Sys2Proof.Machine

/-! ## Sends (R78 to R80, R86, R87, R89) -/

/-- The body of a send: its tests in the order of R482 (what is illegal, the local range at `ea`, the far range, the grain of the local and of the far
address), then the queue for the descriptor of the range's offset. -/
def Ctx.sendBody (q : Ctx) (illegal : Prop) [Decidable illegal] (ea len grain : Nat) (far : Prop) [Decidable far] (farOff : Prop) [Decidable farOff]
    (d : Nat → SendDesc) : Effect :=
  if illegal then .fault 0x01 0
  else match q.range ea len with
    | none => .fault 0x04 (ea % 2 ^ 20)
    | some off =>
      if ¬far then .fault 0x04 0
      else if ea % grain ≠ 0 then .fault 0x03 (ea % 2 ^ 20)
      else if farOff then .fault 0x03 0
      else q.enqueue (d off)

/-- Both ends of a local range lead to the tile, as far apart as the range is long. -/
def State.localRange (s : State) (k ea len off : Nat) : Prop :=
  (∃ w, s.localAt k ea false = .at_ off w) ∧ ∃ w, s.localAt k (ea + len - 1) false = .at_ (off + len - 1) w

theorem Ctx.range_eq_some {q : Ctx} {ea len off : Nat} : q.range ea len = some off ↔ q.s.localRange q.k ea len off := by
  unfold Ctx.range State.localRange
  cases q.s.localAt q.k ea false with
  | bad c => simp
  | at_ o w =>
    cases q.s.localAt q.k (ea + len - 1) false with
    | bad c => simp
    | at_ p v =>
      simp only [Option.ite_none_right_eq_some, Option.some.injEq, Local.at_.injEq, exists_and_left, exists_eq']
      constructor
      · rintro ⟨rfl, rfl⟩; exact ⟨⟨rfl, trivial⟩, rfl, trivial⟩
      · rintro ⟨⟨rfl, -⟩, rfl, -⟩; exact ⟨rfl, rfl⟩

section
variable {q : Ctx} {illegal far farOff : Prop} [Decidable illegal] [Decidable far] [Decidable farOff] {ea len grain off : Nat} {d : Nat → SendDesc}

theorem Ctx.sendBody_illegal (h : illegal) : q.sendBody illegal ea len grain far farOff d = .fault 0x01 0 := if_pos h

theorem Ctx.sendBody_noRange (h : ¬illegal) (hr : ∀ off, ¬q.s.localRange q.k ea len off) :
    q.sendBody illegal ea len grain far farOff d = .fault 0x04 (ea % 2 ^ 20) := by
  have hnone : q.range ea len = none := Option.eq_none_iff_forall_not_mem.2 fun off hoff => hr off (Ctx.range_eq_some.1 hoff)
  simp only [Ctx.sendBody, if_neg h, hnone]

theorem Ctx.sendBody_noFar (h : ¬illegal) (hr : q.s.localRange q.k ea len off) (hfar : ¬far) :
    q.sendBody illegal ea len grain far farOff d = .fault 0x04 0 := by
  simp only [Ctx.sendBody, if_neg h, Ctx.range_eq_some.2 hr, if_pos hfar]

theorem Ctx.sendBody_misaligned (h : ¬illegal) (hr : q.s.localRange q.k ea len off) (hfar : far) (ha : ea % grain ≠ 0) :
    q.sendBody illegal ea len grain far farOff d = .fault 0x03 (ea % 2 ^ 20) := by
  simp only [Ctx.sendBody, if_neg h, Ctx.range_eq_some.2 hr, if_neg (not_not.2 hfar), if_pos ha]

theorem Ctx.sendBody_farMisaligned (h : ¬illegal) (hr : q.s.localRange q.k ea len off) (hfar : far) (ha : ea % grain = 0) (hoff : farOff) :
    q.sendBody illegal ea len grain far farOff d = .fault 0x03 0 := by
  simp only [Ctx.sendBody, if_neg h, Ctx.range_eq_some.2 hr, if_neg (not_not.2 hfar), if_neg (not_not.2 ha), if_pos hoff]

theorem Ctx.sendBody_joins (h : ¬illegal) (hr : q.s.localRange q.k ea len off) (hfar : far) (ha : ea % grain = 0) (hoff : ¬farOff) :
    q.sendBody illegal ea len grain far farOff d = q.enqueue (d off) := by
  simp only [Ctx.sendBody, if_neg h, Ctx.range_eq_some.2 hr, if_neg (not_not.2 hfar), if_neg (not_not.2 ha), if_neg hoff]

end

/-! ### The five sends -/

section
variable (u : Issue) (f : Fields) (s : State)

theorem exec_msend : exec (.msend u f) s = .next (s.issue u f 5 0x00 fun q =>
    let d := (q.x.rs q.f.dest.toNat).toNat
    let b := (q.x.rs q.f.srcb.toNat).toNat
    q.sendBody (b < 32 ∨ 65536 < b ∨ b % 32 ≠ 0 ∨ routeBad q.f.imm = true) (q.x.rs q.f.srca.toNat).toNat b 32 (d + b ≤ 2 ^ 20) (d % 32 ≠ 0)
      fun off => q.desc (.mesh q.f.imm) off d b) := by
  refine congrArg (fun body => Host.Outcome.next (s.issue u f 5 0x00 body)) (funext fun q => ?_)
  simp only [Ctx.sendBody, gt_iff_lt, Nat.not_le] <;> rfl

theorem exec_hsend : exec (.hsend u f) s = .next (s.issue u f 6 0x00 fun q =>
    let d := (q.x.rs q.f.dest.toNat).toNat
    let b := (q.x.rs q.f.srcb.toNat).toNat
    q.sendBody (hearthLength b = false ∨ (d / 2 ^ 44 = 1 ∧ q.f.bits 3 0 ≠ 0)) (q.x.rs q.f.srca.toNat).toNat b 128
      (stackRange d b = true ∨ q.s.remoteTile q.k d b = true) (d % 128 ≠ 0) fun off => q.desc (.hsend d (q.f.bits 15 8) (q.f.bits 3 0)) off 0 b) := by
  refine congrArg (fun body => Host.Outcome.next (s.issue u f 6 0x00 body)) (funext fun q => ?_)
  simp only [Ctx.sendBody, Bool.or_eq_true, Bool.not_eq_true', Bool.and_eq_true, beq_iff_eq, bne_iff_ne, ← Bool.not_eq_true, not_or] <;> rfl

theorem exec_hbcast : exec (.hbcast u f) s = .next (s.issue u f 6 0x01 fun q =>
    let b := (q.x.rs q.f.srcb.toNat).toNat
    q.sendBody (hearthLength b = false) (q.x.rs q.f.srca.toNat).toNat b 128 True False fun off => q.desc (.hbcast (q.f.bits 15 8)) off 0 b) := by
  refine congrArg (fun body => Host.Outcome.next (s.issue u f 6 0x01 body)) (funext fun q => ?_)
  simp only [Ctx.sendBody, Bool.not_eq_true', not_true_eq_false, if_false] <;> rfl

theorem exec_hget : exec (.hget u f) s = .next (s.issue u f 6 0x02 fun q =>
    let a := (q.x.rs q.f.srca.toNat).toNat
    let b := (q.x.rs q.f.srcb.toNat).toNat
    q.sendBody (hearthLength b = false) (q.x.rs q.f.dest.toNat).toNat b 128 (stackRange a b = true) (a % 128 ≠ 0)
      fun off => q.desc (.hget a (q.f.bits 15 8) (q.f.bits 3 0)) 0 off b) := by
  refine congrArg (fun body => Host.Outcome.next (s.issue u f 6 0x02 body)) (funext fun q => ?_)
  simp only [Ctx.sendBody, Bool.not_eq_true', Bool.not_eq_true] <;> rfl

theorem exec_esend : exec (.esend u f) s = .next (s.issue u f 6 0x08 fun q =>
    let d := (q.x.rs q.f.dest.toNat).toNat
    q.sendBody (d < 1 ∨ 16384 < d) (q.x.rs q.f.srca.toNat).toNat (4 * d) 64 True False
      fun off => q.desc (.esend (q.f.bits 3 0) (q.f.bits 15 8) (q.x.rs q.f.srcb.toNat).toInt (flag q.f.imm 16)) off 0 (4 * d)) := by
  refine congrArg (fun body => Host.Outcome.next (s.issue u f 6 0x08 body)) (funext fun q => ?_)
  simp only [Ctx.sendBody, gt_iff_lt, not_true_eq_false, if_false] <;> rfl

end

/-! ### The queue of a thread (R80) -/

section
variable {s : State} {u : Issue} {f : Fields} {cls fn : Nat} {body : Ctx → Effect}

/-- The descriptor of a send as it enters its queue. -/
def State.newSend (s : State) (u : Issue) (kind : SendKind) (src dst len : Nat) : SendDesc :=
  { kind := kind, thread := u.thread, pc := (s.at_ u).pc, src := src, dst := dst, len := len, sent := 0, part := [], partBad := none, poison := false }

/-- A core with another queue of thread `n`: nothing else. -/
theorem Booked.setQueue {a b : Tile} (h : Booked a b) (n : Nat) (l : List SendDesc) (x : Thread) :
    onlyQueue a ((b.setQueue n l).setThread n x) n ∧ ((b.setQueue n l).setThread n x).queue n = l := by
  have hrest : { b with
      threads := a.threads, cycle := a.cycle, lastLoose := a.lastLoose, portFree := a.portFree, til := a.til, sendB := a.sendB,
      sendL := a.sendL } = a := (congrArg (fun t : Tile => { t with sendB := a.sendB, sendL := a.sendL }) h.rest :)
  obtain ⟨-, -, hB, hL, -⟩ := h.fields
  have hthread : ∀ {t : Tile}, t.threads = b.threads → ∀ m, m ≠ n → (t.setThread n x).thread m = a.thread m := fun ht m hm => by
    rw [Tile.thread_setThread, if_neg hm, Tile.thread, ht, h.threads, Tile.thread]
  unfold Tile.setQueue
  split
  next hn => exact ⟨⟨hrest, fun _ => hL, fun hne => absurd hn hne, hthread rfl, fun i h11 h12 _ => h.sys i h11 h12⟩, if_pos hn⟩
  next hn => exact ⟨⟨hrest, fun heq => absurd heq hn, fun _ => hB, hthread rfl, fun i h11 h12 _ => h.sys i h11 h12⟩, if_neg hn⟩

theorem enqueue_joins {d : SendDesc} (h : s.clear u f cls fn = true) (hbody : body (s.ctxOf u f cls fn) = (s.ctxOf u f cls fn).enqueue d)
    (hq : ((s.tile u.tile.key).queue u.thread).length < 4) :
    let t := s.issue u f cls fn body
    sameBesideTiles s t ∧ sameRegisters (s.at_ u) (t.at_ u) ∧ goesOn (s.at_ u) (t.at_ u) ∧ (∀ j, j ≠ u.tile.key → t.tile j = s.tile j) ∧
      onlyQueue (s.tile u.tile.key) (t.tile u.tile.key) u.thread ∧
      (t.tile u.tile.key).queue u.thread = (s.tile u.tile.key).queue u.thread ++ [d] := by
  have hplace := s.ctxOf_samePlace u f cls fn
  have hqueue : (s.ctxOf u f cls fn).t.queue (s.ctxOf u f cls fn).n = (s.tile u.tile.key).queue u.thread := s.ctxOf_queue u f cls fn u.thread
  have hroom : ¬((s.ctxOf u f cls fn).t.queue (s.ctxOf u f cls fn).n).length ≥ 4 := by rw [hqueue]; omega
  have hdone := hbody.trans (if_neg hroom)
  dsimp only
  rw [issue_movesOn h hdone hplace]
  refine ⟨rfl, State.movedOn_registers ⟨rfl, rfl, rfl⟩, State.movedOn_goesOn hplace, State.movedOn_others rfl _ _ _, ?_⟩
  rw [State.tile_movedOn, ← hqueue]
  exact (s.booked_books u _).setQueue ..

/-- A full queue holds its thread off. -/
theorem enqueue_holds {d : SendDesc} (h : s.clear u f cls fn = true) (hbody : body (s.ctxOf u f cls fn) = (s.ctxOf u f cls fn).enqueue d)
    (hq : 4 ≤ ((s.tile u.tile.key).queue u.thread).length) :
    let t := s.issue u f cls fn body
    sameBesideTiles s t ∧ onlyThread s t u [] ∧ sameRegisters (s.at_ u) (t.at_ u) ∧ (t.at_ u).pc = (s.at_ u).pc ∧ (t.at_ u).state = .data ∧
      (t.at_ u).wait = .place := by
  have hfull : ((s.ctxOf u f cls fn).t.queue (s.ctxOf u f cls fn).n).length ≥ 4 := Nat.le_trans hq (Nat.le_of_eq (congrArg _ (s.ctxOf_queue ..).symm))
  let y : Thread := { s.at_ u with state := .data, wait := .place, waitFrom := some ((s.at_ u).waitFrom.getD (s.cycleOf u)) }
  have hissue : s.issue u f cls fn body = s.setTile u.tile.key (((s.tile u.tile.key).fetchCount (s.at_ u).pc).setThread u.thread y) :=
    issue_of_body (State.clear_legal h).1 (hbody.trans (if_pos hfull))
  obtain ⟨honly, hat⟩ := Booked.onlyThread ((s.tile u.tile.key).fetchCount_books (s.at_ u).pc) (congrArg State.tiles hissue)
  refine ⟨?_, honly, ?_⟩
  · rw [hissue]; rfl
  · rw [hat]
    exact ⟨⟨rfl, rfl, rfl⟩, rfl, rfl, rfl⟩

/-- What O14 says of a send whose body, on a range from `off` on, is the queue for a descriptor. -/
theorem send_joins {i : Instr} {kind : SendKind} {src dst len : Nat} (h : s.clear u f cls fn = true) (hexec : exec i s = .next (s.issue u f cls fn body))
    (hbody : body (s.ctxOf u f cls fn) = (s.ctxOf u f cls fn).enqueue ((s.ctxOf u f cls fn).desc kind src dst len)) :
    (((s.tile u.tile.key).queue u.thread).length < 4 →
      ∃ t, exec i s = .next t ∧ sameBesideTiles s t ∧ sameRegisters (s.at_ u) (t.at_ u) ∧ goesOn (s.at_ u) (t.at_ u) ∧
        (∀ j, j ≠ u.tile.key → t.tile j = s.tile j) ∧ onlyQueue (s.tile u.tile.key) (t.tile u.tile.key) u.thread ∧
        (t.tile u.tile.key).queue u.thread = (s.tile u.tile.key).queue u.thread ++ [s.newSend u kind src dst len]) ∧
    (4 ≤ ((s.tile u.tile.key).queue u.thread).length →
      ∃ t, exec i s = .next t ∧ sameBesideTiles s t ∧ onlyThread s t u [] ∧ sameRegisters (s.at_ u) (t.at_ u) ∧ (t.at_ u).pc = (s.at_ u).pc ∧
        (t.at_ u).state = .data ∧ (t.at_ u).wait = .place) :=
  ⟨fun hq => ⟨_, hexec, enqueue_joins h hbody hq⟩, fun hq => ⟨_, hexec, enqueue_holds h hbody hq⟩⟩

end

/-- Settles O14: each send's body passes its tests (`Ctx.sendBody_joins`) and meets the queue (`send_joins`). -/
theorem sends : Obligations.Sends := by
  intro u f s q d a b joins here
  refine ⟨fun h hroute hmin hmax hmul ha hd hend off hhere => ?_, fun h hlen ha hd hfar off hhere => ?_, fun h hlen ha off hhere => ?_,
    fun h hlen hd ha hstack off hhere => ?_, fun h hmin hmax ha off hhere => ?_⟩
  · refine send_joins h (exec_msend u f s) (Ctx.sendBody_joins ?_ hhere hend ha (not_not.2 hd))
    rintro (hlt | hgt | hrem | hbad)
    · exact absurd hlt (Nat.not_lt.2 hmin)
    · exact absurd hgt (Nat.not_lt.2 hmax)
    · exact hrem hmul
    · exact absurd hbad (by rw [show (s.ctxOf u f 5 0x00).f = f from rfl, hroute]; decide)
  · refine send_joins h (exec_hsend u f s) (Ctx.sendBody_joins ?_ hhere (hfar.imp_left fun hstack => hstack.2.2) ha (not_not.2 hd))
    rintro (hbad | ⟨hregion, hctr⟩)
    · exact absurd (hbad.symm.trans hlen) (by decide)
    · rcases hfar with ⟨-, hzero, -⟩ | hremote
      · exact hctr hzero
      · simp only [State.remoteTile, Bool.and_eq_true, beq_iff_eq] at hremote
        obtain ⟨⟨⟨⟨⟨hplain, -⟩, -⟩, -⟩, -⟩, -⟩ := hremote
        exact absurd (hregion.symm.trans hplain) (by decide)
  · exact send_joins h (exec_hbcast u f s) (Ctx.sendBody_joins (fun hbad => absurd (hbad.symm.trans hlen) (by decide)) hhere trivial ha not_false)
  · exact send_joins h (exec_hget u f s)
      (Ctx.sendBody_joins (fun hbad => absurd (hbad.symm.trans hlen) (by decide)) hhere hstack hd (not_not.2 ha))
  · refine send_joins h (exec_esend u f s) (Ctx.sendBody_joins ?_ hhere trivial ha not_false)
    rintro (hlt | hgt)
    · exact absurd hlt (Nat.not_lt.2 hmin)
    · exact absurd hgt (Nat.not_lt.2 hmax)

end Sys2Proof.Machine

namespace Sys2Proof.Machine

/-! ## The faults of sends and of the fetch (R26, R27, R31, R39, R59 to R61, R70, R482) -/

/-! ### The tests of the fetch, in their order (R482) -/

section
variable {t : Tile} {x : Thread} {n : Nat}

theorem fetchFault_fetchCount (p : Nat) : fetchFault (t.fetchCount p) x n = fetchFault t x n := by
  have hbad : regBad (t.fetchCount p) x = regBad t x := funext (fetchCount_bad t p x)
  simp only [fetchFault, fetchCount_word, fetchCount_ecc, hbad]

theorem fetchFault_of_pc (hpc : regBad t x .pc = true) : fetchFault t x n = some 0x12 := if_pos hpc

theorem fetchFault_of_store (hpc : regBad t x .pc = false) (hecc : t.pstoreEcc.get .good x.pc = .double) : fetchFault t x n = some 0x11 := by
  simp only [fetchFault, hpc, hecc, BEq.rfl, Bool.false_eq_true, if_false, if_true]

variable (hpc : regBad t x .pc = false) (hecc : t.pstoreEcc.get .good x.pc ≠ .double)
include hpc hecc

theorem fetchFault_of_state (hstate : regBad t x (.p (fieldsOf (t.word x.pc)).pidx.toNat) = true ∨ (x.loops ≠ [] ∧ regBad t x .loops = true)) :
    fetchFault t x n = some 0x12 := by
  have htest : (regBad t x (.p (fieldsOf (t.word x.pc)).pidx.toNat) || (!x.loops.isEmpty && regBad t x .loops)) = true := by
    simpa only [Bool.or_eq_true, Bool.and_eq_true, Bool.not_eq_true', List.isEmpty_eq_false_iff] using hstate
  simp only [fetchFault, hpc, beq_false_of_ne hecc, htest, Bool.false_eq_true, if_false, if_true]

variable (hpred : regBad t x (.p (fieldsOf (t.word x.pc)).pidx.toNat) = false) (hloops : x.loops = [] ∨ regBad t x .loops = false)
include hpred hloops

/-- Past the tests of the program counter, the store, the predicate and the loop state: the tests that need the operand form. -/
theorem fetchFault_of_goodState : fetchFault t x n =
    let w := t.word x.pc
    let f := fieldsOf w
    let sp := opSpec (wordClass w) (wordFunction w) f
    if x.holds f && (sp.elim [] (OpSpec.reads · f)).any (regBad t x) then some 0x12
    else if (wordClass w == 15 && wordFunction w == 0x3F) || (wordClass w == 2 && x.loops.any (fun l => l.stop == x.pc)) then some 0x01
    else if !(x.holds f) then none
    else if !(classAllowed (wordClass w) (wordFunction w) n) then some 0x02
    else sp.elim (some 0x01) fun sp => if sp.illegal f then some 0x01 else none := by
  have htest : (!x.loops.isEmpty && regBad t x .loops) = false := by
    rcases hloops with hnone | hgood
    · rw [hnone]; rfl
    · rw [hgood, Bool.and_false]
  simp only [fetchFault, hpc, beq_false_of_ne hecc, hpred, htest, Bool.or_self, Bool.false_eq_true, if_false]
  cases opSpec (wordClass (t.word x.pc)) (wordFunction (t.word x.pc)) (fieldsOf (t.word x.pc)) <;> rfl

end

/-! ### The operand form of an undefined code (R59) -/

theorem specScalar_isSome (fn : Nat) (f g : Fields) : (specScalar fn f).isSome = (specScalar fn g).isSome := by
  simp only [specScalar, apply_ite Option.isSome, Option.isSome_some]

theorem specMatrix_isSome (fn : Nat) (f g : Fields) : (specMatrix fn f).isSome = (specMatrix fn g).isSome := by
  simp only [specMatrix, apply_ite Option.isSome, Option.isSome_some]

/-- Whether a code has an operand form does not depend on the fields. -/
theorem opSpec_isSome (f g : Fields) (fn : Nat) : ∀ cls, (opSpec cls fn f).isSome = (opSpec cls fn g).isSome
  | 0 => specScalar_isSome fn f g
  | 4 => specMatrix_isSome fn f g
  | 1 | 2 | 3 | 5 | 6 | 7 | 8 | 15 => rfl
  | 9 | 10 | 11 | 12 | 13 | 14 => rfl
  | _ + 16 => rfl

theorem opSpec_isSome_fieldless : ∀ cls : Fin 16, ∀ fn : Fin 64, (opSpec cls fn (fieldsOf 0)).isSome = definedCode cls fn := by decide +kernel

/-- A word of an undefined code has no operand form. -/
theorem opSpec_eq_none {w : DWord} (h : definedCode (wordClass w) (wordFunction w) = false) (f : Fields) :
    opSpec (wordClass w) (wordFunction w) f = none :=
  Option.isNone_iff_eq_none.1 <| Option.isSome_eq_false_iff.1 <| (opSpec_isSome f (fieldsOf 0) _ _).trans <|
    (opSpec_isSome_fieldless ⟨wordClass w, BitVec.isLt _⟩ ⟨wordFunction w, BitVec.isLt _⟩).trans h

/-! ### The fetch of a command -/

/-- The fetch of a thread makes a command issue where it faults, brings an undefined code or brings the command's word. -/
theorem State.fetches_iff {s : State} {u : Issue} {cls fn : Nat} {f : Fields} : (s.tile u.tile.key).fetches u.thread cls fn f = true ↔
    let a := s.tile u.tile.key
    let w := a.word (s.at_ u).pc
    regBad a (s.at_ u) .pc = true ∨ a.pstoreEcc.get .good (s.at_ u).pc = .double ∨ definedCode (wordClass w) (wordFunction w) = false ∨
      wordIs w cls fn f = true := by
  simp only [Tile.fetches, Bool.or_eq_true, Bool.not_eq_true', beq_iff_eq, or_assoc] <;> rfl

section
variable {r : CodeRow} (hr : r ∈ tileCodes) {u : Issue} {f : Fields} {s : State} (hmay : s.mayIssue u.tile.key u.thread = true)
  (hchosen : s.chosen u.tile.key u.thread (s.cycleOf u) = true)
include hr hmay hchosen

/-- A command whose fetch ends in a fault raises it. -/
theorem exec_fetchFault {code : Nat} (hfetches : (s.tile u.tile.key).fetches u.thread r.1 r.2.1 f = true)
    (hfault : fetchFault (s.tile u.tile.key) (s.at_ u) u.thread = some code) : ∃ t, exec (r.2.2 u f) s = .next t ∧ faultDone s t u code 0 := by
  obtain ⟨body, hexec⟩ := exec_issues hr u f
  refine ⟨_, hexec s, faultDone_of_raise (s.booked_books u 0) (State.mayIssue_parts hmay).1 ?_⟩
  have hissue : s.issue u f r.1 r.2.1 body = s.issueNow u body :=
    if_pos (by rw [hmay, hfetches, Bool.true_and, Bool.true_and]; exact hchosen)
  have hcounted : fetchFault ((s.tile u.tile.key).fetchCount ((s.tile u.tile.key).thread u.thread).pc) ((s.tile u.tile.key).thread u.thread) u.thread =
      some code := (fetchFault_fetchCount _).trans hfault
  rw [hissue]
  simp only [State.issueNow, hcounted] <;> rfl

variable (hpc : regBad (s.tile u.tile.key) (s.at_ u) .pc = false)
  (hecc : (s.tile u.tile.key).pstoreEcc.get .good (s.at_ u).pc ≠ .double)
include hpc hecc

/-- What O15 says of a fetch that brings the command's own word. -/
theorem word_faults (hword : wordIs ((s.tile u.tile.key).word (s.at_ u).pc) r.1 r.2.1 f = true) :
    let a := s.tile u.tile.key
    let x := s.at_ u
    let faults := fun code => ∃ t, exec (r.2.2 u f) s = .next t ∧ faultDone s t u code 0
    (regBad a x (.p f.pidx.toNat) = true ∨ (x.loops ≠ [] ∧ regBad a x .loops = true) → faults 0x12) ∧
    (regBad a x (.p f.pidx.toNat) = false → (x.loops = [] ∨ regBad a x .loops = false) →
      (s.holds u f = true → (∃ sp, opSpec r.1 r.2.1 f = some sp ∧ ∃ o ∈ sp.reads f, regBad a x o = true) → faults 0x12) ∧
      ((s.holds u f = false ∨ ∀ sp, opSpec r.1 r.2.1 f = some sp → ∀ o ∈ sp.reads f, regBad a x o = false) →
        r.1 = 2 → (∃ l ∈ x.loops, l.stop = x.pc) → faults 0x01) ∧
      (s.holds u f = true → (∃ sp, opSpec r.1 r.2.1 f = some sp ∧ sp.illegal f = true ∧ ∀ o ∈ sp.reads f, regBad a x o = false) →
        classAllowed r.1 r.2.1 u.thread = true → faults 0x01)) := by
  have hfetches : (s.tile u.tile.key).fetches u.thread r.1 r.2.1 f = true :=
    State.fetches_iff.2 (.inr (.inr (.inr hword)))
  obtain ⟨hcls, hfn, hf⟩ := wordIs_parts hword
  refine ⟨fun hstate => exec_fetchFault hr hmay hchosen hfetches (fetchFault_of_state hpc hecc (by rwa [hf])), fun hpred hloops => ?_⟩
  have hfault := fetchFault_of_goodState (n := u.thread) hpc hecc (by rwa [hf]) hloops
  simp only [hcls, hfn, hf] at hfault
  refine ⟨?_, ?_, ?_⟩
  · rintro hholds ⟨sp, hsp, o, ho, hbad⟩
    refine exec_fetchFault hr hmay hchosen hfetches (hfault.trans (if_pos ?_))
    rw [hsp, show (s.at_ u).holds f = true from hholds]
    exact List.any_eq_true.2 ⟨o, ho, hbad⟩
  · rintro hgood hcontrol ⟨l, hl, hstop⟩
    refine exec_fetchFault hr hmay hchosen hfetches (hfault.trans ((if_neg ?_).trans (if_pos ?_)))
    · rw [Bool.and_eq_true, List.any_eq_true]
      rintro ⟨hholds, o, ho, hbad⟩
      rcases hgood with hoff | hreads
      · exact absurd (hoff.symm.trans hholds) (by decide)
      · cases hsp : opSpec r.1 r.2.1 f with
        | none => rw [hsp] at ho; exact absurd ho List.not_mem_nil
        | some sp => rw [hsp] at ho; exact absurd ((hreads sp hsp o ho).symm.trans hbad) (by decide)
    · have hany : (s.at_ u).loops.any (fun l => l.stop == (s.at_ u).pc) = true := List.any_eq_true.2 ⟨l, hl, beq_iff_eq.2 hstop⟩
      rw [hcontrol, hany]
      rfl
  · rintro hholds ⟨sp, hsp, hillegal, hreads⟩ hclass
    refine exec_fetchFault hr hmay hchosen hfetches (hfault.trans ?_)
    have hgood : (sp.reads f).any (regBad (s.tile u.tile.key) (s.at_ u)) = false :=
      List.any_eq_false.2 fun o ho => by rw [hreads o ho]; exact Bool.false_ne_true
    rw [hsp, show (s.at_ u).holds f = true from hholds, hclass]
    simp only [Option.elim_some, hgood, hillegal, Bool.and_false, Bool.false_eq_true, Bool.not_true, if_false, if_true, ite_self]

/-- A word of no instruction is ILLEGAL where its predicate holds and its thread may issue its class (R59). -/
theorem undefined_faults (hcode : definedCode (wordClass ((s.tile u.tile.key).word (s.at_ u).pc)) (wordFunction ((s.tile u.tile.key).word (s.at_ u).pc)) = false)
    (hpred : regBad (s.tile u.tile.key) (s.at_ u) (.p (fieldsOf ((s.tile u.tile.key).word (s.at_ u).pc)).pidx.toNat) = false)
    (hloops : (s.at_ u).loops = [] ∨ regBad (s.tile u.tile.key) (s.at_ u) .loops = false)
    (hholds : (s.at_ u).holds (fieldsOf ((s.tile u.tile.key).word (s.at_ u).pc)) = true)
    (hclass : classAllowed (wordClass ((s.tile u.tile.key).word (s.at_ u).pc)) (wordFunction ((s.tile u.tile.key).word (s.at_ u).pc)) u.thread = true) :
    ∃ t, exec (r.2.2 u f) s = .next t ∧ faultDone s t u 0x01 0 := by
  refine exec_fetchFault hr hmay hchosen (State.fetches_iff.2 (.inr (.inr (.inl hcode)))) ?_
  rw [fetchFault_of_goodState hpc hecc hpred hloops]
  simp only [opSpec_eq_none hcode, Option.elim_none, List.any_nil, Bool.and_false, Bool.false_eq_true, hholds, hclass, Bool.not_true, if_false, ite_self]

end

/-! ### The faults of a send -/

/-- What O15 says of a send whose body is made of its tests. -/
theorem send_faults {i : Instr} {u : Issue} {f : Fields} {s : State} {cls fn : Nat} {illegal far farOff : Prop} [Decidable illegal] [Decidable far]
    [Decidable farOff] {ea len grain : Nat} {d : Nat → SendDesc} {body : Ctx → Effect} (h : s.legal u f cls fn = true)
    (hexec : exec i s = .next (s.issue u f cls fn body))
    (hbody : body (s.ctxOf u f cls fn) = (s.ctxOf u f cls fn).sendBody illegal ea len grain far farOff d) :
    let faults := fun code addr => ∃ t, exec i s = .next t ∧ faultDone s t u code addr
    let here := ∃ off w w', s.localAt u.tile.key ea false = .at_ off w ∧ s.localAt u.tile.key (ea + len - 1) false = .at_ (off + len - 1) w'
    (illegal → faults 0x01 0) ∧
    (¬ illegal → (¬ here → faults 0x04 ea) ∧ (here → (¬ far → faults 0x04 0) ∧ (far → (ea % grain ≠ 0 → faults 0x03 ea) ∧
      (ea % grain = 0 → farOff → faults 0x03 0)))) := by
  have hfaults : ∀ {code addr}, (s.ctxOf u f cls fn).sendBody illegal ea len grain far farOff d = .fault code addr →
      ∃ t, exec i s = .next t ∧ faultDone s t u code addr := fun hfault => ⟨_, hexec, faultDone_of_body h (hbody.trans hfault)⟩
  have hfaultsEa : ∀ {code}, (s.ctxOf u f cls fn).sendBody illegal ea len grain far farOff d = .fault code (ea % 2 ^ 20) →
      ∃ t, exec i s = .next t ∧ faultDone s t u code ea := fun hfault =>
    (hfaults hfault).imp fun _ ht => ht.imp_right faultDone_offset
  refine ⟨fun hill => hfaults (Ctx.sendBody_illegal hill), fun hleg => ⟨fun hnone => ?_, ?_⟩⟩
  · exact hfaultsEa (Ctx.sendBody_noRange hleg fun off ⟨⟨w, hw⟩, w', hw'⟩ => hnone ⟨off, w, w', hw, hw'⟩)
  · rintro ⟨off, w, w', hw, hw'⟩
    have hrange : (s.ctxOf u f cls fn).s.localRange (s.ctxOf u f cls fn).k ea len off := ⟨⟨w, hw⟩, w', hw'⟩
    exact ⟨fun hfar => hfaults (Ctx.sendBody_noFar hleg hrange hfar), fun hfar =>
      ⟨fun ha => hfaultsEa (Ctx.sendBody_misaligned hleg hrange hfar ha), fun ha hoff => hfaults (Ctx.sendBody_farMisaligned hleg hrange hfar ha hoff)⟩⟩

/-- Settles O15: the sends by `send_faults`, the fetch by the fault that `fetchFault` finds (`exec_fetchFault`). -/
theorem instructionFaults : Obligations.InstructionFaults := by
  refine ⟨fun u f s => ⟨fun h => send_faults h (exec_msend u f s) rfl, fun h => send_faults h (exec_hsend u f s) rfl,
    fun h => send_faults h (exec_hbcast u f s) rfl, fun h => send_faults h (exec_hget u f s) rfl, fun h => send_faults h (exec_esend u f s) rfl⟩,
    fun r hr u f s hmay hchosen => ⟨fun hpc => ?_, fun hpc hecc => ?_, fun hpc hecc hword => ?_, fun hfetched hholds hclass hform => ?_, ?_⟩⟩
  · exact exec_fetchFault hr hmay hchosen (State.fetches_iff.2 (.inl hpc)) (fetchFault_of_pc hpc)
  · exact exec_fetchFault hr hmay hchosen (State.fetches_iff.2 (.inr (.inl hecc))) (fetchFault_of_store hpc hecc)
  · obtain ⟨hstate, hgood⟩ := word_faults hr hmay hchosen hpc hecc hword
    exact ⟨hstate, fun hpred hloops => ⟨(hgood hpred hloops).1, (hgood hpred hloops).2.1⟩⟩
  · obtain ⟨-, -, hword, hpc, hstore, hpred, hloops, -⟩ := fetched_parts hfetched
    have hlevels : (s.at_ u).loops = [] ∨ regBad (s.tile u.tile.key) (s.at_ u) .loops = false :=
      (eq_or_ne (s.at_ u).loops []).imp_right fun hne => Bool.and_eq_false_imp.1 hloops (by rw [List.isEmpty_eq_false_iff.2 hne]; rfl)
    exact (word_faults hr hmay hchosen hpc (beq_eq_false_iff_ne.1 hstore) hword).2 hpred hlevels |>.2.2 hholds hform hclass
  · exact fun hpc hecc hcode hpred hloops hholds hclass => undefined_faults hr hmay hchosen hpc hecc hcode hpred hloops hholds hclass

end Sys2Proof.Machine

namespace Sys2Proof.Machine

/-! ## The end of a remote operation (R92, R277, R278) -/

/-! ### A fabric error (R286) -/

section
variable {s : State} {port coord window code : Nat}

theorem State.recordFirst_shown {status info : Nat} {w : Word} (hinfo : status ≠ info) (hnone : flag (s.reg status) 31 = false) (hcode : code < 256) :
    (s.recordFirst status info code w).reg status = BitVec.ofNat 32 (0x80000000 + code) := by
  unfold State.recordFirst
  rw [if_neg (by rw [hnone]; exact Bool.false_ne_true), State.reg_setReg, if_neg hinfo, State.reg_setReg, if_pos rfl, Nat.mod_eq_of_lt hcode]

@[simp] theorem State.fabricError_tiles : (s.fabricError port coord window code).tiles = s.tiles := by
  unfold State.fabricError
  dsimp only
  split
  · rw [State.charge_tiles, State.faultEvent_tiles, State.recordFirst_tiles]
  · rw [State.faultEvent_tiles, State.recordFirst_tiles]

@[simp] theorem State.fabricError_ports : (s.fabricError port coord window code).ports = s.ports := by
  unfold State.fabricError
  dsimp only
  split
  · rw [State.charge_ports, State.faultEvent_ports, State.recordFirst_ports]
  · rw [State.faultEvent_ports, State.recordFirst_ports]

/-- The registers after a fabric error are those of its record. -/
theorem State.reg_fabricError : ∃ w, ∀ a, (s.fabricError port coord window code).reg a =
    (s.recordFirst (Reg.FAB_ERR_STATUS (if port < 6 then fabIo port else 2)) (Reg.FAB_ERR_INFO (if port < 6 then fabIo port else 2)) code w).reg a := by
  unfold State.fabricError
  extract_lets io info late t
  have ht : ∀ a, t.reg a = (s.recordFirst (Reg.FAB_ERR_STATUS io) (Reg.FAB_ERR_INFO io) code info).reg a := State.reg_faultEvent _ _ _ _ _
  refine ⟨info, fun a => ?_⟩
  split
  · rw [State.reg, State.charge_regs, ← State.reg, ht]
  · exact ht a

/-- An error of no port's shows in the status register of I/O die 2, where none stood. -/
theorem State.fabricError_shown (hnone : flag (s.reg (Reg.FAB_ERR_STATUS 2)) 31 = false) (hcode : code < 256) :
    (s.fabricError 7 coord window code).reg (Reg.FAB_ERR_STATUS 2) = BitVec.ofNat 32 (0x80000000 + code) := by
  obtain ⟨w, hw⟩ := State.reg_fabricError (s := s) (port := 7) (coord := coord) (window := window) (code := code)
  rw [hw]
  exact State.recordFirst_shown (by decide) hnone hcode

theorem State.tile_timeoutError {target : Nat} (k : Nat) : (s.timeoutError target).tile k = s.tile k := by
  change SMap.get _ (s.fabricError 7 target 0 0x08).tiles k = _
  rw [State.fabricError_tiles, State.tile]

theorem State.reg_timeoutError {target : Nat} (hnone : flag (s.reg (Reg.FAB_LOSS 2)) 31 = false) :
    (s.timeoutError target).reg (Reg.FAB_LOSS 2) = BitVec.ofNat 32 (2 ^ 31 + target % 4096) ∧
      (flag (s.reg (Reg.FAB_ERR_STATUS 2)) 31 = false → (s.timeoutError target).reg (Reg.FAB_ERR_STATUS 2) = 0x80000008) := by
  obtain ⟨w, hw⟩ := State.reg_fabricError (s := s) (port := 7) (coord := target) (window := 0) (code := 0x08)
  have hloss : (s.fabricError 7 target 0 0x08).reg (Reg.FAB_LOSS 2) = s.reg (Reg.FAB_LOSS 2) := by
    rw [hw]
    exact State.recordFirst_reg _ _ _ _ _ _ (by decide) (by decide)
  refine ⟨?_, fun hstatus => ?_⟩
  · refine (State.reg_setReg ..).trans ((if_pos rfl).trans ?_)
    rw [hloss, if_neg (by rw [hnone]; exact Bool.false_ne_true)]
    rfl
  · exact (State.reg_setReg ..).trans ((if_neg (by decide)).trans (State.fabricError_shown hstatus (by decide)))

end

theorem State.port_of_ports {s t : State} (h : t.ports = s.ports) (p : Nat) : t.port p = s.port p := by rw [State.port, h, State.port]

/-! ### A response (R92, R277) -/

/-- The thread to which a response is delivered: its result written, zero where it was refused, and its wait ended. -/
def Thread.answered (x : Thread) (d : RemoteDesc) (r : RemoteOut) : Thread :=
  let y := if !(opDelivers r.op) then x
    else if r.vector then x.wv r.dest (if d.status == 0 then d.data else 0) 0
    else x.ws r.dest (if d.status == 0 then d.value else 0) 0
  { y with state := .running, wait := .none, came := true, remote := none }

section
variable (x : Thread) (d : RemoteDesc) (r : RemoteOut)

theorem Thread.answered_pc : (x.answered d r).pc = x.pc := by
  unfold Thread.answered Thread.ws
  split
  · rfl
  split
  · rfl
  split <;> rfl

theorem Thread.answered_rs (m : Nat) : (x.answered d r).rs m =
    if opDelivers r.op ∧ r.vector = false ∧ m = r.dest ∧ m ≠ 0 then (if d.status = 0 then d.value else 0) else x.rs m := by
  cases hop : opDelivers r.op with
  | false =>
    have hrs : (x.answered d r).rs m = x.rs m := by simp only [Thread.answered, hop]; rfl
    simp [hrs]
  | true =>
    cases hv : r.vector with
    | true =>
      have hrs : (x.answered d r).rs m = x.rs m := by simp only [Thread.answered, hop, hv]; rfl
      simp [hrs]
    | false =>
      have hrs : (x.answered d r).rs m = (x.ws r.dest (if d.status == 0 then d.value else 0) 0).rs m := by
        simp only [Thread.answered, hop, hv]; rfl
      rw [hrs, Thread.rs_ws]
      by_cases hm : m = r.dest
      · simp [hm]
      · simp [hm]

theorem Thread.answered_rv (m : Nat) : (x.answered d r).rv m =
    if opDelivers r.op ∧ r.vector = true ∧ m = r.dest then (if d.status = 0 then d.data else 0) else x.rv m := by
  cases hop : opDelivers r.op with
  | false =>
    have hrv : (x.answered d r).rv m = x.rv m := by simp only [Thread.answered, hop]; rfl
    simp [hrv]
  | true =>
    cases hv : r.vector with
    | true =>
      have hrv : (x.answered d r).rv m = (x.wv r.dest (if d.status == 0 then d.data else 0) 0).rv m := by
        simp only [Thread.answered, hop, hv]; rfl
      simp only [hrv, Thread.rv_wv, beq_iff_eq, true_and]
    | false =>
      have hrv : (x.answered d r).rv m = (x.ws r.dest (if d.status == 0 then d.value else 0) 0).rv m := by
        simp only [Thread.answered, hop, hv]; rfl
      rw [hrv, Thread.rv_ws]
      simp

end

section
variable {s : State} {k : Nat} {d : RemoteDesc} {r : RemoteOut}

/-- A thread whose program counter is in the store takes its response. -/
theorem State.takeResponse_eq (hpc : ((s.tile k).thread d.thread).pc ≤ 4095) : s.takeResponse k d r =
    let t := s.setTile k ((s.tile k).setThread d.thread (((s.tile k).thread d.thread).answered d r))
    if d.status = 0 then t else t.fabricError 7 r.target 0 0x09 := by
  have hfinish : s.finish k (s.tile k) d.thread (((s.tile k).thread d.thread).answered d r) =
      s.setTile k ((s.tile k).setThread d.thread (((s.tile k).thread d.thread).answered d r)) :=
    if_neg fun hover => absurd hover.2 (by rw [Thread.answered_pc]; omega)
  dsimp only
  rw [← hfinish]
  by_cases hok : d.status = 0
  · simp only [State.takeResponse, Thread.answered, hok, BEq.rfl, if_true]
  · simp only [State.takeResponse, Thread.answered, beq_false_of_ne hok, Bool.false_eq_true, if_false, if_neg hok]

/-- What a response leaves: its thread answered, nothing else of the tiles changed, and where it was refused, error 0x09. -/
theorem State.takeResponse_ends (hpc : ((s.tile k).thread d.thread).pc ≤ 4095) :
    let t := s.takeResponse k d r
    (t.tile k).thread d.thread = ((s.tile k).thread d.thread).answered d r ∧ t.ports = s.ports ∧ (∀ j, j ≠ k → t.tile j = s.tile j) ∧
      (t.tile k).sram = (s.tile k).sram ∧ (∀ m, m ≠ d.thread.val → (t.tile k).thread m = (s.tile k).thread m) ∧ (d.status = 0 → t.regs = s.regs) ∧
      (d.status ≠ 0 → flag (s.reg (Reg.FAB_ERR_STATUS 2)) 31 = false → t.reg (Reg.FAB_ERR_STATUS 2) = 0x80000009) := by
  have htake := State.takeResponse_eq (r := r) hpc
  have htiles : (s.takeResponse k d r).tiles =
      (s.setTile k ((s.tile k).setThread d.thread (((s.tile k).thread d.thread).answered d r))).tiles := by
    rw [htake]; split
    · rfl
    · exact State.fabricError_tiles
  have htile : ∀ j, (s.takeResponse k d r).tile j =
      if j = k then (s.tile k).setThread d.thread (((s.tile k).thread d.thread).answered d r) else s.tile j := fun j => by
    rw [State.tile, htiles]; exact State.tile_setTile ..
  refine ⟨?_, ?_, fun j hj => (htile j).trans (if_neg hj), ?_, fun m hm => ?_, fun hok => ?_, fun hbad hnone => ?_⟩
  · rw [htile, if_pos rfl, Tile.thread_setThread, if_pos rfl]
  · rw [htake]; split
    · rfl
    · exact State.fabricError_ports
  · rw [htile, if_pos rfl]; rfl
  · rw [htile, if_pos rfl, Tile.thread_setThread, if_neg hm]
  · rw [htake, if_pos hok]; rfl
  · rw [htake, if_neg hbad]
    exact State.fabricError_shown hnone (by decide)

/-- A response whose thread does not wait for it: discarded and counted. -/
def State.discardResponse (s : State) (k : Nat) (d : RemoteDesc) : State :=
  let t := (s.tile k).dropOrphan fun y => y.1 == d.thread.val && y.2.tick == d.tick.toNat && y.2.op == d.op.toNat
  { s.setTile k t with fabric := { s.fabric with stale := s.fabric.stale + 1 } }

theorem State.discardResponse_tile : { (s.discardResponse k d).tile k with orphans := (s.tile k).orphans } = s.tile k := by
  have htile : (s.discardResponse k d).tile k = (s.tile k).dropOrphan _ := (State.tile_setTile ..).trans (if_pos rfl)
  rw [htile]
  rfl

variable {die addr : Nat}

/-- The tile that a response's block names (R273). -/
def State.responseTile (s : State) (die addr : Nat) : Nat := posKey die (addr / 2 ^ 23 % 64) (s.physCol die (addr / 2 ^ 23 % 64) (addr / 2 ^ 17 % 64))

theorem State.remoteAnswered_eq : s.remoteAnswered die addr d =
    match ((s.tile (s.responseTile die addr)).thread d.thread).remote with
    | none => s.discardResponse (s.responseTile die addr) d
    | some r =>
      if d.tick.toNat ≠ s.seq % 256 ∨ d.tick.toNat ≠ r.tick ∨ r.timedOut ∨ ((s.tile (s.responseTile die addr)).thread d.thread).state ≠ .parked then
        s.discardResponse (s.responseTile die addr) d
      else s.takeResponse (s.responseTile die addr) d r := rfl

theorem State.remoteAnswered_takes (hr : ((s.tile (s.responseTile die addr)).thread d.thread).remote = some r)
    (hparked : ((s.tile (s.responseTile die addr)).thread d.thread).state = .parked) (hwaits : r.timedOut = false) (htick : d.tick.toNat = r.tick)
    (hnow : r.tick = s.seq % 256) : s.remoteAnswered die addr d = s.takeResponse (s.responseTile die addr) d r := by
  rw [State.remoteAnswered_eq, hr]
  refine if_neg ?_
  rintro (hne | hne | hout | hne)
  · exact hne (htick.trans hnow)
  · exact hne htick
  · exact absurd (hwaits.symm.trans hout) (by decide)
  · exact hne hparked

theorem State.remoteAnswered_discards (h : d.tick.toNat ≠ s.seq % 256 ∨ ((s.tile (s.responseTile die addr)).thread d.thread).remote = none ∨
      ∃ o, ((s.tile (s.responseTile die addr)).thread d.thread).remote = some o ∧ (o.timedOut = true ∨ d.tick.toNat ≠ o.tick)) :
    s.remoteAnswered die addr d = s.discardResponse (s.responseTile die addr) d := by
  rw [State.remoteAnswered_eq]
  cases hr : ((s.tile (s.responseTile die addr)).thread d.thread).remote with
  | none => rfl
  | some r =>
    refine if_pos ?_
    rcases h with hne | hnone | ⟨o, ho, hout | hne⟩
    · exact .inl hne
    · exact absurd (hr.symm.trans hnone) (Option.some_ne_none r)
    · obtain rfl := Option.some.inj (hr.symm.trans ho)
      exact .inr (.inr (.inl hout))
    · obtain rfl := Option.some.inj (hr.symm.trans ho)
      exact .inr (.inl hne)

end

section
variable {p : Fin 16} {io : Fin 2} {s : State} {b : HBlock} {bs : List HBlock}

/-- The state in which the remote unit has taken the oldest block of its reserve. -/
def State.responseTaken (s : State) (p : Fin 16) (io : Fin 2) (bs : List HBlock) : State := s.setPort p ((s.port p).setReserve (34 + io) bs)

theorem State.reserve_responseTaken : ((s.responseTaken p io bs).port p).reserve (34 + io) = bs := by
  unfold State.responseTaken
  rw [State.port_setPort, if_pos rfl]
  exact (SMap.get_set ..).trans (if_pos rfl)

theorem exec_remoteResponse (hb : (s.port p).reserve (34 + io) = b :: bs) (hstream : b.stream = 0xFF) :
    exec (.remoteResponse p io) s = .next ((s.responseTaken p io bs).remoteAnswered p b.addr (descOf (leNat b.data))) := by
  simp only [exec, execRemoteResponse, hb, hstream, ne_eq, not_true_eq_false, if_false] <;> rfl

end

/-! ### A timeout (R278) -/

section
variable {k : TileId} {n : Fin 4} {s : State} {o : RemoteOut}

/-- The timer of a parked thread's operation runs out: the operation is marked, the thread stays as it is. -/
theorem exec_remoteTimeout_parked (ho : ((s.tile k.key).thread n).remote = some o) (hwaits : o.timedOut = false)
    (hothers : ∀ y ∈ (s.tile k.key).orphans, y.1 ≠ n.val) : exec (.remoteTimeout k n) s =
      .next ((s.setTile k.key ((s.tile k.key).setThread n
        { (s.tile k.key).thread n with remote := some { o with timedOut := true } })).timeoutError o.target) := by
  have hnone : (s.tile k.key).orphans.find? (fun y => y.1 == n.val) = none :=
    List.find?_eq_none.2 fun y hy => by simpa using hothers y hy
  simp only [exec, execRemoteTimeout, hnone, ho, hwaits, Bool.false_eq_true, if_false]

/-- The timer of an operation of an earlier tick runs out. -/
theorem exec_remoteTimeout_orphan {rest : List (Nat × RemoteOut)} (horphans : (s.tile k.key).orphans = (n.val, o) :: rest) :
    exec (.remoteTimeout k n) s = .next ((s.setTile k.key { s.tile k.key with orphans := rest }).timeoutError o.target) := by
  have hfirst : (s.tile k.key).orphans.find? (fun y => y.1 == n.val) = some (n.val, o) := by
    rw [horphans]; exact List.find?_cons_of_pos BEq.rfl
  have hrest : (s.tile k.key).dropOrphan (fun y => y.1 == n.val) = { s.tile k.key with orphans := rest } := by
    have herased : (s.tile k.key).orphans.eraseP (fun y => y.1 == n.val) = rest := by
      rw [horphans]; exact List.eraseP_cons_of_pos BEq.rfl
    exact congrArg (fun l => { s.tile k.key with orphans := l }) herased
  simp only [exec, execRemoteTimeout, hfirst, hrest]

end

/-- Settles O18: responses by `State.remoteAnswered_takes` and `State.remoteAnswered_discards`, timeouts by `State.reg_timeoutError`. -/
theorem remoteEnds : Obligations.RemoteEnds := by
  refine ⟨fun p io s b bs hb hstream => ⟨fun o ho hparked hpc hwaits htick hnow => ?_, fun hlate => ?_⟩, fun k n s hloss => ⟨fun o ho hwaits hothers => ?_,
    fun o rest horphans => ?_⟩⟩
  · have htaken := State.remoteAnswered_takes (s := s.responseTaken p io bs) ho hparked hwaits htick hnow
    refine ⟨_, (exec_remoteResponse hb hstream).trans (congrArg _ htaken), ?_⟩
    obtain ⟨hthread, hports, hothers, hsram, hthreads, hok, hbad⟩ := State.takeResponse_ends (s := s.responseTaken p io bs)
      (k := s.responseTile p b.addr) (d := descOf (leNat b.data)) (r := o) hpc
    refine ⟨?_, ?_, ?_, ?_, hothers, hsram, hthreads, fun m => ?_, fun m => ?_, hok, hbad⟩
    · exact congrArg Thread.state hthread
    · exact congrArg Thread.remote hthread
    · exact (congrArg Thread.pc hthread).trans (Thread.answered_pc ..)
    · exact (congrArg (fun x => HPort.reserve x _) (State.port_of_ports hports p)).trans State.reserve_responseTaken
    · exact (congrArg (Thread.rs · m) hthread).trans (Thread.answered_rs ..)
    · exact (congrArg (Thread.rv · m) hthread).trans (Thread.answered_rv ..)
  · have hdropped := State.remoteAnswered_discards (s := s.responseTaken p io bs) hlate
    exact ⟨_, (exec_remoteResponse hb hstream).trans (congrArg _ hdropped), State.reserve_responseTaken, rfl,
      fun j hj => (State.tile_setTile ..).trans (if_neg hj), State.discardResponse_tile, rfl⟩
  · have hthread : ∀ y, ((((s.setTile k.key ((s.tile k.key).setThread n y)).timeoutError o.target).tile k.key).thread n) = y := fun y => by
      rw [State.tile_timeoutError, State.tile_setTile, if_pos rfl, Tile.thread_setThread, if_pos rfl]
    exact ⟨_, exec_remoteTimeout_parked ho hwaits hothers, (congrArg Thread.state (hthread _)).trans rfl,
      (congrArg Thread.remote (hthread _)).trans rfl, State.reg_timeoutError hloss⟩
  · have htile : ∀ y, ((s.setTile k.key y).timeoutError o.target).tile k.key = y := fun y => by
      rw [State.tile_timeoutError, State.tile_setTile, if_pos rfl]
    exact ⟨_, exec_remoteTimeout_orphan horphans, (congrArg Tile.threads (htile _)).trans rfl,
      (congrArg Tile.orphans (htile _)).trans rfl, State.reg_timeoutError hloss⟩

end Sys2Proof.Machine

namespace Sys2Proof.Machine

/-! ## Injection into the mesh (R80, R133, R138) -/

/-! ### Threads released from their waits -/

/-- Of the state, only the threads of one core and its record of faults have changed, as where threads wake. -/
structure Woken (s t : State) (k : Nat) : Prop where
  others : ∀ j, j ≠ k → t.tile j = s.tile j
  tile : ∃ xs m h, t.tile k = { s.tile k with threads := xs, til := m, hwFault := h }
  flights : t.flights = s.flights
  routers : t.routers = s.routers
  draws : t.draws = s.draws
  regs : t.regs = s.regs

section
variable {s t u : State} {k : Nat}

theorem Woken.refl (s : State) (k : Nat) : Woken s s k := ⟨fun _ _ => rfl, ⟨_, _, _, rfl⟩, rfl, rfl, rfl, rfl⟩

theorem Woken.trans (h : Woken s t k) (h' : Woken t u k) : Woken s u k := by
  obtain ⟨xs, m, b, htile⟩ := h.tile
  obtain ⟨xs', m', b', htile'⟩ := h'.tile
  exact ⟨fun j hj => (h'.others j hj).trans (h.others j hj), ⟨xs', m', b', by rw [htile', htile]⟩, h'.flights.trans h.flights, h'.routers.trans h.routers,
    h'.draws.trans h.draws, h'.regs.trans h.regs⟩

theorem Woken.ite {c : Prop} [Decidable c] (h : Woken s t k) (h' : Woken s u k) : Woken s (if c then t else u) k := by
  split
  · exact h
  · exact h'

theorem Woken.setThread (s : State) (k n : Nat) (x : Thread) : Woken s (s.setTile k ((s.tile k).setThread n x)) k :=
  ⟨fun _ hj => (State.tile_setTile ..).trans (if_neg hj), ⟨_, _, _, (State.tile_setTile ..).trans (if_pos rfl)⟩, rfl, rfl, rfl, rfl⟩

/-- A core's own fault, of no hardware, leaves the module's registers alone. -/
theorem State.raise_regs_of_lt {b : Tile} {n pc code addr : Nat} (hcode : code < 0x10) : (s.raise k b n pc code addr).regs = s.regs := by
  have hsoft : ¬code ≥ 0x10 := by omega
  simp only [State.raise, if_neg hsoft, State.charge_regs, State.faultEvent_regs, State.setTile_regs]

theorem Woken.wake (s : State) (k n : Nat) : Woken s (s.wake k n) k := by
  unfold State.wake State.finish
  dsimp only
  split
  · obtain ⟨xs, m, h, hraised⟩ := Tile.raised_eq
      ((s.tile k).setThread n { (s.tile k).thread n with state := .running, wait := .none, came := true }) n 4095 0x01 0
    exact ⟨fun j hj => (State.tile_raise ..).trans (if_neg hj), ⟨xs, m, h, (State.tile_raise ..).trans ((if_pos rfl).trans hraised)⟩,
      State.raise_flights .., State.raise_routers .., State.raise_draws .., State.raise_regs_of_lt (by decide)⟩
  · exact Woken.setThread ..

theorem Woken.serveSends (s : State) (k : Nat) (ns : List Nat) : Woken s (s.serveSends k ns) k := by
  induction ns generalizing s with
  | nil => exact .refl s k
  | cons n ns ih =>
    have hwake : Woken s ((s.wake k n).serveSends k ns) k := (Woken.wake s k n).trans (ih _)
    unfold State.serveSends
    dsimp only
    split
    · split
      · exact hwake
      · exact (Woken.setThread ..).trans (ih _)
    · split
      · exact ih s
      · exact hwake
    · exact hwake
    · split
      · exact hwake
      · exact ih s
    · exact ih s

theorem Woken.queue (h : Woken s t k) (n : Nat) : (t.tile k).queue n = (s.tile k).queue n := by
  obtain ⟨xs, m, b, htile⟩ := h.tile
  rw [htile]
  rfl

theorem Woken.sram (h : Woken s t k) : (t.tile k).sram = (s.tile k).sram := by
  obtain ⟨xs, m, b, htile⟩ := h.tile
  rw [htile]

theorem Woken.router (h : Woken s t k) (j : Nat) : t.router j = s.router j := congrArg (SMap.get _ · j) h.routers

end

/-! ### A packet at its router -/

section
variable (s : State) (f : Flight)

@[simp] theorem State.launch_flights : (s.launch f).flights = s.flights ++ [f] := by
  unfold State.launch State.traffic; dsimp only; split <;> rfl
@[simp] theorem State.launch_tiles : (s.launch f).tiles = s.tiles := by
  unfold State.launch State.traffic; dsimp only; split <;> rfl
@[simp] theorem State.launch_draws : (s.launch f).draws = s.draws := by
  unfold State.launch State.traffic; dsimp only; split <;> rfl

@[simp] theorem State.launch_left (j : Nat) : ((s.launch f).router j).left = (s.router j).left := by
  unfold State.launch State.traffic
  dsimp only
  split
  · rw [State.router_setRouter]
    split
    next hj => rw [hj]; rfl
    · rfl
  · rfl

end

/-! ### A packet that leaves its queue whole -/

section
variable {d : SendDesc} {ds : List SendDesc}

theorem nextSend_of_head (h : d.injected = false) : nextSend (d :: ds) = some d := List.find?_cons_of_pos (by rw [h]; rfl)

theorem replaceSend_of_head (h : d.injected = false) (x : Option SendDesc) : replaceSend x (d :: ds) = x.toList ++ ds :=
  if_neg (by rw [h]; exact Bool.false_ne_true)

@[simp] theorem Tile.queue_setQueue (t : Tile) (n : Nat) (l : List SendDesc) : (t.setQueue n l).queue n = l := by
  unfold Tile.setQueue Tile.queue
  split <;> rfl

@[simp] theorem Tile.sram_setQueue (t : Tile) (n : Nat) (l : List SendDesc) : (t.setQueue n l).sram = t.sram := by
  unfold Tile.setQueue
  split <;> rfl

/-- The core once the router has read words `ws` of its SRAM for a thread whose coding raised flags `fl`. -/
def Tile.read (t : Tile) (ws : List Nat) (n fl : Nat) : Tile := if fl = 0 then t.countFixes ws else (t.countFixes ws).setFlags n fl

theorem Tile.read_eq (t : Tile) (ws : List Nat) (n fl : Nat) : ∃ m, t.read ws n fl = { t with til := m } := by
  have hfix : ∃ m, t.countFixes ws = { t with til := m } := by
    unfold Tile.countFixes
    split
    · exact ⟨_, rfl⟩
    · exact ⟨_, rfl⟩
  obtain ⟨m, hm⟩ := hfix
  unfold Tile.read
  split
  · exact ⟨m, hm⟩
  · rw [hm]; exact ⟨_, rfl⟩

theorem Tile.queue_read (t : Tile) (ws : List Nat) (n fl m : Nat) : (t.read ws n fl).queue m = t.queue m := by
  obtain ⟨til, h⟩ := t.read_eq ws n fl
  rw [h]; rfl

theorem Tile.sram_read (t : Tile) (ws : List Nat) (n fl : Nat) : (t.read ws n fl).sram = t.sram := by
  obtain ⟨til, h⟩ := t.read_eq ws n fl
  rw [h]

/-- A descriptor at the start of its packet `i`: nothing of it read, no error met. -/
structure SendDesc.Fresh (d : SendDesc) (i : Nat) : Prop where
  sent : d.sent = d.stride * i
  part : d.part = []
  partBad : d.partBad = none
  poison : d.poison = false
  more : i < d.packets
  fits : d.packetFlits i ≤ d.stride
  covers : (d.source i).2 ≤ d.grain * (d.packetFlits i - 1)

theorem SendDesc.stride_pos (d : SendDesc) : 0 < d.stride := by unfold SendDesc.stride; split <;> decide

/-- The payload of packet `i` as the router reads it now, with the flags and the draws its coding used. -/
def SendDesc.packetPayload (d : SendDesc) (draws : Nat) (t : Tile) (i : Nat) : List Byte × Nat × Nat :=
  d.payload draws t (d.source i).1 (d.source i).2

/-- A descriptor whose packet `i` has all been read. -/
def SendDesc.filled (d : SendDesc) (draws : Nat) (t : Tile) (i : Nat) : SendDesc :=
  { d with sent := d.stride * i + d.packetFlits i, part := (d.packetPayload draws t i).1 }

variable {i : Nat}

theorem SendDesc.Fresh.packet_eq (h : d.Fresh i) : d.packet = i := by
  rw [SendDesc.packet, h.sent, Nat.mul_div_cancel_left _ d.stride_pos]

theorem SendDesc.Fresh.injected_eq (h : d.Fresh i) : d.injected = false :=
  decide_eq_false (by rw [h.sent, Nat.not_le]; exact Nat.mul_lt_mul_of_pos_left h.more d.stride_pos)

/-- All flits of a fresh packet, read at once from good words. -/
theorem Tile.inject_whole {t : Tile} {draws : Nat} (h : d.Fresh i) (hgood : t.badWord (wordsOf (d.source i).1 (d.source i).2) = none) :
    t.inject draws d 0 (d.packetFlits i) = (d.filled draws t i,
      t.read (wordsOf (d.source i).1 (d.source i).2) d.thread (d.packetPayload draws t i).2.1, none, (d.packetPayload draws t i).2.2) := by
  have hlo : min (d.source i).2 (d.grain * (0 - 1)) = 0 := by simp
  have hhi : min (d.source i).2 (d.grain * (d.packetFlits i - 1)) = (d.source i).2 := min_eq_left h.covers
  simp only [Tile.inject, h.packet_eq, hlo, hhi, Nat.add_zero, Nat.sub_zero, hgood, h.part, h.partBad, h.poison, h.sent, List.nil_append, Option.map_none,
    Option.isSome_none, Bool.or_self]
  refine Prod.ext ?_ rfl
  have hkept : d = { d with partBad := none, poison := false } := by rw [← h.partBad, ← h.poison]
  rw [SendDesc.filled, hkept]
  rfl

end

section
variable {s : State} {k : Nat} {loose : Bool} {n : Nat} {d : SendDesc} {ds : List SendDesc} {i : Nat}

/-- The state in which the router has read packet `i` of the descriptor at the head of a queue, which then holds `q`. -/
def State.packetRead (s : State) (k m : Nat) (d : SendDesc) (i : Nat) (q : List SendDesc) : State :=
  let x := d.packetPayload s.draws (s.tile k) i
  ({ s with draws := x.2.2 } : State).setTile k (((s.tile k).read (wordsOf (d.source i).1 (d.source i).2) d.thread x.2.1).setQueue m q)

/-- A fresh packet, all of whose flits the router takes from good words: it stands at its router, and its descriptor goes with its last packet. -/
theorem State.injectHead_whole (hqueue : (s.tile k).queue (if loose then 1 else 0) = d :: ds) (h : d.Fresh i) (hkind : ∀ m st c, d.kind ≠ .hget m st c)
    (hflits : d.packetFlits i ≤ n) (hgood : (s.tile k).badWord (wordsOf (d.source i).1 (d.source i).2) = none) : s.injectHead k loose n =
    let s1 := s.packetRead k (if loose then 1 else 0) d i (if i + 1 < d.packets then { d with sent := d.stride * (i + 1) } :: ds else ds)
    let s2 := s1.launch (s1.sentPacket k (d.filled s.draws (s.tile k) i) i)
    if i + 1 < d.packets then s2 else s2.serveSends k (if loose then [1, 2, 3] else [0]) := by
  have hmod : d.sent % d.stride = 0 := by rw [h.sent, Nat.mul_mod_right]
  have hmin : min (d.packetFlits i) (0 + n) = d.packetFlits i := by omega
  have hnext : ({ d.filled s.draws (s.tile k) i with sent := d.stride * (i + 1), part := [], partBad := none } : SendDesc) =
      { d with sent := d.stride * (i + 1) } := by
    rw [SendDesc.filled, ← h.part, ← h.partBad]
  have hgone : (!({ d with sent := d.stride * (i + 1) } : SendDesc).injected || false) = decide (i + 1 < d.packets) := by
    have hle : d.stride * d.packets ≤ d.stride * (i + 1) ↔ d.packets ≤ i + 1 := Nat.mul_le_mul_left_iff d.stride_pos
    rw [Bool.or_false, SendDesc.injected, ← decide_not]
    exact decide_eq_decide.2 ((not_congr hle).trans Nat.not_le)
  have hq := fun x => (congrArg (replaceSend x) (((s.tile k).queue_read (wordsOf (d.source i).1 (d.source i).2) d.thread
    (d.packetPayload s.draws (s.tile k) i).2.1 (if loose then 1 else 0)).trans hqueue)).trans (replaceSend_of_head h.injected_eq x)
  simp only [State.injectHead, hqueue, nextSend_of_head h.injected_eq, h.packet_eq, hmod, hmin, Tile.inject_whole h hgood, BEq.rfl, if_true, hnext, hgone, hq,
    decide_eq_true_eq]
  by_cases hmore : i + 1 < d.packets
  · simp only [if_pos hmore]; rfl
  · simp only [if_neg hmore]; rfl

/-- What an injected packet leaves behind. -/
theorem State.injectHead_leaves (hqueue : (s.tile k).queue (if loose then 1 else 0) = d :: ds) (h : d.Fresh i) (hkind : ∀ m st c, d.kind ≠ .hget m st c)
    (hflits : d.packetFlits i ≤ n) (hgood : (s.tile k).badWord (wordsOf (d.source i).1 (d.source i).2) = none) :
    let t := s.injectHead k loose n
    t.flights = s.flights ++ [s.sentPacket k (d.filled s.draws (s.tile k) i) i] ∧
      (t.tile k).queue (if loose then 1 else 0) = (if i + 1 < d.packets then { d with sent := d.stride * (i + 1) } :: ds else ds) ∧
      (t.tile k).sram = (s.tile k).sram ∧ (∀ j, j ≠ k → t.tile j = s.tile j) ∧ t.draws = (d.packetPayload s.draws (s.tile k) i).2.2 ∧
      ∀ j, (t.router j).left = (s.router j).left := by
  dsimp only
  rw [State.injectHead_whole hqueue h hkind hflits hgood]
  dsimp only
  generalize (if i + 1 < d.packets then { d with sent := d.stride * (i + 1) } :: ds else ds) = q
  have hsent : (s.packetRead k (if loose then 1 else 0) d i q).sentPacket k (d.filled s.draws (s.tile k) i) i =
      s.sentPacket k (d.filled s.draws (s.tile k) i) i := rfl
  rw [hsent]
  generalize s.sentPacket k (d.filled s.draws (s.tile k) i) i = f
  have hwoken : Woken ((s.packetRead k (if loose then 1 else 0) d i q).launch f) (if i + 1 < d.packets then (s.packetRead k (if loose then 1 else 0) d i q).launch f
      else ((s.packetRead k (if loose then 1 else 0) d i q).launch f).serveSends k (if loose then [1, 2, 3] else [0])) k := .ite (.refl ..) (.serveSends ..)
  have htile : ∀ j, ((s.packetRead k (if loose then 1 else 0) d i q).launch f).tile j = (s.packetRead k (if loose then 1 else 0) d i q).tile j := fun j =>
    congrArg (SMap.get _ · j) (State.launch_tiles ..)
  have hown : (s.packetRead k (if loose then 1 else 0) d i q).tile k = ((s.tile k).read (wordsOf (d.source i).1 (d.source i).2) d.thread
      (d.packetPayload s.draws (s.tile k) i).2.1).setQueue (if loose then 1 else 0) q := (State.tile_setTile ..).trans (if_pos rfl)
  refine ⟨?_, ?_, ?_, fun j hj => ?_, ?_, fun j => ?_⟩
  · rw [hwoken.flights, State.launch_flights]; rfl
  · rw [hwoken.queue, htile, hown, Tile.queue_setQueue]
  · rw [hwoken.sram, htile, hown, Tile.sram_setQueue, Tile.sram_read]
  · rw [hwoken.others j hj, htile]; exact (State.tile_setTile ..).trans (if_neg hj)
  · rw [hwoken.draws, State.launch_draws]; rfl
  · rw [hwoken.router, State.launch_left]; rfl

end

/-! ### SEND_INJECT -/

section
variable {s : State} {p : TileId} {loose : Bool} {d : SendDesc} {ds : List SendDesc} {i : Nat}

/-- The router whose open window lets `n` more flits through (R138). -/
def Router.took (r : Router) (n : Nat) : Router :=
  { r with left := r.left - n, isOpen := decide (r.left - n ≠ 0), window := (if r.left - n = 0 then r.window + 1 else r.window) }

theorem SendDesc.Fresh.lengthGood (h : d.Fresh i) {k : Nat} (hlength : i = 0 → s.emberLength k d = false) : (d.sent == 0 && s.emberLength k d) = false := by
  rcases Nat.eq_zero_or_pos i with hzero | hpos
  · rw [hlength hzero, Bool.and_false]
  · have hsent : d.sent ≠ 0 := by rw [h.sent]; exact (Nat.mul_pos d.stride_pos hpos).ne'
    rw [beq_false_of_ne hsent, Bool.false_and]

theorem exec_sendInject_loose (hqueue : (s.tile p.key).queue 1 = d :: ds) (h : d.Fresh i) (hticking : s.ticking = true)
    (hpower : s.tilePowered p.key = true) (hlength : i = 0 → s.emberLength p.key d = false) (hloose : flag (s.reg (Reg.MSH_CTRL p.die)) 0 = true) :
    exec (.sendInject p true) s = .next (s.injectHead p.key true 17) := by
  rw [← TileId.keyDie_key] at hloose
  simp only [exec, execSendInject, if_true, hqueue, nextSend_of_head h.injected_eq, hticking, hpower, Bool.and_self, Bool.not_true, Bool.false_eq_true,
    if_false, h.lengthGood hlength, hloose]

theorem exec_sendInject_bound (hqueue : (s.tile p.key).queue 0 = d :: ds) (h : d.Fresh i) (hticking : s.ticking = true)
    (hpower : s.tilePowered p.key = true) (hlength : i = 0 → s.emberLength p.key d = false) (hopen : (s.router p.key).isOpen = true)
    (hleft : d.packetFlits i ≤ (s.router p.key).left) : exec (.sendInject p false) s =
    .next ((s.setRouter p.key ((s.router p.key).took (d.packetFlits i))).injectHead p.key false (d.packetFlits i)) := by
  have hmod : d.sent % d.stride = 0 := by rw [h.sent, Nat.mul_mod_right]
  simp only [exec, execSendInject, Bool.false_eq_true, if_false, hqueue, nextSend_of_head h.injected_eq, hticking, hpower, Bool.and_self, Bool.not_true,
    h.lengthGood hlength, hopen, if_true, h.packet_eq, hmod, Nat.sub_zero, min_eq_right hleft]
  rfl

/-- A fresh packet of good words leaves through the open window, or on the loose channel. -/
theorem exec_sendInject_fresh (hqueue : (s.tile p.key).queue (if loose then 1 else 0) = d :: ds) (h : d.Fresh i) (hkind : ∀ m st c, d.kind ≠ .hget m st c)
    (hticking : s.ticking = true) (hpower : s.tilePowered p.key = true) (hlength : i = 0 → s.emberLength p.key d = false)
    (hgood : (s.tile p.key).badWord (wordsOf (d.source i).1 (d.source i).2) = none) (hloose : loose = true → flag (s.reg (Reg.MSH_CTRL p.die)) 0 = true)
    (hopen : loose = false → (s.router p.key).isOpen = true ∧ d.packetFlits i ≤ (s.router p.key).left) :
    ∃ t, exec (.sendInject p loose) s = .next t ∧ t.flights = s.flights ++ [s.sentPacket p.key (d.filled s.draws (s.tile p.key) i) i] ∧
      (t.tile p.key).queue (if loose then 1 else 0) = (if i + 1 < d.packets then { d with sent := d.stride * (i + 1) } :: ds else ds) ∧
      (t.tile p.key).sram = (s.tile p.key).sram ∧ (∀ j, j ≠ p.key → t.tile j = s.tile j) ∧
      t.draws = (d.packetPayload s.draws (s.tile p.key) i).2.2 ∧
      (loose = false → (t.router p.key).left = (s.router p.key).left - d.packetFlits i) := by
  cases loose with
  | true =>
    have hflits : d.packetFlits i ≤ 17 := h.fits.trans (by unfold SendDesc.stride; split <;> decide)
    obtain ⟨hflights, hq, hsram, hothers, hdraws, -⟩ := State.injectHead_leaves (loose := true) hqueue h hkind hflits hgood
    exact ⟨_, exec_sendInject_loose hqueue h hticking hpower hlength (hloose rfl), hflights, hq, hsram, hothers, hdraws, nofun⟩
  | false =>
    obtain ⟨hisOpen, hleft⟩ := hopen rfl
    obtain ⟨hflights, hq, hsram, hothers, hdraws, hrouter⟩ := State.injectHead_leaves (loose := false)
      (s := s.setRouter p.key ((s.router p.key).took (d.packetFlits i))) hqueue h hkind le_rfl hgood
    refine ⟨_, exec_sendInject_bound hqueue h hticking hpower hlength hisOpen hleft, hflights, hq, hsram, hothers, hdraws, fun _ => (hrouter _).trans ?_⟩
    rw [State.router_setRouter, if_pos rfl]
    rfl

end

end Sys2Proof.Machine

namespace Sys2Proof.Machine

/-! ## Mesh slot windows and mesh packets (R80, R133, R138) -/

section
variable {s : State} {k i : Nat} {d : SendDesc} {r : Word}

/-- A mesh descriptor of whole flits at the start of a packet is fresh. -/
theorem SendDesc.fresh_mesh (hkind : d.kind = .mesh r) (hsent : d.sent = 17 * i) (hi : 512 * i < d.len) (hpart : d.part = []) (hbad : d.partBad = none)
    (hpoison : d.poison = false) (hlen : d.len % 32 = 0) : d.Fresh i ∧ d.packetFlits i = 1 + min 512 (d.len - 512 * i) / 32 := by
  have hflits : d.packetFlits i = 1 + (min 512 (d.len - 512 * i) + 31) / 32 := by simp only [SendDesc.packetFlits, hkind]
  have hstride : d.stride = 17 := by simp only [SendDesc.stride, hkind]
  have hpackets : d.packets = (d.len + 511) / 512 := by simp only [SendDesc.packets, hkind]
  have hsource : (d.source i).2 = min 512 (d.len - 512 * i) := by simp only [SendDesc.source, hkind]
  have hgrain : d.grain = 32 := by simp only [SendDesc.grain, hkind]
  refine ⟨⟨by rw [hsent, hstride], hpart, hbad, hpoison, ?_, ?_, ?_⟩, ?_⟩
  · rw [hpackets]; omega
  · rw [hflits, hstride]; omega
  · rw [hsource, hgrain, hflits]; omega
  · rw [hflits]; omega

/-- The fields of a mesh send's packet that depend on no route. -/
theorem State.sentPacket_mesh (hkind : d.kind = .mesh r) : let f := s.sentPacket k d i
    f.router = k ∧ f.port = 0 ∧ f.target = 0 ∧ f.data = d.part ∧ f.offset = d.dst + 512 * i ∧ f.index = i ∧ f.last = decide (i + 1 = (d.len + 511) / 512) ∧
      f.ctr = fld r 3 0 ∧ f.tick = s.seq % 256 ∧ f.srcRow = keyRow k ∧ f.srcCol = keyCol k ∧ (f.loose = true ↔ d.thread ≠ 0) ∧ f.poison = d.partBad ∧
      f.mute = d.poison ∧ f.turned = none ∧ f.mode = fld r 31 30 := by
  have hpackets : d.packets = (d.len + 511) / 512 := by simp only [SendDesc.packets, hkind]
  simp only [State.sentPacket, hkind, hpackets]
  split <;> exact ⟨rfl, rfl, rfl, rfl, rfl, rfl, rfl, rfl, rfl, rfl, rfl, decide_eq_true_iff, rfl, rfl, rfl, rfl⟩

/-- The route of a mesh send's packet by its mode (R129). -/
theorem State.sentPacket_route (hkind : d.kind = .mesh r) : let f := s.sentPacket k d i
    (f.mode = 0 → f.rowA = fld r 29 24 ∧ f.colA = fld r 23 18 ∧ f.red = flag r 17 ∧ f.bf16 = (flag r 17 && flag r 16) ∧ f.tag = fld r 15 8 ∧ f.weight = 1) ∧
      (f.mode = 1 → f.rowA = fld r 29 24 ∧ f.rowB = fld r 23 18 ∧ f.colA = fld r 17 12 ∧ f.colB = fld r 11 6) ∧
      (f.mode = 2 → f.group = fld r 7 4) := by
  simp only [State.sentPacket, hkind]
  split
  next h0 => exact ⟨fun _ => ⟨rfl, rfl, rfl, rfl, rfl, rfl⟩, fun h => absurd (h0.symm.trans h) (by decide), fun h => absurd (h0.symm.trans h) (by decide)⟩
  next h1 => exact ⟨fun h => absurd (h1.symm.trans h) (by decide), fun _ => ⟨rfl, rfl, rfl, rfl⟩, fun h => absurd (h1.symm.trans h) (by decide)⟩
  next h0 h1 => exact ⟨fun h => (h0 h).elim, fun h => (h1 h).elim, fun _ => rfl⟩

end

theorem TileId.keyCol_key (k : TileId) : keyCol k.key = k.pcol.val := by
  have := k.pcol.isLt
  unfold keyCol TileId.key
  omega

/-- A due window of the slot table opens with its count (R138). -/
theorem exec_meshSlotWindowOpen {s : State} {p : TileId} {cycle : Nat} (hticking : s.ticking = true) (hopen : s.tick.isOpen = true)
    (hshut : (s.router p.key).isOpen = false) (hwindow : (s.router p.key).window < 512)
    (hvalid : flag (s.tblWord (tblKey 0 p.key 3 (2 * (s.router p.key).window + 1))) 31 = true)
    (hcount : fld (s.tblWord (tblKey 0 p.key 3 (2 * (s.router p.key).window + 1))) 15 0 ≠ 0) : exec (.meshSlotWindowOpen p cycle) s =
    .next (if (s.tblWord (tblKey 0 p.key 3 (2 * (s.router p.key).window))).toNat ≤ cycle then
      s.setRouter p.key { s.router p.key with
        isOpen := true, left := fld (s.tblWord (tblKey 0 p.key 3 (2 * (s.router p.key).window + 1))) 15 0 } else s) := by
  simp only [exec, execMeshSlotWindowOpen, hticking, hopen, hshut, hvalid, decide_eq_true hwindow, Bool.not_false, Bool.and_self, Bool.true_and,
    decide_eq_true_eq, if_neg hcount]
  split <;> rfl

/-- Settles O24: a window opens by its tests, a fresh packet leaves whole (`exec_sendInject_fresh`). -/
theorem meshInjection : Obligations.MeshInjection := by
  refine ⟨fun p cycle s => exec_meshSlotWindowOpen, fun p loose s d ds r i => ?_⟩
  intro k n ends hqueue hkind hmode hsent hi hpart hbad hpoison hlen hticking hpower hgood hloose hwindow
  obtain ⟨hfresh, hflits⟩ := SendDesc.fresh_mesh hkind hsent hi hpart hbad hpoison hlen
  have hpackets : d.packets = (d.len + 511) / 512 := by simp only [SendDesc.packets, hkind]
  have hstride : d.stride = 17 := by simp only [SendDesc.stride, hkind]
  have hsource : d.source i = (d.src + 512 * i, n) := by simp only [SendDesc.source, hkind, n]
  have hpayload : d.packetPayload s.draws (s.tile k) i = ((s.tile k).bytes (d.src + 512 * i) n, 0, s.draws) := by
    simp only [SendDesc.packetPayload, SendDesc.payload, hkind, hsource]
  obtain ⟨t, hexec, hflights, hq, hsram, hothers, -, hleft⟩ := exec_sendInject_fresh (p := p) hqueue hfresh (fun m st c => by rw [hkind]; exact nofun) hticking
    hpower (fun _ => by simp only [State.emberLength, hkind]) (by rwa [hsource]) hloose (fun hb => by rw [hflits]; exact hwindow hb)
  have hfilled : (d.filled s.draws (s.tile k) i).kind = .mesh r := hkind
  obtain ⟨hrouter, hport, htarget, hdata, hoffset, hindex, hlast, hctr, htick, hrow, hcol, hchannel, hfbad, hmute, hturned, hfmode⟩ :=
    s.sentPacket_mesh (k := k) (i := i) hfilled
  refine ⟨t, _, hexec, hq.trans ?_, hflights, hrouter, hport, htarget, hdata.trans (congrArg Prod.fst hpayload), hoffset, hindex, hlast, hctr, htick,
    hrow.trans (TileId.keyRow_key p), hcol.trans ?_, hchannel, hfbad.trans hbad, hmute.trans hpoison, hturned, hfmode, (s.sentPacket_route hfilled).1,
    (s.sentPacket_route hfilled).2.1, (s.sentPacket_route hfilled).2.2, hsram, hothers, fun hb => by rw [hleft hb, hflits]⟩
  · have hends : (i + 1 < d.packets) ↔ ¬(ends = true) := by simp only [ends, decide_eq_true_eq]; omega
    simp only [hends, ite_not, hstride]
  · exact TileId.keyCol_key p

end Sys2Proof.Machine

namespace Sys2Proof.Machine

/-! ## Ember contributions (R89, R118, R196, R206) -/

/-! ### An ember-sum error (R206) -/

section
variable {s : State} {p entry det contributor code : Nat}

@[simp] theorem State.reportError_tiles (info : Word) : (s.reportError p code info).tiles = s.tiles := rfl
@[simp] theorem State.reportError_flights (info : Word) : (s.reportError p code info).flights = s.flights := rfl
@[simp] theorem State.reportError_draws (info : Word) : (s.reportError p code info).draws = s.draws := rfl
@[simp] theorem State.reg_reportError (info : Word) (a : Nat) : (s.reportError p code info).reg a = s.reg a := rfl

@[simp] theorem State.emberError_tiles : (s.emberError p entry det contributor code).tiles = s.tiles := by
  unfold State.emberError
  extract_lets info s1 s2
  have h1 : s1.tiles = s.tiles := by
    simp only [s1, State.reportError_tiles, State.faultEvent_tiles, State.recordFirst_tiles]
  have h2 : s2.tiles = s.tiles := by
    dsimp only [s2]
    split
    · exact h1
    · exact h1
  split
  · exact (State.charge_tiles _).trans h2
  · exact h2

@[simp] theorem State.emberError_flights : (s.emberError p entry det contributor code).flights = s.flights := by
  unfold State.emberError
  extract_lets info s1 s2
  have h1 : s1.flights = s.flights := by
    simp only [s1, State.reportError_flights, State.faultEvent_flights, State.recordFirst_flights]
  have h2 : s2.flights = s.flights := by
    dsimp only [s2]
    split
    · exact h1
    · exact h1
  split
  · exact (State.charge_flights _).trans h2
  · exact h2

/-- An ember-sum error shows in EMB_ERR_STATUS where none stood. -/
theorem State.emberError_shown (hnone : flag (s.reg Reg.EMB_ERR_STATUS) 31 = false) (hcode : code < 256) :
    (s.emberError p entry det contributor code).reg Reg.EMB_ERR_STATUS = BitVec.ofNat 32 (0x80000000 + code) := by
  unfold State.emberError
  extract_lets info s1 s2
  have h1 : s1.reg Reg.EMB_ERR_STATUS = BitVec.ofNat 32 (0x80000000 + code) := by
    rw [State.reg_reportError, State.reg_faultEvent, State.recordFirst_shown (by decide) hnone hcode]
  have h2 : s2.reg Reg.EMB_ERR_STATUS = BitVec.ofNat 32 (0x80000000 + code) := by
    dsimp only [s2]
    split
    · exact (State.reg_setReg ..).trans ((if_neg (by decide)).trans h1)
    · exact (State.reg_setReg ..).trans ((if_neg (by decide)).trans h1)
  split
  · rw [State.reg, State.charge_regs]; exact h2
  · exact h2

end

/-! ### The codes of values (R89, R118) -/

section
variable (rmode : Bool) (b : Int) (d : Nat)

/-- A six-bit code of an integer: held to 0 to 63. -/
def holdCode (i : Int) : Nat := (max 0 (min 63 i)).toNat

theorem holdCode_lt (i : Int) : holdCode i < 64 := by unfold holdCode; omega

theorem held_code (i : Int) (d' : Nat) :
    (if i < 0 then (0, flagSaturated, d') else if i > 63 then (63, flagSaturated, d') else (i.toNat, 0, d') : Nat × Nat × Nat).1 = holdCode i := by
  unfold holdCode
  split
  · omega
  split
  · omega
  · omega

end

/-- The integer that a finite value is coded as, rounded to nearest over 2^b, before it is held (R118). -/
def emberInt (b : Int) (neg : Bool) (m : Nat) (e : Int) : Int :=
  32 + sgn neg (if b ≤ e then m * 2 ^ (e - b).toNat else (roundShift .nearest m (b - e).toNat).1)

theorem sgn_zero (neg : Bool) : sgn neg 0 = 0 := by cases neg <;> rfl

theorem roundShift_zero (r : Rounding) (k : Nat) : roundShift r 0 k = (0, false) := by simp [roundShift]

/-- A number below half a step rounds to zero. -/
theorem roundShift_small {m k : Nat} (h : 2 * m < 2 ^ k) : (roundShift .nearest m k).1 = 0 := by
  have hzero : m >>> k = 0 := by rw [Nat.shiftRight_eq_div_pow]; exact Nat.div_eq_of_lt (by omega)
  have hhalf : ¬(m > 2 ^ k / 2 ∨ m = 2 ^ k / 2 ∧ 0 % 2 = 1) := by omega
  simp only [roundShift, hzero, Nat.zero_shiftLeft, Nat.sub_zero, if_neg hhalf]
  split <;> rfl

/-- A number past every code is held to the end of its sign. -/
theorem holdCode_large {neg : Bool} {n : Nat} (h : 63 ≤ n) : holdCode (32 + sgn neg n) = if neg then 0 else 63 := by
  cases neg <;> simp only [holdCode, sgn, Bool.false_eq_true, if_false, if_true] <;> omega

/-- A finite value is coded by its rounded integer (R118). -/
theorem emberCode_fin (b : Int) (neg : Bool) (m : Nat) (e : Int) (hm : m < 2 ^ 24) (d : Nat) :
    (emberCode false b d (.fin neg m e)).1 = holdCode (emberInt b neg m e) := by
  rcases Nat.eq_zero_or_pos m with rfl | hpos
  · simp [emberCode, emberInt, roundShift_zero, sgn_zero, holdCode]
  have hm0 : m ≠ 0 := hpos.ne'
  by_cases hlarge : e - b > 64
  · have hn : 63 ≤ m * 2 ^ (e - b).toNat := by
      calc 63 ≤ 2 ^ 6 := by decide
        _ ≤ 2 ^ (e - b).toNat := Nat.pow_le_pow_right (by decide) (by omega)
        _ ≤ m * 2 ^ (e - b).toNat := Nat.le_mul_of_pos_left _ hpos
    rw [emberInt, if_pos (by omega), holdCode_large hn]
    simp only [emberCode, if_neg hm0, if_pos hlarge]
  by_cases hle : b ≤ e
  · have hk : e - b ≥ 0 := by omega
    rw [emberInt, if_pos hle, ← Nat.shiftLeft_eq]
    simp only [emberCode, if_neg hm0, if_neg hlarge, hk, true_or, if_true]
    exact held_code _ _
  have hk : ¬e - b ≥ 0 := by omega
  by_cases hfar : e - b < -400
  · have hsmall : 2 * m < 2 ^ (b - e).toNat := by
      calc 2 * m < 2 ^ 25 := by omega
        _ ≤ 2 ^ (b - e).toNat := Nat.pow_le_pow_right (by decide) (by omega)
    rw [emberInt, if_neg hle, roundShift_small hsmall]
    simp only [emberCode, if_neg hm0, if_neg hlarge, hk, hfar, or_true, if_true, if_false]
    exact held_code _ _
  · rw [emberInt, if_neg hle, ← neg_sub e b]
    simp only [emberCode, if_neg hm0, if_neg hlarge, hk, hfar, or_self, if_false, Bool.false_and, Bool.false_eq_true]
    exact held_code _ _

theorem emberCode_lt (rmode : Bool) (b : Int) (d : Nat) (x : FV) : (emberCode rmode b d x).1 < 64 := by
  have hends : ∀ neg : Bool, (if neg then 0 else 63) < 64 := by decide
  have hzero : 32 < 64 := by decide
  cases x with
  | nan => exact hzero
  | inf neg => exact hends neg
  | fin neg m e =>
    simp only [emberCode]
    split
    · exact hzero
    split
    · exact hends neg
    split
    · rw [held_code]; exact holdCode_lt _
    · rw [held_code]; exact holdCode_lt _

/-- Rounding to nearest uses no draws. -/
theorem emberCode_nearest (b : Int) (d : Nat) (x : FV) : (emberCode false b d x).1 = (emberCode false b 0 x).1 ∧ (emberCode false b d x).2.2 = d := by
  cases x with
  | nan => exact ⟨rfl, rfl⟩
  | inf neg => exact ⟨rfl, rfl⟩
  | fin neg m e =>
    simp only [emberCode, Bool.false_and, Bool.and_false, Bool.false_eq_true, if_false]
    refine ⟨?_, ?_⟩
    · simp only [apply_ite Prod.fst]
    · simp only [apply_ite Prod.snd, ite_self]

/-! ### The codes of a contribution in order -/

section
variable {rmode : Bool} {b : Int}

theorem emberCodes_length (d : Nat) (xs : List FV) : (emberCodes rmode b d xs).1.length = xs.length := by
  induction xs generalizing d with
  | nil => rfl
  | cons x xs ih => exact congrArg (· + 1) (ih _)

theorem emberCodes_lt (d : Nat) (xs : List FV) : ∀ c ∈ (emberCodes rmode b d xs).1, c < 64 := by
  induction xs generalizing d with
  | nil => exact fun c hc => absurd hc List.not_mem_nil
  | cons x xs ih =>
    intro c hc
    rcases List.mem_cons.1 hc with rfl | hc
    · exact emberCode_lt ..
    · exact ih _ c hc

theorem emberCodes_nearest (d : Nat) (xs : List FV) :
    (emberCodes false b d xs).1 = xs.map (fun x => (emberCode false b 0 x).1) ∧ (emberCodes false b d xs).2.2 = d := by
  induction xs generalizing d with
  | nil => exact ⟨rfl, rfl⟩
  | cons x xs ih =>
    obtain ⟨hcode, hdraws⟩ := emberCode_nearest b d x
    obtain ⟨hcodes, hrest⟩ := ih (emberCode false b d x).2.2
    exact ⟨congrArg₂ List.cons hcode hcodes, hrest.trans hdraws⟩

end

@[simp] theorem Tile.floats_length (t : Tile) (off n : Nat) : (t.floats off n).length = n := by rw [Tile.floats, List.length_map, List.length_range]

/-- Under nearest rounding code `j` of a contribution is that of the FP32 value at its place. -/
theorem emberCodes_floats {b : Int} {draws off n j : Nat} (t : Tile) (hj : j < (emberCodes false b draws (t.floats off n)).1.length) :
    (emberCodes false b draws (t.floats off n)).1[j] = (emberCode false b 0 (ofF32 (BitVec.ofNat 32 (leNat (t.bytes (off + 4 * j) 4))))).1 := by
  simp only [(emberCodes_nearest draws _).1]
  simp only [Tile.floats, List.getElem_map, List.getElem_range]

/-- The payload of codes: a byte each, and code 32 behind them (R196). -/
def padCodes (codes : List Nat) : List Byte := codes.map (BitVec.ofNat 8) ++ List.replicate (128 - codes.length) (BitVec.ofNat 8 32)

section
variable {codes : List Nat} {j : Nat}

theorem padCodes_length (h : codes.length ≤ 128) : (padCodes codes).length = 128 := by
  simp only [padCodes, List.length_append, List.length_map, List.length_replicate]
  omega

theorem padCodes_getD_code (hj : j < codes.length) : (padCodes codes).getD j 0 = BitVec.ofNat 8 codes[j] := by
  have hmap : j < (codes.map (BitVec.ofNat 8)).length := by rwa [List.length_map]
  rw [padCodes, List.getD_append _ _ _ _ hmap, List.getD_eq_getElem _ _ hmap, List.getElem_map]

theorem padCodes_getD_rest (hcodes : codes.length ≤ j) (hj : j < 128) : (padCodes codes).getD j 0 = 32 := by
  have hmap : (codes.map (BitVec.ofNat 8)).length ≤ j := by rwa [List.length_map]
  have hrest : j - (codes.map (BitVec.ofNat 8)).length < (List.replicate (128 - codes.length) (BitVec.ofNat 8 32)).length := by
    rw [List.length_replicate, List.length_map]; omega
  rw [padCodes, List.getD_append_right _ _ _ _ hmap, List.getD_eq_getElem _ _ hrest, List.getElem_replicate]
  rfl

theorem toNat_padCodes_lt (h : ∀ c ∈ codes, c < 64) (hj : j < 128) : ((padCodes codes).getD j 0).toNat < 64 := by
  rcases Nat.lt_or_ge j codes.length with hcode | hrest
  · rw [padCodes_getD_code hcode, BitVec.toNat_ofNat]
    exact lt_of_le_of_lt (Nat.mod_le _ _) (h _ (List.getElem_mem hcode))
  · rw [padCodes_getD_rest hrest hj]
    decide

end

/-! ### ESEND at its port -/

section
variable {s : State} {k i g stream : Nat} {b : Int} {rmode : Bool} {d : SendDesc}

/-- An ESEND's descriptor at the start of a packet is fresh, and its packet is five flits. -/
theorem SendDesc.fresh_esend (hkind : d.kind = .esend g stream b rmode) (hsent : d.sent = 5 * i) (hi : 512 * i < d.len) (hpart : d.part = [])
    (hbad : d.partBad = none) (hpoison : d.poison = false) : d.Fresh i := by
  have hflits : d.packetFlits i = 5 := by simp only [SendDesc.packetFlits, hkind]
  have hstride : d.stride = 5 := by simp only [SendDesc.stride, hkind]
  have hpackets : d.packets = (d.len + 511) / 512 := by simp only [SendDesc.packets, hkind]
  have hsource : (d.source i).2 = min 512 (d.len - 512 * i) := by simp only [SendDesc.source, hkind]
  have hgrain : d.grain = 128 := by simp only [SendDesc.grain, hkind]
  refine ⟨by rw [hsent, hstride], hpart, hbad, hpoison, ?_, ?_, ?_⟩
  · rw [hpackets]; omega
  · rw [hflits, hstride]
  · rw [hsource, hgrain, hflits]; omega

/-- An ESEND's packet: its codes with code 32 behind them, under its sum descriptor (R196). -/
theorem State.sentPacket_esend (hkind : d.kind = .esend g stream b rmode) : let f := s.sentPacket k d i
    f.target = 1 ∧ f.gw = gatewayFrom false (keyRow k) (keyCol k) ∧ f.data = d.part ++ List.replicate (128 - d.part.length) (BitVec.ofNat 8 32) ∧
      f.hblk = BitVec.ofNat 64 (sumHeader (keyDie k) g stream s.seq i (decide (i + 1 = (d.len + 511) / 512))) := by
  have hpackets : d.packets = (d.len + 511) / 512 := by simp only [SendDesc.packets, hkind]
  simp only [State.sentPacket, hkind, hpackets, Bool.false_eq_true, if_false, and_self]

/-- The sum descriptor fits its 64 bits. -/
theorem toNat_sumHeader (p group stream tick i : Nat) (last : Bool) :
    (BitVec.ofNat 64 (sumHeader p group stream tick i last)).toNat = sumHeader p group stream tick i last := by
  have hbit : bit last ≤ 1 := by cases last <;> decide
  rw [BitVec.toNat_ofNat]
  refine Nat.mod_eq_of_lt ?_
  unfold sumHeader
  omega

/-- The payload of an ESEND's packet: the codes of its values. -/
theorem SendDesc.packetPayload_esend {draws : Nat} {t : Tile} (hkind : d.kind = .esend g stream b rmode) : d.packetPayload draws t i =
    let codes := emberCodes rmode b draws (t.floats (d.src + 512 * i) (min 512 (d.len - 512 * i) / 4))
    (codes.1.map (BitVec.ofNat 8), codes.2.1, codes.2.2) := by
  simp only [SendDesc.packetPayload, SendDesc.payload, SendDesc.source, hkind]

/-- An ESEND whose length its send entry contradicts is dropped (R89, R206). -/
theorem exec_sendInject_dropped {p : TileId} {ds : List SendDesc} (hqueue : (s.tile p.key).sendB = d :: ds) (h : d.Fresh 0)
    (hticking : s.ticking = true) (hpower : s.tilePowered p.key = true) (hlength : s.emberLength p.key d = true) :
    exec (.sendInject p false) s = .next (((s.setTile p.key ((s.tile p.key).setQueue 0 ds)).emberError (keyDie p.key) d.sumGroup 0x3F 0 0x02).serveSends
      p.key [0]) := by
  have hnext : nextSend ((s.tile p.key).queue 0) = some d := by rw [show (s.tile p.key).queue 0 = d :: ds from hqueue, nextSend_of_head h.injected_eq]
  have hsent : d.sent = 0 := by rw [h.sent, Nat.mul_zero]
  simp only [exec, execSendInject, Bool.false_eq_true, if_false, hnext, hticking, hpower, Bool.and_self, Bool.not_true, hsent, BEq.rfl, hlength, if_true,
    hqueue, replaceSend_of_head h.injected_eq]
  rfl

end

/-- Settles O26: the dropped descriptor by `exec_sendInject_dropped`, the packet by `exec_sendInject_fresh` and `padCodes`, the codes by `emberCode_fin`. -/
theorem emberContribution : Obligations.EmberContribution := by
  refine ⟨?_, fun b neg m e hm => emberCode_fin b neg m e hm 0, fun rmode b d => ⟨rfl, rfl, rfl⟩⟩
  intro p s d ds i g stream b rmode k hqueue hkind hsent hi hlen hpart hbad hpoison hthread hticking hpower
  have hfresh := SendDesc.fresh_esend hkind hsent hi hpart hbad hpoison
  refine ⟨?_, ?_⟩
  · rintro rfl hlength
    have hwoken := Woken.serveSends ((s.setTile k ((s.tile k).setQueue 0 ds)).emberError (keyDie k) d.sumGroup 0x3F 0 0x02) k [0]
    have htile : ((s.setTile k ((s.tile k).setQueue 0 ds)).emberError (keyDie k) d.sumGroup 0x3F 0 0x02).tile k = (s.tile k).setQueue 0 ds := by
      rw [State.tile, State.emberError_tiles, ← State.tile, State.tile_setTile, if_pos rfl]
    exact ⟨_, exec_sendInject_dropped hqueue hfresh hticking hpower hlength, (hwoken.queue 0).trans (congrArg Tile.sendB htile),
      hwoken.flights.trans State.emberError_flights,
      fun hnone => (congrArg (SMap.get _ · _) hwoken.regs).trans (State.emberError_shown hnone (by decide))⟩
  · intro hlength hopen hleft n hgood
    have hflits : d.packetFlits i = 5 := by simp only [SendDesc.packetFlits, hkind]
    have hstride : d.stride = 5 := by simp only [SendDesc.stride, hkind]
    have hpackets : d.packets = (d.len + 511) / 512 := by simp only [SendDesc.packets, hkind]
    have hvalues : min 512 (d.len - 512 * i) / 4 = n := by simp only [n]; omega
    have hsource : d.source i = (d.src + 512 * i, 4 * n) := by simp only [SendDesc.source, hkind, Prod.mk.injEq, true_and]; omega
    obtain ⟨t, hexec, hflights, hq, -, -, hdraws, -⟩ := exec_sendInject_fresh (p := p) (loose := false) hqueue hfresh
      (fun m st c => by rw [hkind]; exact nofun) hticking hpower hlength (by rwa [hsource]) nofun (fun _ => ⟨hopen, by rw [hflits]; exact hleft⟩)
    have hpayload := SendDesc.packetPayload_esend (draws := s.draws) (t := s.tile k) (i := i) hkind
    rw [hvalues] at hpayload
    obtain ⟨htarget, hgw, hdata, hhblk⟩ := s.sentPacket_esend (k := k) (i := i) (d := d.filled s.draws (s.tile k) i) hkind
    have hcount : (emberCodes rmode b s.draws ((s.tile k).floats (d.src + 512 * i) n)).1.length = n := by rw [emberCodes_length, Tile.floats_length]
    have hcodes : (s.sentPacket k (d.filled s.draws (s.tile k) i) i).data = padCodes (emberCodes rmode b s.draws ((s.tile k).floats (d.src + 512 * i) n)).1 := by
      rw [hdata, SendDesc.filled, hpayload, padCodes, List.length_map]
    have hmore : i + 1 < d.packets ↔ 512 * (i + 1) < d.len := by rw [hpackets]; omega
    refine ⟨t, _, hexec, hflights, htarget, ?_, ?_, fun j hn hj => ?_, fun j hj => ?_, ?_, ?_, ?_⟩
    · rw [hgw, TileId.keyRow_key, TileId.keyCol_key]
    · rw [hcodes, padCodes_length (by omega)]
    · rw [hcodes, padCodes_getD_rest (by omega) hj]
    · rw [hcodes]; exact toNat_padCodes_lt (emberCodes_lt _ _) hj
    · rintro rfl
      refine ⟨hdraws.trans ((congrArg (fun x => x.2.2) hpayload).trans (emberCodes_nearest ..).2), fun j hj => ?_⟩
      rw [hcodes, padCodes_getD_code (by omega), emberCodes_floats, BitVec.toNat_ofNat]
      exact Nat.mod_eq_of_lt (lt_trans (emberCode_lt ..) (by decide))
    · have hlast : bit (decide (i + 1 = (d.len + 511) / 512)) * 2 ^ 31 = if 512 * (i + 1) < d.len then 0 else 2 ^ 31 := by
        rw [hpackets] at hmore
        split
        next hm => rw [decide_eq_false (by omega)]; rfl
        next hm => rw [decide_eq_true (by omega)]; rfl
      have hdie : p.die.val % 64 = p.die.val := by omega
      rw [hhblk, toNat_sumHeader, sumHeader, TileId.keyDie_key, hdie]
      exact congrArg (128 * i % 2 ^ 14 + · + s.seq % 16 * 2 ^ 36 + stream % 256 * 2 ^ 40 + g % 16 * 2 ^ 48 + 0x3F * 2 ^ 52 + p.die * 2 ^ 58) hlast
    · simp only [hmore, hstride] at hq
      exact hq

end Sys2Proof.Machine

namespace Sys2Proof.Machine

/-! ## The errors of a link (R134, R153) -/

/-! ### What the checks of a link read -/

/-- The link turned `m` bits of flit `j`, all under cover `q`, and no other bit. -/
def Struck (flips : List (Nat × Nat)) (j q m : Nat) : Prop := ∀ j' q', turned flips j' q' = if j = j' ∧ q = q' then m else 0

theorem bitCover_lt {b : Nat} (h : b < 288) : bitCover b < 4 := by
  unfold bitCover
  split
  · omega
  · omega

theorem bitCover_sideband {b : Nat} (h : 291 ≤ b) (h' : b < 296) : bitCover b = 4 := by
  unfold bitCover
  rw [if_neg (by omega), if_neg (by omega), if_pos ⟨h, h'⟩]

theorem struck_one (j b : Nat) : Struck [(j, b)] j (bitCover b) 1 := by
  intro j' q'
  unfold turned
  by_cases h : j = j' ∧ bitCover b = q'
  · simp [List.eraseDups_cons, h]
  · simp [List.eraseDups_cons, h]

theorem struck_two {j b c : Nat} (hne : b ≠ c) (hcover : bitCover b = bitCover c) : Struck [(j, b), (j, c)] j (bitCover b) 2 := by
  intro j' q'
  have hdups : [(j, b), (j, c)].eraseDups = [(j, b), (j, c)] := by
    simp [List.eraseDups_cons, Ne.symm hne]
  unfold turned
  rw [hdups]
  by_cases h : j = j' ∧ bitCover b = q'
  · simp [h, ← hcover]
  · simp [h, ← hcover]

section
variable {flips : List (Nat × Nat)} {j q m n : Nat} (h : Struck flips j q m)
include h

theorem Struck.uncorrectable (j' : Nat) : uncorrectable flips j' = decide (j = j' ∧ q < 4 ∧ 2 ≤ m) := by
  refine Bool.eq_iff_iff.2 ?_
  simp only [Machine.uncorrectable, List.any_eq_true, List.mem_range, h j', decide_eq_true_eq]
  constructor
  · rintro ⟨q', hq, hm⟩
    split at hm
    next hhit => exact ⟨hhit.1, hhit.2 ▸ hq, hm⟩
    · omega
  · rintro ⟨rfl, hq, hm⟩
    exact ⟨q, hq, by rwa [if_pos ⟨rfl, rfl⟩]⟩

theorem Struck.correctedIn (j' : Nat) : correctedIn flips j' = if j = j' ∧ q < 4 ∧ m = 1 then 1 else 0 := by
  have hone : ∀ q', (turned flips j' q' == 1) = decide ((j = j' ∧ m = 1) ∧ q' = q) := fun q' => by
    rw [h j', Bool.eq_iff_iff, beq_iff_eq, decide_eq_true_eq]
    constructor
    · intro hm
      split at hm
      next hhit => exact ⟨⟨hhit.1, hm⟩, hhit.2.symm⟩
      · omega
    · rintro ⟨⟨rfl, hm⟩, rfl⟩
      rw [if_pos ⟨rfl, rfl⟩, hm]
  have hcount : ((List.range 4).filter (fun q' => decide (q' = q))).length = if q < 4 then 1 else 0 := by
    rw [← List.countP_eq_length_filter]
    exact (List.countP_congr fun q' _ => by simp).trans (List.count_range (a := q) (n := 4))
  simp only [Machine.correctedIn, hone]
  by_cases hhit : j = j' ∧ m = 1
  · simp only [hhit, true_and, and_self, hcount, and_true]
  · have hmiss : ¬(j = j' ∧ q < 4 ∧ m = 1) := fun hall => hhit ⟨hall.1, hall.2.2⟩
    simp only [hhit, false_and, decide_false, List.filter_false, List.length_nil, if_neg hmiss]

theorem Struck.lost : (readLink n flips).lost = decide ((j = 0 ∧ q < 4 ∧ 2 ≤ m) ∨ (j ≤ n ∧ q = 4 ∧ m % 2 = 1)) := by
  have hparity : (List.range (n + 1)).any (fun j' => turned flips j' 4 % 2 == 1) = decide (j ≤ n ∧ q = 4 ∧ m % 2 = 1) := by
    refine Bool.eq_iff_iff.2 ?_
    simp only [List.any_eq_true, List.mem_range, beq_iff_eq, h _ 4, decide_eq_true_eq]
    constructor
    · rintro ⟨j', hj, hm⟩
      split at hm
      next hhit => exact ⟨by omega, hhit.2, hm⟩
      · omega
    · rintro ⟨hj, rfl, hm⟩
      exact ⟨j, by omega, by rwa [if_pos ⟨rfl, rfl⟩]⟩
  simp only [readLink, h.uncorrectable, hparity, Bool.decide_or]

theorem Struck.bad (hj : j ≤ n) : (readLink n flips).bad = if j ≠ 0 ∧ q < 4 ∧ 2 ≤ m then [j] else [] := by
  have hbad : ∀ j', (j' != 0 && Machine.uncorrectable flips j') = decide (j' = j ∧ j ≠ 0 ∧ q < 4 ∧ 2 ≤ m) := fun j' => by
    rw [h.uncorrectable, Bool.eq_iff_iff]
    simp only [Bool.and_eq_true, bne_iff_ne, decide_eq_true_eq]
    constructor
    · rintro ⟨hne, rfl, hrest⟩; exact ⟨rfl, hne, hrest⟩
    · rintro ⟨rfl, hne, hrest⟩; exact ⟨hne, rfl, hrest⟩
  simp only [readLink, hbad]
  by_cases hhit : j ≠ 0 ∧ q < 4 ∧ 2 ≤ m
  · have hmem : j ∈ List.range (n + 1) := List.mem_range.2 (by omega)
    simp only [hhit, ne_eq, not_false_eq_true, and_self, and_true, if_true]
    rw [List.filter_eq, List.count_eq_one_of_mem List.nodup_range hmem, List.replicate_one]
  · simp only [hhit, and_false, decide_false, List.filter_false, if_false]

theorem Struck.corrected (hj : j ≤ n) : (readLink n flips).corrected = if q < 4 ∧ m = 1 then 1 else 0 := by
  have hsum : ∀ x k, ((List.range k).map (fun j' => if j = j' then x else 0)).foldl (· + ·) 0 = if j < k then x else 0 := fun x k => by
    induction k with
    | zero => rfl
    | succ k ih =>
      rw [List.range_succ, List.map_append, List.foldl_append, ih]
      simp only [List.map_cons, List.map_nil, List.foldl_cons, List.foldl_nil]
      by_cases hjk : j = k
      · simp [hjk]
      · have hlt : j < k + 1 ↔ j < k := by omega
        simp [hjk, hlt]
  have heach : ∀ j', Machine.correctedIn flips j' = if j = j' then (if q < 4 ∧ m = 1 then 1 else 0) else 0 := fun j' => by
    rw [h.correctedIn, ite_and]
  simp only [readLink, funext heach, hsum, if_pos (Nat.lt_succ_of_le hj)]

end

theorem LinkRead.eq_of_parts {r : LinkRead} {c : Nat} {bad : List Nat} {lost : Bool} (hc : r.corrected = c) (hbad : r.bad = bad) (hlost : r.lost = lost) :
    r = { corrected := c, bad := bad, lost := lost } := by
  cases r
  subst hc hbad hlost
  rfl

theorem readLink_nil (n : Nat) : readLink n [] = { corrected := 0, bad := [], lost := false } := by
  have hnone : Struck [] 0 0 0 := fun _ _ => (ite_self _).symm
  exact LinkRead.eq_of_parts (hnone.corrected (Nat.zero_le n)) (hnone.bad (Nat.zero_le n)) (hnone.lost.trans (decide_eq_false (by omega)))

/-- One bit of a quarter of a flit or of its check byte is corrected. -/
theorem readLink_one {n j b : Nat} (hj : j ≤ n) (hb : b < 288) : readLink n [(j, b)] = { corrected := 1, bad := [], lost := false } := by
  have hone := struck_one j b
  have hcover := bitCover_lt hb
  exact LinkRead.eq_of_parts ((hone.corrected hj).trans (if_pos ⟨hcover, rfl⟩)) ((hone.bad hj).trans (if_neg (by omega)))
    (hone.lost.trans (decide_eq_false (by omega)))

/-- Two bits of one quarter make a payload flit bad. -/
theorem readLink_two {n j b c : Nat} (hj : j ≤ n) (hb : b < 288) (hne : b ≠ c) (hcover : bitCover b = bitCover c) (hpayload : 1 ≤ j) :
    readLink n [(j, b), (j, c)] = { corrected := 0, bad := [j], lost := false } := by
  have htwo := struck_two (j := j) hne hcover
  have hquarter := bitCover_lt hb
  exact LinkRead.eq_of_parts ((htwo.corrected hj).trans (if_neg (by omega))) ((htwo.bad hj).trans (if_pos (by omega)))
    (htwo.lost.trans (decide_eq_false (by omega)))

/-- Two bits of one quarter of the head lose the packet. -/
theorem readLink_head {n b c : Nat} (hb : b < 288) (hne : b ≠ c) (hcover : bitCover b = bitCover c) : (readLink n [(0, b), (0, c)]).lost = true :=
  (struck_two hne hcover).lost.trans (decide_eq_true (.inl ⟨rfl, bitCover_lt hb, le_rfl⟩))

/-- A turned sideband bit loses the packet. -/
theorem readLink_sideband {n j b : Nat} (hj : j ≤ n) (hb : 291 ≤ b) (hb' : b < 296) : (readLink n [(j, b)]).lost = true :=
  (struck_one j b).lost.trans (decide_eq_true (.inr ⟨hj, bitCover_sideband hb hb', rfl⟩))

/-! ### What an error of the mesh records -/

section
variable {s : State} {k port vc code tag : Nat}

@[simp] theorem State.meshError_tiles : (s.meshError k port vc code tag).tiles = s.tiles := by
  simp only [State.meshError, State.charge_tiles, State.faultEvent_tiles, State.recordFirst_tiles]
@[simp] theorem State.meshError_flights : (s.meshError k port vc code tag).flights = s.flights := by
  simp only [State.meshError, State.charge_flights, State.faultEvent_flights, State.recordFirst_flights]
@[simp] theorem State.meshError_routers : (s.meshError k port vc code tag).routers = s.routers := by
  simp only [State.meshError, State.charge_routers, State.faultEvent_routers, State.recordFirst_routers]

/-- The status register of the die after an error of its mesh. -/
theorem State.meshError_status : (s.meshError k port vc code tag).reg (Reg.MSH_ERR_STATUS (keyDie k)) =
    if flag (s.reg (Reg.MSH_ERR_STATUS (keyDie k))) 31 then setFlag (s.reg (Reg.MSH_ERR_STATUS (keyDie k))) 30 true
    else BitVec.ofNat 32 (0x80000000 + code % 256) := by
  have hne : Reg.MSH_ERR_STATUS (keyDie k) ≠ Reg.MSH_ERR_INFO (keyDie k) := by unfold Reg.MSH_ERR_STATUS Reg.MSH_ERR_INFO; omega
  unfold State.meshError
  extract_lets d info
  rw [State.reg, State.charge_regs, ← State.reg, State.reg_faultEvent]
  unfold State.recordFirst
  split
  · rw [State.reg_setReg, if_pos rfl]
  · rw [State.reg_setReg, if_neg hne, State.reg_setReg, if_pos rfl]

/-- An error of the mesh is charged as R54 says. -/
theorem State.meshError_charged (h : s.ticking = true) :
    (if s.tick.closed then (s.meshError k port vc code tag).tick.chargeNext else (s.meshError k port vc code tag).tick.charged) = true := by
  unfold State.meshError
  extract_lets d info
  have hticking : ((s.recordFirst (Reg.MSH_ERR_STATUS d) (Reg.MSH_ERR_INFO d) code info).faultEvent 3 d code).ticking = true := by
    rwa [State.ticking, State.faultEvent_mode, State.recordFirst_mode]
  have hcharge := State.charge_tick_of_ticking hticking
  rw [State.faultEvent_tick, State.recordFirst_tick] at hcharge
  split at hcharge
  next hclosed => rw [if_pos hclosed]; exact hcharge.1
  next hopen => rw [if_neg hopen]; exact hcharge.1

@[simp] theorem State.routerFault_tiles (d : Nat) : (s.routerFault d).tiles = s.tiles := by unfold State.routerFault; split <;> rfl
@[simp] theorem State.routerFault_flights (d : Nat) : (s.routerFault d).flights = s.flights := by unfold State.routerFault; split <;> rfl
@[simp] theorem State.routerFault_routers (d : Nat) : (s.routerFault d).routers = s.routers := by unfold State.routerFault; split <;> rfl
@[simp] theorem State.routerFault_tick (d : Nat) : (s.routerFault d).tick = s.tick := by unfold State.routerFault; split <;> rfl
@[simp] theorem State.reg_routerFault (d a : Nat) : (s.routerFault d).reg a = s.reg a := by unfold State.routerFault; split <;> rfl

theorem State.mem_routerFault (d : Nat) : d ∈ (s.routerFault d).recovery.dieReports := by
  unfold State.routerFault
  split
  · assumption
  · exact List.mem_append_right _ (List.mem_singleton_self d)

/-- The state in which an error of a link has been counted, recorded and marked in its router. -/
def State.linkMarked (s : State) (k port vc code : Nat) : State :=
  let t := (s.bumpReg (Reg.MSH_ERR_COUNT (keyDie k)) 31 16).meshError k (min port 5) vc code 0
  t.setRouter k { s.router k with errNow := (s.router k).errNow.set false port true }

/-- The third tick in a row with an error at an input port puts the router at fault. -/
theorem State.linkError_eq : s.linkError k port vc code =
    if (s.router k).errNow.get false port = false ∧ (s.router k).errRun.get 0 port = 2 then
      ((s.linkMarked k port vc code).meshError k (min port 5) vc 0x08 0).routerFault (keyDie k)
    else s.linkMarked k port vc code := by
  have hrouter : ((s.bumpReg (Reg.MSH_ERR_COUNT (keyDie k)) 31 16).meshError k (min port 5) vc code 0).router k = s.router k :=
    congrArg (SMap.get _ · k) (State.meshError_routers.trans (State.bumpReg_routers ..))
  unfold State.linkError
  simp only [hrouter, Bool.and_eq_true, Bool.not_eq_true', decide_eq_true_eq]
  rfl

theorem State.linkMarked_tiles : (s.linkMarked k port vc code).tiles = s.tiles := State.meshError_tiles
theorem State.linkMarked_flights : (s.linkMarked k port vc code).flights = s.flights := State.meshError_flights

theorem State.linkMarked_router : ((s.linkMarked k port vc code).router k).errNow.get false port = true := by
  rw [State.linkMarked, State.router_setRouter, if_pos rfl, SMap.get_set, if_pos rfl]

theorem State.linkMarked_charged (h : s.ticking = true) :
    (if s.tick.closed then (s.linkMarked k port vc code).tick.chargeNext else (s.linkMarked k port vc code).tick.charged) = true :=
  State.meshError_charged (s := s.bumpReg (Reg.MSH_ERR_COUNT (keyDie k)) 31 16) h

theorem State.linkMarked_status (hnone : flag (s.reg (Reg.MSH_ERR_STATUS (keyDie k))) 31 = false) (hcode : code < 256) :
    (s.linkMarked k port vc code).reg (Reg.MSH_ERR_STATUS (keyDie k)) = BitVec.ofNat 32 (0x80000000 + code) := by
  have hne : Reg.MSH_ERR_STATUS (keyDie k) ≠ Reg.MSH_ERR_COUNT (keyDie k) := by unfold Reg.MSH_ERR_STATUS Reg.MSH_ERR_COUNT; omega
  have hsame : (s.bumpReg (Reg.MSH_ERR_COUNT (keyDie k)) 31 16).reg (Reg.MSH_ERR_STATUS (keyDie k)) = s.reg (Reg.MSH_ERR_STATUS (keyDie k)) :=
    (State.reg_setReg ..).trans (if_neg hne)
  refine State.meshError_status.trans ?_
  rw [hsame, hnone, Nat.mod_eq_of_lt hcode]
  rfl

theorem flag_errorWord (hcode : code < 256) : flag (BitVec.ofNat 32 (0x80000000 + code)) 31 = true := by
  rw [flag, BitVec.getLsbD_ofNat, Nat.testBit_eq_decide_div_mod_eq, decide_eq_true (by decide : 31 < 32), Bool.true_and, decide_eq_true_eq]
  omega

/-- What an error of a link leaves: the tiles and the packets in flight as they were, the input port marked, the error charged and recorded, and in the third
tick in a row the die reported. -/
theorem State.linkError_leaves (hcode : code < 256) : let t := s.linkError k port vc code
    let third := (s.router k).errNow.get false port = false ∧ (s.router k).errRun.get 0 port = 2
    t.tiles = s.tiles ∧ t.flights = s.flights ∧ (t.router k).errNow.get false port = true ∧
      (s.ticking = true → (if s.tick.closed then t.tick.chargeNext else t.tick.charged) = true) ∧
      (flag (s.reg (Reg.MSH_ERR_STATUS (keyDie k))) 31 = false → t.reg (Reg.MSH_ERR_STATUS (keyDie k)) =
        if third then setFlag (BitVec.ofNat 32 (0x80000000 + code)) 30 true else BitVec.ofNat 32 (0x80000000 + code)) ∧
      (third → keyDie k ∈ t.recovery.dieReports) := by
  dsimp only
  rw [State.linkError_eq]
  split
  · refine ⟨?_, ?_, ?_, fun h => ?_, fun hnone => ?_, fun _ => State.mem_routerFault _⟩
    · rw [State.routerFault_tiles, State.meshError_tiles, State.linkMarked_tiles]
    · rw [State.routerFault_flights, State.meshError_flights, State.linkMarked_flights]
    · rw [State.router, State.routerFault_routers, State.meshError_routers]
      exact State.linkMarked_router
    · have hcharged := State.linkMarked_charged (k := k) (port := port) (vc := vc) (code := code) h
      have honward := ((s.linkMarked k port vc code).meshError_apart k (min port 5) vc 0x08 0).tick
      rw [State.routerFault_tick]
      split at hcharged
      next hclosed => rw [if_pos hclosed]; exact honward.chargeNext hcharged
      next hopen => rw [if_neg hopen]; exact honward.charged hcharged
    · rw [State.reg_routerFault, State.meshError_status, State.linkMarked_status hnone hcode, if_pos (flag_errorWord hcode)]
  · exact ⟨State.linkMarked_tiles, State.linkMarked_flights, State.linkMarked_router, State.linkMarked_charged,
      fun hnone => State.linkMarked_status hnone hcode, fun hthird => absurd hthird ‹_›⟩

end

/-! ### A packet behind its link -/

section
variable {s : State} {p : TileId} {i : Nat} {f : Flight} {flips : List (Nat × Nat)}

/-- The state in which packet `i` has left the packets in flight. -/
def State.packetTaken (s : State) (i : Nat) : State := { s with flights := s.flights.eraseIdx i }

/-- The state in which packet `i` has come through its link on die `d`, with `n` corrected errors counted. -/
def State.linkLeft (s : State) (d i n : Nat) : State :=
  if n = 0 then s.packetTaken i else (s.packetTaken i).bumpReg (Reg.MSH_ERR_COUNT d) 15 0 n

theorem State.linkLeft_keeps (d n : Nat) : (s.linkLeft d i n).tiles = s.tiles ∧ (s.linkLeft d i n).flights = s.flights.eraseIdx i ∧
    (s.linkLeft d i n).routers = s.routers ∧ (s.linkLeft d i n).tick = s.tick ∧ (s.linkLeft d i n).mode = s.mode ∧
    (s.linkLeft d i n).reg (Reg.MSH_ERR_STATUS d) = s.reg (Reg.MSH_ERR_STATUS d) := by
  have hne : Reg.MSH_ERR_STATUS d ≠ Reg.MSH_ERR_COUNT d := by unfold Reg.MSH_ERR_STATUS Reg.MSH_ERR_COUNT; omega
  unfold State.linkLeft
  split
  · exact ⟨rfl, rfl, rfl, rfl, rfl, rfl⟩
  · exact ⟨rfl, rfl, rfl, rfl, rfl, (State.reg_setReg ..).trans (if_neg hne)⟩

variable (hf : s.flights[i]? = some f) (hrouter : f.router = p.key) (hport : f.port ≠ 6) (hcombine : s.mustCombine f = false)
  (hmove : s.mayMove i f = true)
include hf hrouter hport hcombine hmove

/-- A packet that its link loses: error 0x02. -/
theorem exec_meshPacketArrival_lost (hlost : (readLink f.flits flips).lost = true) : exec (.meshPacketArrival p i (.link flips)) s =
    .next ((s.linkLeft p.die i (readLink f.flits flips).corrected).linkError p.key f.port f.vc 0x02) := by
  simp only [exec, execMeshPacketArrival, hf, hrouter, if_true, State.hop, hmove, hcombine, beq_false_of_ne hport, Bool.not_true, Bool.or_self,
    Bool.false_and, Bool.false_eq_true, if_false, hport, State.linkEvent, hlost, TileId.keyDie_key]
  rfl

/-- A packet that comes through its link with no bit turned goes on under the tables in force. -/
theorem exec_meshPacketArrival_whole : exec (.meshPacketArrival p i (.link [])) s =
    .next ((s.packetTaken i).passOn f) := by
  have hpoison : minPoison f.poison none = f.poison := by cases f.poison <;> rfl
  simp only [exec, execMeshPacketArrival, hf, hrouter, if_true, State.hop, hmove, hcombine, beq_false_of_ne hport, Bool.not_true, Bool.or_self,
    Bool.false_and, Bool.false_eq_true, if_false, hport, State.linkEvent, readLink_nil, State.payloadErrors, List.head?_nil, Option.map_none, hpoison]
  rw [← hrouter]
  rfl

end

end Sys2Proof.Machine

namespace Sys2Proof.Machine

/-! ## The way and the arrival of a unicast packet (R82, R85, R129, R135, R147) -/

/-! ### From router to router -/

section
variable {s : State} {k vc level : Nat}

@[simp] theorem State.traffic_tiles : (s.traffic k vc level).tiles = s.tiles := by unfold State.traffic; dsimp only; split <;> rfl
@[simp] theorem State.traffic_regs : (s.traffic k vc level).regs = s.regs := by unfold State.traffic; dsimp only; split <;> rfl
@[simp] theorem State.traffic_flights : (s.traffic k vc level).flights = s.flights := by unfold State.traffic; dsimp only; split <;> rfl
@[simp] theorem State.traffic_tbl : (s.traffic k vc level).tbl = s.tbl := by unfold State.traffic; dsimp only; split <;> rfl
@[simp] theorem State.reg_traffic (a : Nat) : (s.traffic k vc level).reg a = s.reg a := by rw [State.reg, State.traffic_regs, State.reg]
@[simp] theorem State.tile_traffic (j : Nat) : (s.traffic k vc level).tile j = s.tile j := by rw [State.tile, State.traffic_tiles, State.tile]

/-- What traffic leaves alone of the questions that a delivery asks. -/
theorem State.traffic_reads (j d : Nat) : (s.traffic k vc level).tilePowered j = s.tilePowered j ∧ (s.traffic k vc level).carryWins d = s.carryWins d ∧
    (s.traffic k vc level).seq = s.seq ∧ (s.traffic k vc level).fenced j = s.fenced j := by
  unfold State.traffic
  dsimp only
  split
  · exact ⟨rfl, rfl, rfl, rfl⟩
  · exact ⟨rfl, rfl, rfl, rfl⟩

/-- Traffic marks fields 9 and 10 of a router's map entry alone. -/
theorem State.traffic_map {a : Nat} (j : Nat) (ha : a < 9) : ((s.traffic k vc level).router j).map.get 0 a = (s.router j).map.get 0 a := by
  unfold State.traffic
  dsimp only
  split
  · rw [State.router_setRouter]
    split
    next hj =>
      rw [hj]
      exact (SMap.get_set ..).trans (if_neg (by omega))
    · rfl
  · rfl

variable {f : Flight} {port n : Nat} {c : Option Nat}

/-- A packet with one output goes to the router at that link's end. -/
theorem State.passOn_link (hout : s.outputs f = some ⟨[(port, c)], false⟩) (hport : port ≠ 6) (hn : neighbour f.router port = some n) :
    (s.passOn f).tiles = s.tiles ∧ (s.passOn f).regs = s.regs ∧
      (s.passOn f).flights = s.flights ++ [{ f with router := n, port := facing port, turned := c }] := by
  have hpass : s.passOn f = ({ s.traffic f.router f.vc 2 with
      flights := (s.traffic f.router f.vc 2).flights ++ [{ f with router := n, port := facing port, turned := c }] } : State).traffic n f.vc 1 := by
    simp only [State.passOn, hout, State.sendOn, if_neg hport, hn, Bool.false_eq_true, if_false]
  rw [hpass]
  refine ⟨?_, ?_, ?_⟩
  · rw [State.traffic_tiles]; exact State.traffic_tiles
  · rw [State.traffic_regs]; exact State.traffic_regs
  · rw [State.traffic_flights]; exact congrArg (· ++ _) State.traffic_flights

/-- A packet that is ejected only. -/
theorem State.passOn_eject (hout : s.outputs f = some ⟨[], true⟩) : s.passOn f = (s.traffic f.router f.vc 2).eject f := by
  simp only [State.passOn, hout, State.sendOn, if_true]

end

/-! ### The route of a unicast packet (R129) -/

section
variable {s : State} {f : Flight}

theorem State.outputs_unicast (hmode : f.mode = 0) (htarget : f.target = 0) : s.outputs f = some (s.unicastOut f) := by
  simp only [State.outputs, htarget, hmode, ne_eq, not_true_eq_false, if_false]

theorem State.unicastOut_up (hturned : f.turned = none) (hrow : f.rowA < keyRow f.router) : s.unicastOut f = ⟨[(1, none)], false⟩ := by
  have hup : towardRow f.router f.rowA = some 1 := by rw [towardRow, if_neg (by omega), if_pos hrow]
  simp only [State.unicastOut, hturned, hup]

theorem State.unicastOut_down (hturned : f.turned = none) (hrow : keyRow f.router < f.rowA) : s.unicastOut f = ⟨[(2, none)], false⟩ := by
  have hdown : towardRow f.router f.rowA = some 2 := if_pos hrow
  simp only [State.unicastOut, hturned, hdown]

/-- In its row a packet goes to the physical column that the first router of the row chose. -/
theorem State.unicastOut_row (h : f.turned ≠ none ∨ f.rowA = keyRow f.router) :
    s.unicastOut f = alongRow f.router (f.turned.getD (s.physCol (keyDie f.router) f.rowA f.colA)) := by
  cases hturned : f.turned with
  | some c => simp only [State.unicastOut, hturned, Option.getD_some]
  | none =>
    have hrow : f.rowA = keyRow f.router := h.resolve_left (not_not.2 hturned)
    have hhere : towardRow f.router f.rowA = none := by rw [towardRow, if_neg (by omega), if_neg (by omega)]
    simp only [State.unicastOut, hturned, hhere, Option.getD_none]

theorem alongRow_east {k c : Nat} (h : keyCol k < c) : alongRow k c = ⟨[(3, some c)], false⟩ := by
  have htoward : towardCol k c = some 3 := if_pos h
  simp only [alongRow, htoward]

theorem alongRow_west {k c : Nat} (h : c < keyCol k) : alongRow k c = ⟨[(4, some c)], false⟩ := by
  have htoward : towardCol k c = some 4 := by rw [towardCol, if_neg (by omega), if_pos h]
  simp only [alongRow, htoward]

theorem alongRow_here {k c : Nat} (h : c = keyCol k) : alongRow k c = ⟨[], true⟩ := by
  have htoward : towardCol k c = none := by rw [towardCol, if_neg (by omega), if_neg (by omega)]
  simp only [alongRow, htoward]

end

/-! ### The bytes of a delivery (R82) -/

theorem flitsOf_nil : flitsOf [] = [] := rfl

theorem flitsOf_of_ne_nil {data : List Byte} (h : data ≠ []) : flitsOf data = data.take 32 :: flitsOf (data.drop 32) := by
  have hpos : 0 < data.length := List.length_pos_iff.2 h
  have hcount : (data.length + 31) / 32 = (data.length - 32 + 31) / 32 + 1 := by omega
  rw [flitsOf, hcount, List.range_succ_eq_map, List.map_cons, List.map_map, flitsOf, List.length_drop]
  refine congrArg₂ List.cons rfl (List.map_congr_left fun i _ => ?_)
  simp only [Function.comp_apply, List.drop_drop, Nat.mul_succ]
  rw [Nat.add_comm]

/-- Where no carry window is, each flit is written where it falls. -/
theorem landFlits_cons (t : Tile) (off : Nat) (hit : Option Nat) (b : List Byte) (bs : List (List Byte)) :
    landFlits [] t off hit (b :: bs) = landFlits [] (t.write off b) (off + 32) hit bs := by
  cases bs <;> rfl

/-- Bytes that a delivery writes. -/
def Tile.holdsAt (t u : Tile) (off : Nat) (data : List Byte) : Prop :=
  ∀ x, u.byte x = if off ≤ x ∧ x < off + data.length then data.getD (x - off) 0 else t.byte x

theorem Tile.holdsAt_append {t u v : Tile} {off : Nat} {b c : List Byte} (h : t.holdsAt u off b) (h' : u.holdsAt v (off + b.length) c) :
    t.holdsAt v off (b ++ c) := by
  intro x
  rw [h' x, h x, List.length_append]
  by_cases hc : off + b.length ≤ x ∧ x < off + b.length + c.length
  · rw [if_pos hc, if_pos (by omega), List.getD_append_right _ _ _ _ (by omega)]
    congr 1
    omega
  · rw [if_neg hc]
    by_cases hb : off ≤ x ∧ x < off + b.length
    · rw [if_pos hb, if_pos (by omega), List.getD_append _ _ _ _ (by omega)]
    · rw [if_neg hb, if_neg (by omega)]

theorem Tile.holdsAt_nil_iff {t u : Tile} {off : Nat} : t.holdsAt u off [] ↔ ∀ x, u.byte x = t.byte x := by
  unfold Tile.holdsAt
  refine forall_congr' fun x => ?_
  rw [if_neg (by simp)]

/-- Where no carry window is, a delivery writes its bytes, and of the tile changes only its SRAM. -/
theorem landFlits_plain (n : Nat) : ∀ (t : Tile) (off : Nat) (data : List Byte), data.length ≤ n →
    ∃ u, landFlits [] t off none (flitsOf data) = (u, none, true) ∧ t.holdsAt u off data ∧ { u with sram := t.sram, sramEcc := t.sramEcc } = t := by
  induction n with
  | zero =>
    intro t off data hdata
    obtain rfl := List.length_eq_zero_iff.1 (Nat.le_zero.1 hdata)
    exact ⟨t, rfl, Tile.holdsAt_nil_iff.2 fun _ => rfl, rfl⟩
  | succ n ih =>
    intro t off data hdata
    rcases eq_or_ne data [] with rfl | hne
    · exact ⟨t, rfl, Tile.holdsAt_nil_iff.2 fun _ => rfl, rfl⟩
    have hpos : 0 < data.length := List.length_pos_iff.2 hne
    obtain ⟨u, hland, hholds, hrest⟩ := ih (t.write off (data.take 32)) (off + 32) (data.drop 32) (by rw [List.length_drop]; omega)
    refine ⟨u, by rw [flitsOf_of_ne_nil hne, landFlits_cons, hland], ?_, (congrArg (fun y : Tile => { y with sram := t.sram, sramEcc := t.sramEcc }) hrest :)⟩
    have hfirst : t.holdsAt (t.write off (data.take 32)) off (data.take 32) := Tile.byte_write t off _
    have hlater : (t.write off (data.take 32)).holdsAt u (off + (data.take 32).length) (data.drop 32) := by
      rcases Nat.lt_or_ge data.length 32 with hshort | hlong
      · rw [List.drop_eq_nil_of_le hshort.le] at hholds ⊢
        exact Tile.holdsAt_nil_iff.2 (Tile.holdsAt_nil_iff.1 hholds)
      · rwa [List.length_take, min_eq_left hlong]
    have hall := Tile.holdsAt_append hfirst hlater
    rwa [List.take_append_drop] at hall

/-! ### The counter of a delivery (R82, R85) -/

section
variable {s : State} {k c : Nat}

/-- A counter that no thread waits on serves none. -/
theorem State.serveCounter_idle {ns : List Nat} (h : ∀ n ∈ ns, ∀ j m, ((s.tile k).thread n).wait = .counter j m → j.val ≠ c) :
    s.serveCounter k c ns = s := by
  induction ns with
  | nil => rfl
  | cons n ns ih =>
    have hrest := ih fun m hm => h m (List.mem_cons_of_mem n hm)
    unfold State.serveCounter
    dsimp only
    split
    next j m hwait => rw [if_neg fun hall => h n List.mem_cons_self j m hwait hall.1, hrest]
    · exact hrest

theorem serveOrder_lt (last : Nat) : ∀ n ∈ serveOrder last, n < 4 := by
  intro n hn
  simp only [serveOrder, List.mem_cons, List.not_mem_nil, or_false] at hn
  omega

/-- The count that an arrival leaves. -/
def counted (v : Nat) : Nat := if v = 0xFFFF then 0xFFFF else v + 1

/-- An arrival on a counter no thread waits on: up by one, staying at 0xFFFF. -/
theorem State.arrive_idle (h : ∀ n < 4, ∀ j m, ((s.tile k).thread n).wait = .counter j m → j.val ≠ c) : let t := s.arrive k c
    (∀ c', (t.tile k).ctr.get 0 c' = if c' = c then counted ((s.tile k).ctr.get 0 c') else (s.tile k).ctr.get 0 c') ∧
      (∀ x, (t.tile k).byte x = (s.tile k).byte x) ∧ (∀ j, j ≠ k → t.tile j = s.tile j) ∧ t.flights = s.flights ∧ t.regs = s.regs := by
  dsimp only
  unfold State.arrive
  dsimp only
  split
  next hfull =>
    have hserve : ∀ r, (s.setRouter k r).serveCounter k c (serveOrder (s.tile k).lastLoose) = s.setRouter k r := fun r =>
      State.serveCounter_idle fun n hn => h n (serveOrder_lt _ n hn)
    rw [hserve]
    refine ⟨fun c' => ?_, fun _ => rfl, fun _ _ => rfl, rfl, rfl⟩
    split
    next hc => rw [hc, hfull]; exact hfull
    · rfl
  next hroom =>
    have htile := State.tile_setTile s k { s.tile k with ctr := (s.tile k).ctr.set 0 c ((s.tile k).ctr.get 0 c + 1) }
    have hown := (htile k).trans (if_pos rfl)
    rw [State.serveCounter_idle fun n hn => by rw [hown]; exact h n (serveOrder_lt _ n hn)]
    refine ⟨fun c' => ?_, fun x => by rw [hown]; rfl, fun j hj => (htile j).trans (if_neg hj), rfl, rfl⟩
    have hset := SMap.get_set (0 : Nat) (s.tile k).ctr c c' ((s.tile k).ctr.get 0 c + 1)
    rw [hown]
    split
    next hc => exact (hset.trans (if_pos hc)).trans (by rw [hc, counted, if_neg hroom])
    next hc => exact hset.trans (if_neg hc)

variable {off : Nat} {data : List Byte} {ctr : Option Nat} {messageEnd : Bool}

/-- A delivery to a powered tile that no carry window covers. -/
theorem State.land_plain (hpower : s.tilePowered k = true) (hwins : s.carryWins (keyDie k) = [])
    (hwaits : ∀ n < 4, ∀ j m, ((s.tile k).thread n).wait = .counter j m → ctr ≠ some j.val) : let t := s.land k off data ctr messageEnd
    (s.tile k).holdsAt (t.tile k) off data ∧
      (∀ c, (t.tile k).ctr.get 0 c = if ctr = some c ∧ messageEnd = true then counted ((s.tile k).ctr.get 0 c) else (s.tile k).ctr.get 0 c) ∧
      t.flights = s.flights ∧ (∀ j, j ≠ k → t.tile j = s.tile j) ∧ t.regs = s.regs := by
  obtain ⟨u, hland, hholds, hrest⟩ := landFlits_plain data.length (s.tile k) off data le_rfl
  have hctr : u.ctr = (s.tile k).ctr := by rw [← hrest]
  have hthread : ∀ n, u.thread n = (s.tile k).thread n := fun n => by rw [Tile.thread, Tile.thread, ← hrest]
  have htile := State.tile_setTile s k u
  have hown : (s.setTile k u).tile k = u := (htile k).trans (if_pos rfl)
  have hstays : (s.tile k).holdsAt ((s.setTile k u).tile k) off data ∧ ((s.setTile k u).tile k).ctr = (s.tile k).ctr := by
    rw [hown]; exact ⟨hholds, hctr⟩
  dsimp only
  by_cases hcount : ∃ c, ctr = some c ∧ messageEnd = true
  · obtain ⟨c, rfl, rfl⟩ := hcount
    have hto : s.land k off data (some c) true = (s.setTile k u).arrive k c := by
      simp only [State.land, hpower, hwins, hland, Bool.not_true, Bool.false_eq_true, if_false, Bool.and_self, if_true]
    obtain ⟨hcounts, hbytes, hothers, hflights, hregs⟩ := State.arrive_idle (s := s.setTile k u) (k := k) (c := c) fun n hn j m hwait hj => by
      rw [hown, hthread] at hwait
      exact hwaits n hn j m hwait (congrArg some hj.symm)
    rw [hto]
    refine ⟨fun x => (hbytes x).trans (hstays.1 x), fun c' => ?_, hflights, fun j hj => (hothers j hj).trans ((htile j).trans (if_neg hj)), hregs⟩
    rw [hcounts, hstays.2]
    exact if_congr ⟨fun hc => ⟨congrArg some hc.symm, rfl⟩, fun hc => (Option.some.inj hc.1).symm⟩ rfl rfl
  · have hto : s.land k off data ctr messageEnd = s.setTile k u := by
      simp only [State.land, hpower, hwins, hland, Bool.not_true, Bool.false_eq_true, if_false, Bool.true_and]
      cases ctr with
      | none => rfl
      | some c => exact if_neg fun hend => hcount ⟨c, rfl, hend⟩
    rw [hto]
    refine ⟨hstays.1, fun c => ?_, rfl, fun j hj => (htile j).trans (if_neg hj), rfl⟩
    rw [hstays.2, if_neg fun hc => hcount ⟨c, hc⟩]

end

/-- A delivery to a tile that is off is sunk, and a message's end is counted in the map of a fenced one (R147). -/
theorem State.land_sunk {s : State} {k off : Nat} {data : List Byte} {ctr : Option Nat} {messageEnd : Bool} (hpower : s.tilePowered k = false) :
    let t := s.land k off data ctr messageEnd
    t.tiles = s.tiles ∧ t.flights = s.flights ∧
      (s.fenced k = true → messageEnd = true → (t.router k).map.get 0 7 = min ((s.router k).map.get 0 7 + 1) 255) := by
  have hsink : s.land k off data ctr messageEnd = s.sink k messageEnd := by
    simp only [State.land, hpower, Bool.not_false, if_true]
  dsimp only
  rw [hsink]
  unfold State.sink
  split
  · refine ⟨rfl, rfl, fun _ _ => ?_⟩
    rw [State.router_setRouter, if_pos rfl]
    exact (SMap.get_set ..).trans (if_pos rfl)
  next hno => exact ⟨rfl, rfl, fun hfenced hend => absurd (by rw [hfenced, hend]; rfl) hno⟩

/-! ### The arrival of a unicast packet -/

section
variable {s : State} {p : TileId} {f : Flight}

/-- A packet for this tile, whose own parts are good, is delivered; its message counts with its last packet where it is of this tick. -/
theorem State.eject_plain (hrouter : f.router = p.key) (hmode : f.mode = 0) (hpower : s.tilePowered p.key = true) (hwins : s.carryWins p.die = [])
    (hpoison : f.poison = none) (hmute : f.mute = false)
    (hwaits : ∀ n < 4, ∀ j m, ((s.tile p.key).thread n).wait = .counter j m → j.val ≠ f.ctr) : let t := s.eject f
    (s.tile p.key).holdsAt (t.tile p.key) f.offset f.data ∧
      (∀ c, (t.tile p.key).ctr.get 0 c =
        if c = f.ctr ∧ f.last = true ∧ f.tick = s.seq % 256 then counted ((s.tile p.key).ctr.get 0 c) else (s.tile p.key).ctr.get 0 c) ∧
      t.flights = s.flights ∧ (∀ j, j ≠ p.key → t.tile j = s.tile j) ∧ t.regs = s.regs := by
  let whole := f.last && (f.tick == s.seq % 256)
  have heject : s.eject f = s.land p.key f.offset f.data (if whole then some f.ctr else none) f.last := by
    simp only [State.eject, hmode, hpoison, hmute, hrouter, Option.isNone_none, Bool.not_false, Bool.true_and, Option.getD_none, List.take_length, whole]
    exact if_neg (by decide)
  have hcounts : ∀ c, ((if whole then some f.ctr else none) = some c ∧ f.last = true) ↔ (c = f.ctr ∧ f.last = true ∧ f.tick = s.seq % 256) := fun c => by
    simp only [whole, Option.ite_none_right_eq_some, Bool.and_eq_true, beq_iff_eq, Option.some.injEq]
    exact ⟨fun h => ⟨h.1.2.symm, h.1.1⟩, fun h => ⟨⟨h.2, h.1.symm⟩, h.2.1⟩⟩
  have hidle : ∀ n < 4, ∀ j m, ((s.tile p.key).thread n).wait = .counter j m → (if whole then some f.ctr else none) ≠ some j.val := by
    intro n hn j m hwait hj
    exact hwaits n hn j m hwait (Option.some.inj (Option.ite_none_right_eq_some.1 hj).2.symm)
  obtain ⟨hholds, hctr, hflights, hothers, hregs⟩ := State.land_plain (off := f.offset) (data := f.data) (messageEnd := f.last) hpower
    (by rwa [TileId.keyDie_key]) hidle
  dsimp only
  rw [heject]
  exact ⟨hholds, fun c => (hctr c).trans (if_congr (hcounts c) rfl rfl), hflights, hothers, hregs⟩

end

section
variable {s : State} {p : TileId} {i : Nat} {f : Flight}

/-- The state in which packet `i`, taken from its link, is marked as traffic of its router. -/
def State.atRouter (s : State) (i : Nat) (f : Flight) : State := (s.packetTaken i).traffic f.router f.vc 2

theorem State.tile_atRouter (j : Nat) : (s.atRouter i f).tile j = s.tile j := State.tile_traffic j

variable (hf : s.flights[i]? = some f) (hrouter : f.router = p.key) (hport : f.port ≠ 6) (hmode : f.mode = 0) (htarget : f.target = 0)
  (hcombine : s.mustCombine f = false) (hmove : s.mayMove i f = true)
include hf hrouter hport hmode htarget hcombine hmove

/-- A unicast packet with one output goes one link on. -/
theorem arrival_onward {port n : Nat} {turned : Option Nat} (hway : s.unicastOut f = ⟨[(port, turned)], false⟩) (hlink : port ≠ 6)
    (hn : neighbour p.key port = some n) : ∃ t, exec (.meshPacketArrival p i (.link [])) s = .next t ∧ t.tiles = s.tiles ∧ t.regs = s.regs ∧
      t.flights = s.flights.eraseIdx i ++ [{ f with router := n, port := facing port, turned := turned }] :=
  ⟨_, exec_meshPacketArrival_whole hf hrouter hport hcombine hmove,
    State.passOn_link (s := s.packetTaken i) ((State.outputs_unicast hmode htarget).trans (congrArg some hway)) hlink (by rwa [hrouter])⟩

variable (hway : s.unicastOut f = ⟨[], true⟩)
include hway

theorem exec_arrival_eject : exec (.meshPacketArrival p i (.link [])) s = .next ((s.atRouter i f).eject f) :=
  (exec_meshPacketArrival_whole hf hrouter hport hcombine hmove).trans
    (congrArg _ (State.passOn_eject (s := s.packetTaken i) ((State.outputs_unicast hmode htarget).trans (congrArg some hway))))

/-- A unicast packet at its tile, powered and with no carry window: its bytes stand, its message counts. -/
theorem arrival_delivered (hpower : s.tilePowered p.key = true) (hwins : s.carryWins p.die = []) (hpoison : f.poison = none) (hmute : f.mute = false)
    (hwaits : ∀ n < 4, ∀ j m, ((s.tile p.key).thread n).wait = .counter j m → j.val ≠ f.ctr) :
    ∃ t, exec (.meshPacketArrival p i (.link [])) s = .next t ∧ (s.tile p.key).holdsAt (t.tile p.key) f.offset f.data ∧
      (∀ c, (t.tile p.key).ctr.get 0 c =
        if c = f.ctr ∧ f.last = true ∧ f.tick = s.seq % 256 then counted ((s.tile p.key).ctr.get 0 c) else (s.tile p.key).ctr.get 0 c) ∧
      t.flights = s.flights.eraseIdx i ∧ (∀ j, j ≠ p.key → t.tile j = s.tile j) ∧ t.regs = s.regs := by
  obtain ⟨hpowered, hcarry, hseq, -⟩ := State.traffic_reads (s := s.packetTaken i) (k := f.router) (vc := f.vc) (level := 2) p.key p.die
  obtain ⟨hholds, hctr, hflights, hothers, hregs⟩ := State.eject_plain (s := s.atRouter i f) hrouter hmode (hpowered.trans hpower) (hcarry.trans hwins)
    hpoison hmute (by rw [State.tile_atRouter]; exact hwaits)
  rw [State.tile_atRouter] at hholds
  refine ⟨_, exec_arrival_eject hf hrouter hport hmode htarget hcombine hmove hway, hholds, fun c => ?_, hflights.trans State.traffic_flights,
    fun j hj => (hothers j hj).trans (State.tile_atRouter j), hregs.trans State.traffic_regs⟩
  rw [hctr, State.tile_atRouter, show (s.atRouter i f).seq = s.seq from hseq]

/-- A unicast packet at a tile that is off is sunk. -/
theorem arrival_sunk (hpower : s.tilePowered p.key = false) : ∃ t, exec (.meshPacketArrival p i (.link [])) s = .next t ∧ t.tiles = s.tiles ∧
    t.flights = s.flights.eraseIdx i ∧
    (s.fenced p.key = true → f.last = true → (t.router p.key).map.get 0 7 = min ((s.router p.key).map.get 0 7 + 1) 255) := by
  obtain ⟨hpowered, -, -, hfenced⟩ := State.traffic_reads (s := s.packetTaken i) (k := f.router) (vc := f.vc) (level := 2) p.key p.die
  have hland : ∃ ctr, (s.atRouter i f).eject f =
      (s.atRouter i f).land p.key f.offset (f.data.take (f.poison.getD f.data.length)) ctr f.last := by
    unfold State.eject
    rw [if_neg (by rw [hmode]; decide), hrouter]
    exact ⟨_, rfl⟩
  obtain ⟨ctr, hland⟩ := hland
  obtain ⟨htiles, hflights, hmap⟩ := State.land_sunk (s := s.atRouter i f) (k := p.key) (off := f.offset)
    (data := f.data.take (f.poison.getD f.data.length)) (ctr := ctr) (messageEnd := f.last) (hpowered.trans hpower)
  rw [← hland] at htiles hflights hmap
  exact ⟨_, exec_arrival_eject hf hrouter hport hmode htarget hcombine hmove hway, htiles.trans State.traffic_tiles, hflights.trans State.traffic_flights,
    fun hfence hlast => (hmap (hfenced.trans hfence) hlast).trans (congrArg (fun v => min (v + 1) 255) (State.traffic_map p.key (by decide)))⟩

end

/-- What O27 says of a packet that its link loses. -/
theorem arrival_lost {s : State} {p : TileId} {i : Nat} {f : Flight} {flips : List (Nat × Nat)} (hf : s.flights[i]? = some f)
    (hrouter : f.router = p.key) (hport : f.port ≠ 6) (hcombine : s.mustCombine f = false) (hmove : s.mayMove i f = true)
    (hlost : (readLink f.flits flips).lost = true) : ∃ t, exec (.meshPacketArrival p i (.link flips)) s = .next t ∧ t.tiles = s.tiles ∧
      t.flights = s.flights.eraseIdx i ∧ (t.router p.key).errNow.get false f.port = true ∧
      (s.ticking = true → (if s.tick.closed then t.tick.chargeNext else t.tick.charged) = true) ∧
      (let third := (s.router p.key).errNow.get false f.port = false ∧ (s.router p.key).errRun.get 0 f.port = 2
       (flag (s.reg (Reg.MSH_ERR_STATUS p.die)) 31 = false → t.reg (Reg.MSH_ERR_STATUS p.die) = if third then 0xC0000002 else 0x80000002) ∧
         (third → p.die.val ∈ t.recovery.dieReports)) := by
  obtain ⟨htiles, hflights, hrouters, htick, hmodule, hstatus⟩ := s.linkLeft_keeps (i := i) p.die (readLink f.flits flips).corrected
  have hrouter' : (s.linkLeft p.die i (readLink f.flits flips).corrected).router p.key = s.router p.key := congrArg (SMap.get _ · _) hrouters
  obtain ⟨htiles', hflights', hmarked, hcharged, hshown, hreported⟩ := State.linkError_leaves
    (s := s.linkLeft p.die i (readLink f.flits flips).corrected) (k := p.key) (port := f.port) (vc := f.vc) (code := 0x02) (by decide)
  rw [TileId.keyDie_key, hstatus, hrouter'] at hshown
  rw [TileId.keyDie_key, hrouter'] at hreported
  rw [State.ticking, hmodule, htick] at hcharged
  exact ⟨_, exec_meshPacketArrival_lost hf hrouter hport hcombine hmove hlost, htiles'.trans htiles, hflights'.trans hflights, hmarked, hcharged, hshown,
    hreported⟩

/-- Settles O27: the way of a packet by `arrival_onward`, its arrival by `arrival_delivered` and `arrival_sunk`, the checks of a link by what struck a flit
(`Struck`), a lost packet by `arrival_lost`. -/
theorem meshArrivalAndLinkErrors : Obligations.MeshArrivalAndLinkErrors := by
  refine ⟨?_, fun n j b hj hb => readLink_one hj hb, fun n j b c hj hb _ hne hcover hpos => readLink_two hj hb hne hcover hpos,
    fun n b c hb _ hne hcover => readLink_head hb hne hcover, fun n j b hj hb hb' => readLink_sideband hj hb hb',
    fun p i f s flips => arrival_lost⟩
  intro p i f s k hf hrouter hport hmode htarget hcombine hmove col onward
  have hrow : keyRow f.router = p.row := by rw [hrouter, TileId.keyRow_key]
  have hcol : keyCol f.router = p.pcol := by rw [hrouter, TileId.keyCol_key]
  have honward : ∀ port turned, s.unicastOut f = ⟨[(port, turned)], false⟩ → port ≠ 6 → onward port turned := fun port turned hway hlink n hn =>
    arrival_onward hf hrouter hport hmode htarget hcombine hmove hway hlink hn
  refine ⟨fun hturned hup => honward 1 none (State.unicastOut_up hturned (by rwa [hrow])) (by decide),
    fun hturned hdown => honward 2 none (State.unicastOut_down hturned (by rwa [hrow])) (by decide), fun hin => ?_⟩
  have hway : s.unicastOut f = alongRow f.router col := by
    rw [State.unicastOut_row (hin.imp_right fun h => h.trans hrow.symm), hrouter, TileId.keyDie_key]
  refine ⟨fun heast => honward 3 (some col) (hway.trans (alongRow_east (by rwa [hcol]))) (by decide),
    fun hwest => honward 4 (some col) (hway.trans (alongRow_west (by rwa [hcol]))) (by decide), fun hhere => ?_⟩
  have hejected : s.unicastOut f = ⟨[], true⟩ := hway.trans (alongRow_here (hhere.trans hcol.symm))
  exact ⟨arrival_delivered hf hrouter hport hmode htarget hcombine hmove hejected, arrival_sunk hf hrouter hport hmode htarget hcombine hmove hejected⟩

end Sys2Proof.Machine

namespace Sys2Proof.Machine

/-! ## Bytes of a vector register (R63) -/

theorem leNat_eq_packNat (bs : List Byte) : leNat bs = packNat 8 (bs.map BitVec.toNat) := by
  induction bs with
  | nil => rfl
  | cons b bs ih => rw [leNat, ih, List.map_cons, packNat, Nat.mod_eq_of_lt b.isLt]; rfl

theorem toNat_vbyte (v : VReg) (j : Nat) : (vbyte v j).toNat = v.toNat / 2 ^ (8 * j) % 2 ^ 8 := BitVec.toNat_ofNat ..

theorem vbyte_ofBytes (bs : List Byte) {j : Nat} (h : j < 64) : vbyte (ofBytes bs) j = bs.getD j 0 := by
  have hdefault : (bs.map BitVec.toNat).getD j 0 = (bs.getD j 0).toNat := by
    rw [List.getD_eq_getElem?_getD, List.getD_eq_getElem?_getD, List.getElem?_map]
    cases bs[j]? <;> rfl
  apply BitVec.eq_of_toNat_eq
  rw [toNat_vbyte, ofBytes, leNat_eq_packNat, part_ofNat_packNat _ (by omega), hdefault]
  exact Nat.mod_eq_of_lt (bs.getD j 0).isLt

/-- A register given by its bytes. -/
theorem vbyte_ofByteFn (g : Nat → Byte) {j : Nat} (h : j < 64) : vbyte (ofBytes ((List.range 64).map g)) j = g j := by
  rw [vbyte_ofBytes _ h, List.getD_eq_getElem?_getD, List.getElem?_map, List.getElem?_range h]
  rfl

theorem vbyte_overlay (v : VReg) (o : Nat) (bs : List Byte) {j : Nat} (h : j < 64) :
    vbyte (overlay v o bs) j = if o ≤ j ∧ j < o + bs.length then bs.getD (j - o) 0 else vbyte v j := vbyte_ofByteFn _ h

theorem vbyte_setVbyte (v : VReg) (i : Nat) (b : Byte) {j : Nat} (h : j < 64) : vbyte (setVbyte v i b) j = if j = i then b else vbyte v j :=
  vbyte_ofByteFn _ h

theorem getD_leBytes {n j : Nat} (v : Nat) (h : j < n) : (leBytes n v).getD j 0 = BitVec.ofNat 8 (v / 2 ^ (8 * j)) := by
  induction n generalizing v j with
  | zero => exact absurd h (Nat.not_lt_zero j)
  | succ n ih =>
    cases j with
    | zero => simp [leBytes]
    | succ j =>
      rw [leBytes, List.getD_cons_succ, ih _ (Nat.lt_of_succ_lt_succ h), Nat.div_div_eq_div_mul, Nat.mul_succ, Nat.add_comm, pow_add]
      rfl

/-- The bytes over which a part lies spell it. -/
theorem part_of_bytes {v : VReg} {N o a w : Nat} (h : ∀ j, a / 8 ≤ j → j ≤ (a + w - 1) / 8 → vbyte v (o + j) = BitVec.ofNat 8 (N / 2 ^ (8 * j))) :
    v.toNat / 2 ^ (8 * o + a) % 2 ^ w = N / 2 ^ a % 2 ^ w := by
  refine Nat.eq_of_testBit_eq fun i => ?_
  simp only [Nat.testBit_mod_two_pow, Nat.testBit_div_two_pow]
  by_cases hi : i < w
  · have hbyte := congrArg (fun b : Byte => b.toNat.testBit ((i + a) % 8)) (h ((i + a) / 8) (by omega) (by omega))
    simp only [toNat_vbyte, BitVec.toNat_ofNat, Nat.testBit_mod_two_pow, Nat.testBit_div_two_pow] at hbyte
    rw [decide_eq_true (Nat.mod_lt (i + a) (by decide)), Bool.true_and, Bool.true_and, show (i + a) % 8 + 8 * (o + (i + a) / 8) = i + (8 * o + a) by omega,
      show (i + a) % 8 + 8 * ((i + a) / 8) = i + a by omega] at hbyte
    rw [hbyte]
  · rw [decide_eq_false hi, Bool.false_and, Bool.false_and]

/-! ## MX elements and blocks (R101, R108, R109) -/

/-- The bits of an element's code (R101). -/
def MxType.width : MxType → Nat
  | .e4m3 | .e5m2 | .int8 => 8
  | .e3m2 | .e2m3 => 6
  | .e2m1 => 4

/-- A floating element type has room for its sign above its largest code. -/
theorem MxType.maxCode_lt (t : MxType) (h : t ≠ .int8) : 2 ^ (t.fmt.p + t.fmt.ew) + t.maxCode < 2 ^ t.width := by
  cases t with
  | int8 => exact absurd rfl h
  | _ => decide

theorem MxType.pack_int8_lt (r : Rounding) (scale : Nat) (x : FV) : (MxType.int8.pack r scale x).1 < 2 ^ 8 := by
  have hcode : ∀ (i : Int) (fl : Nat), (if i > 127 then (127, flagSaturated) else if i < -128 then (128, flagSaturated)
      else ((i % 256).toNat, fl)).1 < 2 ^ 8 := fun i fl => by
    split
    · decide
    · split
      · decide
      · dsimp only; omega
  cases x with
  | fin neg m e => exact hcode _ _
  | _ => exact Nat.two_pow_pos 8

theorem MxType.pack_float (t : MxType) (ht : t ≠ .int8) (r : Rounding) (scale : Nat) (x : FV) : (t.pack r scale x).1 < 2 ^ t.width := by
  have hmax := t.maxCode_lt ht
  have hsign : ∀ neg : Bool, (if neg then 2 ^ (t.fmt.p + t.fmt.ew) else 0) ≤ 2 ^ (t.fmt.p + t.fmt.ew) := fun neg => by cases neg <;> simp
  cases x with
  | nan => exact Nat.two_pow_pos _
  | inf n => exact Nat.two_pow_pos _
  | fin neg m e =>
    have hneg := hsign neg
    unfold MxType.pack
    cases t with
    | int8 => exact absurd rfl ht
    | _ => dsimp only; split <;> dsimp only <;> omega

/-- An element's code fits its width. -/
theorem MxType.pack_lt (t : MxType) (r : Rounding) (scale : Nat) (x : FV) : (t.pack r scale x).1 < 2 ^ t.width := by
  by_cases ht : t = .int8
  · exact ht ▸ MxType.pack_int8_lt r scale x
  · exact t.pack_float ht r scale x

/-- The roundings of a list of elements: `r` of its first, `rs` of the rest. -/
def Rounding.before (r : Rounding) (rs : Nat → Rounding) : Nat → Rounding
  | 0 => r
  | i + 1 => rs i

/-- VPACK packs each element with a rounding of its own; without stochastic rounding it is to nearest, and nothing is drawn (R105). -/
theorem packElems_spec (ty : MxType) (rmode : Bool) (sc d : Nat) (xs : List FV) : ∃ rs : Nat → Rounding,
    (rmode = false → (packElems ty rmode sc d xs).2.2 = d ∧ ∀ i, rs i = .nearest) ∧
      (packElems ty rmode sc d xs).1 = xs.mapIdx (fun i v => (ty.pack (rs i) sc v).1) ∧
      (packElems ty rmode sc d xs).2.1 = (xs.mapIdx (fun i v => (ty.pack (rs i) sc v).2)).foldr (fun a b => a ||| b) 0 := by
  induction xs generalizing d with
  | nil => exact ⟨fun _ => .nearest, fun _ => ⟨rfl, fun _ => rfl⟩, rfl, rfl⟩
  | cons v vs ih =>
    obtain ⟨rs, hnear, hcodes, hflags⟩ := ih (if rmode && ty.packDraws sc v then d + 1 else d)
    refine ⟨(roundingOf rmode (ty.packDraws sc v) d).before rs, fun hr => ?_, ?_, ?_⟩
    · obtain ⟨hd, hrs⟩ := hnear hr
      subst hr
      refine ⟨hd, fun i => ?_⟩
      cases i with
      | zero => rfl
      | succ i => exact hrs i
    · rw [List.mapIdx_cons]
      exact congrArg _ hcodes
    · rw [List.mapIdx_cons, List.foldr_cons]
      exact congrArg _ hflags

theorem mapIdx_eq_range {β : Type} (g : Nat → FV → β) {xs : List FV} {n : Nat} (h : xs.length = n) :
    xs.mapIdx g = (List.range n).map (fun i => g i (xs.getD i .nan)) := by
  subst h
  refine List.ext_getElem (by simp) fun i hi _ => ?_
  rw [List.length_mapIdx] at hi
  simp [hi]

/-- What VPACK computes of its inputs (R108, R109): the scale, the codes, the flags and the draws used. -/
def packBlock (ty : MxType) (rmode : Bool) (d : Nat) (xs : List FV) : Nat × List Nat × Nat × Nat :=
  match mxScale ty xs with
  | none => (255, List.replicate 32 0, flagInvalid, d)
  | some (sc, g) =>
    if xs.all FV.isZero then (sc, List.replicate 32 0, g, d)
    else
      let (cs, fl, d) := packElems ty rmode sc d xs
      (sc, cs, orFlags g fl, d)

/-- Zeros alone give the scale of 1, and no flag (R108). -/
theorem mxScale_zero {ty : MxType} {xs : List FV} (h : xs.all FV.isZero = true) : mxScale ty xs = some (127, 0) := by
  have hzero : ∀ x ∈ xs, ∃ s e, x = .fin s 0 e := fun x hx => by
    have hx := List.all_eq_true.1 h x hx
    cases x with
    | fin s m e => exact ⟨s, e, by rw [eq_of_beq (show (m == 0) = true from hx)]⟩
    | _ => exact absurd hx Bool.false_ne_true
  have hfin : xs.any (fun x => match x with | .fin .. => false | _ => true) = false := List.any_eq_false.2 fun x hx => by
    obtain ⟨s, e, rfl⟩ := hzero x hx
    exact Bool.false_ne_true
  have hlogs : xs.filterMap FV.log2? = [] := List.filterMap_eq_nil_iff.2 fun x hx => by
    obtain ⟨s, e, rfl⟩ := hzero x hx
    rfl
  unfold mxScale
  rw [hlogs]
  exact if_neg (Bool.eq_false_iff.1 hfin)

/-- A block by its elements: the scale, each code, and the flags. -/
theorem packBlock_spec (ty : MxType) (rmode : Bool) (d : Nat) {xs : List FV} (hlen : xs.length = 32) : ∃ rs : Nat → Rounding,
    (rmode = false → (packBlock ty rmode d xs).2.2.2 = d ∧ ∀ i, rs i = .nearest) ∧
      BitVec.ofNat 8 (packBlock ty rmode d xs).1 = (match mxScale ty xs with | some (sc, _) => BitVec.ofNat 8 sc | none => 0xFF) ∧
      (∀ i < 32, (packBlock ty rmode d xs).2.1.getD i 0 % 2 ^ ty.width = if xs.all FV.isZero then 0
        else match mxScale ty xs with | some (sc, _) => (ty.pack (rs i) sc (xs.getD i .nan)).1 | none => 0) ∧
      (packBlock ty rmode d xs).2.2.1 % 16 = if xs.all FV.isZero then 0
        else match mxScale ty xs with
        | some (sc, g) => (g ||| ((List.range 32).map (fun i => (ty.pack (rs i) sc (xs.getD i .nan)).2)).foldr (fun a b => a ||| b) 0) % 16
        | none => flagInvalid := by
  have hnil : ∀ i < 32, (List.replicate 32 0).getD i 0 % 2 ^ ty.width = 0 := fun i hi => by
    rw [List.getD_eq_getElem?_getD, List.getElem?_replicate_of_lt hi]
    exact Nat.zero_mod _
  by_cases hz : xs.all FV.isZero = true
  · refine ⟨fun _ => .nearest, ?_⟩
    simp only [packBlock, mxScale_zero hz, hz, if_true]
    exact ⟨fun _ => ⟨trivial, fun _ => trivial⟩, trivial, hnil, trivial⟩
  · cases hsc : mxScale ty xs with
    | none =>
      refine ⟨fun _ => .nearest, ?_⟩
      simp only [packBlock, hsc, hz, if_false, Bool.false_eq_true]
      exact ⟨fun _ => ⟨trivial, fun _ => trivial⟩, rfl, hnil, rfl⟩
    | some p =>
      obtain ⟨sc, g⟩ := p
      obtain ⟨rs, hnear, hcodes, hflags⟩ := packElems_spec ty rmode sc d xs
      refine ⟨rs, ?_⟩
      simp only [packBlock, hsc, hz, if_false, Bool.false_eq_true]
      refine ⟨hnear, trivial, fun i hi => ?_, ?_⟩
      · rw [hcodes, mapIdx_eq_range _ hlen, List.getD_eq_getElem?_getD, List.getElem?_map, List.getElem?_range hi]
        exact Nat.mod_eq_of_lt (ty.pack_lt ..)
      · rw [hflags, mapIdx_eq_range _ hlen]
        rfl

end Sys2Proof.Machine

namespace Sys2Proof.Machine

theorem pairElems_eq (x : Thread) (n : Nat) : pairElems x n = (List.range 32).map (fun i => lane (x.rv (n + i / 16)) (i % 16)) := rfl

theorem Thread.rv_advance (x : Thread) (c m : Nat) : (x.advance c none).rv m = x.rv m := rfl
theorem Thread.readyAt_advance (x : Thread) (c : Nat) (r : RegRef) : (x.advance c none).readyAt r = x.readyAt r := by cases r <;> rfl
theorem State.ctxOf_rv (s : State) (u : Issue) (f : Fields) (cls fn m : Nat) : (s.ctxOf u f cls fn).x.rv m = (s.at_ u).rv m := rfl

/-- The thread of a VPACK (R72): the elements' register first, the scale byte second. -/
def Thread.packed (x : Thread) (d sb : Nat) (v : VReg) (p : Nat) (b : Byte) (c : Nat) : Thread :=
  (x.wv d v c).wv sb (setVbyte ((x.wv d v c).rv sb) p b) c

section
variable {s : State} {u : Issue} {f : Fields} {fn w : Nat} {ty : Bool → MxType}

theorem Thread.packed_rv (x : Thread) (d sb : Nat) (v : VReg) (p : Nat) (b : Byte) (c m : Nat) :
    (x.packed d sb v p b c).rv m = if m = sb then setVbyte (if sb = d then v else x.rv sb) p b else if m = d then v else x.rv m := by
  rw [Thread.packed, Thread.rv_wv, Thread.rv_wv, Thread.rv_wv]

/-- A byte of the elements' register: the scale byte stands over it where both are one register. -/
theorem Thread.packed_elems (x : Thread) (d sb : Nat) (v : VReg) (p : Nat) (b : Byte) (c : Nat) {j : Nat} (hj : j < 64) (hp : d = sb → j ≠ p) :
    vbyte ((x.packed d sb v p b c).rv d) j = vbyte v j := by
  rw [Thread.packed_rv]
  by_cases hd : d = sb
  · rw [if_pos hd, if_pos hd.symm, vbyte_setVbyte _ _ _ hj, if_neg (hp hd)]
  · rw [if_neg hd, if_pos rfl]

theorem Thread.packed_scale (x : Thread) (d sb : Nat) (v : VReg) (p : Nat) (b : Byte) (c : Nat) {j : Nat} (hj : j < 64) :
    vbyte ((x.packed d sb v p b c).rv sb) j = if j = p then b else if sb = d then vbyte v j else vbyte (x.rv sb) j := by
  rw [Thread.packed_rv, if_pos rfl, vbyte_setVbyte _ _ _ hj]
  split
  · rfl
  · split <;> rfl

/-- An element of a block placed at byte `o`, where the scale byte does not stand over it. -/
theorem Thread.packed_element (x : Thread) {d sb p c o N : Nat} {v : VReg} (b : Byte) (hin : ∀ j < 4 * w, vbyte v (o + j) = BitVec.ofNat 8 (N / 2 ^ (8 * j)))
    (ho : o + 4 * w ≤ 64) {i : Nat} (hi : i < 32) (hover : d = sb → p < o + w * i / 8 ∨ o + (w * i + w - 1) / 8 < p) :
    ((x.packed d sb v p b c).rv d).toNat / 2 ^ (8 * o + w * i) % 2 ^ w = N / 2 ^ (w * i) % 2 ^ w := by
  have hlast : w * i + w ≤ w * 32 := by
    rw [← Nat.mul_succ]
    exact Nat.mul_le_mul_left w hi
  by_cases hw : w = 0
  · subst hw
    rw [pow_zero, Nat.mod_one, Nat.mod_one]
  · refine part_of_bytes fun j hlow hhigh => ?_
    have hj : j < 4 * w := by omega
    rw [Thread.packed_elems _ _ _ _ _ _ _ (by omega) (fun he => by have := hover he; omega), hin j hj]

/-- The inputs of a VPACK. -/
def Ctx.packInputs (q : Ctx) : List FV := (pairElems q.x q.f.srca.toNat).map ofF32

/-- What a VPACK computes of its inputs. -/
def Ctx.block (q : Ctx) (t : MxType) : Nat × List Nat × Nat × Nat := packBlock t (flag q.f.imm 16) q.s.draws q.packInputs

/-- The elements' register after a VPACK. -/
def Ctx.blockReg (q : Ctx) (w : Nat) (cs : List Nat) : VReg := overlay (q.x.rv q.f.dest.toNat) (q.f.bits 5 0) (leBytes (4 * w) (packNat w cs))

/-- What a VPACK whose block lies in its register does with the block `p`. -/
def Ctx.placeBlock (q : Ctx) (w : Nat) (p : Nat × List Nat × Nat × Nat) : Effect :=
  .done { q.s with draws := p.2.2.2 } (q.flagged p.2.2.1)
    (q.x.packed q.f.dest.toNat q.f.srcb.toNat (q.blockReg w p.2.1) (q.f.bits 13 8) (BitVec.ofNat 8 p.1) (q.c + 3)) none

theorem vecPack_eq : vecPack fn w ty u f s = s.issue u f 3 fn (fun q =>
    if q.f.bits 5 0 % 8 ≠ 0 ∨ q.f.bits 5 0 + 4 * w > 64 then .fault 0x01 0 else q.placeBlock w (q.block (ty (flag q.f.imm 17)))) := rfl

/-- A VPACK whose block lies in its register moves its thread on with the block in place. -/
theorem vecPack_movesOn (h : s.clear u f 3 fn = true) (ho : f.bits 5 0 % 8 = 0) (hw : f.bits 5 0 + 4 * w ≤ 64)
    {p : Nat × List Nat × Nat × Nat} (hp : (s.ctxOf u f 3 fn).block (ty (flag f.imm 17)) = p) :
    vecPack fn w ty u f s = s.movedOn { s with draws := p.2.2.2 } u ((s.ctxOf u f 3 fn).flagged p.2.2.1)
      ((s.ctxOf u f 3 fn).x.packed f.dest.toNat f.srcb.toNat ((s.ctxOf u f 3 fn).blockReg w p.2.1) (f.bits 13 8) (BitVec.ofNat 8 p.1)
        (s.cycleOf u + 3)) := by
  have hplace : ¬((s.ctxOf u f 3 fn).f.bits 5 0 % 8 ≠ 0 ∨ (s.ctxOf u f 3 fn).f.bits 5 0 + 4 * w > 64) := by
    change ¬(f.bits 5 0 % 8 ≠ 0 ∨ f.bits 5 0 + 4 * w > 64)
    omega
  rw [vecPack_eq]
  exact issue_movesOn h ((if_neg hplace).trans (congrArg ((s.ctxOf u f 3 fn).placeBlock w) hp)) (.wv (.wv (s.ctxOf_samePlace u f 3 fn) ..) ..)

/-- The bytes of the block's place spell its codes. -/
theorem Ctx.blockReg_inside (q : Ctx) (cs : List Nat) {j : Nat} (hj : j < 4 * w) (hw : q.f.bits 5 0 + 4 * w ≤ 64) :
    vbyte (q.blockReg w cs) (q.f.bits 5 0 + j) = BitVec.ofNat 8 (packNat w cs / 2 ^ (8 * j)) := by
  rw [Ctx.blockReg, vbyte_overlay _ _ _ (by omega), length_leBytes, if_pos ⟨Nat.le_add_right .., by omega⟩, Nat.add_sub_cancel_left, getD_leBytes _ hj]

theorem Ctx.blockReg_outside (q : Ctx) (cs : List Nat) {j : Nat} (hj : j < 64) (hout : j < q.f.bits 5 0 ∨ q.f.bits 5 0 + 4 * w ≤ j) :
    vbyte (q.blockReg w cs) j = vbyte (q.x.rv q.f.dest.toNat) j := by
  rw [Ctx.blockReg, vbyte_overlay _ _ _ hj, length_leBytes, if_neg (by omega)]

end

theorem wpair_low (elem : Nat → Word) : ofLanes (((List.range 32).map elem).take 16) = ofLaneFn elem := rfl
theorem wpair_high (elem : Nat → Word) : ofLanes (((List.range 32).map elem).drop 16) = ofLaneFn (fun i => elem (16 + i)) := rfl

theorem Thread.wpair_rv (x : Thread) (d c m : Nat) (elem : Nat → Word) : (x.wpair d ((List.range 32).map elem) c).rv m =
    if m = d + 1 then ofLaneFn (fun i => elem (16 + i)) else if m = d then ofLaneFn elem else x.rv m := by
  rw [Thread.wpair, Thread.rv_wv, Thread.rv_wv, wpair_low, wpair_high]

/-- Element `i` of a written pair. -/
theorem Thread.wpair_lane (x : Thread) (d c : Nat) (elem : Nat → Word) {i : Nat} (hi : i < 32) :
    lane ((x.wpair d ((List.range 32).map elem) c).rv (d + i / 16)) (i % 16) = elem i := by
  rw [Thread.wpair_rv]
  by_cases hlow : i < 16
  · rw [if_neg (by omega), if_pos (by omega), lane_ofLaneFn _ (by omega), Nat.mod_eq_of_lt hlow]
  · rw [if_pos (by omega), lane_ofLaneFn _ (by omega), show 16 + i % 16 = i by omega]

theorem Thread.readyAt_wv (x : Thread) (n : Nat) (v : VReg) (c m : Nat) : (x.wv n v c).readyAt (.v m) = if m = n then c else x.readyAt (.v m) :=
  SMap.get_set 0 x.vReady n m c

theorem Thread.wpair_readyAt (x : Thread) (d c : Nat) (ws : List Word) {m : Nat} (hm : m = d ∨ m = d + 1) : (x.wpair d ws c).readyAt (.v m) = c := by
  rw [Thread.wpair, Thread.readyAt_wv, Thread.readyAt_wv]
  split
  · rfl
  · exact if_pos (by omega)

/-- A register pair written with 32 elements (R63), and flags. -/
theorem pairDone_of_body {s : State} {u : Issue} {f : Fields} {cls fn d lat fl : Nat} {body : Ctx → Effect} {elem : Nat → Word}
    (h : s.clear u f cls fn = true)
    (hbody : body (s.ctxOf u f cls fn) = .done s ((s.ctxOf u f cls fn).flagged fl)
      ((s.ctxOf u f cls fn).x.wpair d ((List.range 32).map elem) (s.cycleOf u + lat)) none) :
    pairDone s (s.issue u f cls fn body) u d elem lat fl := by
  obtain ⟨hbooks, hflags⟩ := Ctx.flagged_books (q := s.ctxOf u f cls fn) (s.booked_books u _) fl
  have hplace : (s.at_ u).SamePlace ((s.ctxOf u f cls fn).x.wpair d ((List.range 32).map elem) (s.cycleOf u + lat)) :=
    .wv (.wv (s.ctxOf_samePlace u f cls fn) ..) ..
  rw [issue_movesOn h hbody hplace]
  refine ⟨rfl, State.movedOn_only rfl hbooks _, State.movedOn_goesOn hplace, ?_⟩
  rw [State.at_movedOn, State.tile_movedOn]
  simp only [Thread.rv_advance, Thread.readyAt_advance]
  refine ⟨fun _ => rfl, fun _ => rfl, fun m hlow hhigh => ?_, fun i hi => Thread.wpair_lane _ d _ elem hi,
    Thread.wpair_readyAt _ d _ _ (.inl rfl), Thread.wpair_readyAt _ d _ _ (.inr rfl), hflags⟩
  rw [Thread.wpair_rv, if_neg hhigh, if_neg hlow, State.ctxOf_rv]

/-- Each VUNPK gives its 32 elements (R72, R110). -/
theorem vecUnpk_done {s : State} {u : Issue} {f : Fields} {fn w : Nat} {ty : Bool → MxType} (h : s.clear u f 3 fn = true)
    (ho : f.bits 5 0 % 8 = 0) (hw : f.bits 5 0 + 4 * w ≤ 64) :
    let sc := (vbyte ((s.at_ u).rv f.srcb.toNat) (f.bits 13 8)).toNat
    let g := fun i => unpackElem (ty (flag f.imm 17)) sc (((s.at_ u).rv f.srca.toNat).toNat / 2 ^ (8 * f.bits 5 0 + w * i) % 2 ^ w)
    pairDone s (vecUnpk fn w ty u f s) u f.dest.toNat (fun i => (g i).1) 3 (((List.range 32).map (fun i => (g i).2)).foldr (fun a b => a ||| b) 0) := by
  refine pairDone_of_body h ((if_neg (by change ¬(f.bits 5 0 % 8 ≠ 0 ∨ f.bits 5 0 + 4 * w > 64); omega)).trans ?_)
  dsimp only
  rw [allFlags_eq, List.map_map, List.map_map]
  simp only [Function.comp_def, Nat.div_div_eq_div_mul, ← pow_add]
  rfl

/-- The four VPACKs by element type (R72). -/
theorem vpack_rows : ∀ r ∈ ([(Instr.vpackMxf8, 0x1C, 8, mxf8), (Instr.vpackMxf6, 0x1D, 6, mxf6), (Instr.vpackMxf4, 0x1E, 4, fun _ => .e2m1),
      (Instr.vpackMxi8, 0x1F, 8, fun _ => .int8)] : List ((Issue → Fields → Instr) × Nat × Nat × (Bool → MxType))),
    (∀ u f s, exec (r.1 u f) s = .next (vecPack r.2.1 r.2.2.1 r.2.2.2 u f s)) ∧ ∀ e, (r.2.2.2 e).width = r.2.2.1 := by
  simp only [List.forall_mem_cons, List.not_mem_nil, false_imp_iff, implies_true, and_true]
  exact ⟨⟨fun _ _ _ => rfl, by decide⟩, ⟨fun _ _ _ => rfl, by decide⟩, ⟨fun _ _ _ => rfl, by decide⟩, fun _ _ _ => rfl, by decide⟩

/-- The four VUNPKs by element type (R72). -/
theorem vunpk_rows : ∀ r ∈ ([(Instr.vunpkMxf8, 0x20, 8, mxf8), (Instr.vunpkMxf6, 0x21, 6, mxf6), (Instr.vunpkMxf4, 0x22, 4, fun _ => .e2m1),
      (Instr.vunpkMxi8, 0x23, 8, fun _ => .int8)] : List ((Issue → Fields → Instr) × Nat × Nat × (Bool → MxType))),
    ∀ u f s, exec (r.1 u f) s = .next (vecUnpk r.2.1 r.2.2.1 r.2.2.2 u f s) := by
  simp only [List.forall_mem_cons, List.not_mem_nil, false_imp_iff, implies_true, and_true]
  exact ⟨fun _ _ _ => rfl, fun _ _ _ => rfl, fun _ _ _ => rfl, fun _ _ _ => rfl⟩

/-- An offset that names no block raises ILLEGAL (R72). -/
theorem vecPack_illegal {s : State} {u : Issue} {f : Fields} {fn w : Nat} {ty : Bool → MxType} (h : s.legal u f 3 fn = true)
    (ho : f.bits 5 0 % 8 ≠ 0 ∨ 64 < f.bits 5 0 + 4 * w) : faultDone s (vecPack fn w ty u f s) u 0x01 0 := by
  rw [vecPack_eq]
  exact faultDone_of_body h (if_pos ho)

theorem vecUnpk_illegal {s : State} {u : Issue} {f : Fields} {fn w : Nat} {ty : Bool → MxType} (h : s.legal u f 3 fn = true)
    (ho : f.bits 5 0 % 8 ≠ 0 ∨ 64 < f.bits 5 0 + 4 * w) : faultDone s (vecUnpk fn w ty u f s) u 0x01 0 :=
  faultDone_of_body h (if_pos ho)

/-- Settles O11: VPACK by the bytes of its two registers (`packBlock_spec`, `Thread.packed_element`), VUNPK by `vecUnpk_done`. -/
theorem vectorMxBlocks : Obligations.VectorMxBlocks := by
  unfold Obligations.VectorMxBlocks
  refine ⟨fun r hr u f s h ho hw => ?_, fun r hr u f s h ho hw => ⟨_, vunpk_rows r hr u f s, vecUnpk_done h ho hw⟩, ?_⟩
  · obtain ⟨hexec, hwidth⟩ := vpack_rows r hr
    obtain ⟨fi, fn, w, tys⟩ := r
    dsimp only at h hw hexec hwidth ⊢
    generalize hxs : (List.range 32).map (fun i => ofF32 (lane ((s.at_ u).rv (f.srca.toNat + i / 16)) (i % 16))) = xs
    generalize hty : tys (flag f.imm 17) = ty
    have hinputs : (s.ctxOf u f 3 fn).packInputs = xs := by
      rw [← hxs, Ctx.packInputs, pairElems_eq, List.map_map]
      rfl
    have hwidth : ty.width = w := hty ▸ hwidth _
    obtain ⟨rs, hnear, hscale, hcodes, hflags⟩ := packBlock_spec ty (flag f.imm 16) s.draws (xs := xs) (by rw [← hxs]; simp)
    have hblock : (s.ctxOf u f 3 fn).block (tys (flag f.imm 17)) = packBlock ty (flag f.imm 16) s.draws xs := by
      rw [← hinputs, hty]
      rfl
    generalize packBlock ty (flag f.imm 16) s.draws xs = blk at *
    obtain ⟨hbooks, hflagged⟩ := Ctx.flagged_books (q := s.ctxOf u f 3 fn) (s.booked_books u _) blk.2.2.1
    have hp : f.bits 13 8 < 64 := Nat.mod_lt _ (by decide)
    have hin := fun j hj => Ctx.blockReg_inside (s.ctxOf u f 3 fn) blk.2.1 (w := w) (j := j) hj hw
    have hout := fun j hj hj' => Ctx.blockReg_outside (s.ctxOf u f 3 fn) blk.2.1 (w := w) (j := j) hj hj'
    have hmoves := vecPack_movesOn h ho hw hblock
    have hplace : (s.at_ u).SamePlace ((s.ctxOf u f 3 fn).x.packed f.dest.toNat f.srcb.toNat ((s.ctxOf u f 3 fn).blockReg w blk.2.1) (f.bits 13 8)
      (BitVec.ofNat 8 blk.1) (s.cycleOf u + 3)) := .wv (.wv (s.ctxOf_samePlace u f 3 fn) ..) ..
    generalize (s.ctxOf u f 3 fn).blockReg w blk.2.1 = v at *
    refine ⟨_, rs, (hexec u f s).trans (congrArg _ hmoves), hnear, rfl, State.movedOn_only rfl hbooks _, State.movedOn_goesOn hplace, ?_⟩
    rw [State.at_movedOn, State.tile_movedOn]
    simp only [Thread.rv_advance]
    refine ⟨fun _ => rfl, fun _ => rfl, ?_, ?_, ?_, ?_, ?_, ?_⟩
    · intro m hd hsb
      rw [Thread.packed_rv, if_neg hsb, if_neg hd, State.ctxOf_rv]
    · rw [Thread.packed_scale _ _ _ _ _ _ _ hp, if_pos rfl]
      exact hscale
    · intro i hi hover
      refine Eq.trans ?_ (hcodes i hi)
      rw [hwidth, ← packNat_part]
      exact Thread.packed_element _ _ hin hw hi fun he => hover (BitVec.eq_of_toNat_eq he)
    · intro j hj houtside hover
      rw [Thread.packed_elems _ _ _ _ _ _ _ hj fun he => hover (BitVec.eq_of_toNat_eq he)]
      exact hout j hj houtside
    · intro j hj hne houtside
      rw [Thread.packed_scale _ _ _ _ _ _ _ hj, if_neg hne, State.ctxOf_rv]
      split
      next he =>
        have he := BitVec.eq_of_toNat_eq he
        rw [he]
        exact hout j hj (houtside he.symm)
      next => rfl
    · refine hflagged.trans ?_
      rw [Nat.mul_comm]
      exact congrArg (fun k => (s.tile u.tile.key).sys 13 ||| BitVec.ofNat 32 (2 ^ (4 * u.thread.val) * k)) hflags
  · simp only [List.forall_mem_cons, List.not_mem_nil, false_imp_iff, implies_true, and_true]
    exact ⟨fun _ _ _ h ho => ⟨_, rfl, vecPack_illegal h ho⟩, fun _ _ _ h ho => ⟨_, rfl, vecPack_illegal h ho⟩,
      fun _ _ _ h ho => ⟨_, rfl, vecPack_illegal h ho⟩, fun _ _ _ h ho => ⟨_, rfl, vecPack_illegal h ho⟩,
      fun _ _ _ h ho => ⟨_, rfl, vecUnpk_illegal h ho⟩, fun _ _ _ h ho => ⟨_, rfl, vecUnpk_illegal h ho⟩,
      fun _ _ _ h ho => ⟨_, rfl, vecUnpk_illegal h ho⟩, fun _ _ _ h ho => ⟨_, rfl, vecUnpk_illegal h ho⟩⟩

end Sys2Proof.Machine

namespace Sys2Proof.Machine

/-! ## Accumulators (R74, R76, R77) -/

/-- A lane of a row is a part of the accumulator. -/
theorem lane_accRow (a : Acc) (i : Nat) {j : Nat} (hj : j < 16) : lane (accRow a i) j = BitVec.ofNat 32 (a.toNat / 2 ^ (32 * (16 * i + j))) := by
  apply BitVec.eq_of_toNat_eq
  rw [toNat_lane, accRow, BitVec.toNat_ofNat, mod_div_mod_of_le (by omega), Nat.div_div_eq_div_mul, ← pow_add, BitVec.toNat_ofNat,
    show 512 * i + 32 * j = 32 * (16 * i + j) by omega]

/-- An accumulator given by its 256 elements, row by row. -/
theorem lane_accRow_packed (g : Nat → Nat → Word × Nat) {i j : Nat} (hi : i < 16) (hj : j < 16) :
    lane (accRow (BitVec.ofNat 8192 (packNat 32 (((List.range 256).map (fun n => g (n / 16) (n % 16))).map (fun r => r.1.toNat)))) i) j = (g i j).1 := by
  apply BitVec.eq_of_toNat_eq
  rw [lane_accRow _ _ hj, BitVec.toNat_ofNat, part_ofNat_packNat _ (by omega), List.map_map, List.getD_eq_getElem?_getD, List.getElem?_map,
    List.getElem?_range (by omega)]
  change (g ((16 * i + j) / 16) ((16 * i + j) % 16)).1.toNat % 2 ^ 32 = _
  rw [show (16 * i + j) / 16 = i by omega, show (16 * i + j) % 16 = j by omega]
  exact Nat.mod_eq_of_lt (g i j).1.isLt

/-! ## Outer products (R75, R76) -/

/-- Element (i, j) of a MOP into `old`: of row `i` of A and row `j` of B, with their scales. -/
def mopElem (fm : MopFormat) (va vb : Nat → FV) (old : Acc) (clr : Bool) (pa pb : Nat) (sv : VReg) (aq bq i j : Nat) : Word × Nat :=
  let o := if clr then FV.fin false 0 0 else ofF32 (lane (accRow old i) j)
  let row := fun (v : Nat → FV) (p i : Nat) => (List.range fm.k).map (fun n => v (p / 2 ^ (fm.pitch * i + fm.w * n) % 2 ^ fm.w))
  if fm.mx then mopMx o (row va pa i) (row vb pb j) (vbyte sv (16 * aq + i)).toNat (vbyte sv (16 * bq + j)).toNat
  else mopWide o (row va pa i) (row vb pb j)

theorem mopAcc_eq (fm : MopFormat) (va vb : Nat → FV) (old : Acc) (clr : Bool) (pa pb : Nat) (sv : VReg) (aq bq : Nat) :
    mopAcc fm va vb old clr pa pb sv.toNat aq bq =
      (List.range 256).map (fun n => mopElem fm va vb old clr pa pb sv aq bq (n / 16) (n % 16)) := by
  refine List.map_congr_left fun n _ => ?_
  have hold : BitVec.ofNat 32 (old.toNat / 2 ^ (32 * n)) = lane (accRow old (n / 16)) (n % 16) := by
    rw [lane_accRow _ _ (by omega), Nat.div_add_mod]
  dsimp only
  rw [hold]
  simp only [mopElem, toNat_vbyte]
  rfl

/-- A MOP is queued behind those that are still at work (R42). -/
theorem Tile.macPush_mac (t : Tile) (a n c : Nat) : ∃ l ∈ (t.macPush a n c).mac, l.1 = a ∧ (t.macPush a n c).macLast.get 0 a = l.2 ∧ c + n ≤ l.2 := by
  refine ⟨_, List.mem_append_right _ (List.mem_singleton_self _), rfl, SMap.get_set_same .., Nat.add_le_add_right ?_ n⟩
  cases h : (t.mac.filter (fun e => decide (e.2 ≥ c))).getLast? with
  | none => exact Nat.le_refl c
  | some e => exact of_decide_eq_true (List.mem_filter.1 (List.mem_of_getLast? h)).2

/-- The flags of a MOP rise for the bound thread (R117). -/
theorem BookedBut.mopFlags {a b : Tile} (h : Booked a b) (fl : Nat) : BookedBut [13] a (if fl = 0 then b else b.setFlags 0 fl) ∧
    (if fl = 0 then b else b.setFlags 0 fl).sys 13 = a.sys 13 ||| BitVec.ofNat 32 (fl % 16) := by
  have hsys := h.sys 13 (by decide) (by decide)
  split
  next hnone =>
    refine ⟨h.but _, ?_⟩
    rw [hsys, hnone]
    simp
  next =>
    refine ⟨(h.but [13]).setSys (.inr (.inr (by decide))) _, ?_⟩
    rw [Tile.setFlags, Tile.sys_setSys, if_pos rfl, hsys, Nat.mul_zero, pow_zero, Nat.mul_one]

section
variable {s : State} {u : Issue} {f : Fields} {fn : Nat}

/-- What a MOP that gives the elements `g` leaves. -/
def mopDone (s t : State) (u : Issue) (d cycles : Nat) (g : Nat → Nat → Word × Nat) : Prop :=
  let a := s.tile u.tile.key
  let b := t.tile u.tile.key
  sameBesideTiles s t ∧ (∀ j, j ≠ u.tile.key → t.tile j = s.tile j) ∧ (∀ m, m ≠ u.thread.val → b.thread m = a.thread m) ∧
    { b with threads := a.threads, cycle := a.cycle, lastLoose := a.lastLoose, portFree := a.portFree, til := a.til, acc := a.acc,
             accBad := a.accBad, mac := a.mac, macLast := a.macLast } = a ∧
    (∀ i, i ≠ 11 → i ≠ 12 → i ≠ 13 → b.sys i = a.sys i) ∧
    b.sys 13 = a.sys 13 ||| BitVec.ofNat 32 (((List.range 256).map (fun i => (g (i / 16) (i % 16)).2)).foldr (fun p q => p ||| q) 0 % 16) ∧
    (∀ n, n ≠ d → b.acc.get 0 n = a.acc.get 0 n) ∧
    (∀ i < 16, ∀ j < 16, lane (accRow (b.acc.get 0 d) i) j = (g i j).1) ∧
    (∃ l ∈ b.mac, l.1 = d ∧ b.macLast.get 0 d = l.2 ∧ s.cycleOf u + cycles ≤ l.2) ∧
    sameRegisters (s.at_ u) (t.at_ u) ∧ goesOn (s.at_ u) (t.at_ u)

/-- The core with a MOP queued and its accumulator written. -/
def Tile.mopped (t : Tile) (a n c : Nat) (v : Acc) (clr : Bool) : Tile :=
  { t.macPush a n c with acc := t.acc.set 0 a v, accBad := (if clr then t.accBad.set false a false else t.accBad) }

theorem mopDone_of_body {body : Ctx → Effect} {rs : List (Word × Nat)} {d cycles : Nat} {clr : Bool} {g : Nat → Nat → Word × Nat}
    (h : s.clear u f 4 fn = true) (hrs : rs = (List.range 256).map (fun n => g (n / 16) (n % 16)))
    (hbody : body (s.ctxOf u f 4 fn) = .done s
      ((if allFlags rs = 0 then (s.ctxOf u f 4 fn).t else (s.ctxOf u f 4 fn).t.setFlags 0 (allFlags rs)).mopped d cycles (s.cycleOf u)
        (BitVec.ofNat 8192 (packNat 32 (rs.map (fun r => r.1.toNat)))) clr) (s.ctxOf u f 4 fn).x none) :
    mopDone s (s.issue u f 4 fn body) u d cycles g := by
  have hplace := s.ctxOf_samePlace u f 4 fn
  obtain ⟨hbooks, hflags⟩ := BookedBut.mopFlags (s.booked_books u (opPort 4 fn f)) (allFlags rs)
  rw [issue_movesOn h hbody hplace]
  change BookedBut [13] _ (if allFlags rs = 0 then (s.ctxOf u f 4 fn).t else (s.ctxOf u f 4 fn).t.setFlags 0 (allFlags rs)) at hbooks
  change (if allFlags rs = 0 then (s.ctxOf u f 4 fn).t else (s.ctxOf u f 4 fn).t.setFlags 0 (allFlags rs)).sys 13 = _ at hflags
  generalize (if allFlags rs = 0 then (s.ctxOf u f 4 fn).t else (s.ctxOf u f 4 fn).t.setFlags 0 (allFlags rs)) = b at hbooks hflags ⊢
  obtain ⟨hrest, hthreads, hsys⟩ := hbooks
  refine ⟨rfl, State.movedOn_others rfl _ _ _, ?_⟩
  rw [State.tile_movedOn]
  refine ⟨fun m hm => ?_, ?_, fun i h11 h12 h13 => hsys i h11 h12 (by simp [h13]), ?_, fun n hn => ?_, fun i hi j hj => ?_,
    Tile.macPush_mac b d cycles (s.cycleOf u), State.movedOn_registers ⟨rfl, rfl, rfl⟩, State.movedOn_goesOn hplace⟩
  · rw [Tile.thread_setThread, if_neg hm, Tile.thread, Tile.thread]
    exact congrArg (fun l => SMap.get _ l m) hthreads
  · exact (congrArg (fun t : Tile => {
      t with acc := (s.tile u.tile.key).acc, accBad := (s.tile u.tile.key).accBad, mac := (s.tile u.tile.key).mac,
             macLast := (s.tile u.tile.key).macLast }) hrest :)
  · refine hflags.trans ?_
    rw [allFlags_eq, hrs, List.map_map]
    rfl
  · refine (SMap.get_set_other 0 b.acc _ hn).trans ?_
    rw [show b.acc = (s.tile u.tile.key).acc from (congrArg Tile.acc hrest :)]
  · refine (congrArg (fun v => lane (accRow v i) j) (SMap.get_set_same 0 b.acc d _)).trans ?_
    rw [hrs]
    exact lane_accRow_packed g hi hj

end

end Sys2Proof.Machine

namespace Sys2Proof.Machine

/-! ## A carry error leaves local addresses alone (R66, R239 to R241) -/

/-- Where a local address leads depends on the registers of the windows, the maps and the fences, and on the parity of the tick. -/
theorem State.localAt_congr {s t : State} {k : Nat} (hreg : ∀ a, a ≠ Reg.TIL_CARRY_ERR (keyDie k) → t.reg a = s.reg a)
    (hparity : t.tick.parity = s.tick.parity) (ea : Nat) (store : Bool) : t.localAt k ea store = s.localAt k ea store := by
  have hcol : t.physCol (keyDie k) (keyRow k) = s.physCol (keyDie k) (keyRow k) := funext fun l => by
    rw [State.physCol, State.physCol, rowMapIn, rowMapIn, hreg _ (by unfold Reg.MSH_ROW_MAP Reg.TIL_CARRY_ERR; omega)]
  have hfence : t.fenced k = s.fenced k := by
    rw [State.fenced, State.fenced, hreg _ (by unfold Reg.TIL_FENCE Reg.TIL_CARRY_ERR; omega)]
  have hbay : t.bayDie = s.bayDie := funext fun n => by
    unfold State.bayDie
    split
    · rw [hreg _ (by unfold Reg.TIL_CARRY_ERR Reg.HRT_BAY_MAP_0; omega)]
    · rw [hreg _ (by unfold Reg.TIL_CARRY_ERR Reg.HRT_BAY_MAP_1; omega)]
  have hwins : t.carryWins (keyDie k) = s.carryWins (keyDie k) := by
    unfold State.carryWins
    refine List.filterMap_congr fun w hw => ?_
    have hat : ∀ j < 4, t.reg (Reg.TIL_CARRY (keyDie k) w j) = s.reg (Reg.TIL_CARRY (keyDie k) w j) := fun j hj =>
      hreg _ (by have := List.mem_range.1 hw; unfold Reg.TIL_CARRY Reg.TIL_CARRY_ERR; omega)
    unfold State.carryWin
    rw [hat 0 (by decide), hat 1 (by decide), hat 2 (by decide), hat 3 (by decide)]
  have hown : t.ownTile k ea = s.ownTile k ea := by
    unfold State.ownTile State.dieBay State.logCol
    rw [hbay, hfence, hcol]
  unfold State.localAt
  rw [hown, hwins, hparity]

theorem State.charge_guard_parity (s : State) : s.charge.tick.guard = s.tick.guard ∧ s.charge.tick.parity = s.tick.parity := by
  unfold State.charge
  split
  · split <;> exact ⟨rfl, rfl⟩
  · exact ⟨rfl, rfl⟩

/-- Of what a store looks at, a carry error leaves all as it was. -/
theorem State.carryError_tick (s : State) (k window code : Nat) :
    (s.carryError k window code).tick.guard = s.tick.guard ∧ (s.carryError k window code).tick.parity = s.tick.parity := by
  have hkeep : ∀ x : State, x.tick = s.tick → (x.faultEvent 2 (keyDie k) code).charge.tick.guard = s.tick.guard ∧
      (x.faultEvent 2 (keyDie k) code).charge.tick.parity = s.tick.parity := fun x hx => by
    obtain ⟨hguard, hparity⟩ := (x.faultEvent 2 (keyDie k) code).charge_guard_parity
    rw [hguard, hparity, State.faultEvent_tick, hx]
    exact ⟨rfl, rfl⟩
  unfold State.carryError
  extract_lets d a s1
  refine hkeep s1 ?_
  simp only [s1]
  split <;> exact State.setReg_tick ..

theorem State.carryError_reg_other (s : State) (k window code : Nat) {a : Nat} (ha : a ≠ Reg.TIL_CARRY_ERR (keyDie k)) :
    (s.carryError k window code).reg a = s.reg a := by
  unfold State.carryError
  rw [State.reg, State.charge_regs, State.faultEvent_regs]
  change State.reg (if _ then _ else _) a = _
  split
  · exact (State.reg_setReg ..).trans (if_neg ha)
  · exact (State.reg_setReg ..).trans (if_neg ha)

/-! ## The offset of a 64-byte access (R241) -/

/-- A window's bases are multiples of 128. -/
theorem State.carryWins_bases (s : State) (d : Nat) {w : Nat × Nat × Nat × Nat × Nat} (h : w ∈ s.carryWins d) :
    w.2.1 % 64 = 0 ∧ w.2.2.2.1 % 64 = 0 ∧ w.2.2.2.2 % 64 = 0 := by
  obtain ⟨i, -, hw⟩ := List.mem_filterMap.1 h
  obtain ⟨x, hx, rfl⟩ := Option.map_eq_some_iff.1 hw
  unfold State.carryWin at hx
  split at hx
  · cases hx
    dsimp only
    omega
  · cases hx

/-- A window's range leads to a place as aligned as the address. -/
theorem aliased_aligned {s : State} {d ea : Nat} {w : Nat × Nat × Nat × Nat × Nat} (h : aliasWin (s.carryWins d) (ea % 2 ^ 20) = some w) (hea : ea % 64 = 0)
    (c : Bool) : (copyBase w c + (ea % 2 ^ 20 - w.2.1)) % 64 = 0 := by
  have hin := List.find?_some h
  obtain ⟨hbase, h0, h1⟩ := s.carryWins_bases d (List.mem_of_find?_eq_some h)
  have hle : w.2.1 ≤ ea % 2 ^ 20 := (of_decide_eq_true hin).1
  unfold copyBase
  split <;> omega

theorem State.localAt_aligned {s : State} {k ea off : Nat} {store w : Bool} (h : s.localAt k ea store = .at_ off w) (hea : ea % 64 = 0) : off % 64 = 0 := by
  unfold State.localAt at h
  split at h
  · cases h
  · dsimp only at h
    split at h
    · split at h
      · cases h
      · cases h
        omega
    · split at h
      · cases h
      next hwin =>
        split at h
        · cases h
        · cases h
          exact aliased_aligned hwin hea _
    · split at h
      · cases h
      next hwin =>
        cases h
        exact aliased_aligned hwin hea _
    · cases h

/-- Whole words need no merge (R481). -/
theorem partWords_aligned {off : Nat} (h : off % 64 = 0) : partWords off 64 = [] := by
  unfold partWords wordsOf
  rw [if_neg (by decide), List.filter_eq_nil_iff]
  intro w hw
  obtain ⟨i, hi, rfl⟩ := List.mem_map.1 hw
  have hi := List.mem_range.1 hi
  simp only [Bool.not_eq_true', Bool.and_eq_false_iff, decide_eq_false_iff_not]
  omega

end Sys2Proof.Machine

namespace Sys2Proof.Machine

/-! ## The rows of AST, one after the other (R77, R247) -/

/-- Whether a store that goes through the write range or not is made: the range is closed after the guard start (R247). -/
def State.puts (s : State) (w : Bool) : Prop := w = false ∨ s.tick.guard = false

theorem State.puts_iff (s : State) (w : Bool) : s.puts w ↔ (w && s.tick.guard) = false := Bool.and_eq_false_iff.symm

section
variable {q : Ctx} {a : Acc} {s : State} {t : Tile} {ea off : Nat} {w : Bool}

theorem Ctx.store_row (hat : s.localAt q.k ea true = .at_ off w) (ha : ea % 64 = 0) (hput : s.puts w) {bs : List Byte} (hbs : bs.length = 64) :
    q.store s t ea 64 bs = .inr (s, t.stores off bs w) := by
  have hparts : t.badWord (partWords off bs.length) = none := by
    rw [hbs, partWords_aligned (State.localAt_aligned hat ha)]
    rfl
  simp only [Ctx.store, hat, ha, ne_eq, not_true_eq_false, if_false, (s.puts_iff w).1 hput, Bool.false_eq_true, hparts, Tile.stores]

theorem Ctx.store_row_guarded (hat : s.localAt q.k ea true = .at_ off w) (ha : ea % 64 = 0) (hput : ¬ s.puts w) (bs : List Byte) :
    q.store s t ea 64 bs = .inr (s.carryError q.k (((copyWin (s.carryWins (keyDie q.k)) off).map (fun w => w.1)).getD 0) 0x04, t) := by
  have hguard : (w && s.tick.guard) = true := Bool.not_eq_false _ ▸ mt (s.puts_iff w).2 hput
  simp only [Ctx.store, hat, ha, ne_eq, not_true_eq_false, if_false, hguard, if_true]

theorem Ctx.storeRows_append (q : Ctx) (a : Acc) (ea : Nat) (xs ys : List Nat) (s : State) (t : Tile) :
    q.storeRows a ea (xs ++ ys) s t = q.storeRows a ea ys (q.storeRows a ea xs s t).1 (q.storeRows a ea xs s t).2 := by
  induction xs generalizing s t with
  | nil => rfl
  | cons x xs ih =>
    rw [List.cons_append, Ctx.storeRows, Ctx.storeRows]
    split
    · exact ih s t
    · exact ih _ _

/-- Byte `x` of row `r` of an accumulator whose rows stand at `off`. -/
def rowByte (a : Acc) (off : Nat → Nat) (r x : Nat) : Byte := BitVec.ofNat 8 ((accRow a r).toNat / 2 ^ (8 * (x - off r)))

/-- What the store of one row leaves of the core. -/
theorem Tile.stores_row_byte (t : Tile) (a : Acc) (off : Nat → Nat) (r : Nat) (w : Bool) (x : Nat) :
    (t.stores (off r) (leBytes 64 (accRow a r).toNat) w).byte x = if off r ≤ x ∧ x < off r + 64 then rowByte a off r x else t.byte x := by
  rw [Tile.stores_byte, length_leBytes]
  split
  next hin => exact getD_leBytes _ (by omega)
  next => rfl

theorem Tile.stores_keeps (t : Tile) (off : Nat) (bs : List Byte) (w : Bool) :
    (t.stores off bs w).acc = t.acc ∧ (t.stores off bs w).threads = t.threads ∧ (t.stores off bs w).portFree = t.portFree := by
  have hcount : (t.countFixes (partWords off bs.length)).acc = t.acc ∧ (t.countFixes (partWords off bs.length)).threads = t.threads ∧
      (t.countFixes (partWords off bs.length)).portFree = t.portFree := by
    unfold Tile.countFixes
    split <;> exact ⟨rfl, rfl, rfl⟩
  unfold Tile.stores
  cases w <;> exact hcount

/-- What stands after the first `n` rows: the bytes of each row that is stored and that no later one covers, and a carry error where one is not. -/
structure Ctx.RowsStored (q : Ctx) (a : Acc) (off : Nat → Nat) (w : Nat → Bool) (n : Nat) (s : State) (t : Tile) : Prop where
  reg : ∀ b, b ≠ Reg.TIL_CARRY_ERR (keyDie q.k) → s.reg b = q.s.reg b
  tick : s.tick.guard = q.s.tick.guard ∧ s.tick.parity = q.s.tick.parity
  tiles : s.tiles = q.s.tiles
  same : (∀ r < n, q.s.puts (w r)) → s = q.s
  shown : (∃ r < n, ¬ q.s.puts (w r)) → flag (s.reg (Reg.TIL_CARRY_ERR (keyDie q.k))) 31 = true
  inside : ∀ r < n, q.s.puts (w r) → ∀ x, off r ≤ x ∧ x < off r + 64 →
    (∀ p < n, r < p → q.s.puts (w p) → ¬ (off p ≤ x ∧ x < off p + 64)) → t.byte x = rowByte a off r x
  outside : ∀ x, (∀ r < n, q.s.puts (w r) → ¬ (off r ≤ x ∧ x < off r + 64)) → t.byte x = q.t.byte x
  core : t.acc = q.t.acc ∧ t.threads = q.t.threads ∧ t.portFree = q.t.portFree

variable {offs : Nat → Nat} {ws : Nat → Bool} {n : Nat}

/-- A row through the closed write range adds its carry error. -/
theorem Ctx.RowsStored.guarded (h : q.RowsStored a offs ws n s t) (hput : ¬ q.s.puts (ws n)) {window : Nat} (hwin : window < 8) :
    q.RowsStored a offs ws (n + 1) (s.carryError q.k window 0x04) t := by
  obtain ⟨hreg, ⟨hguard, hparity⟩, htiles, -, -, hin, hout, hcore⟩ := h
  have hshown := (s.carryError_shown q.k hwin (show 0x04 < 256 by decide)).1
  refine ⟨fun b hb => (s.carryError_reg_other q.k window _ hb).trans (hreg b hb), ?_, (State.carryError_tiles ..).trans htiles,
    fun hall => absurd (hall n (Nat.lt_succ_self n)) hput, fun _ => hshown, fun r hr hr' x hx hlater => ?_, fun x hnone => ?_, hcore⟩
  · obtain ⟨hg, hp⟩ := s.carryError_tick q.k window 0x04
    exact ⟨hg.trans hguard, hp.trans hparity⟩
  · have hrn : r < n := Nat.lt_of_le_of_ne (Nat.le_of_lt_succ hr) fun he => hput (he ▸ hr')
    exact hin r hrn hr' x hx fun p hp => hlater p (Nat.lt_succ_of_lt hp)
  · exact hout x fun r hr => hnone r (Nat.lt_succ_of_lt hr)

/-- A row that is stored covers what stood at its place. -/
theorem Ctx.RowsStored.stored (h : q.RowsStored a offs ws n s t) (hput : q.s.puts (ws n)) :
    q.RowsStored a offs ws (n + 1) s (t.stores (offs n) (leBytes 64 (accRow a n).toNat) (ws n)) := by
  obtain ⟨hreg, htick, htiles, hsame, hshown, hin, hout, hacc, hthreads, hport⟩ := h
  obtain ⟨hacc', hthreads', hport'⟩ := t.stores_keeps (offs n) (leBytes 64 (accRow a n).toNat) (ws n)
  refine ⟨hreg, htick, htiles, fun hall => hsame fun r hr => hall r (Nat.lt_succ_of_lt hr), ?_, fun r hr hr' x hx hlater => ?_, fun x hnone => ?_,
    hacc'.trans hacc, hthreads'.trans hthreads, hport'.trans hport⟩
  · rintro ⟨r, hr, hr'⟩
    exact hshown ⟨r, Nat.lt_of_le_of_ne (Nat.le_of_lt_succ hr) fun he => hr' (he ▸ hput), hr'⟩
  · rw [Tile.stores_row_byte]
    rcases Nat.lt_or_eq_of_le (Nat.le_of_lt_succ hr) with hlt | rfl
    · rw [if_neg (hlater n (Nat.lt_succ_self n) hlt hput)]
      exact hin r hlt hr' x hx fun p hp => hlater p (Nat.lt_succ_of_lt hp)
    · exact if_pos hx
  · rw [Tile.stores_row_byte, if_neg (hnone n (Nat.lt_succ_self n) hput)]
    exact hout x fun r hr => hnone r (Nat.lt_succ_of_lt hr)

/-- The rows of an access whose addresses lead into the tile. -/
theorem Ctx.rowsStored (q : Ctx) (a : Acc) {ea : Nat} (ha : ea % 64 = 0) {m : Nat} (hat : ∀ r < m, q.s.localAt q.k (ea + 64 * r) true = .at_ (offs r) (ws r))
    (hn : n ≤ m) : q.RowsStored a offs ws n (q.storeRows a ea (List.range n) q.s q.t).1 (q.storeRows a ea (List.range n) q.s q.t).2 := by
  induction n with
  | zero =>
    exact ⟨fun _ _ => rfl, ⟨rfl, rfl⟩, rfl, fun _ => rfl, fun ⟨_, h, _⟩ => absurd h (Nat.not_lt_zero _), fun _ h => absurd h (Nat.not_lt_zero _),
      fun _ _ => rfl, rfl, rfl, rfl⟩
  | succ n ih =>
    have hrows := ih (Nat.le_of_succ_le hn)
    rw [List.range_succ, Ctx.storeRows_append]
    generalize (q.storeRows a ea (List.range n) q.s q.t).1 = s at hrows ⊢
    generalize (q.storeRows a ea (List.range n) q.s q.t).2 = t at hrows ⊢
    have hplace := (State.localAt_congr hrows.reg hrows.tick.2 (ea + 64 * n) true).trans (hat n hn)
    have haligned : (ea + 64 * n) % 64 = 0 := by omega
    have hputs : s.puts (ws n) ↔ q.s.puts (ws n) := by rw [State.puts, hrows.tick.1, State.puts]
    unfold Ctx.storeRows
    by_cases hput : q.s.puts (ws n)
    · rw [Ctx.store_row hplace haligned (hputs.2 hput) (length_leBytes ..)]
      exact hrows.stored hput
    · rw [Ctx.store_row_guarded hplace haligned (mt hputs.1 hput)]
      exact hrows.guarded hput (s.copyWin_lt (keyDie q.k) (offs n))

end

end Sys2Proof.Machine

namespace Sys2Proof.Machine

/-! ## 1 KiB accesses (R77, R482) -/

section
variable {q : Ctx} {ea : Nat} {st : Bool}

theorem Ctx.accRows_any (q : Ctx) (ea : Nat) (st : Bool) (code : Nat) :
    (q.accRows ea st).any (fun l => l == .bad code) = true ↔ ∃ r < 16, q.s.localAt q.k (ea + 64 * r) st = .bad code := by
  simp only [Ctx.accRows, List.any_map, List.any_eq_true, List.mem_range, Function.comp_apply, beq_iff_eq]

/-- The faults of a 1 KiB access in the order of R482. -/
theorem Ctx.accFault_addr (h : (∃ r < 16, q.s.localAt q.k (ea + 64 * r) st = .bad 4) ∨ 2 ^ 20 ≤ ea % 2 ^ 20 + 1023) :
    accFault (q.accRows ea st) ea = some 4 := by
  refine if_pos ?_
  rw [Bool.or_eq_true, decide_eq_true_eq, Ctx.accRows_any]
  exact h

theorem Ctx.accFault_carry (h4 : ¬ ∃ r < 16, q.s.localAt q.k (ea + 64 * r) st = .bad 4) (hrange : ea % 2 ^ 20 + 1023 < 2 ^ 20)
    (h5 : ∃ r < 16, q.s.localAt q.k (ea + 64 * r) st = .bad 5) : accFault (q.accRows ea st) ea = some 5 := by
  refine (if_neg ?_).trans (if_pos ((q.accRows_any ea st 5).2 h5))
  rw [Bool.or_eq_true, decide_eq_true_eq, Ctx.accRows_any]
  exact not_or.2 ⟨h4, Nat.not_le_of_lt hrange⟩

theorem Ctx.accFault_rest (h4 : ¬ ∃ r < 16, q.s.localAt q.k (ea + 64 * r) st = .bad 4) (hrange : ea % 2 ^ 20 + 1023 < 2 ^ 20)
    (h5 : ¬ ∃ r < 16, q.s.localAt q.k (ea + 64 * r) st = .bad 5) : accFault (q.accRows ea st) ea = if ea % 64 ≠ 0 then some 3 else none := by
  refine (if_neg ?_).trans (if_neg fun h => h5 ((q.accRows_any ea st 5).1 h))
  rw [Bool.or_eq_true, decide_eq_true_eq, Ctx.accRows_any]
  exact not_or.2 ⟨h4, Nat.not_le_of_lt hrange⟩

/-- An access whose rows all lead into the tile meets no fault at issue. -/
theorem Ctx.accFault_none {off : Nat → Nat} {w : Nat → Bool} (hat : ∀ r < 16, q.s.localAt q.k (ea + 64 * r) st = .at_ (off r) (w r)) (ha : ea % 64 = 0)
    (hrange : ea % 2 ^ 20 + 1023 < 2 ^ 20) : accFault (q.accRows ea st) ea = none := by
  have hgood : ∀ code, ¬ ∃ r < 16, q.s.localAt q.k (ea + 64 * r) st = .bad code := fun code ⟨r, hr, hbad⟩ => by
    rw [hat r hr] at hbad
    cases hbad
  rw [Ctx.accFault_rest (hgood 4) hrange (hgood 5), if_neg (not_not.2 ha)]

/-- The body of AST. -/
def Ctx.astEffect (q : Ctx) : Effect :=
  match accFault (q.accRows q.ea true) q.ea with
  | some code => .fault code (q.ea % 2 ^ 20)
  | none =>
    let r := q.storeRows (q.t.acc.get 0 q.f.srcb.toNat) q.ea (List.range 16) q.s q.t
    .done r.1 { r.2 with stored := q.c + 16 } q.x none

/-- The words of the rows of an ALD. -/
def Ctx.aldOffs (q : Ctx) : List Nat := (q.accRows q.ea false).map (fun l => match l with | .at_ o _ => o | .bad _ => 0)

/-- The core after an ALD of `v`. -/
def Ctx.loadsAcc (q : Ctx) (ws : List Nat) (v : Acc) : Tile :=
  let t := q.t.countFixes ws
  { t with
    acc := t.acc.set 0 q.f.dest.toNat v, accBad := t.accBad.set false q.f.dest.toNat false, accFrom := t.accFrom.set 0 q.f.dest.toNat (q.c + 22) }

theorem Ctx.loadsAcc_acc (q : Ctx) (ws : List Nat) (v : Acc) : (q.loadsAcc ws v).acc = (q.t.countFixes ws).acc.set 0 q.f.dest.toNat v := rfl
theorem Ctx.loadsAcc_sram (q : Ctx) (ws : List Nat) (v : Acc) : (q.loadsAcc ws v).sram = (q.t.countFixes ws).sram := by rw [Ctx.loadsAcc]

/-- The core of an ALD that meets an uncorrectable word. -/
def Ctx.breaksAcc (q : Ctx) : Tile := { q.t with acc := q.t.acc.set 0 q.f.dest.toNat (Config.brokenAcc q.s.draws) }

theorem Ctx.breaksAcc_fields (q : Ctx) : q.breaksAcc.sram = q.t.sram ∧ q.breaksAcc.threads = q.t.threads ∧ (∀ i, q.breaksAcc.sys i = q.t.sys i) ∧
    q.breaksAcc.acc = q.t.acc.set 0 q.f.dest.toNat (Config.brokenAcc q.s.draws) := ⟨rfl, rfl, fun _ => rfl, rfl⟩

/-- The body of ALD. -/
def Ctx.aldEffect (q : Ctx) : Effect :=
  match accFault (q.accRows q.ea false) q.ea with
  | some code => .fault code (q.ea % 2 ^ 20)
  | none =>
    match q.t.badWord (q.aldOffs.flatMap (fun o => wordsOf o 64)) with
    | some w => .crash q.s.drawn q.breaksAcc 0x10 (8 * w)
    | none => .done q.s (q.loadsAcc (q.aldOffs.flatMap (fun o => wordsOf o 64)) (accOfRows (q.aldOffs.map (fun o => ofBytes (q.t.bytes o 64))))) q.x none

theorem exec_ast (u : Issue) (f : Fields) (s : State) : exec (.ast u f) s = .next (s.issue u f 4 0x10 Ctx.astEffect) := rfl
theorem exec_ald (u : Issue) (f : Fields) (s : State) : exec (.ald u f) s = .next (s.issue u f 4 0x11 Ctx.aldEffect) := rfl

theorem Ctx.ast_faults {code : Nat} (h : accFault (q.accRows q.ea true) q.ea = some code) : q.astEffect = .fault code (q.ea % 2 ^ 20) := by
  rw [Ctx.astEffect, h]

theorem Ctx.ald_faults {code : Nat} (h : accFault (q.accRows q.ea false) q.ea = some code) : q.aldEffect = .fault code (q.ea % 2 ^ 20) := by
  rw [Ctx.aldEffect, h]

theorem Ctx.ast_stores (h : accFault (q.accRows q.ea true) q.ea = none) {s : State} {t : Tile}
    (hrows : q.storeRows (q.t.acc.get 0 q.f.srcb.toNat) q.ea (List.range 16) q.s q.t = (s, t)) :
    q.astEffect = .done s { t with stored := q.c + 16 } q.x none := by
  rw [Ctx.astEffect, h]
  dsimp only
  rw [hrows]

theorem Ctx.aldOffs_eq {off : Nat → Nat} {w : Nat → Bool} (hat : ∀ r < 16, q.s.localAt q.k (q.ea + 64 * r) false = .at_ (off r) (w r)) :
    q.aldOffs = (List.range 16).map off := by
  rw [Ctx.aldOffs, Ctx.accRows, List.map_map]
  refine List.map_congr_left fun r hr => ?_
  rw [Function.comp_apply, hat r (List.mem_range.1 hr)]

theorem Ctx.ald_loads {off : Nat → Nat} {n : Nat} (h : accFault (q.accRows q.ea false) q.ea = none) (hoffs : q.aldOffs = (List.range n).map off)
    (hbad : q.t.badWord (((List.range n).map off).flatMap (fun o => wordsOf o 64)) = none) :
    q.aldEffect = .done q.s (q.loadsAcc (((List.range n).map off).flatMap (fun o => wordsOf o 64))
      (accOfRows ((List.range n).map (fun r => ofBytes (q.t.bytes (off r) 64))))) q.x none := by
  rw [Ctx.aldEffect, h, hoffs]
  dsimp only
  rw [hbad, List.map_map]
  rfl

theorem Ctx.ald_crashes {off : Nat → Nat} {n x : Nat} (h : accFault (q.accRows q.ea false) q.ea = none) (hoffs : q.aldOffs = (List.range n).map off)
    (hbad : q.t.badWord (((List.range n).map off).flatMap (fun o => wordsOf o 64)) = some x) :
    q.aldEffect = .crash q.s.drawn q.breaksAcc 0x10 (8 * x) := by
  rw [Ctx.aldEffect, h, hoffs]
  dsimp only
  rw [hbad]

/-- The body of MZERO. -/
def Ctx.zeroesAcc (q : Ctx) : Tile :=
  { q.t with
    acc := q.t.acc.set 0 q.f.dest.toNat 0, accBad := q.t.accBad.set false q.f.dest.toNat false,
    accFrom := q.t.accFrom.set 0 q.f.dest.toNat (max (q.t.accFrom.get 0 q.f.dest.toNat) (q.c + 1)) }

theorem Ctx.zeroesAcc_acc (q : Ctx) : q.zeroesAcc.acc = q.t.acc.set 0 q.f.dest.toNat 0 := by rw [Ctx.zeroesAcc]
theorem Ctx.zeroesAcc_sram (q : Ctx) : q.zeroesAcc.sram = q.t.sram := by rw [Ctx.zeroesAcc]

theorem exec_mzero (u : Issue) (f : Fields) (s : State) :
    exec (.mzero u f) s = .next (s.issue u f 4 0x12 (fun q => .done q.s q.zeroesAcc q.x none)) := rfl

end

theorem Tile.countFixes_memory (t : Tile) (ws : List Nat) : (t.countFixes ws).sram = t.sram ∧ (t.countFixes ws).acc = t.acc := by
  unfold Tile.countFixes
  split <;> exact ⟨rfl, rfl⟩

theorem Tile.badWord_flatMap (t : Tile) (off : Nat → Nat) (n : Nat) :
    t.badWord (((List.range n).map off).flatMap (fun o => wordsOf o 64)) = none ↔ ∀ r < n, t.badWord (wordsOf (off r) 64) = none := by
  simp only [Tile.badWord, List.find?_eq_none, List.mem_flatMap, List.mem_map, List.mem_range]
  exact ⟨fun h r hr w hw => h w ⟨_, ⟨r, hr, rfl⟩, hw⟩, fun h w ⟨_, ⟨r, hr, he⟩, hw⟩ => h r hr w (he ▸ hw)⟩

theorem accRow_accOfRows (g : Nat → VReg) {r : Nat} (hr : r < 16) : accRow (accOfRows ((List.range 16).map g)) r = g r := by
  apply BitVec.eq_of_toNat_eq
  rw [accRow, BitVec.toNat_ofNat, accOfRows, part_ofNat_packNat _ (by omega), List.map_map, List.getD_eq_getElem?_getD, List.getElem?_map,
    List.getElem?_range hr]
  exact Nat.mod_eq_of_lt (g r).isLt

/-! ## The accumulator instructions (R43, R74, R77) -/

section
variable {s : State} {u : Issue} {f : Fields}

/-- AST and ALD hold the core port for their sixteen cycles (R43). -/
theorem State.booked_port (s : State) (u : Issue) {port : Nat} (h : 1 < port) : (s.booked u port).portFree = s.cycleOf u + port := by
  have hwait : ∀ (x : Tile) n, (x.addWait n).portFree = x.portFree := fun x n => by unfold Tile.addWait; split <;> rfl
  unfold State.booked Tile.issued
  dsimp only
  rw [if_neg (Nat.not_le_of_lt h)]
  split
  · split
    · exact hwait ..
    · rfl
  · rfl

/-- AST whose rows lead into the tile. -/
theorem ast_done {off : Nat → Nat} {w : Nat → Bool} (h : s.clear u f 4 0x10 = true) (ha : s.ea u f % 64 = 0)
    (hat : ∀ r < 16, s.localAt u.tile.key (s.ea u f + 64 * r) true = .at_ (off r) (w r)) (hrange : s.ea u f % 2 ^ 20 + 1023 < 2 ^ 20) :
    let k := u.tile.key
    let put := fun r => w r = false ∨ s.tick.guard = false
    let holds := fun r x => off r ≤ x ∧ x < off r + 64
    ∃ t : State, exec (.ast u f) s = .next t ∧ (∀ j, j ≠ k → t.tile j = s.tile j) ∧ sameRegisters (s.at_ u) (t.at_ u) ∧
      goesOn (s.at_ u) (t.at_ u) ∧ ((∀ r < 16, put r) → sameBesideTiles s t) ∧
      (∀ r < 16, put r → ∀ x, holds r x → (∀ q < 16, r < q → put q → ¬ holds q x) →
        (t.tile k).byte x = BitVec.ofNat 8 ((accRow ((s.tile k).acc.get 0 f.srcb.toNat) r).toNat / 2 ^ (8 * (x - off r)))) ∧
      (∀ x, (∀ r < 16, put r → ¬ holds r x) → (t.tile k).byte x = (s.tile k).byte x) ∧
      ((∃ r < 16, ¬ put r) → flag (t.reg (Reg.TIL_CARRY_ERR u.tile.die)) 31 = true) ∧
      (t.tile k).acc = (s.tile k).acc ∧ (t.tile k).portFree = s.cycleOf u + 16 := by
  have hbooked := s.booked_books u (opPort 4 0x10 f)
  obtain ⟨hsram, hacc, -⟩ := hbooked.fields
  have hport : (s.ctxOf u f 4 0x10).t.portFree = s.cycleOf u + 16 := s.booked_port u (show 1 < opPort 4 0x10 f from (by decide : 1 < 16))
  have hplace := s.ctxOf_samePlace u f 4 0x10
  have hrows := Ctx.rowsStored (s.ctxOf u f 4 0x10) ((s.tile u.tile.key).acc.get 0 f.srcb.toNat) ha hat (Nat.le_refl 16)
  generalize hr : (s.ctxOf u f 4 0x10).storeRows ((s.tile u.tile.key).acc.get 0 f.srcb.toNat) (s.ea u f) (List.range 16) (s.ctxOf u f 4 0x10).s
    (s.ctxOf u f 4 0x10).t = r at hrows
  have hstores : (s.ctxOf u f 4 0x10).astEffect = .done r.1 { r.2 with stored := s.cycleOf u + 16 } (s.ctxOf u f 4 0x10).x none :=
    Ctx.ast_stores (q := s.ctxOf u f 4 0x10) (Ctx.accFault_none hat ha hrange) (by rw [← hacc] at hr; exact hr)
  obtain ⟨s', t'⟩ := r
  obtain ⟨-, -, htiles, hsame, hshown, hin, hout, ⟨hcacc, -, hcport⟩⟩ := hrows
  refine ⟨_, (exec_ast u f s).trans (congrArg _ (issue_movesOn h hstores hplace)), State.movedOn_others htiles _ _ _,
    State.movedOn_registers ⟨rfl, rfl, rfl⟩, State.movedOn_goesOn hplace, fun hall => ?_, ?_⟩
  · exact (congrArg (fun x : State => { x with tiles := s.tiles }) (hsame hall) :)
  · rw [State.tile_movedOn]
    refine ⟨hin, fun x hnone => (hout x hnone).trans (Tile.byte_congr hsram x), fun hnone => ?_, hcacc.trans hacc, hcport.trans hport⟩
    rw [← TileId.keyDie_key u.tile]
    exact hshown hnone

/-- What ALD and MZERO leave of a core: its bookkeeping, its counts and its accumulator apart, all. -/
theorem accDone_of_body {fn : Nat} {body : Ctx → Effect} {b : Tile} {m : SMap Acc} {v : Acc} (h : s.clear u f 4 fn = true)
    (hbody : body (s.ctxOf u f 4 fn) = .done s b (s.ctxOf u f 4 fn).x none) (hsram : b.sram = (s.tile u.tile.key).sram)
    (hacc : b.acc = m.set 0 f.dest.toNat v) (hm : m = (s.tile u.tile.key).acc) :
    let t := s.issue u f 4 fn body
    sameBesideTiles s t ∧ (∀ j, j ≠ u.tile.key → t.tile j = s.tile j) ∧ (t.tile u.tile.key).sram = (s.tile u.tile.key).sram ∧
      sameRegisters (s.at_ u) (t.at_ u) ∧
      (∀ n, (t.tile u.tile.key).acc.get 0 n = if n = f.dest.toNat then v else (s.tile u.tile.key).acc.get 0 n) ∧
      (∀ n, (t.tile u.tile.key).accReadable n = b.accReadable n) ∧ goesOn (s.at_ u) (t.at_ u) := by
  have hplace := s.ctxOf_samePlace u f 4 fn
  dsimp only
  rw [issue_movesOn h hbody hplace, State.tile_movedOn]
  refine ⟨rfl, State.movedOn_others rfl _ _ _, hsram, State.movedOn_registers ⟨rfl, rfl, rfl⟩, fun n => ?_, fun _ => rfl, State.movedOn_goesOn hplace⟩
  subst hm
  exact (congrArg (fun m => SMap.get 0 m n) hacc).trans (SMap.get_set ..)

theorem mzero_done (h : s.clear u f 4 0x12 = true) : ∃ t : State, exec (.mzero u f) s = .next t ∧
    let a := s.tile u.tile.key
    let b := t.tile u.tile.key
    sameBesideTiles s t ∧ (∀ j, j ≠ u.tile.key → t.tile j = s.tile j) ∧ b.sram = a.sram ∧ sameRegisters (s.at_ u) (t.at_ u) ∧
    (∀ n, b.acc.get 0 n = if n = f.dest.toNat then 0 else a.acc.get 0 n) ∧ goesOn (s.at_ u) (t.at_ u) := by
  obtain ⟨hsram, hacc, -⟩ := (s.booked_books u (opPort 4 0x12 f)).fields
  obtain ⟨hbeside, hothers, hmem, hregs, hread, -, hgoes⟩ := accDone_of_body (b := (s.ctxOf u f 4 0x12).zeroesAcc) (v := 0)
    (body := fun q => .done q.s q.zeroesAcc q.x none) h rfl ((Ctx.zeroesAcc_sram _).trans hsram)
    (Ctx.zeroesAcc_acc _) hacc
  exact ⟨_, exec_mzero u f s, hbeside, hothers, hmem, hregs, hread, hgoes⟩

theorem aget_done (h : s.clear u f 4 0x13 = true) : ∃ t : State, exec (.aget u f) s = .next t ∧
    vectorDone s t u f.dest.toNat (accRow ((s.tile u.tile.key).acc.get 0 f.srca.toNat) f.imm.toNat) 2 0 := by
  have hbooked := s.booked_books u (opPort 4 0x13 f)
  have himm : f.bits 3 0 = f.imm.toNat :=
    (Fields.bits_zero f 3).trans (Nat.mod_eq_of_lt (State.legal_imm_lt (n := 4) (State.clear_legal h).1 (show opSpec 4 0x13 f = some _ from rfl) rfl))
  rw [← hbooked.fields.2.1, ← himm]
  exact ⟨_, rfl, vectorDone_of_core h (hbooked.but [13]) ((hbooked.sys 13 (by decide) (by decide)).trans (by simp)) rfl⟩

/-- An ALD whose rows lead into the tile and can be read. -/
theorem ald_done {off : Nat → Nat} {w : Nat → Bool} (h : s.clear u f 4 0x11 = true) (ha : s.ea u f % 64 = 0)
    (hat : ∀ r < 16, s.localAt u.tile.key (s.ea u f + 64 * r) false = .at_ (off r) (w r)) (hrange : s.ea u f % 2 ^ 20 + 1023 < 2 ^ 20)
    (hgood : ∀ r < 16, (s.tile u.tile.key).badWord (wordsOf (off r) 64) = none) : ∃ t : State, exec (.ald u f) s = .next t ∧
      let a := s.tile u.tile.key
      let b := t.tile u.tile.key
      sameBesideTiles s t ∧ (∀ j, j ≠ u.tile.key → t.tile j = s.tile j) ∧ b.sram = a.sram ∧ sameRegisters (s.at_ u) (t.at_ u) ∧
      (∀ n, n ≠ f.dest.toNat → b.acc.get 0 n = a.acc.get 0 n) ∧
      (∀ r < 16, accRow (b.acc.get 0 f.dest.toNat) r = ofBytes (a.bytes (off r) 64)) ∧
      s.cycleOf u + 22 ≤ b.accReadable f.dest.toNat ∧ goesOn (s.at_ u) (t.at_ u) := by
  have hbooked := s.booked_books u (opPort 4 0x11 f)
  obtain ⟨hsram, hacc, -⟩ := hbooked.fields
  have hbad := (Tile.badWord_flatMap (s.booked u (opPort 4 0x11 f)) off 16).2 fun r hr => (hbooked.badWord _).trans (hgood r hr)
  have hbody := Ctx.ald_loads (q := s.ctxOf u f 4 0x11) (Ctx.accFault_none hat ha hrange) (Ctx.aldOffs_eq hat) hbad
  obtain ⟨hcsram, hcacc⟩ := Tile.countFixes_memory (s.ctxOf u f 4 0x11).t (((List.range 16).map off).flatMap (fun o => wordsOf o 64))
  obtain ⟨hbeside, hothers, hmem, hregs, hread, hready, hgoes⟩ := accDone_of_body h hbody ((Ctx.loadsAcc_sram ..).trans (hcsram.trans hsram)) (Ctx.loadsAcc_acc ..) (hcacc.trans hacc)
  refine ⟨_, exec_ald u f s, hbeside, hothers, hmem, hregs, fun n hn => (hread n).trans (if_neg hn), fun r hr => ?_, ?_, hgoes⟩
  · rw [hread, if_pos rfl, accRow_accOfRows _ hr, State.ctxOf_bytes]
  · rw [hready]
    exact Nat.le_trans (Nat.le_of_eq (SMap.get_set_same ..).symm) (Nat.le_max_right _ _)

/-- A fault of the issuing thread on a core `b`: the thread stops with its registers, memory and accumulators are `b`'s, and a first fault is recorded. -/
theorem raise_leaves {b : Tile} (s' : State) {code addr : Nat} (hthreads : b.threads = (s.tile u.tile.key).threads) :
    let t := s'.raise u.tile.key b u.thread (s.at_ u).pc code addr
    (t.at_ u).state = .faulted ∧ sameRegisters (s.at_ u) (t.at_ u) ∧ (t.tile u.tile.key).sram = b.sram ∧ (t.tile u.tile.key).acc = b.acc ∧
      (flag (b.sys 7) 31 = false → (t.tile u.tile.key).sys 7 = BitVec.ofNat 32 (0x80000000 + code)) := by
  have hseven : u.thread.val ≠ 7 := by omega
  have hthread : b.thread u.thread = s.at_ u := by rw [Tile.thread, hthreads, State.at_, Tile.thread]
  obtain ⟨xs, m, hw, hraised⟩ := b.raised_eq u.thread (s.at_ u).pc code addr
  dsimp only
  rw [State.at_, State.tile_raise_same, Tile.thread_raised _ hseven, if_pos rfl, hthread]
  refine ⟨rfl, ⟨rfl, rfl, rfl⟩, Tile.sram_raised .., by rw [hraised], fun hnone => ?_⟩
  rw [Tile.sys_raised, Tile.sys_recordFault, if_neg (by rw [hnone]; exact Bool.false_ne_true), if_neg (by decide), if_neg (by decide), if_pos rfl]

/-- An ALD that meets an uncorrectable word: the fault is a hardware fault, and only its accumulator may have changed (R77). -/
theorem ald_broken {off : Nat → Nat} {w : Nat → Bool} (h : s.legal u f 4 0x11 = true) (ha : s.ea u f % 64 = 0)
    (hat : ∀ r < 16, s.localAt u.tile.key (s.ea u f + 64 * r) false = .at_ (off r) (w r)) (hrange : s.ea u f % 2 ^ 20 + 1023 < 2 ^ 20)
    (hbad : ∃ r < 16, (s.tile u.tile.key).badWord (wordsOf (off r) 64) ≠ none) : ∃ t : State, exec (.ald u f) s = .next t ∧
      (t.at_ u).state = .faulted ∧ sameRegisters (s.at_ u) (t.at_ u) ∧ (t.tile u.tile.key).sram = (s.tile u.tile.key).sram ∧
      (∀ n, n ≠ f.dest.toNat → (t.tile u.tile.key).acc.get 0 n = (s.tile u.tile.key).acc.get 0 n) ∧
      (flag ((s.tile u.tile.key).sys 7) 31 = false → (t.tile u.tile.key).sys 7 = 0x80000010) := by
  have hbooked := s.booked_books u (opPort 4 0x11 f)
  obtain ⟨hsram, hacc, -⟩ := hbooked.fields
  have hword : (s.booked u (opPort 4 0x11 f)).badWord (((List.range 16).map off).flatMap (fun o => wordsOf o 64)) ≠ none := fun hnone => by
    obtain ⟨r, hr, hbad⟩ := hbad
    exact hbad ((hbooked.badWord _).symm.trans ((Tile.badWord_flatMap _ off 16).1 hnone r hr))
  obtain ⟨x, hx⟩ := Option.ne_none_iff_exists'.1 hword
  have hbody := Ctx.ald_crashes (q := s.ctxOf u f 4 0x11) (Ctx.accFault_none hat ha hrange) (Ctx.aldOffs_eq hat) hx
  refine ⟨_, (exec_ald u f s).trans (congrArg _ (issue_of_body h hbody)), ?_⟩
  obtain ⟨hbsram, hbthreads, hbsys, hbacc⟩ := (s.ctxOf u f 4 0x11).breaksAcc_fields
  obtain ⟨hstate, hregs, hmem, hcells, hcode⟩ := raise_leaves (s := s) (u := u) (s.drawn) (code := 0x10) (addr := 8 * x) (hbthreads.trans hbooked.threads)
  refine ⟨hstate, hregs, hmem.trans (hbsram.trans hsram), fun n hn => ?_, fun hnone => hcode ?_⟩
  · refine (congrArg (fun m => SMap.get 0 m n) (hcells.trans hbacc)).trans ((SMap.get_set_other _ _ _ hn).trans ?_)
    exact congrArg (fun m => SMap.get 0 m n) hacc
  · rw [hbsys]
    exact (congrArg (flag · 31) (hbooked.sys 7 (by decide) (by decide))).trans hnone

end

/-- The faults of AST and ALD at issue. -/
theorem acc_faults {s : State} {u : Issue} {f : Fields} {fn : Nat} {st : Bool} {i : Issue → Fields → Instr} {body : Ctx → Effect}
    (hexec : exec (i u f) s = .next (s.issue u f 4 fn body))
    (hbody : ∀ q : Ctx, ∀ code, accFault (q.accRows q.ea st) q.ea = some code → body q = .fault code (q.ea % 2 ^ 20)) (h : s.legal u f 4 fn = true) :
    let bad := fun code => ∃ r < 16, s.localAt u.tile.key (s.ea u f + 64 * r) st = .bad code
    let faults := fun code => ∃ t : State, exec (i u f) s = .next t ∧ faultDone s t u code (s.ea u f)
    (bad 4 ∨ 2 ^ 20 ≤ s.ea u f % 2 ^ 20 + 1023 → faults 4) ∧
      (¬ bad 4 → s.ea u f % 2 ^ 20 + 1023 < 2 ^ 20 → (bad 5 → faults 5) ∧ (¬ bad 5 → s.ea u f % 64 ≠ 0 → faults 3)) := by
  have hfaults : ∀ code, accFault ((s.ctxOf u f 4 fn).accRows (s.ea u f) st) (s.ea u f) = some code →
      ∃ t : State, exec (i u f) s = .next t ∧ faultDone s t u code (s.ea u f) := fun code hcode =>
    ⟨_, hexec, faultDone_offset (faultDone_of_body h (hbody _ code hcode))⟩
  exact ⟨fun h4 => hfaults 4 (Ctx.accFault_addr (q := s.ctxOf u f 4 fn) h4), fun h4 hrange =>
    ⟨fun h5 => hfaults 5 (Ctx.accFault_carry (q := s.ctxOf u f 4 fn) h4 hrange h5),
      fun h5 ha => hfaults 3 ((Ctx.accFault_rest (q := s.ctxOf u f 4 fn) h4 hrange h5).trans (if_pos ha))⟩⟩

/-- MOP_ARRAY_DONE: the first executing MOP leaves the array (R42). -/
theorem mopArrayDone_done (k : TileId) (s : State) (m : Nat × Nat) (rest : List (Nat × Nat)) (h : (s.tile k.key).mac = m :: rest) :
    ∃ t : State, exec (.mopArrayDone k) s = .next t ∧ sameBesideTiles s t ∧ (∀ j, j ≠ k.key → t.tile j = s.tile j) ∧
      (t.tile k.key).mac = rest ∧ (t.tile k.key).cycle = max (s.tile k.key).cycle (m.2 + 1) ∧
      { t.tile k.key with mac := (s.tile k.key).mac, cycle := (s.tile k.key).cycle } = s.tile k.key := by
  have hexec : exec (.mopArrayDone k) s =
      .next (s.setTile k.key { s.tile k.key with mac := rest, cycle := max (s.tile k.key).cycle (m.2 + 1) }) := by
    change execMopArrayDone k s = _
    unfold execMopArrayDone
    rw [h]
  refine ⟨_, hexec, rfl, fun j hj => ?_, ?_⟩
  · rw [State.tile_setTile, if_neg hj]
  · rw [State.tile_setTile, if_pos rfl]
    exact ⟨rfl, rfl, rfl⟩

/-- The elements of a MOP of `u`. -/
def State.mopElems (s : State) (u : Issue) (f : Fields) (fm : MopFormat) (dec : Bool → Nat → FV) : Nat → Nat → Word × Nat :=
  mopElem fm (dec (flag f.imm 9)) (dec (flag f.imm 10)) ((s.tile u.tile.key).acc.get 0 f.dest.toNat) (flag f.imm 8) (pairBits (s.at_ u) f.srca.toNat)
    (pairBits (s.at_ u) f.srcb.toNat) ((s.at_ u).rv (f.bits 3 0)) (f.bits 5 4) (f.bits 7 6)

/-- The results of a MOP, as its body computes them. -/
def Ctx.mopResults (q : Ctx) (fm : MopFormat) (dec : Bool → Nat → FV) : List (Word × Nat) :=
  mopAcc fm (dec (flag q.f.imm 9)) (dec (flag q.f.imm 10)) (q.t.acc.get 0 q.f.dest.toNat) (flag q.f.imm 8) (pairBits q.x q.f.srca.toNat)
    (pairBits q.x q.f.srcb.toNat) (q.x.rv (q.f.bits 3 0)).toNat (q.f.bits 5 4) (q.f.bits 7 6)

theorem mop_eq (fn : Nat) (fm : MopFormat) (dec : Bool → Nat → FV) (u : Issue) (f : Fields) (s : State) :
    mop fn fm dec dec u f s = s.issue u f 4 fn (fun q => .done q.s
      ((if allFlags (q.mopResults fm dec) = 0 then q.t else q.t.setFlags 0 (allFlags (q.mopResults fm dec))).mopped q.f.dest.toNat fm.cycles q.c
        (BitVec.ofNat 8192 (packNat 32 ((q.mopResults fm dec).map (fun r => r.1.toNat)))) (flag q.f.imm 8)) q.x none) := rfl

theorem mop_done {s : State} {u : Issue} {f : Fields} {fn : Nat} (fm : MopFormat) (dec : Bool → Nat → FV) (h : s.clear u f 4 fn = true) :
    mopDone s (mop fn fm dec dec u f s) u f.dest.toNat fm.cycles (s.mopElems u f fm dec) := by
  have hresults : (s.ctxOf u f 4 fn).mopResults fm dec = (List.range 256).map (fun n => s.mopElems u f fm dec (n / 16) (n % 16)) := by
    rw [Ctx.mopResults, mopAcc_eq, show (s.ctxOf u f 4 fn).t.acc = (s.tile u.tile.key).acc from (s.booked_books u (opPort 4 fn f)).fields.2.1]
    rfl
  rw [mop_eq]
  exact mopDone_of_body h hresults rfl

/-- The six MOPs by operand format (R75). -/
theorem mop_rows : ∀ r ∈ ([(Instr.mopBf16, 0x00, ⟨16, 64, 4, 8, false⟩, fun _ => bf16.decode), (Instr.mopFp16, 0x01, ⟨16, 64, 4, 8, false⟩, fun _ => fp16.decode),
      (Instr.mopMxi8, 0x02, ⟨8, 64, 8, 8, true⟩, fun _ => MxType.decode .int8),
      (Instr.mopMxf8, 0x03, ⟨8, 64, 8, 8, true⟩, fun e => if e then MxType.decode .e5m2 else MxType.decode .e4m3),
      (Instr.mopMxf6, 0x04, ⟨6, 48, 8, 4, true⟩, fun e => if e then MxType.decode .e3m2 else MxType.decode .e2m3),
      (Instr.mopMxf4, 0x05, ⟨4, 64, 16, 8, true⟩, fun _ => MxType.decode .e2m1)] :
      List ((Issue → Fields → Instr) × Nat × MopFormat × (Bool → Nat → FV))),
    ∀ u f s, exec (r.1 u f) s = .next (mop r.2.1 r.2.2.1 r.2.2.2 r.2.2.2 u f s) := by
  have hchoice : ∀ a b : MxType, (fun e : Bool => (if e then a else b).decode) = fun e => if e then a.decode else b.decode := fun a b =>
    funext fun e => by cases e <;> rfl
  simp only [List.forall_mem_cons, List.not_mem_nil, false_imp_iff, implies_true, and_true, ← hchoice]
  exact ⟨fun _ _ _ => rfl, fun _ _ _ => rfl, fun _ _ _ => rfl, fun _ _ _ => rfl, fun _ _ _ => rfl, fun _ _ _ => rfl⟩

/-- Settles O13: `mopDone_of_body` for the outer products, `ast_done`, `ald_done` and `ald_broken` for the 1 KiB accesses, and the order of their faults. -/
theorem matrixClass : Obligations.MatrixClass := by
  unfold Obligations.MatrixClass
  refine ⟨fun r hr u f s h => ⟨_, mop_rows r hr u f s, mop_done r.2.2.1 r.2.2.2 h⟩, ⟨fun u f s off w h ha hat hrange => ast_done h ha hat hrange,
    fun u f s off w h ha hat hrange => ⟨ald_done h ha hat hrange, ald_broken (State.clear_legal h).1 ha hat hrange⟩, ?_, fun u f s => mzero_done,
    fun u f s => aget_done, ?_⟩⟩
  · simp only [List.forall_mem_cons, List.not_mem_nil, false_imp_iff, implies_true, and_true]
    exact ⟨fun u f s => acc_faults (exec_ast u f s) fun _ _ => Ctx.ast_faults, fun u f s => acc_faults (exec_ald u f s) fun _ _ => Ctx.ald_faults⟩
  · exact fun k s m rest => mopArrayDone_done k s m rest

end Sys2Proof.Machine

namespace Sys2Proof.Machine

/-! ## A weak path whose mark a pending lane move takes back (R184, R205, R348, R349) -/

/-- A lane move that waits for the guard. The model gives the ports of a move no bound: this one names port 2^18 − 1 and the lane of source 5 · 2^16 + 1, and
the lane-status word of these has the key of the tone word of path (0, 0, 1). -/
def strayMove : LaneMove := { why := 0, cls := 0, flue := 0, src := 5 * 2 ^ 16 + 1, dst := 2 ^ 18 - 1, lane := 0, back := true }

theorem strayMove_key : tblKey 1 strayMove.dst 5 strayMove.src = tblKey 2 0 2 1 := by decide

/-- A running module whose entry 0 of port 0 uses path (0, 0, 1), which has been weak twice, while the stray move waits. -/
def strayState : State :=
  { State.reset with
    mode := .running
    hearth := { HearthState.reset with moves := [strayMove] }
    ports := [(0, { HPort.reset with weak := [(1, 2)] })]
    tbl := [(tblKey 2 0 1 0, 0x80002000), (tblKey 2 0 1 2, 0x00100000), (tblKey 4 0 3 144, 0)] }

/-- The third weak window fails the path, a Hearth-plane loss; the teardown makes the move, and its lane state overwrites the mark of the failed path. -/
theorem strayState_mark : ∀ t, exec (.toneWindow 0 0 1 0 0 0) strayState = .next t → flag (t.tblWord (tblKey 2 0 2 1)) 30 = false := by
  have hnext : (match exec (.toneWindow 0 0 1 0 0 0) strayState with
      | .next t => flag (t.tblWord (tblKey 2 0 2 1)) 30
      | _ => true) = false := by decide +kernel
  intro t ht
  rwa [ht] at hnext

/-- Refutes O38: in `strayState` a third weak tone window does not leave the mark of a failed path in the path's word, bit 30 of it being 0. -/
theorem not_emberRounds : ¬ Obligations.EmberRounds := by
  unfold Obligations.EmberRounds
  intro h
  obtain ⟨-, -, -, -, -, -, htone⟩ := h 0 strayState
  obtain ⟨t, hexec, -, -, -, -, -, hweak⟩ := htone 0 1 0 0 0 (by decide) (by decide)
  have hmark : flag (t.tblWord (tblKey 2 0 2 1)) 30 = true := (hweak (by decide) (by decide +kernel)).1
  exact Bool.false_ne_true ((strayState_mark t hexec).symm.trans hmark)

end Sys2Proof.Machine
